-- ==== Sys2Proof/Word.lean ====
section
/-! DEFINITION. The words of the KD-860 and the plain data its commands carry: bytes and 32-bit register words
(R4, R6, R9), the samples of one SAMPLE_PHASE (R136, R142, R174), bus frames (R347, R388, R448, R472), the loop
programs of R197 and the decoded contents of a Keystone image (R515, R517). No effect of any command stands here. -/

namespace Sys2Proof

/-- One byte. -/
abbrev Byte := BitVec 8

/-- One BAR0 register word (R9). -/
abbrev Word := BitVec 32

/-- The value of bytes read in little-endian order (R6). -/
def leNat : List Byte → Nat
  | [] => 0
  | b :: bs => b.toNat + 256 * leNat bs

/-- The `n` low bytes of `v`, least significant first (R6). -/
def leBytes : Nat → Nat → List Byte
  | 0, _ => []
  | n + 1, v => BitVec.ofNat 8 v :: leBytes n (v / 256)

/-- The two's-complement reading of the low `w` bits of `v`. -/
def signed (w v : Nat) : Int :=
  if v % 2 ^ w < 2 ^ (w - 1) then Int.ofNat (v % 2 ^ w) else Int.ofNat (v % 2 ^ w) - Int.ofNat (2 ^ w)

/-- The low `w` bits of an integer, as the unsigned field that stores it. -/
def unsigned (w : Nat) (i : Int) : Nat := (i % Int.ofNat (2 ^ w)).toNat

/-- What every host command carries beside its arguments (R413): the command ring that delivered it, the host's
TAG and the SILENT flag. -/
structure Hdr where
  ring   : Fin 4
  tag    : BitVec 16
  silent : Bool
  deriving DecidableEq, Repr, Inhabited

/-- One modulator input at a SAMPLE_PHASE (R138): the ones of its bit stream in the sinc3 window, weighted as the filter
weights them (p × OSR³), and whether the filter's output stood at a limit of its range for the whole frame (0x6103). -/
structure ModSample where
  ones : Nat
  full : Bool
  deriving DecidableEq, Repr, Inhabited

/-- What the front end latches for one drive (R136, R142): the modulators of two phase currents and of the link voltage,
the three phase-voltage codes, the sinc2 outputs of phases A and B since the tick (R140: the table has no row for the end of
a verdict), and whether TRIPn_N is low at the phase (R79: the table has no row for its rise). -/
structure DriveSample where
  iA  : ModSample
  iB  : ModSample
  vdc : ModSample
  pvA : Nat
  pvB : Nat
  pvC : Nat
  oc  : List (Int × Int)
  tripLow : Bool
  /-- the qualified level of BRKFBn (R284) -/
  brkfb : Bool
  deriving DecidableEq, Repr, Inhabited

/-- The qualified levels of BRKFBn seen over a span (R284 to R287): high, low. -/
structure FbSeen where
  hi : Bool
  lo : Bool
  deriving DecidableEq, Repr, Inhabited

/-- What the front end latches for one stepper (R136): the modulators of the two winding currents, their sinc2 outputs since
the tick (R140), and whether Sn_FLT_N is low. -/
structure StepSample where
  iA : ModSample
  iB : ModSample
  oc : List (Int × Int)
  fltLow : Bool
  deriving DecidableEq, Repr, Inhabited

/-- The latched inputs of one drive: currents and link voltage in Q15 (R138), phase-voltage codes (R142), TRIPn_N low. -/
structure DriveMeas where
  iA  : Int
  iB  : Int
  vdc : Int
  pvA : Nat
  pvB : Nat
  pvC : Nat
  tripLow : Bool
  deriving DecidableEq, Repr, Inhabited

/-- The latched inputs of one stepper: the winding currents in Q15, and Sn_FLT_N low. -/
structure StepMeas where
  iA : Int
  iB : Int
  fltLow : Bool
  deriving DecidableEq, Repr, Inhabited

/-- The SSI transfer of one port in this frame (R174, R176): the word shifted in, the data line low at SAMPLE_PHASE,
and the data line not back high within TOUT. -/
structure SsiSample where
  word      : Nat
  lowAtStart : Bool
  noReturn  : Bool
  deriving DecidableEq, Repr, Inhabited

/-- Successive sinc2 outputs of the two current modulators of channel `c`, the oldest first (R140). -/
structure OcOuts where
  c    : Fin 16
  outs : List (Int × Int)
  deriving DecidableEq, Repr, Inhabited

/-- Everything outside the module that one SAMPLE_PHASE latches (R36): the PWMCLK count at the phase, the drives,
the steppers, the codes that AIN 0 to 23 convert to in this frame (R144), the six die sensors in 0.0625 °C (R156), the
SSI words by port, the reference conversions of converters (R152, R154: 0, 0.125, 0.5 and 0.875 of full scale, four times
each) and what the rotating converter reads from four hold capacitors again (R152). -/
structure Samples where
  time  : BitVec 32
  drives : List DriveSample
  steps  : List StepSample
  ain    : List (List Nat)
  die    : List Int
  ssi    : List SsiSample
  refs   : List (Fin 3 × List Nat)
  again  : List Nat
  deriving DecidableEq, Repr, Inhabited

/-- How a Slalu frame arrived (R349, R350). -/
inductive Carriage where
  /-- a UDP datagram to a port; `plain` is false for a fragment or an IPv6 datagram -/
  | udp (port : BitVec 16) (plain : Bool)
  /-- a CAN frame on controller `k`; `fdf` is false for a classical frame -/
  | can (k : Fin 4) (xid : Bool) (id : BitVec 29) (fdf : Bool)
  /-- the Slalu section of a Hinge frame -/
  | hinge
  deriving DecidableEq, Repr, Inhabited

/-- A CAN frame (R448, R457). -/
structure CanFrame where
  xtd  : Bool
  rtr  : Bool
  fdf  : Bool
  brs  : Bool
  esi  : Bool
  id   : Nat
  dlc  : Nat
  data : List Byte
  deriving DecidableEq, Repr, Inhabited

/-- An Ethernet frame as Lode sees it (R472, R475, R476, R484): addresses, the VLAN tag (VID, PCP) if any, the R-TAG
sequence number if any, the EtherType, the length on the wire from the destination address to the FCS, the bytes
after the EtherType, and whether FCS, length and PCS were good. -/
structure EthFrame where
  dmac    : Nat
  smac    : Nat
  vlan    : Option (Nat × Nat)
  rtag    : Option Nat
  etype   : Nat
  len     : Nat
  payload : List Byte
  good    : Bool
  deriving DecidableEq, Repr, Inhabited

/-- What one gPTP message tells Lode (R481, R483). -/
inductive GptpMsg where
  /-- a Sync: servo offset in ns, rate adjustment in 0.001 ppm, the gPTP time -/
  | sync (offset rate : Int) (now : Nat)
  /-- the best master clock choice: the roles of P1 and P2 as LODE_PTPSTAT codes them -/
  | announce (p1 p2 : Fin 4)
  /-- a peer-delay exchange: the neighbour's frequency offset in 0.01 ppm -/
  | pdelay (ofs : Int)
  deriving DecidableEq, Repr, Inhabited

/-- The element library of R198. -/
inductive ElemKind where
  | pi | pid | leadlag | biquad | ratelim | ramp
  /-- SUM of `n` inputs, 1 to 8 -/
  | sum (n : Nat)
  | clarke | park | dqdec | ipark | svm
  /-- OBS with `n` states, `m` inputs and `p` outputs -/
  | obs (n m p : Nat)
  deriving DecidableEq, Repr, Inhabited

/-- An input reference of an element (R197). -/
inductive ElemSrc where
  /-- latched input word number `w` of the channel -/
  | input (w : Nat)
  /-- the host reference of the channel (speed, torque or position, by number) -/
  | hostRef (k : Nat)
  /-- a configuration word of the channel: a BAR0 offset within its block, low bit and width -/
  | cfgWord (off lo w : Nat)
  /-- the constant 0 -/
  | zero
  /-- 16-bit word `w` of the payload of Slalu session `s` latched at SAMPLE_PHASE (R357) -/
  | slalu (s w : Nat)
  /-- output `out` of element instance `inst` of the same channel -/
  | elem (inst out : Nat)
  deriving DecidableEq, Repr, Inhabited

/-- The part an element plays in a channel, where a rule of the manual names it (R88, R89, R104, R105, R216, R226). -/
inductive ElemRole where
  | none | speedRamp | speedLoop | torqueSum | idLoop | iqLoop | fieldWeak | softLoop | advance | decouple
  | invPark | modulator | model | windA | windB | posLoop
  deriving DecidableEq, Repr, Inhabited

/-- One element instance of a loop program (R197): type, window, rate divisor and offset, input references,
coefficient indices, shift fields, the cycle count the image declares (R201), its part, and the injection point
it is marked as (R226). -/
structure Elem where
  kind     : ElemKind
  post     : Bool
  rate     : Nat
  ofs      : Nat
  ins      : List ElemSrc
  coefs    : List Nat
  shifts   : List Int
  declared : Nat
  role     : ElemRole
  point    : Option Nat
  deriving DecidableEq, Repr, Inhabited

/-- A channel's loop program (R196, R197, R200, R208): the instances in the order they run, the entry lists of the
two windows, the output words as (instance, output), the program length P in instruction words, and the cycles that the
image declares for the supervision counting of the channel (R235). -/
structure Program where
  elems     : List Elem
  entryPre  : List ElemSrc
  entryPost : List ElemSrc
  outs      : List (Nat × Nat)
  words     : Nat
  sup       : Nat
  deriving DecidableEq, Repr, Inhabited

/-- A fallback plan (R39): the set of retired pairs it is for, and the pair of every configured channel. -/
structure Plan where
  lost   : List (Fin 5)
  assign : List (Fin 16 × Fin 5)
  deriving DecidableEq, Repr, Inhabited

/-- The decoded contents of a Keystone image (R515, R517): values of the registers with reset source NVS, the loop
programs and coefficient tables, the pair of each channel, the pairs provisioned for tuning with the cycles declared for
their generator and their capture (R227, R235), the fallback plans and the stepper tables (R242). How Aconafen packs them
into the image is not in the manual. -/
structure Image where
  regs   : List (Nat × Word)
  progs  : List (Fin 16 × Program)
  coefs  : List (Fin 16 × List Int)
  pairOf : List (Fin 16 × Fin 5)
  tuned  : List (Fin 5 × Nat × Nat)
  plans  : List Plan
  tables : List (Fin 8 × List Int)
  deriving DecidableEq, Repr, Inhabited

/-- What happens to one word and its Ward tag on the way from the entry point to a consumer (R367 to R369): bits of the word
that change, bits of the tag that change, and the route key of another datum delivered in its place, whose tag comes with
it. -/
structure Flip where
  bits : Word
  tag  : BitVec 16
  key  : Option (BitVec 16)
  deriving DecidableEq, Repr, Inhabited

/-- The disturbed words, by number, that a consumer finds which may have its datum rebuilt once from its source (R372
classes 3 and 4): at the first check, and in the rebuilt datum. -/
structure TagCheck where
  first : List (Nat × Flip)
  again : List (Nat × Flip)
  deriving DecidableEq, Repr, Inhabited

/-- A disturbed input word of channel c at SAMPLE_PHASE (R372 class 0), and what has happened to the shadow lane's word
while the input is shadowed. -/
structure InputHit where
  c      : Fin 16
  w      : Nat
  flip   : Flip
  shadow : Option Flip
  deriving DecidableEq, Repr, Inhabited

/-- What a tick sees from outside: its phase error against the partner's tick in ns (R49), the sinc2 outputs of the
channels since the last SAMPLE_PHASE (R140), and the disturbed words of the checkpoint section of the Hinge frame (R372
class 6). -/
structure TickSeen where
  phErr : Int
  oc    : List OcOuts
  hinge : List (Fin 16 × Nat × Flip)
  deriving DecidableEq, Repr, Inhabited

/-- A window of Hasp's clock watch (R496): edges of XO and of Flint-B in 1,000 Flint-A cycles. -/
structure ClkWindow where
  xo : Nat
  fb : Nat
  deriving DecidableEq, Repr, Inhabited

/-- What Hasp finds of Flint-B (R494, R496): whether it has stopped, and its edges in the window. -/
structure FlintSeen where
  stopped : Bool
  count   : Nat
  deriving DecidableEq, Repr, Inhabited

/-- The source of a telemetry record (R420, R421). -/
inductive TelSrc where
  | chan (c : Fin 16)
  | capture (k : Fin 5)
  deriving DecidableEq, Repr, Inhabited

/-- The disturbed words that a pair finds when it loads channel `c` (R208, R372, R373): of the newer checkpoint, of the
older one, and of the coefficient table, by index, in the first FABRIC copy and, where it is disturbed too, in the second. -/
structure LoadTags where
  c     : Fin 16
  newer : List (Nat × Flip)
  older : List (Nat × Flip)
  coef  : List (Nat × Flip × Option Flip)
  deriving DecidableEq, Repr, Inhabited

/-- A row that loads a channel (R54, R55): the channel, and the tags that fail at the load. -/
structure ChanLoad where
  c   : Fin 16
  bad : List LoadTags
  deriving DecidableEq, Repr, Inhabited

/-- The fast value of a link, `since` cycles after its BRKn went active (R283). -/
structure BrkSpan where
  n     : Fin 8
  v     : Int
  since : Nat
  deriving DecidableEq, Repr, Inhabited

/-- The qualified level of BRKFBn (R286). -/
structure BrkLevel where
  n     : Fin 8
  level : Bool
  deriving DecidableEq, Repr, Inhabited

/-- A trip value of a link, in steps of DCFS / 256 (R291). -/
structure TripStep where
  n : Fin 8
  v : Nat
  deriving DecidableEq, Repr, Inhabited

/-- What Hasp's self-test of one STO output found (R341). -/
inductive StoSelfTest where
  | pass | openFault | lowStuck | highStuck
  deriving DecidableEq, Repr, Inhabited

end Sys2Proof
end

