-- ==== Sys2Proof/Machine/Mirror.lean ====
section
/-! DEFINITION. The parts of the state that cross Hinge between the modules of a pair (R389), and the Hinge frame itself
as its decoded sections. The rest of the state stands in Machine/State.lean. -/

namespace Sys2Proof.Machine

/-- The compare word of one leg (R65): leg mode float, and the duty d. -/
structure Leg where
  float : Bool
  d     : Int
  deriving DecidableEq, Repr, Inhabited

/-- A hand-over under R109: the output (0 voltage demand, 1 iq*, 2 the own
speed loop under a share, 3 id*, 4 the position loop), the kind as its record names it, whether the first
run of the incoming controller is still due, whether its hand-over has been reported, frames blended, and the outgoing
output y_last. -/
structure Blend where
  what  : Nat
  kind  : Nat
  first : Bool
  told  : Bool
  k     : Nat
  yLast : Int
  /-- v_q and v_d to which field-oriented current loops are preloaded -/
  vq    : Int
  vd    : Int
  deriving DecidableEq, Repr, Inhabited

/-- A softened transition under R94: the outgoing and the incoming leg, the sign of their shared role, and whether the
commutation at its middle has happened. -/
structure Trans where
  out   : Nat
  inn   : Nat
  high  : Bool
  after : Bool
  deriving DecidableEq, Repr, Inhabited

/-- The state of one drive channel beside its registers: the PWM side (chapter 3), commutation (chapter 4). -/
structure Drive where
  /-- shadow compare words of legs A, B, C (R65) -/
  shadow   : List Leg
  /-- active compare words (R68) -/
  active   : List Leg
  /-- the words last written have not transferred; they are the sequencer's (R103); the shadow words and the two flags as
  they stood before the last OUTPUT_PHASE (R68) -/
  fresh    : Bool
  soft     : Bool
  prev     : List Leg
  prevFr   : Bool × Bool
  /-- d_p as the sequencer held it before the last OUTPUT_PHASE (R68, R95) -/
  pDp      : Int
  /-- gates whose turn-on the dead time holds back, as bits of Dn_PINS.ACTV (R71, R79) -/
  waitOn   : Nat
  /-- sector and softened transition at the last accepted trip: a transfer that coincides with it holds its words (R80) -/
  cut      : Nat × Option Trans
  /-- why the pulses last left RUN (R278, log entry 175): 1 trip, 2 GRDY loss, 3 gate-enable removed, 4 shed, 5 verdict, 6
  overvoltage, 0 another cause -/
  why      : Nat
  /-- SYSCLK cycles for which each qualified GRDY input has been high at the last tick (R81) -/
  grdyAge  : List Int
  /-- pulse-block and active-short-circuit requests waiting for OUTPUT_PHASE (R74) -/
  reqBlock : Bool
  reqShed  : Bool
  /-- frames since the carrier configuration was last applied (R62) -/
  anchor   : Nat
  /-- SYSCLK cycles from the last anchor frame's tick to the last tick, and from the anchor tick before it (R62, R63) -/
  aCyc     : Nat
  aPrev    : Nat
  /-- length of the short carrier cycle that is still to run, in carrier units; 0 for none (R64) -/
  shortCyc : Nat
  /-- ramp output RS in SPD_FS × 2^−24, and its change in this frame (R87, RAMP of R198) -/
  ramp     : Int
  dRamp    : Int
  /-- the ramp reference in force, the latest SET_SPEED, and the torque reference (Q15) -/
  ref      : Int
  hostRef  : Int
  torqRef  : Int
  /-- lever command under LEVER_SELECT, and bridge-loss in force with the MODE it entered (R426) -/
  leverSel : Bool
  bridge   : Option Nat
  /-- a ramped stop is under way (R112, R417 DRV_STOP MODE 0) -/
  rampStop : Bool
  /-- pulses were blocked for a reference of the opposite sign; a start request follows (R112) -/
  revStart : Bool
  /-- speed word of the frame, θ_e at SAMPLE_PHASE (R191, R101) -/
  speed    : Int
  theta    : Nat
  /-- iq* and id* in force, the voltage demand u, d_p, α in 65,536 units to 360° (R88, R104, R105, R93) -/
  iqRef    : Int
  idRef    : Int
  u        : Int
  dp       : Int
  alpha    : Nat
  /-- torque reference of the own speed loop after its latest run, before limits; iq* of the controller in charge, before
  a blend (R88, R109, R268) -/
  own      : Int
  iqRaw    : Int
  /-- d_p, α, angle and speed as the sequencer last took them, and the stamp of their SAMPLE_PHASE (R103) -/
  sDp      : Int
  sAl      : Nat
  sTh      : Nat
  sSpd     : Int
  sT       : Nat
  /-- stamp of the last SAMPLE_PHASE -/
  tS       : Nat
  /-- the ramp is clamped by the soft-step frequency limit (R102) -/
  flim     : Bool
  /-- dq voltages before the limit of R91 -/
  vd       : Int
  vq       : Int
  /-- the speed-limit regulator has taken over (R88) -/
  spdLim   : Bool
  /-- consecutive frames at or above UP, at or below DN (R106) -/
  hoUp     : Nat
  hoDn     : Nat
  /-- the hand-overs under way (R109) -/
  blends   : List Blend
  /-- frames left in which residuals are not counted (R220); a verdict that acts at the next tick (R222) -/
  settle   : Nat
  verdNew  : Bool
  /-- the last frame exceeded a threshold of R217 -/
  lastExc  : Bool
  /-- illegal transitions, drifts and faulty words of the port that the supervision has taken (R217) -/
  seen     : Nat × Nat × Nat
  /-- the pulses are blocked by a stop request (R265) -/
  byStop   : Bool
  deriving DecidableEq, Repr, Inhabited

/-- The soft-step sequencer and the start sequence of one drive (chapters 4 and 5). -/
structure Seq where
  /-- times of the valid crossings, newest first, at most three (R99) -/
  tzc     : List Nat
  /-- time of the last commutation -/
  tComm   : Nat
  /-- a valid crossing was seen in this sector; the last sector held one (R130) -/
  seen    : Bool
  seenPrev : Bool
  seenOld : Bool
  /-- consecutive missed sectors (R100) -/
  missed  : Nat
  /-- direction of rotation, +1 or −1 -/
  dir     : Int
  /-- the sequencer begins at the next transfer (R107) -/
  enter   : Bool
  /-- the running softened transition (R94) -/
  trans   : Option Trans
  /-- sectors and valid crossings since an acquisition began (R111, R121); none when anchored -/
  acq     : Option (Nat × Nat)
  /-- frames of the catch done, and the whole length of its window (R115) -/
  catchFr : Nat
  catchLen : Nat
  /-- the phase amplitudes and angles read, newest first, and the crossing times, oldest first (R115) -/
  amps    : List Nat
  angles  : List Nat
  xings   : List Nat
  /-- the catch waits for pulses blocked at OUTPUT_PHASE to open at the following tick (R124, R125, R132) -/
  reopen  : Bool
  /-- frames of the WAIT so far (R123) -/
  waitFr  : Nat
  /-- frame counts j of the alignment and k of the current-frequency start (R128, R129) -/
  alignJ  : Nat
  ifK     : Nat
  /-- θ_cmd as a 32-bit fraction of a turn (R129) -/
  thCmd   : Nat
  /-- sign of forward taken at the last decision (R117) -/
  fwd     : Int
  /-- the start runs sensorless although the drive is sensored (R118, R168) -/
  asSens  : Bool
  /-- angle, stamp and speed from which the angle is extrapolated before two crossings anchor it (R111, R120) -/
  anc     : Nat × Nat × Int
  /-- angle, stamp and speed of the last frame in which the feedback was plausible (R222) -/
  good    : Nat × Nat × Int
  deriving DecidableEq, Repr, Inhabited

/-- State of one element instance: its state words and the outputs of its last run (R197, R198). -/
structure ElemRt where
  st  : List Int
  out : List Int
  deriving DecidableEq, Repr, Inhabited

/-- A checkpoint slot (R206): FRAME_NO, element states, applied output words; of a drive the state RS of its ramp and the
torque and id* that its outer loops hold as set-points. -/
structure Ckpt where
  fn    : Nat
  rt    : List ElemRt
  outs  : List Int
  ramp  : Int
  iqRaw : Int
  idRef : Int
  /-- a word of it that has failed its tag at a load and keeps the failing tag (R370) -/
  bad   : Option Nat
  deriving DecidableEq, Repr, Inhabited

/-- A move of R247: kind (0 ABS, 1 REL with its target already fixed, 2 SPEED), BLEND, the target position or the signed
16.16 speed, and the limits of the descriptor (0 for the axis value). -/
structure Move where
  kind   : Nat
  blend  : Bool
  target : Int
  vmax   : Nat
  amax   : Nat
  dmax   : Nat
  deriving DecidableEq, Repr, Inhabited

/-- A planned move (R248, R249); velocities and distances in 2^−32 count, magnitudes along `sg`. `brake` is the
deceleration to standstill before a move that cannot be completed without passing its target. -/
structure MovePlan where
  mv   : Move
  sg   : Int
  dist : Int
  v0   : Int
  v1   : Int
  vp   : Int
  na   : Nat
  nc   : Nat
  nd   : Nat
  j    : Nat
  done : Int
  brake : Bool
  deriving DecidableEq, Repr, Inhabited

/-- One axis of the profile generator beside its registers (chapter 10): P_ref modulo 2^64 and v, a in 2^−32. -/
structure Axis where
  pRef  : Nat
  v     : Int
  a     : Int
  /-- planned velocity of the frame, before the filter of R250 -/
  vRaw  : Int
  queue : List Move
  cur   : Option MovePlan
  susp  : Option Move
  /-- a STOP deceleration runs (R252) -/
  stop  : Bool
  /-- a STOP took effect at the tick now being opened (R255) -/
  stopNow : Bool
  /-- speed at which the previous move ended -/
  vEnd  : Int
  /-- the last NJ planned velocities, newest first, and the carried remainder (R250) -/
  filt  : List Int
  rem   : Int
  /-- planned distance that the filter has not yet passed on (R250) -/
  owe   : Int
  /-- the SPEED move whose speed the axis holds after it has completed (R249, R252) -/
  held  : Option Move
  /-- a RESUME waits for the standstill of the STOP deceleration (R254) -/
  resume : Bool
  /-- P_ref takes the port's position when the drive next enters RUN (R253) -/
  rearm : Bool
  /-- the position target of the latest MOVE to a position (R198) -/
  written : Int
  deriving DecidableEq, Repr, Inhabited

/-- A reference for a share group that spans the pair (R266): its value, whether bridge-loss or a lever sets it, and the
frame of the tick that brought it. -/
structure GroupRef where
  v     : Int
  table : Bool
  fn    : Nat
  deriving DecidableEq, Repr, Inhabited

/-- One share group beside its registers (chapter 11): per slot k_s, the balance correction c_s, the frames in a row of
speed deviation, the frames in a row without and with a valid exchange; the group torque τ; and whether the member's
torque reference is the share. -/
structure ShrGrp where
  k    : List Nat
  c    : List Rat
  dev  : List Nat
  noEx : List Nat
  okEx : List Nat
  tau  : Int
  /-- the load fraction L after redistribution (R268) -/
  load : Int
  /-- shares computed at this tick, and shares in use, per slot -/
  iq   : List Int
  inUse : List Int
  /-- id* of the lead and the largest u of the active members, as latched (R274) -/
  idW  : Int
  uMax : Int
  /-- droop offsets Δ_s delivered, per slot (R275) -/
  droop : List Int
  /-- torque the group carries after clamping, Q15 of TFS, when it is at its limit (R269) -/
  carried : Option Int
  /-- the group speed: the lead's ramp output of this tick (R266) -/
  ramp : Int
  /-- in a group that spans the pair: a reference of this module that waits for the tick; the latest one, which F carries
  and every member takes at the next tick; and one more than the frame of the reference last taken (R266) -/
  refNew  : Option GroupRef
  refSent : Option GroupRef
  refDone : Nat
  /-- slots that left on a speed deviation and have not been seen out of CLOSED since (R265, R273) -/
  apart   : List Nat
  deriving DecidableEq, Repr, Inhabited

/-- The DC link and chopper of one drive beside its registers (chapter 12). -/
structure DcLink where
  /-- the voltages of the running activation: V(t0 − 20 µs) and V(t0) in 0.1 V; the slope check applies (R285) -/
  vPast : Int
  v0    : Int
  slope : Bool
  /-- SYSCLK cycles that SAMPLE_PHASE has counted since the activation (R283) -/
  onAge : Nat
  /-- the running activation has no verdict yet (R285) -/
  await : Bool
  /-- a BRK_CLEAR test runs (R287) -/
  test  : Bool
  /-- an ASC of R289 is held; the OUTPUT_PHASEs left of ASCHOLD (R290) -/
  ascHold : Bool
  ascLeft : Nat
  /-- the link voltage judged at the last tick, in 0.1 V (R280) -/
  vTick   : Nat
  /-- OV2 reached; the request is made at the next OUTPUT_PHASE (R289) -/
  ov2     : Bool
  deriving DecidableEq, Repr, Inhabited

/-- The rate of rise and the step level of one temperature of a drive (R305, R306): the values in force of past frames,
newest first, an exceedance in force, frames in a row at or below RMAX, the step level 0 to 3. -/
structure ThmRate where
  hist  : List Int
  exc   : Bool
  cool  : Nat
  level : Nat
  deriving DecidableEq, Repr, Inhabited

/-- The thermal model of one drive (R299 to R303): a_1 to a_4, the Foster states of leg x element k at 4x + k − 1 in K,
T_w and T_s in °C, the rates of TJ and TW, and the frames in a row of an NTC cross-check failure with its episode. -/
structure ThmDrv where
  init : Bool
  a    : List Rat
  dT   : List Rat
  tw   : Rat
  ts   : Rat
  rj   : ThmRate
  rw   : ThmRate
  xJ   : Nat
  xW   : Nat
  epJ  : Bool
  epW  : Bool
  deriving DecidableEq, Repr, Inhabited

/-- What a Hinge frame carries of one paired channel: its checkpoint (section 0x01) and its state (section 0x02): PSTATE
of a drive or SSTATE of a stepper, start state, path, BRKN, commutation mode, sector, SYNC, the DC-link flags, supervision
CNT and verdict; whether every tag of it passes. -/
structure HingeChan where
  c      : Nat
  ck     : Ckpt
  outs   : List Int
  pstate : Nat
  sstate : Nat
  path   : Nat
  brkn   : Nat
  cur    : Nat
  sector : Nat
  sync   : Bool
  chf    : Bool
  stkd   : Bool
  mot    : Bool
  gen    : Bool
  cnt    : Nat
  verd   : Bool
  cause  : Nat
  fall   : Bool
  drv    : Drive
  seq    : Seq
  dcl    : DcLink
  /-- a safe reaction under way with the time left of its STOPMAX (R342) -/
  react  : Option (Option Nat)
  /-- a stepper is to be de-energised when it has stopped (R336) -/
  deEn   : Bool
  /-- every tag of the section passes (R370) -/
  ok     : Bool
  deriving DecidableEq, Repr, Inhabited

/-- What a Hinge frame carries of a share-group member on the sender (section 0x05): the drive, RUN, CLOSED, its limits
in force under R88, speed, measured iq, iq* and voltage demand, its own torque reference and ramp output. -/
structure HingeMember where
  n      : Nat
  run    : Bool
  closed : Bool
  stop   : Bool
  /-- why pulses last ended (`Drive.why`) -/
  why    : Nat
  /-- torque limits in force (R88), speed, measured iq, iq*, id* and voltage demand, own torque reference, ramp output;
  whether the tags of these words pass (R389) -/
  mot    : Int
  gen    : Int
  speed  : Int
  iq     : Int
  iqRef  : Int
  idRef  : Int
  u      : Int
  own    : Int
  ramp   : Int
  ok     : Bool
  deriving DecidableEq, Repr, Inhabited

/-- What a Hinge frame carries of a share group computed by the sender: slot states, lead, the group's state. -/
structure HingeGroup where
  g    : Nat
  st   : List Nat
  lead : Nat
  grp  : ShrGrp
  ok   : Bool
  deriving DecidableEq, Repr, Inhabited

/-- A Hinge frame F(n) as its decoded header and sections (R388, R389). -/
structure HingeFrame where
  own     : Bool
  ready   : Bool
  lost    : Bool
  isB     : Bool
  holdover : Bool
  len     : Nat
  fn      : Nat
  txcyc   : Nat
  rxcyc   : Nat
  cfgcrc  : Nat
  chans   : List HingeChan
  /-- port, POS, IDXREF, AVALID (section 0x03) -/
  ports   : List (Nat × Nat × Nat × Bool)
  /-- the profile state of each axis (section 0x04) -/
  axes    : List (Nat × Axis)
  members : List HingeMember
  groups  : List HingeGroup
  /-- the thermal state of each drive, with its Dn_TEMP and THM_Dn_STAT words (section 0x06) -/
  thm     : List (Nat × ThmDrv × Nat × Nat)
  /-- factor and stop latch of each stepper (R310, section 0x06) -/
  thmS    : List (Nat × Int × Bool)
  /-- bytes of Slalu frames of sessions bound to Hinge; SEQ, the RUN requested and the host data of transmit sessions
  (section 0x07) -/
  slalu   : List (List Byte)
  sllTx   : List (Nat × Nat × Bool × List Byte)
  /-- writes applied in the frame (offset, pointer, value); of the open transactions by ring, whether it
  is INCOMPLETE, and the staged writes (section 0x08) -/
  applied : List (Nat × Nat × Nat)
  staged  : List (Nat × Bool × List (Nat × Nat × Nat))
  /-- degraded-mode timers: class, SYSCLK cycles left, channels (section 0x09) -/
  degs    : List (Nat × Nat × List Nat)
  crcOk   : Bool
  deriving DecidableEq, Repr, Inhabited

end Sys2Proof.Machine
end

