-- ==== Sys2Proof/Syntax.lean ====
section
/-! DEFINITION. The commands of the block: one constructor per row of spec/opcode_table.json, in the table's order,
with the operands the outside supplies. A row that the module brings about by itself (an expiry, a detection) carries
only what its rule reads from outside the registers and the state. -/

namespace Sys2Proof

/-- The commands of the KD-860 (spec/opcode_table.json). `n` is a drive or stepper, `c` a channel 0 to 15 (drives
first), `a` an axis, `p` a feedback port or Ethernet port, `k` a pair, STO output, CAN controller or input, `r` a
command ring, `q` a ring of R409, `t` a PWMCLK stamp, `cyc` a SYSCLK cycle after the tick,
`corr` the Bedrock lines read with a corrected bit (R532), `jbad` the journal entries discarded (R533). -/
inductive Instr where
  -- the frame (chapter 2) and the loop engines (chapter 8)
  | frameTick (phErr : TickSeen) (differ : List (Fin 4))
  | disciplineLocked
  | samplePhase (smp : Samples) (tagFails : List InputHit) (ecc : List (Fin 5 × Nat))
  | laneDisagreement (k : Fin 5) (post : Bool) (bad : List LoadTags)
  | spareSelfcheckFail
  | channelOverrun (x : ChanLoad)
  | channelMovedToSpare (x : ChanLoad)
  | channelDegradedOverruns (c : Fin 16)
  | outputPhase (tagFails : List (Fin 16 × Nat × Flip))
  | shadowTransfer (c : Fin 16) (peak : Bool) (cyc : Nat) (t : BitVec 32)
  | checkpointWrite (k : Fin 5)
  -- trips and gate-driver ready (chapter 3)
  | fastTrip (n : Fin 8)
  | filteredTripAccept (n : Fin 8)
  | tripPulseRejected (n : Fin 8)
  | overcurrentVerdict (c : OcOuts)
  | grdyQualifiedChange (n : Fin 8) (leg : Fin 3) (level : Bool) (cyc : Nat)
  -- host commands to drives (chapters 4, 5, 8, 18)
  | start (h : Hdr) (n : Fin 8)
  | drvStop (h : Hdr) (n : Fin 8) (mode : Byte)
  | setSpeed (h : Hdr) (n : Fin 8) (v : BitVec 16)
  | setTorque (h : Hdr) (n : Fin 8) (v : BitVec 16)
  | coefWrite (h : Hdr) (c : Fin 16) (idx val : BitVec 16)
  | leverSelect (h : Hdr) (n : Fin 8) (src : Byte)
  | bridgeResume (h : Hdr) (n : Option (Fin 8))
  | nop (h : Hdr)
  -- commutation (chapter 4)
  | zeroCrossing (n : Fin 8) (phase : Fin 3) (rising : Bool) (tin tout : BitVec 32) (edgeAge : Nat)
  | softstepCommutation (n : Fin 8) (t : BitVec 32)
  | syncLoss (n : Fin 8)
  | commutationHandover (n : Fin 8)
  | handoverBlendEnd (n : Fin 8)
  | sensorlessRampStop (n : Fin 8)
  | sensorlessReverseRestart (n : Fin 8)
  | fallbackAcquisitionFail (n : Fin 8)
  -- starting (chapter 5)
  | catchEnd (n : Fin 8)
  | catchWindowDecision (n : Fin 8)
  | waitmaxExpiry (n : Fin 8)
  | brakeRampEnd (n : Fin 8)
  | alignEnd (n : Fin 8)
  | ifHandover (n : Fin 8)
  | ifFmaxAbort (n : Fin 8)
  -- the DC link (chapter 12)
  | chopperOn (n : Fin 8) (v vPast : Int) (idleBefore : Bool)
  | chopperOff (x : BrkSpan)
  | chopperCheck (n : Fin 8) (fb : FbSeen) (v : Int)
  | chopperStuckOn (x : BrkLevel)
  | brkClear (h : Hdr) (n : Fin 8)
  | brkClearTestEnd (n : Fin 8) (fbPulse fbHold : FbSeen) (vPast v0 v : Int) (idleBefore : Bool)
  | ov2Reached (n : Fin 8) (v : Int)
  | ascHoldEnd (n : Fin 8)
  | ov3Demand (x : TripStep)
  | ov3DemandEnd (x : TripStep)
  -- thermal (chapter 13)
  | ntcRecover (k : Fin 16)
  | thermalXchkFail (n : Fin 8) (winding : Bool)
  | thermalRateRecover (n : Fin 8) (winding : Bool)
  | ovrdAsserted
  | ovrdReleased
  | tshut (k : Fin 6)
  | tshutRecover
  -- Hasp (chapter 14)
  | stoClosingLowCheck (k : Fin 4) (ma : Nat) (sns : Bool)
  | stoClosingHighCheck (k : Fin 4) (ma : Nat) (sns : Bool)
  | stoTestSlot (k : Fin 4)
  | stoTestEnd (k : Fin 4) (ma : Nat) (snsDuring snsEnd snsAfter hsPin : Bool)
  | stoCurrentLimit (k : Fin 4)
  | sdiDemand (i : Fin 8) (a b : Bool)
  | sdiReturnHealthy (i : Fin 8) (withinDisc : Bool)
  | sdiDiscrepancy (i : Fin 8)
  | stoResetPulse (k : Fin 4) (us : Nat)
  | ss1Timeout (k : Fin 4)
  | degTimeExpiry (c : Fin 8) (flintA : Bool)
  | stopmaxExpiry (c : Fin 16)
  | tickWatchdogExpiry
  | haspInternalFault (firmware : Bool)
  -- Slalu (chapter 15)
  | slaluFrameReceived (from_ : Carriage) (bytes : List Byte) (tags : List (Nat × Flip)) (us : Nat)
  | slaluWatchdogExpiry (s : Fin 64)
  | haspSessionWatchdog (s : Fin 64)
  | sllTxdata (h : Hdr) (s : Fin 64) (run : Bool) (ofs cnt : Byte) (data : List Byte)
  | mgmtFrameSend
  | mgmtFrameReceived (bytes : List Byte)
  -- Ward (chapter 16)
  | inputInvalidByTags (c : Fin 16) (w : Nat)
  | fabricBlockFailed (b : Fin 4)
  | sramBankThreshold (b : Fin 64) (chs : List (Fin 16))
  | sramBankCopyDone (b : Fin 64)
  -- the front end and Whetstone (chapter 6)
  | shadowRotate (g : Fin 2)
  | laneResidueFail (l : Fin 44)
  | shadowMismatch (g : Fin 2) (outvoted : Fin 3)
  | sarRotate
  | sarShadowMismatch (cv : Fin 3) (cvBad rotBad : Bool)
  | modulatorStuck (i : Fin 40) (high : Bool)
  | gainCheckFail (n : Fin 8) (kind : Fin 3) (value : Int)
  | flintbTrimCount (count : Nat) (whole : Bool)
  | trimTableSave
  -- supervision, injection and capture (chapter 9)
  | feedbackVerdict (n : Fin 8)
  | supervisionSettleEnd (n : Fin 8)
  | supClear (h : Hdr) (n : Fin 8)
  | injStart (h : Hdr) (k : Fin 5)
  | injStop (h : Hdr) (k : Fin 5)
  | injectionComplete (k : Fin 5)
  | capStart (h : Hdr) (k : Fin 5)
  | capStop (h : Hdr) (k : Fin 5)
  | captureLevelTrigger (k : Fin 5)
  | captureEnd (k : Fin 5)
  -- steppers and profiles (chapter 10)
  | energize (h : Hdr) (n : Fin 8)
  | deenergize (h : Hdr) (n : Fin 8)
  | stepperBridgeFault (n : Fin 8)
  | move (h : Hdr) (a : Fin 16) (kind : Byte) (blend : Bool) (target vmax amax dmax : Word)
  | axisStop (h : Hdr) (a : Fin 16)
  | resume (h : Hdr) (a : Fin 16)
  | moveFlush (h : Hdr) (a : Fin 16)
  | home (h : Hdr) (a : Fin 16)
  | moveStart (a : Fin 16)
  | moveComplete (a : Fin 16)
  | axisStandstill (a : Fin 16)
  | holdCurrentFall (n : Fin 8)
  | stallDetected (n : Fin 8)
  | homingFailed (n : Fin 8)
  -- load sharing (chapter 11)
  | shareJoinComplete (g s : Fin 4)
  | shareSpeedDeviation (g s : Fin 4)
  | shareExchangeLost (g : Fin 4)
  | shareIsolRejoin (g s : Fin 4)
  -- pair operation (chapter 17)
  | ownInReleased
  | takeoverClaim
  | takeoverResume
  | partnerLineReasserted
  | hingeFrameReceived (lane : Fin 2) (f : Machine.HingeFrame) (us : Nat)
  | hingeFrameMissing
  | hingeSilent
  | hingeLaneRetire (lane : Fin 2)
  | standbyReady
  | pairHandover (h : Hdr)
  -- the host interface (chapter 18)
  | commandDoorbell (r : Fin 4) (v : Word)
  | completionDoorbell (r : Fin 4) (v : Word)
  | telemetryDoorbell (r : Fin 2) (v : Word)
  | eventDoorbell (v : Word)
  | heartbeatDoorbell (v : Word)
  | bar2StrayWrite (off : Nat) (v : Word)
  | descriptorFetch (r : Fin 4) (descs : List (List Byte)) (cyc : Nat) (dmaErr : Bool)
  | completionWrite (r : Fin 4) (tag : TagCheck) (dmaErr : Bool)
  | telemetryRecord (src : TelSrc) (tag : TagCheck) (dmaErr : Bool)
  | eventEntryWrite (tag : TagCheck) (dmaErr : Bool)
  | msixSignal (v : Fin 32)
  | ringReset (q : Fin 11)
  | perst (linkDown : Bool)
  | heartbeatLoss
  | leverStart (n : Fin 8)
  | leverStop (n : Fin 8)
  | leverRestored (l : Fin 4)
  -- transactions (chapter 19)
  | txnBegin (h : Hdr)
  | txnWrite (h : Hdr) (off val : Word)
  | txnCommit (h : Hdr)
  | txnRollback (h : Hdr)
  | txnValidationDone (r : Fin 4) (cyc : Nat)
  | txnCommitApply (r : Fin 4)
  | txnTimeout (r : Fin 4)
  -- CAN FD (chapter 20)
  | canFrameReceived (k : Fin 4) (f : CanFrame) (cyc us : Nat)
  | canTxAttempt (k : Fin 4) (tag : TagCheck)
  | canFrameSent (k : Fin 4)
  | canArbitrationLost (k : Fin 4)
  | canBusError (k : Fin 4) (lec : Fin 7) (dTec dRec : Nat)
  | canIntegrated (k : Fin 4)
  | canProtocolException (k : Fin 4)
  | canRecover (k : Fin 4)
  | canRecoveryDone (k : Fin 4)
  | canSleepEnter (k : Fin 4)
  | canWakeEdge (k : Fin 4)
  | canWakeFrame (k : Fin 4) (f : CanFrame)
  | canRxfAck (k : Fin 4) (fifo : Fin 2) (cnt : Byte)
  | canRxwRead (k : Fin 4) (fifo : Fin 2) (w : Fin 21) (tag : Option Flip)
  | canTx (h : Hdr) (k : Fin 4) (buf flags dlc : Byte) (id : Word) (data : List Byte)
  | canStage (h : Hdr) (k : Fin 4) (buf ofs cnt : Byte) (data : List Byte)
  | canCancel (h : Hdr) (k : Fin 4) (buf : Byte) (won : Bool)
  | canSleep (h : Hdr) (k : Fin 4)
  | canWake (h : Hdr) (k : Fin 4)
  | canFltdatAccess (k : Fin 4) (wr : Option (Fin 4 × Word))
  -- Lode (chapter 21)
  | lodeFrameReceived (p : Fin 3) (f : EthFrame) (us : Nat)
  | lodeFrameTransmit (p : Fin 2) (room : List (Option Nat)) (tags : List (Nat × Flip))
  | gclEntryExpiry (p : Fin 2)
  | lodeLinkUp (p : Fin 2) (speed : Fin 3)
  | lodeLinkDown (p : Fin 2)
  | gptpMessageReceived (p : Fin 2) (m : GptpMsg)
  | ptpSyncGained
  | ptpSyncLost
  | cbRecoveryReset (s : Fin 32)
  | cbPathLoss (s : Fin 32)
  | lodeTelemetrySend
  | mdioGo (v : Word)
  | mdioDone (rdata : BitVec 16)
  | phyResetRelease (p : Fin 2)
  | gcldatAccess (p : Fin 2) (wr : Option (Fin 4 × Word))
  -- clocks (chapter 22)
  | pllReferenceLost (pll : Fin 3)
  | xoFailure (stopped : Bool) (w : ClkWindow)
  | xoDrift (count : Nat)
  | flintbFailure (seen : FlintSeen)
  | flintbSpareLost
  | pllRelocked (pll : Fin 3)
  | pllSpLockLoss (p : Bool)
  | pllNLockLoss (within1s : Bool)
  | x32Failure (stopped : Bool)
  | xoReturn (tenSecondsGood : Bool)
  -- power, reset and start-up (chapter 23)
  | vmainStart
  | vmainLow
  | vmainRecover
  | rideExpiry
  | vmainDropout
  | vmainHigh
  | vbakLow
  | v33outLow (mv : Nat)
  | railOutOfWindow (d : Fin 12)
  | regulatorPhaseFail (d : Fin 12)
  | rstNAccepted
  | pinStuck
  | rstNRearm
  | pwrStby (v : Word)
  | pwrSysrst (v : Word)
  | wakePin
  | rtcAlarm
  | haspSelfTestDone (coresOk : Bool) (outs : List StoSelfTest) (safety : List (Nat × Word)) (sdi : List (Bool × Bool)) (jbad corr : Nat)
  | xoDelayEnd (pass : Bool) (strap : Fin 8)
  | fabricUp (flintbPass : Bool)
  | imageVerifyDone (crcOk : Bool) (img : Image)
  | domainsUp (failedPairs : List (Fin 5)) (strap : Fin 4) (pins : List Bool)
  | ready (t01ms : Nat) (partnerAfterTie : Bool)
  -- Strata and Bedrock (chapter 24)
  | strataIntervalEnd (corr : Nat)
  | strataSnap
  | strataRecordDone
  | nvsDmaRead (corr : Nat)
  | nvsDmaWrite (data : List Byte) (corr : Nat)
  | nvsDmaDone (pcieErr : Bool)
  | nvsSlotErase (v : Word)
  | nvsSlotCommit (v : Word)
  | nvsSlotCommitDone
  -- register accesses
  | snTabdatAccess (n : Fin 8) (wr : Option (Fin 4 × Word))
  | latchingLowWordRead (off : Nat)
  | registerWrite (off width : Nat) (v : Word)
  -- feedback ports (chapter 7)
  | feedbackEdge (p : Fin 12) (a b z : Bool) (t : BitVec 32)
  | indexLatch (p : Fin 12)
  | comparePulseEnd (p : Fin 12)
  | encoderEmulationEdge (p : Fin 12)
  -- further power, pin and clock rows of the table
  | v33outRecovered
  | rstNReleased
  | perstNDeassert (gen width : Fin 4)
  | fdbEntryAged (mac : Nat)
  | holdoverBoundLost
  | vaultPowerOn (strap : Fin 4)
  | vaultLoss
  | x32DelayEnd
  deriving DecidableEq, Repr, Inhabited

end Sys2Proof
end

