-- ==== Sys2Proof/WellFormed.lean ====
section
/-! DEFINITION. Which commands are well formed: the operands within the ranges their rules give them. A command outside
them is not one the outside can bring about. -/

namespace Sys2Proof

/-- One modulator input: no more ones than the widest window weighs (R138, OSR 256). -/
def ModSample.wf (x : ModSample) : Bool := decide (x.ones ≤ 2 ^ 24)

/-- A drive's samples: modulator counts and 16-bit phase-voltage codes (R136, R142). -/
def DriveSample.wf (x : DriveSample) : Bool :=
  x.iA.wf && x.iB.wf && x.vdc.wf && decide (x.pvA < 65536) && decide (x.pvB < 65536) && decide (x.pvC < 65536)

/-- A stepper's samples (R136). -/
def StepSample.wf (x : StepSample) : Bool := x.iA.wf && x.iB.wf

/-- What one SAMPLE_PHASE latches: eight drives, eight steppers, the conversions of 24 slow inputs, six die sensors, twelve
ports, 16 reference conversions of a converter, four of hold capacitors. -/
def Samples.wf (x : Samples) : Bool :=
  x.drives.length == 8 && x.drives.all DriveSample.wf && x.steps.length == 8 && x.steps.all StepSample.wf &&
    x.ain.length == 24 && x.ain.all (fun l => decide (l.length ≤ 8) && l.all (fun v => decide (v < 65536))) &&
    x.die.length == 6 && x.ssi.length == 12 && x.refs.all (fun r => r.2.length == 16 && r.2.all (fun v => decide (v < 65536))) &&
    decide (x.again.length ≤ 4) && x.again.all (fun v => decide (v < 65536))

/-- Data bytes that a DLC announces (R448): classical frames carry at most 8, FD frames up to 64. -/
def dlcBytes (fdf : Bool) (dlc : Nat) : Nat :=
  if dlc ≤ 8 then dlc else if fdf then [12, 16, 20, 24, 32, 48, 64].getD (dlc - 9) 64 else 8

/-- A CAN frame (R448): identifier of 11 or 29 bits, DLC of 4 bits, the data its DLC announces, none in a remote
frame, and no remote FD frame. -/
def CanFrame.wf (f : CanFrame) : Bool :=
  decide (f.id < (if f.xtd then 2 ^ 29 else 2 ^ 11)) && decide (f.dlc < 16) && !(f.rtr && f.fdf) &&
    f.data.length == (if f.rtr then 0 else dlcBytes f.fdf f.dlc)

/-- An Ethernet frame (R472): 48-bit addresses, a VLAN tag of 12 and 3 bits, a 16-bit EtherType. -/
def EthFrame.wf (f : EthFrame) : Bool :=
  decide (f.dmac < 2 ^ 48) && decide (f.smac < 2 ^ 48) && decide (f.etype < 65536) &&
    (match f.vlan with | some t => decide (t.1 < 4096) && decide (t.2 < 8) | none => true) &&
    (match f.rtag with | some q => decide (q < 65536) | none => true)

/-- Whether the operands of a command are ones the outside can supply. -/
def Instr.wf : Instr → Bool
  | .samplePhase smp _ _ => smp.wf
  | .sllTxdata _ _ _ _ _ data => data.length == 48
  | .descriptorFetch _ descs _ _ => descs.all (fun d => d.length == 64)
  | .canFrameReceived _ f _ _ => f.wf
  | .canWakeFrame _ f => f.wf
  | .canTx _ _ _ _ _ _ data => decide (data.length ≤ 64)
  | .canStage _ _ _ _ _ data => decide (data.length ≤ 64)
  | .lodeFrameReceived _ f _ => f.wf
  | .haspSelfTestDone _ outs _ sdi _ _ => outs.length == 4 && sdi.length == 8
  | .domainsUp _ _ pins => pins.length == 62
  | .nvsDmaWrite data _ => data.length % 64 == 0
  | .latchingLowWordRead off => off % 4 == 0
  | .registerWrite off width _ => decide (off < 2 ^ 19) && decide (width < 16)
  | .fdbEntryAged mac => decide (mac < 2 ^ 48)
  | _ => true

end Sys2Proof
end

