-- ==== Sys2Proof/Config.lean ====
section
/-! DEFINITION. What an implementation of the KD-860 fixes and what the manual leaves open. Every `opaque` here has no
body: no proof can see its value, so a statement that mentions one holds for every value of it. Each is named in the
assumption log (entries 10 to 19). -/

namespace Sys2Proof.Config

/-- The serial number in the VAULT fuses (SYS_UID_LO, SYS_UID_HI: "per module"). -/
opaque serial : BitVec 64

/-- The vendor identifier that the PCI-SIG assigns to Waocor (SYS_PCIID.VID, R2). -/
opaque vendorId : BitVec 16

/-- A natural number the manual leaves open; applied to the state's counter of free values. -/
opaque freeNat : Nat → Nat

/-- An integer the manual leaves open; applied to the state's counter of free values. -/
opaque freeInt : Nat → Int

/-- How far the quotient of SVM lies from the exact rounded quotient for a numerator and divisor; the model keeps it
within the ±1 LSB of R199. -/
opaque svmDeviation : Int → Int → Int

/-- The sections of a Hinge frame as words with their route keys: R389 lists their contents, and the manual gives no order of
words within them. -/
opaque hingeSections : Sys2Proof.Machine.HingeFrame → List (Nat × List (Nat × Nat))

/-- The natural logarithm of R295 as the module computes it; the manual gives no rounding, and `lnOf` keeps it within
2^−40 of the logarithm. -/
opaque ln : Rat → Rat

/-- The decay factor e^(−x) of R299 as the module computes it; the manual gives no rounding, and `expOf` keeps it within
2^−40 of the exponential. -/
opaque expNeg : Rat → Rat

/-- Where the manual gives a real result no rounding to the grid of its register: how far above the next lower grid
point the result lies, cut to 0 or 1 by the model. -/
opaque roundUp : Rat → Int

/-- The angle of a vector in 65,536 units to 360° (R115, R256) as the module computes it; the manual leaves its rounding
open, and `angleOf` keeps it within that. -/
opaque atan2 : Int → Int → Nat

/-- The frequency of a logarithmic sweep (R227, within ±0.1 %): F0, F1, j, DUR. -/
opaque sweep : Nat → Nat → Nat → Nat → Rat

/-- What a converter fits to its reference conversions (R152; the manual does not give the fit): the 16 codes, and which of
offset in 1/16 code, gain in 2^−20 and reference drift. -/
opaque sarFit : List Nat → Nat → Int

/-- The die sensor nearest a SAR converter (R156; the manual does not number it). -/
opaque sarSensor : Nat → Nat

/-- A lost phase current as the motor model rebuilds it (R157; the manual does not give the model): the other phase, θ_e,
the references id* and iq*. -/
opaque phaseModel : Int → Nat → Int → Int → Int

/-- The open-loop duty of a stepper winding for half its reference where no bridge voltage is configured (R157). -/
opaque openDuty : Int → Int

/-- The MAC address behind a unicast IPv4 address (R349: the manual does not say how it is found). -/
opaque macOf : Nat → Nat

/-- The 28 bytes of the IPv4 and UDP headers of a datagram of the module: source and destination address, destination
port, payload length (identification, TTL, flags and source port are not in the manual). -/
opaque udpHeader : Nat → Nat → Nat → Nat → List (BitVec 8)

/-- A frame relayed between P1 and P2 that arrived untagged leaves with a tag. -/
opaque relayTagged : Bool

/-- Where management frames of R364 go: IPv4 address, VLAN (VID, PCP), CAN identifier of a controller (29-bit or not). -/
opaque mgmtIp : Nat
opaque mgmtVlan : Nat × Nat
opaque mgmtCanId : Nat → Bool × Nat

/-- Slalu's CAN frames switch the bit rate (R349 gives FDF only). -/
opaque slaluBrs : Bool

/-- The loop program that Aconafen's words spell (R437; their format is not in the manual), and the state map of R207:
for every instance of the new program the instance of the old one whose state it keeps. -/
opaque program : List (Nat × Nat) → Program × List (Option Nat)

/-- The size in bytes of the largest Hinge frame F that a configuration can produce (R387; the manual gives no word
layout of its sections): state words of each paired channel, and MIRN. -/
opaque hingeSize : List Nat → Nat → Nat

/-- The die sensor nearest Flint-B (R156, R497, R499; the manual does not number it). -/
opaque flintbSensor : Nat

/-- A byte of Bedrock whose layout the manual does not give (R531: journal, module state), by its offset. -/
opaque bedrockByte : Nat → BitVec 8

end Sys2Proof.Config
end

