-- ==== Sys2Proof/Machine/Regs.lean ====
section
/-! DEFINITION. The register map of BAR0, word for word from the register tables of spec/ (chapters 0 to 24): for
every register its offset, its power domain, its reset source, its reset value and the access type of its fields
(R9, R11, R13, R14), and one `Fld` per named field. The sparse register file that holds the values stands here too.
Where a register has an index (drive n, port n, session s ...) its field is a function of the index. -/

namespace Sys2Proof.Machine

/-- The twelve power domains in the order of R20 (PWR_DOMSTAT). -/
inductive Dom where
  | vault | safe | fabric | lpa | lpb | pwm | afe | feed | comm | host | mir | nvs
  deriving DecidableEq, Repr, Inhabited

/-- The bit of a domain in PWR_DOMSTAT.ON: its place in the order of R20. -/
def Dom.bit : Dom → Nat
  | .vault => 0 | .safe => 1 | .fabric => 2 | .lpa => 3 | .lpb => 4 | .pwm => 5
  | .afe => 6 | .feed => 7 | .comm => 8 | .host => 9 | .mir => 10 | .nvs => 11

/-- The reset sources of R14. -/
inductive RstSrc where
  | por | sys | perst | nvs
  deriving DecidableEq, Repr, Inhabited

/-- One register of a table: name, offset of index 0, (stride, count) of each index, domain, reset source, reset
word, and the bits of each access type of R11 (bits in none of the masks are reserved). -/
structure RegDesc where
  name : String
  base : Nat
  dims : List (Nat × Nat)
  dom  : Dom
  src  : RstSrc
  rst  : Nat
  rw   : Nat
  rwl  : Nat
  w1c  : Nat
  wo   : Nat
  ro   : Nat
  deriving DecidableEq, Repr, Inhabited

/-- The bits of a register that are not reserved (R13). -/
def RegDesc.known (d : RegDesc) : Nat := Nat.lor (Nat.lor (Nat.lor d.rw d.rwl) (Nat.lor d.w1c d.wo)) d.ro

/-- A field of a register: the byte offset of its word, its lowest bit and its width. -/
structure Fld where
  off : Nat
  lo  : Nat
  w   : Nat
  deriving DecidableEq, Repr, Inhabited

/-- Whether `rem` is one of the offsets that the strides and counts reach. -/
def inDims : List (Nat × Nat) → Nat → Bool
  | [], r => r == 0
  | (st, n) :: ds, r => decide (r / st < n) && inDims ds (r % st)

/-- Whether the register `d` holds the word at offset `off`. -/
def RegDesc.covers (d : RegDesc) (off : Nat) : Bool := decide (d.base ≤ off) && inDims d.dims (off - d.base)

/-- Registers of the SYS block (offsets 0x0 to 0xFFF). -/
def regsSys : List RegDesc := [
  ⟨"SYS_ID", 0x0, [], .fabric, .por, 0x1010860, 0x0, 0x0, 0x0, 0x0, 0xFFFFFFFF⟩,
  ⟨"SYS_PCIID", 0x4, [], .fabric, .por, 0x8600000, 0x0, 0x0, 0x0, 0x0, 0xFFFFFFFF⟩,
  ⟨"SYS_UID_LO", 0x8, [], .fabric, .por, 0x0, 0x0, 0x0, 0x0, 0x0, 0xFFFFFFFF⟩,
  ⟨"SYS_UID_HI", 0xC, [], .fabric, .por, 0x0, 0x0, 0x0, 0x0, 0x0, 0xFFFFFFFF⟩]

/-- Registers of the CLK block (offsets 0x1000 to 0x1FFF). -/
def regsClk : List RegDesc := [
  ⟨"CLK_STAT", 0x1000, [], .fabric, .sys, 0x0, 0x0, 0x0, 0x400, 0x0, 0xFF80EBF0⟩,
  ⟨"CLK_STRAP", 0x1004, [], .fabric, .sys, 0x0, 0x0, 0x0, 0x0, 0x0, 0x1F⟩,
  ⟨"CLK_CFG", 0x1008, [], .fabric, .nvs, 0x3E8, 0x0, 0x1FFF, 0x0, 0x0, 0x0⟩,
  ⟨"CLK_CTL", 0x100C, [], .fabric, .sys, 0x0, 0x0, 0x0, 0x0, 0x1, 0x0⟩,
  ⟨"CLK_MON", 0x1010, [], .safe, .sys, 0x0, 0x0, 0x0, 0x0, 0x0, 0xFFFFFFFF⟩,
  ⟨"CLK_HOLD", 0x1014, [], .fabric, .sys, 0x0, 0x0, 0x0, 0x0, 0x0, 0xFFFFFFFF⟩,
  ⟨"CLK_CNT", 0x1018, [], .fabric, .sys, 0x0, 0x0, 0x0, 0x0, 0x0, 0xFFFFFFFF⟩]

/-- Registers of the PWR block (offsets 0x2000 to 0x2FFF). -/
def regsPwr : List RegDesc := [
  ⟨"PWR_VMON", 0x2000, [], .safe, .sys, 0x0, 0x0, 0x0, 0x0, 0x0, 0xFFFFFFFF⟩,
  ⟨"PWR_DOMSTAT", 0x2004, [], .fabric, .sys, 0x0, 0x0, 0x0, 0x0, 0x0, 0xFFF0FFF⟩,
  ⟨"PWR_CFG", 0x2008, [], .fabric, .nvs, 0xA000000, 0x0, 0x0, 0x0, 0x0, 0xFF0001F8⟩,
  ⟨"PWR_CTL", 0x200C, [], .fabric, .sys, 0x0, 0x0, 0x0, 0x0, 0xFF03, 0x0⟩,
  ⟨"PWR_RSTCAUSE", 0x2010, [], .vault, .por, 0x1, 0x0, 0x0, 0x0, 0x0, 0x7FF⟩,
  ⟨"PWR_BOOT", 0x2014, [], .fabric, .sys, 0x0, 0x0, 0x0, 0x0, 0x0, 0xF00000FD⟩,
  ⟨"PWR_GEN", 0x2018, [], .fabric, .sys, 0x0, 0x0, 0x0, 0x0, 0x0, 0xFFFFFFFF⟩,
  ⟨"PWR_RSTPIN", 0x201C, [], .vault, .por, 0x0, 0x0, 0x0, 0x0, 0x0, 0xFF06⟩,
  ⟨"PWR_WAKE", 0x2020, [], .vault, .por, 0x0, 0x3, 0x0, 0x0, 0x0, 0x0⟩,
  ⟨"PWR_ALARM", 0x2024, [], .vault, .por, 0x0, 0xFFFFFFFF, 0x0, 0x0, 0x0, 0x0⟩,
  ⟨"PWR_RTC", 0x2028, [], .vault, .por, 0x0, 0x0, 0x0, 0x0, 0x0, 0xFFFFFFFF⟩,
  ⟨"PWR_START", 0x202C, [], .fabric, .sys, 0x0, 0x0, 0x0, 0x0, 0x0, 0xFFFF⟩,
  ⟨"PWR_CNT", 0x2030, [], .vault, .por, 0x0, 0x0, 0x0, 0x0, 0x0, 0xFFFFFFFF⟩]

/-- Registers of the TICK block (offsets 0x3000 to 0x3FFF). -/
def regsTick : List RegDesc := [
  ⟨"TICK_PERIOD", 0x3000, [], .fabric, .nvs, 0x61A8, 0x0, 0x1FFFF, 0x0, 0x0, 0x0⟩,
  ⟨"TICK_SPHASE", 0x3004, [], .fabric, .nvs, 0x0, 0x0, 0x1FFFF, 0x0, 0x0, 0x0⟩,
  ⟨"TICK_OPHASE", 0x3008, [], .fabric, .nvs, 0x30D4, 0x0, 0x1FFFF, 0x0, 0x0, 0x0⟩,
  ⟨"TICK_CTL", 0x300C, [], .fabric, .nvs, 0x400, 0x0, 0x1F03, 0x0, 0x0, 0x0⟩,
  ⟨"TICK_ALIGN", 0x3010, [], .fabric, .nvs, 0x0, 0x0, 0x3FFFF, 0x0, 0x0, 0x0⟩,
  ⟨"TICK_FRAME_NO_LO", 0x3018, [], .fabric, .sys, 0x0, 0x0, 0x0, 0x0, 0x0, 0xFFFFFFFF⟩,
  ⟨"TICK_FRAME_NO_HI", 0x301C, [], .fabric, .sys, 0x0, 0x0, 0x0, 0x0, 0x0, 0xFFFF⟩,
  ⟨"TICK_STAT", 0x3020, [], .fabric, .sys, 0x0, 0x0, 0x0, 0x10, 0x0, 0xFFFF0003⟩,
  ⟨"TICK_OVRCNT", 0x3024, [], .fabric, .sys, 0x0, 0x0, 0x0, 0x0, 0x0, 0xFFFFFFFF⟩,
  ⟨"TICK_ADMk", 0x3040, [(0x4, 5)], .fabric, .sys, 0x0, 0x0, 0x0, 0x0, 0x0, 0xFFFFFFFF⟩]

/-- Registers of the HIF block (offsets 0x4000 to 0x4FFF), part 1. -/
def regsHif0 : List RegDesc := [
  ⟨"HIF_CFG", 0x4000, [], .host, .nvs, 0x0, 0x0, 0x0, 0x0, 0x0, 0x1⟩,
  ⟨"HIF_STAT", 0x4004, [], .host, .perst, 0x0, 0x0, 0x0, 0x0, 0x0, 0x3F⟩,
  ⟨"HIF_HB", 0x4008, [], .host, .nvs, 0xC8, 0x0, 0x3FF, 0x0, 0x0, 0x0⟩,
  ⟨"HIF_ERRCNT", 0x400C, [], .host, .perst, 0x0, 0x0, 0x0, 0x0, 0x0, 0xFFFFFFFF⟩,
  ⟨"HIF_EVFILT", 0x4010, [], .host, .perst, 0x0, 0xFFFFFFFF, 0x0, 0x0, 0x0, 0x0⟩,
  ⟨"HIF_TELCFG", 0x4014, [], .host, .perst, 0x0, 0x1FFFFFF, 0x0, 0x0, 0x0, 0x0⟩,
  ⟨"HIF_EVDROP", 0x4020, [], .host, .perst, 0x0, 0x0, 0x0, 0x0, 0x0, 0xFFFFFFFF⟩,
  ⟨"HIF_TELDROP", 0x4024, [], .host, .perst, 0x0, 0x0, 0x0, 0x0, 0x0, 0xFFFFFFFF⟩,
  ⟨"RING_BASE_LO", 0x4100, [(0x20, 11)], .host, .perst, 0x0, 0xFFFFF000, 0x0, 0x0, 0x0, 0x0⟩,
  ⟨"RING_BASE_HI", 0x4104, [(0x20, 11)], .host, .perst, 0x0, 0xFFFFFFFF, 0x0, 0x0, 0x0, 0x0⟩,
  ⟨"RING_CTL", 0x4108, [(0x20, 11)], .host, .perst, 0x4, 0x80FFFF0F, 0x0, 0x0, 0x40000000, 0x0⟩,
  ⟨"RING_IDX", 0x410C, [(0x20, 11)], .host, .perst, 0x0, 0x0, 0x0, 0x0, 0x0, 0x1FFF1FFF⟩,
  ⟨"RING_STAT", 0x4110, [(0x20, 11)], .host, .perst, 0x0, 0x0, 0x0, 0x0, 0x0, 0xFF03⟩,
  ⟨"HIF_BLOSS", 0x4300, [(0x4, 8)], .host, .nvs, 0x0, 0x0, 0xFFFFFF1F, 0x0, 0x0, 0x0⟩,
  ⟨"HIF_LSCL", 0x4320, [(0x4, 8)], .host, .nvs, 0x7FFF, 0x0, 0xFFFF, 0x0, 0x0, 0x0⟩]

/-- Registers of the HIF block (offsets 0x4000 to 0x4FFF), part 2. -/
def regsHif1 : List RegDesc := [
  ⟨"HIF_LEVA", 0x4340, [(0x8, 4)], .host, .nvs, 0xE666199A, 0x0, 0xFFFFFFFF, 0x0, 0x0, 0x0⟩,
  ⟨"HIF_LEVB", 0x4344, [(0x8, 4)], .host, .nvs, 0x8000028F, 0x0, 0xFFFF0FFF, 0x0, 0x0, 0x0⟩,
  ⟨"HIF_LEVC", 0x4360, [(0x4, 4)], .host, .nvs, 0x51F, 0x0, 0xFFFF, 0x0, 0x0, 0xFFFF0000⟩]

/-- Registers of the TXN block (offsets 0x5000 to 0x5FFF). -/
def regsTxn : List RegDesc := [
  ⟨"TXN_CFG", 0x5000, [], .fabric, .nvs, 0x4003E8, 0x0, 0xFFFFFF, 0x0, 0x0, 0x0⟩,
  ⟨"TXN_STAT", 0x5010, [(0x4, 4)], .fabric, .perst, 0x0, 0x0, 0x0, 0x0, 0x0, 0x1FFFFFFF⟩,
  ⟨"TXN_REJ", 0x5020, [(0x4, 4)], .fabric, .perst, 0x0, 0x0, 0x0, 0x0, 0x0, 0xFFFFFFFF⟩,
  ⟨"TXN_CNT", 0x5030, [], .fabric, .sys, 0x0, 0x0, 0x0, 0x0, 0x0, 0xFFFFFFFF⟩,
  ⟨"TXN_COEF", 0x5040, [], .fabric, .sys, 0x0, 0x0, 0xF1FFFFFF, 0x0, 0x0, 0x0⟩,
  ⟨"TXN_ELEM", 0x5044, [], .fabric, .sys, 0x0, 0x0, 0xFFFC000F, 0x0, 0x0, 0x0⟩,
  ⟨"TXN_PSEL", 0x5048, [], .fabric, .sys, 0x0, 0xF000FFFF, 0x0, 0x0, 0x0, 0x0⟩,
  ⟨"TXN_PDAT", 0x504C, [], .fabric, .sys, 0x0, 0x0, 0xFFFFFFFF, 0x0, 0x0, 0x0⟩]

/-- Registers of the DRV block (offsets 0x8000 to 0x9FFF), part 1. -/
def regsDrv0 : List RegDesc := [
  ⟨"Dn_CFG", 0x8000, [(0x400, 8)], .pwm, .nvs, 0x50, 0x0, 0x7F, 0x0, 0x0, 0x0⟩,
  ⟨"Dn_CARR", 0x8004, [(0x400, 8)], .pwm, .nvs, 0x0, 0x0, 0x1FFFF, 0x0, 0x0, 0x0⟩,
  ⟨"Dn_MINPW", 0x8008, [(0x400, 8)], .pwm, .nvs, 0x1900, 0x0, 0xFFFF, 0x0, 0x0, 0x0⟩,
  ⟨"Dn_TRIP", 0x800C, [(0x400, 8)], .pwm, .nvs, 0x100, 0x0, 0x1FF, 0x0, 0x0, 0x0⟩,
  ⟨"Dn_DEADT", 0x8010, [(0x400, 8), (0x4, 3)], .pwm, .nvs, 0x3200, 0x0, 0x1FFFF, 0x0, 0x0, 0x0⟩,
  ⟨"Dn_STAT", 0x8020, [(0x400, 8)], .pwm, .sys, 0x5, 0x0, 0x0, 0xF000, 0x0, 0xFF7⟩,
  ⟨"Dn_TRIPCNT", 0x8024, [(0x400, 8)], .pwm, .sys, 0x0, 0x0, 0x0, 0x0, 0x0, 0xFFFFFFFF⟩,
  ⟨"Dn_ONT", 0x8030, [(0x400, 8), (0x4, 3)], .pwm, .sys, 0x0, 0x0, 0x0, 0x0, 0x0, 0xC0FFFFFF⟩,
  ⟨"Dn_PINS", 0x8040, [(0x400, 8)], .pwm, .sys, 0x0, 0x0, 0x0, 0x0, 0x0, 0xFFF0FFF⟩,
  ⟨"Dn_CMODE", 0x8100, [(0x400, 8)], .pwm, .nvs, 0x1, 0x0, 0x3FB, 0x0, 0x0, 0x0⟩,
  ⟨"Dn_SPDFS", 0x8104, [(0x400, 8)], .pwm, .nvs, 0x205DC, 0x0, 0x3FFFFF, 0x0, 0x0, 0x0⟩,
  ⟨"Dn_RAMP", 0x8108, [(0x400, 8)], .pwm, .nvs, 0x540054, 0x0, 0xFFFFFFFF, 0x0, 0x0, 0x0⟩,
  ⟨"Dn_TLIM", 0x810C, [(0x400, 8)], .pwm, .nvs, 0x40004000, 0x0, 0xFFFFFFFF, 0x0, 0x0, 0x0⟩,
  ⟨"Dn_FW", 0x8110, [(0x400, 8)], .pwm, .nvs, 0x7999, 0x0, 0xFFFFFFFF, 0x0, 0x0, 0x0⟩,
  ⟨"Dn_SOFT", 0x8114, [(0x400, 8)], .pwm, .nvs, 0x2850, 0x0, 0xFFFFFF, 0x0, 0x0, 0x0⟩]

/-- Registers of the DRV block (offsets 0x8000 to 0x9FFF), part 2. -/
def regsDrv1 : List RegDesc := [
  ⟨"Dn_HOSPD", 0x8118, [(0x400, 8)], .pwm, .nvs, 0x4CCD5999, 0x0, 0xFFFFFFFF, 0x0, 0x0, 0x0⟩,
  ⟨"Dn_BUMP", 0x811C, [(0x400, 8)], .pwm, .nvs, 0x100400, 0x0, 0xFFFFFF, 0x0, 0x0, 0x0⟩,
  ⟨"Dn_ZC", 0x8120, [(0x400, 8)], .pwm, .nvs, 0x3640020, 0x0, 0xFFF0FFF, 0x0, 0x0, 0x0⟩,
  ⟨"Dn_CSTAT", 0x8124, [(0x400, 8)], .pwm, .sys, 0x0, 0x0, 0x0, 0xB80, 0x0, 0xFFFF047B⟩,
  ⟨"Dn_ZCTS", 0x8128, [(0x400, 8)], .pwm, .sys, 0x0, 0x0, 0x0, 0x0, 0x0, 0xFFFFFFFF⟩,
  ⟨"Dn_TSEC", 0x812C, [(0x400, 8)], .pwm, .sys, 0x0, 0x0, 0x0, 0x0, 0x0, 0xFFFFFFFF⟩,
  ⟨"Dn_ANGLE", 0x8130, [(0x400, 8)], .pwm, .sys, 0x0, 0x0, 0x0, 0x0, 0x0, 0xFFFFFF⟩,
  ⟨"Dn_IDQ", 0x8134, [(0x400, 8)], .pwm, .sys, 0x0, 0x0, 0x0, 0x0, 0x0, 0xFFFFFFFF⟩,
  ⟨"Dn_START", 0x8200, [(0x400, 8)], .pwm, .nvs, 0x280444, 0x0, 0x3FFFFFF, 0x0, 0x0, 0x0⟩,
  ⟨"Dn_REVMAX", 0x8204, [(0x400, 8)], .pwm, .nvs, 0x1111, 0x0, 0xFFFFFFFF, 0x0, 0x0, 0x0⟩,
  ⟨"Dn_ALIGN", 0x8208, [(0x400, 8)], .pwm, .nvs, 0x200000C8, 0x0, 0xFFFFFFFF, 0x0, 0x0, 0x0⟩,
  ⟨"Dn_IF", 0x820C, [(0x400, 8)], .pwm, .nvs, 0x200000C8, 0x0, 0xFFFFFFFF, 0x0, 0x0, 0x0⟩,
  ⟨"Dn_IFF", 0x8210, [(0x400, 8)], .pwm, .nvs, 0x960032, 0x0, 0xFFFFFFFF, 0x0, 0x0, 0x0⟩,
  ⟨"Dn_EMF", 0x8214, [(0x400, 8)], .pwm, .nvs, 0x10, 0x0, 0xFFF, 0x0, 0x0, 0x0⟩,
  ⟨"Dn_SSTAT", 0x8220, [(0x400, 8)], .pwm, .sys, 0x0, 0x0, 0x0, 0x8000, 0x0, 0xFF007707⟩]

/-- Registers of the DRV block (offsets 0x8000 to 0x9FFF), part 3. -/
def regsDrv2 : List RegDesc := [
  ⟨"Dn_CATCH", 0x8224, [(0x400, 8)], .pwm, .sys, 0x0, 0x0, 0x0, 0x0, 0x0, 0xFFFFFFFF⟩,
  ⟨"Dn_CATCHA", 0x8228, [(0x400, 8)], .pwm, .sys, 0x0, 0x0, 0x0, 0x0, 0x0, 0xFF0FFF⟩,
  ⟨"Dn_DCTH0", 0x8300, [(0x400, 8)], .pwm, .nvs, 0x0, 0x0, 0xFFF0FFF, 0x0, 0x0, 0x0⟩,
  ⟨"Dn_DCTH1", 0x8304, [(0x400, 8)], .pwm, .nvs, 0x0, 0x0, 0xFFF0FFF, 0x0, 0x0, 0x0⟩,
  ⟨"Dn_DCTH2", 0x8308, [(0x400, 8)], .pwm, .nvs, 0x0, 0x0, 0xFFF0FFF, 0x0, 0x0, 0x0⟩,
  ⟨"Dn_BRK", 0x830C, [(0x400, 8)], .pwm, .nvs, 0xA141008, 0x0, 0xFFFFFFFF, 0x0, 0x0, 0x0⟩,
  ⟨"Dn_ASC", 0x8310, [(0x400, 8)], .pwm, .nvs, 0x6404000, 0x0, 0xFFFFFFFF, 0x0, 0x0, 0x0⟩,
  ⟨"Dn_DCSTAT", 0x8314, [(0x400, 8)], .pwm, .sys, 0x0, 0x0, 0x0, 0x7000, 0x0, 0x8FE0⟩,
  ⟨"Dn_DCMEAS", 0x8318, [(0x400, 8)], .pwm, .sys, 0x0, 0x0, 0x0, 0x0, 0x0, 0xFFFFFFFF⟩,
  ⟨"Dn_BRKCNT", 0x831C, [(0x400, 8)], .pwm, .sys, 0x0, 0x0, 0x0, 0x0, 0x0, 0xFFFFFFFF⟩]

/-- Registers of the STP block (offsets 0xA000 to 0xAFFF). -/
def regsStp : List RegDesc := [
  ⟨"Sn_CFG", 0xA000, [(0x200, 8)], .pwm, .nvs, 0x28, 0x0, 0x3F, 0x0, 0x0, 0x0⟩,
  ⟨"Sn_ICUR", 0xA004, [(0x200, 8)], .pwm, .nvs, 0x10004000, 0x0, 0xFFFFFFFF, 0x0, 0x0, 0x0⟩,
  ⟨"Sn_TIM", 0xA008, [(0x200, 8)], .pwm, .nvs, 0x3E801900, 0x0, 0xFFFFFFFF, 0x0, 0x0, 0x0⟩,
  ⟨"Sn_MOTOR", 0xA00C, [(0x200, 8)], .pwm, .nvs, 0x0, 0x0, 0xFFFFFFFF, 0x0, 0x0, 0x0⟩,
  ⟨"Sn_VBR", 0xA010, [(0x200, 8)], .pwm, .nvs, 0xF0, 0x0, 0xFFFF, 0x0, 0x0, 0x0⟩,
  ⟨"Sn_STALL", 0xA014, [(0x200, 8)], .pwm, .nvs, 0x10780200, 0x0, 0xFFFFFFFF, 0x0, 0x0, 0x0⟩,
  ⟨"Sn_HOME", 0xA018, [(0x200, 8)], .pwm, .nvs, 0x20000400, 0x0, 0xFFFFFFFF, 0x0, 0x0, 0x0⟩,
  ⟨"Sn_HOMEX", 0xA01C, [(0x200, 8)], .pwm, .nvs, 0x32000, 0x0, 0x80FFFFFF, 0x0, 0x0, 0x0⟩,
  ⟨"Sn_HOMEPOS", 0xA020, [(0x200, 8)], .pwm, .nvs, 0x0, 0x0, 0xFFFFFFFF, 0x0, 0x0, 0x0⟩,
  ⟨"Sn_BACKOFF", 0xA024, [(0x200, 8)], .pwm, .nvs, 0x100, 0x0, 0xFFFF, 0x0, 0x0, 0x0⟩,
  ⟨"Sn_TABADR", 0xA028, [(0x200, 8)], .pwm, .sys, 0x0, 0x7F, 0x0, 0x0, 0x0, 0x0⟩,
  ⟨"Sn_TABDAT", 0xA02C, [(0x200, 8)], .pwm, .nvs, 0x0, 0x0, 0xFFFFFFFF, 0x0, 0x0, 0x0⟩,
  ⟨"Sn_STAT", 0xA030, [(0x200, 8)], .pwm, .sys, 0x84, 0x0, 0x0, 0x1E00, 0x0, 0x1F7⟩,
  ⟨"Sn_IREF", 0xA034, [(0x200, 8)], .pwm, .sys, 0x0, 0x0, 0x0, 0x0, 0x0, 0xFFFFFFFF⟩,
  ⟨"Sn_LOAD", 0xA038, [(0x200, 8)], .pwm, .sys, 0x0, 0x0, 0x0, 0x0, 0x0, 0xFFFFFFFF⟩]

/-- Registers of the FB block (offsets 0xB000 to 0xBFFF), part 1. -/
def regsFb0 : List RegDesc := [
  ⟨"FBn_CFG", 0xB000, [(0x100, 12)], .feed, .nvs, 0x40000, 0x0, 0xFF0FF803, 0x0, 0x0, 0x0⟩,
  ⟨"FBn_CPR", 0xB004, [(0x100, 12)], .feed, .nvs, 0x4000, 0x0, 0xFFFFFF, 0x0, 0x0, 0x0⟩,
  ⟨"FBn_ANG", 0xB008, [(0x100, 12)], .feed, .nvs, 0x0, 0x0, 0xFFFF, 0x0, 0x0, 0x0⟩,
  ⟨"FBn_SPDCFG", 0xB00C, [(0x100, 12)], .feed, .nvs, 0x640000F, 0x0, 0xFFF003F, 0x0, 0x0, 0x0⟩,
  ⟨"FBn_IDXTOL", 0xB010, [(0x100, 12)], .feed, .nvs, 0x4, 0x0, 0xFFFF, 0x0, 0x0, 0x0⟩,
  ⟨"FBn_SSI", 0xB014, [(0x100, 12)], .feed, .nvs, 0x1E0A8196, 0x0, 0xFFFFFFFF, 0x0, 0x0, 0x0⟩,
  ⟨"FBn_SSICHK", 0xB018, [(0x100, 12)], .feed, .nvs, 0x3030086, 0x0, 0xFFFFFFFF, 0x0, 0x0, 0x0⟩,
  ⟨"FBn_POS", 0xB020, [(0x100, 12)], .feed, .sys, 0x0, 0x0, 0x0, 0x0, 0x0, 0xFFFFFFFF⟩,
  ⟨"FBn_IDXLAT", 0xB024, [(0x100, 12)], .feed, .sys, 0x0, 0x0, 0x0, 0x0, 0x0, 0xFFFFFFFF⟩,
  ⟨"FBn_IDXREF", 0xB028, [(0x100, 12)], .feed, .sys, 0x0, 0x0, 0x0, 0x0, 0x0, 0xFFFFFFFF⟩,
  ⟨"FBn_STAT", 0xB02C, [(0x100, 12)], .feed, .sys, 0x40, 0x0, 0x0, 0xFE00, 0x0, 0xFF⟩,
  ⟨"FBn_ERRCNT", 0xB030, [(0x100, 12)], .feed, .sys, 0x0, 0x0, 0x0, 0x0, 0x0, 0xFFFFFFFF⟩,
  ⟨"FBn_SSICNT", 0xB034, [(0x100, 12)], .feed, .sys, 0x0, 0x0, 0x0, 0x0, 0x0, 0xFFFFFFFF⟩,
  ⟨"FBn_SPDk", 0xB038, [(0x100, 12), (0x4, 3)], .feed, .sys, 0x0, 0x0, 0x0, 0x0, 0x0, 0xFFFFFFFF⟩,
  ⟨"FBn_EDGET", 0xB044, [(0x100, 12)], .feed, .sys, 0x0, 0x0, 0x0, 0x0, 0x0, 0xFFFFFFFF⟩]

/-- Registers of the FB block (offsets 0xB000 to 0xBFFF), part 2. -/
def regsFb1 : List RegDesc := [
  ⟨"FBn_CMPCTL", 0xB050, [(0x100, 12)], .feed, .nvs, 0x5, 0x0, 0xE001FFFF, 0x0, 0x0, 0x0⟩,
  ⟨"FBn_CMPSTAT", 0xB054, [(0x100, 12)], .feed, .sys, 0x0, 0x0, 0x0, 0x0, 0x0, 0xFFFFFF0F⟩,
  ⟨"FBn_EMU", 0xB058, [(0x100, 12)], .feed, .nvs, 0x10001, 0x0, 0xFFFFFFFF, 0x0, 0x0, 0x0⟩,
  ⟨"FBn_EMUCFG", 0xB05C, [(0x100, 12)], .feed, .nvs, 0x5, 0x0, 0x8F0000FF, 0x0, 0x0, 0x0⟩,
  ⟨"FBn_EMUSTAT", 0xB060, [(0x100, 12)], .feed, .sys, 0x0, 0x0, 0x0, 0x0, 0x0, 0x1FFFF⟩,
  ⟨"FBn_CMPPOS", 0xB080, [(0x100, 12), (0x8, 16)], .feed, .nvs, 0x0, 0x0, 0xFFFFFFFF, 0x0, 0x0, 0x0⟩,
  ⟨"FBn_CMPMODE", 0xB084, [(0x100, 12), (0x8, 16)], .feed, .nvs, 0x0, 0x0, 0x80000003, 0x0, 0x0, 0x0⟩]

/-- Registers of the AFE block (offsets 0xC000 to 0xCFFF), part 1. -/
def regsAfe0 : List RegDesc := [
  ⟨"AFE_MCLK", 0xC000, [(0x4, 4)], .afe, .nvs, 0xA, 0x0, 0x7F3F, 0x0, 0x0, 0x0⟩,
  ⟨"AFE_OSR", 0xC010, [], .afe, .nvs, 0xAAAAAAAA, 0x0, 0xFFFFFFFF, 0x0, 0x0, 0x0⟩,
  ⟨"AFE_OCTH", 0xC020, [(0x4, 16)], .afe, .nvs, 0xF0, 0x0, 0x7FF, 0x0, 0x0, 0x0⟩,
  ⟨"AFE_ISC", 0xC060, [(0x4, 8)], .afe, .nvs, 0x0, 0x0, 0xFFFF, 0x0, 0x0, 0x0⟩,
  ⟨"AFE_VSC", 0xC080, [(0x4, 8)], .afe, .nvs, 0x0, 0x0, 0xFFF0FFF, 0x0, 0x0, 0x0⟩,
  ⟨"AFE_SISC", 0xC0A0, [(0x4, 8)], .afe, .nvs, 0x0, 0x0, 0xFFFF, 0x0, 0x0, 0x0⟩,
  ⟨"AFE_PB", 0xC0C0, [(0x4, 8)], .afe, .nvs, 0x140000, 0x0, 0xFFFFFF, 0x0, 0x0, 0x0⟩,
  ⟨"AFE_SLOW", 0xC0E0, [], .afe, .nvs, 0x2000000, 0x0, 0x3FFFFFF, 0x0, 0x0, 0x0⟩,
  ⟨"AFE_LSTAT", 0xC100, [], .afe, .sys, 0xFFF004, 0x0, 0x0, 0x0, 0x0, 0xFFF00F⟩,
  ⟨"AFE_LRET_LO", 0xC104, [], .afe, .sys, 0x0, 0x0, 0x0, 0x0, 0x0, 0xFFFFFFFF⟩,
  ⟨"AFE_LRET_HI", 0xC108, [], .afe, .sys, 0x0, 0x0, 0x0, 0x0, 0x0, 0xFFF⟩,
  ⟨"AFE_SARSTAT", 0xC110, [], .afe, .sys, 0x2, 0x0, 0x0, 0x0, 0x0, 0xFFFF0073⟩,
  ⟨"AFE_SARCAL", 0xC114, [(0x4, 3)], .afe, .sys, 0x0, 0x0, 0x0, 0x0, 0x0, 0xFFFFFFFF⟩,
  ⟨"AFE_LMAP", 0xC300, [(0x4, 40)], .afe, .sys, 0x0, 0x0, 0x0, 0x0, 0x0, 0xFFFF00BF⟩,
  ⟨"AFE_IOFS", 0xC180, [(0x4, 8)], .afe, .sys, 0x0, 0x0, 0x0, 0x0, 0x0, 0xFFFFFFFF⟩]

/-- Registers of the AFE block (offsets 0xC000 to 0xCFFF), part 2. -/
def regsAfe1 : List RegDesc := [
  ⟨"AFE_SIOFS", 0xC1A0, [(0x4, 8)], .afe, .sys, 0x0, 0x0, 0x0, 0x0, 0x0, 0xFFFFFFFF⟩,
  ⟨"AFE_GCHK", 0xC1C0, [(0x4, 8)], .afe, .sys, 0x8080, 0x0, 0x0, 0x0, 0x0, 0xFFFFFFFF⟩,
  ⟨"AFE_WSTAT", 0xC1E0, [], .afe, .sys, 0x0, 0x0, 0x0, 0xFFFFFF00, 0x0, 0x0⟩,
  ⟨"AFE_TBIN", 0xC1E4, [], .afe, .sys, 0x0, 0x0, 0x0, 0x0, 0x0, 0xFFFF⟩,
  ⟨"AFE_DIE", 0xC200, [(0x4, 6)], .afe, .sys, 0x0, 0x0, 0x0, 0x0, 0x0, 0xFFFF⟩,
  ⟨"AFE_AIN", 0xC220, [(0x4, 24)], .afe, .sys, 0x0, 0x0, 0x0, 0x0, 0x0, 0x8000FFFF⟩,
  ⟨"AFE_STUCK_LO", 0xC280, [], .afe, .sys, 0x0, 0x0, 0x0, 0xFFFFFFFF, 0x0, 0x0⟩,
  ⟨"AFE_STUCK_HI", 0xC284, [], .afe, .sys, 0x0, 0x0, 0x0, 0xFF, 0x0, 0x0⟩]

/-- Registers of the LE block (offsets 0xD000 to 0xD3FF), part 1. -/
def regsLe0 : List RegDesc := [
  ⟨"LE_CTL", 0xD000, [], .fabric, .nvs, 0x3, 0x0, 0x3, 0x0, 0x0, 0x0⟩,
  ⟨"LE_PSTAT", 0xD004, [], .fabric, .sys, 0x0, 0x0, 0x0, 0x0, 0x0, 0x7FFF⟩,
  ⟨"LE_DMAP", 0xD008, [], .fabric, .sys, 0xFFFFFFFF, 0x0, 0x0, 0x0, 0x0, 0xFFFFFFFF⟩,
  ⟨"LE_SMAP", 0xD00C, [], .fabric, .sys, 0xFFFFFFFF, 0x0, 0x0, 0x0, 0x0, 0xFFFFFFFF⟩,
  ⟨"LE_ERR", 0xD010, [(0x4, 5)], .fabric, .sys, 0x0, 0x0, 0x0, 0x0, 0x0, 0xFFFFFFFF⟩,
  ⟨"LE_PRIO", 0xD040, [(0x4, 16)], .fabric, .nvs, 0x80, 0x0, 0xFF, 0x0, 0x0, 0x0⟩,
  ⟨"LE_SATCNT", 0xD080, [(0x4, 16)], .fabric, .sys, 0x0, 0x0, 0x0, 0x0, 0x0, 0xFFFFFFFF⟩,
  ⟨"LE_CKFN", 0xD0C0, [(0x4, 16)], .fabric, .sys, 0x0, 0x0, 0x0, 0x0, 0x0, 0xFFFFFFFF⟩,
  ⟨"LE_CWCNT", 0xD100, [], .fabric, .sys, 0x0, 0x0, 0x0, 0x0, 0x0, 0xFFFFFFFF⟩,
  ⟨"Dn_SUPCFG", 0xD200, [(0x20, 8)], .fabric, .nvs, 0x10402841, 0x0, 0xFFFFFFF1, 0x0, 0x0, 0x0⟩,
  ⟨"Dn_SUPTH", 0xD204, [(0x20, 8)], .fabric, .nvs, 0x6660CCD, 0x0, 0xFFFFFFFF, 0x0, 0x0, 0x0⟩,
  ⟨"Dn_SUPSTAT", 0xD208, [(0x20, 8)], .fabric, .sys, 0x0, 0x0, 0x0, 0x8, 0x0, 0xFF0000F7⟩,
  ⟨"Dn_SUPRES", 0xD20C, [(0x20, 8)], .fabric, .sys, 0x0, 0x0, 0x0, 0x0, 0x0, 0xFFFFFFFF⟩,
  ⟨"Dn_SUPPK", 0xD210, [(0x20, 8)], .fabric, .sys, 0x0, 0x0, 0x0, 0x0, 0x0, 0xFFFFFFFF⟩,
  ⟨"Dn_SUPCNT", 0xD214, [(0x20, 8)], .fabric, .sys, 0x0, 0x0, 0x0, 0x0, 0x0, 0xFFFFFFFF⟩]

/-- Registers of the LE block (offsets 0xD000 to 0xD3FF), part 2. -/
def regsLe1 : List RegDesc := [
  ⟨"LE_INJCFG", 0xD300, [(0x20, 5)], .fabric, .sys, 0x0, 0xFFF8FFFF, 0x0, 0x0, 0x0, 0x0⟩,
  ⟨"LE_INJF", 0xD304, [(0x20, 5)], .fabric, .sys, 0x0, 0xFFFFFFFF, 0x0, 0x0, 0x0, 0x0⟩,
  ⟨"LE_INJAMP", 0xD308, [(0x20, 5)], .fabric, .sys, 0x0, 0xFFFFFFFF, 0x0, 0x0, 0x0, 0x0⟩,
  ⟨"LE_INJDUR", 0xD30C, [(0x20, 5)], .fabric, .sys, 0x0, 0xFFFFFF, 0x0, 0x0, 0x0, 0x0⟩,
  ⟨"LE_CAPCFG", 0xD310, [(0x20, 5)], .fabric, .sys, 0x0, 0xF80000FF, 0x0, 0x0, 0x0, 0x0⟩,
  ⟨"LE_CAPSEL", 0xD314, [(0x20, 5)], .fabric, .sys, 0xC000C00, 0xFFFFFFFF, 0x0, 0x0, 0x0, 0x0⟩,
  ⟨"LE_CAPTRIG", 0xD318, [(0x20, 5)], .fabric, .sys, 0x0, 0x7FFFFFFF, 0x0, 0x0, 0x0, 0x0⟩,
  ⟨"LE_CAPSTAT", 0xD31C, [(0x20, 5)], .fabric, .sys, 0x0, 0x0, 0x0, 0x0, 0x0, 0xFF0FFFFF⟩]

/-- Registers of the MPG block (offsets 0xD400 to 0xDFFF). -/
def regsMpg : List RegDesc := [
  ⟨"MPG_CFG", 0xD400, [(0x40, 16)], .fabric, .nvs, 0x0, 0x0, 0xF3, 0x0, 0x0, 0x0⟩,
  ⟨"MPG_VMAX", 0xD404, [(0x40, 16)], .fabric, .nvs, 0x100000, 0x0, 0xFFFFFFFF, 0x0, 0x0, 0x0⟩,
  ⟨"MPG_AMAX", 0xD408, [(0x40, 16)], .fabric, .nvs, 0x147AE, 0x0, 0xFFFFFFFF, 0x0, 0x0, 0x0⟩,
  ⟨"MPG_DMAX", 0xD40C, [(0x40, 16)], .fabric, .nvs, 0x147AE, 0x0, 0xFFFFFFFF, 0x0, 0x0, 0x0⟩,
  ⟨"MPG_JMAX", 0xD410, [(0x40, 16)], .fabric, .nvs, 0x68DC, 0x0, 0xFFFFFFFF, 0x0, 0x0, 0x0⟩,
  ⟨"MPG_DSTOP", 0xD414, [(0x40, 16)], .fabric, .nvs, 0x28F5C, 0x0, 0xFFFFFFFF, 0x0, 0x0, 0x0⟩,
  ⟨"MPG_STAT", 0xD418, [(0x40, 16)], .fabric, .sys, 0x0, 0x0, 0x0, 0x0, 0x0, 0xFFFF1F07⟩,
  ⟨"MPG_PREF", 0xD41C, [(0x40, 16)], .fabric, .sys, 0x0, 0x0, 0x0, 0x0, 0x0, 0xFFFFFFFF⟩,
  ⟨"MPG_REM", 0xD420, [(0x40, 16)], .fabric, .sys, 0x0, 0x0, 0x0, 0x0, 0x0, 0xFFFFFFFF⟩,
  ⟨"MPG_VREF", 0xD424, [(0x40, 16)], .fabric, .sys, 0x0, 0x0, 0x0, 0x0, 0x0, 0xFFFFFFFF⟩,
  ⟨"MPG_AREF", 0xD428, [(0x40, 16)], .fabric, .sys, 0x0, 0x0, 0x0, 0x0, 0x0, 0xFFFFFFFF⟩]

/-- Registers of the SHR block (offsets 0xE000 to 0xE0FF). -/
def regsShr : List RegDesc := [
  ⟨"SHR_Gg_CFG", 0xE000, [(0x40, 4)], .fabric, .nvs, 0x6661010, 0x0, 0xFFFFFF13, 0x0, 0x0, 0x0⟩,
  ⟨"SHR_Gg_MEM", 0xE004, [(0x40, 4)], .fabric, .nvs, 0x0, 0x0, 0xFFFFFFFF, 0x0, 0x0, 0x0⟩,
  ⟨"SHR_Gg_WT", 0xE008, [(0x40, 4), (0x4, 4)], .fabric, .nvs, 0x0, 0x0, 0xFFFFFFFF, 0x0, 0x0, 0x0⟩,
  ⟨"SHR_Gg_DROOP", 0xE018, [(0x40, 4)], .fabric, .nvs, 0x1E1E1E1E, 0x0, 0xFFFFFFFF, 0x0, 0x0, 0x0⟩,
  ⟨"SHR_Gg_BAL", 0xE01C, [(0x40, 4)], .fabric, .nvs, 0x6660020, 0x0, 0xFFFFFFFF, 0x0, 0x0, 0x0⟩,
  ⟨"SHR_Gg_STAT", 0xE020, [(0x40, 4)], .fabric, .sys, 0x0, 0x0, 0x0, 0x8000, 0x0, 0xFFFF03FF⟩,
  ⟨"SHR_Gg_LOAD", 0xE024, [(0x40, 4)], .fabric, .sys, 0x0, 0x0, 0x0, 0x0, 0x0, 0xFFFFFFFF⟩,
  ⟨"SHR_Gg_SHARE", 0xE028, [(0x40, 4), (0x4, 2)], .fabric, .sys, 0x0, 0x0, 0x0, 0x0, 0x0, 0xFFFFFFFF⟩]

/-- Registers of the THM block (offsets 0xE100 to 0xFFFF), part 1. -/
def regsThm0 : List RegDesc := [
  ⟨"THM_Dn_STAT", 0xE300, [(0x4, 8)], .fabric, .sys, 0x80000000, 0x0, 0x0, 0xE000, 0x0, 0xFFFF1E3C⟩,
  ⟨"THM_Sn_CFG", 0xE320, [(0x4, 8)], .fabric, .nvs, 0x648200, 0x0, 0x8FFFFF00, 0x0, 0x0, 0x0⟩,
  ⟨"THM_Dn_CFG", 0xE100, [(0x40, 8)], .fabric, .nvs, 0x0, 0x0, 0xFFFB, 0x0, 0x0, 0x0⟩,
  ⟨"THM_Dn_LEG", 0xE104, [(0x40, 8)], .fabric, .nvs, 0x0, 0x0, 0xFFFFFFFF, 0x0, 0x0, 0x0⟩,
  ⟨"THM_Dn_SW", 0xE108, [(0x40, 8)], .fabric, .nvs, 0x0, 0x0, 0xFFFFFFFF, 0x0, 0x0, 0x0⟩,
  ⟨"THM_Dn_REF", 0xE10C, [(0x40, 8)], .fabric, .nvs, 0x280, 0x0, 0xFFF0FFFF, 0x0, 0x0, 0x0⟩,
  ⟨"THM_Dn_FST", 0xE110, [(0x40, 8), (0x4, 4)], .fabric, .nvs, 0x0, 0x0, 0xFFFFFFFF, 0x0, 0x0, 0x0⟩,
  ⟨"THM_Dn_WR", 0xE120, [(0x40, 8)], .fabric, .nvs, 0x0, 0x0, 0xFFFFFFFF, 0x0, 0x0, 0x0⟩,
  ⟨"THM_Dn_WC", 0xE124, [(0x40, 8)], .fabric, .nvs, 0x0, 0x0, 0xFFFFFFFF, 0x0, 0x0, 0x0⟩,
  ⟨"THM_Dn_WS", 0xE128, [(0x40, 8)], .fabric, .nvs, 0x280, 0x0, 0xFFFFFFFF, 0x0, 0x0, 0x0⟩,
  ⟨"THM_Dn_FE", 0xE12C, [(0x40, 8)], .fabric, .nvs, 0x0, 0x0, 0xFFFFFFFF, 0x0, 0x0, 0x0⟩,
  ⟨"THM_Dn_LIMS", 0xE130, [(0x40, 8)], .fabric, .nvs, 0x6E879619, 0x0, 0xFFFFFFFF, 0x0, 0x0, 0x0⟩,
  ⟨"THM_Dn_LIMW", 0xE134, [(0x40, 8)], .fabric, .nvs, 0x8C9BAA32, 0x0, 0xFFFFFFFF, 0x0, 0x0, 0x0⟩,
  ⟨"THM_Dn_RATE", 0xE138, [(0x40, 8)], .fabric, .nvs, 0x3E80320A, 0x0, 0xFFFFFFFF, 0x0, 0x0, 0x0⟩,
  ⟨"THM_Dn_TEMP", 0xE13C, [(0x40, 8)], .fabric, .sys, 0x0, 0x0, 0x0, 0x0, 0x0, 0xFFFFFFFF⟩]

/-- Registers of the THM block (offsets 0xE100 to 0xFFFF), part 2. -/
def regsThm1 : List RegDesc := [
  ⟨"THM_OVRD", 0xE380, [], .fabric, .sys, 0x0, 0x0, 0x0, 0x0, 0x0, 0x1⟩,
  ⟨"THM_OVRCNT", 0xE384, [], .fabric, .sys, 0x0, 0x0, 0x0, 0x0, 0x0, 0xFFFFFFFF⟩,
  ⟨"THM_DIEW", 0xE388, [], .fabric, .nvs, 0x7D, 0x0, 0xFF, 0x0, 0x0, 0x0⟩,
  ⟨"THM_DSTAT", 0xE38C, [], .fabric, .sys, 0x0, 0x0, 0x0, 0x1, 0x0, 0xFFFF0000⟩,
  ⟨"THM_NTC", 0xE390, [(0x4, 16)], .fabric, .nvs, 0xD6B03E8, 0x0, 0xFFFFFFFF, 0x0, 0x0, 0x0⟩,
  ⟨"THM_NTCT", 0xE3D0, [(0x4, 16)], .fabric, .sys, 0x0, 0x0, 0x0, 0x0, 0x0, 0x8000FFFF⟩]

/-- Registers of the HASP block (offsets 0x10000 to 0x10FFF). -/
def regsHasp : List RegDesc := [
  ⟨"HASP_STOSTAT", 0x10080, [(0x4, 4)], .safe, .sys, 0x0, 0x0, 0x0, 0x0, 0x0, 0x3FF3FFF⟩,
  ⟨"HASP_STAT", 0x10000, [], .safe, .sys, 0x0, 0x0, 0x0, 0x0, 0x0, 0xFF0F⟩,
  ⟨"HASP_PCRC", 0x10004, [], .safe, .sys, 0x0, 0x0, 0x0, 0x0, 0x0, 0xFFFFFFFF⟩,
  ⟨"HASP_TP", 0x10008, [], .safe, .nvs, 0xA00C8, 0x0, 0x0, 0x0, 0x0, 0xFFFFFFFF⟩,
  ⟨"HASP_MAP", 0x1000C, [], .safe, .nvs, 0x0, 0x0, 0x0, 0x0, 0x0, 0xFFFFFFFF⟩,
  ⟨"HASP_STOCFG", 0x10010, [(0x4, 4)], .safe, .nvs, 0x3C3203E8, 0x0, 0x0, 0x0, 0x0, 0xFFFFFFFF⟩,
  ⟨"HASP_SDICFG", 0x10020, [(0x4, 8)], .safe, .nvs, 0x190000, 0x0, 0x0, 0x0, 0x0, 0xFFFFFF00⟩,
  ⟨"HASP_SLMAP", 0x10040, [(0x4, 8)], .safe, .nvs, 0x0, 0x0, 0x0, 0x0, 0x0, 0xFFFFFFFF⟩,
  ⟨"HASP_DEGT", 0x10060, [(0x4, 8)], .safe, .nvs, 0xF0, 0x0, 0x0, 0x0, 0x0, 0x1FFF⟩,
  ⟨"HASP_SDISTAT", 0x10090, [], .safe, .sys, 0x0, 0x0, 0x0, 0x0, 0x0, 0xFFFFFFFF⟩,
  ⟨"HASP_GEN", 0x10094, [], .safe, .sys, 0x0, 0x0, 0x0, 0x0, 0x0, 0xFFFF⟩,
  ⟨"HASP_DEGLEFT", 0x10098, [], .safe, .sys, 0xFFFFFFFF, 0x0, 0x0, 0x0, 0x0, 0xFFFFFFFF⟩,
  ⟨"HASP_TPCNT", 0x100A0, [(0x4, 4)], .safe, .sys, 0x0, 0x0, 0x0, 0x0, 0x0, 0xFFFFFFFF⟩]

/-- Registers of the SLL block (offsets 0x11000 to 0x11FFF). -/
def regsSll : List RegDesc := [
  ⟨"SLL_CFG", 0x11000, [], .fabric, .nvs, 0xBEDC0000, 0x0, 0x0, 0x0, 0x0, 0xFFFFFF01⟩,
  ⟨"SLL_STAT", 0x11004, [], .fabric, .sys, 0x0, 0x0, 0x0, 0x0, 0x0, 0xFFFFFF3F⟩,
  ⟨"SLL_MCID", 0x11008, [], .fabric, .nvs, 0x0, 0x0, 0x0, 0x0, 0x0, 0xFFFFFFFF⟩,
  ⟨"SLL_WINSEL", 0x1100C, [], .fabric, .sys, 0x0, 0x13F, 0x0, 0x0, 0x0, 0x0⟩,
  ⟨"SLL_WINDAT", 0x11010, [(0x4, 12)], .fabric, .sys, 0x0, 0x0, 0x0, 0x0, 0x0, 0xFFFFFFFF⟩,
  ⟨"SLL_SESs_CFG", 0x11120, [(0x20, 63)], .fabric, .nvs, 0x430, 0x0, 0x0, 0x0, 0x0, 0xFFFCFFF0⟩,
  ⟨"SLL_SESs_CID", 0x11124, [(0x20, 63)], .fabric, .nvs, 0x0, 0x0, 0x0, 0x0, 0x0, 0xFFFFFFFF⟩,
  ⟨"SLL_SESs_TIM", 0x11128, [(0x20, 63)], .fabric, .nvs, 0x0, 0x0, 0x0, 0x0, 0x0, 0xFFFFFF00⟩,
  ⟨"SLL_SESs_WD", 0x1112C, [(0x20, 63)], .fabric, .nvs, 0x64, 0x0, 0x0, 0x0, 0x0, 0xFFFF⟩,
  ⟨"SLL_SESs_ADDR", 0x11130, [(0x20, 63)], .fabric, .nvs, 0x0, 0x0, 0x0, 0x0, 0x0, 0xFFFFFFFF⟩,
  ⟨"SLL_SESs_VLAN", 0x11134, [(0x20, 63)], .fabric, .nvs, 0xE000, 0x0, 0x0, 0x0, 0x0, 0xEFFF⟩,
  ⟨"SLL_SESs_ST", 0x11138, [(0x20, 63)], .fabric, .sys, 0x0, 0x0, 0x0, 0x0, 0x0, 0xFFFF3FF7⟩,
  ⟨"SLL_SESs_CNT", 0x1113C, [(0x20, 63)], .fabric, .sys, 0x0, 0x0, 0x0, 0x0, 0x0, 0xFFFFFFFF⟩]

/-- Registers of the WARD block (offsets 0x12000 to 0x12FFF). -/
def regsWard : List RegDesc := [
  ⟨"WARD_CFG", 0x12000, [], .fabric, .nvs, 0x4, 0x0, 0xF, 0x0, 0x0, 0x0⟩,
  ⟨"WARD_CNT", 0x12004, [(0x4, 7)], .fabric, .sys, 0x0, 0x0, 0x0, 0x0, 0x0, 0xFFFFFFFF⟩,
  ⟨"WARD_LAST", 0x12020, [], .fabric, .sys, 0x0, 0x0, 0x0, 0x0, 0x0, 0xFFFFFFFF⟩,
  ⟨"WARD_BANK", 0x12024, [], .fabric, .sys, 0x3F, 0x0, 0x0, 0x0, 0x0, 0xFFFF003F⟩,
  ⟨"WARD_FBLK", 0x12028, [], .fabric, .sys, 0x0, 0x0, 0x0, 0x0, 0x0, 0xFFFFFFFF⟩,
  ⟨"WARD_SPARE", 0x1202C, [], .fabric, .sys, 0x46C1F, 0x0, 0x0, 0x0, 0x0, 0x77F1F⟩]

/-- Registers of the MIR block (offsets 0x13000 to 0x13FFF). -/
def regsMir : List RegDesc := [
  ⟨"MIR_CFG", 0x13000, [], .mir, .nvs, 0x4001, 0x0, 0xFF01, 0x0, 0x0, 0x0⟩,
  ⟨"MIR_CHMAP", 0x13004, [], .mir, .nvs, 0xFFFF, 0x0, 0xFFFF, 0x0, 0x0, 0x0⟩,
  ⟨"MIR_STAT", 0x13008, [], .mir, .sys, 0x0, 0x0, 0x0, 0x0, 0x0, 0xF0F0737⟩,
  ⟨"MIR_CNT", 0x1300C, [], .mir, .sys, 0x0, 0x0, 0x0, 0x0, 0x0, 0xFFFFFFFF⟩,
  ⟨"MIR_LINK", 0x13010, [], .mir, .sys, 0x0, 0x0, 0x0, 0x0, 0x0, 0xFFFFFFFF⟩,
  ⟨"MIR_TKO", 0x13014, [], .mir, .sys, 0x0, 0x0, 0x0, 0x0, 0x0, 0xFFFFFF0F⟩,
  ⟨"MIR_CFGCRC", 0x13018, [(0x4, 2)], .mir, .sys, 0x0, 0x0, 0x0, 0x0, 0x0, 0xFFFFFFFF⟩,
  ⟨"MIR_POSOFS", 0x13040, [(0x4, 12)], .mir, .sys, 0x0, 0x0, 0x0, 0x0, 0x0, 0xFFFFFFFF⟩]

/-- Registers of the CAN block (offsets 0x14000 to 0x15FFF), part 1. -/
def regsCan0 : List RegDesc := [
  ⟨"CANn_CFG", 0x14000, [(0x800, 4)], .comm, .nvs, 0x4000000, 0x0, 0xFFFF7F00, 0x0, 0x0, 0x0⟩,
  ⟨"CANn_CTL", 0x14004, [(0x800, 4)], .comm, .sys, 0x0, 0x0, 0x0, 0x0, 0x1, 0x0⟩,
  ⟨"CANn_NBT", 0x14008, [(0x800, 4)], .comm, .nvs, 0x1F7E1F, 0x0, 0xFFFFFF7F, 0x0, 0x0, 0x0⟩,
  ⟨"CANn_DBT", 0x1400C, [(0x800, 4)], .comm, .nvs, 0x991C, 0x0, 0x1FFF1F, 0x0, 0x0, 0x0⟩,
  ⟨"CANn_TDC", 0x14010, [(0x800, 4)], .comm, .nvs, 0x9E00, 0x0, 0xFF00, 0x0, 0x0, 0x0⟩,
  ⟨"CANn_STAT", 0x14014, [(0x800, 4)], .comm, .sys, 0x0, 0x0, 0x0, 0x100, 0x0, 0xFF000E8F⟩,
  ⟨"CANn_ECNT", 0x14018, [(0x800, 4)], .comm, .sys, 0x0, 0x0, 0x0, 0x0, 0x0, 0xFFFFFF⟩,
  ⟨"CANn_CNT", 0x1401C, [(0x800, 4)], .comm, .sys, 0x0, 0x0, 0x0, 0x0, 0x0, 0xFFFFFFFF⟩,
  ⟨"CANn_TXSTAT", 0x14020, [(0x800, 4)], .comm, .sys, 0x0, 0x0, 0x0, 0x0, 0x0, 0xFFFF01FF⟩,
  ⟨"CANn_WAKEID", 0x14024, [(0x800, 4)], .comm, .nvs, 0x0, 0x0, 0x5FFFFFFF, 0x0, 0x0, 0x0⟩,
  ⟨"CANn_WAKEM", 0x14028, [(0x800, 4)], .comm, .nvs, 0x1FFFFFFF, 0x0, 0x1FFFFFFF, 0x0, 0x0, 0x0⟩,
  ⟨"CANn_WAKED", 0x1402C, [(0x800, 4)], .comm, .nvs, 0x0, 0x0, 0x1FFFF, 0x0, 0x0, 0x0⟩,
  ⟨"CANn_FLTSEL", 0x14030, [(0x800, 4)], .comm, .sys, 0x0, 0x800000FF, 0x0, 0x0, 0x0, 0x0⟩,
  ⟨"CANn_FLTDAT", 0x14034, [(0x800, 4)], .comm, .nvs, 0x0, 0x0, 0xFFFFFFFF, 0x0, 0x0, 0x0⟩,
  ⟨"CANn_RXF", 0x14040, [(0x800, 4), (0x4, 2)], .comm, .sys, 0x0, 0x0, 0x0, 0x0, 0xFF000000, 0xFF003F⟩]

/-- Registers of the CAN block (offsets 0x14000 to 0x15FFF), part 2. -/
def regsCan1 : List RegDesc := [
  ⟨"CANn_RXW", 0x14100, [(0x800, 4), (0x80, 2), (0x4, 21)], .comm, .sys, 0x0, 0x0, 0x0, 0x0, 0x0, 0xFFFFFFFF⟩]

/-- Registers of the LODE block (offsets 0x16000 to 0x17FFF), part 1. -/
def regsLode0 : List RegDesc := [
  ⟨"LODE_CFG", 0x16000, [], .comm, .nvs, 0x0, 0x0, 0xF, 0x0, 0x0, 0x0⟩,
  ⟨"LODE_MAC_LO", 0x16004, [], .comm, .nvs, 0x0, 0x0, 0xFFFFFFFF, 0x0, 0x0, 0x0⟩,
  ⟨"LODE_MAC_HI", 0x16008, [], .comm, .nvs, 0x0, 0x0, 0xFFFF, 0x0, 0x0, 0x0⟩,
  ⟨"LODE_IP", 0x1600C, [], .comm, .nvs, 0x0, 0x0, 0xFFFFFFFF, 0x0, 0x0, 0x0⟩,
  ⟨"LODE_MDIO", 0x16010, [], .comm, .sys, 0x0, 0x7F1FFFFF, 0x0, 0x0, 0x80000000, 0x0⟩,
  ⟨"LODE_MDIOST", 0x16014, [], .comm, .sys, 0x0, 0x0, 0x0, 0x0, 0x0, 0x8000FFFF⟩,
  ⟨"LODE_PCPQ", 0x16018, [], .comm, .nvs, 0xFAC688, 0x0, 0xFFFFFF, 0x0, 0x0, 0x0⟩,
  ⟨"LODE_TELCFG", 0x1601C, [], .comm, .nvs, 0x0, 0x0, 0xFFFFFF, 0x0, 0x0, 0x0⟩,
  ⟨"LODE_TELADDR", 0x16020, [], .comm, .nvs, 0x0, 0x0, 0xFFFFFFFF, 0x0, 0x0, 0x0⟩,
  ⟨"LODE_TELPORT", 0x16024, [], .comm, .nvs, 0x0, 0x0, 0x7FFFFFFF, 0x0, 0x0, 0x0⟩,
  ⟨"LODE_VLAN", 0x16400, [(0x4, 64)], .comm, .nvs, 0x0, 0x0, 0x80070FFF, 0x0, 0x0, 0x0⟩,
  ⟨"LODE_Pk_CFG", 0x16100, [(0x40, 2)], .comm, .nvs, 0x20000001, 0x0, 0xEC000FFF, 0x0, 0x0, 0x0⟩,
  ⟨"LODE_Pk_STAT", 0x16104, [(0x40, 2)], .comm, .sys, 0x0, 0x0, 0x0, 0x8000000, 0x0, 0xB000FFFF⟩,
  ⟨"LODE_Pk_GCLCFG", 0x16108, [(0x40, 2)], .comm, .nvs, 0x0, 0x0, 0x807F0000, 0x0, 0x0, 0x0⟩,
  ⟨"LODE_Pk_CYCLE", 0x1610C, [(0x40, 2)], .comm, .nvs, 0xF424, 0x0, 0x3FFFFFFF, 0x0, 0x0, 0x0⟩]

/-- Registers of the LODE block (offsets 0x16000 to 0x17FFF), part 2. -/
def regsLode1 : List RegDesc := [
  ⟨"LODE_Pk_BASE", 0x16110, [(0x40, 2)], .comm, .nvs, 0x0, 0x0, 0x3FFFFFFF, 0x0, 0x0, 0x0⟩,
  ⟨"LODE_Pk_GCLSEL", 0x16114, [(0x40, 2)], .comm, .sys, 0x0, 0x3F, 0x0, 0x0, 0x0, 0x0⟩,
  ⟨"LODE_Pk_GCLDAT", 0x16118, [(0x40, 2)], .comm, .nvs, 0x0, 0x0, 0xFFFFFFFF, 0x0, 0x0, 0x0⟩,
  ⟨"LODE_Pk_CNT", 0x1611C, [(0x40, 2)], .comm, .sys, 0x0, 0x0, 0x0, 0x0, 0x0, 0xFFFFFFFF⟩,
  ⟨"LODE_PTPCFG", 0x16200, [], .comm, .nvs, 0x300, 0x0, 0xF03, 0x0, 0x0, 0x0⟩,
  ⟨"LODE_PTPSTAT", 0x16204, [], .comm, .sys, 0x0, 0x0, 0x0, 0x0, 0x0, 0x8FFFFFFF⟩,
  ⟨"LODE_PTPNS_LO", 0x16208, [], .comm, .sys, 0x0, 0x0, 0x0, 0x0, 0x0, 0xFFFFFFFF⟩,
  ⟨"LODE_PTPNS_HI", 0x1620C, [], .comm, .sys, 0x0, 0x0, 0x0, 0x0, 0x0, 0xFFFFFFFF⟩,
  ⟨"LODE_CBSTR", 0x16300, [(0x10, 16)], .comm, .nvs, 0x0, 0x0, 0xCFFFFFFF, 0x0, 0x0, 0x0⟩,
  ⟨"LODE_CBMAC", 0x16304, [(0x10, 16)], .comm, .nvs, 0x0, 0x0, 0xFFFFFFFF, 0x0, 0x0, 0x0⟩,
  ⟨"LODE_CBTIM", 0x16308, [(0x10, 16)], .comm, .nvs, 0x640064, 0x0, 0xFFFFFFFF, 0x0, 0x0, 0x0⟩,
  ⟨"LODE_CBCNT", 0x1630C, [(0x10, 16)], .comm, .sys, 0x0, 0x0, 0x0, 0x0, 0x0, 0xFFFFFFFF⟩]

/-- Registers of the NVS block (offsets 0x18000 to 0x18FFF), part 1. -/
def regsNvs0 : List RegDesc := [
  ⟨"STR_CFG", 0x18000, [], .fabric, .nvs, 0x3C, 0x0, 0x7FF, 0x0, 0x0, 0x0⟩,
  ⟨"STR_CTL", 0x18004, [], .fabric, .sys, 0x0, 0x0, 0x0, 0x0, 0x1, 0x0⟩,
  ⟨"STR_STAT", 0x18008, [], .fabric, .sys, 0x0, 0x0, 0x0, 0x0, 0x0, 0xC7FF03FF⟩,
  ⟨"STR_RECNO", 0x1800C, [], .nvs, .sys, 0x0, 0x0, 0x0, 0x0, 0x0, 0xFFFFFFFF⟩,
  ⟨"STR_DROP01", 0x18010, [], .nvs, .sys, 0x0, 0x0, 0x0, 0x0, 0x0, 0xFFFFFFFF⟩,
  ⟨"STR_DROP23", 0x18014, [], .nvs, .sys, 0x0, 0x0, 0x0, 0x0, 0x0, 0xFFFFFFFF⟩,
  ⟨"STR_CNT", 0x18018, [], .nvs, .sys, 0x0, 0x0, 0x0, 0x0, 0x0, 0xFFFFFFFF⟩,
  ⟨"NVS_DMA_LO", 0x18040, [], .nvs, .sys, 0x0, 0xFFFFFFC0, 0x0, 0x0, 0x0, 0x0⟩,
  ⟨"NVS_DMA_HI", 0x18044, [], .nvs, .sys, 0x0, 0xFFFFFFFF, 0x0, 0x0, 0x0, 0x0⟩,
  ⟨"NVS_OFS", 0x18048, [], .nvs, .sys, 0x0, 0x1FFFFC0, 0x0, 0x0, 0x0, 0x0⟩,
  ⟨"NVS_LEN", 0x1804C, [], .nvs, .sys, 0x0, 0x1FFFFC0, 0x0, 0x0, 0x0, 0x0⟩,
  ⟨"NVS_CTL", 0x18050, [], .nvs, .sys, 0x0, 0x0, 0x0, 0x0, 0x80000001, 0x0⟩,
  ⟨"NVS_STAT", 0x18054, [], .nvs, .sys, 0x0, 0x0, 0x0, 0x0, 0x0, 0x8000000F⟩,
  ⟨"NVS_SLOT", 0x18058, [], .nvs, .sys, 0x0, 0x0, 0x0, 0x0, 0xFF13, 0x0⟩,
  ⟨"NVS_SLOTST", 0x1805C, [], .nvs, .sys, 0x0, 0x0, 0x0, 0x0, 0x0, 0x8000000F⟩]

/-- Registers of the NVS block (offsets 0x18000 to 0x18FFF), part 2. -/
def regsNvs1 : List RegDesc := [
  ⟨"NVS_ECC", 0x18060, [], .nvs, .sys, 0x0, 0x0, 0x0, 0x0, 0x0, 0xFFFFFFFF⟩]

/-- The words of the 802.1CB streams 16 to 31. Their offsets in the table of chapter 21 (0x1_6400 to 0x1_64FF) are
also those of LODE_VLAN[0] to [63]; the model gives a BAR0 offset in that range to LODE_VLAN and keeps these words
under keys beyond BAR0 (DESIGN CHOICE, log entry 4). -/
def regsCbHigh : List RegDesc := [
  ⟨"LODE_CBSTR", 0x40000, [(0x10, 16)], .comm, .nvs, 0x0, 0x0, 0xCFFFFFFF, 0x0, 0x0, 0x0⟩,
  ⟨"LODE_CBMAC", 0x40004, [(0x10, 16)], .comm, .nvs, 0x0, 0x0, 0xFFFFFFFF, 0x0, 0x0, 0x0⟩,
  ⟨"LODE_CBTIM", 0x40008, [(0x10, 16)], .comm, .nvs, 0x640064, 0x0, 0xFFFFFFFF, 0x0, 0x0, 0x0⟩,
  ⟨"LODE_CBCNT", 0x4000C, [(0x10, 16)], .comm, .sys, 0x0, 0x0, 0x0, 0x0, 0x0, 0xFFFFFFFF⟩]

/-- The MSI-X table and pending bits in BAR0 (R403). Their layout and reset values are those of the PCI Express standard
(PRESUMED, log entry 37). -/
def regsMsix : List RegDesc := [
  ⟨"MSIX_ADDR_LO", 0x3F000, [(0x10, 32)], .host, .perst, 0x0, 0xFFFFFFFC, 0x0, 0x0, 0x0, 0x0⟩,
  ⟨"MSIX_ADDR_HI", 0x3F004, [(0x10, 32)], .host, .perst, 0x0, 0xFFFFFFFF, 0x0, 0x0, 0x0, 0x0⟩,
  ⟨"MSIX_DATA", 0x3F008, [(0x10, 32)], .host, .perst, 0x0, 0xFFFFFFFF, 0x0, 0x0, 0x0, 0x0⟩,
  ⟨"MSIX_CTL", 0x3F00C, [(0x10, 32)], .host, .perst, 0x1, 0x1, 0x0, 0x0, 0x0, 0x0⟩,
  ⟨"MSIX_PBA", 0x3F800, [], .host, .perst, 0x0, 0x0, 0x0, 0x0, 0x0, 0xFFFFFFFF⟩]

/-- The register map by address range. -/
def regBlocks : List (Nat × Nat × List RegDesc) := [
  (0x0, 0x1000, regsSys),
  (0x1000, 0x2000, regsClk),
  (0x2000, 0x3000, regsPwr),
  (0x3000, 0x4000, regsTick),
  (0x4000, 0x5000, regsHif0 ++ regsHif1),
  (0x5000, 0x6000, regsTxn),
  (0x8000, 0xA000, regsDrv0 ++ regsDrv1 ++ regsDrv2),
  (0xA000, 0xB000, regsStp),
  (0xB000, 0xC000, regsFb0 ++ regsFb1),
  (0xC000, 0xD000, regsAfe0 ++ regsAfe1),
  (0xD000, 0xD400, regsLe0 ++ regsLe1),
  (0xD400, 0xE000, regsMpg),
  (0xE000, 0xE100, regsShr),
  (0xE100, 0x10000, regsThm0 ++ regsThm1),
  (0x10000, 0x11000, regsHasp),
  (0x11000, 0x12000, regsSll),
  (0x12000, 0x13000, regsWard),
  (0x13000, 0x14000, regsMir),
  (0x14000, 0x16000, regsCan0 ++ regsCan1),
  (0x16000, 0x18000, regsLode0 ++ regsLode1),
  (0x18000, 0x19000, regsNvs0 ++ regsNvs1),
  (0x3F000, 0x40000, regsMsix),
  (0x40000, 0x40100, regsCbHigh)]

/-- The register at an offset, if the manual defines one there. -/
def findReg (off : Nat) : Option RegDesc :=
  match regBlocks.find? (fun b => decide (b.1 ≤ off) && decide (off < b.2.1)) with
  | some b => b.2.2.find? (fun d => d.covers off)
  | none => none

/-- What a register word holds after its reset source acted: the Reset column (R14); 0 where no register stands.
The three words the column calls "per module" or gives as Waocor's identifier are open constants (log entry 11). -/
def resetWord (off : Nat) : Word :=
  if off = 4 then 0x08600000 + Config.vendorId.setWidth 32
  else if off = 8 then Config.serial.setWidth 32
  else if off = 12 then (Config.serial >>> 32).setWidth 32
  else match findReg off with
    | some d => BitVec.ofNat 32 d.rst
    | none => 0

/-- Word offset of the registers of 802.1CB stream `s` (chapter 21; log entry 4 for streams 16 to 31). -/
def lodeCb (s : Nat) : Nat := if s < 16 then 0x16300 + 0x10 * s else 0x40000 + 0x10 * (s - 16)

end Sys2Proof.Machine
end

