-- ==== Sys2Proof/Machine/Operands.lean ====
section
/-! DEFINITION. The operand forms: the fields of a register word (R4, R13), the saturations and counters the register
tables name, the fixed-point arithmetic of the loop engines (R191 to R194), the sine table and square root of R198,
the CRCs and Ward tag of R175, R348 and R367. Nothing here touches the state. -/

namespace Sys2Proof.Machine

/-- The value of a field in its word. -/
def Fld.get (f : Fld) (x : Word) : Nat := x.toNat / 2 ^ f.lo % 2 ^ f.w

/-- The word with a field replaced; the value is cut to the field's width. -/
def Fld.put (f : Fld) (x : Word) (v : Nat) : Word :=
  BitVec.ofNat 32 (x.toNat - x.toNat / 2 ^ f.lo % 2 ^ f.w * 2 ^ f.lo + v % 2 ^ f.w * 2 ^ f.lo)

/-- The largest value of a field. -/
def Fld.top (f : Fld) : Nat := 2 ^ f.w - 1

/-- The low byte first: byte `i` of a list of bytes, 0 beyond its end. -/
def byteAt (bs : List Byte) (i : Nat) : Nat := (bs.getD i 0).toNat

/-- The little-endian value of `n` bytes from offset `i` (R6). -/
def leAt (bs : List Byte) (i n : Nat) : Nat := leNat ((bs.drop i).take n)

/-- Bit `i` of a number. -/
def bitAt (v i : Nat) : Bool := v / 2 ^ i % 2 == 1

/-- `v` with bit `i` set to `on`. -/
def withBit (v i : Nat) (on : Bool) : Nat :=
  if on then (if bitAt v i then v else v + 2 ^ i) else (if bitAt v i then v - 2 ^ i else v)

/-- How many of the low `n` bits of `v` are 1. -/
def countBits (v : Nat) : Nat → Nat
  | 0 => 0
  | n + 1 => countBits v n + (if bitAt v n then 1 else 0)

/-- 1 for true. -/
def b2n (b : Bool) : Nat := if b then 1 else 0

/-- Division rounded up; 0 for a divisor of 0. -/
def ceilDiv (a b : Nat) : Nat := if b = 0 then 0 else (a + b - 1) / b

/-- Clamp to limits (sat of R198). -/
def satI (x lo hi : Int) : Int := if x < lo then lo else if hi < x then hi else x

/-- Clamp to the Q15 range. -/
def sat16 (x : Int) : Int := satI x (-32768) 32767

/-- |x| as a natural number. -/
def magI (x : Int) : Nat := x.natAbs

/-- Division of integers rounded half up: floor(a / b + 1/2), for b > 0. -/
def halfUp (a b : Int) : Int := (2 * a + b) / (2 * b)

/-- The sign of a number: −1, 0 or 1. -/
def sgn (x : Int) : Int := if x < 0 then -1 else if x = 0 then 0 else 1

/-- The signed difference of two 32-bit counts (PWMCLK stamps, positions). -/
def diff32 (a b : Nat) : Int := signed 32 ((a + 2 ^ 32 - b % 2 ^ 32) % 2 ^ 32)

/-- 32-bit sum of a count and a signed step. -/
def add32 (a : Nat) (d : Int) : Nat := unsigned 32 (Int.ofNat a + d)

/-- p(a, b, S) for Q15 operands (R192). -/
def pMul (a b s : Int) : Int :=
  if 0 ≤ s then a * b * 2 ^ s.toNat else (a * b + 2 ^ (-s - 1).toNat) / 2 ^ (-s).toNat

/-- p(a, b, S) where b is a Q30 state: a × b × 2^S / 2^15 rounded half up once (R192). -/
def pMulQ30 (a b s : Int) : Int :=
  if 15 ≤ s then a * b * 2 ^ (s - 15).toNat else halfUp (a * b) (2 ^ (15 - s).toNat)

/-- st(acc) of R194: Q30 to Q15, half up, saturating. -/
def stQ (acc : Int) : Int := sat16 ((acc + 16384) / 32768)

/-- Whether st(acc) saturates (R195). -/
def stSat (acc : Int) : Bool := decide (stQ acc ≠ (acc + 16384) / 32768)

/-- One bit of the integer square root, from bit `k` down. -/
def isqrtBits (n : Nat) : Nat → Nat → Nat
  | 0, r => r
  | k + 1, r => isqrtBits n k (if (r + 2 ^ k) * (r + 2 ^ k) ≤ n then r + 2 ^ k else r)

/-- floor(√n) for n below 2^64. -/
def isqrtFloor (n : Nat) : Nat := isqrtBits n 32 0

/-- isqrt of R199: the exact square root rounded half up. -/
def isqrt (n : Nat) : Nat :=
  let r := isqrtFloor n
  if r * r + r < n then r + 1 else r

/-- Entries 0 to 63 of the sine table of R198 and R242. -/
def sineQ0 : List Int := [
  0, 201, 402, 603, 804, 1005, 1206, 1407, 1608, 1809, 2009, 2210, 2410, 2611, 2811, 3012,
  3212, 3412, 3612, 3811, 4011, 4210, 4410, 4609, 4808, 5007, 5205, 5404, 5602, 5800, 5998, 6195,
  6393, 6590, 6786, 6983, 7179, 7375, 7571, 7767, 7962, 8157, 8351, 8545, 8739, 8933, 9126, 9319,
  9512, 9704, 9896, 10087, 10278, 10469, 10659, 10849, 11039, 11228, 11417, 11605, 11793, 11980, 12167, 12353]

/-- Entries 64 to 127 of the sine table of R198 and R242. -/
def sineQ1 : List Int := [
  12539, 12725, 12910, 13094, 13279, 13462, 13645, 13828, 14010, 14191, 14372, 14553, 14732, 14912, 15090, 15269,
  15446, 15623, 15800, 15976, 16151, 16325, 16499, 16673, 16846, 17018, 17189, 17360, 17530, 17700, 17869, 18037,
  18204, 18371, 18537, 18703, 18868, 19032, 19195, 19357, 19519, 19680, 19841, 20000, 20159, 20317, 20475, 20631,
  20787, 20942, 21096, 21250, 21403, 21554, 21705, 21856, 22005, 22154, 22301, 22448, 22594, 22739, 22884, 23027]

/-- Entries 128 to 191 of the sine table of R198 and R242. -/
def sineQ2 : List Int := [
  23170, 23311, 23452, 23592, 23731, 23870, 24007, 24143, 24279, 24413, 24547, 24680, 24811, 24942, 25072, 25201,
  25329, 25456, 25582, 25708, 25832, 25955, 26077, 26198, 26319, 26438, 26556, 26674, 26790, 26905, 27019, 27133,
  27245, 27356, 27466, 27575, 27683, 27790, 27896, 28001, 28105, 28208, 28310, 28411, 28510, 28609, 28706, 28803,
  28898, 28992, 29085, 29177, 29268, 29358, 29447, 29534, 29621, 29706, 29791, 29874, 29956, 30037, 30117, 30195]

/-- Entries 192 to 255 of the sine table of R198 and R242. -/
def sineQ3 : List Int := [
  30273, 30349, 30424, 30498, 30571, 30643, 30714, 30783, 30852, 30919, 30985, 31050, 31113, 31176, 31237, 31297,
  31356, 31414, 31470, 31526, 31580, 31633, 31685, 31736, 31785, 31833, 31880, 31926, 31971, 32014, 32057, 32098,
  32137, 32176, 32213, 32250, 32285, 32318, 32351, 32382, 32412, 32441, 32469, 32495, 32521, 32545, 32567, 32589,
  32609, 32628, 32646, 32663, 32678, 32692, 32705, 32717, 32728, 32737, 32745, 32752, 32757, 32761, 32765, 32766]

/-- T[0] to T[256] of R198: round(32,767 × sin(2π i / 1,024)). -/
def sineQuarter : List Int := sineQ0 ++ sineQ1 ++ sineQ2 ++ sineQ3 ++ [32767]

/-- T[i] of R198 for i from 0 to 1,024, by the symmetries of the sine. -/
def sineT (i : Nat) : Int :=
  if i ≤ 256 then sineQuarter.getD i 0
  else if i ≤ 512 then sineQuarter.getD (512 - i) 0
  else if i ≤ 768 then -(sineQuarter.getD (i - 512) 0)
  else -(sineQuarter.getD (1024 - i) 0)

/-- The sine of R198 at an angle in 65,536 units to 360°. -/
def sinU (th : Nat) : Int :=
  let t := th % 65536
  let i := t / 64
  let f : Int := Int.ofNat (t % 64)
  sineT i + ((sineT (i + 1) - sineT i) * f + 32) / 64

/-- The cosine: the sine at θ + 16,384. -/
def cosU (th : Nat) : Int := sinU (th + 16384)

/-- The largest angle up to 180°, in 65,536 units to 360°, at which the direction (x, y), y not negative, has not been
passed: one binary digit after the other. -/
def halfTurn (y x : Int) : Nat :=
  (List.range 16).foldl (fun a i =>
    let t := a + 2 ^ (15 - i)
    if t ≤ 32768 ∧ x * sinU t ≤ y * cosU t then t else a) 0

/-- The angle of the direction (x, y) in 65,536 units to 360° (R115, R256), with the last unit as the manual leaves it open;
that of no direction at all is free (log entry 14). -/
def angleOf (y x : Int) : Nat :=
  if x = 0 ∧ y = 0 then Config.atan2 y x % 65536
  else
    let a : Int := if 0 ≤ y then Int.ofNat (halfTurn y x) else -(Int.ofNat (halfTurn (-y) x))
    unsigned 16 (a + satI (signed 16 (unsigned 16 (Int.ofNat (Config.atan2 y x) - a))) (-1) 2)

/-- A value that an implementation computes within 2^−40 of an exact one: `free` as far as it lies there (log entry 13). -/
def within40 (exact free : Rat) : Rat := exact + max (-1 / 2 ^ 40) (min (1 / 2 ^ 40) (free - exact))

/-- The natural logarithm of a positive number, in 2^−64: ln q = k ln 2 + 2 artanh((m − 1) / (m + 1)) for q = m 2^k. -/
def lnFix (q : Rat) : Int :=
  let k : Int := Int.ofNat (Nat.log2 q.num.toNat) - Int.ofNat (Nat.log2 q.den)
  let m : Rat := if 0 ≤ k then q / (2 ^ k.toNat : Nat) else q * (2 ^ (-k).toNat : Nat)
  let z : Int := ((m - 1) / (m + 1) * (2 ^ 64 : Nat)).floor
  let s := (List.range 24).foldl (fun (s : Int × Int) i =>
    (s.1 + s.2 / Int.ofNat (2 * i + 1), s.2 * (z * z / 2 ^ 64) / 2 ^ 64)) (0, z)
  2 * s.1 + k * 12786308645202655659

/-- The natural logarithm of R295; of a number that is not positive it is free (log entry 13). -/
def lnOf (q : Rat) : Rat :=
  if 0 < q then within40 ((lnFix q : Rat) / (2 ^ 64 : Nat)) (Config.ln q) else Config.ln q

/-- e^(−x) for x from 0, in 2^−64: the series for x / 2^k, squared k times. -/
def expFix (x : Rat) : Int :=
  let v := (x * (2 ^ 64 : Nat)).floor.toNat
  let k := Nat.log2 (v / 2 ^ 62) + 1
  let r : Int := Int.ofNat (v / 2 ^ k)
  let s := (List.range 24).foldl (fun (s : Int × Int) i =>
    (s.1 + s.2, -(s.2 * r / 2 ^ 64) / Int.ofNat (i + 1))) (0, (2 : Int) ^ 64)
  if 70 ≤ k then 0 else (List.range k).foldl (fun y _ => y * y / 2 ^ 64) s.1

/-- The decay factor e^(−x) of R299, between 0 and 1 (log entry 13). -/
def expOf (x : Rat) : Rat := max 0 (min 1 (within40 ((expFix x : Rat) / (2 ^ 64 : Nat)) (Config.expNeg x)))

/-- One bit of a reflected CRC with the 32-bit polynomial `poly`. -/
def crcStep (poly : Nat) : Nat → Nat → Nat
  | 0, c => c
  | k + 1, c => crcStep poly k (if c % 2 = 1 then Nat.xor (c / 2) poly else c / 2)

/-- CRC-32C (R348): reflected, polynomial 0x1EDC6F41, start and final value all ones. -/
def crc32c (bs : List Byte) : Nat :=
  Nat.xor (bs.foldl (fun c b => crcStep 0x82F63B78 8 (Nat.xor c b.toNat)) 0xFFFFFFFF) 0xFFFFFFFF

/-- A CRC of width `w` shifted most significant bit first over the bits of `v`, `n` of them (R175, R367). -/
def crcMsb (w poly : Nat) (v : Nat) : Nat → Nat → Nat
  | 0, c => c
  | n + 1, c =>
    let top := bitAt c (w - 1) != bitAt v n
    crcMsb w poly v n (if top then Nat.xor (c * 2 % 2 ^ w) poly else c * 2 % 2 ^ w)

/-- The Ward tag: CRC-16 with polynomial 0x1021 and start value 0xFFFF over the 16-bit route key and the 32-bit word
(R367). -/
def wardTag (key word : Nat) : Nat :=
  crcMsb 16 0x1021 word 32 (crcMsb 16 0x1021 key 16 0xFFFF)

/-- A signed value of at most 32 bits as its word: sign-extended (R367). -/
def tagWord (x : Int) : Nat := unsigned 32 x

/-- The word that a consumer finds where word w was meant. -/
def flipWord (f : Flip) (w : Nat) : Nat := Nat.xor (w % 2 ^ 32) f.bits.toNat

/-- The check of a consumer that wants the datum of a route key, whose word was w when its tag was written (R367, R368): the
tag that comes with the word it finds is that word's under this key. -/
def flipPasses (f : Flip) (key w : Nat) : Bool :=
  let from_ := match f.key with
    | some k => wardTag k.toNat (flipWord f w)
    | none => wardTag key (w % 2 ^ 32)
  wardTag key (flipWord f w) == Nat.xor from_ f.tag.toNat

/-- The first of some disturbed words that fails: of n words `word`, under the keys from `base` on. -/
def badWord (hits : List (Nat × Flip)) (base n : Nat) (word : Nat → Nat) : Option Nat :=
  (hits.find? (fun x => decide (x.1 < n) && !flipPasses x.2 (base + x.1) (word x.1))).map (·.1)

/-- Decode a Gray-coded number of `n` bits (R175). -/
def grayDecode (v : Nat) : Nat → Nat
  | 0 => 0
  | n + 1 => Nat.xor (v / 2 ^ n) (grayDecode v n)

/-- A real result on the grid of its register: the grid point below it or the one above (the manual does not say how
it rounds; log entry 25). -/
def onGrid (x : Rat) : Int := x.floor + satI (Config.roundUp x) 0 1

end Sys2Proof.Machine
end

