-- ==== Sys2Proof/Machine/Elements.lean ====
section
/-! DEFINITION. The element library of R198 to the bit: what each element computes from its inputs, coefficients,
shifts and states (R191 to R195, R199), and its cost and accumulator bound (R193, R200). Nothing here touches the
state of the module. -/

namespace Sys2Proof.Machine

/-- One run of an element: its outputs, its states after the run, and whether a 16-bit store saturated (R195). -/
structure ElemOut where
  out : List Int
  st  : List Int
  sat : Bool
  deriving DecidableEq, Repr, Inhabited

/-- Entry i of a list of integers, 0 beyond its end. -/
def iAt (l : List Int) (i : Nat) : Int := l.getD i 0

/-- The integral step shared by PI and PID (R198). -/
def integ (i ki e kb y u si lo hi : Int) : Int :=
  satI (i + pMul ki e si + pMul kb (sat16 (y - u)) 0) (lo * 32768) (hi * 32768)

/-- PI(r, m): coefficients KP, KI, KB, LO, HI; shifts SP, SI; state I. The anti-windup acts on `adj y`, which is y
but where a rule puts another value in its place (R109, R269). -/
def elPi (x c s st : List Int) (adj : Int → Int) : ElemOut :=
  let e := sat16 (iAt x 0 - iAt x 1)
  let acc := pMul (iAt c 0) e (iAt s 0) + iAt st 0
  let u := stQ acc
  let y := adj (satI u (iAt c 3) (iAt c 4))
  ⟨[y], [integ (iAt st 0) (iAt c 1) e (iAt c 2) y u (iAt s 1) (iAt c 3) (iAt c 4)], stSat acc⟩

/-- PID(r, m): coefficients KP, KI, KD, AD, KB, LO, HI; shifts SP, SI, SD; states I, D, e1; `adj` as in PI. -/
def elPid (x c s st : List Int) (adj : Int → Int) : ElemOut :=
  let e := sat16 (iAt x 0 - iAt x 1)
  let accD := pMul (iAt c 3) (iAt st 1) 0 + pMul (iAt c 2) (sat16 (e - iAt st 2)) (iAt s 2)
  let d := stQ accD
  let acc := pMul (iAt c 0) e (iAt s 0) + iAt st 0 + d * 32768
  let u := stQ acc
  let y := adj (satI u (iAt c 5) (iAt c 6))
  ⟨[y], [integ (iAt st 0) (iAt c 1) e (iAt c 4) y u (iAt s 1) (iAt c 5) (iAt c 6), d, e], stSat accD || stSat acc⟩

/-- The integral state for which the first output of a PI or PID is `target`, within its limits (R109). -/
def preloadI (k : ElemKind) (x c s st : List Int) (target : Int) : List Int :=
  let e := sat16 (iAt x 0 - iAt x 1)
  match k with
  | .pi =>
    [satI (target * 32768 - pMul (iAt c 0) e (iAt s 0)) (iAt c 3 * 32768) (iAt c 4 * 32768)]
  | .pid =>
    let d := stQ (pMul (iAt c 3) (iAt st 1) 0 + pMul (iAt c 2) (sat16 (e - iAt st 2)) (iAt s 2))
    [satI (target * 32768 - pMul (iAt c 0) e (iAt s 0) - d * 32768) (iAt c 5 * 32768) (iAt c 6 * 32768),
     iAt st 1, iAt st 2]
  | _ => st

/-- The integral state after the applied output took another value than the element's own (R109). -/
def windAdjust (k : ElemKind) (c st : List Int) (own applied : Int) : List Int :=
  match k with
  | .pi => [satI (iAt st 0 + pMul (iAt c 2) (sat16 (applied - own)) 0) (iAt c 3 * 32768) (iAt c 4 * 32768)]
  | .pid => [satI (iAt st 0 + pMul (iAt c 4) (sat16 (applied - own)) 0) (iAt c 5 * 32768) (iAt c 6 * 32768),
     iAt st 1, iAt st 2]
  | _ => st

/-- LEADLAG(x): coefficients B0, B1, A1; shift SB; states x1, y1. -/
def elLeadlag (x c s st : List Int) : ElemOut :=
  let acc := pMul (iAt c 0) (iAt x 0) (iAt s 0) + pMul (iAt c 1) (iAt st 0) (iAt s 0) - pMul (iAt c 2) (iAt st 1) 0
  ⟨[stQ acc], [iAt x 0, stQ acc], stSat acc⟩

/-- BIQUAD(x): coefficients B0, B1, B2, A1, A2; shifts SB, SA; states x1, x2, Y1, Y2. -/
def elBiquad (x c s st : List Int) : ElemOut :=
  let acc := pMul (iAt c 0) (iAt x 0) (iAt s 0) + pMul (iAt c 1) (iAt st 0) (iAt s 0) +
    pMul (iAt c 2) (iAt st 1) (iAt s 0) - pMulQ30 (iAt c 3) (iAt st 2) (iAt s 1) - pMulQ30 (iAt c 4) (iAt st 3) (iAt s 1)
  ⟨[stQ acc], [iAt x 0, iAt st 0, satI acc (-(2 ^ 31)) (2 ^ 31 - 1), iAt st 2], stSat acc⟩

/-- RATELIM(x): coefficients RUP, RDN; state y1. -/
def elRatelim (x c st : List Int) : ElemOut :=
  let y := sat16 (iAt st 0 + satI (iAt x 0 - iAt st 0) (-(iAt c 1)) (iAt c 0))
  ⟨[y], [y], false⟩

/-- One frame of RAMP (R87, R198): the state RS in 2^−24 units after the frame. -/
def rampStep (rs t acc dec : Int) : Int :=
  if rs * t < 0 then
    let n := rs + satI (t - rs) (-dec) dec
    if n * rs < 0 then 0 else n
  else if magI rs < magI t then rs + satI (t - rs) (-acc) acc
  else rs + satI (t - rs) (-dec) dec

/-- SUM of the inputs, plus the generator's value at an injection point (R226). -/
def elSum (x c s : List Int) (v : Int) : ElemOut :=
  let acc := (List.range x.length).foldl (fun a i => a + pMul (iAt c i) (iAt x i) (iAt s i)) (v * 32768)
  ⟨[stQ acc], [], stSat acc⟩

/-- CLARKE(iA, iB). -/
def elClarke (x : List Int) : ElemOut :=
  let acc := pMul 18919 (iAt x 0) 0 + pMul 18919 (iAt x 1) 1
  ⟨[iAt x 0, stQ acc], [], stSat acc⟩

/-- PARK(ia, ib, θ). -/
def elPark (x : List Int) : ElemOut :=
  let th := unsigned 16 (iAt x 2)
  let a1 := pMul (iAt x 0) (cosU th) 0 + pMul (iAt x 1) (sinU th) 0
  let a2 := pMul (iAt x 1) (cosU th) 0 - pMul (iAt x 0) (sinU th) 0
  ⟨[stQ a1, stQ a2], [], stSat a1 || stSat a2⟩

/-- DQDEC(vd, vq, id, iq, ω): coefficients LD, LQ, PSI; shift SL. -/
def elDqdec (x c s : List Int) : ElemOut :=
  let w := iAt x 4
  let q1 := pMul w (iAt x 3) 0
  let d1 := pMul w (iAt x 2) 0
  let a1 := iAt x 0 * 32768 - pMul (iAt c 1) (stQ q1) (iAt s 0)
  let a2 := iAt x 1 * 32768 + pMul (iAt c 0) (stQ d1) (iAt s 0) + pMul (iAt c 2) w (iAt s 0)
  ⟨[stQ a1, stQ a2], [], stSat q1 || stSat d1 || stSat a1 || stSat a2⟩

/-- V_DC / √3 as IPARK forms it. -/
def vmOf (vdc : Int) : Int := max (stQ (pMul vdc 18919 0)) 296

/-- The voltage demand u of IPARK for a vector. -/
def uOf (vd vq vm : Int) : Int :=
  min ((Int.ofNat (isqrt (vd * vd + vq * vq).toNat) * 32768 + vm / 2) / vm) 32767

/-- The vector limited to the circle VM, keeping vd and shortening vq (R91). -/
def limitVec (vd vq vm : Int) : Int × Int :=
  if vm < Int.ofNat (isqrt (vd * vd + vq * vq).toNat) then
    if vm ≤ Int.ofNat (magI vd) then (sgn vd * vm, 0)
    else (vd, sgn vq * Int.ofNat (isqrt (vm * vm - vd * vd).toNat))
  else (vd, vq)

/-- IPARK(vd, vq, θ, ω, VDC) with KTD and STD set by the module (R90); the fourth output says whether the vector was
limited. -/
def elIpark (x : List Int) (ktd std : Int) : ElemOut :=
  let vm := vmOf (iAt x 4)
  let lv := limitVec (iAt x 0) (iAt x 1) vm
  let lim := decide (vm < Int.ofNat (isqrt (iAt x 0 * iAt x 0 + iAt x 1 * iAt x 1).toNat))
  let adv := pMul (iAt x 3) ktd std
  let th := unsigned 16 (iAt x 2 + stQ adv)
  let a1 := pMul lv.1 (cosU th) 0 - pMul lv.2 (sinU th) 0
  let a2 := pMul lv.1 (sinU th) 0 + pMul lv.2 (cosU th) 0
  ⟨[stQ a1, stQ a2, uOf (iAt x 0) (iAt x 1) vm, Int.ofNat (b2n lim)], [], stSat adv || stSat a1 || stSat a2⟩

/-- The quotient of SVM: within ±1 LSB of the exact rounded quotient (R199). -/
def svmDiv (num v : Int) : Int :=
  let q := halfUp num v
  q + satI (Config.svmDeviation num v) (-1) 1

/-- SVM(va, vb, VDC). -/
def elSvm (x : List Int) : ElemOut :=
  let vA := iAt x 0
  let b1 := pMul (iAt x 0) (-16384) 0 + pMul 28378 (iAt x 1) 0
  let c1 := pMul (iAt x 0) (-16384) 0 - pMul 28378 (iAt x 1) 0
  let vB := stQ b1
  let vC := stQ c1
  let z := (max vA (max vB vC) + min vA (min vB vC) + 1) / 2
  let v := max (iAt x 2) 512
  let leg := fun w => sat16 (svmDiv ((w - z) * 65536) v)
  ⟨[leg vA, leg vB, leg vC], [], stSat b1 || stSat c1⟩

/-- A dot product of a row of coefficients with values, all at one shift. -/
def dot (c : List Int) (at_ : Nat) (x : List Int) (s : Int) : Int :=
  (List.range x.length).foldl (fun a i => a + pMul (iAt c (at_ + i)) (iAt x i) s) 0

/-- OBS with n states, m inputs, p outputs: coefficients A, B, C, L by rows; shifts SA, SB, SC, SL. -/
def elObs (n m p : Nat) (x c s st : List Int) : ElemOut :=
  let u := x.take m
  let y := (x.drop m).take p
  let st := (List.range n).map (fun i => iAt st i)
  let oB := n * n
  let oC := oB + n * m
  let oL := oC + p * n
  let accY := (List.range p).map (fun j => dot c (oC + j * n) st (iAt s 2))
  let yh := accY.map stQ
  let res := (List.range p).map (fun j => sat16 (iAt y j - iAt yh j))
  let accX := (List.range n).map (fun i =>
    dot c (i * n) st (iAt s 0) + dot c (oB + i * m) u (iAt s 1) + dot c (oL + i * p) res (iAt s 3))
  ⟨yh ++ res, accX.map stQ, accY.any stSat || accX.any stSat⟩

/-- One run of an element instance of a kind; `v` is the generator's value at an injection point, `ramp` the outputs of
the channel's ramp and `ktd`, `std` the settings of IPARK. -/
def runElem (k : ElemKind) (x c s st : List Int) (v : Int) (ramp : List Int) (ktd std : Int) (adj : Int → Int) : ElemOut :=
  match k with
  | .pi => elPi x c s st adj
  | .pid => elPid x c s st adj
  | .leadlag => elLeadlag x c s st
  | .biquad => elBiquad x c s st
  | .ratelim => elRatelim x c st
  | .ramp => ⟨ramp, st, false⟩
  | .sum _ => elSum x c s v
  | .clarke => elClarke x
  | .park => elPark x
  | .dqdec => elDqdec x c s
  | .ipark => elIpark x ktd std
  | .svm => elSvm x
  | .obs n m p => elObs n m p x c s st

/-- Cycles per run (R200). -/
def elemCost : ElemKind → Nat
  | .pi => 40 | .pid => 56 | .leadlag => 28 | .biquad => 36 | .ratelim => 24 | .ramp => 30
  | .sum n => 16 + 2 * n | .clarke => 18 | .park => 34 | .dqdec => 32 | .ipark => 64 | .svm => 96
  | .obs n m p => 32 + ceilDiv (p * n + n * (n + m + p)) 2 + 6 * n

/-- State words (R200). -/
def elemWords : ElemKind → Nat
  | .pi => 2 | .pid => 4 | .leadlag => 2 | .biquad => 6 | .ratelim => 1 | .ramp => 2
  | .sum _ => 0 | .clarke => 0 | .park => 0 | .dqdec => 0 | .ipark => 0 | .svm => 0
  | .obs n _ _ => n

/-- Coefficient words (R200). -/
def elemCoefs : ElemKind → Nat
  | .pi => 5 | .pid => 7 | .leadlag => 3 | .biquad => 5 | .ratelim => 2 | .ramp => 0
  | .sum n => n | .clarke => 0 | .park => 0 | .dqdec => 3 | .ipark => 0 | .svm => 0
  | .obs n m p => n * n + n * (m + 2 * p)

/-- Output words of an element. -/
def elemOutputs : ElemKind → Nat
  | .ramp => 2 | .clarke => 2 | .park => 2 | .dqdec => 2 | .ipark => 3 | .svm => 3
  | .obs _ _ p => 2 * p
  | _ => 1

/-- 2^S in units of 2^−8. -/
def mag2 (s : Int) : Nat := 2 ^ (s + 8).toNat

/-- The largest magnitudes that the accumulations of an element can reach, in units of 2^−8 (R193). -/
def elemBounds (e : Elem) : List Nat :=
  let s := fun i => mag2 (iAt e.shifts i)
  match e.kind with
  | .pi => [s 0 + 512, 512 + s 1 + 256]
  | .pid => [256 + s 2, s 0 + 512 + 256, 512 + s 1 + 256]
  | .leadlag => [2 * s 0 + 256]
  | .biquad => [3 * s 0 + 4 * s 1]
  | .ratelim => []
  | .ramp => []
  | .sum n => [((List.range n).map s).sum + (if e.point.isSome then 256 else 0)]
  | .clarke => [256 + 512]
  | .park => [512]
  | .dqdec => [256, 256 + s 0, 256 + 2 * s 0]
  | .ipark => [512]
  | .svm => [512]
  | .obs n m p => [n * s 2, n * s 0 + m * s 1 + p * s 3]

/-- No accumulation of the instance exceeds 256 (R193). -/
def boundOk (e : Elem) : Bool := (elemBounds e).all (fun x => decide (x ≤ 65536))

/-- The places of LO and HI among an element's coefficients. -/
def elemLimits : ElemKind → Option (Nat × Nat)
  | .pi => some (3, 4)
  | .pid => some (5, 6)
  | _ => none

/-- No element has its LO above its HI for a coefficient table (R205). -/
def limitsOk (e : Elem) (coefs : List Int) : Bool :=
  match elemLimits e.kind with
  | some (l, h) => decide (iAt coefs (e.coefs.getD l 0) ≤ iAt coefs (e.coefs.getD h 0))
  | none => true

end Sys2Proof.Machine
end

