-- ==== Sys2Proof/Machine/Fields.lean ====
section
/-! DEFINITION. One `Fld` per field of the register tables of spec/: word offset, low bit and width, as the table gives
them. The name is the manual's register name, an underscore and the field name. -/

namespace Sys2Proof.Machine.R

/- SYS_ID (FABRIC, reset source POR) -/
def SYS_ID_STEP : Fld := ⟨0x0, 24, 8⟩
def SYS_ID_IFACE : Fld := ⟨0x0, 16, 8⟩
def SYS_ID_DEVICE : Fld := ⟨0x0, 0, 16⟩
def SYS_ID_W : Fld := ⟨0x0, 0, 32⟩
/- SYS_PCIID (FABRIC, reset source POR) -/
def SYS_PCIID_DID : Fld := ⟨0x4, 16, 16⟩
def SYS_PCIID_VID : Fld := ⟨0x4, 0, 16⟩
def SYS_PCIID_W : Fld := ⟨0x4, 0, 32⟩
/- SYS_UID_LO (FABRIC, reset source POR) -/
def SYS_UID_LO_UID : Fld := ⟨0x8, 0, 32⟩
def SYS_UID_LO_W : Fld := ⟨0x8, 0, 32⟩
/- SYS_UID_HI (FABRIC, reset source POR) -/
def SYS_UID_HI_UID : Fld := ⟨0xC, 0, 32⟩
def SYS_UID_HI_W : Fld := ⟨0xC, 0, 32⟩
/- TICK_PERIOD (FABRIC, reset source NVS) -/
def TICK_PERIOD_PERIOD : Fld := ⟨0x3000, 0, 17⟩
def TICK_PERIOD_W : Fld := ⟨0x3000, 0, 32⟩
/- TICK_SPHASE (FABRIC, reset source NVS) -/
def TICK_SPHASE_PHASE : Fld := ⟨0x3004, 0, 17⟩
def TICK_SPHASE_W : Fld := ⟨0x3004, 0, 32⟩
/- TICK_OPHASE (FABRIC, reset source NVS) -/
def TICK_OPHASE_PHASE : Fld := ⟨0x3008, 0, 17⟩
def TICK_OPHASE_W : Fld := ⟨0x3008, 0, 32⟩
/- TICK_CTL (FABRIC, reset source NVS) -/
def TICK_CTL_SLEW : Fld := ⟨0x300C, 8, 5⟩
def TICK_CTL_SRC : Fld := ⟨0x300C, 1, 1⟩
def TICK_CTL_DISC_EN : Fld := ⟨0x300C, 0, 1⟩
def TICK_CTL_W : Fld := ⟨0x300C, 0, 32⟩
/- TICK_ALIGN (FABRIC, reset source NVS) -/
def TICK_ALIGN_OFFSET : Fld := ⟨0x3010, 0, 18⟩
def TICK_ALIGN_W : Fld := ⟨0x3010, 0, 32⟩
/- TICK_FRAME_NO_LO (FABRIC, reset source SYS) -/
def TICK_FRAME_NO_LO_FN_LO : Fld := ⟨0x3018, 0, 32⟩
def TICK_FRAME_NO_LO_W : Fld := ⟨0x3018, 0, 32⟩
/- TICK_FRAME_NO_HI (FABRIC, reset source SYS) -/
def TICK_FRAME_NO_HI_FN_HI : Fld := ⟨0x301C, 0, 16⟩
def TICK_FRAME_NO_HI_W : Fld := ⟨0x301C, 0, 32⟩
/- TICK_STAT (FABRIC, reset source SYS) -/
def TICK_STAT_PHERR : Fld := ⟨0x3020, 16, 16⟩
def TICK_STAT_OVR : Fld := ⟨0x3020, 4, 1⟩
def TICK_STAT_DSTATE : Fld := ⟨0x3020, 0, 2⟩
def TICK_STAT_W : Fld := ⟨0x3020, 0, 32⟩
/- TICK_OVRCNT (FABRIC, reset source SYS) -/
def TICK_OVRCNT_COUNT : Fld := ⟨0x3024, 0, 32⟩
def TICK_OVRCNT_W : Fld := ⟨0x3024, 0, 32⟩
/- TICK_ADMk (FABRIC, reset source SYS) -/
def TICK_ADMk_POST (k : Nat) : Fld := ⟨0x3040 + 0x4 * k, 16, 16⟩
def TICK_ADMk_PRE (k : Nat) : Fld := ⟨0x3040 + 0x4 * k, 0, 16⟩
def TICK_ADMk_W (k : Nat) : Fld := ⟨0x3040 + 0x4 * k, 0, 32⟩
/- Dn_CFG (PWM, reset source NVS) -/
def Dn_CFG_GRDY_EN (n : Nat) : Fld := ⟨0x8000 + 0x400 * n, 6, 1⟩
def Dn_CFG_RATIO (n : Nat) : Fld := ⟨0x8000 + 0x400 * n, 4, 2⟩
def Dn_CFG_DUAL (n : Nat) : Fld := ⟨0x8000 + 0x400 * n, 3, 1⟩
def Dn_CFG_GPOL (n : Nat) : Fld := ⟨0x8000 + 0x400 * n, 2, 1⟩
def Dn_CFG_TOPO (n : Nat) : Fld := ⟨0x8000 + 0x400 * n, 1, 1⟩
def Dn_CFG_EN (n : Nat) : Fld := ⟨0x8000 + 0x400 * n, 0, 1⟩
def Dn_CFG_W (n : Nat) : Fld := ⟨0x8000 + 0x400 * n, 0, 32⟩
/- Dn_CARR (PWM, reset source NVS) -/
def Dn_CARR_OFS (n : Nat) : Fld := ⟨0x8004 + 0x400 * n, 0, 17⟩
def Dn_CARR_W (n : Nat) : Fld := ⟨0x8004 + 0x400 * n, 0, 32⟩
/- Dn_MINPW (PWM, reset source NVS) -/
def Dn_MINPW_MINPW (n : Nat) : Fld := ⟨0x8008 + 0x400 * n, 0, 16⟩
def Dn_MINPW_W (n : Nat) : Fld := ⟨0x8008 + 0x400 * n, 0, 32⟩
/- Dn_TRIP (PWM, reset source NVS) -/
def Dn_TRIP_OC_EN (n : Nat) : Fld := ⟨0x800C + 0x400 * n, 8, 1⟩
def Dn_TRIP_FLEN (n : Nat) : Fld := ⟨0x800C + 0x400 * n, 2, 6⟩
def Dn_TRIP_FEN (n : Nat) : Fld := ⟨0x800C + 0x400 * n, 1, 1⟩
def Dn_TRIP_ACT (n : Nat) : Fld := ⟨0x800C + 0x400 * n, 0, 1⟩
def Dn_TRIP_W (n : Nat) : Fld := ⟨0x800C + 0x400 * n, 0, 32⟩
/- Dn_DEADT[k] (PWM, reset source NVS) -/
def Dn_DEADT_DT (n k : Nat) : Fld := ⟨0x8010 + 0x400 * n + 0x4 * k, 0, 17⟩
def Dn_DEADT_W (n k : Nat) : Fld := ⟨0x8010 + 0x400 * n + 0x4 * k, 0, 32⟩
/- Dn_STAT (PWM, reset source SYS) -/
def Dn_STAT_GRDYL (n : Nat) : Fld := ⟨0x8020 + 0x400 * n, 15, 1⟩
def Dn_STAT_MINP (n : Nat) : Fld := ⟨0x8020 + 0x400 * n, 14, 1⟩
def Dn_STAT_TAGF (n : Nat) : Fld := ⟨0x8020 + 0x400 * n, 13, 1⟩
def Dn_STAT_TRIP (n : Nat) : Fld := ⟨0x8020 + 0x400 * n, 12, 1⟩
def Dn_STAT_TSRC (n : Nat) : Fld := ⟨0x8020 + 0x400 * n, 10, 2⟩
def Dn_STAT_TRIPIN (n : Nat) : Fld := ⟨0x8020 + 0x400 * n, 9, 1⟩
def Dn_STAT_GRDY (n : Nat) : Fld := ⟨0x8020 + 0x400 * n, 6, 3⟩
def Dn_STAT_OWN (n : Nat) : Fld := ⟨0x8020 + 0x400 * n, 5, 1⟩
def Dn_STAT_HASP_EN (n : Nat) : Fld := ⟨0x8020 + 0x400 * n, 4, 1⟩
def Dn_STAT_PSTATE (n : Nat) : Fld := ⟨0x8020 + 0x400 * n, 0, 3⟩
def Dn_STAT_W (n : Nat) : Fld := ⟨0x8020 + 0x400 * n, 0, 32⟩
/- Dn_TRIPCNT (PWM, reset source SYS) -/
def Dn_TRIPCNT_REJ (n : Nat) : Fld := ⟨0x8024 + 0x400 * n, 16, 16⟩
def Dn_TRIPCNT_TRIPS (n : Nat) : Fld := ⟨0x8024 + 0x400 * n, 0, 16⟩
def Dn_TRIPCNT_W (n : Nat) : Fld := ⟨0x8024 + 0x400 * n, 0, 32⟩
/- Dn_ONT[k] (PWM, reset source SYS) -/
def Dn_ONT_FLOAT (n k : Nat) : Fld := ⟨0x8030 + 0x400 * n + 0x4 * k, 31, 1⟩
def Dn_ONT_NEG (n k : Nat) : Fld := ⟨0x8030 + 0x400 * n + 0x4 * k, 30, 1⟩
def Dn_ONT_ONT (n k : Nat) : Fld := ⟨0x8030 + 0x400 * n + 0x4 * k, 0, 24⟩
def Dn_ONT_W (n k : Nat) : Fld := ⟨0x8030 + 0x400 * n + 0x4 * k, 0, 32⟩
/- Dn_PINS (PWM, reset source SYS) -/
def Dn_PINS_DRV (n : Nat) : Fld := ⟨0x8040 + 0x400 * n, 16, 12⟩
def Dn_PINS_ACTV (n : Nat) : Fld := ⟨0x8040 + 0x400 * n, 0, 12⟩
def Dn_PINS_W (n : Nat) : Fld := ⟨0x8040 + 0x400 * n, 0, 32⟩
/- Dn_CMODE (PWM, reset source NVS) -/
def Dn_CMODE_FALLBK (n : Nat) : Fld := ⟨0x8100 + 0x400 * n, 9, 1⟩
def Dn_CMODE_CTRL (n : Nat) : Fld := ⟨0x8100 + 0x400 * n, 8, 1⟩
def Dn_CMODE_FBSEL (n : Nat) : Fld := ⟨0x8100 + 0x400 * n, 4, 4⟩
def Dn_CMODE_SENS (n : Nat) : Fld := ⟨0x8100 + 0x400 * n, 3, 1⟩
def Dn_CMODE_MODE (n : Nat) : Fld := ⟨0x8100 + 0x400 * n, 0, 2⟩
def Dn_CMODE_W (n : Nat) : Fld := ⟨0x8100 + 0x400 * n, 0, 32⟩
/- Dn_SPDFS (PWM, reset source NVS) -/
def Dn_SPDFS_POLEP (n : Nat) : Fld := ⟨0x8104 + 0x400 * n, 16, 6⟩
def Dn_SPDFS_SPD_FS (n : Nat) : Fld := ⟨0x8104 + 0x400 * n, 0, 16⟩
def Dn_SPDFS_W (n : Nat) : Fld := ⟨0x8104 + 0x400 * n, 0, 32⟩
/- Dn_RAMP (PWM, reset source NVS) -/
def Dn_RAMP_DEC (n : Nat) : Fld := ⟨0x8108 + 0x400 * n, 16, 16⟩
def Dn_RAMP_ACC (n : Nat) : Fld := ⟨0x8108 + 0x400 * n, 0, 16⟩
def Dn_RAMP_W (n : Nat) : Fld := ⟨0x8108 + 0x400 * n, 0, 32⟩
/- Dn_TLIM (PWM, reset source NVS) -/
def Dn_TLIM_GEN (n : Nat) : Fld := ⟨0x810C + 0x400 * n, 16, 16⟩
def Dn_TLIM_MOT (n : Nat) : Fld := ⟨0x810C + 0x400 * n, 0, 16⟩
def Dn_TLIM_W (n : Nat) : Fld := ⟨0x810C + 0x400 * n, 0, 32⟩
/- Dn_FW (PWM, reset source NVS) -/
def Dn_FW_IDMIN (n : Nat) : Fld := ⟨0x8110 + 0x400 * n, 16, 16⟩
def Dn_FW_VMARG (n : Nat) : Fld := ⟨0x8110 + 0x400 * n, 0, 16⟩
def Dn_FW_W (n : Nat) : Fld := ⟨0x8110 + 0x400 * n, 0, 32⟩
/- Dn_SOFT (PWM, reset source NVS) -/
def Dn_SOFT_ADVB (n : Nat) : Fld := ⟨0x8114 + 0x400 * n, 16, 8⟩
def Dn_SOFT_BLANK (n : Nat) : Fld := ⟨0x8114 + 0x400 * n, 8, 8⟩
def Dn_SOFT_SOFT (n : Nat) : Fld := ⟨0x8114 + 0x400 * n, 0, 8⟩
def Dn_SOFT_W (n : Nat) : Fld := ⟨0x8114 + 0x400 * n, 0, 32⟩
/- Dn_HOSPD (PWM, reset source NVS) -/
def Dn_HOSPD_DN (n : Nat) : Fld := ⟨0x8118 + 0x400 * n, 16, 16⟩
def Dn_HOSPD_UP (n : Nat) : Fld := ⟨0x8118 + 0x400 * n, 0, 16⟩
def Dn_HOSPD_W (n : Nat) : Fld := ⟨0x8118 + 0x400 * n, 0, 32⟩
/- Dn_BUMP (PWM, reset source NVS) -/
def Dn_BUMP_HFRM (n : Nat) : Fld := ⟨0x811C + 0x400 * n, 16, 8⟩
def Dn_BUMP_HMAX (n : Nat) : Fld := ⟨0x811C + 0x400 * n, 0, 16⟩
def Dn_BUMP_W (n : Nat) : Fld := ⟨0x811C + 0x400 * n, 0, 32⟩
/- Dn_ZC (PWM, reset source NVS) -/
def Dn_ZC_MISS (n : Nat) : Fld := ⟨0x8120 + 0x400 * n, 24, 4⟩
def Dn_ZC_EBLANK (n : Nat) : Fld := ⟨0x8120 + 0x400 * n, 16, 8⟩
def Dn_ZC_TH (n : Nat) : Fld := ⟨0x8120 + 0x400 * n, 0, 12⟩
def Dn_ZC_W (n : Nat) : Fld := ⟨0x8120 + 0x400 * n, 0, 32⟩
/- Dn_CSTAT (PWM, reset source SYS) -/
def Dn_CSTAT_ZCREJ (n : Nat) : Fld := ⟨0x8124 + 0x400 * n, 16, 16⟩
def Dn_CSTAT_FLIM (n : Nat) : Fld := ⟨0x8124 + 0x400 * n, 11, 1⟩
def Dn_CSTAT_HOBL (n : Nat) : Fld := ⟨0x8124 + 0x400 * n, 10, 1⟩
def Dn_CSTAT_SOFTLIM (n : Nat) : Fld := ⟨0x8124 + 0x400 * n, 9, 1⟩
def Dn_CSTAT_FWLIM (n : Nat) : Fld := ⟨0x8124 + 0x400 * n, 8, 1⟩
def Dn_CSTAT_VLIM (n : Nat) : Fld := ⟨0x8124 + 0x400 * n, 7, 1⟩
def Dn_CSTAT_SYNC (n : Nat) : Fld := ⟨0x8124 + 0x400 * n, 6, 1⟩
def Dn_CSTAT_SECTOR (n : Nat) : Fld := ⟨0x8124 + 0x400 * n, 3, 3⟩
def Dn_CSTAT_CUR (n : Nat) : Fld := ⟨0x8124 + 0x400 * n, 0, 2⟩
def Dn_CSTAT_W (n : Nat) : Fld := ⟨0x8124 + 0x400 * n, 0, 32⟩
/- Dn_ZCTS (PWM, reset source SYS) -/
def Dn_ZCTS_TS (n : Nat) : Fld := ⟨0x8128 + 0x400 * n, 0, 32⟩
def Dn_ZCTS_W (n : Nat) : Fld := ⟨0x8128 + 0x400 * n, 0, 32⟩
/- Dn_TSEC (PWM, reset source SYS) -/
def Dn_TSEC_TS (n : Nat) : Fld := ⟨0x812C + 0x400 * n, 0, 32⟩
def Dn_TSEC_W (n : Nat) : Fld := ⟨0x812C + 0x400 * n, 0, 32⟩
/- Dn_ANGLE (PWM, reset source SYS) -/
def Dn_ANGLE_ADV (n : Nat) : Fld := ⟨0x8130 + 0x400 * n, 16, 8⟩
def Dn_ANGLE_THETA (n : Nat) : Fld := ⟨0x8130 + 0x400 * n, 0, 16⟩
def Dn_ANGLE_W (n : Nat) : Fld := ⟨0x8130 + 0x400 * n, 0, 32⟩
/- Dn_IDQ (PWM, reset source SYS) -/
def Dn_IDQ_IQ (n : Nat) : Fld := ⟨0x8134 + 0x400 * n, 16, 16⟩
def Dn_IDQ_ID (n : Nat) : Fld := ⟨0x8134 + 0x400 * n, 0, 16⟩
def Dn_IDQ_W (n : Nat) : Fld := ⟨0x8134 + 0x400 * n, 0, 32⟩
/- Dn_START (PWM, reset source NVS) -/
def Dn_START_REVPOL (n : Nat) : Fld := ⟨0x8200 + 0x400 * n, 24, 2⟩
def Dn_START_CATCHT (n : Nat) : Fld := ⟨0x8200 + 0x400 * n, 16, 8⟩
def Dn_START_CATCH_MIN (n : Nat) : Fld := ⟨0x8200 + 0x400 * n, 0, 16⟩
def Dn_START_W (n : Nat) : Fld := ⟨0x8200 + 0x400 * n, 0, 32⟩
/- Dn_REVMAX (PWM, reset source NVS) -/
def Dn_REVMAX_WAITMAX (n : Nat) : Fld := ⟨0x8204 + 0x400 * n, 16, 16⟩
def Dn_REVMAX_REV_MAX (n : Nat) : Fld := ⟨0x8204 + 0x400 * n, 0, 16⟩
def Dn_REVMAX_W (n : Nat) : Fld := ⟨0x8204 + 0x400 * n, 0, 32⟩
/- Dn_ALIGN (PWM, reset source NVS) -/
def Dn_ALIGN_IALIGN (n : Nat) : Fld := ⟨0x8208 + 0x400 * n, 16, 16⟩
def Dn_ALIGN_ALIGNT (n : Nat) : Fld := ⟨0x8208 + 0x400 * n, 0, 16⟩
def Dn_ALIGN_W (n : Nat) : Fld := ⟨0x8208 + 0x400 * n, 0, 32⟩
/- Dn_IF (PWM, reset source NVS) -/
def Dn_IF_IIF (n : Nat) : Fld := ⟨0x820C + 0x400 * n, 16, 16⟩
def Dn_IF_IFACC (n : Nat) : Fld := ⟨0x820C + 0x400 * n, 0, 16⟩
def Dn_IF_W (n : Nat) : Fld := ⟨0x820C + 0x400 * n, 0, 32⟩
/- Dn_IFF (PWM, reset source NVS) -/
def Dn_IFF_FMAX (n : Nat) : Fld := ⟨0x8210 + 0x400 * n, 16, 16⟩
def Dn_IFF_FHO (n : Nat) : Fld := ⟨0x8210 + 0x400 * n, 0, 16⟩
def Dn_IFF_W (n : Nat) : Fld := ⟨0x8210 + 0x400 * n, 0, 32⟩
/- Dn_EMF (PWM, reset source NVS) -/
def Dn_EMF_EMFMIN (n : Nat) : Fld := ⟨0x8214 + 0x400 * n, 0, 12⟩
def Dn_EMF_W (n : Nat) : Fld := ⟨0x8214 + 0x400 * n, 0, 32⟩
/- Dn_SSTAT (PWM, reset source SYS) -/
def Dn_SSTAT_BRKN (n : Nat) : Fld := ⟨0x8220 + 0x400 * n, 24, 8⟩
def Dn_SSTAT_REVF (n : Nat) : Fld := ⟨0x8220 + 0x400 * n, 15, 1⟩
def Dn_SSTAT_REV_ROT (n : Nat) : Fld := ⟨0x8220 + 0x400 * n, 14, 1⟩
def Dn_SSTAT_SRC (n : Nat) : Fld := ⟨0x8220 + 0x400 * n, 12, 2⟩
def Dn_SSTAT_PATH (n : Nat) : Fld := ⟨0x8220 + 0x400 * n, 8, 3⟩
def Dn_SSTAT_SSTATE (n : Nat) : Fld := ⟨0x8220 + 0x400 * n, 0, 3⟩
def Dn_SSTAT_W (n : Nat) : Fld := ⟨0x8220 + 0x400 * n, 0, 32⟩
/- Dn_CATCH (PWM, reset source SYS) -/
def Dn_CATCH_SPD (n : Nat) : Fld := ⟨0x8224 + 0x400 * n, 16, 16⟩
def Dn_CATCH_THETA (n : Nat) : Fld := ⟨0x8224 + 0x400 * n, 0, 16⟩
def Dn_CATCH_W (n : Nat) : Fld := ⟨0x8224 + 0x400 * n, 0, 32⟩
/- Dn_CATCHA (PWM, reset source SYS) -/
def Dn_CATCHA_NXING (n : Nat) : Fld := ⟨0x8228 + 0x400 * n, 16, 8⟩
def Dn_CATCHA_AMP (n : Nat) : Fld := ⟨0x8228 + 0x400 * n, 0, 12⟩
def Dn_CATCHA_W (n : Nat) : Fld := ⟨0x8228 + 0x400 * n, 0, 32⟩
/- AFE_MCLK[k] (AFE, reset source NVS) -/
def AFE_MCLK_DSKEW (k : Nat) : Fld := ⟨0xC000 + 0x4 * k, 9, 6⟩
def AFE_MCLK_EN (k : Nat) : Fld := ⟨0xC000 + 0x4 * k, 8, 1⟩
def AFE_MCLK_DIV (k : Nat) : Fld := ⟨0xC000 + 0x4 * k, 0, 6⟩
def AFE_MCLK_W (k : Nat) : Fld := ⟨0xC000 + 0x4 * k, 0, 32⟩
/- AFE_OSR (AFE, reset source NVS) -/
def AFE_OSR_SOSR : Fld := ⟨0xC010, 16, 16⟩
def AFE_OSR_DOSR : Fld := ⟨0xC010, 0, 16⟩
def AFE_OSR_W : Fld := ⟨0xC010, 0, 32⟩
/- AFE_OCTH[m] (AFE, reset source NVS) -/
def AFE_OCTH_OCCNT (m : Nat) : Fld := ⟨0xC020 + 0x4 * m, 8, 3⟩
def AFE_OCTH_OCTH (m : Nat) : Fld := ⟨0xC020 + 0x4 * m, 0, 8⟩
def AFE_OCTH_W (m : Nat) : Fld := ⟨0xC020 + 0x4 * m, 0, 32⟩
/- AFE_ISC[n] (AFE, reset source NVS) -/
def AFE_ISC_IFS (n : Nat) : Fld := ⟨0xC060 + 0x4 * n, 0, 16⟩
def AFE_ISC_W (n : Nat) : Fld := ⟨0xC060 + 0x4 * n, 0, 32⟩
/- AFE_VSC[n] (AFE, reset source NVS) -/
def AFE_VSC_DCFS (n : Nat) : Fld := ⟨0xC080 + 0x4 * n, 16, 12⟩
def AFE_VSC_PVFS (n : Nat) : Fld := ⟨0xC080 + 0x4 * n, 0, 12⟩
def AFE_VSC_W (n : Nat) : Fld := ⟨0xC080 + 0x4 * n, 0, 32⟩
/- AFE_SISC[n] (AFE, reset source NVS) -/
def AFE_SISC_IFS (n : Nat) : Fld := ⟨0xC0A0 + 0x4 * n, 0, 16⟩
def AFE_SISC_W (n : Nat) : Fld := ⟨0xC0A0 + 0x4 * n, 0, 32⟩
/- AFE_PB[n] (AFE, reset source NVS) -/
def AFE_PB_GTOL (n : Nat) : Fld := ⟨0xC0C0 + 0x4 * n, 16, 8⟩
def AFE_PB_CLINK (n : Nat) : Fld := ⟨0xC0C0 + 0x4 * n, 0, 16⟩
def AFE_PB_W (n : Nat) : Fld := ⟨0xC0C0 + 0x4 * n, 0, 32⟩
/- AFE_SLOW (AFE, reset source NVS) -/
def AFE_SLOW_AVG : Fld := ⟨0xC0E0, 24, 2⟩
def AFE_SLOW_EN : Fld := ⟨0xC0E0, 0, 24⟩
def AFE_SLOW_W : Fld := ⟨0xC0E0, 0, 32⟩
/- AFE_LSTAT (AFE, reset source SYS) -/
def AFE_LSTAT_SHY : Fld := ⟨0xC100, 18, 6⟩
def AFE_LSTAT_SHX : Fld := ⟨0xC100, 12, 6⟩
def AFE_LSTAT_ROT : Fld := ⟨0xC100, 3, 1⟩
def AFE_LSTAT_SPARES : Fld := ⟨0xC100, 0, 3⟩
def AFE_LSTAT_W : Fld := ⟨0xC100, 0, 32⟩
/- AFE_LRET_LO (AFE, reset source SYS) -/
def AFE_LRET_LO_RET : Fld := ⟨0xC104, 0, 32⟩
def AFE_LRET_LO_W : Fld := ⟨0xC104, 0, 32⟩
/- AFE_LRET_HI (AFE, reset source SYS) -/
def AFE_LRET_HI_RET : Fld := ⟨0xC108, 0, 12⟩
def AFE_LRET_HI_W : Fld := ⟨0xC108, 0, 32⟩
/- AFE_SARSTAT (AFE, reset source SYS) -/
def AFE_SARSTAT_SHMIS : Fld := ⟨0xC110, 16, 16⟩
def AFE_SARSTAT_RET : Fld := ⟨0xC110, 4, 3⟩
def AFE_SARSTAT_ROTC : Fld := ⟨0xC110, 0, 2⟩
def AFE_SARSTAT_W : Fld := ⟨0xC110, 0, 32⟩
/- AFE_SARCAL[k] (AFE, reset source SYS) -/
def AFE_SARCAL_GAIN (k : Nat) : Fld := ⟨0xC114 + 0x4 * k, 16, 16⟩
def AFE_SARCAL_OFS (k : Nat) : Fld := ⟨0xC114 + 0x4 * k, 0, 16⟩
def AFE_SARCAL_W (k : Nat) : Fld := ⟨0xC114 + 0x4 * k, 0, 32⟩
/- AFE_LMAP[k] (AFE, reset source SYS) -/
def AFE_LMAP_MISM (k : Nat) : Fld := ⟨0xC300 + 0x4 * k, 16, 16⟩
def AFE_LMAP_VALID (k : Nat) : Fld := ⟨0xC300 + 0x4 * k, 7, 1⟩
def AFE_LMAP_LANE (k : Nat) : Fld := ⟨0xC300 + 0x4 * k, 0, 6⟩
def AFE_LMAP_W (k : Nat) : Fld := ⟨0xC300 + 0x4 * k, 0, 32⟩
/- AFE_IOFS[n] (AFE, reset source SYS) -/
def AFE_IOFS_IB (n : Nat) : Fld := ⟨0xC180 + 0x4 * n, 16, 16⟩
def AFE_IOFS_IA (n : Nat) : Fld := ⟨0xC180 + 0x4 * n, 0, 16⟩
def AFE_IOFS_W (n : Nat) : Fld := ⟨0xC180 + 0x4 * n, 0, 32⟩
/- AFE_SIOFS[n] (AFE, reset source SYS) -/
def AFE_SIOFS_WB (n : Nat) : Fld := ⟨0xC1A0 + 0x4 * n, 16, 16⟩
def AFE_SIOFS_WA (n : Nat) : Fld := ⟨0xC1A0 + 0x4 * n, 0, 16⟩
def AFE_SIOFS_W (n : Nat) : Fld := ⟨0xC1A0 + 0x4 * n, 0, 32⟩
/- AFE_GCHK[n] (AFE, reset source SYS) -/
def AFE_GCHK_PBGAIN (n : Nat) : Fld := ⟨0xC1C0 + 0x4 * n, 16, 16⟩
def AFE_GCHK_ABR (n : Nat) : Fld := ⟨0xC1C0 + 0x4 * n, 8, 8⟩
def AFE_GCHK_PVR (n : Nat) : Fld := ⟨0xC1C0 + 0x4 * n, 0, 8⟩
def AFE_GCHK_W (n : Nat) : Fld := ⟨0xC1C0 + 0x4 * n, 0, 32⟩
/- AFE_WSTAT (AFE, reset source SYS) -/
def AFE_WSTAT_GFAIL : Fld := ⟨0xC1E0, 24, 8⟩
def AFE_WSTAT_OFSLIM : Fld := ⟨0xC1E0, 8, 16⟩
def AFE_WSTAT_W : Fld := ⟨0xC1E0, 0, 32⟩
/- AFE_TBIN (AFE, reset source SYS) -/
def AFE_TBIN_SBINS : Fld := ⟨0xC1E4, 8, 8⟩
def AFE_TBIN_FBINS : Fld := ⟨0xC1E4, 0, 8⟩
def AFE_TBIN_W : Fld := ⟨0xC1E4, 0, 32⟩
/- AFE_DIE[k] (AFE, reset source SYS) -/
def AFE_DIE_TEMP (k : Nat) : Fld := ⟨0xC200 + 0x4 * k, 0, 16⟩
def AFE_DIE_W (k : Nat) : Fld := ⟨0xC200 + 0x4 * k, 0, 32⟩
/- AFE_AIN[k] (AFE, reset source SYS) -/
def AFE_AIN_VALID (k : Nat) : Fld := ⟨0xC220 + 0x4 * k, 31, 1⟩
def AFE_AIN_VAL (k : Nat) : Fld := ⟨0xC220 + 0x4 * k, 0, 16⟩
def AFE_AIN_W (k : Nat) : Fld := ⟨0xC220 + 0x4 * k, 0, 32⟩
/- AFE_STUCK_LO (AFE, reset source SYS) -/
def AFE_STUCK_LO_STK : Fld := ⟨0xC280, 0, 32⟩
def AFE_STUCK_LO_W : Fld := ⟨0xC280, 0, 32⟩
/- AFE_STUCK_HI (AFE, reset source SYS) -/
def AFE_STUCK_HI_STK : Fld := ⟨0xC284, 0, 8⟩
def AFE_STUCK_HI_W : Fld := ⟨0xC284, 0, 32⟩
/- FBn_CFG (FEED, reset source NVS) -/
def FBn_CFG_FLT (n : Nat) : Fld := ⟨0xB000 + 0x100 * n, 24, 8⟩
def FBn_CFG_ZCORR (n : Nat) : Fld := ⟨0xB000 + 0x100 * n, 19, 1⟩
def FBn_CFG_EXTRA (n : Nat) : Fld := ⟨0xB000 + 0x100 * n, 18, 1⟩
def FBn_CFG_GRAY (n : Nat) : Fld := ⟨0xB000 + 0x100 * n, 17, 1⟩
def FBn_CFG_HDIR (n : Nat) : Fld := ⟨0xB000 + 0x100 * n, 16, 1⟩
def FBn_CFG_ZGATE (n : Nat) : Fld := ⟨0xB000 + 0x100 * n, 13, 3⟩
def FBn_CFG_ZPOL (n : Nat) : Fld := ⟨0xB000 + 0x100 * n, 12, 1⟩
def FBn_CFG_INV (n : Nat) : Fld := ⟨0xB000 + 0x100 * n, 11, 1⟩
def FBn_CFG_MODE (n : Nat) : Fld := ⟨0xB000 + 0x100 * n, 0, 2⟩
def FBn_CFG_W (n : Nat) : Fld := ⟨0xB000 + 0x100 * n, 0, 32⟩
/- FBn_CPR (FEED, reset source NVS) -/
def FBn_CPR_CPR (n : Nat) : Fld := ⟨0xB004 + 0x100 * n, 0, 24⟩
def FBn_CPR_W (n : Nat) : Fld := ⟨0xB004 + 0x100 * n, 0, 32⟩
/- FBn_ANG (FEED, reset source NVS) -/
def FBn_ANG_EOFS (n : Nat) : Fld := ⟨0xB008 + 0x100 * n, 0, 16⟩
def FBn_ANG_W (n : Nat) : Fld := ⟨0xB008 + 0x100 * n, 0, 32⟩
/- FBn_SPDCFG (FEED, reset source NVS) -/
def FBn_SPDCFG_STILL (n : Nat) : Fld := ⟨0xB00C + 0x100 * n, 16, 12⟩
def FBn_SPDCFG_WIN (n : Nat) : Fld := ⟨0xB00C + 0x100 * n, 0, 6⟩
def FBn_SPDCFG_W (n : Nat) : Fld := ⟨0xB00C + 0x100 * n, 0, 32⟩
/- FBn_IDXTOL (FEED, reset source NVS) -/
def FBn_IDXTOL_TOL (n : Nat) : Fld := ⟨0xB010 + 0x100 * n, 0, 16⟩
def FBn_IDXTOL_W (n : Nat) : Fld := ⟨0xB010 + 0x100 * n, 0, 32⟩
/- FBn_SSI (FEED, reset source NVS) -/
def FBn_SSI_TOUT (n : Nat) : Fld := ⟨0xB014 + 0x100 * n, 24, 8⟩
def FBn_SSI_SDIV (n : Nat) : Fld := ⟨0xB014 + 0x100 * n, 16, 8⟩
def FBn_SSI_WLEN (n : Nat) : Fld := ⟨0xB014 + 0x100 * n, 10, 6⟩
def FBn_SSI_PBITS (n : Nat) : Fld := ⟨0xB014 + 0x100 * n, 4, 6⟩
def FBn_SSI_CRCW (n : Nat) : Fld := ⟨0xB014 + 0x100 * n, 0, 4⟩
def FBn_SSI_W (n : Nat) : Fld := ⟨0xB014 + 0x100 * n, 0, 32⟩
/- FBn_SSICHK (FEED, reset source NVS) -/
def FBn_SSICHK_SDLY (n : Nat) : Fld := ⟨0xB018 + 0x100 * n, 27, 5⟩
def FBn_SSICHK_SSIMAX (n : Nat) : Fld := ⟨0xB018 + 0x100 * n, 24, 3⟩
def FBn_SSICHK_POLY (n : Nat) : Fld := ⟨0xB018 + 0x100 * n, 16, 8⟩
def FBn_SSICHK_INIT (n : Nat) : Fld := ⟨0xB018 + 0x100 * n, 8, 8⟩
def FBn_SSICHK_CINV (n : Nat) : Fld := ⟨0xB018 + 0x100 * n, 7, 1⟩
def FBn_SSICHK_EPOL (n : Nat) : Fld := ⟨0xB018 + 0x100 * n, 6, 1⟩
def FBn_SSICHK_EBIT (n : Nat) : Fld := ⟨0xB018 + 0x100 * n, 0, 6⟩
def FBn_SSICHK_W (n : Nat) : Fld := ⟨0xB018 + 0x100 * n, 0, 32⟩
/- FBn_POS (FEED, reset source SYS) -/
def FBn_POS_POS (n : Nat) : Fld := ⟨0xB020 + 0x100 * n, 0, 32⟩
def FBn_POS_W (n : Nat) : Fld := ⟨0xB020 + 0x100 * n, 0, 32⟩
/- FBn_IDXLAT (FEED, reset source SYS) -/
def FBn_IDXLAT_LAT (n : Nat) : Fld := ⟨0xB024 + 0x100 * n, 0, 32⟩
def FBn_IDXLAT_W (n : Nat) : Fld := ⟨0xB024 + 0x100 * n, 0, 32⟩
/- FBn_IDXREF (FEED, reset source SYS) -/
def FBn_IDXREF_REF (n : Nat) : Fld := ⟨0xB028 + 0x100 * n, 0, 32⟩
def FBn_IDXREF_W (n : Nat) : Fld := ⟨0xB028 + 0x100 * n, 0, 32⟩
/- FBn_STAT (FEED, reset source SYS) -/
def FBn_STAT_ILL (n : Nat) : Fld := ⟨0xB02C + 0x100 * n, 15, 1⟩
def FBn_STAT_DRIFT (n : Nat) : Fld := ⟨0xB02C + 0x100 * n, 14, 1⟩
def FBn_STAT_CRCF (n : Nat) : Fld := ⟨0xB02C + 0x100 * n, 13, 1⟩
def FBn_STAT_EBITF (n : Nat) : Fld := ⟨0xB02C + 0x100 * n, 12, 1⟩
def FBn_STAT_TOUTF (n : Nat) : Fld := ⟨0xB02C + 0x100 * n, 11, 1⟩
def FBn_STAT_CMPOVL (n : Nat) : Fld := ⟨0xB02C + 0x100 * n, 10, 1⟩
def FBn_STAT_EMUOVL (n : Nat) : Fld := ⟨0xB02C + 0x100 * n, 9, 1⟩
def FBn_STAT_INVAL (n : Nat) : Fld := ⟨0xB02C + 0x100 * n, 7, 1⟩
def FBn_STAT_STILL (n : Nat) : Fld := ⟨0xB02C + 0x100 * n, 6, 1⟩
def FBn_STAT_FVALID (n : Nat) : Fld := ⟨0xB02C + 0x100 * n, 5, 1⟩
def FBn_STAT_AVALID (n : Nat) : Fld := ⟨0xB02C + 0x100 * n, 4, 1⟩
def FBn_STAT_DIR (n : Nat) : Fld := ⟨0xB02C + 0x100 * n, 3, 1⟩
def FBn_STAT_HALL (n : Nat) : Fld := ⟨0xB02C + 0x100 * n, 0, 3⟩
def FBn_STAT_W (n : Nat) : Fld := ⟨0xB02C + 0x100 * n, 0, 32⟩
/- FBn_ERRCNT (FEED, reset source SYS) -/
def FBn_ERRCNT_ILL_CNT (n : Nat) : Fld := ⟨0xB030 + 0x100 * n, 16, 16⟩
def FBn_ERRCNT_DRIFTCNT (n : Nat) : Fld := ⟨0xB030 + 0x100 * n, 0, 16⟩
def FBn_ERRCNT_W (n : Nat) : Fld := ⟨0xB030 + 0x100 * n, 0, 32⟩
/- FBn_SSICNT (FEED, reset source SYS) -/
def FBn_SSICNT_CRCCNT (n : Nat) : Fld := ⟨0xB034 + 0x100 * n, 16, 16⟩
def FBn_SSICNT_EBITCNT (n : Nat) : Fld := ⟨0xB034 + 0x100 * n, 8, 8⟩
def FBn_SSICNT_TOUTCNT (n : Nat) : Fld := ⟨0xB034 + 0x100 * n, 0, 8⟩
def FBn_SSICNT_W (n : Nat) : Fld := ⟨0xB034 + 0x100 * n, 0, 32⟩
/- FBn_SPDk (FEED, reset source SYS) -/
def FBn_SPDk_SPD (n k : Nat) : Fld := ⟨0xB038 + 0x100 * n + 0x4 * k, 0, 32⟩
def FBn_SPDk_W (n k : Nat) : Fld := ⟨0xB038 + 0x100 * n + 0x4 * k, 0, 32⟩
/- FBn_EDGET (FEED, reset source SYS) -/
def FBn_EDGET_T (n : Nat) : Fld := ⟨0xB044 + 0x100 * n, 0, 32⟩
def FBn_EDGET_W (n : Nat) : Fld := ⟨0xB044 + 0x100 * n, 0, 32⟩
/- FBn_CMPCTL (FEED, reset source NVS) -/
def FBn_CMPCTL_EN (n : Nat) : Fld := ⟨0xB050 + 0x100 * n, 31, 1⟩
def FBn_CMPCTL_SEQ (n : Nat) : Fld := ⟨0xB050 + 0x100 * n, 30, 1⟩
def FBn_CMPCTL_CPOL (n : Nat) : Fld := ⟨0xB050 + 0x100 * n, 29, 1⟩
def FBn_CMPCTL_PW (n : Nat) : Fld := ⟨0xB050 + 0x100 * n, 0, 17⟩
def FBn_CMPCTL_W (n : Nat) : Fld := ⟨0xB050 + 0x100 * n, 0, 32⟩
/- FBn_CMPSTAT (FEED, reset source SYS) -/
def FBn_CMPSTAT_FIRED (n : Nat) : Fld := ⟨0xB054 + 0x100 * n, 8, 24⟩
def FBn_CMPSTAT_PTR (n : Nat) : Fld := ⟨0xB054 + 0x100 * n, 0, 4⟩
def FBn_CMPSTAT_W (n : Nat) : Fld := ⟨0xB054 + 0x100 * n, 0, 32⟩
/- FBn_EMU (FEED, reset source NVS) -/
def FBn_EMU_M (n : Nat) : Fld := ⟨0xB058 + 0x100 * n, 16, 16⟩
def FBn_EMU_N (n : Nat) : Fld := ⟨0xB058 + 0x100 * n, 0, 16⟩
def FBn_EMU_W (n : Nat) : Fld := ⟨0xB058 + 0x100 * n, 0, 32⟩
/- FBn_EMUCFG (FEED, reset source NVS) -/
def FBn_EMUCFG_EN (n : Nat) : Fld := ⟨0xB05C + 0x100 * n, 31, 1⟩
def FBn_EMUCFG_SRC (n : Nat) : Fld := ⟨0xB05C + 0x100 * n, 24, 4⟩
def FBn_EMUCFG_EMIN (n : Nat) : Fld := ⟨0xB05C + 0x100 * n, 0, 8⟩
def FBn_EMUCFG_W (n : Nat) : Fld := ⟨0xB05C + 0x100 * n, 0, 32⟩
/- FBn_EMUSTAT (FEED, reset source SYS) -/
def FBn_EMUSTAT_BACKLOG (n : Nat) : Fld := ⟨0xB060 + 0x100 * n, 0, 17⟩
def FBn_EMUSTAT_W (n : Nat) : Fld := ⟨0xB060 + 0x100 * n, 0, 32⟩
/- FBn_CMPPOS[j] (FEED, reset source NVS) -/
def FBn_CMPPOS_POS (n j : Nat) : Fld := ⟨0xB080 + 0x100 * n + 0x8 * j, 0, 32⟩
def FBn_CMPPOS_W (n j : Nat) : Fld := ⟨0xB080 + 0x100 * n + 0x8 * j, 0, 32⟩
/- FBn_CMPMODE[j] (FEED, reset source NVS) -/
def FBn_CMPMODE_EN (n j : Nat) : Fld := ⟨0xB084 + 0x100 * n + 0x8 * j, 31, 1⟩
def FBn_CMPMODE_DSEL (n j : Nat) : Fld := ⟨0xB084 + 0x100 * n + 0x8 * j, 0, 2⟩
def FBn_CMPMODE_W (n j : Nat) : Fld := ⟨0xB084 + 0x100 * n + 0x8 * j, 0, 32⟩
/- LE_CTL (FABRIC, reset source NVS) -/
def LE_CTL_SPARECHK : Fld := ⟨0xD000, 1, 1⟩
def LE_CTL_PLAN_EN : Fld := ⟨0xD000, 0, 1⟩
def LE_CTL_W : Fld := ⟨0xD000, 0, 32⟩
/- LE_PSTAT (FABRIC, reset source SYS) -/
def LE_PSTAT_ST : Fld := ⟨0xD004, 0, 15⟩
def LE_PSTAT_W : Fld := ⟨0xD004, 0, 32⟩
/- LE_DMAP (FABRIC, reset source SYS) -/
def LE_DMAP_MAP : Fld := ⟨0xD008, 0, 32⟩
def LE_DMAP_W : Fld := ⟨0xD008, 0, 32⟩
/- LE_SMAP (FABRIC, reset source SYS) -/
def LE_SMAP_MAP : Fld := ⟨0xD00C, 0, 32⟩
def LE_SMAP_W : Fld := ⟨0xD00C, 0, 32⟩
/- LE_ERR[k] (FABRIC, reset source SYS) -/
def LE_ERR_ECCRET (k : Nat) : Fld := ⟨0xD010 + 0x4 * k, 16, 16⟩
def LE_ERR_CKF (k : Nat) : Fld := ⟨0xD010 + 0x4 * k, 8, 8⟩
def LE_ERR_DIS (k : Nat) : Fld := ⟨0xD010 + 0x4 * k, 0, 8⟩
def LE_ERR_W (k : Nat) : Fld := ⟨0xD010 + 0x4 * k, 0, 32⟩
/- LE_PRIO[c] (FABRIC, reset source NVS) -/
def LE_PRIO_PRIO (c : Nat) : Fld := ⟨0xD040 + 0x4 * c, 0, 8⟩
def LE_PRIO_W (c : Nat) : Fld := ⟨0xD040 + 0x4 * c, 0, 32⟩
/- LE_SATCNT[c] (FABRIC, reset source SYS) -/
def LE_SATCNT_COUNT (c : Nat) : Fld := ⟨0xD080 + 0x4 * c, 0, 32⟩
def LE_SATCNT_W (c : Nat) : Fld := ⟨0xD080 + 0x4 * c, 0, 32⟩
/- LE_CKFN[c] (FABRIC, reset source SYS) -/
def LE_CKFN_FN (c : Nat) : Fld := ⟨0xD0C0 + 0x4 * c, 0, 32⟩
def LE_CKFN_W (c : Nat) : Fld := ⟨0xD0C0 + 0x4 * c, 0, 32⟩
/- LE_CWCNT (FABRIC, reset source SYS) -/
def LE_CWCNT_REF : Fld := ⟨0xD100, 16, 16⟩
def LE_CWCNT_APPL : Fld := ⟨0xD100, 0, 16⟩
def LE_CWCNT_W : Fld := ⟨0xD100, 0, 32⟩
/- Dn_SUPCFG (FABRIC, reset source NVS) -/
def Dn_SUPCFG_PERSIST (n : Nat) : Fld := ⟨0xD200 + 0x20 * n, 24, 8⟩
def Dn_SUPCFG_SETTLE (n : Nat) : Fld := ⟨0xD200 + 0x20 * n, 16, 8⟩
def Dn_SUPCFG_SSIW (n : Nat) : Fld := ⟨0xD200 + 0x20 * n, 12, 4⟩
def Dn_SUPCFG_DRIFTW (n : Nat) : Fld := ⟨0xD200 + 0x20 * n, 8, 4⟩
def Dn_SUPCFG_ILLW (n : Nat) : Fld := ⟨0xD200 + 0x20 * n, 4, 4⟩
def Dn_SUPCFG_EN (n : Nat) : Fld := ⟨0xD200 + 0x20 * n, 0, 1⟩
def Dn_SUPCFG_W (n : Nat) : Fld := ⟨0xD200 + 0x20 * n, 0, 32⟩
/- Dn_SUPTH (FABRIC, reset source NVS) -/
def Dn_SUPTH_THW (n : Nat) : Fld := ⟨0xD204 + 0x20 * n, 16, 16⟩
def Dn_SUPTH_THI (n : Nat) : Fld := ⟨0xD204 + 0x20 * n, 0, 16⟩
def Dn_SUPTH_W (n : Nat) : Fld := ⟨0xD204 + 0x20 * n, 0, 32⟩
/- Dn_SUPSTAT (FABRIC, reset source SYS) -/
def Dn_SUPSTAT_CNT (n : Nat) : Fld := ⟨0xD208 + 0x20 * n, 24, 8⟩
def Dn_SUPSTAT_VERD (n : Nat) : Fld := ⟨0xD208 + 0x20 * n, 7, 1⟩
def Dn_SUPSTAT_FALL (n : Nat) : Fld := ⟨0xD208 + 0x20 * n, 6, 1⟩
def Dn_SUPSTAT_MEAS (n : Nat) : Fld := ⟨0xD208 + 0x20 * n, 5, 1⟩
def Dn_SUPSTAT_SUSP (n : Nat) : Fld := ⟨0xD208 + 0x20 * n, 4, 1⟩
def Dn_SUPSTAT_EXC (n : Nat) : Fld := ⟨0xD208 + 0x20 * n, 3, 1⟩
def Dn_SUPSTAT_CAUSE (n : Nat) : Fld := ⟨0xD208 + 0x20 * n, 0, 3⟩
def Dn_SUPSTAT_W (n : Nat) : Fld := ⟨0xD208 + 0x20 * n, 0, 32⟩
/- Dn_SUPRES (FABRIC, reset source SYS) -/
def Dn_SUPRES_RW (n : Nat) : Fld := ⟨0xD20C + 0x20 * n, 16, 16⟩
def Dn_SUPRES_RI (n : Nat) : Fld := ⟨0xD20C + 0x20 * n, 0, 16⟩
def Dn_SUPRES_W (n : Nat) : Fld := ⟨0xD20C + 0x20 * n, 0, 32⟩
/- Dn_SUPPK (FABRIC, reset source SYS) -/
def Dn_SUPPK_PKW (n : Nat) : Fld := ⟨0xD210 + 0x20 * n, 16, 16⟩
def Dn_SUPPK_PKI (n : Nat) : Fld := ⟨0xD210 + 0x20 * n, 0, 16⟩
def Dn_SUPPK_W (n : Nat) : Fld := ⟨0xD210 + 0x20 * n, 0, 32⟩
/- Dn_SUPCNT (FABRIC, reset source SYS) -/
def Dn_SUPCNT_VERDS (n : Nat) : Fld := ⟨0xD214 + 0x20 * n, 16, 16⟩
def Dn_SUPCNT_EXCFR (n : Nat) : Fld := ⟨0xD214 + 0x20 * n, 0, 16⟩
def Dn_SUPCNT_W (n : Nat) : Fld := ⟨0xD214 + 0x20 * n, 0, 32⟩
/- LE_INJCFG[k] (FABRIC, reset source SYS) -/
def LE_INJCFG_TYPE (k : Nat) : Fld := ⟨0xD300 + 0x20 * k, 30, 2⟩
def LE_INJCFG_LOG (k : Nat) : Fld := ⟨0xD300 + 0x20 * k, 29, 1⟩
def LE_INJCFG_CH (k : Nat) : Fld := ⟨0xD300 + 0x20 * k, 25, 4⟩
def LE_INJCFG_PT (k : Nat) : Fld := ⟨0xD300 + 0x20 * k, 23, 2⟩
def LE_INJCFG_ORD (k : Nat) : Fld := ⟨0xD300 + 0x20 * k, 19, 4⟩
def LE_INJCFG_HOLD (k : Nat) : Fld := ⟨0xD300 + 0x20 * k, 8, 8⟩
def LE_INJCFG_REPS (k : Nat) : Fld := ⟨0xD300 + 0x20 * k, 0, 8⟩
def LE_INJCFG_W (k : Nat) : Fld := ⟨0xD300 + 0x20 * k, 0, 32⟩
/- LE_INJF[k] (FABRIC, reset source SYS) -/
def LE_INJF_F1 (k : Nat) : Fld := ⟨0xD304 + 0x20 * k, 16, 16⟩
def LE_INJF_F0 (k : Nat) : Fld := ⟨0xD304 + 0x20 * k, 0, 16⟩
def LE_INJF_W (k : Nat) : Fld := ⟨0xD304 + 0x20 * k, 0, 32⟩
/- LE_INJAMP[k] (FABRIC, reset source SYS) -/
def LE_INJAMP_OFF (k : Nat) : Fld := ⟨0xD308 + 0x20 * k, 16, 16⟩
def LE_INJAMP_AMP (k : Nat) : Fld := ⟨0xD308 + 0x20 * k, 0, 16⟩
def LE_INJAMP_W (k : Nat) : Fld := ⟨0xD308 + 0x20 * k, 0, 32⟩
/- LE_INJDUR[k] (FABRIC, reset source SYS) -/
def LE_INJDUR_DUR (k : Nat) : Fld := ⟨0xD30C + 0x20 * k, 0, 24⟩
def LE_INJDUR_W (k : Nat) : Fld := ⟨0xD30C + 0x20 * k, 0, 32⟩
/- LE_CAPCFG[k] (FABRIC, reset source SYS) -/
def LE_CAPCFG_MODE (k : Nat) : Fld := ⟨0xD310 + 0x20 * k, 31, 1⟩
def LE_CAPCFG_TRIG (k : Nat) : Fld := ⟨0xD310 + 0x20 * k, 29, 2⟩
def LE_CAPCFG_EDGE (k : Nat) : Fld := ⟨0xD310 + 0x20 * k, 28, 1⟩
def LE_CAPCFG_RING (k : Nat) : Fld := ⟨0xD310 + 0x20 * k, 27, 1⟩
def LE_CAPCFG_DEC (k : Nat) : Fld := ⟨0xD310 + 0x20 * k, 0, 8⟩
def LE_CAPCFG_W (k : Nat) : Fld := ⟨0xD310 + 0x20 * k, 0, 32⟩
/- LE_CAPSEL[k] (FABRIC, reset source SYS) -/
def LE_CAPSEL_SIG1 (k : Nat) : Fld := ⟨0xD314 + 0x20 * k, 16, 16⟩
def LE_CAPSEL_SIG0 (k : Nat) : Fld := ⟨0xD314 + 0x20 * k, 0, 16⟩
def LE_CAPSEL_W (k : Nat) : Fld := ⟨0xD314 + 0x20 * k, 0, 32⟩
/- LE_CAPTRIG[k] (FABRIC, reset source SYS) -/
def LE_CAPTRIG_PRE (k : Nat) : Fld := ⟨0xD318 + 0x20 * k, 16, 15⟩
def LE_CAPTRIG_LEVEL (k : Nat) : Fld := ⟨0xD318 + 0x20 * k, 0, 16⟩
def LE_CAPTRIG_W (k : Nat) : Fld := ⟨0xD318 + 0x20 * k, 0, 32⟩
/- LE_CAPSTAT[k] (FABRIC, reset source SYS) -/
def LE_CAPSTAT_DROP (k : Nat) : Fld := ⟨0xD31C + 0x20 * k, 24, 8⟩
def LE_CAPSTAT_INJ (k : Nat) : Fld := ⟨0xD31C + 0x20 * k, 18, 2⟩
def LE_CAPSTAT_CAP (k : Nat) : Fld := ⟨0xD31C + 0x20 * k, 16, 2⟩
def LE_CAPSTAT_FILL (k : Nat) : Fld := ⟨0xD31C + 0x20 * k, 0, 16⟩
def LE_CAPSTAT_W (k : Nat) : Fld := ⟨0xD31C + 0x20 * k, 0, 32⟩
/- Sn_CFG (PWM, reset source NVS) -/
def Sn_CFG_STALLEN (n : Nat) : Fld := ⟨0xA000 + 0x200 * n, 5, 1⟩
def Sn_CFG_EPOL (n : Nat) : Fld := ⟨0xA000 + 0x200 * n, 4, 1⟩
def Sn_CFG_FLTEN (n : Nat) : Fld := ⟨0xA000 + 0x200 * n, 3, 1⟩
def Sn_CFG_SRATIO (n : Nat) : Fld := ⟨0xA000 + 0x200 * n, 1, 2⟩
def Sn_CFG_EN (n : Nat) : Fld := ⟨0xA000 + 0x200 * n, 0, 1⟩
def Sn_CFG_W (n : Nat) : Fld := ⟨0xA000 + 0x200 * n, 0, 32⟩
/- Sn_ICUR (PWM, reset source NVS) -/
def Sn_ICUR_HOLD (n : Nat) : Fld := ⟨0xA004 + 0x200 * n, 16, 16⟩
def Sn_ICUR_RUN (n : Nat) : Fld := ⟨0xA004 + 0x200 * n, 0, 16⟩
def Sn_ICUR_W (n : Nat) : Fld := ⟨0xA004 + 0x200 * n, 0, 32⟩
/- Sn_TIM (PWM, reset source NVS) -/
def Sn_TIM_HOLDT (n : Nat) : Fld := ⟨0xA008 + 0x200 * n, 16, 16⟩
def Sn_TIM_MINPW (n : Nat) : Fld := ⟨0xA008 + 0x200 * n, 0, 16⟩
def Sn_TIM_W (n : Nat) : Fld := ⟨0xA008 + 0x200 * n, 0, 32⟩
/- Sn_MOTOR (PWM, reset source NVS) -/
def Sn_MOTOR_LWIND (n : Nat) : Fld := ⟨0xA00C + 0x200 * n, 16, 16⟩
def Sn_MOTOR_RWIND (n : Nat) : Fld := ⟨0xA00C + 0x200 * n, 0, 16⟩
def Sn_MOTOR_W (n : Nat) : Fld := ⟨0xA00C + 0x200 * n, 0, 32⟩
/- Sn_VBR (PWM, reset source NVS) -/
def Sn_VBR_VBR (n : Nat) : Fld := ⟨0xA010 + 0x200 * n, 0, 16⟩
def Sn_VBR_W (n : Nat) : Fld := ⟨0xA010 + 0x200 * n, 0, 32⟩
/- Sn_STALL (PWM, reset source NVS) -/
def Sn_STALL_STALLN (n : Nat) : Fld := ⟨0xA014 + 0x200 * n, 24, 8⟩
def Sn_STALL_STALLA (n : Nat) : Fld := ⟨0xA014 + 0x200 * n, 16, 8⟩
def Sn_STALL_STVMIN (n : Nat) : Fld := ⟨0xA014 + 0x200 * n, 0, 16⟩
def Sn_STALL_W (n : Nat) : Fld := ⟨0xA014 + 0x200 * n, 0, 32⟩
/- Sn_HOME (PWM, reset source NVS) -/
def Sn_HOME_HOMEI (n : Nat) : Fld := ⟨0xA018 + 0x200 * n, 16, 16⟩
def Sn_HOME_HOMESPD (n : Nat) : Fld := ⟨0xA018 + 0x200 * n, 0, 16⟩
def Sn_HOME_W (n : Nat) : Fld := ⟨0xA018 + 0x200 * n, 0, 32⟩
/- Sn_HOMEX (PWM, reset source NVS) -/
def Sn_HOMEX_DIR (n : Nat) : Fld := ⟨0xA01C + 0x200 * n, 31, 1⟩
def Sn_HOMEX_HOMEMAX (n : Nat) : Fld := ⟨0xA01C + 0x200 * n, 0, 24⟩
def Sn_HOMEX_W (n : Nat) : Fld := ⟨0xA01C + 0x200 * n, 0, 32⟩
/- Sn_HOMEPOS (PWM, reset source NVS) -/
def Sn_HOMEPOS_POS (n : Nat) : Fld := ⟨0xA020 + 0x200 * n, 0, 32⟩
def Sn_HOMEPOS_W (n : Nat) : Fld := ⟨0xA020 + 0x200 * n, 0, 32⟩
/- Sn_BACKOFF (PWM, reset source NVS) -/
def Sn_BACKOFF_BACKOFF (n : Nat) : Fld := ⟨0xA024 + 0x200 * n, 0, 16⟩
def Sn_BACKOFF_W (n : Nat) : Fld := ⟨0xA024 + 0x200 * n, 0, 32⟩
/- Sn_TABADR (PWM, reset source SYS) -/
def Sn_TABADR_ADR (n : Nat) : Fld := ⟨0xA028 + 0x200 * n, 0, 7⟩
def Sn_TABADR_W (n : Nat) : Fld := ⟨0xA028 + 0x200 * n, 0, 32⟩
/- Sn_TABDAT (PWM, reset source NVS) -/
def Sn_TABDAT_ODD (n : Nat) : Fld := ⟨0xA02C + 0x200 * n, 16, 16⟩
def Sn_TABDAT_EVEN (n : Nat) : Fld := ⟨0xA02C + 0x200 * n, 0, 16⟩
def Sn_TABDAT_W (n : Nat) : Fld := ⟨0xA02C + 0x200 * n, 0, 32⟩
/- Sn_STAT (PWM, reset source SYS) -/
def Sn_STAT_TAGF (n : Nat) : Fld := ⟨0xA030 + 0x200 * n, 12, 1⟩
def Sn_STAT_FLT (n : Nat) : Fld := ⟨0xA030 + 0x200 * n, 11, 1⟩
def Sn_STAT_OC (n : Nat) : Fld := ⟨0xA030 + 0x200 * n, 10, 1⟩
def Sn_STAT_STALL (n : Nat) : Fld := ⟨0xA030 + 0x200 * n, 9, 1⟩
def Sn_STAT_HOMED (n : Nat) : Fld := ⟨0xA030 + 0x200 * n, 8, 1⟩
def Sn_STAT_PUNC (n : Nat) : Fld := ⟨0xA030 + 0x200 * n, 7, 1⟩
def Sn_STAT_OWN (n : Nat) : Fld := ⟨0xA030 + 0x200 * n, 6, 1⟩
def Sn_STAT_HASP_EN (n : Nat) : Fld := ⟨0xA030 + 0x200 * n, 5, 1⟩
def Sn_STAT_FLTIN (n : Nat) : Fld := ⟨0xA030 + 0x200 * n, 4, 1⟩
def Sn_STAT_SSTATE (n : Nat) : Fld := ⟨0xA030 + 0x200 * n, 0, 3⟩
def Sn_STAT_W (n : Nat) : Fld := ⟨0xA030 + 0x200 * n, 0, 32⟩
/- Sn_IREF (PWM, reset source SYS) -/
def Sn_IREF_IB (n : Nat) : Fld := ⟨0xA034 + 0x200 * n, 16, 16⟩
def Sn_IREF_IA (n : Nat) : Fld := ⟨0xA034 + 0x200 * n, 0, 16⟩
def Sn_IREF_W (n : Nat) : Fld := ⟨0xA034 + 0x200 * n, 0, 32⟩
/- Sn_LOAD (PWM, reset source SYS) -/
def Sn_LOAD_EMAG (n : Nat) : Fld := ⟨0xA038 + 0x200 * n, 16, 16⟩
def Sn_LOAD_DELTA (n : Nat) : Fld := ⟨0xA038 + 0x200 * n, 0, 16⟩
def Sn_LOAD_W (n : Nat) : Fld := ⟨0xA038 + 0x200 * n, 0, 32⟩
/- SHR_Gg_CFG (FABRIC, reset source NVS) -/
def SHR_Gg_CFG_SPDDEV (g : Nat) : Fld := ⟨0xE000 + 0x40 * g, 16, 16⟩
def SHR_Gg_CFG_DEVN (g : Nat) : Fld := ⟨0xE000 + 0x40 * g, 8, 8⟩
def SHR_Gg_CFG_ISOL (g : Nat) : Fld := ⟨0xE000 + 0x40 * g, 4, 1⟩
def SHR_Gg_CFG_MODE (g : Nat) : Fld := ⟨0xE000 + 0x40 * g, 0, 2⟩
def SHR_Gg_CFG_W (g : Nat) : Fld := ⟨0xE000 + 0x40 * g, 0, 32⟩
/- SHR_Gg_MEM (FABRIC, reset source NVS) -/
def SHR_Gg_MEM_SLOT (g : Nat) : Fld := ⟨0xE004 + 0x40 * g, 0, 32⟩
def SHR_Gg_MEM_W (g : Nat) : Fld := ⟨0xE004 + 0x40 * g, 0, 32⟩
/- SHR_Gg_WT[s] (FABRIC, reset source NVS) -/
def SHR_Gg_WT_RATE (g s : Nat) : Fld := ⟨0xE008 + 0x40 * g + 0x4 * s, 16, 16⟩
def SHR_Gg_WT_RTQ (g s : Nat) : Fld := ⟨0xE008 + 0x40 * g + 0x4 * s, 0, 16⟩
def SHR_Gg_WT_W (g s : Nat) : Fld := ⟨0xE008 + 0x40 * g + 0x4 * s, 0, 32⟩
/- SHR_Gg_DROOP (FABRIC, reset source NVS) -/
def SHR_Gg_DROOP_DROOP (g : Nat) : Fld := ⟨0xE018 + 0x40 * g, 0, 32⟩
def SHR_Gg_DROOP_W (g : Nat) : Fld := ⟨0xE018 + 0x40 * g, 0, 32⟩
/- SHR_Gg_BAL (FABRIC, reset source NVS) -/
def SHR_Gg_BAL_BALLIM (g : Nat) : Fld := ⟨0xE01C + 0x40 * g, 16, 16⟩
def SHR_Gg_BAL_KBAL (g : Nat) : Fld := ⟨0xE01C + 0x40 * g, 0, 16⟩
def SHR_Gg_BAL_W (g : Nat) : Fld := ⟨0xE01C + 0x40 * g, 0, 32⟩
/- SHR_Gg_STAT (FABRIC, reset source SYS) -/
def SHR_Gg_STAT_LEFT (g : Nat) : Fld := ⟨0xE020 + 0x40 * g, 16, 16⟩
def SHR_Gg_STAT_GLIM (g : Nat) : Fld := ⟨0xE020 + 0x40 * g, 15, 1⟩
def SHR_Gg_STAT_LEAD (g : Nat) : Fld := ⟨0xE020 + 0x40 * g, 8, 2⟩
def SHR_Gg_STAT_ST (g : Nat) : Fld := ⟨0xE020 + 0x40 * g, 0, 8⟩
def SHR_Gg_STAT_W (g : Nat) : Fld := ⟨0xE020 + 0x40 * g, 0, 32⟩
/- SHR_Gg_LOAD (FABRIC, reset source SYS) -/
def SHR_Gg_LOAD_TAU (g : Nat) : Fld := ⟨0xE024 + 0x40 * g, 16, 16⟩
def SHR_Gg_LOAD_L (g : Nat) : Fld := ⟨0xE024 + 0x40 * g, 0, 16⟩
def SHR_Gg_LOAD_W (g : Nat) : Fld := ⟨0xE024 + 0x40 * g, 0, 32⟩
/- SHR_Gg_SHARE[j] (FABRIC, reset source SYS) -/
def SHR_Gg_SHARE_ODD (g j : Nat) : Fld := ⟨0xE028 + 0x40 * g + 0x4 * j, 16, 16⟩
def SHR_Gg_SHARE_EVEN (g j : Nat) : Fld := ⟨0xE028 + 0x40 * g + 0x4 * j, 0, 16⟩
def SHR_Gg_SHARE_W (g j : Nat) : Fld := ⟨0xE028 + 0x40 * g + 0x4 * j, 0, 32⟩
/- Dn_DCTH0 (PWM, reset source NVS) -/
def Dn_DCTH0_BRKON (n : Nat) : Fld := ⟨0x8300 + 0x400 * n, 16, 12⟩
def Dn_DCTH0_BRKOFF (n : Nat) : Fld := ⟨0x8300 + 0x400 * n, 0, 12⟩
def Dn_DCTH0_W (n : Nat) : Fld := ⟨0x8300 + 0x400 * n, 0, 32⟩
/- Dn_DCTH1 (PWM, reset source NVS) -/
def Dn_DCTH1_OV1 (n : Nat) : Fld := ⟨0x8304 + 0x400 * n, 16, 12⟩
def Dn_DCTH1_UV (n : Nat) : Fld := ⟨0x8304 + 0x400 * n, 0, 12⟩
def Dn_DCTH1_W (n : Nat) : Fld := ⟨0x8304 + 0x400 * n, 0, 32⟩
/- Dn_DCTH2 (PWM, reset source NVS) -/
def Dn_DCTH2_OV3 (n : Nat) : Fld := ⟨0x8308 + 0x400 * n, 16, 12⟩
def Dn_DCTH2_OV2 (n : Nat) : Fld := ⟨0x8308 + 0x400 * n, 0, 12⟩
def Dn_DCTH2_W (n : Nat) : Fld := ⟨0x8308 + 0x400 * n, 0, 32⟩
/- Dn_BRK (PWM, reset source NVS) -/
def Dn_BRK_SLPTOL (n : Nat) : Fld := ⟨0x830C + 0x400 * n, 24, 8⟩
def Dn_BRK_MINON (n : Nat) : Fld := ⟨0x830C + 0x400 * n, 16, 8⟩
def Dn_BRK_UVHYS (n : Nat) : Fld := ⟨0x830C + 0x400 * n, 8, 8⟩
def Dn_BRK_SRC (n : Nat) : Fld := ⟨0x830C + 0x400 * n, 5, 3⟩
def Dn_BRK_FBPOL (n : Nat) : Fld := ⟨0x830C + 0x400 * n, 4, 1⟩
def Dn_BRK_SLPEN (n : Nat) : Fld := ⟨0x830C + 0x400 * n, 3, 1⟩
def Dn_BRK_FBEN (n : Nat) : Fld := ⟨0x830C + 0x400 * n, 2, 1⟩
def Dn_BRK_MODE (n : Nat) : Fld := ⟨0x830C + 0x400 * n, 0, 2⟩
def Dn_BRK_W (n : Nat) : Fld := ⟨0x830C + 0x400 * n, 0, 32⟩
/- Dn_ASC (PWM, reset source NVS) -/
def Dn_ASC_ASCHOLD (n : Nat) : Fld := ⟨0x8310 + 0x400 * n, 16, 16⟩
def Dn_ASC_ASC_SPEED (n : Nat) : Fld := ⟨0x8310 + 0x400 * n, 0, 16⟩
def Dn_ASC_W (n : Nat) : Fld := ⟨0x8310 + 0x400 * n, 0, 32⟩
/- Dn_DCSTAT (PWM, reset source SYS) -/
def Dn_DCSTAT_CHF (n : Nat) : Fld := ⟨0x8314 + 0x400 * n, 15, 1⟩
def Dn_DCSTAT_CHSTK (n : Nat) : Fld := ⟨0x8314 + 0x400 * n, 14, 1⟩
def Dn_DCSTAT_OV2F (n : Nat) : Fld := ⟨0x8314 + 0x400 * n, 13, 1⟩
def Dn_DCSTAT_OV3F (n : Nat) : Fld := ⟨0x8314 + 0x400 * n, 12, 1⟩
def Dn_DCSTAT_UVF (n : Nat) : Fld := ⟨0x8314 + 0x400 * n, 11, 1⟩
def Dn_DCSTAT_OV1F (n : Nat) : Fld := ⟨0x8314 + 0x400 * n, 10, 1⟩
def Dn_DCSTAT_GENCLMP (n : Nat) : Fld := ⟨0x8314 + 0x400 * n, 9, 1⟩
def Dn_DCSTAT_MOTCLMP (n : Nat) : Fld := ⟨0x8314 + 0x400 * n, 8, 1⟩
def Dn_DCSTAT_BRK (n : Nat) : Fld := ⟨0x8314 + 0x400 * n, 7, 1⟩
def Dn_DCSTAT_BRKFB (n : Nat) : Fld := ⟨0x8314 + 0x400 * n, 6, 1⟩
def Dn_DCSTAT_STKD (n : Nat) : Fld := ⟨0x8314 + 0x400 * n, 5, 1⟩
def Dn_DCSTAT_W (n : Nat) : Fld := ⟨0x8314 + 0x400 * n, 0, 32⟩
/- Dn_DCMEAS (PWM, reset source SYS) -/
def Dn_DCMEAS_VPK (n : Nat) : Fld := ⟨0x8318 + 0x400 * n, 16, 16⟩
def Dn_DCMEAS_VDC (n : Nat) : Fld := ⟨0x8318 + 0x400 * n, 0, 16⟩
def Dn_DCMEAS_W (n : Nat) : Fld := ⟨0x8318 + 0x400 * n, 0, 32⟩
/- Dn_BRKCNT (PWM, reset source SYS) -/
def Dn_BRKCNT_ON (n : Nat) : Fld := ⟨0x831C + 0x400 * n, 16, 16⟩
def Dn_BRKCNT_NOCOND (n : Nat) : Fld := ⟨0x831C + 0x400 * n, 8, 8⟩
def Dn_BRKCNT_SLOPE (n : Nat) : Fld := ⟨0x831C + 0x400 * n, 0, 8⟩
def Dn_BRKCNT_W (n : Nat) : Fld := ⟨0x831C + 0x400 * n, 0, 32⟩
/- THM_Dn_STAT (FABRIC, reset source SYS) -/
def THM_Dn_STAT_FACT (n : Nat) : Fld := ⟨0xE300 + 0x4 * n, 16, 16⟩
def THM_Dn_STAT_TRIPF (n : Nat) : Fld := ⟨0xE300 + 0x4 * n, 15, 1⟩
def THM_Dn_STAT_RATEF (n : Nat) : Fld := ⟨0xE300 + 0x4 * n, 14, 1⟩
def THM_Dn_STAT_XCHK (n : Nat) : Fld := ⟨0xE300 + 0x4 * n, 13, 1⟩
def THM_Dn_STAT_SBRK (n : Nat) : Fld := ⟨0xE300 + 0x4 * n, 12, 1⟩
def THM_Dn_STAT_WBRK (n : Nat) : Fld := ⟨0xE300 + 0x4 * n, 11, 1⟩
def THM_Dn_STAT_TRIPPED (n : Nat) : Fld := ⟨0xE300 + 0x4 * n, 10, 1⟩
def THM_Dn_STAT_DERATE (n : Nat) : Fld := ⟨0xE300 + 0x4 * n, 9, 1⟩
def THM_Dn_STAT_SRC (n : Nat) : Fld := ⟨0xE300 + 0x4 * n, 4, 2⟩
def THM_Dn_STAT_STEP (n : Nat) : Fld := ⟨0xE300 + 0x4 * n, 2, 2⟩
def THM_Dn_STAT_W (n : Nat) : Fld := ⟨0xE300 + 0x4 * n, 0, 32⟩
/- THM_Sn_CFG (FABRIC, reset source NVS) -/
def THM_Sn_CFG_EN (n : Nat) : Fld := ⟨0xE320 + 0x4 * n, 31, 1⟩
def THM_Sn_CFG_NTC (n : Nat) : Fld := ⟨0xE320 + 0x4 * n, 24, 4⟩
def THM_Sn_CFG_TSTART (n : Nat) : Fld := ⟨0xE320 + 0x4 * n, 16, 8⟩
def THM_Sn_CFG_TTRIP (n : Nat) : Fld := ⟨0xE320 + 0x4 * n, 8, 8⟩
def THM_Sn_CFG_W (n : Nat) : Fld := ⟨0xE320 + 0x4 * n, 0, 32⟩
/- HASP_STOSTAT[k] (SAFE, reset source SYS) -/
def HASP_STOSTAT_I (k : Nat) : Fld := ⟨0x10080 + 0x4 * k, 16, 10⟩
def HASP_STOSTAT_SS1 (k : Nat) : Fld := ⟨0x10080 + 0x4 * k, 13, 1⟩
def HASP_STOSTAT_SNS (k : Nat) : Fld := ⟨0x10080 + 0x4 * k, 12, 1⟩
def HASP_STOSTAT_OCF (k : Nat) : Fld := ⟨0x10080 + 0x4 * k, 11, 1⟩
def HASP_STOSTAT_OPENF (k : Nat) : Fld := ⟨0x10080 + 0x4 * k, 10, 1⟩
def HASP_STOSTAT_LSF (k : Nat) : Fld := ⟨0x10080 + 0x4 * k, 9, 1⟩
def HASP_STOSTAT_HSF (k : Nat) : Fld := ⟨0x10080 + 0x4 * k, 8, 1⟩
def HASP_STOSTAT_DSRC (k : Nat) : Fld := ⟨0x10080 + 0x4 * k, 4, 4⟩
def HASP_STOSTAT_DEM (k : Nat) : Fld := ⟨0x10080 + 0x4 * k, 3, 1⟩
def HASP_STOSTAT_STATE (k : Nat) : Fld := ⟨0x10080 + 0x4 * k, 0, 3⟩
def HASP_STOSTAT_W (k : Nat) : Fld := ⟨0x10080 + 0x4 * k, 0, 32⟩
/- SLL_CFG (FABRIC, reset source NVS) -/
def SLL_CFG_UDPPORT : Fld := ⟨0x11000, 16, 16⟩
def SLL_CFG_MGMTPER : Fld := ⟨0x11000, 8, 8⟩
def SLL_CFG_EN : Fld := ⟨0x11000, 0, 1⟩
def SLL_CFG_W : Fld := ⟨0x11000, 0, 32⟩
/- SLL_STAT (FABRIC, reset source SYS) -/
def SLL_STAT_UNK : Fld := ⟨0x11004, 16, 16⟩
def SLL_STAT_MGF : Fld := ⟨0x11004, 8, 8⟩
def SLL_STAT_NFAIL : Fld := ⟨0x11004, 0, 6⟩
def SLL_STAT_W : Fld := ⟨0x11004, 0, 32⟩
/- SLL_MCID (FABRIC, reset source NVS) -/
def SLL_MCID_MCID : Fld := ⟨0x11008, 0, 32⟩
def SLL_MCID_W : Fld := ⟨0x11008, 0, 32⟩
/- SLL_WINSEL (FABRIC, reset source SYS) -/
def SLL_WINSEL_SAFE : Fld := ⟨0x1100C, 8, 1⟩
def SLL_WINSEL_SES : Fld := ⟨0x1100C, 0, 6⟩
def SLL_WINSEL_W : Fld := ⟨0x1100C, 0, 32⟩
/- SLL_WINDAT[w] (FABRIC, reset source SYS) -/
def SLL_WINDAT_DAT (w : Nat) : Fld := ⟨0x11010 + 0x4 * w, 0, 32⟩
def SLL_WINDAT_W (w : Nat) : Fld := ⟨0x11010 + 0x4 * w, 0, 32⟩
/- SLL_SESs_CFG (FABRIC, reset source NVS) -/
def SLL_SESs_CFG_EN (s : Nat) : Fld := ⟨0x11100 + 0x20 * s, 31, 1⟩
def SLL_SESs_CFG_DIR (s : Nat) : Fld := ⟨0x11100 + 0x20 * s, 30, 1⟩
def SLL_SESs_CFG_TRANS (s : Nat) : Fld := ⟨0x11100 + 0x20 * s, 28, 2⟩
def SLL_SESs_CFG_CANK (s : Nat) : Fld := ⟨0x11100 + 0x20 * s, 26, 2⟩
def SLL_SESs_CFG_XID (s : Nat) : Fld := ⟨0x11100 + 0x20 * s, 25, 1⟩
def SLL_SESs_CFG_STATUS (s : Nat) : Fld := ⟨0x11100 + 0x20 * s, 24, 1⟩
def SLL_SESs_CFG_LEN (s : Nat) : Fld := ⟨0x11100 + 0x20 * s, 18, 6⟩
def SLL_SESs_CFG_MAXGAP (s : Nat) : Fld := ⟨0x11100 + 0x20 * s, 8, 8⟩
def SLL_SESs_CFG_RESYNC (s : Nat) : Fld := ⟨0x11100 + 0x20 * s, 4, 4⟩
def SLL_SESs_CFG_W (s : Nat) : Fld := ⟨0x11100 + 0x20 * s, 0, 32⟩
/- SLL_SESs_CID (FABRIC, reset source NVS) -/
def SLL_SESs_CID_CID (s : Nat) : Fld := ⟨0x11104 + 0x20 * s, 0, 32⟩
def SLL_SESs_CID_W (s : Nat) : Fld := ⟨0x11104 + 0x20 * s, 0, 32⟩
/- SLL_SESs_TIM (FABRIC, reset source NVS) -/
def SLL_SESs_TIM_TXDIV (s : Nat) : Fld := ⟨0x11108 + 0x20 * s, 20, 12⟩
def SLL_SESs_TIM_TXOFS (s : Nat) : Fld := ⟨0x11108 + 0x20 * s, 8, 12⟩
def SLL_SESs_TIM_W (s : Nat) : Fld := ⟨0x11108 + 0x20 * s, 0, 32⟩
/- SLL_SESs_WD (FABRIC, reset source NVS) -/
def SLL_SESs_WD_WD (s : Nat) : Fld := ⟨0x1110C + 0x20 * s, 0, 16⟩
def SLL_SESs_WD_W (s : Nat) : Fld := ⟨0x1110C + 0x20 * s, 0, 32⟩
/- SLL_SESs_ADDR (FABRIC, reset source NVS) -/
def SLL_SESs_ADDR_ADDR (s : Nat) : Fld := ⟨0x11110 + 0x20 * s, 0, 32⟩
def SLL_SESs_ADDR_W (s : Nat) : Fld := ⟨0x11110 + 0x20 * s, 0, 32⟩
/- SLL_SESs_VLAN (FABRIC, reset source NVS) -/
def SLL_SESs_VLAN_PCP (s : Nat) : Fld := ⟨0x11114 + 0x20 * s, 13, 3⟩
def SLL_SESs_VLAN_VID (s : Nat) : Fld := ⟨0x11114 + 0x20 * s, 0, 12⟩
def SLL_SESs_VLAN_W (s : Nat) : Fld := ⟨0x11114 + 0x20 * s, 0, 32⟩
/- SLL_SESs_ST (FABRIC, reset source SYS) -/
def SLL_SESs_ST_SEQ (s : Nat) : Fld := ⟨0x11118 + 0x20 * s, 16, 16⟩
def SLL_SESs_ST_RSTB (s : Nat) : Fld := ⟨0x11118 + 0x20 * s, 13, 1⟩
def SLL_SESs_ST_PERMIT (s : Nat) : Fld := ⟨0x11118 + 0x20 * s, 12, 1⟩
def SLL_SESs_ST_CAUSE (s : Nat) : Fld := ⟨0x11118 + 0x20 * s, 8, 4⟩
def SLL_SESs_ST_RSC (s : Nat) : Fld := ⟨0x11118 + 0x20 * s, 4, 4⟩
def SLL_SESs_ST_STATE (s : Nat) : Fld := ⟨0x11118 + 0x20 * s, 0, 3⟩
def SLL_SESs_ST_W (s : Nat) : Fld := ⟨0x11118 + 0x20 * s, 0, 32⟩
/- SLL_SESs_CNT (FABRIC, reset source SYS) -/
def SLL_SESs_CNT_FAILS (s : Nat) : Fld := ⟨0x1111C + 0x20 * s, 16, 16⟩
def SLL_SESs_CNT_LOST (s : Nat) : Fld := ⟨0x1111C + 0x20 * s, 8, 8⟩
def SLL_SESs_CNT_REPL (s : Nat) : Fld := ⟨0x1111C + 0x20 * s, 0, 8⟩
def SLL_SESs_CNT_W (s : Nat) : Fld := ⟨0x1111C + 0x20 * s, 0, 32⟩
/- MIR_CFG (MIR, reset source NVS) -/
def MIR_CFG_STALE : Fld := ⟨0x13000, 8, 8⟩
def MIR_CFG_CANRO : Fld := ⟨0x13000, 0, 1⟩
def MIR_CFG_W : Fld := ⟨0x13000, 0, 32⟩
/- MIR_CHMAP (MIR, reset source NVS) -/
def MIR_CHMAP_PAIRED : Fld := ⟨0x13004, 0, 16⟩
def MIR_CHMAP_W : Fld := ⟨0x13004, 0, 32⟩
/- MIR_STAT (MIR, reset source SYS) -/
def MIR_STAT_NRC : Fld := ⟨0x13008, 24, 4⟩
def MIR_STAT_LANE1 : Fld := ⟨0x13008, 19, 1⟩
def MIR_STAT_LANE0 : Fld := ⟨0x13008, 18, 1⟩
def MIR_STAT_OWNIN : Fld := ⟨0x13008, 17, 1⟩
def MIR_STAT_OWNOUT : Fld := ⟨0x13008, 16, 1⟩
def MIR_STAT_PROLE : Fld := ⟨0x13008, 8, 3⟩
def MIR_STAT_PID : Fld := ⟨0x13008, 4, 2⟩
def MIR_STAT_ROLE : Fld := ⟨0x13008, 0, 3⟩
def MIR_STAT_W : Fld := ⟨0x13008, 0, 32⟩
/- MIR_CNT (MIR, reset source SYS) -/
def MIR_CNT_MISS : Fld := ⟨0x1300C, 16, 16⟩
def MIR_CNT_CRC1 : Fld := ⟨0x1300C, 8, 8⟩
def MIR_CNT_CRC0 : Fld := ⟨0x1300C, 0, 8⟩
def MIR_CNT_W : Fld := ⟨0x1300C, 0, 32⟩
/- MIR_LINK (MIR, reset source SYS) -/
def MIR_LINK_SIZE : Fld := ⟨0x13010, 16, 16⟩
def MIR_LINK_DELAY : Fld := ⟨0x13010, 0, 16⟩
def MIR_LINK_W : Fld := ⟨0x13010, 0, 32⟩
/- MIR_TKO (MIR, reset source SYS) -/
def MIR_TKO_FN : Fld := ⟨0x13014, 16, 16⟩
def MIR_TKO_FRAMES : Fld := ⟨0x13014, 8, 8⟩
def MIR_TKO_TRIG : Fld := ⟨0x13014, 0, 4⟩
def MIR_TKO_W : Fld := ⟨0x13014, 0, 32⟩
/- MIR_CFGCRC[k] (MIR, reset source SYS) -/
def MIR_CFGCRC_CRC (k : Nat) : Fld := ⟨0x13018 + 0x4 * k, 0, 32⟩
def MIR_CFGCRC_W (k : Nat) : Fld := ⟨0x13018 + 0x4 * k, 0, 32⟩
/- MIR_POSOFS[p] (MIR, reset source SYS) -/
def MIR_POSOFS_OFS (p : Nat) : Fld := ⟨0x13040 + 0x4 * p, 0, 32⟩
def MIR_POSOFS_W (p : Nat) : Fld := ⟨0x13040 + 0x4 * p, 0, 32⟩
/- CLK_STAT (FABRIC, reset source SYS) -/
def CLK_STAT_BOUND : Fld := ⟨0x1000, 23, 9⟩
def CLK_STAT_XOOK : Fld := ⟨0x1000, 15, 1⟩
def CLK_STAT_FBOK : Fld := ⟨0x1000, 14, 1⟩
def CLK_STAT_X32OK : Fld := ⟨0x1000, 13, 1⟩
def CLK_STAT_HOLD : Fld := ⟨0x1000, 11, 1⟩
def CLK_STAT_FORCED : Fld := ⟨0x1000, 10, 1⟩
def CLK_STAT_LOCKN : Fld := ⟨0x1000, 9, 1⟩
def CLK_STAT_LOCKP : Fld := ⟨0x1000, 8, 1⟩
def CLK_STAT_LOCKS : Fld := ⟨0x1000, 7, 1⟩
def CLK_STAT_REFSEL : Fld := ⟨0x1000, 5, 2⟩
def CLK_STAT_RTCSRC : Fld := ⟨0x1000, 4, 1⟩
def CLK_STAT_W : Fld := ⟨0x1000, 0, 32⟩
/- CLK_STRAP (FABRIC, reset source SYS) -/
def CLK_STRAP_X32STRT : Fld := ⟨0x1004, 3, 2⟩
def CLK_STRAP_XSTRT : Fld := ⟨0x1004, 0, 3⟩
def CLK_STRAP_W : Fld := ⟨0x1004, 0, 32⟩
/- CLK_CFG (FABRIC, reset source NVS) -/
def CLK_CFG_PLAUS : Fld := ⟨0x1008, 0, 13⟩
def CLK_CFG_W : Fld := ⟨0x1008, 0, 32⟩
/- CLK_CTL (FABRIC, reset source SYS) -/
def CLK_CTL_XORET : Fld := ⟨0x100C, 0, 1⟩
def CLK_CTL_W : Fld := ⟨0x100C, 0, 32⟩
/- CLK_MON (SAFE, reset source SYS) -/
def CLK_MON_FBDEV : Fld := ⟨0x1010, 16, 16⟩
def CLK_MON_XODEV : Fld := ⟨0x1010, 0, 16⟩
def CLK_MON_W : Fld := ⟨0x1010, 0, 32⟩
/- CLK_HOLD (FABRIC, reset source SYS) -/
def CLK_HOLD_DTMAX : Fld := ⟨0x1014, 20, 12⟩
def CLK_HOLD_SEC : Fld := ⟨0x1014, 0, 20⟩
def CLK_HOLD_W : Fld := ⟨0x1014, 0, 32⟩
/- CLK_CNT (FABRIC, reset source SYS) -/
def CLK_CNT_FORCED : Fld := ⟨0x1018, 24, 8⟩
def CLK_CNT_XOF : Fld := ⟨0x1018, 16, 8⟩
def CLK_CNT_X32F : Fld := ⟨0x1018, 8, 8⟩
def CLK_CNT_RELOCK : Fld := ⟨0x1018, 0, 8⟩
def CLK_CNT_W : Fld := ⟨0x1018, 0, 32⟩
/- MPG_CFG (FABRIC, reset source NVS) -/
def MPG_CFG_PSH (a : Nat) : Fld := ⟨0xD400 + 0x40 * a, 4, 4⟩
def MPG_CFG_SCURVE (a : Nat) : Fld := ⟨0xD400 + 0x40 * a, 1, 1⟩
def MPG_CFG_EN (a : Nat) : Fld := ⟨0xD400 + 0x40 * a, 0, 1⟩
def MPG_CFG_W (a : Nat) : Fld := ⟨0xD400 + 0x40 * a, 0, 32⟩
/- MPG_VMAX (FABRIC, reset source NVS) -/
def MPG_VMAX_VMAX (a : Nat) : Fld := ⟨0xD404 + 0x40 * a, 0, 32⟩
def MPG_VMAX_W (a : Nat) : Fld := ⟨0xD404 + 0x40 * a, 0, 32⟩
/- MPG_AMAX (FABRIC, reset source NVS) -/
def MPG_AMAX_AMAX (a : Nat) : Fld := ⟨0xD408 + 0x40 * a, 0, 32⟩
def MPG_AMAX_W (a : Nat) : Fld := ⟨0xD408 + 0x40 * a, 0, 32⟩
/- MPG_DMAX (FABRIC, reset source NVS) -/
def MPG_DMAX_DMAX (a : Nat) : Fld := ⟨0xD40C + 0x40 * a, 0, 32⟩
def MPG_DMAX_W (a : Nat) : Fld := ⟨0xD40C + 0x40 * a, 0, 32⟩
/- MPG_JMAX (FABRIC, reset source NVS) -/
def MPG_JMAX_JMAX (a : Nat) : Fld := ⟨0xD410 + 0x40 * a, 0, 32⟩
def MPG_JMAX_W (a : Nat) : Fld := ⟨0xD410 + 0x40 * a, 0, 32⟩
/- MPG_DSTOP (FABRIC, reset source NVS) -/
def MPG_DSTOP_DSTOP (a : Nat) : Fld := ⟨0xD414 + 0x40 * a, 0, 32⟩
def MPG_DSTOP_W (a : Nat) : Fld := ⟨0xD414 + 0x40 * a, 0, 32⟩
/- MPG_STAT (FABRIC, reset source SYS) -/
def MPG_STAT_DONE (a : Nat) : Fld := ⟨0xD418 + 0x40 * a, 16, 16⟩
def MPG_STAT_QLEN (a : Nat) : Fld := ⟨0xD418 + 0x40 * a, 8, 5⟩
def MPG_STAT_STATE (a : Nat) : Fld := ⟨0xD418 + 0x40 * a, 0, 3⟩
def MPG_STAT_W (a : Nat) : Fld := ⟨0xD418 + 0x40 * a, 0, 32⟩
/- MPG_PREF (FABRIC, reset source SYS) -/
def MPG_PREF_PINT (a : Nat) : Fld := ⟨0xD41C + 0x40 * a, 0, 32⟩
def MPG_PREF_W (a : Nat) : Fld := ⟨0xD41C + 0x40 * a, 0, 32⟩
/- MPG_REM (FABRIC, reset source SYS) -/
def MPG_REM_REM (a : Nat) : Fld := ⟨0xD420 + 0x40 * a, 0, 32⟩
def MPG_REM_W (a : Nat) : Fld := ⟨0xD420 + 0x40 * a, 0, 32⟩
/- MPG_VREF (FABRIC, reset source SYS) -/
def MPG_VREF_V (a : Nat) : Fld := ⟨0xD424 + 0x40 * a, 0, 32⟩
def MPG_VREF_W (a : Nat) : Fld := ⟨0xD424 + 0x40 * a, 0, 32⟩
/- MPG_AREF (FABRIC, reset source SYS) -/
def MPG_AREF_A (a : Nat) : Fld := ⟨0xD428 + 0x40 * a, 0, 32⟩
def MPG_AREF_W (a : Nat) : Fld := ⟨0xD428 + 0x40 * a, 0, 32⟩
/- THM_Dn_CFG (FABRIC, reset source NVS) -/
def THM_Dn_CFG_SNTC (n : Nat) : Fld := ⟨0xE100 + 0x40 * n, 12, 4⟩
def THM_Dn_CFG_SNEN (n : Nat) : Fld := ⟨0xE100 + 0x40 * n, 11, 1⟩
def THM_Dn_CFG_NTCPOS (n : Nat) : Fld := ⟨0xE100 + 0x40 * n, 8, 3⟩
def THM_Dn_CFG_WNTC (n : Nat) : Fld := ⟨0xE100 + 0x40 * n, 4, 4⟩
def THM_Dn_CFG_WNEN (n : Nat) : Fld := ⟨0xE100 + 0x40 * n, 3, 1⟩
def THM_Dn_CFG_STEP (n : Nat) : Fld := ⟨0xE100 + 0x40 * n, 1, 1⟩
def THM_Dn_CFG_EN (n : Nat) : Fld := ⟨0xE100 + 0x40 * n, 0, 1⟩
def THM_Dn_CFG_W (n : Nat) : Fld := ⟨0xE100 + 0x40 * n, 0, 32⟩
/- THM_Dn_LEG (FABRIC, reset source NVS) -/
def THM_Dn_LEG_V0 (n : Nat) : Fld := ⟨0xE104 + 0x40 * n, 16, 16⟩
def THM_Dn_LEG_RON (n : Nat) : Fld := ⟨0xE104 + 0x40 * n, 0, 16⟩
def THM_Dn_LEG_W (n : Nat) : Fld := ⟨0xE104 + 0x40 * n, 0, 32⟩
/- THM_Dn_SW (FABRIC, reset source NVS) -/
def THM_Dn_SW_ESW (n : Nat) : Fld := ⟨0xE108 + 0x40 * n, 16, 16⟩
def THM_Dn_SW_IREF (n : Nat) : Fld := ⟨0xE108 + 0x40 * n, 0, 16⟩
def THM_Dn_SW_W (n : Nat) : Fld := ⟨0xE108 + 0x40 * n, 0, 32⟩
/- THM_Dn_REF (FABRIC, reset source NVS) -/
def THM_Dn_REF_VREF (n : Nat) : Fld := ⟨0xE10C + 0x40 * n, 20, 12⟩
def THM_Dn_REF_TAMB (n : Nat) : Fld := ⟨0xE10C + 0x40 * n, 0, 16⟩
def THM_Dn_REF_W (n : Nat) : Fld := ⟨0xE10C + 0x40 * n, 0, 32⟩
/- THM_Dn_FST[k] (FABRIC, reset source NVS) -/
def THM_Dn_FST_R (n k : Nat) : Fld := ⟨0xE110 + 0x40 * n + 0x4 * k, 16, 16⟩
def THM_Dn_FST_E (n k : Nat) : Fld := ⟨0xE110 + 0x40 * n + 0x4 * k, 12, 4⟩
def THM_Dn_FST_M (n k : Nat) : Fld := ⟨0xE110 + 0x40 * n + 0x4 * k, 0, 12⟩
def THM_Dn_FST_W (n k : Nat) : Fld := ⟨0xE110 + 0x40 * n + 0x4 * k, 0, 32⟩
/- THM_Dn_WR (FABRIC, reset source NVS) -/
def THM_Dn_WR_RPH20 (n : Nat) : Fld := ⟨0xE120 + 0x40 * n, 16, 16⟩
def THM_Dn_WR_RWS (n : Nat) : Fld := ⟨0xE120 + 0x40 * n, 0, 16⟩
def THM_Dn_WR_W (n : Nat) : Fld := ⟨0xE120 + 0x40 * n, 0, 32⟩
/- THM_Dn_WC (FABRIC, reset source NVS) -/
def THM_Dn_WC_CW (n : Nat) : Fld := ⟨0xE124 + 0x40 * n, 16, 16⟩
def THM_Dn_WC_CS (n : Nat) : Fld := ⟨0xE124 + 0x40 * n, 0, 16⟩
def THM_Dn_WC_W (n : Nat) : Fld := ⟨0xE124 + 0x40 * n, 0, 32⟩
/- THM_Dn_WS (FABRIC, reset source NVS) -/
def THM_Dn_WS_RSA (n : Nat) : Fld := ⟨0xE128 + 0x40 * n, 16, 16⟩
def THM_Dn_WS_TAMBM (n : Nat) : Fld := ⟨0xE128 + 0x40 * n, 0, 16⟩
def THM_Dn_WS_W (n : Nat) : Fld := ⟨0xE128 + 0x40 * n, 0, 32⟩
/- THM_Dn_FE (FABRIC, reset source NVS) -/
def THM_Dn_FE_PH (n : Nat) : Fld := ⟨0xE12C + 0x40 * n, 16, 16⟩
def THM_Dn_FE_PE (n : Nat) : Fld := ⟨0xE12C + 0x40 * n, 0, 16⟩
def THM_Dn_FE_W (n : Nat) : Fld := ⟨0xE12C + 0x40 * n, 0, 32⟩
/- THM_Dn_LIMS (FABRIC, reset source NVS) -/
def THM_Dn_LIMS_TSTART (n : Nat) : Fld := ⟨0xE130 + 0x40 * n, 24, 8⟩
def THM_Dn_LIMS_TMAX (n : Nat) : Fld := ⟨0xE130 + 0x40 * n, 16, 8⟩
def THM_Dn_LIMS_TTRIP (n : Nat) : Fld := ⟨0xE130 + 0x40 * n, 8, 8⟩
def THM_Dn_LIMS_FLOOR (n : Nat) : Fld := ⟨0xE130 + 0x40 * n, 0, 8⟩
def THM_Dn_LIMS_W (n : Nat) : Fld := ⟨0xE130 + 0x40 * n, 0, 32⟩
/- THM_Dn_LIMW (FABRIC, reset source NVS) -/
def THM_Dn_LIMW_TSTART (n : Nat) : Fld := ⟨0xE134 + 0x40 * n, 24, 8⟩
def THM_Dn_LIMW_TMAX (n : Nat) : Fld := ⟨0xE134 + 0x40 * n, 16, 8⟩
def THM_Dn_LIMW_TTRIP (n : Nat) : Fld := ⟨0xE134 + 0x40 * n, 8, 8⟩
def THM_Dn_LIMW_FREF (n : Nat) : Fld := ⟨0xE134 + 0x40 * n, 0, 8⟩
def THM_Dn_LIMW_W (n : Nat) : Fld := ⟨0xE134 + 0x40 * n, 0, 32⟩
/- THM_Dn_RATE (FABRIC, reset source NVS) -/
def THM_Dn_RATE_RWIN (n : Nat) : Fld := ⟨0xE138 + 0x40 * n, 16, 16⟩
def THM_Dn_RATE_RMAX (n : Nat) : Fld := ⟨0xE138 + 0x40 * n, 8, 8⟩
def THM_Dn_RATE_XTOL (n : Nat) : Fld := ⟨0xE138 + 0x40 * n, 0, 8⟩
def THM_Dn_RATE_W (n : Nat) : Fld := ⟨0xE138 + 0x40 * n, 0, 32⟩
/- THM_Dn_TEMP (FABRIC, reset source SYS) -/
def THM_Dn_TEMP_TW (n : Nat) : Fld := ⟨0xE13C + 0x40 * n, 16, 16⟩
def THM_Dn_TEMP_TJ (n : Nat) : Fld := ⟨0xE13C + 0x40 * n, 0, 16⟩
def THM_Dn_TEMP_W (n : Nat) : Fld := ⟨0xE13C + 0x40 * n, 0, 32⟩
/- THM_OVRD (FABRIC, reset source SYS) -/
def THM_OVRD_ACT : Fld := ⟨0xE380, 0, 1⟩
def THM_OVRD_W : Fld := ⟨0xE380, 0, 32⟩
/- THM_OVRCNT (FABRIC, reset source SYS) -/
def THM_OVRCNT_COUNT : Fld := ⟨0xE384, 0, 32⟩
def THM_OVRCNT_W : Fld := ⟨0xE384, 0, 32⟩
/- THM_DIEW (FABRIC, reset source NVS) -/
def THM_DIEW_WARN : Fld := ⟨0xE388, 0, 8⟩
def THM_DIEW_W : Fld := ⟨0xE388, 0, 32⟩
/- THM_DSTAT (FABRIC, reset source SYS) -/
def THM_DSTAT_DMAX : Fld := ⟨0xE38C, 16, 16⟩
def THM_DSTAT_WARN : Fld := ⟨0xE38C, 0, 1⟩
def THM_DSTAT_W : Fld := ⟨0xE38C, 0, 32⟩
/- THM_NTC[k] (FABRIC, reset source NVS) -/
def THM_NTC_B (k : Nat) : Fld := ⟨0xE390 + 0x4 * k, 16, 16⟩
def THM_NTC_R26 (k : Nat) : Fld := ⟨0xE390 + 0x4 * k, 0, 16⟩
def THM_NTC_W (k : Nat) : Fld := ⟨0xE390 + 0x4 * k, 0, 32⟩
/- THM_NTCT[k] (FABRIC, reset source SYS) -/
def THM_NTCT_BRK (k : Nat) : Fld := ⟨0xE3D0 + 0x4 * k, 31, 1⟩
def THM_NTCT_T (k : Nat) : Fld := ⟨0xE3D0 + 0x4 * k, 0, 16⟩
def THM_NTCT_W (k : Nat) : Fld := ⟨0xE3D0 + 0x4 * k, 0, 32⟩
/- HASP_STAT (SAFE, reset source SYS) -/
def HASP_STAT_DEG : Fld := ⟨0x10000, 8, 8⟩
def HASP_STAT_OVRD : Fld := ⟨0x10000, 3, 1⟩
def HASP_STAT_HSTATE : Fld := ⟨0x10000, 0, 3⟩
def HASP_STAT_W : Fld := ⟨0x10000, 0, 32⟩
/- HASP_PCRC (SAFE, reset source SYS) -/
def HASP_PCRC_CRC : Fld := ⟨0x10004, 0, 32⟩
def HASP_PCRC_W : Fld := ⟨0x10004, 0, 32⟩
/- HASP_TP (SAFE, reset source NVS) -/
def HASP_TP_TPPER : Fld := ⟨0x10008, 16, 16⟩
def HASP_TP_TPW : Fld := ⟨0x10008, 0, 16⟩
def HASP_TP_W : Fld := ⟨0x10008, 0, 32⟩
/- HASP_MAP (SAFE, reset source NVS) -/
def HASP_MAP_MAP : Fld := ⟨0x1000C, 0, 32⟩
def HASP_MAP_W : Fld := ⟨0x1000C, 0, 32⟩
/- HASP_STOCFG[k] (SAFE, reset source NVS) -/
def HASP_STOCFG_EN (k : Nat) : Fld := ⟨0x10010 + 0x4 * k, 31, 1⟩
def HASP_STOCFG_RST (k : Nat) : Fld := ⟨0x10010 + 0x4 * k, 30, 1⟩
def HASP_STOCFG_RSRC (k : Nat) : Fld := ⟨0x10010 + 0x4 * k, 26, 4⟩
def HASP_STOCFG_STOPMAX (k : Nat) : Fld := ⟨0x10010 + 0x4 * k, 16, 10⟩
def HASP_STOCFG_SS1T (k : Nat) : Fld := ⟨0x10010 + 0x4 * k, 0, 16⟩
def HASP_STOCFG_W (k : Nat) : Fld := ⟨0x10010 + 0x4 * k, 0, 32⟩
/- HASP_SDICFG[i] (SAFE, reset source NVS) -/
def HASP_SDICFG_EN (i : Nat) : Fld := ⟨0x10020 + 0x4 * i, 31, 1⟩
def HASP_SDICFG_ANTIV (i : Nat) : Fld := ⟨0x10020 + 0x4 * i, 30, 1⟩
def HASP_SDICFG_SS1 (i : Nat) : Fld := ⟨0x10020 + 0x4 * i, 29, 1⟩
def HASP_SDICFG_RSTIN (i : Nat) : Fld := ⟨0x10020 + 0x4 * i, 28, 1⟩
def HASP_SDICFG_MASK (i : Nat) : Fld := ⟨0x10020 + 0x4 * i, 24, 4⟩
def HASP_SDICFG_DISC (i : Nat) : Fld := ⟨0x10020 + 0x4 * i, 15, 9⟩
def HASP_SDICFG_FILT (i : Nat) : Fld := ⟨0x10020 + 0x4 * i, 8, 7⟩
def HASP_SDICFG_W (i : Nat) : Fld := ⟨0x10020 + 0x4 * i, 0, 32⟩
/- HASP_SLMAP[j] (SAFE, reset source NVS) -/
def HASP_SLMAP_MAP (j : Nat) : Fld := ⟨0x10040 + 0x4 * j, 0, 32⟩
def HASP_SLMAP_W (j : Nat) : Fld := ⟨0x10040 + 0x4 * j, 0, 32⟩
/- HASP_DEGT[c] (SAFE, reset source NVS) -/
def HASP_DEGT_MIN (c : Nat) : Fld := ⟨0x10060 + 0x4 * c, 0, 13⟩
def HASP_DEGT_W (c : Nat) : Fld := ⟨0x10060 + 0x4 * c, 0, 32⟩
/- HASP_SDISTAT (SAFE, reset source SYS) -/
def HASP_SDISTAT_ST : Fld := ⟨0x10090, 0, 32⟩
def HASP_SDISTAT_W : Fld := ⟨0x10090, 0, 32⟩
/- HASP_GEN (SAFE, reset source SYS) -/
def HASP_GEN_EN : Fld := ⟨0x10094, 0, 16⟩
def HASP_GEN_W : Fld := ⟨0x10094, 0, 32⟩
/- HASP_DEGLEFT (SAFE, reset source SYS) -/
def HASP_DEGLEFT_FR : Fld := ⟨0x10098, 0, 32⟩
def HASP_DEGLEFT_W : Fld := ⟨0x10098, 0, 32⟩
/- HASP_TPCNT[k] (SAFE, reset source SYS) -/
def HASP_TPCNT_PASS (k : Nat) : Fld := ⟨0x100A0 + 0x4 * k, 16, 16⟩
def HASP_TPCNT_ABAND (k : Nat) : Fld := ⟨0x100A0 + 0x4 * k, 8, 8⟩
def HASP_TPCNT_FAIL (k : Nat) : Fld := ⟨0x100A0 + 0x4 * k, 0, 8⟩
def HASP_TPCNT_W (k : Nat) : Fld := ⟨0x100A0 + 0x4 * k, 0, 32⟩
/- WARD_CFG (FABRIC, reset source NVS) -/
def WARD_CFG_RETN : Fld := ⟨0x12000, 0, 4⟩
def WARD_CFG_W : Fld := ⟨0x12000, 0, 32⟩
/- WARD_CNT[x] (FABRIC, reset source SYS) -/
def WARD_CNT_COUNT (x : Nat) : Fld := ⟨0x12004 + 0x4 * x, 0, 32⟩
def WARD_CNT_W (x : Nat) : Fld := ⟨0x12004 + 0x4 * x, 0, 32⟩
/- WARD_LAST (FABRIC, reset source SYS) -/
def WARD_LAST_KEY : Fld := ⟨0x12020, 16, 16⟩
def WARD_LAST_FN : Fld := ⟨0x12020, 0, 16⟩
def WARD_LAST_W : Fld := ⟨0x12020, 0, 32⟩
/- WARD_BANK (FABRIC, reset source SYS) -/
def WARD_BANK_RETIRED : Fld := ⟨0x12024, 16, 16⟩
def WARD_BANK_BANK : Fld := ⟨0x12024, 0, 6⟩
def WARD_BANK_W : Fld := ⟨0x12024, 0, 32⟩
/- WARD_FBLK (FABRIC, reset source SYS) -/
def WARD_FBLK_MPG : Fld := ⟨0x12028, 24, 8⟩
def WARD_FBLK_SHR : Fld := ⟨0x12028, 16, 8⟩
def WARD_FBLK_THM : Fld := ⟨0x12028, 8, 8⟩
def WARD_FBLK_SLL : Fld := ⟨0x12028, 0, 8⟩
def WARD_FBLK_W : Fld := ⟨0x12028, 0, 32⟩
/- WARD_SPARE (FABRIC, reset source SYS) -/
def WARD_SPARE_BANKS : Fld := ⟨0x1202C, 16, 3⟩
def WARD_SPARE_REGPH : Fld := ⟨0x1202C, 13, 2⟩
def WARD_SPARE_SAR : Fld := ⟨0x1202C, 11, 2⟩
def WARD_SPARE_LANES : Fld := ⟨0x1202C, 8, 3⟩
def WARD_SPARE_LP4 : Fld := ⟨0x1202C, 4, 1⟩
def WARD_SPARE_CKS : Fld := ⟨0x1202C, 3, 1⟩
def WARD_SPARE_XO : Fld := ⟨0x1202C, 2, 1⟩
def WARD_SPARE_HL : Fld := ⟨0x1202C, 1, 1⟩
def WARD_SPARE_KEY : Fld := ⟨0x1202C, 0, 1⟩
def WARD_SPARE_W : Fld := ⟨0x1202C, 0, 32⟩
/- HIF_CFG (HOST, reset source NVS) -/
def HIF_CFG_HOSTLESS : Fld := ⟨0x4000, 0, 1⟩
def HIF_CFG_W : Fld := ⟨0x4000, 0, 32⟩
/- HIF_STAT (HOST, reset source PERST) -/
def HIF_STAT_WIDTH : Fld := ⟨0x4004, 4, 2⟩
def HIF_STAT_SPEED : Fld := ⟨0x4004, 2, 2⟩
def HIF_STAT_HB : Fld := ⟨0x4004, 0, 2⟩
def HIF_STAT_W : Fld := ⟨0x4004, 0, 32⟩
/- HIF_HB (HOST, reset source NVS) -/
def HIF_HB_TMO : Fld := ⟨0x4008, 0, 10⟩
def HIF_HB_W : Fld := ⟨0x4008, 0, 32⟩
/- HIF_ERRCNT (HOST, reset source PERST) -/
def HIF_ERRCNT_BAR2 : Fld := ⟨0x400C, 16, 16⟩
def HIF_ERRCNT_WIDTH : Fld := ⟨0x400C, 0, 16⟩
def HIF_ERRCNT_W : Fld := ⟨0x400C, 0, 32⟩
/- HIF_EVFILT (HOST, reset source PERST) -/
def HIF_EVFILT_MIN : Fld := ⟨0x4010, 0, 32⟩
def HIF_EVFILT_W : Fld := ⟨0x4010, 0, 32⟩
/- HIF_TELCFG (HOST, reset source PERST) -/
def HIF_TELCFG_RING : Fld := ⟨0x4014, 24, 1⟩
def HIF_TELCFG_TDIV : Fld := ⟨0x4014, 16, 8⟩
def HIF_TELCFG_MASK : Fld := ⟨0x4014, 0, 16⟩
def HIF_TELCFG_W : Fld := ⟨0x4014, 0, 32⟩
/- HIF_EVDROP (HOST, reset source PERST) -/
def HIF_EVDROP_COUNT : Fld := ⟨0x4020, 0, 32⟩
def HIF_EVDROP_W : Fld := ⟨0x4020, 0, 32⟩
/- HIF_TELDROP (HOST, reset source PERST) -/
def HIF_TELDROP_COUNT : Fld := ⟨0x4024, 0, 32⟩
def HIF_TELDROP_W : Fld := ⟨0x4024, 0, 32⟩
/- RING_BASE_LO[q] (HOST, reset source PERST) -/
def RING_BASE_LO_BASE (q : Nat) : Fld := ⟨0x4100 + 0x20 * q, 12, 20⟩
def RING_BASE_LO_W (q : Nat) : Fld := ⟨0x4100 + 0x20 * q, 0, 32⟩
/- RING_BASE_HI[q] (HOST, reset source PERST) -/
def RING_BASE_HI_BASE (q : Nat) : Fld := ⟨0x4104 + 0x20 * q, 0, 32⟩
def RING_BASE_HI_W (q : Nat) : Fld := ⟨0x4104 + 0x20 * q, 0, 32⟩
/- RING_CTL[q] (HOST, reset source PERST) -/
def RING_CTL_EN (q : Nat) : Fld := ⟨0x4108 + 0x20 * q, 31, 1⟩
def RING_CTL_RESET (q : Nat) : Fld := ⟨0x4108 + 0x20 * q, 30, 1⟩
def RING_CTL_IMTIM (q : Nat) : Fld := ⟨0x4108 + 0x20 * q, 16, 8⟩
def RING_CTL_IMCNT (q : Nat) : Fld := ⟨0x4108 + 0x20 * q, 8, 8⟩
def RING_CTL_LOG2SIZE (q : Nat) : Fld := ⟨0x4108 + 0x20 * q, 0, 4⟩
def RING_CTL_W (q : Nat) : Fld := ⟨0x4108 + 0x20 * q, 0, 32⟩
/- RING_IDX[q] (HOST, reset source PERST) -/
def RING_IDX_MOD (q : Nat) : Fld := ⟨0x410C + 0x20 * q, 16, 13⟩
def RING_IDX_HOST (q : Nat) : Fld := ⟨0x410C + 0x20 * q, 0, 13⟩
def RING_IDX_W (q : Nat) : Fld := ⟨0x410C + 0x20 * q, 0, 32⟩
/- RING_STAT[q] (HOST, reset source PERST) -/
def RING_STAT_CAUSE (q : Nat) : Fld := ⟨0x4110 + 0x20 * q, 8, 8⟩
def RING_STAT_STATE (q : Nat) : Fld := ⟨0x4110 + 0x20 * q, 0, 2⟩
def RING_STAT_W (q : Nat) : Fld := ⟨0x4110 + 0x20 * q, 0, 32⟩
/- HIF_BLOSS[n] (HOST, reset source NVS) -/
def HIF_BLOSS_PRESET (n : Nat) : Fld := ⟨0x4300 + 0x4 * n, 16, 16⟩
def HIF_BLOSS_LSTOP (n : Nat) : Fld := ⟨0x4300 + 0x4 * n, 8, 8⟩
def HIF_BLOSS_LSTART (n : Nat) : Fld := ⟨0x4300 + 0x4 * n, 4, 1⟩
def HIF_BLOSS_LEV (n : Nat) : Fld := ⟨0x4300 + 0x4 * n, 2, 2⟩
def HIF_BLOSS_MODE (n : Nat) : Fld := ⟨0x4300 + 0x4 * n, 0, 2⟩
def HIF_BLOSS_W (n : Nat) : Fld := ⟨0x4300 + 0x4 * n, 0, 32⟩
/- HIF_LSCL[n] (HOST, reset source NVS) -/
def HIF_LSCL_LSCL (n : Nat) : Fld := ⟨0x4320 + 0x4 * n, 0, 16⟩
def HIF_LSCL_W (n : Nat) : Fld := ⟨0x4320 + 0x4 * n, 0, 32⟩
/- HIF_LEVA[k] (HOST, reset source NVS) -/
def HIF_LEVA_LMAX (k : Nat) : Fld := ⟨0x4340 + 0x8 * k, 16, 16⟩
def HIF_LEVA_LMIN (k : Nat) : Fld := ⟨0x4340 + 0x8 * k, 0, 16⟩
def HIF_LEVA_W (k : Nat) : Fld := ⟨0x4340 + 0x8 * k, 0, 32⟩
/- HIF_LEVB[k] (HOST, reset source NVS) -/
def HIF_LEVB_LMID (k : Nat) : Fld := ⟨0x4344 + 0x8 * k, 16, 16⟩
def HIF_LEVB_DB (k : Nat) : Fld := ⟨0x4344 + 0x8 * k, 0, 12⟩
def HIF_LEVB_W (k : Nat) : Fld := ⟨0x4344 + 0x8 * k, 0, 32⟩
/- HIF_LEVC[k] (HOST, reset source NVS) -/
def HIF_LEVC_LBRK (k : Nat) : Fld := ⟨0x4360 + 0x4 * k, 0, 16⟩
def HIF_LEVC_VAL (k : Nat) : Fld := ⟨0x4360 + 0x4 * k, 16, 16⟩
def HIF_LEVC_W (k : Nat) : Fld := ⟨0x4360 + 0x4 * k, 0, 32⟩
/- TXN_CFG (FABRIC, reset source NVS) -/
def TXN_CFG_MIRN : Fld := ⟨0x5000, 16, 8⟩
def TXN_CFG_TMO : Fld := ⟨0x5000, 0, 16⟩
def TXN_CFG_W : Fld := ⟨0x5000, 0, 32⟩
/- TXN_STAT[r] (FABRIC, reset source PERST) -/
def TXN_STAT_COUNT (r : Nat) : Fld := ⟨0x5010 + 0x4 * r, 16, 13⟩
def TXN_STAT_LEFT (r : Nat) : Fld := ⟨0x5010 + 0x4 * r, 2, 14⟩
def TXN_STAT_STATE (r : Nat) : Fld := ⟨0x5010 + 0x4 * r, 0, 2⟩
def TXN_STAT_W (r : Nat) : Fld := ⟨0x5010 + 0x4 * r, 0, 32⟩
/- TXN_REJ[r] (FABRIC, reset source PERST) -/
def TXN_REJ_RESID (r : Nat) : Fld := ⟨0x5020 + 0x4 * r, 16, 16⟩
def TXN_REJ_EXCESS (r : Nat) : Fld := ⟨0x5020 + 0x4 * r, 0, 16⟩
def TXN_REJ_W (r : Nat) : Fld := ⟨0x5020 + 0x4 * r, 0, 32⟩
/- TXN_CNT (FABRIC, reset source SYS) -/
def TXN_CNT_APPL : Fld := ⟨0x5030, 16, 16⟩
def TXN_CNT_REJ : Fld := ⟨0x5030, 8, 8⟩
def TXN_CNT_TMO : Fld := ⟨0x5030, 0, 8⟩
def TXN_CNT_W : Fld := ⟨0x5030, 0, 32⟩
/- TXN_COEF (FABRIC, reset source SYS) -/
def TXN_COEF_CH : Fld := ⟨0x5040, 28, 4⟩
def TXN_COEF_IDX : Fld := ⟨0x5040, 16, 9⟩
def TXN_COEF_VALUE : Fld := ⟨0x5040, 0, 16⟩
def TXN_COEF_W : Fld := ⟨0x5040, 0, 32⟩
/- TXN_ELEM (FABRIC, reset source SYS) -/
def TXN_ELEM_CH : Fld := ⟨0x5044, 28, 4⟩
def TXN_ELEM_INST : Fld := ⟨0x5044, 21, 7⟩
def TXN_ELEM_FLD : Fld := ⟨0x5044, 18, 3⟩
def TXN_ELEM_SHIFT : Fld := ⟨0x5044, 0, 4⟩
def TXN_ELEM_W : Fld := ⟨0x5044, 0, 32⟩
/- TXN_PSEL (FABRIC, reset source SYS) -/
def TXN_PSEL_CH : Fld := ⟨0x5048, 28, 4⟩
def TXN_PSEL_ADR : Fld := ⟨0x5048, 0, 16⟩
def TXN_PSEL_W : Fld := ⟨0x5048, 0, 32⟩
/- TXN_PDAT (FABRIC, reset source SYS) -/
def TXN_PDAT_WORD : Fld := ⟨0x504C, 0, 32⟩
def TXN_PDAT_W : Fld := ⟨0x504C, 0, 32⟩
/- CANn_CFG (COMM, reset source NVS) -/
def CANn_CFG_EN (n : Nat) : Fld := ⟨0x14000 + 0x800 * n, 31, 1⟩
def CANn_CFG_ROLE (n : Nat) : Fld := ⟨0x14000 + 0x800 * n, 30, 1⟩
def CANn_CFG_TXORD (n : Nat) : Fld := ⟨0x14000 + 0x800 * n, 29, 1⟩
def CANn_CFG_MODE (n : Nat) : Fld := ⟨0x14000 + 0x800 * n, 27, 2⟩
def CANn_CFG_NMS (n : Nat) : Fld := ⟨0x14000 + 0x800 * n, 25, 2⟩
def CANn_CFG_FDEN (n : Nat) : Fld := ⟨0x14000 + 0x800 * n, 24, 1⟩
def CANn_CFG_FLSTD (n : Nat) : Fld := ⟨0x14000 + 0x800 * n, 16, 8⟩
def CANn_CFG_FLXTD (n : Nat) : Fld := ⟨0x14000 + 0x800 * n, 8, 7⟩
def CANn_CFG_W (n : Nat) : Fld := ⟨0x14000 + 0x800 * n, 0, 32⟩
/- CANn_CTL (COMM, reset source SYS) -/
def CANn_CTL_RECOVER (n : Nat) : Fld := ⟨0x14004 + 0x800 * n, 0, 1⟩
def CANn_CTL_W (n : Nat) : Fld := ⟨0x14004 + 0x800 * n, 0, 32⟩
/- CANn_NBT (COMM, reset source NVS) -/
def CANn_NBT_NBRP (n : Nat) : Fld := ⟨0x14008 + 0x800 * n, 23, 9⟩
def CANn_NBT_NSJW (n : Nat) : Fld := ⟨0x14008 + 0x800 * n, 16, 7⟩
def CANn_NBT_NTSEG1 (n : Nat) : Fld := ⟨0x14008 + 0x800 * n, 8, 8⟩
def CANn_NBT_NTSEG2 (n : Nat) : Fld := ⟨0x14008 + 0x800 * n, 0, 7⟩
def CANn_NBT_W (n : Nat) : Fld := ⟨0x14008 + 0x800 * n, 0, 32⟩
/- CANn_DBT (COMM, reset source NVS) -/
def CANn_DBT_DBRP (n : Nat) : Fld := ⟨0x1400C + 0x800 * n, 16, 5⟩
def CANn_DBT_DSJW (n : Nat) : Fld := ⟨0x1400C + 0x800 * n, 12, 4⟩
def CANn_DBT_DTSEG2 (n : Nat) : Fld := ⟨0x1400C + 0x800 * n, 8, 4⟩
def CANn_DBT_DTSEG1 (n : Nat) : Fld := ⟨0x1400C + 0x800 * n, 0, 5⟩
def CANn_DBT_W (n : Nat) : Fld := ⟨0x1400C + 0x800 * n, 0, 32⟩
/- CANn_TDC (COMM, reset source NVS) -/
def CANn_TDC_EN (n : Nat) : Fld := ⟨0x14010 + 0x800 * n, 15, 1⟩
def CANn_TDC_TDCO (n : Nat) : Fld := ⟨0x14010 + 0x800 * n, 8, 7⟩
def CANn_TDC_W (n : Nat) : Fld := ⟨0x14010 + 0x800 * n, 0, 32⟩
/- CANn_STAT (COMM, reset source SYS) -/
def CANn_STAT_TDCV (n : Nat) : Fld := ⟨0x14014 + 0x800 * n, 24, 8⟩
def CANn_STAT_LEC (n : Nat) : Fld := ⟨0x14014 + 0x800 * n, 9, 3⟩
def CANn_STAT_PXE (n : Nat) : Fld := ⟨0x14014 + 0x800 * n, 8, 1⟩
def CANn_STAT_RESTR (n : Nat) : Fld := ⟨0x14014 + 0x800 * n, 7, 1⟩
def CANn_STAT_STATE (n : Nat) : Fld := ⟨0x14014 + 0x800 * n, 0, 4⟩
def CANn_STAT_W (n : Nat) : Fld := ⟨0x14014 + 0x800 * n, 0, 32⟩
/- CANn_ECNT (COMM, reset source SYS) -/
def CANn_ECNT_RECOVN (n : Nat) : Fld := ⟨0x14018 + 0x800 * n, 16, 8⟩
def CANn_ECNT_RP (n : Nat) : Fld := ⟨0x14018 + 0x800 * n, 15, 1⟩
def CANn_ECNT_REC (n : Nat) : Fld := ⟨0x14018 + 0x800 * n, 8, 7⟩
def CANn_ECNT_TEC (n : Nat) : Fld := ⟨0x14018 + 0x800 * n, 0, 8⟩
def CANn_ECNT_W (n : Nat) : Fld := ⟨0x14018 + 0x800 * n, 0, 32⟩
/- CANn_CNT (COMM, reset source SYS) -/
def CANn_CNT_ERR (n : Nat) : Fld := ⟨0x1401C + 0x800 * n, 16, 16⟩
def CANn_CNT_BOFF (n : Nat) : Fld := ⟨0x1401C + 0x800 * n, 8, 8⟩
def CANn_CNT_RXTAG (n : Nat) : Fld := ⟨0x1401C + 0x800 * n, 0, 8⟩
def CANn_CNT_W (n : Nat) : Fld := ⟨0x1401C + 0x800 * n, 0, 32⟩
/- CANn_TXSTAT (COMM, reset source SYS) -/
def CANn_TXSTAT_SENT (n : Nat) : Fld := ⟨0x14020 + 0x800 * n, 16, 16⟩
def CANn_TXSTAT_TXB2 (n : Nat) : Fld := ⟨0x14020 + 0x800 * n, 6, 3⟩
def CANn_TXSTAT_TXB1 (n : Nat) : Fld := ⟨0x14020 + 0x800 * n, 3, 3⟩
def CANn_TXSTAT_TXB0 (n : Nat) : Fld := ⟨0x14020 + 0x800 * n, 0, 3⟩
def CANn_TXSTAT_W (n : Nat) : Fld := ⟨0x14020 + 0x800 * n, 0, 32⟩
/- CANn_WAKEID (COMM, reset source NVS) -/
def CANn_WAKEID_XTD (n : Nat) : Fld := ⟨0x14024 + 0x800 * n, 30, 1⟩
def CANn_WAKEID_ID (n : Nat) : Fld := ⟨0x14024 + 0x800 * n, 0, 29⟩
def CANn_WAKEID_W (n : Nat) : Fld := ⟨0x14024 + 0x800 * n, 0, 32⟩
/- CANn_WAKEM (COMM, reset source NVS) -/
def CANn_WAKEM_MASK (n : Nat) : Fld := ⟨0x14028 + 0x800 * n, 0, 29⟩
def CANn_WAKEM_W (n : Nat) : Fld := ⟨0x14028 + 0x800 * n, 0, 32⟩
/- CANn_WAKED (COMM, reset source NVS) -/
def CANn_WAKED_DEN (n : Nat) : Fld := ⟨0x1402C + 0x800 * n, 16, 1⟩
def CANn_WAKED_DMASK (n : Nat) : Fld := ⟨0x1402C + 0x800 * n, 8, 8⟩
def CANn_WAKED_DVAL (n : Nat) : Fld := ⟨0x1402C + 0x800 * n, 0, 8⟩
def CANn_WAKED_W (n : Nat) : Fld := ⟨0x1402C + 0x800 * n, 0, 32⟩
/- CANn_FLTSEL (COMM, reset source SYS) -/
def CANn_FLTSEL_XL (n : Nat) : Fld := ⟨0x14030 + 0x800 * n, 31, 1⟩
def CANn_FLTSEL_ADR (n : Nat) : Fld := ⟨0x14030 + 0x800 * n, 0, 8⟩
def CANn_FLTSEL_W (n : Nat) : Fld := ⟨0x14030 + 0x800 * n, 0, 32⟩
/- CANn_FLTDAT (COMM, reset source NVS) -/
def CANn_FLTDAT_WORD (n : Nat) : Fld := ⟨0x14034 + 0x800 * n, 0, 32⟩
def CANn_FLTDAT_W (n : Nat) : Fld := ⟨0x14034 + 0x800 * n, 0, 32⟩
/- CANn_RXF[k] (COMM, reset source SYS) -/
def CANn_RXF_ACK (n k : Nat) : Fld := ⟨0x14040 + 0x800 * n + 0x4 * k, 24, 8⟩
def CANn_RXF_DROP (n k : Nat) : Fld := ⟨0x14040 + 0x800 * n + 0x4 * k, 16, 8⟩
def CANn_RXF_FILL (n k : Nat) : Fld := ⟨0x14040 + 0x800 * n + 0x4 * k, 0, 6⟩
def CANn_RXF_W (n k : Nat) : Fld := ⟨0x14040 + 0x800 * n + 0x4 * k, 0, 32⟩
/- CANn_RXW[k][w] (COMM, reset source SYS) -/
def CANn_RXW_WORD (n k w : Nat) : Fld := ⟨0x14100 + 0x800 * n + 0x80 * k + 0x4 * w, 0, 32⟩
def CANn_RXW_W (n k w : Nat) : Fld := ⟨0x14100 + 0x800 * n + 0x80 * k + 0x4 * w, 0, 32⟩
/- LODE_CFG (COMM, reset source NVS) -/
def LODE_CFG_TELEN : Fld := ⟨0x16000, 3, 1⟩
def LODE_CFG_CBEN : Fld := ⟨0x16000, 2, 1⟩
def LODE_CFG_PTPEN : Fld := ⟨0x16000, 1, 1⟩
def LODE_CFG_EN : Fld := ⟨0x16000, 0, 1⟩
def LODE_CFG_W : Fld := ⟨0x16000, 0, 32⟩
/- LODE_MAC_LO (COMM, reset source NVS) -/
def LODE_MAC_LO_MAC : Fld := ⟨0x16004, 0, 32⟩
def LODE_MAC_LO_W : Fld := ⟨0x16004, 0, 32⟩
/- LODE_MAC_HI (COMM, reset source NVS) -/
def LODE_MAC_HI_MAC : Fld := ⟨0x16008, 0, 16⟩
def LODE_MAC_HI_W : Fld := ⟨0x16008, 0, 32⟩
/- LODE_IP (COMM, reset source NVS) -/
def LODE_IP_ADDR : Fld := ⟨0x1600C, 0, 32⟩
def LODE_IP_W : Fld := ⟨0x1600C, 0, 32⟩
/- LODE_MDIO (COMM, reset source SYS) -/
def LODE_MDIO_GO : Fld := ⟨0x16010, 31, 1⟩
def LODE_MDIO_C45 : Fld := ⟨0x16010, 30, 1⟩
def LODE_MDIO_WR : Fld := ⟨0x16010, 29, 1⟩
def LODE_MDIO_PHYAD : Fld := ⟨0x16010, 24, 5⟩
def LODE_MDIO_REG : Fld := ⟨0x16010, 16, 5⟩
def LODE_MDIO_DATA : Fld := ⟨0x16010, 0, 16⟩
def LODE_MDIO_W : Fld := ⟨0x16010, 0, 32⟩
/- LODE_MDIOST (COMM, reset source SYS) -/
def LODE_MDIOST_BUSY : Fld := ⟨0x16014, 31, 1⟩
def LODE_MDIOST_RDATA : Fld := ⟨0x16014, 0, 16⟩
def LODE_MDIOST_W : Fld := ⟨0x16014, 0, 32⟩
/- LODE_PCPQ (COMM, reset source NVS) -/
def LODE_PCPQ_MAP : Fld := ⟨0x16018, 0, 24⟩
def LODE_PCPQ_W : Fld := ⟨0x16018, 0, 32⟩
/- LODE_TELCFG (COMM, reset source NVS) -/
def LODE_TELCFG_TDIV : Fld := ⟨0x1601C, 16, 8⟩
def LODE_TELCFG_MASK : Fld := ⟨0x1601C, 0, 16⟩
def LODE_TELCFG_W : Fld := ⟨0x1601C, 0, 32⟩
/- LODE_TELADDR (COMM, reset source NVS) -/
def LODE_TELADDR_ADDR : Fld := ⟨0x16020, 0, 32⟩
def LODE_TELADDR_W : Fld := ⟨0x16020, 0, 32⟩
/- LODE_TELPORT (COMM, reset source NVS) -/
def LODE_TELPORT_PORT : Fld := ⟨0x16024, 0, 16⟩
def LODE_TELPORT_VID : Fld := ⟨0x16024, 16, 12⟩
def LODE_TELPORT_PCP : Fld := ⟨0x16024, 28, 3⟩
def LODE_TELPORT_W : Fld := ⟨0x16024, 0, 32⟩
/- LODE_VLAN[v] (COMM, reset source NVS) -/
def LODE_VLAN_EN (v : Nat) : Fld := ⟨0x16400 + 0x4 * v, 31, 1⟩
def LODE_VLAN_MEMB (v : Nat) : Fld := ⟨0x16400 + 0x4 * v, 16, 3⟩
def LODE_VLAN_VID (v : Nat) : Fld := ⟨0x16400 + 0x4 * v, 0, 12⟩
def LODE_VLAN_W (v : Nat) : Fld := ⟨0x16400 + 0x4 * v, 0, 32⟩
/- LODE_Pk_CFG (COMM, reset source NVS) -/
def LODE_Pk_CFG_EN (k : Nat) : Fld := ⟨0x16100 + 0x40 * k, 31, 1⟩
def LODE_Pk_CFG_MODE (k : Nat) : Fld := ⟨0x16100 + 0x40 * k, 30, 1⟩
def LODE_Pk_CFG_ANEG (k : Nat) : Fld := ⟨0x16100 + 0x40 * k, 29, 1⟩
def LODE_Pk_CFG_SPEED (k : Nat) : Fld := ⟨0x16100 + 0x40 * k, 26, 2⟩
def LODE_Pk_CFG_PVID (k : Nat) : Fld := ⟨0x16100 + 0x40 * k, 0, 12⟩
def LODE_Pk_CFG_W (k : Nat) : Fld := ⟨0x16100 + 0x40 * k, 0, 32⟩
/- LODE_Pk_STAT (COMM, reset source SYS) -/
def LODE_Pk_STAT_LINK (k : Nat) : Fld := ⟨0x16104 + 0x40 * k, 31, 1⟩
def LODE_Pk_STAT_SPEED (k : Nat) : Fld := ⟨0x16104 + 0x40 * k, 28, 2⟩
def LODE_Pk_STAT_PPM (k : Nat) : Fld := ⟨0x16104 + 0x40 * k, 27, 1⟩
def LODE_Pk_STAT_OFS (k : Nat) : Fld := ⟨0x16104 + 0x40 * k, 0, 16⟩
def LODE_Pk_STAT_W (k : Nat) : Fld := ⟨0x16104 + 0x40 * k, 0, 32⟩
/- LODE_Pk_GCLCFG (COMM, reset source NVS) -/
def LODE_Pk_GCLCFG_EN (k : Nat) : Fld := ⟨0x16108 + 0x40 * k, 31, 1⟩
def LODE_Pk_GCLCFG_LEN (k : Nat) : Fld := ⟨0x16108 + 0x40 * k, 16, 7⟩
def LODE_Pk_GCLCFG_W (k : Nat) : Fld := ⟨0x16108 + 0x40 * k, 0, 32⟩
/- LODE_Pk_CYCLE (COMM, reset source NVS) -/
def LODE_Pk_CYCLE_CYCLE (k : Nat) : Fld := ⟨0x1610C + 0x40 * k, 0, 30⟩
def LODE_Pk_CYCLE_W (k : Nat) : Fld := ⟨0x1610C + 0x40 * k, 0, 32⟩
/- LODE_Pk_BASE (COMM, reset source NVS) -/
def LODE_Pk_BASE_BASE (k : Nat) : Fld := ⟨0x16110 + 0x40 * k, 0, 30⟩
def LODE_Pk_BASE_W (k : Nat) : Fld := ⟨0x16110 + 0x40 * k, 0, 32⟩
/- LODE_Pk_GCLSEL (COMM, reset source SYS) -/
def LODE_Pk_GCLSEL_ADR (k : Nat) : Fld := ⟨0x16114 + 0x40 * k, 0, 6⟩
def LODE_Pk_GCLSEL_W (k : Nat) : Fld := ⟨0x16114 + 0x40 * k, 0, 32⟩
/- LODE_Pk_GCLDAT (COMM, reset source NVS) -/
def LODE_Pk_GCLDAT_GATES (k : Nat) : Fld := ⟨0x16118 + 0x40 * k, 24, 8⟩
def LODE_Pk_GCLDAT_INTERVAL (k : Nat) : Fld := ⟨0x16118 + 0x40 * k, 0, 24⟩
def LODE_Pk_GCLDAT_W (k : Nat) : Fld := ⟨0x16118 + 0x40 * k, 0, 32⟩
/- LODE_Pk_CNT (COMM, reset source SYS) -/
def LODE_Pk_CNT_RXERR (k : Nat) : Fld := ⟨0x1611C + 0x40 * k, 16, 16⟩
def LODE_Pk_CNT_QDROP (k : Nat) : Fld := ⟨0x1611C + 0x40 * k, 8, 8⟩
def LODE_Pk_CNT_NOFIT (k : Nat) : Fld := ⟨0x1611C + 0x40 * k, 0, 8⟩
def LODE_Pk_CNT_W (k : Nat) : Fld := ⟨0x1611C + 0x40 * k, 0, 32⟩
/- LODE_PTPCFG (COMM, reset source NVS) -/
def LODE_PTPCFG_SYNCTO : Fld := ⟨0x16200, 8, 4⟩
def LODE_PTPCFG_P2EN : Fld := ⟨0x16200, 1, 1⟩
def LODE_PTPCFG_P1EN : Fld := ⟨0x16200, 0, 1⟩
def LODE_PTPCFG_W : Fld := ⟨0x16200, 0, 32⟩
/- LODE_PTPSTAT (COMM, reset source SYS) -/
def LODE_PTPSTAT_SYNC : Fld := ⟨0x16204, 31, 1⟩
def LODE_PTPSTAT_P2ROLE : Fld := ⟨0x16204, 26, 2⟩
def LODE_PTPSTAT_P1ROLE : Fld := ⟨0x16204, 24, 2⟩
def LODE_PTPSTAT_OFFS : Fld := ⟨0x16204, 0, 24⟩
def LODE_PTPSTAT_W : Fld := ⟨0x16204, 0, 32⟩
/- LODE_PTPNS_LO (COMM, reset source SYS) -/
def LODE_PTPNS_LO_NS : Fld := ⟨0x16208, 0, 32⟩
def LODE_PTPNS_LO_W : Fld := ⟨0x16208, 0, 32⟩
/- LODE_PTPNS_HI (COMM, reset source SYS) -/
def LODE_PTPNS_HI_NS : Fld := ⟨0x1620C, 0, 32⟩
def LODE_PTPNS_HI_W : Fld := ⟨0x1620C, 0, 32⟩
/- LODE_CBSTR[s] (COMM, reset source NVS) -/
def LODE_CBSTR_EN (s : Nat) : Fld := ⟨lodeCb s + 0x0, 31, 1⟩
def LODE_CBSTR_DIR (s : Nat) : Fld := ⟨lodeCb s + 0x0, 30, 1⟩
def LODE_CBSTR_VID (s : Nat) : Fld := ⟨lodeCb s + 0x0, 16, 12⟩
def LODE_CBSTR_DMAC_HI (s : Nat) : Fld := ⟨lodeCb s + 0x0, 0, 16⟩
def LODE_CBSTR_W (s : Nat) : Fld := ⟨lodeCb s + 0x0, 0, 32⟩
/- LODE_CBMAC[s] (COMM, reset source NVS) -/
def LODE_CBMAC_DMAC_LO (s : Nat) : Fld := ⟨lodeCb s + 0x4, 0, 32⟩
def LODE_CBMAC_W (s : Nat) : Fld := ⟨lodeCb s + 0x4, 0, 32⟩
/- LODE_CBTIM[s] (COMM, reset source NVS) -/
def LODE_CBTIM_PATHTO (s : Nat) : Fld := ⟨lodeCb s + 0x8, 16, 16⟩
def LODE_CBTIM_RSTTO (s : Nat) : Fld := ⟨lodeCb s + 0x8, 0, 16⟩
def LODE_CBTIM_W (s : Nat) : Fld := ⟨lodeCb s + 0x8, 0, 32⟩
/- LODE_CBCNT[s] (COMM, reset source SYS) -/
def LODE_CBCNT_DUP (s : Nat) : Fld := ⟨lodeCb s + 0xC, 16, 16⟩
def LODE_CBCNT_ROGUE (s : Nat) : Fld := ⟨lodeCb s + 0xC, 0, 16⟩
def LODE_CBCNT_W (s : Nat) : Fld := ⟨lodeCb s + 0xC, 0, 32⟩
/- PWR_VMON (SAFE, reset source SYS) -/
def PWR_VMON_VBAK : Fld := ⟨0x2000, 16, 16⟩
def PWR_VMON_VMAIN : Fld := ⟨0x2000, 0, 16⟩
def PWR_VMON_W : Fld := ⟨0x2000, 0, 32⟩
/- PWR_DOMSTAT (FABRIC, reset source SYS) -/
def PWR_DOMSTAT_PHF : Fld := ⟨0x2004, 16, 12⟩
def PWR_DOMSTAT_ON : Fld := ⟨0x2004, 0, 12⟩
def PWR_DOMSTAT_W : Fld := ⟨0x2004, 0, 32⟩
/- PWR_CFG (FABRIC, reset source NVS) -/
def PWR_CFG_RIDE : Fld := ⟨0x2008, 24, 8⟩
def PWR_CFG_DOMON : Fld := ⟨0x2008, 3, 6⟩
def PWR_CFG_W : Fld := ⟨0x2008, 0, 32⟩
/- PWR_CTL (FABRIC, reset source SYS) -/
def PWR_CTL_KEY : Fld := ⟨0x200C, 8, 8⟩
def PWR_CTL_SYSRST : Fld := ⟨0x200C, 1, 1⟩
def PWR_CTL_STBY : Fld := ⟨0x200C, 0, 1⟩
def PWR_CTL_W : Fld := ⟨0x200C, 0, 32⟩
/- PWR_RSTCAUSE (VAULT, reset source POR) -/
def PWR_RSTCAUSE_PINMASK : Fld := ⟨0x2010, 10, 1⟩
def PWR_RSTCAUSE_WAKERTC : Fld := ⟨0x2010, 9, 1⟩
def PWR_RSTCAUSE_WAKEPIN : Fld := ⟨0x2010, 8, 1⟩
def PWR_RSTCAUSE_PFAIL : Fld := ⟨0x2010, 7, 1⟩
def PWR_RSTCAUSE_KEYSTONE : Fld := ⟨0x2010, 6, 1⟩
def PWR_RSTCAUSE_TSHUT : Fld := ⟨0x2010, 5, 1⟩
def PWR_RSTCAUSE_SYSRST : Fld := ⟨0x2010, 4, 1⟩
def PWR_RSTCAUSE_RSTN : Fld := ⟨0x2010, 3, 1⟩
def PWR_RSTCAUSE_ABRUPT : Fld := ⟨0x2010, 2, 1⟩
def PWR_RSTCAUSE_VMAIN : Fld := ⟨0x2010, 1, 1⟩
def PWR_RSTCAUSE_VAULTPOR : Fld := ⟨0x2010, 0, 1⟩
def PWR_RSTCAUSE_W : Fld := ⟨0x2010, 0, 32⟩
/- PWR_BOOT (FABRIC, reset source SYS) -/
def PWR_BOOT_STEP : Fld := ⟨0x2014, 28, 4⟩
def PWR_BOOT_NOIMG : Fld := ⟨0x2014, 7, 1⟩
def PWR_BOOT_FALLBK : Fld := ⟨0x2014, 6, 1⟩
def PWR_BOOT_BBAD : Fld := ⟨0x2014, 5, 1⟩
def PWR_BOOT_ABAD : Fld := ⟨0x2014, 4, 1⟩
def PWR_BOOT_BVAL : Fld := ⟨0x2014, 3, 1⟩
def PWR_BOOT_AVAL : Fld := ⟨0x2014, 2, 1⟩
def PWR_BOOT_SLOT : Fld := ⟨0x2014, 0, 1⟩
def PWR_BOOT_W : Fld := ⟨0x2014, 0, 32⟩
/- PWR_GEN (FABRIC, reset source SYS) -/
def PWR_GEN_GEN : Fld := ⟨0x2018, 0, 32⟩
def PWR_GEN_W : Fld := ⟨0x2018, 0, 32⟩
/- PWR_RSTPIN (VAULT, reset source POR) -/
def PWR_RSTPIN_STUCKCNT : Fld := ⟨0x201C, 8, 8⟩
def PWR_RSTPIN_LEVEL : Fld := ⟨0x201C, 2, 1⟩
def PWR_RSTPIN_MASK : Fld := ⟨0x201C, 1, 1⟩
def PWR_RSTPIN_W : Fld := ⟨0x201C, 0, 32⟩
/- PWR_WAKE (VAULT, reset source POR) -/
def PWR_WAKE_RTCEN : Fld := ⟨0x2020, 1, 1⟩
def PWR_WAKE_PINEN : Fld := ⟨0x2020, 0, 1⟩
def PWR_WAKE_W : Fld := ⟨0x2020, 0, 32⟩
/- PWR_ALARM (VAULT, reset source POR) -/
def PWR_ALARM_SEC : Fld := ⟨0x2024, 0, 32⟩
def PWR_ALARM_W : Fld := ⟨0x2024, 0, 32⟩
/- PWR_RTC (VAULT, reset source POR) -/
def PWR_RTC_SEC : Fld := ⟨0x2028, 0, 32⟩
def PWR_RTC_W : Fld := ⟨0x2028, 0, 32⟩
/- PWR_START (FABRIC, reset source SYS) -/
def PWR_START_T : Fld := ⟨0x202C, 0, 16⟩
def PWR_START_W : Fld := ⟨0x202C, 0, 32⟩
/- PWR_CNT (VAULT, reset source POR) -/
def PWR_CNT_RIDE : Fld := ⟨0x2030, 16, 16⟩
def PWR_CNT_PFAIL : Fld := ⟨0x2030, 8, 8⟩
def PWR_CNT_ABRUPT : Fld := ⟨0x2030, 0, 8⟩
def PWR_CNT_W : Fld := ⟨0x2030, 0, 32⟩
/- STR_CFG (FABRIC, reset source NVS) -/
def STR_CFG_PERIOD : Fld := ⟨0x18000, 0, 11⟩
def STR_CFG_W : Fld := ⟨0x18000, 0, 32⟩
/- STR_CTL (FABRIC, reset source SYS) -/
def STR_CTL_SNAP : Fld := ⟨0x18004, 0, 1⟩
def STR_CTL_W : Fld := ⟨0x18004, 0, 32⟩
/- STR_STAT (FABRIC, reset source SYS) -/
def STR_STAT_WR : Fld := ⟨0x18008, 31, 1⟩
def STR_STAT_BANK : Fld := ⟨0x18008, 30, 1⟩
def STR_STAT_USED : Fld := ⟨0x18008, 16, 11⟩
def STR_STAT_NEWEST : Fld := ⟨0x18008, 0, 10⟩
def STR_STAT_W : Fld := ⟨0x18008, 0, 32⟩
/- STR_RECNO (NVS, reset source SYS) -/
def STR_RECNO_RECNO : Fld := ⟨0x1800C, 0, 32⟩
def STR_RECNO_W : Fld := ⟨0x1800C, 0, 32⟩
/- STR_DROP01 (NVS, reset source SYS) -/
def STR_DROP01_S1 : Fld := ⟨0x18010, 16, 16⟩
def STR_DROP01_S0 : Fld := ⟨0x18010, 0, 16⟩
def STR_DROP01_W : Fld := ⟨0x18010, 0, 32⟩
/- STR_DROP23 (NVS, reset source SYS) -/
def STR_DROP23_S3 : Fld := ⟨0x18014, 16, 16⟩
def STR_DROP23_S2 : Fld := ⟨0x18014, 0, 16⟩
def STR_DROP23_W : Fld := ⟨0x18014, 0, 32⟩
/- STR_CNT (NVS, reset source SYS) -/
def STR_CNT_BOOTNO : Fld := ⟨0x18018, 16, 16⟩
def STR_CNT_PARTIAL : Fld := ⟨0x18018, 8, 8⟩
def STR_CNT_JDISC : Fld := ⟨0x18018, 0, 8⟩
def STR_CNT_W : Fld := ⟨0x18018, 0, 32⟩
/- NVS_DMA_LO (NVS, reset source SYS) -/
def NVS_DMA_LO_ADDR : Fld := ⟨0x18040, 6, 26⟩
def NVS_DMA_LO_W : Fld := ⟨0x18040, 0, 32⟩
/- NVS_DMA_HI (NVS, reset source SYS) -/
def NVS_DMA_HI_ADDR : Fld := ⟨0x18044, 0, 32⟩
def NVS_DMA_HI_W : Fld := ⟨0x18044, 0, 32⟩
/- NVS_OFS (NVS, reset source SYS) -/
def NVS_OFS_OFS : Fld := ⟨0x18048, 6, 19⟩
def NVS_OFS_W : Fld := ⟨0x18048, 0, 32⟩
/- NVS_LEN (NVS, reset source SYS) -/
def NVS_LEN_LEN : Fld := ⟨0x1804C, 6, 19⟩
def NVS_LEN_W : Fld := ⟨0x1804C, 0, 32⟩
/- NVS_CTL (NVS, reset source SYS) -/
def NVS_CTL_GO : Fld := ⟨0x18050, 31, 1⟩
def NVS_CTL_DIR : Fld := ⟨0x18050, 0, 1⟩
def NVS_CTL_W : Fld := ⟨0x18050, 0, 32⟩
/- NVS_STAT (NVS, reset source SYS) -/
def NVS_STAT_BUSY : Fld := ⟨0x18054, 31, 1⟩
def NVS_STAT_ERR : Fld := ⟨0x18054, 0, 4⟩
def NVS_STAT_W : Fld := ⟨0x18054, 0, 32⟩
/- NVS_SLOT (NVS, reset source SYS) -/
def NVS_SLOT_KEY : Fld := ⟨0x18058, 8, 8⟩
def NVS_SLOT_SLOT : Fld := ⟨0x18058, 4, 1⟩
def NVS_SLOT_OP : Fld := ⟨0x18058, 0, 2⟩
def NVS_SLOT_W : Fld := ⟨0x18058, 0, 32⟩
/- NVS_SLOTST (NVS, reset source SYS) -/
def NVS_SLOTST_BUSY : Fld := ⟨0x1805C, 31, 1⟩
def NVS_SLOTST_RES : Fld := ⟨0x1805C, 0, 4⟩
def NVS_SLOTST_W : Fld := ⟨0x1805C, 0, 32⟩
/- NVS_ECC (NVS, reset source SYS) -/
def NVS_ECC_CORR : Fld := ⟨0x18060, 16, 16⟩
def NVS_ECC_UNCORR : Fld := ⟨0x18060, 0, 16⟩
def NVS_ECC_W : Fld := ⟨0x18060, 0, 32⟩
/- MSI-X table and pending bits (HOST, reset source PERST) -/
def MSIX_CTL_MASK (v : Nat) : Fld := ⟨0x3F00C + 0x10 * v, 0, 1⟩
def MSIX_PBA_PEND : Fld := ⟨0x3F800, 0, 32⟩

end Sys2Proof.Machine.R
end

