-- ==== Sys2Proof/Machine/State.lean ====
section
/-! DEFINITION. The state of the KD-860: the register file of BAR0, the state the manual gives each unit beside its
registers, the Bedrock store, and the queue of waiting commands. Everything is plain data. -/

namespace Sys2Proof.Machine

/-- One counted edge of a feedback port (R172): the count after it, its stamp, and whether its stamp is usable. -/
structure FbEdge where
  cnt    : Nat
  t      : Nat
  usable : Bool
  deriving DecidableEq, Repr, Inhabited

/-- The state of one feedback port beside its registers (chapter 7). -/
structure Port where
  /-- filtered levels of FBn_A, FBn_B, FBn_Z (U, V, W) -/
  a : Bool
  b : Bool
  z : Bool
  /-- qualified index active (R164) -/
  idx : Bool
  /-- the live count -/
  pos : Nat
  /-- direction of the current run: 0 before the first edge after standstill -/
  run : Int
  /-- the last edge, the first usable edge of the run, the last usable edge at or before the previous SAMPLE_PHASE
  (with whether it belongs to the current run) -/
  last : Option FbEdge
  firstUse : Option FbEdge
  prevUse : Option FbEdge
  lastUse : Option FbEdge
  /-- the stamp of the last filtered edge of A or B, counted or not (R162) -/
  filt : Option Nat
  /-- an edge was counted since the previous SAMPLE_PHASE; frames without one; frames since the window restarted -/
  edge : Bool
  still : Nat
  winFr : Nat
  /-- positions at the SAMPLE_PHASEs, newest first -/
  hist : List Nat
  /-- an index was latched since the port was enabled (R164); residue waiting for the tick (R166) -/
  latched : Bool
  zcorr : Int
  /-- sector k of a magnetic-switch port, whether any legal code came, and the last boundary crossed with its stamp (R169 to
  R171) -/
  sector : Nat
  legal : Bool
  bound : Option (Nat × Nat)
  /-- how far the angle of a magnetic-switch port has moved from the last boundary, in 65,536 units (R171) -/
  reach : Nat
  /-- the SAMPLE_PHASEs in a row that found no legal code (R170) -/
  badCode : Nat
  /-- the word of this frame's SSI transfer, if good, until the next SAMPLE_PHASE; whether a transfer was made -/
  ssiNext : Option Nat
  ssiRead : Bool
  /-- the last two good SSI positions, newest first; faulty and good words in a row (R177, R178) -/
  ssiP : List Nat
  ssiBad : Nat
  ssiGood : Nat
  /-- illegal transitions, drifts and faulty words counted so far, for the supervision (R217) -/
  cntIll : Nat
  cntDrift : Nat
  cntSsi : Nat
  /-- position and θ_e delivered to the loops (R177, R167, R171), and the position θ_e is taken from (R178) -/
  delPos : Nat
  delTh : Nat
  thPos : Nat
  /-- SYSCLK cycles for which that angle has been extrapolated at the held speed since the last good word (R178) -/
  thHeld : Nat
  /-- a compare pulse runs (R181) -/
  cmpRun : Bool
  /-- the encoder emulation: source position of the last update, carried distance × N, and emitted position (R182) -/
  emuLast : Nat
  emuAcc : Int
  emuOut : Int
  /-- N × (P − P0) less the counts dropped under R183 is emuAcc; counts dropped -/
  emuDrop : Int
  /-- counts emitted so far modulo 4, on both sides of a restart: the levels of ENCOUTn (R182) -/
  emuPh : Nat
  deriving DecidableEq, Repr, Inhabited

/-- A shadow group of R147: its two lanes, the input it shadows and the frames it has compared. -/
structure ShadowGrp where
  la : Nat
  lb : Nat
  inp : Nat
  fr : Nat
  deriving DecidableEq, Repr, Inhabited

/-- The mean of a drive's two phase currents over whole electrical periods (R145): sums, samples, the angle of the last
sample and the speed the window began at. -/
structure OffMean where
  /-- the window began where an electrical period begins -/
  whole : Bool
  sumA : Int
  sumB : Int
  cnt  : Nat
  th   : Nat
  w0   : Int
  deriving DecidableEq, Repr, Inhabited

/-- The power balance of a drive (R155): frames taken, Σ ΔI_mod² and Σ ΔV × ΔI_mod, and I_mod and V_DC of the frame before
(I_mod in IFS / 2^31, V_DC in Q15), none where it had no pulses. -/
structure PowerBal where
  cnt  : Nat
  sII  : Int
  sVI  : Int
  last : Option (Int × Int)
  deriving DecidableEq, Repr, Inhabited

/-- The measurement front end and Whetstone beside their registers (chapter 6). -/
structure Afe where
  groups : List ShadowGrp
  /-- spare lanes held in reserve (R147, R150) -/
  reserve : List Nat
  /-- inputs that deliver their previous value in this frame (R149) -/
  heldIn : List Nat
  /-- inputs and the lanes that serve them from the next tick on (R148); inputs that were given a spare in this frame, with
  its lane (R151) -/
  nextLane : List (Nat × Nat)
  served : List (Nat × Nat)
  /-- converters in service, the longest serving first (R152) -/
  service : List Nat
  /-- converters that retire at the next tick (R153) -/
  retCv : List Nat
  /-- the converter whose inputs keep their previous values in this frame (R153), as its place in service -/
  heldCv : Option Nat
  /-- no converter is left; every channel's safe reaction follows at the next tick (R154) -/
  sarLost : Bool
  /-- the values latched at the last SAMPLE_PHASE as the filters and converters gave them, and as delivered -/
  rawD : List DriveMeas
  rawS : List StepMeas
  drv : List DriveMeas
  stp : List StepMeas
  /-- averages that the slow inputs completed in this frame, to be latched at the next SAMPLE_PHASE (R144) -/
  ain : List (Option Nat)
  /-- offset estimates in 2^−12 Q15 LSB, inputs SD0 to SD39, and those beyond the limit (R146) -/
  est : List Int
  beyond : List Bool
  /-- offset estimates and corrections of the phase-voltage inputs, drive 3n + phase -/
  pvEst : List Int
  pvCor : List Int
  /-- phase-voltage inputs whose estimate lies beyond the limit (R146, R219) -/
  pvBeyond : List Bool
  means : List OffMean
  /-- SYSCLK cycles from the point at which the pulses of each drive, the bridges of each stepper were found off to the last
  tick, negative where that point lies after it; none while they are not off (R145) -/
  offCyc : List (Option Int)
  /-- failing gain checks of each drive, bit per kind (R155, R219) -/
  gainBad : List Nat
  pb : List PowerBal
  /-- the trim tables of R156: Flint-B, SAR reference -/
  tabF : List (Option Int)
  tabS : List (Option Int)
  /-- what Bedrock holds of the two tables and of the offset corrections (R146, R156) -/
  savF : List (Option Int)
  savS : List (Option Int)
  savO : List Int
  /-- phases or windings whose overcurrent verdict stands, channels 0 to 15 (R140) -/
  ocv : List (List Nat)
  /-- per converter: trims in force and trims fitted, offset in 1/16 code and gain in 2^−20, and the drift of its
  reference (R152) -/
  trims : List (Int × Int)
  fits : List (Int × Int)
  drift : List Int
  /-- the first of the four hold capacitors that the rotating converter converts again in this frame (R152) -/
  again : Nat
  deriving DecidableEq, Repr, Inhabited

/-- One channel's loop program and its run-time state (chapter 8). -/
structure Chan where
  prog  : Program
  coefs : List Int
  rt    : List ElemRt
  /-- output words computed in this frame; none where the outputs are held (R26, R53, R209) -/
  outs  : Option (List Int)
  /-- output words last applied, the first output of every instance then, and of a drive u, v_q, v_d and iq* then (R208) -/
  applied : List Int
  appliedOf : List Int
  appliedRef : List Int
  /-- the two checkpoint slots (R206, R208) -/
  slot0 : Option Ckpt
  slot1 : Option Ckpt
  /-- frames in which the channel overran, newest first (R56) -/
  overruns : List Nat
  /-- a move to LP4 was due and could not be made: no further overrun moves the channel (R55) -/
  noMove : Bool
  /-- outer loops hold in degraded mode after overruns (R56) -/
  degraded : Bool
  /-- an overrun in this frame; its checkpoint is not written (R53) -/
  overran : Bool
  /-- a store has saturated in this frame (R195) -/
  sat   : Bool
  /-- input words as last delivered (R36, R372) -/
  ins   : List Int
  /-- the Slalu words among them, after the latched ones: session and word (R357, R368) -/
  slRefs : List (Nat × Nat)
  /-- inputs that failed their tags, with the frames in a row (R374) -/
  inFails : List (Nat × Nat)
  /-- instances whose integrator is preloaded at their next run, with the first output that is to result (R109, R208) -/
  due   : List (Nat × Int)
  deriving DecidableEq, Repr, Inhabited

/-- What LP4 has loaded after a first overrun (R54): the channel, the frame of the overrun, its last good checkpoint. -/
structure Preload where
  c  : Nat
  fn : Nat
  ck : Option Ckpt
  deriving DecidableEq, Repr, Inhabited

/-- A pending takeover: the channels a pair is loading, and the frames until it delivers (R208, R209). -/
structure Loading where
  pair : Nat
  chs  : List Nat
  fr   : Nat
  deriving DecidableEq, Repr, Inhabited

/-- The loop engines beside their registers (chapter 8). -/
structure Le where
  chans : List Chan
  loading : List Loading
  /-- channels that LP4 has loaded after a first overrun (R54) -/
  preload : List Preload
  plans : List (Plan × Bool)
  /-- pairs provisioned for tuning, with the declared cycles of generator and capture (R235) -/
  tuned : List (Nat × Nat × Nat)
  /-- pairs found disagreeing in this frame (R30) -/
  lostNow : List Nat
  /-- tags that fail at the loads of the command that runs (R208, R373); empty between commands -/
  badTags : List LoadTags
  deriving DecidableEq, Repr, Inhabited

/-- An event on its way to the event ring (R423): code, SRC, FRAME_NO, COUNT, coalesced flag and the values that its
record gives. -/
structure Event where
  code : Nat
  src  : Nat
  fn   : Nat
  cnt  : Nat
  coal : Bool
  info : List Int
  deriving DecidableEq, Repr, Inhabited

/-- The event machinery of R424 and the once-per-span limits of single events. -/
structure Evs where
  /-- events of severity 0 to 2 accepted for the ring and not yet written, oldest first -/
  low   : List Event
  /-- the internal queue of severity 3, oldest first -/
  high  : List Event
  /-- events dropped since space was last available; event 0x2105 is due -/
  drops : Nat
  /-- (code, source, FRAME_NO) of the last raise of each limited event -/
  limits : List (Nat × Nat × Nat)
  deriving DecidableEq, Repr, Inhabited

/-- A descriptor that was fetched and whose completion is not yet written (R411, R415). -/
structure Slot where
  tag    : Nat
  op     : Nat
  idx    : Nat
  silent : Bool
  /-- status, FRAME_NO and DETAIL once decided -/
  res    : Option (Nat × Nat × Nat)
  deriving DecidableEq, Repr, Inhabited

/-- A validated host command waiting for its tick (R42): its ring, and the ticks until it applies. -/
structure Waiting where
  ring  : Nat
  ticks : Nat
  cmd   : Instr
  /-- its completion is not written: PERST came between (R404) -/
  mute  : Bool
  deriving DecidableEq, Repr, Inhabited

/-- One ring of R409 beside its registers: the phase bit of the next entry (R410) and the entries written since the
last signal of its vector (R408). -/
structure RingSt where
  phase : Bool
  unsig : Nat
  /-- SYSCLK cycles of whole frames since the first of them was written -/
  age : Nat
  deriving DecidableEq, Repr, Inhabited

/-- A lever of R427: broken, and frames unbroken since. -/
structure Lever where
  broken : Bool
  good   : Nat
  deriving DecidableEq, Repr, Inhabited

/-- The lever start and stop of one drive (R406): SYSCLK cycles inside the dead band unbroken, whether the lever was
outside it at the last judgement, and cycles inside it while in RUN. -/
structure LevDwell where
  inBand : Nat
  ready  : Bool
  inRun  : Nat
  deriving DecidableEq, Repr, Inhabited

/-- The host interface beside its registers (chapter 18). -/
structure HostIf where
  slots : List (List Slot)
  wait  : List Waiting
  /-- the host commands that took effect at the last tick (R43, R44) -/
  atTick : List Instr
  rings : List RingSt
  /-- SYSCLK cycles since the last heartbeat write, counted at ticks (R425) -/
  hbAge : Nat
  levers : List Lever
  dwell : List LevDwell
  /-- SEQ of each telemetry record type and source (R419) -/
  telSeq : List (Nat × Nat × Nat)
  /-- DRIVE and STEPPER records dropped on each telemetry ring since its last entry (R422) -/
  telDrop : List Nat
  /-- records due at the end of this frame, as channels (R420) -/
  telDue : List Nat
  /-- MSI-X vectors 7 and 8 waiting to be signalled -/
  vec7 : Nat
  vec8 : Nat
  deriving DecidableEq, Repr, Inhabited

/-- A transaction of one command ring (chapter 19). -/
structure Txn where
  /-- staged writes in staged order: BAR0 offset (or table word), pointer taken under R436, value -/
  list : List (Nat × Nat × Nat)
  /-- SYSCLK cycles since TXN_BEGIN took effect -/
  age  : Nat
  /-- a TXN_WRITE was refused: INCOMPLETE (R435) -/
  bad  : Bool
  /-- TXN_COMMIT of the transaction took effect and validation runs, with its header -/
  hdr  : Option Hdr
  /-- it rolls back at the next tick (R445) -/
  doom : Bool
  /-- staged writes that F frames have carried to the standby (R443) -/
  carried : Nat
  deriving DecidableEq, Repr, Inhabited

/-- A commit that passed validation and waits for its tick (R440). -/
structure Commit where
  ring  : Nat
  hdr   : Hdr
  ticks : Nat
  list  : List (Nat × Nat × Nat)
  mute  : Bool
  /-- staged writes that F frames have carried to the standby (R443) -/
  carried : Nat
  deriving DecidableEq, Repr, Inhabited

/-- The transactions beside their registers. -/
structure Txns where
  open_ : List Txn
  ready : List Commit
  deriving DecidableEq, Repr, Inhabited

/-- One stepper channel beside its registers (chapter 10). -/
structure Stepper where
  table  : List Int
  /-- shadow duty words of windings A and B, those that stood before the last OUTPUT_PHASE, and the active ones (R239) -/
  shA    : Int
  shB    : Int
  pvA    : Int
  pvB    : Int
  dutyA  : Int
  dutyB  : Int
  /-- both bridges are enabled: Sn_EN active (R237, R244) -/
  en     : Bool
  /-- Sn_EN becomes active, or inactive, at the next OUTPUT_PHASE (R244) -/
  enReq  : Bool
  offReq : Bool
  /-- DEENERGIZE, or a safe reaction's stop, under way -/
  deEn   : Bool
  /-- a shed or fault is to end the channel's pulses at the next OUTPUT_PHASE -/
  shedReq : Bool
  /-- frames since the reference speed became zero, and frames of the fall to HOLD done (R243) -/
  zeroFr : Nat
  fall   : Option Nat
  /-- winding currents of the previous frame, and the frames in a row at or above STALLA (R256, R257) -/
  iA     : Int
  iB     : Int
  stallN : Nat
  /-- homing: 0 none, 1 seeking the stop, 2 backing off (R258, R259) -/
  homing : Nat
  /-- a HOME of this tick waits for the commits (R255) -/
  homeDue : Bool
  /-- frames at HOMESPD, and the distance travelled in 2^−32 microstep (R258) -/
  homeFr : Nat
  homeMs : Nat
  /-- δ in 65,536 units and the sign of v at the last stall; it acts at the next tick -/
  stall  : Option (Int × Int)
  stallDue : Bool
  deriving DecidableEq, Repr, Inhabited

/-- One safe torque off output of Hasp beside HASP_STOSTAT (chapter 14). -/
structure Sto where
  hs      : Bool
  ls      : Bool
  /-- the output needs a MANUAL reset whatever RST says (R324) -/
  manual  : Bool
  /-- a reset pulse rose with no demand present, and none has appeared since (R324) -/
  riseOk  : Bool
  /-- the next test opens the high side (R325, R326) -/
  testHs  : Bool
  /-- an SS1 sequence is under way, with the SYSCLK cycles left of SS1T (R332) -/
  ss1     : Option Nat
  /-- the input that began it (R332, R344) -/
  ss1In   : Nat
  /-- the test slot of this period has been taken (R325) -/
  tested  : Bool
  /-- DEG_TIME of a stuck-closed switch has expired: the output goes to FAULT when it opens (R328) -/
  dead    : Bool
  /-- SYSCLK cycles without a demand, counted at ticks (R324, log entry 35) -/
  quiet   : Nat
  deriving DecidableEq, Repr, Inhabited

/-- A degraded-mode timer of R335: SYSCLK cycles left when running, the channels its class affects, a start that waits
for the next tick, and whether class LANE was started by a stuck line (R337). -/
structure Deg where
  left  : Option Nat
  start : Bool
  chs   : List Nat
  outer : Bool
  deriving DecidableEq, Repr, Inhabited

/-- Hasp's view of one channel: gate-enable removed by a shed, by an SS1 stop, by a safe reaction for good; a safe
reaction under way with the SYSCLK cycles left of STOPMAX, none for an SS1 stop (R336). -/
structure HaspCh where
  shed  : Bool
  ss1   : Bool
  gone  : Bool
  react : Option (Option Nat)
  deriving DecidableEq, Repr, Inhabited

/-- The safety island beside its registers. -/
structure Hasp where
  stos : List Sto
  chs  : List HaspCh
  degs : List Deg
  /-- both channels of input i have been in demand state together since the demand began; its pulse is void -/
  sdiBoth : List Bool
  sdiVoid : List Bool
  /-- run permit and expired receive watchdog of each session as Hasp holds them (R323, R355) -/
  permit : List Bool
  wdOut  : List Bool
  /-- OV3 lines of the drives, TSHUT, the override, a latched demand with its DSRC code, a power-fail demand -/
  ov3    : List Bool
  tshut  : Bool
  latch  : Option Nat
  pfail  : Bool
  /-- the NTC timer expired under the override (R312, R337) -/
  ntcHeld : Bool
  /-- SYSCLK cycles of TP_PERIOD gone by at the last tick (R325, log entry 119) -/
  tpT    : Nat
  deriving DecidableEq, Repr, Inhabited

/-- Tumbler beside its registers (chapter 2): signed phase error in ns, frames in a row within ±50 ns, the corrections
of the last frames (newest first, at most 1,024), the correction of this frame, and the mean kept in HOLDOVER. -/
structure Tick where
  phErr : Int
  inBand : Nat
  corrs : List Int
  corr  : Int
  mean  : Int
  /-- SYSCLK cycles of the frame that ended at the last tick (R50) -/
  ended : Nat
  deriving DecidableEq, Repr, Inhabited

/-- A generator and capture of one pair beside their registers (chapter 9). -/
structure Tuner where
  /-- run j, phase φ, LFSR word, the value v of the last run, and the first run still due -/
  j     : Nat
  phi   : Nat
  lfsr  : Nat
  v     : Int
  /-- captured samples not yet in a record, oldest first, each with its FRAME_NO; samples taken in all -/
  buf   : List (Nat × Int × Int)
  taken : Nat
  /-- frame at which the capture's counting began; last value of signal 0 for the LEVEL trigger -/
  fn0   : Nat
  prev  : Option Int
  /-- signal 0 has crossed LEVEL (R231); the INJ_START that waits for its first run (R415) -/
  cross : Bool
  hdr   : Option Hdr
  /-- samples were dropped since the last record; the capture ends with MOVED; the final record is due -/
  gap   : Bool
  moved : Bool
  final : Bool
  seq   : Nat
  deriving DecidableEq, Repr, Inhabited

/-- The thermal manager beside its registers (chapter 13). -/
structure Thm where
  drvs : List ThmDrv
  /-- frames in a row in which input k was not broken (R296) -/
  good : List Nat
  /-- the frame in which output ownership last changed (R297) -/
  hold : Option Nat
  /-- a qualified change of OVRD_N waiting for the next tick (R311) -/
  ovrd : Option Bool
  /-- stepper stopped at TTRIP and its amplitude factor (R310) -/
  stop : List Bool
  fact : List Int
  deriving DecidableEq, Repr, Inhabited

/-- The Slalu engine beside its registers (chapter 15), per session 0 to 63: the safe bytes of the safety parameter set
(R355), the payload in force and as latched at SAMPLE_PHASE (R357), the data and RUN that the host set (R359), whether a
SEQ_last exists (R354), SYSCLK cycles since the last accepted frame (R353), counted at ticks. -/
structure Sll where
  safe : List (List Byte)
  pay  : List (List Byte)
  lat  : List (List Byte)
  data : List (List Byte)
  run  : List Bool
  seen : List Bool
  age  : List Nat
  /-- of a session bound to Hinge: SYSCLK cycles from the verification that put RST in force to the last tick (R356) -/
  rstAge : List Int
  /-- management session: SEQ of the last verified frame, its payload, SEQ sent, cycles since the last one sent (R364) -/
  mSeq : Option Nat
  mPay : List Byte
  mTx  : Nat
  mAge : Nat
  /-- frames built at this tick for the Slalu section of F (R349) -/
  hinge : List (List Byte)
  deriving DecidableEq, Repr, Inhabited
/-- Ward beside its registers: consecutive frames in which the copies of each FABRIC block disagreed (profile generator,
share logic, thermal manager, Slalu engine), the blocks that disagree in this frame, those that have failed, and the
banks being copied to a spare (R371, R375). -/
structure Ward where
  /-- channels whose safe reaction to a failed block is due at the next tick (R371) -/
  due  : List Nat
  /-- per doubled block (R371): frames in a row in which it disagreed, the blocks that disagree in this frame, those that
  have failed -/
  run  : List Nat
  now  : List Nat
  dead : List Nat
  /-- banks whose contents are being copied to a spare, and banks copied whose spares take their places at the next tick
  (R375) -/
  copy : List Nat
  copied : List Nat
  deriving DecidableEq, Repr, Inhabited
/-- Pair operation beside its registers (chapter 17). -/
structure Mir where
  /-- the newest good F, and whether it came since the last tick -/
  got : Option HingeFrame
  fresh : Bool
  /-- per lane: a good copy came since the last tick, frames in a row without one, retired (R386) -/
  came : List Bool
  lost : List Nat
  dead : List Bool
  /-- F frames in a row without a miss, at most 64, and missing in a row (R394, R395) -/
  good : Nat
  miss : Nat
  /-- READY when the first of the F frames now missing was due, and nothing but the missing frames changed since (R395) -/
  wasReady : Bool
  /-- frame j of the release, frames since the claim while the guard runs, and first gate edges still due (R396) -/
  rel : Option Nat
  guard : Option Nat
  edge : Bool
  /-- writes applied in this module since the last F, and those received that wait for the tick (R392) -/
  applied : List (Nat × Nat × Nat)
  todo : List (Nat × Nat × Nat)
  /-- TXCYC of the last F sent, and the cycle after the tick at which the partner's last start delimiter arrived (R390) -/
  txc : Nat
  rxc : Nat
  deriving DecidableEq, Repr, Inhabited

/-- A transmit buffer of a CAN controller beside its state in CANn_TXSTAT (R459 to R463): its frame, the descriptor's
TAG, REPORT, the staging image, whether it was ACTIVE when bus-off was reached, a CAN_CANCEL that waits for the end of
the attempt (its descriptor, none once PERST_N discards it), and the Slalu frame that follows the one in the attempt. -/
structure TxBuf where
  f      : CanFrame
  tag    : Nat
  report : Bool
  img    : List Byte
  first  : Bool
  cancel : Option (Option Hdr × Bool)
  next   : List CanFrame
  deriving DecidableEq, Repr, Inhabited

/-- An element of a receive FIFO (R457): the frame, PRI, the matching element (255 for none), FRAME_NO, TSCYC, TAGF. -/
structure RxEl where
  f    : CanFrame
  pri  : Bool
  idx  : Nat
  fn   : Nat
  cyc  : Nat
  tagf : Bool
  deriving DecidableEq, Repr, Inhabited

/-- One CAN controller beside its registers (chapter 20): transmit buffers, the two FIFOs, event 0xD004 already raised
per FIFO, the words of the standard and of the extended list in force, and an accepted CAN_SLEEP. -/
structure Can where
  bufs  : List TxBuf
  fifos : List (List RxEl)
  told  : List Bool
  std   : List Nat
  ext   : List Nat
  sleepReq : Bool
  deriving DecidableEq, Repr, Inhabited

/-- One external port of Lode beside its registers (chapter 21): eight egress queues of frames, each with whether it was
counted as too long; the gate control list in force, the list of the cycle in progress (none before the first) and its
entry; event 0xE105 raised in this episode, the frequency beyond ±100 ppm in this one; Pk_PHYRST_N held low and the
SYSCLK cycles since the commit that enabled the port. -/
structure LodePort where
  queues : List (List (EthFrame × Bool))
  list   : List Nat
  run    : List Nat
  ent    : Nat
  unsync : Bool
  ppm    : Bool
  phyLow : Bool
  phyAge : Option Nat
  /-- the neighbour rate ratio of the peer-delay exchange is valid (R483) -/
  pdOk   : Bool
  deriving DecidableEq, Repr, Inhabited

/-- One stream of R484: the sequence number sent, the highest accepted, the 32 last (newest first), SYSCLK cycles since a
frame was accepted and since each port delivered a copy, the port that alone delivers copies with the cycles since its
first such copy, and whether one network is lost. -/
structure CbStream where
  tx   : Nat
  last : Option Nat
  hist : List Bool
  age  : Nat
  pAge : List Nat
  one  : Option (Nat × Nat)
  lost : Bool
  deriving DecidableEq, Repr, Inhabited

/-- Lode beside its registers: ports, forwarding database (MAC, port, SYSCLK cycles since the MAC was seen), streams,
the gPTP time in ns, the servo's rate in 0.001 ppm, and the MDIO transaction that runs (whether it writes). -/
structure Lode where
  ports : List LodePort
  fdb   : List (Nat × Nat × Nat)
  cbs   : List CbStream
  ns    : Rat
  rate  : Int
  mdio  : Option Bool
  deriving DecidableEq, Repr, Inhabited
/-- The clocks beside their registers (chapter 22). -/
structure Clk where
  /-- PLL-S, PLL-P and PLL-N in holdover for want of reference edges (R495) -/
  hold : List Bool
  /-- the last trim count differed by more than PLAUS from a measured bin (R497) -/
  drift : Bool
  /-- temperature of the die sensor nearest Flint-B at the switch, in 0.0625 °C, and SYSCLK cycles of the second that
  CLK_HOLD counts (R499) -/
  swT : Int
  secCyc : Nat
  /-- event 0x0114 was raised in this holdover (R499) -/
  told : Bool
  /-- Tumbler has stopped: PLL-S or PLL-P lost lock (R504) -/
  stop : Bool
  /-- Flint-B is lost as a spare (R502); PLL-N is left off (R504) -/
  fbLost : Bool
  nOff : Bool
  /-- SYSCLK cycles of whole frames since the last two losses of PLL-N's lock (R504) -/
  relocks : List Nat
  /-- XO failed while Flint-B's start-up count ran (R500) -/
  xoWait : Bool
  /-- the real-time clock has a stable clock, and SYSCLK cycles of its second (R490, R505) -/
  rtcRun : Bool
  rtcCyc : Nat
  /-- X32 failed in standby: event 0x0112 follows at the next start-up (R505) -/
  x32Late : Bool
  /-- the trim from the table that Flint-B runs with (R498) -/
  trim : Option Int
  /-- SYSCLK cycles for which XO has passed its check at every judgement since it last failed, at most 10 s (R503) -/
  xoAge : Nat
  deriving DecidableEq, Repr, Inhabited

/-- Supplies, reset and start-up beside their registers (chapter 23). -/
structure Pwr where
  /-- VAULT is powered (R510), and X32STRT as read at its power-on -/
  vault : Bool
  x32strt : Nat
  /-- the last step of R514 that has completed: 0 while the module is off, in standby or held in reset, 8 at Ready -/
  step : Nat
  /-- VMAIN has met START and not fallen to DROPOUT since -/
  vmain : Bool
  /-- the return of VMAIN is enough to end the standby (R527) -/
  auto : Bool
  /-- SYSCLK cycles of the ride-through that runs (R511), counted at ticks -/
  ride : Option Nat
  /-- a system reset waits for RST_N (R521); shut down by TSHUT until it recovers (R315) -/
  held : Bool
  hot : Bool
  /-- V33OUT lies within its window (R558) -/
  v33 : Bool
  /-- causes of the start-up to come, as the bits of PWR_RSTCAUSE -/
  cause : Nat
  /-- XO passed at the end of its delay (R491), and XSTRT as read -/
  xoPass : Bool
  xstrt : Nat
  /-- this start-up follows a KEYSTONE reset (R517); no slot was a candidate in step 2 (R516) -/
  second : Bool
  noImg : Bool
  /-- the decoded image between its verification and the load of the domains -/
  img : Option Image
  /-- PERST_N is low, or the link has been down for 1 ms (R404) -/
  perst : Bool
  deriving DecidableEq, Repr, Inhabited
/-- A histogram of one quantity in the interval (R538): frames per bin, least and greatest value with their FRAME_NO,
frames counted. -/
structure Hist where
  bins : List Nat
  mn : Int
  mnFn : Nat
  mx : Int
  mxFn : Nat
  n : Nat
  deriving DecidableEq, Repr, Inhabited

/-- Strata's interval and the Bedrock engines beside their registers (chapter 24). -/
structure Nvs where
  /-- the 56 drive quantities and the 16 stepper quantities of the live bank -/
  hists : List Hist
  /-- event entries: code, count, FRAME_NO of the first occurrence (R541) -/
  evs   : List (Nat × Nat × Nat)
  evOvf : List Nat
  evFull : Bool
  ovrFr : Nat
  levFr : List Nat
  /-- FRAME_NO and PWR_RTC of the first frame of the interval, and SYSCLK cycles it has run (R537, R539) -/
  fnStart : Nat
  rtcStart : Nat
  cyc : Nat
  /-- ownership in the frame before, held in every frame, changed; PERIOD changed; the interval before was lost (R539,
  R543) -/
  ownWas : Bool
  ownAll : Bool
  ownChg : Bool
  perChg : Bool
  gap : Bool
  /-- a SNAP write that waits for its tick, and one whose tick has come (R537, R545); PERIOD at the last frame (R539) -/
  snap : Bool
  snapNow : Bool
  perEnd : Nat
  /-- the record being written: slot, bytes, severity, RECNO -/
  rec_ : Option (Nat × List Byte × Nat × Nat)
  /-- the transfer that runs: DIR, host address, Bedrock offset, length, and the host's bytes for DIR = 1 (R534); the
  slot whose COMMIT runs (R535) -/
  dma : Option (Bool × Nat × Nat × Nat × List Byte)
  slotOp : Option Nat
  /-- what Bedrock keeps: RECNO, BOOTNO, records dropped by severity (R531) -/
  recno : Nat
  bootno : Nat
  drop : List Nat
  deriving DecidableEq, Repr, Inhabited

/-- What the module sends out: entries written to host memory, interrupts, frames on the buses. The state keeps them
newest first (log entry 6). -/
inductive Output where
  /-- an event-ring entry and its phase bit (R423) -/
  | event (e : Event) (phase : Bool)
  /-- a completion entry: ring, TAG, OPCODE, STATUS, FRAME_NO, DETAIL, CMDIDX, phase (R418) -/
  | completion (ring tag op status fn detail idx : Nat) (phase : Bool)
  /-- a telemetry entry on ring 0 or 1 as its bytes 0 to 63 (R419) -/
  | telemetry (ring : Nat) (bytes : List Byte)
  /-- an MSI-X vector signalled (R408) -/
  | msix (v : Nat)
  /-- a CAN frame on controller k (R461) -/
  | can (k : Nat) (f : CanFrame)
  /-- an Ethernet frame from external port p (R475) -/
  | eth (p : Nat) (f : EthFrame)
  /-- a Hinge frame sent on both lanes (R387) -/
  | hinge (f : HingeFrame)
  /-- bytes written to host memory by a Bedrock transfer (R534) -/
  | hostMem (addr : Nat) (bytes : List Byte)
  /-- a management transaction of R473: clause, write, PHYAD, REG, data -/
  | mdio (c45 wr : Bool) (phy reg data : Nat)
  deriving DecidableEq, Repr, Inhabited

/-- Everything the block holds but the Bedrock store and the queue of commands. -/
structure Blk where
  /-- the BAR0 registers: (offset, word) pairs, offsets rising, no entry equal to its reset word -/
  regs : List (Nat × Word)
  /-- the latched high words of R10: FRAME_NO, SYS_UID, AFE_LRET, AFE_STUCK, LODE_PTPNS; none before the low word is
  read -/
  latch : List (Option Word)
  tick : Tick
  evs : Evs
  out : List Output
  host : HostIf
  txns : Txns
  drvs : List Drive
  seqs : List Seq
  dcl : List DcLink
  thm : Thm
  stps : List Stepper
  axes : List Axis
  ports : List Port
  afe : Afe
  le : Le
  tuns : List Tuner
  shr : List ShrGrp
  hasp : Hasp
  sll : Sll
  ward : Ward
  mir : Mir
  cans : List Can
  lode : Lode
  clk : Clk
  pwr : Pwr
  nvs : Nvs
  /-- the counter of free values (log entry 10): no rule of the manual, no statement rests on its value -/
  freeCtr : Nat
  deriving DecidableEq, Repr, Inhabited

/-- The state of the machine. -/
structure State where
  blk : Blk
  /-- the bytes of Bedrock that differ from 0, addresses rising (R531) -/
  mem : List Host.Cell
  /-- the commands waiting, first in, first out -/
  pending : List Instr
  deriving DecidableEq, Repr, Inhabited

/-- An empty histogram. -/
def Hist.empty : Hist := ⟨List.replicate 32 0, 0, 0, 0, 0, 0⟩

/-- Strata and Bedrock engines with nothing accumulated. -/
def Nvs.empty : Nvs where
  hists := List.replicate 72 Hist.empty
  evs := []
  evOvf := [0, 0, 0, 0]
  evFull := false
  ovrFr := 0
  levFr := List.replicate 8 0
  fnStart := 0
  rtcStart := 0
  cyc := 0
  ownWas := false
  ownAll := true
  ownChg := false
  perChg := false
  gap := false
  snap := false
  snapNow := false
  perEnd := 0
  rec_ := none
  dma := none
  slotOp := none
  recno := 0
  bootno := 0
  drop := [0, 0, 0, 0]

/-- The drive state at reset: every leg at duty 0 (DESIGN CHOICE, log entry 38, as every value of this file that stands
beside the registers and for which the manual gives no reset value). -/
def Drive.cold : Drive :=
  { (default : Drive) with
    shadow := List.replicate 3 default, active := List.replicate 3 default, prev := List.replicate 3 default
    grdyAge := [0, 0, 0] }

/-- The thermal state of a drive at reset. -/
def ThmDrv.cold : ThmDrv := { (default : ThmDrv) with a := List.replicate 4 0, dT := List.replicate 12 0 }

/-- A share group at reset. -/
def ShrGrp.cold : ShrGrp :=
  { (default : ShrGrp) with
    k := List.replicate 4 0, c := List.replicate 4 0, dev := List.replicate 4 0, noEx := List.replicate 4 0
    okEx := List.replicate 4 0, iq := List.replicate 4 0, inUse := List.replicate 4 0, droop := List.replicate 4 0 }

/-- The front end at reset: no shadow group yet, every correction 0. -/
def Afe.cold : Afe :=
  { (default : Afe) with
    service := [], est := List.replicate 40 0, beyond := List.replicate 40 false, pvEst := List.replicate 24 0
    pvCor := List.replicate 24 0, means := List.replicate 8 default, offCyc := List.replicate 16 none
    gainBad := List.replicate 8 0, tabF := List.replicate 64 none, tabS := List.replicate 64 none
    savF := List.replicate 64 none, savS := List.replicate 64 none, savO := List.replicate 56 0
    pvBeyond := List.replicate 24 false, pb := List.replicate 8 default, ain := List.replicate 24 none
    trims := List.replicate 3 (0, 0), fits := List.replicate 3 (0, 0), drift := List.replicate 3 0
    ocv := List.replicate 16 [], rawD := List.replicate 8 default, rawS := List.replicate 8 default
    drv := List.replicate 8 default, stp := List.replicate 8 default }

/-- A transmit buffer and a CAN controller at reset. -/
def TxBuf.cold : TxBuf := { (default : TxBuf) with img := List.replicate 64 0 }

/-- A CAN controller at reset: empty lists and buffers. -/
def Can.cold : Can :=
  ⟨List.replicate 3 TxBuf.cold, [[], []], [false, false], List.replicate 128 0, List.replicate 128 0, false⟩

/-- A Lode port at reset: Pk_PHYRST_N held low (R480). -/
def LodePort.cold : LodePort :=
  { (default : LodePort) with
    queues := List.replicate 8 [], list := List.replicate 64 0, phyLow := true }

/-- The Slalu engine at reset: nothing loaded. -/
def Sll.cold : Sll :=
  { safe := List.replicate 64 [], pay := List.replicate 64 [], lat := List.replicate 64 [],
    data := List.replicate 64 (List.replicate 48 0), run := List.replicate 64 false, seen := List.replicate 64 false,
    age := List.replicate 64 0, rstAge := List.replicate 64 0, mSeq := none, mPay := [], mTx := 0, mAge := 0, hinge := [] }

/-- Hasp at reset: every output open, no permit. -/
def Hasp.cold : Hasp :=
  { stos := List.replicate 4 default, chs := List.replicate 16 default, degs := List.replicate 8 default,
    sdiBoth := List.replicate 8 false, sdiVoid := List.replicate 8 false, permit := List.replicate 64 false,
    wdOut := List.replicate 64 false, ov3 := List.replicate 8 false, tshut := false, latch := none, pfail := false,
    ntcHeld := false, tpT := 0 }

/-- The thermal manager at reset. -/
def Thm.cold : Thm :=
  ⟨List.replicate 8 ThmDrv.cold, List.replicate 16 0, none, none, List.replicate 8 false, List.replicate 8 32768⟩

/-- The host interface at reset: the first pass of every ring has phase 1 (R410). -/
def HostIf.cold : HostIf :=
  { slots := List.replicate 4 [], wait := [], atTick := [], rings := List.replicate 11 ⟨true, 0, 0⟩, hbAge := 0,
    levers := List.replicate 4 default, dwell := List.replicate 8 default, telSeq := [], telDrop := [0, 0],
    telDue := [], vec7 := 0, vec8 := 0 }

/-- The clocks with nothing running. -/
def Clk.cold : Clk := { (default : Clk) with hold := [false, false, false] }

/-- The sine table of R242: what a stepper's table holds at reset. -/
def sineTable : List Int := sineQ0 ++ sineQ1 ++ sineQ2 ++ sineQ3

/-- The block before any supply: every register at its reset word, nothing listed, nothing running. -/
def Blk.cold : Blk where
  regs := []
  latch := List.replicate 5 none
  tick := default
  evs := default
  out := []
  host := HostIf.cold
  txns := ⟨List.replicate 4 default, []⟩
  drvs := List.replicate 8 Drive.cold
  seqs := List.replicate 8 default
  dcl := List.replicate 8 default
  thm := Thm.cold
  stps := List.replicate 8 { (default : Stepper) with table := sineTable }
  axes := List.replicate 16 default
  ports := List.replicate 12 default
  afe := Afe.cold
  le := { (default : Le) with chans := List.replicate 16 default }
  tuns := List.replicate 5 default
  shr := List.replicate 4 ShrGrp.cold
  hasp := Hasp.cold
  sll := Sll.cold
  ward := default
  mir := { (default : Mir) with came := [false, false], lost := [0, 0], dead := [false, false] }
  cans := List.replicate 4 Can.cold
  lode := { (default : Lode) with
    ports := List.replicate 2 LodePort.cold
    cbs := List.replicate 32 { (default : CbStream) with hist := List.replicate 32 false, pAge := [0, 0] } }
  clk := Clk.cold
  pwr := default
  nvs := Nvs.empty
  freeCtr := 0

/-- Why a command stops the machine. -/
inductive Fault where
  /-- raised by no command: every row of the table has an effect, or leaves the state as it is, by the manual; the
  constructor keeps the type of faults inhabited (safe) -/
  | noEffect
  deriving DecidableEq, Repr, Inhabited

/-- Why a command is refused. -/
inductive Refusal where
  /-- raised by an arm of the dispatch whose command has no meaning in the model yet (safe: the machine stops) -/
  | notModelled (mnemonic : String)
  deriving DecidableEq, Repr, Inhabited

/-- The machine at reset: no supply yet, every register at its reset word, no command waiting (log entry 38 says how
the module comes to run from here). -/
def State.reset : State := ⟨Blk.cold, [], []⟩

end Sys2Proof.Machine
end

