-- ==== Sys2Proof/Machine/Ops.lean ====
section
/-! DEFINITION. The named operations over the state: the register file, FRAME_NO and times, the units by index, events
(R15 to R19, R424), completions (R415 to R418), requests of the fault ladder. -/

namespace Sys2Proof.Machine

/-- The word listed for an offset. -/
def regFind : List (Nat × Word) → Nat → Option Word
  | [], _ => none
  | e :: m, a => if e.1 = a then some e.2 else regFind m a

/-- The register file without an offset. -/
def regDrop (m : List (Nat × Word)) (a : Nat) : List (Nat × Word) := m.filter (fun e => e.1 != a)

/-- A word put at its place in a rising list that does not hold its offset. -/
def regIns (a : Nat) (w : Word) : List (Nat × Word) → List (Nat × Word)
  | [] => [(a, w)]
  | e :: m => if a < e.1 then (a, w) :: e :: m else e :: regIns a w m

/-- The register file with a word written; a word equal to its reset value is not listed. -/
def regSet (m : List (Nat × Word)) (a : Nat) (w : Word) : List (Nat × Word) :=
  if w = resetWord a then regDrop m a else regIns a w (regDrop m a)

/-- The word at an offset. -/
def Blk.word (b : Blk) (a : Nat) : Word := (regFind b.regs a).getD (resetWord a)

/-- Write the word at an offset: the one operation that changes a register. -/
def Blk.setWord (b : Blk) (a : Nat) (w : Word) : Blk := { b with regs := regSet b.regs a w }

/-- Read a field. -/
def Blk.rd (b : Blk) (f : Fld) : Nat := f.get (b.word f.off)

/-- Read a field as two's complement. -/
def Blk.rdS (b : Blk) (f : Fld) : Int := signed f.w (b.rd f)

/-- Read a one-bit field. -/
def Blk.on (b : Blk) (f : Fld) : Bool := b.rd f != 0

/-- Write a field. -/
def Blk.wr (b : Blk) (f : Fld) (v : Nat) : Blk := b.setWord f.off (f.put (b.word f.off) v)

/-- Write a field with a signed value, saturating to the field. -/
def Blk.wrS (b : Blk) (f : Fld) (v : Int) : Blk :=
  b.wr f (unsigned f.w (satI v (-(2 ^ (f.w - 1))) (2 ^ (f.w - 1) - 1)))

/-- Write a one-bit field. -/
def Blk.flag (b : Blk) (f : Fld) (v : Bool) : Blk := b.wr f (b2n v)

/-- Write a field with a value cut to its largest. -/
def Blk.wrSat (b : Blk) (f : Fld) (v : Nat) : Blk := b.wr f (min v f.top)

/-- Add to a saturating counter. -/
def Blk.add (b : Blk) (f : Fld) (n : Nat) : Blk := b.wrSat f (b.rd f + n)

/-- Count one in a saturating counter. -/
def Blk.inc (b : Blk) (f : Fld) : Blk := b.add f 1

/-- One bit of a field that holds a bit per unit. -/
def bitOf (f : Fld) (i : Nat) : Fld := ⟨f.off, f.lo + i, 1⟩

/-- `n` bits of a field per unit. -/
def sliceOf (f : Fld) (i n : Nat) : Fld := ⟨f.off, f.lo + i * n, n⟩

/-- A fold over unit numbers 0 to n − 1. -/
def Blk.each (b : Blk) (n : Nat) (f : Nat → Blk → Blk) : Blk := (List.range n).foldl (fun b i => f i b) b

/-- A fold over a list of unit numbers. -/
def Blk.eachOf (b : Blk) (l : List Nat) (f : Nat → Blk → Blk) : Blk := l.foldl (fun b i => f i b) b

/-- Do something only under a condition. -/
def Blk.when (b : Blk) (c : Bool) (f : Blk → Blk) : Blk := if c then f b else b

/-- Whether a power domain is powered (R20, PWR_DOMSTAT). -/
def Blk.powered (b : Blk) (d : Dom) : Bool := b.on (bitOf R.PWR_DOMSTAT_ON d.bit)

/-- FRAME_NO (R48). -/
def Blk.fn (b : Blk) : Nat := b.rd R.TICK_FRAME_NO_LO_FN_LO + 2 ^ 32 * b.rd R.TICK_FRAME_NO_HI_FN_HI

/-- Set FRAME_NO, modulo 2^48. -/
def Blk.setFn (b : Blk) (v : Nat) : Blk :=
  (b.wr R.TICK_FRAME_NO_LO_FN_LO v).wr R.TICK_FRAME_NO_HI_FN_HI (v / 2 ^ 32)

/-- The frame period in SYSCLK cycles (R33). -/
def Blk.period (b : Blk) : Nat := b.rd R.TICK_PERIOD_PERIOD

/-- SYSCLK cycles of the frame that runs: the period and the correction of this frame (R50). -/
def Blk.frameLen (b : Blk) : Nat := (Int.ofNat b.period + b.tick.corr).toNat

/-- Ticks are generated: FABRIC powered, start-up complete, SYSCLK running (R42, R504, R517). -/
def Blk.ticks (b : Blk) : Bool := b.powered .fabric && b.pwr.step == 8 && !b.clk.stop

/-- A timer that Hasp counts on Flint-A, with `left` cycles at the last tick, can run out before the next tick, or has no
tick to show how far it is (R323, R332, R336). -/
def Blk.ranOut (b : Blk) (left : Nat) : Bool := !b.ticks || decide (left ≤ b.period)

/-- SYSCLK cycles in a millisecond. -/
def cycPerMs : Nat := 400000

/-- Frames that a time in ms lasts: ceil(t / T_frame). -/
def Blk.msFrames (b : Blk) (ms : Nat) : Nat := ceilDiv (ms * cycPerMs) b.period

def Blk.drv (b : Blk) (n : Nat) : Drive := b.drvs.getD n default
def Blk.seq (b : Blk) (n : Nat) : Seq := b.seqs.getD n default
def Blk.dc (b : Blk) (n : Nat) : DcLink := b.dcl.getD n default
def Blk.stp (b : Blk) (n : Nat) : Stepper := b.stps.getD n default
def Blk.axis (b : Blk) (a : Nat) : Axis := b.axes.getD a default
def Blk.port (b : Blk) (p : Nat) : Port := b.ports.getD p default
def Blk.chan (b : Blk) (c : Nat) : Chan := b.le.chans.getD c default
def Blk.tun (b : Blk) (k : Nat) : Tuner := b.tuns.getD k default
def Blk.grp (b : Blk) (g : Nat) : ShrGrp := b.shr.getD g default
def Blk.sto (b : Blk) (k : Nat) : Sto := b.hasp.stos.getD k default
def Blk.hch (b : Blk) (c : Nat) : HaspCh := b.hasp.chs.getD c default

def Blk.onDrv (b : Blk) (n : Nat) (f : Drive → Drive) : Blk := { b with drvs := b.drvs.modify n f }
def Blk.onSeq (b : Blk) (n : Nat) (f : Seq → Seq) : Blk := { b with seqs := b.seqs.modify n f }
def Blk.onDc (b : Blk) (n : Nat) (f : DcLink → DcLink) : Blk := { b with dcl := b.dcl.modify n f }
def Blk.onStp (b : Blk) (n : Nat) (f : Stepper → Stepper) : Blk := { b with stps := b.stps.modify n f }
def Blk.onAxis (b : Blk) (a : Nat) (f : Axis → Axis) : Blk := { b with axes := b.axes.modify a f }
def Blk.onPort (b : Blk) (p : Nat) (f : Port → Port) : Blk := { b with ports := b.ports.modify p f }
def Blk.onChan (b : Blk) (c : Nat) (f : Chan → Chan) : Blk :=
  { b with le := { b.le with chans := b.le.chans.modify c f } }
def Blk.onTun (b : Blk) (k : Nat) (f : Tuner → Tuner) : Blk := { b with tuns := b.tuns.modify k f }
def Blk.onGrp (b : Blk) (g : Nat) (f : ShrGrp → ShrGrp) : Blk := { b with shr := b.shr.modify g f }
def Blk.onSto (b : Blk) (k : Nat) (f : Sto → Sto) : Blk :=
  { b with hasp := { b.hasp with stos := b.hasp.stos.modify k f } }
def Blk.onHch (b : Blk) (c : Nat) (f : HaspCh → HaspCh) : Blk :=
  { b with hasp := { b.hasp with chs := b.hasp.chs.modify c f } }
def Blk.onAfe (b : Blk) (f : Afe → Afe) : Blk := { b with afe := f b.afe }
def Blk.onHost (b : Blk) (f : HostIf → HostIf) : Blk := { b with host := f b.host }

/-- A fresh free value (log entry 10): the counter it is drawn at, and the state that has moved on. -/
def Blk.free (b : Blk) : Nat × Blk := (b.freeCtr, { b with freeCtr := b.freeCtr + 1 })

/-- Send something out of the module. -/
def Blk.send (b : Blk) (o : Output) : Blk := { b with out := o :: b.out }

/-- The severity of an event code (R15). -/
def severity (code : Nat) : Nat := code / 256 % 16

/-- The block class of an event code (R16). -/
def evClass (code : Nat) : Nat := code / 4096

/-- Size of ring q in entries, 2^LOG2SIZE (R409). -/
def Blk.ringSize (b : Blk) (q : Nat) : Nat := 2 ^ b.rd (R.RING_CTL_LOG2SIZE q)

/-- Entries between two indexes counted modulo 2 × size (R409). -/
def ringDist (size hi lo : Nat) : Nat := (hi + 2 * size - lo % (2 * size)) % (2 * size)

/-- Ring q runs: enabled and not halted, and the HOST domain is up. -/
def Blk.ringRuns (b : Blk) (q : Nat) : Bool :=
  b.powered .host && b.on (R.RING_CTL_EN q) && b.rd (R.RING_STAT_STATE q) == 1

/-- Free entries of a ring that the module writes, by the last consumer index the host wrote (R411). -/
def Blk.ringSpace (b : Blk) (q : Nat) : Nat :=
  if b.ringRuns q then
    b.ringSize q - ringDist (b.ringSize q) (b.rd (R.RING_IDX_MOD q)) (b.rd (R.RING_IDX_HOST q))
  else 0

/-- The newest entry of the lowest severity below 3 in Strata's event list, as its place (R541). -/
def victim (l : List (Nat × Nat × Nat)) : Option Nat :=
  let sev := (l.map (fun e => severity e.1)).foldl min 3
  if sev = 3 then none
  else (List.range l.length).foldl (fun r i => if severity (l.getD i (0, 0, 0)).1 = sev then some i else r) none

/-- Strata's count of an event for the current interval (R18, R541). -/
def Nvs.noteEvent (x : Nvs) (code fn : Nat) : Nvs :=
  let s := severity code
  if x.evs.any (fun e => e.1 == code) then
    { x with evs := x.evs.map (fun e => if e.1 = code then (e.1, min (e.2.1 + 1) (2 ^ 32 - 1), e.2.2) else e) }
  else if x.evs.length < 32 then { x with evs := x.evs ++ [(code, 1, fn)] }
  else match (if s = 3 then victim x.evs else none) with
    | some i =>
      let o := x.evs.getD i (0, 0, 0)
      { x with evs := x.evs.eraseIdx i ++ [(code, 1, fn)], evFull := true,
               evOvf := x.evOvf.modify (severity o.1) (fun c => min (c + o.2.1) 65535) }
    | none => { x with evFull := true, evOvf := x.evOvf.modify s (fun c => min (c + 1) 65535) }

/-- Event 0x2105 for what was dropped takes its place once the ring has space again (R424). -/
def Blk.noteDrops (b : Blk) : Blk :=
  if b.evs.drops ≠ 0 ∧ b.evs.low.length < b.ringSpace 10 then
    let x := b.nvs.noteEvent 0x2105 b.fn
    let full := x.evFull && !b.nvs.evFull
    let more := if full && decide (b.rd (sliceOf R.HIF_EVFILT_MIN 15 2) ≤ 1) then [⟨0xF107, 0, b.fn, 1, false, []⟩] else []
    { b with evs := { b.evs with drops := 0, low := b.evs.low ++ ⟨0x2105, 0, b.fn, 1, false, [Int.ofNat b.evs.drops]⟩ :: more }
             nvs := if full then x.noteEvent 0xF107 b.fn else x }
  else b

/-- Queue an event of severity 0 to 2 that the filter admits: dropped and counted where the ring has no space (R424). -/
def Blk.queueLow (b : Blk) (e : Event) : Blk :=
  if b.ringSpace 10 ≤ b.evs.low.length then
    { b.inc R.HIF_EVDROP_COUNT with evs := { b.evs with drops := b.evs.drops + 1 } }
  else { b with evs := { b.evs with low := b.evs.low ++ [e] } }

/-- Queue an event for the ring (R424): severity 3 in the internal queue with coalescing, the rest if the filter of
its class admits it and the ring has space, else dropped and counted. Events of start-up wait for the ring to be
enabled (R519). -/
def Blk.queueEvent (b : Blk) (e : Event) : Blk :=
  if severity e.code = 3 then
    if b.evs.high.any (fun x => x.code == e.code && x.src == e.src) then
      { b with evs := { b.evs with high := b.evs.high.map (fun x =>
          if x.code = e.code ∧ x.src = e.src then { x with cnt := min (x.cnt + 1) 65535, coal := true } else x) } }
    else { b with evs := { b.evs with high := b.evs.high ++ [e] } }
  else if severity e.code < b.rd (sliceOf R.HIF_EVFILT_MIN (evClass e.code) 2) then b
  else if b.pwr.step < 8 then { b with evs := { b.evs with low := b.evs.low ++ [e] } }
  else b.noteDrops.queueLow e

/-- Strata's count of an event, and event 0xF107 once per interval when the list is full (R541). -/
def Blk.strataEvent (b : Blk) (code fn : Nat) : Blk :=
  let x := b.nvs.noteEvent code fn
  if x.evFull && !b.nvs.evFull then
    Blk.queueEvent { b with nvs := x.noteEvent 0xF107 fn } ⟨0xF107, 0, fn, 1, false, []⟩
  else { b with nvs := x }

/-- Raise an event from a source with the values its record gives (R15 to R19). -/
def Blk.raise (b : Blk) (code src : Nat) (info : List Int := []) : Blk :=
  (b.strataEvent code b.fn).queueEvent ⟨code, src, b.fn, 1, false, info⟩

/-- Note the FRAME_NO at which a limited event was raised. -/
def Blk.noteLim (b : Blk) (code src : Nat) : Blk :=
  { b with evs := { b.evs with
      limits := (code, src, b.fn) :: b.evs.limits.filter (fun y => !(y.1 == code && y.2.1 == src)) } }

/-- Raise an event at most once per `span` frames and source. -/
def Blk.raiseKey (b : Blk) (span code src key : Nat) (info : List Int) : Blk :=
  match b.evs.limits.find? (fun x => x.1 == code && x.2.1 == key) with
  | some x => if b.fn < x.2.2 + span then b else (b.raise code src info).noteLim code key
  | none => (b.raise code src info).noteLim code key

/-- The same where the source is what the limit is kept for. -/
def Blk.raiseLim (b : Blk) (span code src : Nat) (info : List Int := []) : Blk := b.raiseKey span code src src info

/-- The first slot of a list that waits for the completion of TAG and OPCODE takes it; none found, the completion is
its own slot (the command came as a row of its own). -/
def decideSlot (tag op : Nat) (silent : Bool) (idx : Nat) (r : Nat × Nat × Nat) : List Slot → List Slot
  | [] => [⟨tag, op, idx, silent, some r⟩]
  | s :: l =>
    if s.tag = tag ∧ s.op = op ∧ s.res = none then { s with res := some r } :: l
    else s :: decideSlot tag op silent idx r l

/-- Decide the completion of a command with the FRAME_NO that it carries (R45, R416, R418). -/
def Blk.completeAt (b : Blk) (fn : Nat) (h : Hdr) (op status detail : Nat) : Blk :=
  let put := decideSlot h.tag.toNat op h.silent (b.rd (R.RING_IDX_MOD h.ring.val)) (status, fn, detail)
  b.onHost (fun x => { x with slots := x.slots.modify h.ring.val put })

/-- Decide the completion of a command (R416, R418): status, FRAME_NO in force, DETAIL. -/
def Blk.complete (b : Blk) (h : Hdr) (op status : Nat) (detail : Nat := 0) : Blk := b.completeAt b.fn h op status detail

/-- Completion OK. -/
def Blk.ok (b : Blk) (h : Hdr) (op : Nat) : Blk := b.complete h op 0x00

/-- Completion REFUSED with a DETAIL. -/
def Blk.refuse (b : Blk) (h : Hdr) (op detail : Nat) : Blk := b.complete h op 0x02 detail

/-- Header and OPCODE of a command that a descriptor carries (R417). -/
def hostHdr (i : Instr) : Option (Hdr × Nat) :=
  match i with
  | .start h _ => some (h, 0x02)
  | .drvStop h _ _ => some (h, 0x03)
  | .setSpeed h _ _ => some (h, 0x04)
  | .setTorque h _ _ => some (h, 0x05)
  | .coefWrite h _ _ _ => some (h, 0x06)
  | .leverSelect h _ _ => some (h, 0x07)
  | .bridgeResume h _ => some (h, 0x08)
  | .nop h => some (h, 0x00)
  | .energize h _ => some (h, 0x10)
  | .deenergize h _ => some (h, 0x11)
  | .move h _ _ _ _ _ _ _ => some (h, 0x12)
  | .axisStop h _ => some (h, 0x13)
  | .resume h _ => some (h, 0x14)
  | .moveFlush h _ => some (h, 0x15)
  | .home h _ => some (h, 0x16)
  | .injStart h _ => some (h, 0x20)
  | .injStop h _ => some (h, 0x21)
  | .capStart h _ => some (h, 0x22)
  | .capStop h _ => some (h, 0x23)
  | .supClear h _ => some (h, 0x24)
  | .brkClear h _ => some (h, 0x25)
  | .sllTxdata h _ _ _ _ _ => some (h, 0x30)
  | .pairHandover h => some (h, 0x38)
  | .txnBegin h => some (h, 0x40)
  | .txnWrite h _ _ => some (h, 0x41)
  | .txnCommit h => some (h, 0x42)
  | .txnRollback h => some (h, 0x43)
  | .canTx h _ _ _ _ _ _ => some (h, 0x50)
  | .canStage h _ _ _ _ _ => some (h, 0x51)
  | .canCancel h _ _ _ => some (h, 0x52)
  | .canSleep h _ => some (h, 0x53)
  | .canWake h _ => some (h, 0x54)
  | _ => none

/-- Ring, TAG and OPCODE of a host command that a later one of the same tick can override. -/
def overridable (i : Instr) : Option (Nat × Nat × Nat) :=
  match i with
  | .start h _ => some (h.ring.val, h.tag.toNat, 0x02)
  | .setSpeed h _ _ => some (h.ring.val, h.tag.toNat, 0x04)
  | .setTorque h _ _ => some (h.ring.val, h.tag.toNat, 0x05)
  | .coefWrite h _ _ _ => some (h.ring.val, h.tag.toNat, 0x06)
  | .leverSelect h _ _ => some (h.ring.val, h.tag.toNat, 0x07)
  | .energize h _ => some (h.ring.val, h.tag.toNat, 0x10)
  | .move h _ _ _ _ _ _ _ => some (h.ring.val, h.tag.toNat, 0x12)
  | .resume h _ => some (h.ring.val, h.tag.toNat, 0x14)
  | .injStart h _ => some (h.ring.val, h.tag.toNat, 0x20)
  | .capStart h _ => some (h.ring.val, h.tag.toNat, 0x22)
  | _ => none

/-- A completion given at this tick to a command that took effect, or that takes it at the next one (R45). -/
def takenAt (fn : Nat) : Option (Nat × Nat × Nat) → Bool
  | some (st, f, 0) => (st == 0 || st == 8) && (f == fn || f == fn + 1)
  | _ => false

/-- A command that took effect at this tick completes as SUPERSEDED (R44): an injection whose INJ_START still waits for
its first run too (R415). -/
def Blk.supersede (b : Blk) (i : Instr) : Blk :=
  match i with
  | .injStart h k =>
    if (b.tun k.val).hdr = some h then (b.complete h 0x20 0x01).onTun k.val (fun t => { t with hdr := none }) else b
  | _ => match overridable i with
    | some (r, t, o) =>
      let fn := b.fn
      b.onHost (fun x => { x with slots := x.slots.modify r (fun l => l.map (fun s =>
        if s.tag = t ∧ s.op = o ∧ takenAt fn s.res = true then { s with res := some (1, fn, 0) } else s)) })
    | none => b

/-- The host commands of this tick that a later change of the same tick overrides complete as SUPERSEDED (R43, R44): a
commit, or a change that the module decides itself. -/
def Blk.supersedeAt (b : Blk) (p : Instr → Bool) : Blk := (b.host.atTick.filter p).foldl (fun b i => b.supersede i) b

/-- Host commands in flight at a takeover complete as SUPERSEDED (R365, R398, log entry 8); a muted one writes nothing. -/
def Blk.dropInFlight (b : Blk) : Blk :=
  b.host.wait.foldl (fun b w =>
    match hostHdr w.cmd with
    | some (h, op) => if w.mute then b else b.complete h op 0x01
    | none => b) (b.onHost (fun x => { x with wait := [] }))

/-- Channel c of the sixteen is configured: Dn_CFG.EN for a drive, Sn_CFG.EN for a stepper. -/
def Blk.configured (b : Blk) (c : Nat) : Bool :=
  if c < 8 then b.on (R.Dn_CFG_EN c) else b.on (R.Sn_CFG_EN (c - 8))

/-- ROLE of R381: 0 SOLO, 1 SYNCING, 2 READY, 3 ACTIVE, 4 NOTREADY, 5 LOST. -/
def Blk.role (b : Blk) : Nat := b.rd R.MIR_STAT_ROLE

/-- The module is a standby. -/
def Blk.standby (b : Blk) : Bool := b.role == 1 || b.role == 2 || b.role == 4

/-- Channel c is configured and paired (R383). -/
def Blk.pairedCh (b : Blk) (c : Nat) : Bool := b.configured c && b.on (bitOf R.MIR_CHMAP_PAIRED c)

/-- What the newest good F says of channel c, as long as its frames are computed in shadow: in a standby, and until the
guard of a takeover ends (R391, R396). -/
def Blk.shadowOf (b : Blk) (c : Nat) : Option HingeChan :=
  if (b.standby || b.mir.guard.isSome) && b.pairedCh c then
    match b.mir.got with
    | some f => f.chans.find? (fun x => x.c == c)
    | none => none
  else none

/-- A command whose target channel is not configured completes as BADTARGET (R414, R416). -/
def Blk.forTarget (b : Blk) (h : Hdr) (op c : Nat) (f : Blk → Blk) : Blk :=
  if b.configured c then f b else b.complete h op 0x06

/-- PSTATE of a drive: 0 BLOCKED, 1 RUN, 2 ASC, 3 TRIP_OFF, 4 TRIP_ASC, 5 RELEASED (R74). -/
def Blk.pstate (b : Blk) (n : Nat) : Nat := b.rd (R.Dn_STAT_PSTATE n)

/-- SSTATE of a drive: 0 IDLE, 1 CATCH, 2 WAIT, 3 BRAKE, 4 ALIGN, 5 IFSTART, 6 CLOSED (R131). -/
def Blk.sstate (b : Blk) (n : Nat) : Nat := b.rd (R.Dn_SSTAT_SSTATE n)

/-- PSTATE as the loops and the sequencer of drive n run it: of a shadow, the active module's (R391). -/
def Blk.runState (b : Blk) (n : Nat) : Nat :=
  match b.shadowOf n with
  | some x => x.pstate
  | none => b.pstate n

/-- SSTATE as the loops and the sequencer of drive n run it (R391). -/
def Blk.stage (b : Blk) (n : Nat) : Nat :=
  match b.shadowOf n with
  | some x => x.sstate
  | none => b.sstate n

/-- SSTATE of a stepper: 0 OFF, 1 HOLD, 2 MOVE, 3 FAULT, 4 RELEASED (R244). -/
def Blk.stpState (b : Blk) (n : Nat) : Nat := b.rd (R.Sn_STAT_SSTATE n)

/-- Hasp's gate-enable of channel c is present (HASP_GEN). -/
def Blk.gateEn (b : Blk) (c : Nat) : Bool := b.on (bitOf R.HASP_GEN_EN c)

/-- The module holds output ownership of channel c. -/
def Blk.owns (b : Blk) (c : Nat) : Bool :=
  if c < 8 then b.on (R.Dn_STAT_OWN c) else b.on (R.Sn_STAT_OWN (c - 8))

/-- The drive runs sensorless: SENS = 0, or a start or fallback that does not use the port (R111, R118). -/
def Blk.sensorless (b : Blk) (n : Nat) : Bool :=
  !b.on (R.Dn_CMODE_SENS n) || (b.seq n).asSens || b.on (R.Dn_SUPSTAT_FALL n)

/-- 1.25 × CATCH_MIN rounded up, Q15 of SPD_FS (R112). -/
def Blk.catchFloor (b : Blk) (n : Nat) : Nat := (5 * b.rd (R.Dn_START_CATCH_MIN n) + 3) / 4

/-- The ramp output of a drive as Q15 (R87, RAMP of R198). -/
def rampQ15 (rs : Int) : Int := (rs + 256) / 512

/-- The ramp output of drive n, Q15. -/
def Blk.rampOut (b : Blk) (n : Nat) : Int := rampQ15 (b.drv n).ramp

/-- Ask for a pulse block at the next OUTPUT_PHASE (R74). -/
def Blk.reqBlock (b : Blk) (n : Nat) : Blk := b.onDrv n (fun d => { d with reqBlock := true })

/-- Start the degraded-mode timer of class `c` at the next tick for some channels (R29, R335). A running timer is not
restarted; the channels join those it affects. -/
def Blk.degrade (b : Blk) (cls : Nat) (chs : List Nat) (outer : Bool) : Blk :=
  { b with hasp := { b.hasp with degs := b.hasp.degs.modify cls (fun d =>
      { d with start := d.start || d.left.isNone, chs := d.chs ++ chs.filter (fun c => !d.chs.contains c),
               outer := if d.left.isSome then d.outer else outer || (d.start && d.outer) }) } }

/-- Channel c is in degraded mode of some class. -/
def Blk.isDegraded (b : Blk) (c : Nat) : Bool :=
  b.hasp.degs.any (fun d => d.chs.contains c && (d.start || d.left.isSome))

/-- End the degraded mode of a class for one channel (R56, R224, R287); the timer stops with its last channel. -/
def Blk.undegrade (b : Blk) (cls c : Nat) : Blk :=
  let chs := (b.hasp.degs.getD cls default).chs.filter (fun x => x != c)
  let degs := b.hasp.degs.modify cls (fun d =>
    if chs.isEmpty then { d with left := none, start := false, chs := [] } else { d with chs := chs })
  { b with hasp := { b.hasp with degs := degs, ntcHeld := b.hasp.ntcHeld && !(cls == 5 && chs.isEmpty) } }

/-- The active module sees its standby ready: the last F carried READY, the last 64 arrived without a miss, and both
modules run one configuration image (R31, R394). -/
def Blk.standbyReady (b : Blk) : Bool :=
  b.rd R.MIR_STAT_ROLE == 3 && b.rd R.MIR_STAT_PROLE == 2 && decide (64 ≤ b.mir.good) &&
    b.rd (R.MIR_CFGCRC_CRC 0) == b.rd (R.MIR_CFGCRC_CRC 1)

/-- Writes applied in this frame, as the next F carries them to a partner (R392). -/
def Blk.noteApplied (b : Blk) (l : List (Nat × Nat × Nat)) : Blk :=
  if b.rd R.MIR_STAT_PID = 0 then b else { b with mir := { b.mir with applied := b.mir.applied ++ l } }

end Sys2Proof.Machine
end

