-- ==== Sys2Proof/Machine/Profile.lean ====
section
/-! DEFINITION. The profile generator (chapter 10, R246 to R255): planning a move, advancing an axis at a tick, stops,
and the meanings of the commands that move axes. Distances and speeds are in 2^−32 count. -/

namespace Sys2Proof.Machine

/-- The square root of R249 rounded half up, for radicands below 2^128. -/
def isqrtWide (n : Nat) : Nat :=
  let r := isqrtBits n 64 0
  if r * r + r < n then r + 1 else r

/-- Quotient rounded up, for a positive divisor. -/
def ceilI (a d : Int) : Int := -((-a) / d)

/-- P_int of an axis (R241). -/
def Axis.pInt (x : Axis) : Nat := x.pRef / 2 ^ 32 % 2 ^ 32

/-- The position that the planned velocities have reached: P_ref and what the filter of R250 still owes. -/
def Axis.planned (x : Axis) : Nat := unsigned 64 (Int.ofNat x.pRef + x.owe)

/-- VMAX, AMAX and DMAX of a move in 2^−32 count per frame and per frame² (R246, R247). -/
def Blk.moveVM (b : Blk) (a : Nat) (m : Move) : Int :=
  Int.ofNat ((if m.vmax = 0 then b.rd (R.MPG_VMAX_VMAX a) else m.vmax) * 2 ^ 16)
def Blk.moveAM (b : Blk) (a : Nat) (m : Move) : Int :=
  Int.ofNat ((if m.amax = 0 then b.rd (R.MPG_AMAX_AMAX a) else m.amax) * 2 ^ 8)
def Blk.moveDM (b : Blk) (a : Nat) (m : Move) : Int :=
  Int.ofNat ((if m.dmax = 0 then b.rd (R.MPG_DMAX_DMAX a) else m.dmax) * 2 ^ 8)

/-- Signed distance in counts from a position to a target (R247). -/
def distTo (target : Int) (pInt : Nat) : Int := diff32 (unsigned 32 target) pInt

/-- The peak speed of the repeat loop of R249 for phase lengths. -/
def peakV (d v0 v1 na nc nd : Int) : Int :=
  halfUp (2 * d - v0 * (na - 1) - v1 * (nd + 1)) (2 * nc + na + nd)

/-- The repeat loop of R249: phase lengths and peak speed. Where nc + (na + nd) / 2 is not positive the rule's quotient has
no value; the loop then takes one more frame at constant speed (DESIGN CHOICE, log entry 149). -/
def planLoop (d v0 v1 vm am dm : Int) : Nat → Int → Int → Int → Int × Int × Int × Int
  | 0, na, nc, nd => (na, nc, nd, peakV d v0 v1 na nc nd)
  | k + 1, na, nc, nd =>
    let vp := peakV d v0 v1 na nc nd
    if 2 * nc + na + nd ≤ 0 ∨ vm < vp then planLoop d v0 v1 vm am dm k na (nc + 1) nd
    else if 0 < na ∧ am * na < vp - v0 then planLoop d v0 v1 vm am dm k (na + 1) nc nd
    else if 0 < nd ∧ dm * nd < vp - v1 then planLoop d v0 v1 vm am dm k na nc (nd + 1)
    else (na, nc, nd, vp)

/-- More rounds than the loop of R249 can take: each adds a frame, and with this many the peak speed is below one unit. -/
def planRounds (d v0 v1 na nd : Int) : Nat :=
  magI (2 * d) + magI v0 * (magI na + 1) + magI v1 * (magI nd + 1) + 2 * magI na + 2 * magI nd + 4

/-- Phase lengths na, nc, nd and peak speed of R249 for D > 0. A phase whose length is not positive has no frame. -/
def planPhases (d v0 v1 vm am dm : Int) : Nat × Nat × Nat × Int :=
  let na := ceilI (vm - v0) am
  let nd := ceilI (vm - v1) dm
  let nc := ceilI (2 * d - v0 * (na - 1) - v1 * (nd + 1) - vm * (na + nd)) (2 * vm)
  let vt := Int.ofNat (isqrtWide (halfUp (2 * d * am * dm + v0 * v0 * dm + v1 * v1 * am) (am + dm)).toNat)
  let x : Int × Int × Int := if nc ≤ 0 then (ceilI (vt - v0) am, 0, ceilI (vt - v1) dm) else (na, nc, nd)
  let r := planLoop d v0 v1 vm am dm (planRounds d v0 v1 x.1 x.2.2) x.1 x.2.1 x.2.2
  (r.1.toNat, r.2.1.toNat, r.2.2.1.toNat, r.2.2.2)

/-- The joint speed v1 with the next queued move (R248). -/
def Blk.jointV (b : Blk) (a : Nat) (m : Move) (sg : Int) (next : Option Move) : Int :=
  match next with
  | none => 0
  | some x =>
    if m.kind < 2 ∧ x.kind < 2 ∧ m.blend = true ∧ sgn (distTo x.target (unsigned 32 m.target)) = sg then
      let dn := Int.ofNat (magI (distTo x.target (unsigned 32 m.target))) * 2 ^ 32
      min (min (b.moveVM a m) (b.moveVM a x)) (Int.ofNat (isqrtWide (2 * b.moveDM a x * dn).toNat))
    else 0

/-- Distance that a deceleration from v0 to v1 takes. -/
def slowDist (v0 v1 dm : Int) : Int :=
  let nd := ceilI (v0 - v1) dm
  if nd ≤ 0 then 0 else halfUp (2 * nd * v0 - (v0 - v1) * (nd + 1)) 2

/-- Plan a move at the tick at which it starts (R248, R249), from signed speed `v` and from the position that the planned
velocities have reached. -/
def Blk.planMove (b : Blk) (a : Nat) (m : Move) (v : Int) (next : Option Move) : MovePlan :=
  let vm := b.moveVM a m
  let am := max (b.moveAM a m) 1
  let dm := max (b.moveDM a m) 1
  if m.kind = 2 then
    let vt := m.target * 2 ^ 16
    let up := decide (magI v < magI vt) && decide (0 ≤ v * vt)
    let n := (ceilI (Int.ofNat (magI (vt - v))) (if up then am else dm)).toNat
    ⟨m, 1, 0, v, vt, vt, n, 0, 0, 0, 0, false⟩
  else
    let at_ := (b.axis a).planned
    let d := distTo m.target (at_ / 2 ^ 32) * 2 ^ 32 - Int.ofNat (at_ % 2 ^ 32)
    let sg := if d < 0 then -1 else 1
    let dd := d * sg
    let v0 := v * sg
    let v1 := b.jointV a m sg next
    if v0 < 0 ∨ dd < slowDist v0 v1 dm then
      ⟨m, sgn v, 0, Int.ofNat (magI v), 0, Int.ofNat (magI v), 0, 0, (ceilI (Int.ofNat (magI v)) dm).toNat, 0, 0, true⟩
    else
      let r := planPhases dd v0 v1 (max vm 1) am dm
      ⟨m, sg, dd, v0, v1, r.2.2.2, r.1, r.2.1, r.2.2.1, 0, 0, false⟩

/-- Frames of a plan. -/
def MovePlan.len (p : MovePlan) : Nat := p.na + p.nc + p.nd

/-- Velocity along the move in frame j of the plan (R249). -/
def MovePlan.vel (p : MovePlan) (j : Nat) : Int :=
  if j ≤ p.na then (if p.na = 0 then p.vp else p.v0 + halfUp (Int.ofNat j * (p.vp - p.v0)) (Int.ofNat p.na))
  else if j ≤ p.na + p.nc then p.vp
  else p.vp - halfUp (Int.ofNat (j - p.na - p.nc) * (p.vp - p.v1)) (Int.ofNat (max p.nd 1))

/-- The signed speed at which a plan ends (R248): v1, or the peak speed where it has no deceleration. -/
def MovePlan.endV (p : MovePlan) : Int := p.sg * (if p.nd = 0 then p.vp else p.v1)

/-- Signed velocity of the next frame of a plan, and the plan after it; the last frame ends on the target. -/
def MovePlan.next (p : MovePlan) : Int × MovePlan :=
  let j := p.j + 1
  if p.len < j then (p.endV, p)
  else
    let v := if j = p.len ∧ p.mv.kind < 2 ∧ p.brake = false then p.dist - p.done else p.vel j
    (p.sg * v, { p with j := j, done := p.done + v })

/-- NJ of R250. -/
def Blk.nJ (b : Blk) (a : Nat) : Nat := max 1 (ceilDiv (b.rd (R.MPG_AMAX_AMAX a) * 256) (b.rd (R.MPG_JMAX_JMAX a)))

/-- The planned velocity passed through the running mean of R250 when SCURVE is 1. -/
def Blk.filterAxis (b : Blk) (a : Nat) (x : Axis) (raw : Int) : Axis :=
  if b.on (R.MPG_CFG_SCURVE a) then
    let nj := b.nJ a
    let h := (raw :: x.filt).take nj
    let tot := h.foldl (· + ·) 0 + x.rem
    let v := tot / Int.ofNat nj
    { x with vRaw := raw, filt := h, rem := tot - v * Int.ofNat nj, owe := x.owe + raw - v, a := v - x.v, v := v,
             pRef := unsigned 64 (Int.ofNat x.pRef + v) }
  else { x with vRaw := raw, filt := [], rem := 0, owe := 0, a := raw - x.v, v := raw,
                pRef := unsigned 64 (Int.ofNat x.pRef + raw) }

/-- The planned velocity of the frame being opened: the running plan, a STOP deceleration at DSTOP, or the speed at
which the last move ended. A deceleration before a move that would pass its target is followed by the plan from
standstill (R248). -/
def Blk.rawNext (b : Blk) (a : Nat) (x : Axis) : Int × Axis :=
  if x.stop then
    let d := Int.ofNat (b.rd (R.MPG_DSTOP_DSTOP a) * 2 ^ 8)
    (if 0 ≤ x.vRaw then max 0 (x.vRaw - d) else min 0 (x.vRaw + d), x)
  else match x.cur with
    | some p =>
      let p := if p.brake ∧ p.len ≤ p.j then b.planMove a p.mv 0 x.queue.head? else p
      (p.next.1, { x with cur := some p.next.2 })
    | none => (x.vEnd, x)

/-- The target of the move in progress or suspended minus P_int (MPG_REM). -/
def Axis.remain (x : Axis) : Int :=
  match x.susp with
  | some m => if m.kind = 2 then 0 else distTo m.target x.pInt
  | none => match x.cur with
    | some p => if p.mv.kind = 2 then 0 else distTo p.mv.target x.pInt
    | none => 0

/-- MPG_STAT.STATE of an axis. -/
def Axis.state (x : Axis) (homing : Bool) : Nat :=
  if x.stop then 2
  else if homing then 4
  else match x.cur with
    | some p => if p.mv.kind = 2 then 5 else 1
    | none => if x.susp.isSome then 3 else if x.vEnd ≠ 0 then 5 else 0

/-- The registers that show an axis. -/
def Blk.showAxis (b : Blk) (a : Nat) : Blk :=
  let x := b.axis a
  let homing := decide (8 ≤ a) && decide ((b.stp (a - 8)).homing = 1)
  let b := b.wr (R.MPG_STAT_STATE a) (x.state homing)
  let b := b.wrSat (R.MPG_STAT_QLEN a) x.queue.length
  let b := b.wr (R.MPG_PREF_PINT a) x.pInt
  let b := b.wrS (R.MPG_REM_REM a) x.remain
  let b := b.wrS (R.MPG_VREF_V a) (halfUp x.v (2 ^ 16))
  b.wrS (R.MPG_AREF_A a) (halfUp x.a (2 ^ 8))

/-- The suspended move planned afresh from standstill (R254). -/
def Blk.resumeNow (b : Blk) (a : Nat) (m : Move) : Blk :=
  let p := b.planMove a m 0 (b.axis a).queue.head?
  let b := b.onAxis a (fun x => { x with susp := none, cur := some p, stop := false, resume := false })
  if a < 8 then b else (b.wr (R.Sn_STAT_SSTATE (a - 8)) 2).onStp (a - 8) (fun s => { s with zeroFr := 0, fall := none })

/-- A RESUME acts once the commits of its tick have applied (R255), after the deceleration of a STOP at standstill (R254). -/
def Blk.resumeLate (b : Blk) (a : Nat) : Blk :=
  let x := b.axis a
  match x.susp with
  | some m => if x.resume = true ∧ x.v = 0 ∧ x.vRaw = 0 then b.resumeNow a m else b
  | none => b

/-- The profile generator of one axis at a tick (R251). -/
def Blk.advanceAxis (b : Blk) (a : Nat) : Blk :=
  if b.on (R.MPG_CFG_EN a) then
    let b := b.resumeLate a
    let x := b.axis a
    let r := b.rawNext a x
    (b.onAxis a (fun _ => { b.filterAxis a r.2 r.1 with stopNow := false })).showAxis a
  else b

/-- The channel of an axis lets it move: stepper in HOLD or MOVE, drive in RUN (R247). -/
def Blk.axisReady (b : Blk) (a : Nat) : Bool :=
  if a < 8 then b.pstate a == 1 else b.stpState (a - 8) == 1 || b.stpState (a - 8) == 2

/-- The plan of an axis has ended: a move exactly on its target, once the filter of R250 has passed on the whole distance
unless it runs on across a joint; a SPEED move at its speed (R249, R250). -/
def Blk.moveEnded (b : Blk) (a : Nat) (p : MovePlan) : Bool :=
  let x := b.axis a
  !p.brake && decide (p.len ≤ p.j) &&
    (!b.on (R.MPG_CFG_SCURVE a) || (if p.mv.kind = 2 then x.v == p.endV else p.endV != 0 || x.owe == 0))

/-- A move completes: the speed at which it ended is the start speed of the next; a SPEED move's is held (R248, R249). -/
def Blk.endMove (b : Blk) (a : Nat) (p : MovePlan) : Blk :=
  (b.onAxis a (fun x => { x with cur := none, vEnd := p.endV, held := if p.mv.kind = 2 then some p.mv else none })).inc
    (R.MPG_STAT_DONE a)

/-- Suspend the move in progress, or the SPEED move whose speed is held (R252). A move that ends at this tick has
completed and is not suspended (R255). -/
def Blk.suspendMove (b : Blk) (a : Nat) : Blk :=
  match (b.axis a).cur with
  | some p => if b.moveEnded a p && p.mv.kind != 2 then b.endMove a p
              else b.onAxis a (fun x => { x with cur := none, susp := some p.mv })
  | none => match (b.axis a).held with
    | some m => b.onAxis a (fun x => { x with susp := some m })
    | none => b

/-- A STOP for an axis (R252): decelerate at DSTOP, the move suspended; nothing on an axis at standstill. -/
def Blk.stopAxis (b : Blk) (a : Nat) : Blk :=
  let x := b.axis a
  let b := b.onAxis a (fun x => { x with stopNow := true, resume := false })
  if x.vRaw = 0 ∧ x.v = 0 ∧ x.cur = none then b
  else ((b.suspendMove a).onAxis a (fun x => { x with stop := true, vEnd := 0, held := none })).showAxis a

/-- An abrupt stop (R253): v and a to 0, P_ref frozen, the move suspended, the remaining distance recorded. A stepper's
position is unverified, a drive axis takes the port's position when the drive runs again. A drive whose MPG_CFG.EN is
0 has no axis to stop (log entry 150). -/
def Blk.abruptStop (b : Blk) (a : Nat) : Blk :=
  if b.on (R.MPG_CFG_EN a) ∨ 8 ≤ a then
    let b := (b.suspendMove a).onAxis a (fun x =>
      { x with v := 0, a := 0, vRaw := 0, vEnd := 0, stop := false, filt := [], rem := 0, owe := 0, held := none
               resume := false, rearm := decide (a < 8) })
    let b := (if a < 8 then b else b.flag (R.Sn_STAT_PUNC (a - 8)) true).showAxis a
    b.raise 0x4108 a [(b.axis a).remain]
  else b

/-- The position from which a REL move and the distance of a move are taken (R247): the target of the last move in the
queue, or P_int if the queue is empty. -/
def Blk.moveBase (b : Blk) (a : Nat) : Nat :=
  match (b.axis a).queue.getLast? with
  | some m => if m.kind = 2 then (b.axis a).pInt else unsigned 32 m.target
  | none => (b.axis a).pInt

/-- A queued move of R247 as the queue holds it: a REL target is fixed when it is queued. -/
def Blk.queuedMove (b : Blk) (a kind : Nat) (blend : Bool) (target vmax amax dmax : Nat) : Move :=
  let base := b.moveBase a
  let t : Int := if kind = 0 then Int.ofNat target
    else if kind = 1 then Int.ofNat ((base + target) % 2 ^ 32) else signed 32 target
  ⟨kind, blend, t, vmax, amax, dmax⟩

/-- The checks of R247 in their order: the DETAIL of the first that refuses a MOVE. -/
def Blk.moveRefusal (b : Blk) (a : Nat) (m : Move) : Option Nat :=
  if 16 ≤ (b.axis a).queue.length then some 0x0010
  else if b.rd (R.MPG_VMAX_VMAX a) < m.vmax ∨ b.rd (R.MPG_AMAX_AMAX a) < m.amax ∨ b.rd (R.MPG_DMAX_DMAX a) < m.dmax ∨
      (m.kind = 2 ∧ b.rd (R.MPG_VMAX_VMAX a) < magI m.target) then some 0x0011
  else if b.on (R.MPG_CFG_EN a) = false then some 0x0012
  else if m.kind < 2 ∧ (distTo m.target (b.moveBase a) = 0 ∨ distTo m.target (b.moveBase a) = -(2 ^ 31)) then some 0x0013
  else none

/-- The heartbeat check of R425 for a command to a target that is not under bridge-loss. -/
def Blk.noHeartbeat (b : Blk) : Bool := b.rd R.HIF_STAT_HB != 1

/-- The stop of R310 stands on axis a and the override does not suspend it (R312): no move is accepted or starts. -/
def Blk.tooHot (b : Blk) (a : Nat) : Bool := decide (8 ≤ a) && b.thm.stop.getD (a - 8) false && !b.on R.THM_OVRD_ACT

/-- MOVE (R247, R254, R310, R425): refused by the first check that fails, else queued. -/
def Blk.doMove (b : Blk) (h : Hdr) (a kind : Nat) (blend : Bool) (target vmax amax dmax : Nat) : Blk :=
  if b.configured a = false then b.complete h 0x12 0x06
  else if b.noHeartbeat then b.refuse h 0x12 0x0002
  else if 2 < kind then b.refuse h 0x12 0x0004
  else
    let m := b.queuedMove a kind blend target vmax amax dmax
    match (if b.tooHot a then some 1 else b.moveRefusal a m) with
    | some d => (b.raise 0x4101 a [Int.ofNat d]).refuse h 0x12 d
    | none => ((b.onAxis a (fun x => { x with queue := x.queue ++ [m], written := if kind < 2 then m.target else x.written })).showAxis a).ok h 0x12

/-- AXIS_STOP (R252); a STOP during homing ends it with no reference set (R259). -/
def Blk.doAxisStop (b : Blk) (h : Hdr) (a : Nat) : Blk :=
  b.forTarget h 0x13 a fun b =>
  let b := if a < 8 then b else b.onStp (a - 8) (fun s => { s with homing := 0, homeDue := false })
  (b.stopAxis a).ok h 0x13

/-- RESUME (R254): plan the suspended move afresh from standstill, which a drive that still decelerates reaches first. -/
def Blk.doResume (b : Blk) (h : Hdr) (a : Nat) : Blk :=
  b.forTarget h 0x14 a fun b =>
  let x := b.axis a
  let ready := if a < 8 then b.pstate a == 1 else b.stpState (a - 8) == 1
  if x.stopNow then b.complete h 0x14 0x01
  else if ready = false ∨ b.tooHot a then (b.raise 0x4101 a [1]).refuse h 0x14 0x0001
  else match x.susp with
    | none => b.ok h 0x14
    | some _ =>
      ((b.onAxis a (fun x => { x with resume := true })).showAxis a).ok h 0x14

/-- MOVE_FLUSH (R254): the queued and the suspended moves go; a running move completes. -/
def Blk.doFlush (b : Blk) (h : Hdr) (a : Nat) : Blk :=
  b.forTarget h 0x15 a fun b =>
    ((b.onAxis a (fun x => { x with queue := [], susp := none, resume := false })).showAxis a).ok h 0x15

/-- The move of a homing is planned at its tick, once the commits have applied (R255, R258). -/
def Blk.homeNow (b : Blk) (n : Nat) : Blk :=
  let a := 8 + n
  if (b.stp n).homeDue then
    let b := b.onStp n (fun s => { s with homeDue := false })
    if b.stpState n = 1 ∧ b.on (R.MPG_CFG_EN a) then
      let sp := Int.ofNat (b.rd (R.Sn_HOME_HOMESPD n) * 2 ^ 8)
      let m : Move := ⟨2, false, if b.on (R.Sn_HOMEX_DIR n) then -sp else sp, 0, 0, 0⟩
      let p := b.planMove a m 0 none
      let b := b.onAxis a (fun x => { x with cur := some p })
      let b := b.onStp n (fun s => { s with homing := 1, homeFr := 0, homeMs := 0, zeroFr := 0, fall := none, stallN := 0 })
      (b.wr (R.Sn_STAT_SSTATE n) 2).showAxis a
    else b
  else b

/-- HOME (R258, R259): refused on a drive axis, off HOLD, or with a move queued or suspended. -/
def Blk.doHome (b : Blk) (h : Hdr) (a : Nat) : Blk :=
  b.forTarget h 0x16 a fun b =>
  let x := b.axis a
  let n := a - 8
  if a < 8 ∨ b.stpState n ≠ 1 ∨ x.queue ≠ [] ∨ x.susp.isSome = true ∨ x.cur.isSome = true ∨
      b.on (R.MPG_CFG_EN a) = false ∨ (b.stp n).homeDue = true ∨ b.tooHot a then
    (b.raise 0x4101 a [1]).refuse h 0x16 0x0001
  else
    (b.onStp n (fun s => { s with homeDue := true })).ok h 0x16

/-- A queued move starts (R247, R248, R244): the axis enabled, ready and not suspended, no move running. -/
def Blk.doMoveStart (b : Blk) (a : Nat) : Blk :=
  let x := b.axis a
  match x.queue with
  | [] => b
  | m :: q =>
    if b.on (R.MPG_CFG_EN a) ∧ b.axisReady a ∧ x.susp = none ∧ x.cur = none ∧ x.stop = false ∧
        b.tooHot a = false ∧ (8 ≤ a → (b.stp (a - 8)).homeDue = false) then
      let p := b.planMove a m x.vEnd q.head?
      let b := b.onAxis a (fun x => { x with queue := q, cur := some p, vEnd := 0, held := none })
      let b := if a < 8 then b else (b.wr (R.Sn_STAT_SSTATE (a - 8)) 2).onStp (a - 8) (fun s => { s with zeroFr := 0, fall := none })
      b.showAxis a
    else b

/-- A running move ends on its target (R249, R250, R258); the back-off of homing completes the homing. -/
def Blk.doMoveComplete (b : Blk) (a : Nat) : Blk :=
  match (b.axis a).cur with
  | none => b
  | some p =>
    if b.moveEnded a p = false then b
    else
      let n := a - 8
      let b := b.endMove a p
      let back := decide (8 ≤ a) && decide ((b.stp n).homing = 2)
      let b := if back then
          let b := b.onStp n (fun s => { s with homing := 0 })
          let b := (b.flag (R.Sn_STAT_PUNC n) false).flag (R.Sn_STAT_HOMED n) true
          b.raise 0x4001 a [halfUp (((b.stp n).stall.getD (0, 0)).1 * 256) 16384]
        else b
      let b := if 8 ≤ a ∧ (b.axis a).queue = [] ∧ (b.axis a).v = 0 ∧ (b.axis a).vEnd = 0 ∧ b.stpState n = 2 then
          b.wr (R.Sn_STAT_SSTATE n) 1 else b
      b.showAxis a

/-- An axis reaches standstill after a STOP, or after its queue ran empty (R244, R252). A DEENERGIZE then ends in
Sn_EN inactive at the next OUTPUT_PHASE. -/
def Blk.doStandstill (b : Blk) (a : Nat) : Blk :=
  let x := b.axis a
  if x.v = 0 ∧ x.vRaw = 0 ∧ x.vEnd = 0 ∧ x.cur = none then
    let b := (b.resumeLate a).onAxis a (fun x => { x with stop := false })
    let n := a - 8
    let b := if 8 ≤ a then
        let b := if b.stpState n = 2 ∧ ((b.axis a).queue = [] ∨ (b.axis a).susp.isSome) then
          b.wr (R.Sn_STAT_SSTATE n) 1 else b
        if (b.stp n).deEn then b.onStp n (fun s => { s with offReq := true }) else b
      else b
    b.showAxis a
  else b

end Sys2Proof.Machine
end

