-- ==== Sys2Proof/Machine/Gate.lean ====
section
/-! DEFINITION. The gates: what keeps pulses from a channel. The pulse states of R74 and R244 as far as they leave RUN,
trips (R76 to R80), GRDY loss (R81), Hasp's demands, outputs and gate-enables (R322 to R324, R332, R336), the shed of
R28, ownership (R382, R383) and the loss of R338. -/

namespace Sys2Proof.Machine

/-- The gate pins of a drive with every gate inactive (R60, R74): driven while configured and owned. -/
def Blk.pinsOff (b : Blk) (n : Nat) : Blk :=
  ((b.wr (R.Dn_PINS_DRV n) (if b.on (R.Dn_CFG_EN n) && b.on (R.Dn_STAT_OWN n) then 0xFFF else 0)).wr (R.Dn_PINS_ACTV n) 0).onDrv n
    (fun d => { d with waitOn := 0 })

/-- The electrical level of Dn_Gi (R60): high or low where it is driven, by Dn_CFG.GPOL; none while high-impedance. -/
def Blk.gateLevel (b : Blk) (n i : Nat) : Option Bool :=
  if b.on (bitOf (R.Dn_PINS_DRV n) i) then some (b.on (bitOf (R.Dn_PINS_ACTV n) i) != b.on (R.Dn_CFG_GPOL n)) else none

/-- The gates of drive n switch to the set `new`; those of `wait` turn on only once the dead time has run (R71), which
Dn_PINS shows from the next reload point or tick on (log entry 32). -/
def Blk.gatesTo (b : Blk) (n new wait : Nat) : Blk :=
  let held := Nat.land new wait
  ((b.wr (R.Dn_PINS_DRV n) 0xFFF).wr (R.Dn_PINS_ACTV n) (new - held)).onDrv n (fun d => { d with waitOn := held })

/-- The dead times that run have ended (R71, R79). -/
def Blk.deadEnd (b : Blk) (n : Nat) : Blk :=
  let w := (b.drv n).waitOn
  if w = 0 then b else (b.wr (R.Dn_PINS_ACTV n) (Nat.lor (b.rd (R.Dn_PINS_ACTV n)) w)).onDrv n (fun d => { d with waitOn := 0 })

/-- The other devices of the complementary pairs of a set of gates (R66, R67): upper and lower of a leg in two-level, S1 and
S3, S2 and S4 in three-level. -/
def partners (threeLevel : Bool) (g : Nat) : Nat :=
  if threeLevel then Nat.land g 0x333 * 4 + Nat.land g 0xCCC / 4 else Nat.land g 0x15 * 2 + Nat.land g 0x2A / 2

/-- The gate pins of an active short circuit (R58, R79) when the gates `on` were active before: lower devices in two-level,
S3 and S4 in three-level; one that was on stays on, the others wait for the dead time. -/
def Blk.pinsAsc (b : Blk) (n on : Nat) : Blk :=
  let low := if b.on (R.Dn_CFG_TOPO n) then 0xCCC else 0x02A
  b.gatesTo n low (low - Nat.land low on)

/-- A capture that follows the injection of pair k ends with it in ONESHOT mode (R233). -/
def Blk.capWithInj (b : Blk) (k : Nat) : Blk :=
  if b.rd (R.LE_CAPSTAT_CAP k) = 2 ∧ b.rd (R.LE_CAPCFG_TRIG k) = 1 ∧ b.rd (R.LE_CAPCFG_MODE k) = 0 then
    (b.wr (R.LE_CAPSTAT_CAP k) 3).onTun k (fun t => { t with final := true })
  else b

/-- An injection of pair `k` that runs on channel `c` is aborted (R229). An INJ_START that still waits for its first run
completes as refused (log entry 33). -/
def Blk.abortInjOn (b : Blk) (k c reason : Nat) : Blk :=
  if b.rd (R.LE_CAPSTAT_INJ k) = 1 ∧ b.rd (R.LE_INJCFG_CH k) = c then
    let h := (b.tun k).hdr
    let b := (b.wr (R.LE_CAPSTAT_INJ k) 3).onTun k (fun t => { t with v := 0, hdr := none })
    let b := match h with
      | some h => b.refuse h 0x20 0x0202
      | none => b
    (b.raise 0x7116 k [Int.ofNat reason]).capWithInj k
  else b

/-- The injections that run on a channel are aborted (R229). -/
def Blk.abortInj (b : Blk) (c reason : Nat) : Blk := b.each 5 (fun k b => b.abortInjOn k c reason)

/-- The start sequence of a drive ends (R131): SSTATE IDLE, nothing of the sequence left. -/
def Blk.seqIdle (b : Blk) (n : Nat) : Blk :=
  let b := b.wr (R.Dn_SSTAT_SSTATE n) 0
  let b := (b.wr (R.Dn_CSTAT_SECTOR n) 0).flag (R.Dn_CSTAT_SYNC n) false
  b.onSeq n (fun q => { q with trans := none, acq := none, reopen := false, asSens := false, waitFr := 0, missed := 0 })

/-- The cause for which drive n is about to leave RUN (R278). -/
def Blk.because (b : Blk) (n why : Nat) : Blk :=
  if b.pstate n = 1 then b.onDrv n (fun d => { d with why := why }) else b

/-- Pulses stop: a drive leaves RUN, ASC or a trip state for PSTATE `ps` with every gate inactive (R74). Leaving RUN
ends the start state (R131), aborts an injection (R229) and stops the axis abruptly (R253). Pulses that end before a block
asked for by a reference of the opposite sign are not blocked by it, and no start request follows (R112). -/
def Blk.blockTo (b : Blk) (n ps : Nat) : Blk :=
  let wasRun := b.pstate n == 1
  let b := (b.wr (R.Dn_STAT_PSTATE n) ps).seqIdle n
  let b := (b.flag (R.Dn_CSTAT_HOBL n) false).onDrv n (fun d =>
    { d with blends := [], rampStop := false, spdLim := false, revStart := d.revStart && !d.reqBlock })
  let b := b.pinsOff n
  if wasRun then (b.abortInj n 2).abruptStop n else b

/-- Accept a trip (R74, R77 to R80): source 0 TRIPn_N, 1 sinc2 overcurrent. The record gives the action: 0 none, 1 all
gates off, 2 active short circuit. An unconfigured channel ignores it; a latched trip stays; RELEASED counts it. -/
def Blk.acceptTrip (b : Blk) (n src : Nat) : Blk :=
  let ps := b.pstate n
  if b.powered .pwm = false ∨ b.on (R.Dn_CFG_EN n) = false ∨ ps = 3 ∨ ps = 4 then b
  else if ps = 5 then b.inc (R.Dn_TRIPCNT_TRIPS n)
  else
    let asc := b.on (R.Dn_TRIP_ACT n) && (ps == 1 || ps == 2)
    let act := if ps = 0 then 0 else if asc then 2 else 1
    let was := b.rd (R.Dn_PINS_ACTV n)
    let cut := (b.rd (R.Dn_CSTAT_SECTOR n), (b.seq n).trans)
    let b := ((b.because n 1).blockTo n (if asc then 4 else 3)).onDrv n (fun d => { d with cut := cut })
    let b := if asc then b.pinsAsc n was else b
    let b := ((b.flag (R.Dn_STAT_TRIP n) true).wr (R.Dn_STAT_TSRC n) src).inc (R.Dn_TRIPCNT_TRIPS n)
    b.raise (if src = 0 then 0x3306 else 0x3307) n [Int.ofNat act]

/-- GRDY loss on a leg with GRDY_EN = 1 (R74, R81). -/
def Blk.grdyLoss (b : Blk) (n leg : Nat) : Blk :=
  let ps := b.pstate n
  if b.on (R.Dn_CFG_GRDY_EN n) = false ∨ b.on (R.Dn_CFG_EN n) = false then b
  else if ps = 1 ∨ ps = 2 then
    (((b.because n 2).blockTo n 0).flag (R.Dn_STAT_GRDYL n) true).raise 0x3308 n [Int.ofNat leg]
  else if ps = 4 then (b.blockTo n 3).raise 0x3308 n [Int.ofNat leg]
  else if b.sstate n ≠ 0 then b.seqIdle n
  else b

/-- What keeps the gates of drive n inactive now, as R74 and R75 judge it: no gate-enable, or a qualified GRDY input that is
low with GRDY_EN = 1. -/
def Blk.gatesJudge (b : Blk) (n : Nat) : Blk :=
  let ps := b.pstate n
  if (ps = 1 ∨ ps = 2 ∨ ps = 4) ∧ b.gateEn n = false then (b.because n 3).blockTo n (if ps = 4 then 3 else 0)
  else match (List.range 3).find? (fun l => !b.on (bitOf (R.Dn_STAT_GRDY n) l)) with
    | some l => b.grdyLoss n l
    | none => b

/-- A stepper in HOLD or MOVE turns its bridges off at once for state `st`, and its axis stops abruptly (R229, R244,
R253). -/
def Blk.bridgesOff (b : Blk) (n st : Nat) : Blk :=
  if b.stpState n = 1 ∨ b.stpState n = 2 then
    let b := ((b.abortInj (8 + n) 2).wr (R.Sn_STAT_SSTATE n) st).onStp n (fun s =>
      { s with en := false, enReq := false, offReq := false, deEn := false, homing := 0, homeDue := false, dutyA := 0
               dutyB := 0, stallDue := false, stallN := 0 })
    b.abruptStop (8 + n)
  else b

/-- A stepper in HOLD or MOVE enters FAULT (R244). -/
def Blk.stpFault (b : Blk) (n : Nat) : Blk := b.bridgesOff n 3

/-- A winding's overcurrent verdict on a stepper (R245). -/
def Blk.stpOc (b : Blk) (n : Nat) : Blk :=
  if b.on (R.Sn_CFG_EN n) then
    ((b.flag (R.Sn_STAT_OC n) true).raise 0x4305 (8 + n) []).stpFault n
  else b

/-- Gate-enable removed from a channel (R74, R75, R240, R244). -/
def Blk.gateLost (b : Blk) (c : Nat) : Blk :=
  if c < 8 then
    let b := b.flag (R.Dn_STAT_HASP_EN c) false
    let ps := b.pstate c
    if ps = 1 ∨ ps = 2 then (b.because c 3).blockTo c 0
    else if ps = 4 then b.blockTo c 3
    else if b.sstate c ≠ 0 then b.seqIdle c else b
  else (b.flag (R.Sn_STAT_HASP_EN (c - 8)) false).stpFault (c - 8)

/-- Gate-enable granted to a channel (R322). -/
def Blk.gateGained (b : Blk) (c : Nat) : Blk :=
  if c < 8 then b.flag (R.Dn_STAT_HASP_EN c) true else b.flag (R.Sn_STAT_HASP_EN (c - 8)) true

/-- The STO output that HASP_MAP gives channel c (R333). -/
def Blk.mapOf (b : Blk) (c : Nat) : Nat := b.rd (sliceOf R.HASP_MAP_MAP c 2)

/-- The configured channels that output k serves. -/
def Blk.mapped (b : Blk) (k : Nat) : List Nat :=
  (List.range 16).filter (fun c => b.configured c && b.mapOf c == k)

/-- STATE of output k (R322). -/
def Blk.stoState (b : Blk) (k : Nat) : Nat := b.rd (R.HASP_STOSTAT_STATE k)

/-- The output is CLOSED, TEST_HS or TEST_LS. -/
def Blk.stoClosed (b : Blk) (k : Nat) : Bool := decide (2 ≤ b.stoState k) && decide (b.stoState k ≤ 4)

/-- The DEM bit of safe input i (HASP_SDISTAT). -/
def sdiDem (i : Nat) : Fld := ⟨0x10090, 4 * i + 2, 1⟩

/-- The DISCF bit of safe input i. -/
def sdiDiscf (i : Nat) : Fld := ⟨0x10090, 4 * i + 3, 1⟩

/-- Every configured channel mapped to output k has lost its gate-enable by another rule than the output's own opening: a
shed, a safe reaction, an SS1 stop (R28, R332, R336), or the loss of R338, which takes every one. An output that no channel
is mapped to opens with the expiry of class STO alone (R328). -/
def Blk.allLost (b : Blk) (k : Nat) : Bool :=
  (!(b.mapped k).isEmpty || (b.sto k).dead) && (b.rd R.HASP_STAT_HSTATE == 3 ||
    (b.mapped k).all (fun c => (b.hch c).shed || (b.hch c).gone || (b.hch c).ss1))

/-- The lowest safe input that demands output k (R323 source 1); with `now`, that opens it at once, which an SS1 input does
not while the output is closed (R332). -/
def Blk.sdiDemand (b : Blk) (k : Nat) (now : Bool) : Option Nat :=
  (List.range 8).find? (fun i => b.on (R.HASP_SDICFG_EN i) && b.on (bitOf (R.HASP_SDICFG_MASK i) k) &&
    !b.on (R.HASP_SDICFG_RSTIN i) && b.on (sdiDem i) && !(now && b.on (R.HASP_SDICFG_SS1 i) && b.stoClosed k))

/-- HASP_SLMAP maps session s to output k; session 0 is ignored. -/
def Blk.slMapped (b : Blk) (s k : Nat) : Bool :=
  decide (s ≠ 0) && b.on ⟨(R.HASP_SLMAP_MAP (s / 8)).off, 4 * (s % 8) + k, 1⟩

/-- A demand on output k (R323): its DSRC code and the input, session or drive it comes from, the lowest code and number of
those present. With `now` only what opens the output at once; without, also an SS1 sequence that has begun (R332). -/
def Blk.demandOf (b : Blk) (k : Nat) (now : Bool) : Option (Nat × Nat) :=
  let ses := fun (p : Nat → Bool) => (List.range 64).find? (fun s => b.slMapped s k && p s)
  let x := (b.sdiDemand k now).map (fun i => (1, i))
  let x := x.or (if !now && (b.sto k).ss1.isSome then some (1, (b.sto k).ss1In) else none)
  let x := x.or ((ses (fun s => !b.hasp.permit.getD s false)).map (fun s => (2, s)))
  let x := x.or ((ses (fun s => b.hasp.wdOut.getD s false)).map (fun s => (3, s)))
  let x := x.or (((b.mapped k).find? (fun c => decide (c < 8) && b.hasp.ov3.getD c false)).map (fun c => (4, c)))
  let x := x.or (if b.hasp.tshut then some (5, 0) else none)
  let x := x.or (if b.allLost k then some (if (b.sto k).ss1.isSome then (1, (b.sto k).ss1In) else (6, 0)) else none)
  (x.or (b.hasp.latch.map (fun d => (d, 0)))).or (if b.hasp.pfail then some (9, 0) else none)

/-- The DSRC code of the demand present on output k (R323). -/
def Blk.demandSrc (b : Blk) (k : Nat) : Option Nat := (b.demandOf k false).map (·.1)

/-- Both switches of output k open (R322). A running test is abandoned with no verdict (R326); an SS1 sequence ends
here (R332); an output with a stuck switch whose DEG_TIME has expired goes to FAULT (R328). -/
def Blk.openSto (b : Blk) (k : Nat) : Blk :=
  let inTest := b.stoState k == 3 || b.stoState k == 4
  let b := if inTest then (b.inc (R.HASP_TPCNT_ABAND k)).raise 0x9004 k else b
  let st := if (b.sto k).dead then 5 else 0
  let b := ((b.wr (R.HASP_STOSTAT_STATE k) st).flag (R.HASP_STOSTAT_SS1 k) false).onSto k (fun s =>
    { s with hs := false, ls := false, ss1 := none })
  b.eachOf (b.mapped k) (fun c b => b.onHch c (fun h =>
    { h with ss1 := false, react := if h.react = some none then none else h.react }))

/-- The low side closes and CLOSING begins (R322). -/
def Blk.beginClosing (b : Blk) (k : Nat) : Blk :=
  (b.wr (R.HASP_STOSTAT_STATE k) 1).onSto k (fun s => { s with ls := true, hs := false, riseOk := false })

/-- Judge the demand on output k (R322, R323): DEM and DSRC show the first; what demands at once opens it, event 0x9300 with
the source and its number; the end of every demand closes an AUTO output (R324) once the self-test is over. -/
def Blk.judgeSto (b : Blk) (k : Nat) : Blk :=
  if b.on (R.HASP_STOCFG_EN k) = false then b
  else match b.demandSrc k with
    | some d =>
      let first := !b.on (R.HASP_STOSTAT_DEM k)
      let b := if first then b.wr (R.HASP_STOSTAT_DSRC k) d else b
      let b := (b.flag (R.HASP_STOSTAT_DEM k) true).onSto k (fun s => { s with riseOk := false, quiet := 0 })
      match b.demandOf k true with
      | some x =>
        if 1 ≤ b.stoState k ∧ b.stoState k ≤ 4 then (b.openSto k).raise 0x9300 k [Int.ofNat x.1, Int.ofNat x.2] else b
      | none => b
    | none =>
      let b := b.flag (R.HASP_STOSTAT_DEM k) false
      let run := b.rd R.HASP_STAT_HSTATE == 1 || b.rd R.HASP_STAT_HSTATE == 2
      if b.stoState k = 0 ∧ run = true ∧ b.on (R.HASP_STOCFG_RST k) = false ∧ (b.sto k).manual = false then
        b.beginClosing k
      else b

/-- Whether channel c is to have its gate-enable (R322). -/
def Blk.gateDue (b : Blk) (c : Nat) : Bool :=
  let h := b.hch c
  let run := b.rd R.HASP_STAT_HSTATE == 1 || b.rd R.HASP_STAT_HSTATE == 2
  b.configured c && run && b.on (R.HASP_STOCFG_EN (b.mapOf c)) && b.stoClosed (b.mapOf c) && !h.shed && !h.gone && !h.ss1

/-- HASP_GEN of one channel follows `gateDue`. -/
def Blk.gateFollow (b : Blk) (c : Nat) : Blk :=
  let due := b.gateDue c
  if due = b.gateEn c then b
  else
    let b := b.flag (bitOf R.HASP_GEN_EN c) due
    if due then b.gateGained c else b.gateLost c

/-- The gate-enables of all channels. -/
def Blk.gates (b : Blk) : Blk := b.each 16 (fun c b => b.gateFollow c)

/-- A channel has blocked its pulses (R336): a drive out of RUN, ASC and TRIP_ASC with no start sequence, a stepper in
OFF, FAULT or RELEASED. -/
def Blk.blocked (b : Blk) (c : Nat) : Bool :=
  if c < 8 then !(b.pstate c == 1 || b.pstate c == 2 || b.pstate c == 4) && b.sstate c == 0
  else b.stpState (c - 8) == 0 || decide (3 ≤ b.stpState (c - 8))

/-- A channel that has blocked its pulses ends its safe reaction and loses its gate-enable (R332, R336); not the blocked
pulses of a takeover's guard, after which the reaction goes on (R342). -/
def Blk.endReact (b : Blk) (c : Nat) : Blk :=
  if b.blocked c = true ∧ (b.mir.guard.isSome && b.pairedCh c) = false then
    b.onHch c (fun h => match h.react with
      | some (some _) => { h with react := none, gone := true }
      | some none => { h with react := none, ss1 := true }
      | none => h)
  else b

/-- Hasp settles: reactions that ended, demands, gate-enables, and once more for what these brought about. -/
def Blk.settle (b : Blk) : Blk :=
  let pass := fun (b : Blk) => ((b.each 16 (fun c b => b.endReact c)).each 4 (fun k b => b.judgeSto k)).gates
  pass (pass b)

/-- A stop request (R74, R131): the start state ends and the pulses are blocked at the next OUTPUT_PHASE. -/
def Blk.stopReq (b : Blk) (n : Nat) : Blk :=
  ((b.wr (R.Dn_SSTAT_SSTATE n) 0).onSeq n (fun q => { q with reopen := false, asSens := false })).onDrv n (fun d =>
    { d with reqBlock := true, rampStop := false, revStart := false, byStop := true, why := 0 })

/-- Start the stops of items 1 to 3 of R336 on a channel, with the time of STOPMAX or none for SS1. Commands of this tick
whose effect the stop undoes complete as SUPERSEDED (R43, R44; log entry 120). -/
def Blk.startStop (b : Blk) (c : Nat) (max : Option Nat) : Blk :=
  if b.configured c = false ∨ (b.hch c).gone = true then b
  else
    let b := b.supersedeAt (fun i => match i with
      | .start _ n => n.val == c
      | .energize _ n => 8 + n.val == c
      | .setSpeed _ n _ => n.val == c
      | _ => false)
    let b := b.onHch c (fun h => match h.react with
      | some (some m) => { h with react := some (some m) }
      | _ => { h with react := some max })
    if c < 8 then
      if (b.hch c).shed ∨ (b.chan c).degraded then b.stopReq c
      else if b.sstate c = 6 then b.onDrv c (fun d => { d with rampStop := true })
      else b.stopReq c
    else
      let n := c - 8
      if (b.stpState n = 1 ∨ b.stpState n = 2) ∧ ((b.hch c).shed = true ∨ (b.chan c).degraded = true) then
        b.onStp n (fun s => { s with homing := 0, homeDue := false, offReq := true })
      else if b.stpState n = 1 ∨ b.stpState n = 2 then
        let moving := decide ((b.axis c).v ≠ 0) || (b.axis c).cur.isSome
        let b := (b.stopAxis c).onStp n (fun s => { s with homing := 0, homeDue := false, deEn := true })
        if moving then b else b.onStp n (fun s => { s with offReq := true })
      else b

/-- The safe reaction of a channel (R336), bounded by STOPMAX of its output. -/
def Blk.safeReact (b : Blk) (c : Nat) : Blk :=
  b.startStop c (some (b.rd (R.HASP_STOCFG_STOPMAX (b.mapOf c)) * 100 * cycPerMs))

/-- A demand of an SS1 input on a closed output (R332). -/
def Blk.startSs1 (b : Blk) (i k : Nat) : Blk :=
  if b.on (R.HASP_STOCFG_EN k) ∧ b.stoClosed k ∧ (b.sto k).ss1 = none then
    let b := (b.flag (R.HASP_STOSTAT_SS1 k) true).onSto k (fun s =>
      { s with ss1 := some (b.rd (R.HASP_STOCFG_SS1T k) * cycPerMs), ss1In := i })
    b.eachOf (b.mapped k) (fun c b => b.startStop c none)
  else b

/-- The shed of a channel (R28) is to take effect at the next OUTPUT_PHASE. -/
def Blk.shed (b : Blk) (c : Nat) : Blk :=
  if c < 8 then b.onDrv c (fun d => { d with reqShed := true, reqBlock := true, why := 4 })
  else b.onStp (c - 8) (fun s => { s with shedReq := true })

/-- BRKn is driven from the PWM domain by its owner while the drive has its own chopper (R82, R282); without either an
activation or a test ends. -/
def Blk.brakeOff (b : Blk) (n : Nat) : Blk :=
  (b.flag (R.Dn_DCSTAT_BRK n) false).onDc n (fun d => { d with await := false, test := false })

/-- A channel loses output ownership (R74, R244): pins high-impedance, RELEASED. The axis of a stepper goes on (R253 lists
no abrupt stop here), as the partner that takes the channel continues its profile (R255). -/
def Blk.ownLost (b : Blk) (c : Nat) : Blk :=
  if c < 8 then
    let b := (b.flag (R.Dn_STAT_OWN c) false).blockTo c 5
    b.brakeOff c
  else
    let n := c - 8
    let b := if b.stpState n = 1 ∨ b.stpState n = 2 then b.abortInj c 2 else b
    let b := (b.flag (R.Sn_STAT_OWN n) false).wr (R.Sn_STAT_SSTATE n) 4
    b.onStp n (fun s => { s with en := false, enReq := false, offReq := false, dutyA := 0, dutyB := 0, stallDue := false })

/-- A channel gains output ownership (R74, R244): gates driven inactive, BLOCKED or OFF; a trip present is accepted at
once. -/
def Blk.ownGained (b : Blk) (c : Nat) : Blk :=
  if c < 8 then
    let b := ((b.flag (R.Dn_STAT_OWN c) true).wr (R.Dn_STAT_PSTATE c) 0).pinsOff c
    if b.on (R.Dn_STAT_TRIPIN c) then b.acceptTrip c 0
    else if b.on (R.Dn_TRIP_OC_EN c) && !(b.afe.ocv.getD c []).isEmpty then b.acceptTrip c 1 else b
  else (b.flag (R.Sn_STAT_OWN (c - 8)) true).wr (R.Sn_STAT_SSTATE (c - 8)) 0

/-- No loss is declared, and the module is alone or asserts its ownership line while the partner does not (R382, R383). -/
def Blk.ownsOut (b : Blk) : Bool :=
  b.rd R.HASP_STAT_HSTATE != 3 &&
    (b.rd R.MIR_STAT_PID == 0 || (b.on R.MIR_STAT_OWNOUT && (!b.on R.MIR_STAT_OWNIN || b.rd R.MIR_STAT_ROLE == 3)))

/-- Whether the module is to own channel c (R60, R382, R383): the PWM domain up, no loss declared; a paired channel
only while this module holds output ownership. -/
def Blk.ownDue (b : Blk) (c : Nat) : Bool :=
  b.powered .pwm && b.rd R.HASP_STAT_HSTATE != 3 && (!b.on (bitOf R.MIR_CHMAP_PAIRED c) || b.ownsOut)

/-- Ownership of every channel follows `ownDue`. -/
def Blk.ownSettle (b : Blk) : Blk :=
  b.each 16 (fun c b =>
    let due := b.ownDue c
    if due = b.owns c then b else if due then b.ownGained c else b.ownLost c)

/-- The role of the module (R381); the CAN controllers' restricted operation follows it (R453). -/
def Blk.setRole (b : Blk) (r : Nat) : Blk :=
  let b := b.wr R.MIR_STAT_ROLE r
  b.each 4 (fun k b => b.flag (R.CANn_STAT_RESTR k)
    (b.rd (R.CANn_CFG_MODE k) == 1 || (b.on R.MIR_CFG_CANRO && (r == 1 || r == 2 || r == 4 || r == 5))))

/-- Output ownership changes in the frame at hand (R297). -/
def Blk.ntcHold (b : Blk) : Blk := { b with thm := { b.thm with hold := some b.fn } }

/-- Hasp declares loss (R338): LOST, event 0x9306, every gate-enable removed, ownership released. -/
def Blk.loss (b : Blk) (cause : Nat) : Blk :=
  if b.rd R.HASP_STAT_HSTATE = 3 then b
  else
    let b := if b.ownsOut ∧ b.rd R.MIR_STAT_PID ≠ 0 then b.ntcHold else b
    let b := ((b.wr R.HASP_STAT_HSTATE 3).raise 0x9306 0 [Int.ofNat cause]).gates
    ((b.flag R.MIR_STAT_OWNOUT false).setRole 5).ownSettle.settle.dropInFlight

/-- A fault inside the module that would enter rung 3 (R31): loss with a ready standby, else degraded mode of the
class. -/
def Blk.rung3 (b : Blk) (cls : Nat) (chs : List Nat) : Blk :=
  if b.standbyReady then b.loss cls else b.degrade cls chs false

/-- A fault of Hasp itself, of the tick or of a rail (R338): loss with a ready standby, else a latched demand on every
output with its DSRC code. -/
def Blk.haspDemand (b : Blk) (src : Nat) : Blk :=
  if b.standbyReady then b.loss (0x10 + src)
  else
    let stos := b.hasp.stos.map (fun s => { s with manual := true })
    let latch := if b.hasp.latch.isSome then b.hasp.latch else some src
    let b := { b with hasp := { b.hasp with latch := latch, stos := stos } }
    (b.wr R.HASP_STAT_HSTATE 4).settle

end Sys2Proof.Machine
end

