-- ==== Sys2Proof/Machine/DcLink.lean ====
section
/-! DEFINITION. DC link and braking (chapter 12): the chopper and its faults, the link thresholds at a tick, the
reactions above OV2 and OV3, and the torque limits in force of R88. Voltages are in 0.1 V. -/

namespace Sys2Proof.Machine

/-- The drive whose chopper brakes the link of drive n (R282). -/
def Blk.chopOwner (b : Blk) (n : Nat) : Nat :=
  if b.rd (R.Dn_BRK_MODE n) = 2 then b.rd (R.Dn_BRK_SRC n) else n

/-- The configured drives that the chopper of drive m serves (R282). -/
def Blk.served (b : Blk) (m : Nat) : List Nat :=
  (List.range 8).filter (fun n => b.configured n &&
    ((b.rd (R.Dn_BRK_MODE n) == 1 && n == m) || (b.rd (R.Dn_BRK_MODE n) == 2 && b.rd (R.Dn_BRK_SRC n) == m)))

/-- A fast value of the link, in 0.1 V, enters the peak of Dn_DCMEAS. -/
def Blk.notePeak (b : Blk) (n : Nat) (v : Int) : Blk :=
  if Int.ofNat (b.rd (R.Dn_DCMEAS_VPK n)) < v then b.wrSat (R.Dn_DCMEAS_VPK n) v.toNat else b

/-- The drive has its own chopper on a driven BRKn (R82, R282). -/
def Blk.ownChopper (b : Blk) (n : Nat) : Bool :=
  b.configured n && b.rd (R.Dn_BRK_MODE n) == 1 && b.on (R.Dn_STAT_OWN n)

/-- The link input of drive n is valid: the fast and the trip value are its own (R279). -/
def Blk.linkValid (b : Blk) (n : Nat) : Bool := b.on (R.AFE_LMAP_VALID (3 * n + 2))

/-- BRKn goes active (R283, R285): the activation and what its verdict will be judged by. -/
def Blk.brakeOn (b : Blk) (n : Nat) (v vPast : Int) (slope : Bool) : Blk :=
  let b := (b.flag (R.Dn_DCSTAT_BRK n) true).inc (R.Dn_BRKCNT_ON n)
  b.onDc n (fun d => { d with vPast := vPast, v0 := v, slope := slope, onAge := 0, await := true })

/-- BRKn may go active at a link value (R283). -/
def Blk.brakeDue (b : Blk) (n : Nat) (v : Int) : Bool :=
  b.ownChopper n && !b.on (R.Dn_DCSTAT_BRK n) && !(b.dc n).test && decide (Int.ofNat (10 * b.rd (R.Dn_DCTH0_BRKON n)) ≤ v)

/-- BRKn is to go inactive at a link value, `since` cycles after it went active (R283). -/
def Blk.brakeOver (b : Blk) (n : Nat) (v : Int) (since : Nat) : Bool :=
  b.on (R.Dn_DCSTAT_BRK n) && !(b.dc n).test && decide (v < Int.ofNat (10 * b.rd (R.Dn_DCTH0_BRKOFF n))) &&
    decide (400 * b.rd (R.Dn_BRK_MINON n) ≤ since)

/-- BRKn goes inactive at the end of an activation; its verdict may still be to come (R285). -/
def Blk.brakeEnd (b : Blk) (n : Nat) : Blk := b.flag (R.Dn_DCSTAT_BRK n) false

/-- The fast value reaches BRKON (R283): BRKn active. -/
def Blk.doChopperOn (b : Blk) (n : Nat) (v vPast : Int) (idleBefore : Bool) : Blk :=
  let b := if b.configured n then b.notePeak n v else b
  if b.linkValid n ∧ b.brakeDue n v then b.brakeOn n v vPast idleBefore else b

/-- The pulse of a BRK_CLEAR test has lasted MINON and the hold of a stuck chopper follows it (R287). -/
def Blk.pulseOver (b : Blk) (n since : Nat) : Bool :=
  (b.dc n).test && b.on (R.Dn_DCSTAT_BRK n) && b.on (R.Dn_DCSTAT_STKD n) && decide (400 * b.rd (R.Dn_BRK_MINON n) ≤ since)

/-- BRKn goes inactive (R283, R287): the fast value falls below BRKOFF with MINON over, or a test's pulse is over. -/
def Blk.doChopperOff (b : Blk) (n : Nat) (v : Int) (since : Nat) : Blk :=
  if (b.linkValid n ∧ b.brakeOver n v since) ∨ b.pulseOver n since then b.brakeEnd n else b

/-- The levels of BRKFBn seen show conduction (R284). -/
def Blk.conducts (b : Blk) (n : Nat) (x : FbSeen) : Bool := if b.on (R.Dn_BRK_FBPOL n) then x.lo else x.hi

/-- The slope check of R285: the rise has not turned. -/
def slopeFault (v vPast v0 tol : Int) : Bool := decide (v0 - vPast + 2 * tol < 2 * (v - v0))

/-- The chopper of drive m is faulty or stuck: every served channel runs degraded for class CHOPPER (R287). -/
def Blk.chopperDegraded (b : Blk) (m : Nat) : Blk := b.degrade 4 (b.served m) false

/-- The verdict on an activation at t0 + 20 µs (R284, R285): the levels seen on BRKFBn, and the fast value. The record
names the check: 0 feedback, 1 slope, 2 both. -/
def Blk.doChopperCheck (b : Blk) (n : Nat) (lv : FbSeen) (v : Int) : Blk :=
  if (b.dc n).await = false then b
  else
    let fb := b.conducts n lv
    let b := b.flag (R.Dn_DCSTAT_BRKFB n) fb
    let d := b.dc n
    let f1 := b.on (R.Dn_BRK_FBEN n) && !fb
    let f2 := b.on (R.Dn_BRK_SLPEN n) && d.slope && slopeFault v d.vPast d.v0 (Int.ofNat (b.rd (R.Dn_BRK_SLPTOL n)))
    let b := (b.notePeak n v).onDc n (fun d => { d with await := false })
    if f1 || f2 then
      let b := b.eachOf (b.served n) (fun m b => b.flag (R.Dn_DCSTAT_CHF m) true)
      let b := if f1 then b.inc (R.Dn_BRKCNT_NOCOND n) else b
      let b := if f2 then b.inc (R.Dn_BRKCNT_SLOPE n) else b
      (b.raise 0x3332 n [if f1 then (if f2 then 2 else 0) else 1]).chopperDegraded n
    else b

/-- Qualified conduction for 20 µs while BRKn is inactive (R286): BRKFBn stands at `level`. -/
def Blk.doChopperStuck (b : Blk) (n : Nat) (level : Bool) : Blk :=
  if b.ownChopper n ∧ b.conducts n ⟨level, !level⟩ ∧ b.on (R.Dn_BRK_FBEN n) ∧ b.on (R.Dn_DCSTAT_BRK n) = false ∧ (b.dc n).test = false then
    let b := b.flag (R.Dn_DCSTAT_BRKFB n) true
    let b := b.eachOf (b.served n) (fun m b =>
      (b.flag (R.Dn_DCSTAT_CHSTK m) true).flag (R.Dn_DCSTAT_STKD m) true)
    (b.raise 0x3333 n []).chopperDegraded n
  else b

/-- BRK_CLEAR judged at its tick (R287): with CHF set a pulse of MINON begins, with STKD alone the hold. -/
def Blk.doBrkClear (b : Blk) (h : Hdr) (n : Nat) : Blk :=
  b.forTarget h 0x25 n fun b =>
  let m := b.chopOwner n
  if b.rd (R.Dn_BRK_MODE n) = 0 then b.complete h 0x25 0x06
  else if (b.dc m).test then b.complete h 0x25 0x03
  else if b.pstate m ≠ 0 then b.refuse h 0x25 0x0001
  else if b.on (R.Dn_DCSTAT_CHF m) = false ∧ b.on (R.Dn_DCSTAT_STKD m) = false then b.ok h 0x25
  else
    let b := b.onDc m (fun d => { d with test := true, onAge := 0 })
    let b := if b.on (R.Dn_DCSTAT_CHF m) = false then b.brakeEnd m
      else if b.on (R.Dn_DCSTAT_BRK m) then b
      else (b.flag (R.Dn_DCSTAT_BRK m) true).inc (R.Dn_BRKCNT_ON m)
    b.ok h 0x25

/-- The end of a BRK_CLEAR test (R287): what BRKFBn showed during the pulse and during the hold, and the fast values of the
slope check. -/
def Blk.doBrkTestEnd (b : Blk) (n : Nat) (fbPulse fbHold : FbSeen) (vPast v0 v : Int) (idleBefore : Bool) :
    Blk :=
  if (b.dc n).test = false then b
  else
    let chf := b.on (R.Dn_DCSTAT_CHF n)
    let stk := b.on (R.Dn_DCSTAT_STKD n)
    let bad := (b.on (R.Dn_BRK_FBEN n) && !b.conducts n fbPulse) ||
      (b.on (R.Dn_BRK_SLPEN n) && idleBefore && slopeFault v vPast v0 (Int.ofNat (b.rd (R.Dn_BRK_SLPTOL n))))
    let chf' := chf && bad
    let stk' := stk && b.conducts n fbHold
    let b := (b.flag (R.Dn_DCSTAT_BRK n) false).onDc n (fun d => { d with test := false })
    let b := b.eachOf (b.served n) (fun m b =>
      (b.flag (R.Dn_DCSTAT_CHF m) chf').flag (R.Dn_DCSTAT_STKD m) stk')
    if chf' || stk' then b.raise 0x3137 n [b2n chf', b2n stk']
    else (b.eachOf (b.served n) (fun m b => b.undegrade 4 m)).raise 0x3036 n []

/-- A drive takes up the latches of the chopper that now serves it (R282, R287): on one that is faulty or stuck it runs
degraded at once, and it leaves the degraded mode with the other. -/
def Blk.chopperTaken (b : Blk) (n : Nat) : Blk :=
  let m := b.chopOwner n
  let of := fun (f : Nat → Fld) => b.rd (R.Dn_BRK_MODE n) == 2 && b.on (f m)
  let was := b.on (R.Dn_DCSTAT_CHF n) || b.on (R.Dn_DCSTAT_STKD n)
  let b := (b.flag (R.Dn_DCSTAT_CHF n) (of R.Dn_DCSTAT_CHF)).flag (R.Dn_DCSTAT_STKD n) (of R.Dn_DCSTAT_STKD)
  if b.on (R.Dn_DCSTAT_CHF n) ∨ b.on (R.Dn_DCSTAT_STKD n) then b.degrade 4 [n] false
  else if was then b.undegrade 4 n else b

/-- The drive has a valid speed for R289: the port's for a sensored drive, the crossings' while SYNC is 1. -/
def Blk.validSpeed (b : Blk) (n : Nat) : Bool :=
  if b.sensorless n then b.on (R.Dn_CSTAT_SYNC n)
  else !b.on (R.FBn_STAT_INVAL (b.rd (R.Dn_CMODE_FBSEL n)))

/-- A link value at or above OV2 (R289). -/
def Blk.ov2At (b : Blk) (n : Nat) (v : Int) : Blk :=
  if b.configured n ∧ Int.ofNat (10 * b.rd (R.Dn_DCTH2_OV2 n)) ≤ v then
    ((b.notePeak n v).flag (R.Dn_DCSTAT_OV2F n) true).onDc n (fun d => { d with ov2 := true })
  else b

/-- The fast value reaches OV2 (R289). -/
def Blk.doOv2 (b : Blk) (n : Nat) (v : Int) : Blk := if b.linkValid n then b.ov2At n v else b

/-- What keeps every gate inactive whatever the pulse state asks for (R75 items 2 and 4): no gate-enable, or GRDY low. -/
def Blk.gatesHeld (b : Blk) (n : Nat) : Bool :=
  !b.gateEn n || (b.on (R.Dn_CFG_GRDY_EN n) && b.rd (R.Dn_STAT_GRDY n) != 7)

/-- The request that R289 makes at OUTPUT_PHASE, and its event: 1 active short circuit, 0 pulse block. A latched trip
keeps its action (R292). A channel whose gates R75 holds inactive stays BLOCKED (log entry 133). -/
def Blk.ov2Request (b : Blk) (n : Nat) : Blk :=
  if (b.dc n).ov2 then
    let valid := b.validSpeed n
    let asc := !valid || decide (b.rd (R.Dn_ASC_ASC_SPEED n) < magI (b.drv n).speed)
    let b := (b.onDc n (fun d => { d with ov2 := false })).raise 0x3334 n [b2n asc]
    let ps := b.pstate n
    if ps = 3 ∨ ps = 4 ∨ ps = 5 ∨ (ps = 0 ∧ b.gatesHeld n = true) then b
    else if asc then
      let b := ((b.because n 6).blockTo n 2).pinsAsc n (b.rd (R.Dn_PINS_ACTV n))
      b.onDc n (fun d => { d with ascHold := true, ascLeft := b.rd (R.Dn_ASC_ASCHOLD n) })
    else if ps = 0 then b
    else ((b.because n 6).blockTo n 0).onDc n (fun d => { d with ascHold := false })
  else b

/-- ASCHOLD counts down at each OUTPUT_PHASE after the one that applied the short circuit (R290). -/
def Blk.ascCount (b : Blk) (n : Nat) : Blk := b.onDc n (fun d => { d with ascLeft := d.ascLeft - 1 })

/-- The hold of R290 ends: the port speed at or below 7/8 of ASC_SPEED, or without a valid one, as a sensorless drive's
shorted winding gives none, ASCHOLD counted. -/
def Blk.doAscEnd (b : Blk) (n : Nat) : Blk :=
  let fin := if b.sensorless n = false ∧ b.validSpeed n = true then
      decide (8 * magI (b.drv n).speed ≤ 7 * b.rd (R.Dn_ASC_ASC_SPEED n))
    else (b.dc n).ascLeft == 0
  if b.pstate n = 2 ∧ (b.dc n).ascHold = true ∧ fin = true then
    (b.blockTo n 0).onDc n (fun d => { d with ascHold := false })
  else b

/-- Set or clear the OV3 line of a drive at Hasp (R291). -/
def Blk.ov3Line (b : Blk) (n : Nat) (on : Bool) : Blk :=
  { b with hasp := { b.hasp with ov3 := b.hasp.ov3.set n on } }

/-- The OV3 threshold in steps of DCFS / 256 (R280). -/
def Blk.ov3Steps (b : Blk) (n : Nat) : Nat := b.rd (R.Dn_DCTH2_OV3 n) * 256 / max 1 (b.rd (R.AFE_VSC_DCFS n))

/-- A trip value of `v` steps against the OV3 threshold (R291): the demand begins at or above it and ends below it. -/
def Blk.ov3At (b : Blk) (n v : Nat) : Blk :=
  if b.configured n ∧ b.ov3Steps n ≤ v then
    if b.hasp.ov3.getD n false then b
    else (((b.flag (R.Dn_DCSTAT_OV3F n) true).raise 0x3335 n []).ov3Line n true).settle
  else if b.hasp.ov3.getD n false then (b.ov3Line n false).settle else b

/-- The trip value reaches the OV3 threshold (R291). -/
def Blk.doOv3 (b : Blk) (n v : Nat) : Blk := if b.linkValid n ∧ b.ov3Steps n ≤ v then b.ov3At n v else b

/-- The first trip value below the OV3 threshold (R291). -/
def Blk.doOv3End (b : Blk) (n v : Nat) : Blk := if b.linkValid n ∧ v < b.ov3Steps n then b.ov3At n v else b

/-- The comparisons of a SAMPLE_PHASE (R279): while the link input is invalid the chopper, OV2 and OV3 follow the value that
R157 puts in its place, in 0.1 V, each SAMPLE_PHASE. No slope is judged on it; MINON is counted in whole frames
(log entry 157). -/
def Blk.linkSample (b : Blk) (n : Nat) (v : Int) : Blk :=
  let b := b.onDc n (fun d => { d with onAge := d.onAge + b.period })
  let b := if b.pulseOver n (b.dc n).onAge then b.brakeEnd n else b
  if b.linkValid n then b
  else
    let b := if b.brakeDue n v then b.brakeOn n v v false else b
    let b := if b.brakeOver n v (b.dc n).onAge then b.brakeEnd n else b
    (b.ov2At n v).ov3At n (v * 256 / (10 * max 1 (Int.ofNat (b.rd (R.AFE_VSC_DCFS n))))).toNat

/-- The latched link value judged at a tick (R280, R288): UV with its hysteresis, OV1, and the clamp of a faulty
chopper. -/
def Blk.linkTick (b : Blk) (n : Nat) : Blk :=
  if b.configured n then
    let v := b.rd (R.Dn_DCMEAS_VDC n)
    let uv := 10 * b.rd (R.Dn_DCTH1_UV n)
    let low := decide (v < uv)
    let was := b.on (R.Dn_DCSTAT_MOTCLMP n)
    let clamp := low || (was && decide (v < uv + 10 * b.rd (R.Dn_BRK_UVHYS n)))
    let b := (b.flag (R.Dn_DCSTAT_UVF n) low).flag (R.Dn_DCSTAT_MOTCLMP n) clamp
    let b := if clamp && !was then b.raise 0x3131 n [] else b
    let high := decide (10 * b.rd (R.Dn_DCTH1_OV1 n) < v)
    let b := b.flag (R.Dn_DCSTAT_OV1F n) high
    let b := (if high then b.raiseLim 1024 0x3130 n [] else b).onDc n (fun d => { d with vTick := v })
    b.flag (R.Dn_DCSTAT_GENCLMP n) (b.rd (R.Dn_BRK_MODE n) != 0 && b.on (R.Dn_DCSTAT_CHF (b.chopOwner n)))
  else b

/-- An input of drive n is invalid and caps its limits at half (R157). -/
def Blk.halfCap (b : Blk) (n : Nat) : Bool :=
  (List.range 3).any (fun i => !b.on (R.AFE_LMAP_VALID (3 * n + i)))

/-- Steps 1 and 2 of the limits of R88: the cap at half, then the derating factor. -/
def Blk.capped (b : Blk) (n lim : Nat) : Int :=
  let l := if b.halfCap n then lim / 2 else lim
  stQ (pMul (Int.ofNat l) (Int.ofNat (b.rd (R.THM_Dn_STAT_FACT n))) 0)

/-- The motoring limit in force (R88). -/
def Blk.motLimit (b : Blk) (n : Nat) : Int :=
  if b.on (R.Dn_DCSTAT_MOTCLMP n) then 0 else b.capped n (b.rd (R.Dn_TLIM_MOT n))

/-- The regenerating limit in force (R88, R280, R288), scaled from a tick on by the value latched before it; between OV1 and
OV2 it is rounded down (log entry 154). -/
def Blk.genLimit (b : Blk) (n : Nat) : Int :=
  if b.on (R.Dn_DCSTAT_GENCLMP n) then 0
  else
    let l := b.capped n (b.rd (R.Dn_TLIM_GEN n))
    if b.on (R.Dn_DCSTAT_OV1F n) then
      let ov1 := Int.ofNat (10 * b.rd (R.Dn_DCTH1_OV1 n))
      let ov2 := Int.ofNat (10 * b.rd (R.Dn_DCTH2_OV2 n))
      if ov2 ≤ ov1 then 0 else l * max 0 (ov2 - Int.ofNat (b.dc n).vTick) / (ov2 - ov1)
    else l

/-- A torque current under a motoring limit m and a regenerating limit g (R88): motoring where it has the sign of the
measured speed; at speed 0 nothing is regenerated (log entry 20). -/
def limitBy (m g iq speed : Int) : Int :=
  if speed = 0 then satI iq (-m) m else if 0 < speed then satI iq (-g) m else satI iq (-m) g

/-- iq* under the limits of R88. -/
def Blk.limitIq (b : Blk) (n : Nat) (iq speed : Int) : Int := limitBy (b.motLimit n) (b.genLimit n) iq speed

end Sys2Proof.Machine
end

