-- ==== Sys2Proof/Machine/Afe.lean ====
section
/-! DEFINITION. The measurement front end (chapter 6): latching the samples, filter lanes and their spares, SAR
converters and their rotation, offsets, gain checks, trim tables, inputs without a valid source. -/

namespace Sys2Proof.Machine

/-- The channel that input SDi belongs to (R136). -/
def chanOfInput (i : Nat) : Nat := if i < 24 then i / 3 else 8 + (i - 24) / 2

/-- Carrier period in units of 78.125 ps (R61). -/
def Blk.carrier (b : Blk) (n : Nat) : Nat := 16 * b.period * 2 ^ b.rd (R.Dn_CFG_RATIO n)

/-- Frames from one anchor frame to the next (R62). -/
def Blk.anchorSpan (b : Blk) (n : Nat) : Nat := max 1 (2 ^ b.rd (R.Dn_CFG_RATIO n) / 2)

/-- A tick passes the carrier of drive n: the frame that ended had its own length (R50, R62, R63). -/
def Blk.anchorTick (b : Blk) (n : Nat) : Blk :=
  let span := b.anchorSpan n
  b.onDrv n (fun d =>
    let t := d.aCyc + b.tick.ended
    if (d.anchor + 1) % span = 0 then { d with anchor := d.anchor + 1, aCyc := 0, aPrev := t }
    else { d with anchor := d.anchor + 1, aCyc := t })

/-- Carrier units since the last anchor valley, `t` SYSCLK cycles after the last tick (R62, R63). -/
def Blk.anchorPos (b : Blk) (n : Nat) (t : Int) : Nat :=
  let d := b.drv n
  let x := Int.ofNat d.aCyc + t - Int.ofNat (b.rd (R.Dn_CARR_OFS n))
  (32 * (if x < 0 then x + Int.ofNat d.aPrev else x)).toNat

/-- Carrier units since the last valley; the last cycle before an anchor valley takes the change of a frame's length in its
low part (R63). -/
def Blk.sinceValley (b : Blk) (n : Nat) (t : Int) : Nat :=
  let pf := max 1 (b.carrier n)
  let pos := b.anchorPos n t
  pos - min (pos / pf) (if b.rd (R.Dn_CFG_RATIO n) = 0 then 1 else 0) * pf

/-- Where the carrier of drive n stands `cyc` SYSCLK cycles after the last tick (R62 to R64): carrier units since its last
valley, the length of the running carrier cycle, and whether that is the short cycle after a forced valley. -/
def Blk.carrierAt (b : Blk) (n cyc : Nat) : Nat × Nat × Bool :=
  let d := b.drv n
  if d.anchor = 0 ∧ 32 * cyc < d.shortCyc then (32 * cyc, d.shortCyc, true)
  else (b.sinceValley n (Int.ofNat cyc), max 1 (b.carrier n), false)

/-- The reload point of drive n in the cycle `cyc` after the last tick (R62, R68): some false at a valley, some true at a
peak, which lies midway between two valleys; none elsewhere. -/
def Blk.reloadAt (b : Blk) (n cyc : Nat) : Option Bool :=
  let p := b.carrierAt n cyc
  if p.1 < p.2.1 ∧ (p.2.1 - p.1) % p.2.1 < 32 then some false
  else if p.1 ≤ p.2.1 / 2 ∧ p.2.1 / 2 < p.1 + 32 then some true else none

/-- N_on of R66 and R67: on-time of the leading device before dead time, for carrier period `pf`. -/
def Blk.nOn (b : Blk) (n pf : Nat) (d : Int) : Nat :=
  if b.on (R.Dn_CFG_TOPO n) then (magI d * pf + 16384) / 32768
  else ((d + 32768).toNat * pf + 32768) / 65536

/-- Converters of the SAR front end that are left in service: one converts every phase voltage then (R154). -/
def Blk.oneCv (b : Blk) : Bool := b.afe.service.length == 1

/-- Where the phase voltages were held (R143, SAMPLE_PHASE less 1,024 cycles, or 2,048 with one converter left, R154), in
carrier units since the last valley (R62). -/
def Blk.heldPos (b : Blk) (n : Nat) : Nat :=
  let lead : Int := if b.oneCv then 2048 else 1024
  b.sinceValley n (Int.ofNat (b.rd R.TICK_SPHASE_PHASE) - lead)

/-- The distance of that point from the carrier peak. -/
def Blk.heldFromPeak (b : Blk) (n : Nat) : Nat :=
  let pf := b.carrier n
  let pos := b.heldPos n
  if pf / 2 ≤ pos then pos - pf / 2 else pf / 2 - pos

/-- The hold of the phase voltages fell in the upper zero vector of a running stage: every leg's upper devices on (R66, R67,
R155, R157). -/
def Blk.upperZero (b : Blk) (n : Nat) : Bool :=
  b.pstate n == 1 && (b.drv n).active.all (fun l =>
    !l.float && (!b.on (R.Dn_CFG_TOPO n) || decide (0 < l.d)) && decide (2 * b.heldFromPeak n < b.nOn n (b.carrier n) l.d))

/-- At the hold the lower devices of leg k had conducted for at least 2 µs since their last edge (R70, R145). -/
def Blk.lowerOn (b : Blk) (n k : Nat) (l : Leg) : Bool :=
  let pf := Int.ofNat (b.carrier n)
  let pos := Int.ofNat (b.heldPos n)
  let on := Int.ofNat (b.nOn n (b.carrier n) l.d)
  let h := on / 2
  let dt := Int.ofNat (b.rd (R.Dn_DEADT_DT n k))
  if l.float then false
  else if b.on (R.Dn_CFG_TOPO n) then
    decide (l.d < 0) && decide (pf / 2 - h + dt + 25600 ≤ pos) && decide (pos < pf / 2 + on - h)
  else
    let since := pos - (pf / 2 + on - h + dt)
    decide (25600 ≤ since) || (decide (pos < pf / 2 - h) && decide (25600 ≤ since + pf))

/-- The hold fell in the lower zero vector, all three lower devices conducting for at least 2 µs (R145). -/
def Blk.lowerZero (b : Blk) (n : Nat) : Bool :=
  b.pstate n == 1 && (List.range 3).all (fun k => b.lowerOn n k ((b.drv n).active.getD k ⟨true, 0⟩))

/-- A sinc3 filter's output for the ones in its window, and the Q15 value that its lane delivers (R138); `code` is the
field of AFE_OSR. -/
def sinc3 (code ones : Nat) : Int := 2 * Int.ofNat (min ones ((2 ^ (5 + code)) ^ 3)) - Int.ofNat ((2 ^ (5 + code)) ^ 3)
def sinc3Q15 (code ones : Nat) : Int := min (halfUp (sinc3 code ones) (2 ^ (3 * (5 + code) - 15))) 32767

/-- Q15 of the sinc3 filter after the correction in force (R146). -/
def corrected (raw cor : Int) : Int := sat16 (raw - cor)

/-- A phase voltage in Q15 (R142): the code shifted right by one, less the correction in force. -/
def pvQ15 (code : Nat) (cor : Int) : Int := sat16 (Int.ofNat (code / 2) - cor)

/-- The link voltage in 0.1 V from its Q15 value (AFE_VSC.DCFS), rounded half up (log entry 21). -/
def Blk.dcVolts (b : Blk) (n : Nat) (q : Int) : Int :=
  halfUp (q * Int.ofNat (10 * b.rd (R.AFE_VSC_DCFS n))) 32768

/-- The place in service of the converter that converts the phase voltages of drive n (log entry 22); with one converter
left it converts all (R154). -/
def Blk.pvPlace (b : Blk) (n : Nat) : Nat := if n < 4 ∨ b.oneCv = true then 0 else 1

/-- One current input at SAMPLE_PHASE: rebuilt by `model` where it has no valid source (R157), kept where a lane is being
replaced (R149), else corrected. -/
def Blk.current (b : Blk) (i : Nat) (raw old cor model : Int) : Int :=
  if b.on (R.AFE_LMAP_VALID i) = false then sat16 model
  else if b.afe.heldIn.contains i then old
  else corrected raw cor

/-- A lost phase current from the other phase and the motor model (R157, log entry 158). -/
def Blk.rebuilt (b : Blk) (n : Nat) (other : Int) : Int :=
  let d := b.drv n
  Config.phaseModel other d.theta d.idRef d.iqRef

/-- The link input at SAMPLE_PHASE; without a valid source it is taken from the phase voltages at an upper zero vector,
else it stays (R157). -/
def Blk.linkInput (b : Blk) (n : Nat) (x old : DriveMeas) : Int :=
  if b.on (R.AFE_LMAP_VALID (3 * n + 2)) = false then
    if b.upperZero n then
      let pv := Int.ofNat (b.rd (R.AFE_VSC_PVFS n))
      let dc := Int.ofNat (max 1 (b.rd (R.AFE_VSC_DCFS n)))
      let mean := (pvQ15 x.pvA (b.afe.pvCor.getD (3 * n) 0) + pvQ15 x.pvB (b.afe.pvCor.getD (3 * n + 1) 0) +
        pvQ15 x.pvC (b.afe.pvCor.getD (3 * n + 2) 0)) / 3
      sat16 (halfUp (mean * pv) dc)
    else old.vdc
  else if b.afe.heldIn.contains (3 * n + 2) then old.vdc
  else corrected x.vdc 0

/-- Replace entry i of a list. -/
def putAt {α : Type} (l : List α) (i : Nat) (x : α) : List α := l.set i x

/-- Event 0x6103 for an input whose filter stood at its range limit for the whole frame (R158). -/
def Blk.railed (b : Blk) (i : Nat) (x : ModSample) : Blk := if x.full then b.raise 0x6103 i [] else b

/-- One drive's inputs latched at SAMPLE_PHASE (R138, R139, R142, R149, R153, R157, R279). -/
def Blk.latchDrive (b : Blk) (n : Nat) (s : DriveSample) : Blk :=
  if b.configured n then
    let osr := b.rd (sliceOf R.AFE_OSR_DOSR n 2)
    let x : DriveMeas :=
      ⟨sinc3Q15 osr s.iA.ones, sinc3Q15 osr s.iB.ones, sinc3Q15 osr s.vdc.ones, s.pvA, s.pvB, s.pvC, s.tripLow⟩
    let old := b.afe.drv.getD n default
    let oA := b.rdS (R.AFE_IOFS_IA n)
    let oB := b.rdS (R.AFE_IOFS_IB n)
    let iA := b.current (3 * n) x.iA old.iA oA (b.rebuilt n (corrected x.iB oB))
    let iB := b.current (3 * n + 1) x.iB old.iB oB (b.rebuilt n (corrected x.iA oA))
    let dc := b.linkInput n x old
    let heldPv := b.afe.heldCv == some (b.pvPlace n) || b.afe.service.isEmpty
    let y : DriveMeas := if heldPv then ⟨iA, iB, dc, old.pvA, old.pvB, old.pvC, x.tripLow⟩
      else ⟨iA, iB, dc, x.pvA, x.pvB, x.pvC, x.tripLow⟩
    let b := b.onAfe (fun a => { a with drv := putAt a.drv n y, rawD := putAt a.rawD n x })
    let b := b.flag (R.Dn_STAT_TRIPIN n) x.tripLow
    let v := max 0 (b.dcVolts n dc)
    let b := ((b.wrSat (R.Dn_DCMEAS_VDC n) v.toNat).notePeak n v).linkSample n v
    let b := b.flag (R.Dn_DCSTAT_BRKFB n) (b.rd (R.Dn_BRK_MODE n) != 2 && b.conducts n ⟨s.brkfb, !s.brkfb⟩)
    ((b.railed (3 * n) s.iA).railed (3 * n + 1) s.iB).railed (3 * n + 2) s.vdc
  else b

/-- One stepper's inputs latched at SAMPLE_PHASE; a winding without a valid source reads 0, its loop being open (R157). -/
def Blk.latchStep (b : Blk) (n : Nat) (s : StepSample) : Blk :=
  if b.configured (8 + n) then
    let osr := b.rd (sliceOf R.AFE_OSR_SOSR n 2)
    let x : StepMeas := ⟨sinc3Q15 osr s.iA.ones, sinc3Q15 osr s.iB.ones, s.fltLow⟩
    let old := b.afe.stp.getD n default
    let iA := b.current (24 + 2 * n) x.iA old.iA (b.rdS (R.AFE_SIOFS_WA n)) 0
    let iB := b.current (25 + 2 * n) x.iB old.iB (b.rdS (R.AFE_SIOFS_WB n)) 0
    let b := b.onAfe (fun a => { a with stp := putAt a.stp n ⟨iA, iB, x.fltLow⟩, rawS := putAt a.rawS n x })
    let b := b.flag (R.Sn_STAT_FLTIN n) x.fltLow
    (b.railed (24 + 2 * n) s.iA).railed (25 + 2 * n) s.iB
  else b

/-- AVG in force (R144): one conversion with a single converter left (R154). -/
def Blk.avgInForce (b : Blk) : Nat := if b.oneCv then 1 else 2 ^ b.rd R.AFE_SLOW_AVG

/-- The average of the conversions of a frame (R144), rounded half up (log entry 142); none until AVG of them were made. -/
def slowMean (avg : Nat) (l : List Nat) : Option Nat :=
  if l.length < avg then none else some (((l.take avg).sum + avg / 2) / avg)

/-- The table value of a bin (R156): an empty bin is interpolated between its filled neighbours, or takes the value of the
nearest filled bin beyond which there is none (log entry 143); none where no bin is filled. -/
def tabAt (l : List (Option Int)) (bin : Nat) : Option Int :=
  let at_ := fun i => l.getD i none
  let lo := ((List.range (bin + 1)).reverse.find? (fun i => (at_ i).isSome)).bind (fun i => (at_ i).map (fun v => (i, v)))
  let hi := ((List.range (64 - bin)).find? (fun i => (at_ (bin + i)).isSome)).bind (fun i => (at_ (bin + i)).map (fun v => (bin + i, v)))
  match lo, hi with
  | some (i, v), some (j, w) => if i = j then some v else some (v + halfUp ((w - v) * Int.ofNat (bin - i)) (Int.ofNat (j - i)))
  | some (_, v), none => some v
  | none, some (_, w) => some w
  | none, none => none

/-- The bin of R156 for a temperature in 0.0625 °C. -/
def trimBin (t : Int) : Nat := (satI ((t + 480) / 40) 0 63).toNat

/-- The bin of Flint-B at the present die temperature (R156). -/
def Blk.flintBin (b : Blk) : Nat := trimBin (b.rdS (R.AFE_DIE_TEMP (Config.flintbSensor % 6)))

/-- The slow inputs and the die sensors at SAMPLE_PHASE (R144, R153, R156): the averages completed in the previous frame are
latched, and this frame's conversions are averaged. While Flint-B is the reference it is trimmed from the table at each
reading of its die sensor (R498). -/
def Blk.latchSlow (b : Blk) (s : Samples) : Blk :=
  let avg := b.avgInForce
  let en := fun k => b.on (bitOf R.AFE_SLOW_EN k) && !b.afe.service.isEmpty
  let was := b.afe.ain
  let b := b.each 24 (fun k b =>
    match was.getD k none with
    | some v => if en k then (b.wr (R.AFE_AIN_VAL k) v).flag (R.AFE_AIN_VALID k) true else b.flag (R.AFE_AIN_VALID k) false
    | none => b.flag (R.AFE_AIN_VALID k) false)
  let b := b.onAfe (fun a => { a with ain := (List.range 24).map (fun k =>
    if en k = false then none
    else if a.heldCv = some (if b.oneCv then 0 else k % 2) then some (b.rd (R.AFE_AIN_VAL k))
    else slowMean avg (s.ain.getD k [])) })
  let b := b.each 6 (fun k b => b.wrS (R.AFE_DIE_TEMP k) (s.die.getD k 0))
  if b.rd R.CLK_STAT_REFSEL = 1 then { b with clk := { b.clk with trim := tabAt b.afe.tabF b.flintBin } } else b

/-- The magnitudes that R140 compares with OCTH: phases A, B and −(A + B) of a drive, the windings of a stepper. -/
def ocMags (c : Nat) (o : Int × Int) : List Nat :=
  if c < 8 then [magI o.1, magI o.2, magI (o.1 + o.2)] else [magI o.1, magI o.2]

/-- A verdict of phase or winding `p` clears at its first output below OCTH (R140, log entry 23). -/
def Blk.clearOcv (b : Blk) (c : Nat) (outs : List (Int × Int)) : Blk :=
  let th := b.rd (R.AFE_OCTH_OCTH c)
  let stays := fun (p : Nat) => outs.all (fun o => decide (th ≤ (ocMags c o).getD p 0))
  b.onAfe (fun a => { a with ocv := putAt a.ocv c ((a.ocv.getD c []).filter stays) })

/-- The phases or windings whose last OCCNT + 1 outputs reach OCTH (R140). -/
def Blk.ocReached (b : Blk) (c : Nat) (outs : List (Int × Int)) : List Nat :=
  let k := b.rd (R.AFE_OCTH_OCCNT c) + 1
  let th := b.rd (R.AFE_OCTH_OCTH c)
  let run := outs.drop (outs.length - k)
  (List.range (if c < 8 then 3 else 2)).filter (fun p =>
    decide (k ≤ outs.length) && run.all (fun o => decide (th ≤ (ocMags c o).getD p 0)))

/-- The code of hold capacitor i, three to a drive, as the in-service converter gave it (R143). -/
def pvCode (l : List DriveSample) (i : Nat) : Nat :=
  let d := l.getD (i / 3) default
  if i % 3 = 0 then d.pvA else if i % 3 = 1 then d.pvB else d.pvC

/-- The rotating converter's work in a frame (R152, R153): four hold capacitors converted again, in turn through all 24; a
result more than 16 codes away holds the inputs of the in-service converter concerned in this frame. -/
def Blk.shadowSar (b : Blk) (s : Samples) : Blk :=
  if b.rd R.AFE_SARSTAT_ROTC = 3 then b
  else
    let first := b.afe.again
    let bad := (List.range s.again.length).find? (fun k =>
      decide (16 < magI (Int.ofNat (s.again.getD k 0) - Int.ofNat (pvCode s.drives (first + k)))))
    let b := match bad with
      | some k => b.onAfe (fun a => { a with heldCv := some (b.pvPlace ((first + k) / 3)) })
      | none => b
    b.onAfe (fun a => { a with again := (a.again + 4) % 24 })

/-- A conversion of the 0.5 reference lies more than 16 codes from what the converter's trims make of it (R153), offset in
1/16 code and gain in 2^−20; `l` holds the conversions of 0, 0.125, 0.5 and 0.875 of full scale, four each. -/
def refBad (trim : Int × Int) (l : List Nat) : Bool :=
  ((l.drop 8).take 4).any (fun code =>
    decide (512 < magI (32 * (Int.ofNat code - 32768) - (2 * trim.1 + trim.2))))

/-- Converters that converted the references fit their trims (R152, R154); the rotating one works with its fit at once. With
no converter rotating those in service convert them, and one that fails the 0.5 reference retires as R153 has it (DEDUCED,
log entry 162). -/
def Blk.fitRefs (b : Blk) (s : Samples) : Blk :=
  s.refs.foldl (fun b r =>
    let k := r.1.val
    let fit := (Config.sarFit r.2 0, Config.sarFit r.2 1)
    let rot := decide (b.rd R.AFE_SARSTAT_ROTC = k)
    let lost := b.rd R.AFE_SARSTAT_ROTC == 3 && b.afe.service.contains k && refBad (b.afe.trims.getD k (0, 0)) r.2
    let b := b.onAfe (fun a => { a with fits := putAt a.fits k fit, drift := putAt a.drift k (Config.sarFit r.2 2),
                                        trims := if rot then putAt a.trims k fit else a.trims,
                                        retCv := if lost then (a.retCv ++ [k]).eraseDups else a.retCv })
    if rot then (b.wrS (R.AFE_SARCAL_OFS k) (sat16 fit.1)).wrS (R.AFE_SARCAL_GAIN k) (sat16 (fit.2 / 4)) else b) b

/-- What the front end does at SAMPLE_PHASE. -/
def Blk.afeSample (b : Blk) (s : Samples) : Blk :=
  if b.powered .afe then
    let b := (b.fitRefs s).shadowSar s
    let b := b.each 8 (fun n b => b.latchDrive n (s.drives.getD n default))
    let b := b.each 8 (fun n b => b.latchStep n (s.steps.getD n default))
    let b := b.each 8 (fun n b => b.clearOcv n (s.drives.getD n default).oc)
    (b.each 8 (fun n b => b.clearOcv (8 + n) (s.steps.getD n default).oc)).latchSlow s
  else b

/-- Phases or windings `ps` of channel c have reached an overcurrent verdict (R140): a drive with OC_EN trips (R78), a
stepper latches a fault (R245). -/
def Blk.ocVerdict (b : Blk) (c : Nat) (ps : List Nat) : Blk :=
  if b.configured c = false ∨ b.rd (R.AFE_OCTH_OCTH c) = 0 ∨ b.powered .afe = false ∨ ps = [] then b
  else
    let b := b.onAfe (fun a => { a with ocv := putAt a.ocv c (a.ocv.getD c [] ++ ps).eraseDups })
    if c < 8 then (if b.on (R.Dn_TRIP_OC_EN c) then b.acceptTrip c 1 else b) else b.stpOc (c - 8)

/-- OVERCURRENT_VERDICT (R140): OCCNT + 1 consecutive sinc2 outputs of one phase or winding reach OCTH. -/
def Blk.doOcVerdict (b : Blk) (c : Nat) (outs : List (Int × Int)) : Blk := b.ocVerdict c (b.ocReached c outs)

/-- The bit of lane l in AFE_LRET. -/
def laneBit (l : Nat) : Fld := if l < 32 then bitOf R.AFE_LRET_LO_RET l else bitOf R.AFE_LRET_HI_RET (l - 32)

/-- The spare lanes left. -/
def Afe.spares (a : Afe) : List Nat := a.groups.flatMap (fun g => [g.la, g.lb]) ++ a.reserve

/-- Form shadow groups of two from the reserve, at most two groups (R147); a new group begins at input `i` that no other
group shadows. One spare left is held as a reserve (R150). -/
def Afe.regroup (a : Afe) (i : Nat) : Afe :=
  match a.reserve with
  | x :: y :: rest =>
    if a.groups.length < 2 then
      let inp := if a.groups.any (fun g => g.inp == i) then (i + 1) % 40 else i
      { a with groups := a.groups ++ [⟨x, y, inp, 0⟩], reserve := rest }
    else a
  | _ => a

/-- AFE_LSTAT follows the groups and spares. -/
def Blk.showLanes (b : Blk) : Blk :=
  let g := b.afe.groups
  let b := (b.wr R.AFE_LSTAT_SPARES b.afe.spares.length).wr R.WARD_SPARE_LANES b.afe.spares.length
  let b := b.flag R.AFE_LSTAT_ROT (!g.isEmpty)
  let b := b.wr R.AFE_LSTAT_SHX (((g[0]?).map (·.inp)).getD 63)
  b.wr R.AFE_LSTAT_SHY (((g[1]?).map (·.inp)).getD 63)

/-- A lane retires (R147, R148): its bit, event 0x6201, the count of the input it saw; event 0x6203 with one spare left
(R150). -/
def Blk.retireLane (b : Blk) (l : Nat) (inp : Option Nat) : Blk :=
  let b := ((b.flag (laneBit l) true).raise 0x6201 l []).showLanes
  let b := match inp with
    | some i => b.inc (R.AFE_LMAP_MISM i)
    | none => b
  if b.afe.spares.length = 1 then b.raise 0x6203 0 [] else b

/-- Take lane l out of the spares; the group it was in dissolves into the reserve. -/
def Afe.dropSpare (a : Afe) (l : Nat) : Afe :=
  let hit := a.groups.filter (fun g => g.la == l || g.lb == l)
  let keep := a.groups.filter (fun g => !(g.la == l || g.lb == l))
  let freed := (hit.flatMap (fun g => [g.la, g.lb])).filter (fun x => x != l)
  let i := (hit.head?.map (·.inp)).getD 0
  { a with groups := keep, reserve := a.reserve.filter (fun x => x != l) ++ freed }.regroup i

/-- An input is left without a valid source (R157, R150, R374): degraded mode of class LANE for its channel; a stuck
line lies outside the module, the rest is a fault inside it (R31). -/
def Blk.loseInput (b : Blk) (i : Nat) (outer : Bool) : Blk :=
  let b := b.flag (R.AFE_LMAP_VALID i) false
  let c := chanOfInput i
  if b.configured c = false then b
  else if outer then b.degrade 1 [c] true
  else (b.raise 0x6301 i []).rung3 1 [c]

/-- Lane l, a spare, takes over input i at once. -/
def Blk.serveInput (b : Blk) (i l : Nat) : Blk :=
  (b.wr (R.AFE_LMAP_LANE i) l).onAfe (fun a => a.dropSpare l)

/-- Lane l, which has shadowed input i, is its live lane from the next tick on (R148). -/
def Blk.serveNext (b : Blk) (i l : Nat) : Blk :=
  b.onAfe (fun a => { a.dropSpare l with nextLane := a.nextLane.filter (fun x => x.1 != i) ++ [(i, l)] })

/-- The spare that serves next outside a shadow: the reserve, else the lowest lane of the shadow groups (R149). -/
def Afe.nextSpare (a : Afe) : Option Nat :=
  match (if a.reserve.isEmpty then a.groups.flatMap (fun g => [g.la, g.lb]) else a.reserve) with
  | [] => none
  | x :: xs => some (xs.foldl min x)

/-- Insert an input among those served in this frame, the lowest first. -/
def insertInput (i : Nat) : List Nat → List Nat
  | [] => [i]
  | x :: xs => if i < x then i :: x :: xs else x :: insertInput i xs

/-- A live lane fails outside a shadow: a spare takes its input, which keeps its value in this frame (R149). Of inputs that
fail in one frame the lower-numbered is served first (R151): it has the spare that an order by number gives it, and the
highest is left without a source where the spares do not reach (R150). -/
def Blk.replaceLane (b : Blk) (i : Nat) : Blk :=
  let old := b.afe.served
  let ins := insertInput i (old.map (·.1))
  let sp := b.afe.nextSpare
  let b := match sp with
    | some l => b.onAfe (fun a => a.dropSpare l)
    | none => b
  let pairs := ins.zip (old.map (·.2) ++ sp.toList)
  let b := pairs.foldl (fun b x => b.wr (R.AFE_LMAP_LANE x.1) x.2) b
  let b := b.onAfe (fun a => { a with served := pairs, heldIn := i :: a.heldIn })
  b.eachOf (ins.drop pairs.length) (fun j b => b.loseInput j false)

/-- LANE_RESIDUE_FAIL (R147, R149, R151): a spare leaves the spares; a shadowed live lane is replaced by its shadow with
no hold; another live lane by a spare, and so is one that was to serve from the next tick on (R32). -/
def Blk.doResidue (b : Blk) (l : Nat) : Blk :=
  if b.on (laneBit l) ∨ b.powered .afe = false then b
  else if b.afe.spares.contains l then
    let i := (b.afe.groups.find? (fun g => g.la == l || g.lb == l)).map (·.inp)
    (b.onAfe (fun a => a.dropSpare l)).retireLane l i
  else match b.afe.nextLane.find? (fun x => x.2 == l) with
    | some x =>
      let b := b.onAfe (fun a => { a with nextLane := a.nextLane.filter (fun y => y.2 != l) })
      (b.replaceLane x.1).retireLane l (some x.1)
    | none => match (List.range 40).find? (fun i => b.rd (R.AFE_LMAP_LANE i) == l) with
      | none => b.retireLane l none
      | some i => match b.afe.groups.find? (fun g => g.inp == i) with
        | some g => (b.serveNext i g.la).retireLane l (some i)
        | none => (b.replaceLane i).retireLane l (some i)

/-- SHADOW_MISMATCH (R148): of the three lanes on the shadowed input the one outvoted retires (0 the live lane). Of the two
agreeing spares, which R148 does not tell apart, the first of the group becomes the live lane (DESIGN CHOICE, log entry
163). -/
def Blk.doShadowMismatch (b : Blk) (g out : Nat) : Blk :=
  match b.afe.groups[g]? with
  | none => b
  | some s =>
    if b.powered .afe = false then b
    else if out = 0 then
      let l := b.rd (R.AFE_LMAP_LANE s.inp)
      (b.serveNext s.inp s.la).retireLane l (some s.inp)
    else
      let l := if out = 1 then s.la else s.lb
      (b.onAfe (fun a => a.dropSpare l)).retireLane l (some s.inp)

/-- SHADOW_ROTATE (R147): after 256 frames the group moves to the next input that the other group does not shadow. -/
def Blk.doShadowRotate (b : Blk) (g : Nat) : Blk :=
  match b.afe.groups[g]? with
  | none => b
  | some s =>
    if s.fr < 256 ∨ b.powered .afe = false then b
    else
      let busy := fun i => b.afe.groups.any (fun x => x.inp == i)
      let i := (s.inp + 1) % 40
      let i := if busy i then (i + 1) % 40 else i
      (b.onAfe (fun a => { a with groups := a.groups.set g { s with inp := i, fr := 0 } })).showLanes

/-- How many bins of a table are filled. -/
def filled (l : List (Option Int)) : Nat := (l.filter Option.isSome).length

/-- The reference drift of converter k enters its table (R152, R156), in the bin of the sensor nearest it (log entry 50). -/
def Blk.sarDrift (b : Blk) (k : Nat) : Blk :=
  let bin := trimBin (b.rdS (R.AFE_DIE_TEMP (Config.sarSensor k % 6)))
  let b := b.onAfe (fun a => { a with tabS := putAt a.tabS bin (some (a.drift.getD k 0)) })
  b.wrSat R.AFE_TBIN_SBINS (filled b.afe.tabS)

/-- SAR_ROTATE (R152, R154): at a tick with FRAME_NO mod 4,096 = 0 the rotating converter returns with the trims it has
fitted and the longest serving one leaves; not where a converter is found failed at that tick. -/
def Blk.doSarRotate (b : Blk) : Blk :=
  let r := b.rd R.AFE_SARSTAT_ROTC
  if r = 3 ∨ b.fn % 4096 ≠ 0 ∨ b.powered .afe = false ∨ b.afe.retCv ≠ [] then b
  else match b.afe.service with
    | [] => b
    | x :: rest =>
      ((b.wr R.AFE_SARSTAT_ROTC x).onAfe (fun a => { a with service := rest ++ [r] })).sarDrift r

/-- One step of a trim towards its fitted value. -/
def stepTo (x target : Int) : Int := x + sgn (target - x)

/-- The trims of the converters in service move by at most 1/16 code in a frame (R152): one unit of offset, and one of
2^−20 in gain, of which AFE_SARCAL shows whole units of 2^−18. -/
def Blk.sarTrims (b : Blk) : Blk :=
  b.eachOf b.afe.service (fun k b =>
    let t := b.afe.trims.getD k (0, 0)
    let f := b.afe.fits.getD k (0, 0)
    let n := (stepTo t.1 f.1, stepTo t.2 f.2)
    let b := b.onAfe (fun a => { a with trims := putAt a.trims k n })
    (b.wrS (R.AFE_SARCAL_OFS k) (sat16 n.1)).wrS (R.AFE_SARCAL_GAIN k) (sat16 (n.2 / 4)))

/-- What the number of converters left decides (R154). -/
def Blk.sarLeft (b : Blk) : Blk :=
  let all := (List.range 16).filter (fun c => b.configured c)
  match b.afe.service.length with
  | 0 =>
    let b := (b.raise 0x6304 0 []).onAfe (fun a => { a with sarLost := true })
    b.each 24 (fun k b => b.flag (R.AFE_AIN_VALID k) false)
  | 1 => ((b.wr R.AFE_SLOW_AVG 0).raise 0x6302 0 []).rung3 2 all
  | _ => b

/-- SAR_SHADOW_MISMATCH (R153): converter cv of those in service and the rotating one convert the reference; one that fails
retires from the next tick. Without a rotating converter there is no shadow result to compare (R154). -/
def Blk.doSarMismatch (b : Blk) (cv : Nat) (cvBad rotBad : Bool) : Blk :=
  let rot := b.rd R.AFE_SARSTAT_ROTC
  if b.afe.service.contains cv = false ∨ b.powered .afe = false ∨ rot = 3 then b
  else
    let b := b.onAfe (fun a => { a with heldCv := a.service.findIdx? (fun x => x == cv) })
    if cvBad || rotBad then
      b.onAfe (fun a => { a with retCv := (a.retCv ++ (if rotBad then [rot] else []) ++ (if cvBad then [cv] else [])).eraseDups })
    else (b.inc R.AFE_SARSTAT_SHMIS).raise 0x6102 cv []

/-- A converter retires at the tick (R153, R154): the rotating one leaves the rotation; in place of one in service the
rotating one returns for good. -/
def Blk.retireCv (b : Blk) (k : Nat) : Blk :=
  let rot := b.rd R.AFE_SARSTAT_ROTC
  let b := ((b.flag (bitOf R.AFE_SARSTAT_RET k) true).wr R.WARD_SPARE_SAR 0).raise 0x6202 k []
  let b := b.wr R.AFE_SARSTAT_ROTC 3
  if k = rot then b
  else
    let keep := b.afe.service.filter (fun x => x != k)
    (b.onAfe (fun a => { a with service := if rot = 3 then keep else keep ++ [rot] })).sarLeft

/-- What SHADOW_MISMATCH and SAR_SHADOW_MISMATCH left for the tick (R148, R153), and the holds of the ended frame. -/
def Blk.frontTick (b : Blk) : Blk :=
  let b := b.afe.nextLane.foldl (fun b x => b.wr (R.AFE_LMAP_LANE x.1) x.2) b
  let b := b.eachOf b.afe.retCv (fun k b => b.retireCv k)
  b.onAfe (fun a => { a with nextLane := [], served := [], heldIn := [], heldCv := none, retCv := [] })

/-- The bit of input i in AFE_STUCK. -/
def stuckBit (i : Nat) : Fld := if i < 32 then bitOf R.AFE_STUCK_LO_STK i else bitOf R.AFE_STUCK_HI_STK (i - 32)

/-- MODULATOR_STUCK (R157): event 0x6303, the input invalid; a current line stuck high trips its channel by sinc2. -/
def Blk.doStuck (b : Blk) (i : Nat) (high : Bool) : Blk :=
  if b.powered .afe = false ∨ b.configured (chanOfInput i) = false then b
  else
    let b := (b.flag (stuckBit i) true).raise 0x6303 i []
    let amp := decide (24 ≤ i) || i % 3 != 2
    let b := if high && amp then b.ocVerdict (chanOfInput i) [if i < 24 then i % 3 else i % 2] else b
    b.loseInput i true

/-- A count of Flint-B differs by more than CLK_CFG.PLAUS from the measured trim of a bin (R497). -/
def Blk.trimDiffers (b : Blk) (count bin : Nat) : Bool :=
  match b.afe.tabF.getD bin none with
  | some t => decide (Int.ofNat (b.rd R.CLK_CFG_PLAUS) * t < Int.ofNat (magI (Int.ofNat count - t)) * 1000000)
  | none => false

/-- FLINTB_TRIM_COUNT (R156): the count of Flint-B over 2^20 XO cycles goes to the bin of the die sensor nearest Flint-B,
while XO is judged good, throughout the count where it is `whole`, and the AFE domain runs. A count that differs beyond
PLAUS is not stored; it may be the first of two under R497 (log entry 43). -/
def Blk.doTrimCount (b : Blk) (count : Nat) (whole : Bool) : Blk :=
  if b.powered .afe ∧ b.on R.CLK_STAT_XOOK ∧ whole then
    let bin := b.flintBin
    if b.trimDiffers count bin then { b with clk := { b.clk with drift := true } }
    else
      let b := b.onAfe (fun a => { a with tabF := putAt a.tabF bin (some (Int.ofNat count)) })
      let b := b.wrSat R.AFE_TBIN_FBINS (filled b.afe.tabF)
      { b with clk := { b.clk with drift := false } }
  else b

/-- The offset corrections in force (R146): drives, steppers, phase voltages. -/
def Blk.corrections (b : Blk) : List Int :=
  (List.range 8).flatMap (fun n => [b.rdS (R.AFE_IOFS_IA n), b.rdS (R.AFE_IOFS_IB n)]) ++
    (List.range 8).flatMap (fun n => [b.rdS (R.AFE_SIOFS_WA n), b.rdS (R.AFE_SIOFS_WB n)]) ++ b.afe.pvCor

/-- TRIM_TABLE_SAVE (R146, R156): Bedrock takes both tables and the offset corrections. -/
def Blk.doTrimSave (b : Blk) : Blk :=
  if b.powered .nvs then
    let cor := b.corrections
    b.onAfe (fun a => { a with savF := a.tabF, savS := a.tabS, savO := cor })
  else b

end Sys2Proof.Machine
end

