-- ==== Sys2Proof/Machine/Therm.lean ====
section
/-! DEFINITION. The thermal manager (chapter 13): NTC temperatures, the power-stage and winding models in exact
rationals, derating, rate, trips, the emergency override and the die sensors. -/

namespace Sys2Proof.Machine

def Blk.thmd (b : Blk) (n : Nat) : ThmDrv := b.thm.drvs.getD n default
def Blk.onThm (b : Blk) (f : Thm → Thm) : Blk := { b with thm := f b.thm }
def Blk.onThmd (b : Blk) (n : Nat) (f : ThmDrv → ThmDrv) : Blk := b.onThm (fun t => { t with drvs := t.drvs.modify n f })

/-- The override is in force (R312). -/
def Blk.override (b : Blk) : Bool := b.on R.THM_OVRD_ACT

/-- The drives and steppers that NTC input k serves, as channels (R309). -/
def Blk.ntcServes (b : Blk) (k : Nat) : List Nat :=
  (List.range 8).filter (fun n => b.configured n && b.on (R.THM_Dn_CFG_EN n) &&
    ((b.on (R.THM_Dn_CFG_SNEN n) && b.rd (R.THM_Dn_CFG_SNTC n) == k) ||
     (b.on (R.THM_Dn_CFG_WNEN n) && b.rd (R.THM_Dn_CFG_WNTC n) == k))) ++
  ((List.range 8).filter (fun n => b.configured (8 + n) && b.on (R.THM_Sn_CFG_EN n) &&
    b.rd (R.THM_Sn_CFG_NTC n) == k)).map (8 + ·)

/-- The pull-ups of the NTC inputs are on (R297): the module holds output ownership, or is not part of a pair. -/
def Blk.ntcPull (b : Blk) : Bool := b.rd R.MIR_STAT_PID == 0 || b.ownsOut

/-- The NTC temperature in °C of averaged code c (R295). -/
def ntcTemp (c r26 beta : Nat) : Rat :=
  let r : Rat := 10000 * (c : Rat) / (65536 - (c : Rat))
  1 / (1 / (29815 / 100) + lnOf (r / (10 * (r26 : Rat))) / (beta : Rat)) - 27315 / 100

/-- The tick takes up a reading of the frame in which ownership changed or of one of the two after it (R297). -/
def Blk.ntcKept (b : Blk) : Bool :=
  match b.thm.hold with
  | some j => decide (1 ≤ (b.fn + 2 ^ 32 - j) % 2 ^ 32) && decide ((b.fn + 2 ^ 32 - j) % 2 ^ 32 ≤ 3)
  | none => false

/-- A broken input serves channel c (R309). A standby leaves its paired channels to the partner (R317). -/
def Blk.ntcBroken (b : Blk) (c : Nat) : Bool :=
  !(b.standby && b.pairedCh c) && (List.range 16).any (fun k => b.on (R.THM_NTCT_BRK k) && (b.ntcServes k).contains c)

/-- Class NTC follows the broken inputs and the channels assigned to them (R309): a channel joins with its breakage or with
the commit that assigns it, and leaves with the recovery. -/
def Blk.ntcFollow (b : Blk) : Blk :=
  let due := (List.range 16).filter (fun c => b.ntcBroken c)
  let now := (b.hasp.degs.getD 5 default).chs
  let b := b.eachOf (now.filter (fun c => !due.contains c)) (fun c b => b.undegrade 5 c)
  let new := due.filter (fun c => !now.contains c)
  if new.isEmpty then b else b.degrade 5 new false

/-- The input serves a valid reading (R303). -/
def Blk.ntcReads (b : Blk) (k : Nat) : Bool :=
  b.on (bitOf R.AFE_SLOW_EN k) && b.on (R.AFE_AIN_VALID k) && !b.on (R.THM_NTCT_BRK k) && decide (0 < b.thm.good.getD k 0)

/-- NTC input k at a tick (R295 to R297). -/
def Blk.ntcTick (b : Blk) (k : Nat) : Blk :=
  if b.on (bitOf R.AFE_SLOW_EN k) = false ∨ b.ntcKept then b
  else
    let c := b.rd (R.AFE_AIN_VAL k)
    let t := ntcTemp c (b.rd (R.THM_NTC_R26 k)) (b.rd (R.THM_NTC_B k))
    let bad := decide (65024 ≤ c) || decide (c ≤ 256) || decide (t < -55) || decide (200 < t) || !b.on (R.AFE_AIN_VALID k)
    let b := b.onThm (fun x => { x with good := putAt x.good k (if bad then 0 else x.good.getD k 0 + 1) })
    if bad then
      if b.on (R.THM_NTCT_BRK k) then b
      else (b.flag (R.THM_NTCT_BRK k) true).raise 0x8343 k []
    else b.wrS (R.THM_NTCT_T k) (onGrid (16 * t))

/-- NTC_RECOVER (R296, R309): after 64 frames unbroken the input serves again; the degraded mode of a channel that no
other broken input serves ends. -/
def Blk.doNtcRecover (b : Blk) (k : Nat) : Blk :=
  if b.on (R.THM_NTCT_BRK k) ∧ 64 ≤ b.thm.good.getD k 0 then
    (b.flag (R.THM_NTCT_BRK k) false).ntcFollow
  else b

/-- Phase current of leg x in amperes, from the values latched in the frame just ended (R298). -/
def Blk.amps (b : Blk) (n x : Nat) : Rat :=
  let s := b.afe.drv.getD n default
  let i : Int := if x = 0 then s.iA else if x = 1 then s.iB else -s.iA - s.iB
  (i : Rat) * (b.rd (R.AFE_ISC_IFS n) : Rat) / 10 / 32768

/-- Leg x modulates with one device held for the whole cycle (R72): 1; with both conducting: 2; not modulating: 0. -/
def Blk.legUse (b : Blk) (n x : Nat) : Nat :=
  let l := (b.drv n).active.getD x ⟨true, 0⟩
  if b.pstate n ≠ 1 ∨ l.float = true then 0
  else
    let pf := b.carrier n
    let dt := b.rd (R.Dn_DEADT_DT n x)
    let w := b.rd (R.Dn_MINPW_MINPW n)
    let on := b.nOn n pf l.d
    if on < dt + w ∨ pf < on + dt + w then 1 else 2

/-- The loss of leg x in watts (R298). -/
def Blk.legLoss (b : Blk) (n x : Nat) : Rat :=
  let i : Rat := if b.amps n x < 0 then -(b.amps n x) else b.amps n x
  let cond := (b.rd (R.THM_Dn_LEG_V0 n) : Rat) / 1000 * i + (b.rd (R.THM_Dn_LEG_RON n) : Rat) / 100000 * i * i
  let vh := (b.rd (R.Dn_DCMEAS_VDC n) : Rat) / 10 / (if b.on (R.Dn_CFG_TOPO n) then 2 else 1)
  let fc : Rat := 12800000000 / (b.carrier n : Rat)
  let sw := (b.rd (R.THM_Dn_SW_ESW n) : Rat) / 10000 * fc * (i / ((b.rd (R.THM_Dn_SW_IREF n) : Rat) / 10)) *
    (vh / (b.rd (R.THM_Dn_REF_VREF n) : Rat))
  if b.pstate n = 2 ∨ b.pstate n = 4 then cond
  else if b.legUse n x = 2 then cond + sw
  else if b.legUse n x = 1 then cond else 0

/-- R_k of element k (0 to 3) in K/W. -/
def Blk.fosterR (b : Blk) (n k : Nat) : Rat := (b.rd (R.THM_Dn_FST_R n k) : Rat) / 100000

/-- a_k of element k (R299): T_frame / τ_k with τ = M × 2^E × 0.1 ms. -/
def Blk.fosterA (b : Blk) (n k : Nat) : Rat :=
  let tau : Rat := (b.rd (R.THM_Dn_FST_M n k) : Rat) * 2 ^ b.rd (R.THM_Dn_FST_E n k) / 10000
  expOf ((b.period : Rat) / 400000000 / tau)

/-- The frame period in seconds. -/
def Blk.tFrame (b : Blk) : Rat := (b.period : Rat) / 400000000

/-- Signed temperature of a register in °C. -/
def Blk.degC (b : Blk) (f : Fld) : Rat := (signed 16 (b.rd f) : Rat) / 16

/-- The coefficients a_k are computed at the applying tick of each commit; at the first configuration the states start
(R299, R303). -/
def Blk.thmInit (b : Blk) (n : Nat) : Blk :=
  if b.configured n ∧ b.on (R.THM_Dn_CFG_EN n) then
    let a := (List.range 4).map (fun k => b.fosterA n k)
    if (b.thmd n).init then b.onThmd n (fun t => { t with a := a })
    else
      let k := b.rd (R.THM_Dn_CFG_WNTC n)
      let t0 := if b.on (R.THM_Dn_CFG_WNEN n) ∧ b.ntcReads k then b.degC (R.THM_NTCT_T k)
        else b.degC (R.THM_Dn_WS_TAMBM n)
      b.onThmd n (fun t => { t with init := true, a := a, dT := List.replicate 12 0, tw := t0, ts := t0 })
  else b

/-- The Foster networks of the three legs after one frame (R299). -/
def Blk.fosterNext (b : Blk) (n : Nat) : List Rat :=
  let t := b.thmd n
  (List.range 12).map (fun i =>
    let a := t.a.getD (i % 4) 0
    t.dT.getD i 0 * a + b.legLoss n (i / 4) * b.fosterR n (i % 4) * (1 - a))

/-- The larger of two temperatures. -/
def maxR (x y : Rat) : Rat := if x < y then y else x

/-- Sum of the elements lo + 1 to hi of leg x (elements numbered from 1). -/
def legSum (dT : List Rat) (x lo hi : Nat) : Rat := (((dT.drop (4 * x)).take hi).drop lo).foldl (· + ·) 0

/-- The stage NTC of a drive takes part: assigned and not broken. -/
def Blk.stageNtc (b : Blk) (n : Nat) : Bool :=
  b.on (R.THM_Dn_CFG_SNEN n) && !b.on (R.THM_NTCT_BRK (b.rd (R.THM_Dn_CFG_SNTC n)))

/-- The winding NTC of a drive takes part. -/
def Blk.windNtc (b : Blk) (n : Nat) : Bool :=
  b.on (R.THM_Dn_CFG_WNEN n) && !b.on (R.THM_NTCT_BRK (b.rd (R.THM_Dn_CFG_WNTC n)))

/-- The stage temperature in force: the hottest leg, each the larger of model and NTC estimate (R299, R300). -/
def Blk.stageTemp (b : Blk) (n : Nat) : Rat :=
  let dT := (b.thmd n).dT
  let amb := b.degC (R.THM_Dn_REF_TAMB n)
  let ntc := b.degC (R.THM_NTCT_T (b.rd (R.THM_Dn_CFG_SNTC n)))
  let leg := fun x => if b.stageNtc n then maxR (amb + legSum dT x 0 4) (ntc + legSum dT x 0 (b.rd (R.THM_Dn_CFG_NTCPOS n)))
    else amb + legSum dT x 0 4
  maxR (leg 0) (maxR (leg 1) (leg 2))

/-- The two-body winding model after one frame (R301): T_w and T_s. -/
def Blk.windNext (b : Blk) (n : Nat) : Rat × Rat :=
  let t := b.thmd n
  let rph := (b.rd (R.THM_Dn_WR_RPH20 n) : Rat) / 100000 * (1 + 393 / 100000 * (t.tw - 20))
  let pcu := rph * (b.amps n 0 * b.amps n 0 + b.amps n 1 * b.amps n 1 + b.amps n 2 * b.amps n 2)
  let fe : Rat := ((magI (b.drv n).speed : Nat) : Rat) * (b.rd (R.Dn_SPDFS_SPD_FS n) : Rat) / 32768 / 60 *
    (b.rd (R.Dn_SPDFS_POLEP n) : Rat)
  let x := fe / (b.rd (R.THM_Dn_LIMW_FREF n) : Rat)
  let pfe := (b.rd (R.THM_Dn_FE_PH n) : Rat) * x + (b.rd (R.THM_Dn_FE_PE n) : Rat) * x * x
  let rws := (b.rd (R.THM_Dn_WR_RWS n) : Rat) / 100000
  let rsa := (b.rd (R.THM_Dn_WS_RSA n) : Rat) / 100000
  let cw := 10 * (b.rd (R.THM_Dn_WC_CW n) : Rat)
  let cs := 100 * (b.rd (R.THM_Dn_WC_CS n) : Rat)
  (t.tw + b.tFrame / cw * (pcu - (t.tw - t.ts) / rws),
   t.ts + b.tFrame / cs * (pfe + (t.tw - t.ts) / rws - (t.ts - b.degC (R.THM_Dn_WS_TAMBM n)) / rsa))

/-- The cross-check of an NTC against its prediction fails in this frame (R300, R302). -/
def xFails (ntc pred : Rat) (tol : Nat) : Bool := decide ((tol : Rat) < maxR (ntc - pred) (pred - ntc))

/-- Frames in a row of a failing cross-check and its episode after one frame; paused while the input is broken. -/
def xNext (part fails : Bool) (k : Nat) (ep : Bool) : Nat × Bool :=
  if part then (if fails then (k + 1, ep) else (0, false)) else (k, ep)

/-- Models, temperatures in force and cross-check counts of a drive at a tick (R299 to R302). -/
def Blk.thmModels (b : Blk) (n : Nat) : Blk :=
  let d := b.fosterNext n
  let w := b.windNext n
  let b := b.onThmd n (fun t => { t with dT := d, tw := w.1, ts := w.2 })
  let tol := b.rd (R.THM_Dn_RATE_XTOL n)
  let ntcS := b.degC (R.THM_NTCT_T (b.rd (R.THM_Dn_CFG_SNTC n)))
  let ntcW := b.degC (R.THM_NTCT_T (b.rd (R.THM_Dn_CFG_WNTC n)))
  let pos := b.rd (R.THM_Dn_CFG_NTCPOS n)
  let pred := b.degC (R.THM_Dn_REF_TAMB n) + maxR (legSum d 0 pos 4) (maxR (legSum d 1 pos 4) (legSum d 2 pos 4))
  let t := b.thmd n
  let xj := xNext (b.stageNtc n) (xFails ntcS pred tol) t.xJ t.epJ
  let xw := xNext (b.windNtc n) (xFails ntcW w.1 tol) t.xW t.epW
  let b := b.onThmd n (fun t => { t with xJ := xj.1, epJ := xj.2, xW := xw.1, epW := xw.2 })
  let b := b.wrS (R.THM_Dn_TEMP_TJ n) (onGrid (16 * b.stageTemp n))
  let b := b.wrS (R.THM_Dn_TEMP_TW n) (onGrid (16 * (if b.windNtc n then maxR w.1 ntcW else w.1)))
  let b := b.flag (R.THM_Dn_STAT_SBRK n) (b.on (R.THM_Dn_CFG_SNEN n) && !b.stageNtc n)
  b.flag (R.THM_Dn_STAT_WBRK n) (b.on (R.THM_Dn_CFG_WNEN n) && !b.windNtc n)

/-- F_L of R304 from FLOOR in percent, halves rounded up. -/
def floorF (pct : Nat) : Int := halfUp (Int.ofNat pct * 32768) 100

/-- The factor of R304 for a temperature in 0.0625 °C with limits in °C. -/
def derate (t : Int) (tstart tmax : Nat) (fl : Int) : Int :=
  let s := 16 * Int.ofNat tstart
  let m := 16 * Int.ofNat tmax
  if t < s then 32768
  else if t < m then halfUp (32768 * (m - s) - (32768 - fl) * (t - s)) (m - s)
  else fl

/-- The step level of R305 with its 2 K hysteresis, from the level in force. -/
def stepLevel (t : Int) (tstart tmax lv : Nat) : Nat :=
  let th := fun (i : Nat) => 48 * Int.ofNat tstart + Int.ofNat i * 16 * (Int.ofNat tmax - Int.ofNat tstart)
  let up := ((List.range 3).filter (fun i => decide (th i ≤ 3 * t))).length
  let dn := ((List.range 3).filter (fun i => decide (th i - 96 < 3 * t))).length
  if lv < up then up else min lv dn

/-- The factor of a step level. -/
def stepF (lv : Nat) : Int := 32768 - 8192 * Int.ofNat lv

/-- The rate of R306 exceeds RMAX: temperatures RWIN frames apart in 0.0625 °C. -/
def Blk.rateOver (b : Blk) (n : Nat) (t : Int) (hist : List Int) : Bool :=
  let win := b.rd (R.THM_Dn_RATE_RWIN n)
  match hist[win - 1]? with
  | some t0 => decide (Int.ofNat (b.rd (R.THM_Dn_RATE_RMAX n) * win * b.period * 16) < (t - t0) * 4000000000)
  | none => false

/-- The rate of one temperature after a frame (R306). An input that is broken does not take part. -/
def Blk.rateNext (b : Blk) (n : Nat) (t : Int) (r : ThmRate) : ThmRate :=
  let ov := b.rateOver n t r.hist
  { r with hist := (t :: r.hist).take (b.rd (R.THM_Dn_RATE_RWIN n)), exc := r.exc || ov,
           cool := if ov then 0 else r.cool + 1 }

/-- Derating of a drive at a tick (R304 to R307, R309, R312). -/
def Blk.thmDerate (b : Blk) (n : Nat) : Blk :=
  let tj := b.rdS (R.THM_Dn_TEMP_TJ n)
  let tw := b.rdS (R.THM_Dn_TEMP_TW n)
  let step := b.on (R.THM_Dn_CFG_STEP n)
  let fl := if step then 8192 else floorF (b.rd (R.THM_Dn_LIMS_FLOOR n))
  let sb := b.on (R.THM_Dn_STAT_SBRK n)
  let wb := b.on (R.THM_Dn_STAT_WBRK n)
  let was := b.thmd n
  let rj := b.rateNext n tj was.rj
  let rw := b.rateNext n tw was.rw
  let rj := { rj with level := if sb then 3 else stepLevel tj (b.rd (R.THM_Dn_LIMS_TSTART n)) (b.rd (R.THM_Dn_LIMS_TMAX n)) rj.level }
  let rw := { rw with level := if wb then 3 else stepLevel tw (b.rd (R.THM_Dn_LIMW_TSTART n)) (b.rd (R.THM_Dn_LIMW_TMAX n)) rw.level }
  let b := b.onThmd n (fun t => { t with rj := rj, rw := rw })
  let b := if (rj.exc && !was.rj.exc) || (rw.exc && !was.rw.exc) then
      (b.flag (R.THM_Dn_STAT_RATEF n) true).raise 0x8142 n [] else b
  let fs := if step then stepF rj.level else if sb then fl
    else derate tj (b.rd (R.THM_Dn_LIMS_TSTART n)) (b.rd (R.THM_Dn_LIMS_TMAX n)) fl
  let fw := if step then stepF rw.level else if wb then fl
    else derate tw (b.rd (R.THM_Dn_LIMW_TSTART n)) (b.rd (R.THM_Dn_LIMW_TMAX n)) fl
  let fr := if rj.exc || rw.exc then fl else 32768
  let f := if b.override then 32768 else min fs (min fw fr)
  let src := if f = 32768 then 0 else if f = fs then 1 else if f = fw then 2 else 3
  let b := (b.wr (R.THM_Dn_STAT_FACT n) f.toNat).wr (R.THM_Dn_STAT_SRC n) src
  let b := b.wr (R.THM_Dn_STAT_STEP n) (if step then ((32768 - f) / 8192).toNat else 0)
  let dr := decide (f < 32768)
  let first := dr && !b.on (R.THM_Dn_STAT_DERATE n)
  let b := b.flag (R.THM_Dn_STAT_DERATE n) dr
  if first then b.raise 0x8140 n [f, Int.ofNat src] else b

/-- The thermal trip of a drive at a tick (R308, R312, R316); `rel` at the tick at which the override is released, which
applies it to a channel that still bears TRIPPED. -/
def Blk.thmTrip (b : Blk) (rel : Bool) (n : Nat) : Blk :=
  let tj := b.rdS (R.THM_Dn_TEMP_TJ n)
  let tw := b.rdS (R.THM_Dn_TEMP_TW n)
  let hot := decide (16 * Int.ofNat (b.rd (R.THM_Dn_LIMS_TTRIP n)) ≤ tj) ||
    decide (16 * Int.ofNat (b.rd (R.THM_Dn_LIMW_TTRIP n)) ≤ tw)
  let cool := decide (tj < 16 * Int.ofNat (b.rd (R.THM_Dn_LIMS_TMAX n))) &&
    decide (tw < 16 * Int.ofNat (b.rd (R.THM_Dn_LIMW_TMAX n)))
  if b.on (R.THM_Dn_STAT_TRIPPED n) ∧ (rel && hot) = false then (if cool then b.flag (R.THM_Dn_STAT_TRIPPED n) false else b)
  else if hot && !b.override then
    (((b.flag (R.THM_Dn_STAT_TRIPPED n) true).flag (R.THM_Dn_STAT_TRIPF n) true).raise 0x8341 n []).stopReq n
  else b

/-- A stepper's NTC limit at a tick (R310); the override suspends its effects and leaves the latch (R312), `rel` as for
`thmTrip`. A standby's paired stepper has the mirrored factor and latch (R317). -/
def Blk.thmStep (b : Blk) (rel : Bool) (n : Nat) : Blk :=
  if (b.standby && b.pairedCh (8 + n)) = true then b
  else if b.configured (8 + n) ∧ b.on (R.THM_Sn_CFG_EN n) then
    let k := b.rd (R.THM_Sn_CFG_NTC n)
    let brk := b.on (R.THM_NTCT_BRK k)
    let t := b.rdS (R.THM_NTCT_T k)
    let ts := b.rd (R.THM_Sn_CFG_TSTART n)
    let tt := b.rd (R.THM_Sn_CFG_TTRIP n)
    let f := if b.override then 32768 else if brk then 8192 else derate t ts tt 8192
    let b := b.onThm (fun x => { x with fact := putAt x.fact n f })
    let hot := decide (16 * Int.ofNat tt ≤ t) && !brk
    if b.thm.stop.getD n false ∧ (rel && hot) = false then
      if t < 16 * Int.ofNat ts ∧ brk = false then b.onThm (fun x => { x with stop := putAt x.stop n false }) else b
    else if hot && !b.override then
      ((b.onThm (fun x => { x with stop := putAt x.stop n true })).raise 0x8341 (8 + n) []).stopAxis (8 + n)
    else b
  else b.onThm (fun x => { x with stop := putAt x.stop n false, fact := putAt x.fact n 32768 })

/-- A change of OVRD_N taken up at a tick (R311, R316). -/
def Blk.ovrdTick (b : Blk) : Blk :=
  match b.thm.ovrd with
  | none => b
  | some v =>
    let b := b.onThm (fun t => { t with ovrd := none })
    if v = b.override then b
    else
      let b := (b.flag R.THM_OVRD_ACT v).flag R.HASP_STAT_OVRD v
      b.raise (if v then 0x8145 else 0x8045) 0 []

/-- The die sensors at a tick (R314). -/
def Blk.dieTick (b : Blk) : Blk :=
  let hot := ((List.range 6).map (fun k => b.rdS (R.AFE_DIE_TEMP k))).foldl max (-32768)
  let b := b.wrS R.THM_DSTAT_DMAX hot
  if 16 * Int.ofNat (b.rd R.THM_DIEW_WARN) ≤ hot then (b.flag R.THM_DSTAT_WARN true).raiseLim 1024 0x8147 0 [] else b

/-- The thermal manager at a tick; its outputs are withheld while its copies disagree (R371). For a paired drive the
standby uses the mirrored state and not its own (R317). -/
def Blk.thmTick (b : Blk) : Blk :=
  let was := b.override
  let b := b.ovrdTick
  let rel := was && !b.override
  let b := if b.override then b.inc R.THM_OVRCNT_COUNT else b
  if b.ward.now.contains 2 then b
  else
    let b := (b.each 16 (fun k b => b.ntcTick k)).ntcFollow
    let b := if b.fn = (b.thm.hold.getD b.fn + 3) % 2 ^ 32 then b.onThm (fun t => { t with hold := none }) else b
    let b := b.each 8 (fun n b =>
      if b.configured n ∧ b.on (R.THM_Dn_CFG_EN n) ∧ (b.standby && b.pairedCh n) = false then
        (((b.thmInit n).thmModels n).thmDerate n).thmTrip rel n
      else b)
    (b.each 8 (fun n b => b.thmStep rel n)).dieTick

/-- THERMAL_XCHK_FAIL (R300, R302): the cross-check of the stage or winding NTC failed for one second of frames; once
per episode. -/
def Blk.doThermalXchk (b : Blk) (n : Nat) (winding : Bool) : Blk :=
  let t := b.thmd n
  let k := if winding then t.xW else t.xJ
  let ep := if winding then t.epW else t.epJ
  if b.msFrames 1000 ≤ k ∧ ep = false ∧ b.configured n ∧ b.on (R.THM_Dn_CFG_EN n) then
    let b := b.onThmd n (fun t => if winding then { t with epW := true } else { t with epJ := true })
    (b.flag (R.THM_Dn_STAT_XCHK n) true).raise 0x8144 n [b2n winding]
  else b

/-- THERMAL_RATE_RECOVER (R306): RWIN frames at or below RMAX. -/
def Blk.doRateRecover (b : Blk) (n : Nat) (winding : Bool) : Blk :=
  let t := b.thmd n
  let r := if winding then t.rw else t.rj
  if r.exc ∧ b.rd (R.THM_Dn_RATE_RWIN n) ≤ r.cool then
    b.onThmd n (fun t => if winding then { t with rw := { t.rw with exc := false } }
      else { t with rj := { t.rj with exc := false } })
  else b

/-- OVRD_ASSERTED and OVRD_RELEASED (R311): taken up at the next tick. -/
def Blk.doOvrd (b : Blk) (on : Bool) : Blk := b.onThm (fun t => { t with ovrd := some on })

end Sys2Proof.Machine
end

