-- ==== Sys2Proof/Machine/Feed.lean ====
section
/-! DEFINITION. The feedback ports (chapter 7): counting, the index, magnetic switches, SSI words, speed, the compare
outputs and the encoder emulation. -/

namespace Sys2Proof.Machine

/-- The drive that names port p under R85. -/
def Blk.driveOf (b : Blk) (p : Nat) : Option Nat :=
  (List.range 8).find? (fun n => b.configured n && b.on (R.Dn_CMODE_SENS n) && b.rd (R.Dn_CMODE_FBSEL n) == p)

/-- POLEP of the drive that names the port; 1 where none does. -/
def Blk.polesOf (b : Blk) (p : Nat) : Nat :=
  match b.driveOf p with
  | some n => b.rd (R.Dn_SPDFS_POLEP n)
  | none => 1

/-- MODE of port p (R159). -/
def Blk.fbMode (b : Blk) (p : Nat) : Nat := b.rd (R.FBn_CFG_MODE p)

/-- The width of an SSI position, cut to 32 bits (R177). -/
def Blk.ssiWidth (b : Blk) (p : Nat) : Nat := min (b.rd (R.FBn_SSI_PBITS p)) 32

/-- Units per second of the speed registers times SYSCLK: 16 × 400 MHz. -/
def spdUnit : Nat := 6400000000

/-- The qualified index of R164. -/
def Blk.qualIdx (b : Blk) (p : Nat) (x : Port) : Bool :=
  let g := b.rd (R.FBn_CFG_ZGATE p)
  (x.z != b.on (R.FBn_CFG_ZPOL p)) && (!bitAt g 2 || (x.a == bitAt g 1 && x.b == bitAt g 0))

/-- An illegal transition or code of port p (R163, R170). -/
def Blk.fbIllegal (b : Blk) (p : Nat) : Blk :=
  let b := ((b.flag (R.FBn_STAT_ILL p) true).inc (R.FBn_ERRCNT_ILL_CNT p)).raiseLim 1024 0x5101 p []
  b.onPort p (fun x => { x with cntIll := x.cntIll + 1 })

/-- The emulation's target minus its emitted position (R182, R183). -/
def Blk.backlog (b : Blk) (q : Nat) : Int :=
  (b.port q).emuAcc / Int.ofNat (max 1 (b.rd (R.FBn_EMU_M q))) - (b.port q).emuDrop - (b.port q).emuOut

/-- The source of port q's emulation moved by `d` counts (R182, R183). -/
def Blk.emuMoveOne (b : Blk) (q : Nat) (d : Int) : Blk :=
  let b := b.onPort q (fun x => { x with emuAcc := x.emuAcc + Int.ofNat (b.rd (R.FBn_EMU_N q)) * d,
                                         emuLast := add32 x.emuLast d })
  let g := b.backlog q
  let ex := g - satI g (-65535) 65535
  let b := if ex = 0 then b
    else ((b.onPort q (fun x => { x with emuDrop := x.emuDrop + ex })).flag (R.FBn_STAT_EMUOVL q) true).raise 0x5104 q [1]
  b.wrS (R.FBn_EMUSTAT_BACKLOG q) (g - ex)

/-- Every emulation among those of `ok` whose source is port p follows a movement of it. -/
def Blk.emuMoveOf (b : Blk) (p : Nat) (d : Int) (ok : Nat → Bool) : Blk :=
  b.each 12 (fun q b => if b.on (R.FBn_EMUCFG_EN q) ∧ b.rd (R.FBn_EMUCFG_SRC q) = p ∧ ok q = true then b.emuMoveOne q d else b)

/-- Every emulation whose source is port p follows a movement of it. -/
def Blk.emuMove (b : Blk) (p : Nat) (d : Int) : Blk := b.emuMoveOf p d (fun _ => true)

/-- Entry j of the compare table is armed (R180). -/
def Blk.cmpArmed (b : Blk) (p j : Nat) : Bool :=
  b.on (R.FBn_CMPCTL_EN p) && b.on (R.FBn_CMPMODE_EN p j) &&
    (!b.on (R.FBn_CMPCTL_SEQ p) || b.rd (R.FBn_CMPSTAT_PTR p) == j)

/-- The next enabled entry after entry j, wrapping (R180). -/
def Blk.cmpNext (b : Blk) (p j : Nat) : Nat :=
  match ((List.range 16).map (fun i => (j + 1 + i) % 16)).find? (fun i => b.on (R.FBn_CMPMODE_EN p i)) with
  | some i => i
  | none => j

/-- DSEL of entry j admits a direction. -/
def Blk.cmpDir (b : Blk) (p j : Nat) (up : Bool) : Bool :=
  match b.rd (R.FBn_CMPMODE_DSEL p j) with
  | 1 => up
  | 2 => !up
  | _ => true

/-- A position as it is delivered: with the offset to the active module's (R393; 0 outside a pair). -/
def Blk.mirPos (b : Blk) (p pos : Nat) : Nat := add32 pos (b.rdS (R.MIR_POSOFS_OFS p))

/-- The armed entries that `hit` says were passed make one pulse (R180, R181). -/
def Blk.cmpHits (b : Blk) (p : Nat) (up : Bool) (hit : Nat → Bool) : Blk :=
  let l := (List.range 16).filter (fun j => b.cmpArmed p j && b.cmpDir p j up && hit (b.rd (R.FBn_CMPPOS_POS p j)))
  match l with
  | [] => b
  | j :: _ =>
    let b := b.add (R.FBn_CMPSTAT_FIRED p) l.length
    let b := if b.on (R.FBn_CMPCTL_SEQ p) then b.wr (R.FBn_CMPSTAT_PTR p) (b.cmpNext p j) else b
    if (b.port p).cmpRun then (b.flag (R.FBn_STAT_CMPOVL p) true).raise 0x5104 p [0]
    else b.onPort p (fun x => { x with cmpRun := true })

/-- One counted edge of port p in direction `d` at stamp t (R162, R169, R172). -/
def Blk.fbCount (b : Blk) (p : Nat) (d : Int) (t : Nat) : Blk :=
  let x := b.port p
  let pos := add32 x.pos d
  let turn := x.run * d < 0
  let e : FbEdge := ⟨pos, t, !turn⟩
  let first := if turn then none else if x.firstUse.isNone ∨ x.run = 0 then some e else x.firstUse
  let b := b.onPort p (fun x => { x with pos := pos, run := d, last := some e, edge := true, firstUse := first,
                                         prevUse := if turn then none else x.prevUse,
                                         lastUse := if turn then none else some e })
  let b := (b.wr (R.FBn_EDGET_T p) t).flag (R.FBn_STAT_DIR p) (decide (d < 0))
  (b.cmpHits p (decide (0 < d)) (fun c => c == b.mirPos p pos)).emuMove p d

/-- Direction of a quadrature transition: +1 when A leads B, −1 when B leads A. -/
def quadDir (a b a' : Bool) : Int :=
  if (a != b) == (a' != a) then -1 else 1

/-- Stamps in PWMCLK cycles between which two filtered edges are counted (R162). -/
def Blk.edgeGap (b : Blk) (p : Nat) : Nat :=
  if b.rd (R.FBn_CFG_FLT p) = 0 then 5 else 2 * b.rd (R.FBn_CFG_FLT p) + 3

/-- A filtered edge of a quadrature port. -/
def Blk.fbQuad (b : Blk) (p : Nat) (a' b' : Bool) (t : Nat) : Blk :=
  let x := b.port p
  let b := b.onPort p (fun x => { x with a := a', b := b', filt := if x.a == a' && x.b == b' then x.filt else some t })
  if x.a != a' && x.b != b' then b.fbIllegal p
  else if x.a == a' && x.b == b' then b
  else
    let near := match x.filt with
      | some e => decide (diff32 t e < Int.ofNat (b.edgeGap p)) && decide (0 ≤ diff32 t e)
      | none => false
    if near then b
    else
      let d := quadDir x.a x.b a'
      b.fbCount p (if b.on (R.FBn_CFG_INV p) then -d else d) t

/-- The sector of a switch code in table order; none for 0b000 and 0b111 (R169). -/
def hallTable (code : Nat) : Option Nat :=
  match code with
  | 5 => some 0
  | 4 => some 1
  | 6 => some 2
  | 2 => some 3
  | 3 => some 4
  | 1 => some 5
  | _ => none

/-- The sector of a code for the port's order (R169; log entry 26 for HDIR). -/
def Blk.hallSector (b : Blk) (p code : Nat) : Option Nat :=
  (hallTable code).map (fun k => if b.on (R.FBn_CFG_HDIR p) then 5 - k else k)

/-- The code of the three switch levels. -/
def hallCode (a b z : Bool) : Nat := 4 * b2n a + 2 * b2n b + b2n z

/-- The angle at the lower boundary of sector k, in 65,536 units (R169), rounded half up: the rule gives no rounding (DESIGN
CHOICE, log entry 168). -/
def Blk.hallEdge (b : Blk) (p k : Nat) : Nat :=
  (b.rd (R.FBn_ANG_EOFS p) + (halfUp (Int.ofNat (k % 6 * 65536)) 6).toNat) % 65536

/-- A change of the switch levels (R169 to R171). A change to a non-adjacent code crosses no one boundary and the rules give
no angle after it: the model takes the midpoint of the new sector, as before a first transition (DESIGN CHOICE, log entry
169). -/
def Blk.fbHall (b : Blk) (p : Nat) (a' b' z' : Bool) (t : Nat) : Blk :=
  let x := b.port p
  let b := b.onPort p (fun x => { x with a := a', b := b', z := z' })
  match b.hallSector p (hallCode a' b' z') with
  | none => if hallCode x.a x.b x.z = hallCode a' b' z' then b else b.fbIllegal p
  | some k =>
    if x.legal = false then
      (b.onPort p (fun x => { x with legal := true, sector := k })).flag (R.FBn_STAT_AVALID p) true
    else if k = x.sector then b
    else if k = (x.sector + 1) % 6 then
      (b.onPort p (fun x => { x with sector := k, bound := some (k, t), reach := 0 })).fbCount p 1 t
    else if x.sector = (k + 1) % 6 then
      (b.onPort p (fun y => { y with sector := k, bound := some (x.sector, t), reach := 0 })).fbCount p (-1) t
    else (b.onPort p (fun x => { x with sector := k, bound := none, reach := 0 })).fbIllegal p

/-- FEEDBACK_EDGE: new filtered levels at stamp t (R162 to R164, R169 to R172). A port that counts nothing follows the
levels, so that its first edge after it is enabled is judged against them. -/
def Blk.doFeedbackEdge (b : Blk) (p : Nat) (a' b' z' : Bool) (t : Nat) : Blk :=
  if b.powered .feed = false then b
  else
    let b := match b.fbMode p with
      | 1 => (b.fbQuad p a' b' t).onPort p (fun x => { x with z := z' })
      | 2 => b.fbHall p a' b' z' t
      | _ => b.onPort p (fun x => { x with a := a', b := b', z := z' })
    let b := if b.fbMode p = 2 then b.wr (R.FBn_STAT_HALL p) (hallCode a' b' z') else b
    if b.qualIdx p (b.port p) then b else b.onPort p (fun x => { x with idx := false })

/-- Δ − CPR × round(Δ / CPR), halves towards zero (R165). -/
def idxResidue (d : Int) (cpr : Nat) : Int :=
  d - sgn d * Int.ofNat (cpr * ((2 * magI d + cpr - 1) / (2 * max 1 cpr)))

/-- INDEX_LATCH (R164 to R166). -/
def Blk.doIndexLatch (b : Blk) (p : Nat) : Blk :=
  let x := b.port p
  if b.powered .feed = false ∨ b.fbMode p ≠ 1 ∨ x.idx = true ∨ b.qualIdx p x = false then b
  else
    let old := b.rd (R.FBn_IDXLAT_LAT p)
    let b := (b.wr (R.FBn_IDXLAT_LAT p) x.pos).onPort p (fun x => { x with idx := true, latched := true })
    if x.latched = false then
      ((b.wr (R.FBn_IDXREF_REF p) x.pos).flag (R.FBn_STAT_AVALID p) true).raise 0x5001 p []
    else
      let r := idxResidue (diff32 x.pos old) (b.rd (R.FBn_CPR_CPR p))
      if b.rd (R.FBn_IDXTOL_TOL p) < magI r then
        let corr := b.on (R.FBn_CFG_ZCORR p)
        let b := (b.flag (R.FBn_STAT_DRIFT p) true).inc (R.FBn_ERRCNT_DRIFTCNT p)
        (b.raise 0x5102 p [r, b2n corr]).onPort p (fun x =>
          { x with cntDrift := x.cntDrift + 1, zcorr := if corr then x.zcorr + r else x.zcorr })
      else b

/-- The port's part of a tick: IDXREF follows the disc (R166). -/
def Blk.feedTick (b : Blk) : Blk :=
  b.each 12 (fun p b =>
    let z := (b.port p).zcorr
    if z = 0 then b else (b.wr (R.FBn_IDXREF_REF p) (add32 (b.rd (R.FBn_IDXREF_REF p)) z)).onPort p
      (fun x => { x with zcorr := 0 }))

/-- Signed difference of two positions of a port: 32 bits wide, or min(PBITS, 32) for SSI in state `m` of FBn_CFG.MODE
(R165, R177). -/
def posDiff (m width new old : Nat) : Int :=
  let w := if m = 3 then max 1 width else 32
  signed w ((new + 2 ^ w - old % 2 ^ w) % 2 ^ w)

/-- The code that stands as a magnetic-switch port is enabled (R169, R171). -/
def Blk.hallFirst (b : Blk) (p : Nat) : Blk :=
  if b.fbMode p = 2 then
    let x := b.port p
    let code := hallCode x.a x.b x.z
    let b := b.wr (R.FBn_STAT_HALL p) code
    match b.hallSector p code with
    | some k => (b.onPort p (fun x => { x with legal := true, sector := k })).flag (R.FBn_STAT_AVALID p) true
    | none => b
  else b

/-- A commit enables the port or changes its MODE, which was `m` with an SSI position of `width` bits (R161, R164, R171).
An emulation that takes its source here follows the position to 0 (R182), but for those that `starts` says begin at this
tick. A magnetic-switch port takes the code that stands: a legal one gives its sector and AVALID (R171). -/
def Blk.portEnable (b : Blk) (p m width : Nat) (starts : Nat → Bool) : Blk :=
  let b := b.emuMoveOf p (posDiff m width 0 (b.port p).pos) (fun q => !starts q)
  let b := (b.wr (R.FBn_POS_POS p) 0).wr (R.FBn_IDXREF_REF p) 0
  let b := (b.flag (R.FBn_STAT_AVALID p) false).flag (R.FBn_STAT_INVAL p) false
  let b := (b.flag (R.FBn_STAT_STILL p) true).flag (R.FBn_STAT_FVALID p) false
  let b := b.each 3 (fun k b => b.wr (R.FBn_SPDk_SPD p k) 0)
  b.onPort p (fun x =>
    { (default : Port) with
        a := x.a, b := x.b, z := x.z, filt := x.filt, cntIll := x.cntIll, cntDrift := x.cntDrift, cntSsi := x.cntSsi
        cmpRun := x.cmpRun, emuLast := x.emuLast, emuAcc := x.emuAcc, emuOut := x.emuOut, emuDrop := x.emuDrop
        emuPh := x.emuPh })
  |>.hallFirst p

/-- The emulation starts at the applying tick (R182). -/
def Blk.emuStart (b : Blk) (q : Nat) : Blk :=
  let src := (b.port (b.rd (R.FBn_EMUCFG_SRC q))).pos
  (b.onPort q (fun x => { x with emuLast := src, emuAcc := 0, emuOut := 0, emuDrop := 0 })).wr (R.FBn_EMUSTAT_BACKLOG q) 0

/-- A commit touched the compare table (R180). With no entry enabled the rule names no PTR, and the model keeps the one there
is (DESIGN CHOICE, log entry 170). -/
def Blk.cmpTouched (b : Blk) (p : Nat) : Blk :=
  match (List.range 16).find? (fun j => b.on (R.FBn_CMPMODE_EN p j)) with
  | some j => b.wr (R.FBn_CMPSTAT_PTR p) j
  | none => b

/-- COMPARE_PULSE_END (R181). -/
def Blk.doCompareEnd (b : Blk) (p : Nat) : Blk := b.onPort p (fun x => { x with cmpRun := false })

/-- The level of CMPn: none while it is high-impedance; else active high, or low with CPOL = 1, while a pulse runs (R181,
R184). -/
def Blk.cmpLevel (b : Blk) (p : Nat) : Option Bool :=
  if b.ownsOut then some ((b.port p).cmpRun != b.on (R.FBn_CMPCTL_CPOL p)) else none

/-- The levels of ENCOUTn_A and ENCOUTn_B: none while they are high-impedance; else the quadrature of the emitted count, A
leading B while it rises (R182, R184). Both are low where emission first starts (log entry 148). -/
def Blk.encLevels (b : Blk) (q : Nat) : Option (Bool × Bool) :=
  let k := (b.port q).emuPh
  if b.ownsOut then some (k == 1 || k == 2, k == 2 || k == 3) else none

/-- ENCODER_EMULATION_EDGE (R182). -/
def Blk.doEmuEdge (b : Blk) (q : Nat) : Blk :=
  if b.on (R.FBn_EMUCFG_EN q) then
    let d := sgn (b.backlog q)
    let b := b.onPort q (fun x => { x with emuOut := x.emuOut + d, emuPh := ((Int.ofNat x.emuPh + d) % 4).toNat })
    b.wrS (R.FBn_EMUSTAT_BACKLOG q) (b.backlog q)
  else b

/-- θ_e of R167 for a position. -/
def Blk.quadAngle (b : Blk) (p pos : Nat) : Nat :=
  let cpr := max 1 (b.rd (R.FBn_CPR_CPR p))
  let d := (pos + 2 ^ 32 - b.rd (R.FBn_IDXREF_REF p)) % 2 ^ 32
  (d % cpr * b.polesOf p * 65536 / cpr + b.rd (R.FBn_ANG_EOFS p)) % 65536

/-- How far the angle of a magnetic-switch port has moved into its sector from boundary k crossed at stamp tb, by stamp
t, at the reported speed; at the far boundary it is held until the next transition (R171). It does not fall back while the
reported speed falls (DEDUCED, log entry 171), and is rounded half up (log entry 168). -/
def Blk.hallAdvance (b : Blk) (p k tb t : Nat) : Int :=
  let x := b.port p
  let far := halfUp 65536 6
  let dir : Int := if k = x.sector then 1 else -1
  let adv := dir * halfUp (b.rdS (R.FBn_SPDk_SPD p 2) * max 0 (diff32 t tb) * 65536) (16 * 200000000 * 6)
  dir * satI (max adv (Int.ofNat x.reach)) 0 far

/-- θ_e of a magnetic-switch port at stamp t (R171). -/
def Blk.hallAngle (b : Blk) (p t : Nat) : Nat :=
  let x := b.port p
  match x.bound with
  | none => (b.rd (R.FBn_ANG_EOFS p) + (halfUp (Int.ofNat ((2 * x.sector + 1) * 65536)) 12).toNat) % 65536
  | some (k, tb) => unsigned 16 (Int.ofNat (b.hallEdge p k) + b.hallAdvance p k tb t)

/-- What the angle has reached by stamp t stays reached (R171). -/
def Blk.hallReach (b : Blk) (p t : Nat) : Blk :=
  match (b.port p).bound with
  | none => b
  | some (k, tb) => let a := magI (b.hallAdvance p k tb t); b.onPort p (fun x => { x with reach := a })

/-- The angle an SSI port has moved since its last good word, at the held speed (R178). -/
def Blk.heldAngle (b : Blk) (p : Nat) : Int :=
  halfUp (b.rdS (R.FBn_SPDk_SPD p 2) * Int.ofNat ((b.port p).thHeld * b.polesOf p) * 65536)
    (Int.ofNat (spdUnit * max 1 (b.rd (R.FBn_CPR_CPR p))))

/-- The port is marked invalid (R170, R178). -/
def Blk.portInvalid (b : Blk) (p : Nat) : Blk :=
  if b.on (R.FBn_STAT_INVAL p) then b else (b.flag (R.FBn_STAT_INVAL p) true).raise 0x5106 p []

/-- The position field of an SSI word (R175, R177). -/
def Blk.ssiPos (b : Blk) (p word : Nat) : Nat :=
  let wl := b.rd (R.FBn_SSI_WLEN p)
  let pb := b.rd (R.FBn_SSI_PBITS p)
  let v := word % 2 ^ wl / 2 ^ (wl - pb)
  (if b.on (R.FBn_CFG_GRAY p) then grayDecode v pb else v) % 2 ^ 32

/-- The CRC of an SSI word differs (R175). -/
def Blk.ssiCrcBad (b : Blk) (p word : Nat) : Bool :=
  let w := b.rd (R.FBn_SSI_CRCW p)
  if w = 0 then false
  else
    let n := b.rd (R.FBn_SSI_WLEN p) - w
    let c := crcMsb w (b.rd (R.FBn_SSICHK_POLY p) % 2 ^ w) (word / 2 ^ w) n (b.rd (R.FBn_SSICHK_INIT p) % 2 ^ w)
    let c := if b.on (R.FBn_SSICHK_CINV p) then 2 ^ w - 1 - c else c
    c != word % 2 ^ w

/-- A fault of an SSI word (R176): its flag, its counter and the event with its kind, each kind at
most once per 1,024 frames. -/
def Blk.ssiFault (b : Blk) (p kind : Nat) (f c : Fld) : Blk :=
  ((b.flag f true).inc c).raiseKey 1024 0x5103 p (p + 16 * kind) [Int.ofNat kind]

/-- The SSI transfer of a frame judged (R176, R178). -/
def Blk.ssiJudge (b : Blk) (p : Nat) (s : SsiSample) : Blk :=
  let tout := s.lowAtStart || s.noReturn
  let crc := !s.lowAtStart && b.ssiCrcBad p s.word
  let eb := b.rd (R.FBn_SSICHK_EBIT p)
  let ebit := !s.lowAtStart && eb != 63 && bitAt s.word eb == b.on (R.FBn_SSICHK_EPOL p)
  let b := if crc then b.ssiFault p 0 (R.FBn_STAT_CRCF p) (R.FBn_SSICNT_CRCCNT p) else b
  let b := if ebit then b.ssiFault p 1 (R.FBn_STAT_EBITF p) (R.FBn_SSICNT_EBITCNT p) else b
  let b := if tout then b.ssiFault p 2 (R.FBn_STAT_TOUTF p) (R.FBn_SSICNT_TOUTCNT p) else b
  if crc || ebit || tout then
    let b := b.onPort p (fun x => { x with ssiNext := none, ssiRead := true, ssiBad := x.ssiBad + 1, ssiGood := 0,
                                           cntSsi := x.cntSsi + 1 })
    if max 1 (b.rd (R.FBn_SSICHK_SSIMAX p)) ≤ (b.port p).ssiBad then b.portInvalid p else b
  else
    let b := b.onPort p (fun x => { x with ssiNext := some (b.ssiPos p s.word), ssiRead := true, ssiBad := 0,
                                           ssiGood := x.ssiGood + 1 })
    if 2 ≤ (b.port p).ssiGood then b.flag (R.FBn_STAT_INVAL p) false else b

/-- Signed difference of SSI positions modulo 2^min(PBITS, 32) (R177). -/
def Blk.ssiDiff (b : Blk) (p new old : Nat) : Int := posDiff 3 (b.ssiWidth p) new old

/-- An SSI position that moves by d from `old` passes the position whose delivered value is c (R180, R393). -/
def Blk.ssiPasses (b : Blk) (p old : Nat) (d : Int) (c : Nat) : Bool :=
  let own := add32 c (-b.rdS (R.MIR_POSOFS_OFS p))
  let e := b.ssiDiff p own old
  decide (own < 2 ^ max 1 (b.ssiWidth p)) &&
    if 0 < d then decide (0 < e) && decide (e ≤ d) else decide (e < 0) && decide (d ≤ e)

/-- The word read in the previous frame becomes the position (R177, R180, R182). After a faulty word the angle moves on
from the last good position at the held speed (R178); R178 gives FBn_POS and the angle only, and the position delivered to
the loops stays the last one delivered, with its extrapolation (DESIGN CHOICE, log entry 172). -/
def Blk.ssiDeliver (b : Blk) (p : Nat) : Blk :=
  let x := b.port p
  if x.ssiRead = false then b
  else match x.ssiNext with
    | none => b.onPort p (fun x => { x with thHeld := x.thHeld + b.period })
    | some w =>
      let seen := !x.ssiP.isEmpty
      let d := b.ssiDiff p w x.pos
      let ext := b.on (R.FBn_CFG_EXTRA p) && decide (3 ≤ x.ssiGood)
      let del := if ext then add32 w d else w
      let fine := decide (2 ≤ x.ssiGood)
      let b := b.flag (R.FBn_STAT_AVALID p) true
      let b := b.flag (R.FBn_STAT_FVALID p) fine
      let b := if fine then b.wrS (R.FBn_SPDk_SPD p 1) (onGrid ((d : Rat) * spdUnit / b.period)) else b
      let moved := seen && decide (d ≠ 0)
      let b := b.onPort p (fun x => { x with pos := w, ssiP := w :: x.ssiP.take 1, delPos := b.mirPos p del, thPos := del
                                             thHeld := 0, edge := x.edge || moved
                                             last := if moved then some ⟨w, 0, false⟩ else x.last })
      let b := if moved then b.flag (R.FBn_STAT_DIR p) (decide (d < 0)) else b
      if d ≠ 0 then (b.cmpHits p (decide (0 < d)) (b.ssiPasses p x.pos d)).emuMove p d else b

/-- The fine speed of a counting port at a SAMPLE_PHASE with stamp t (R172). -/
def Blk.fineSpeed (b : Blk) (p t : Nat) : Blk :=
  let x := b.port p
  match x.last with
  | none => b.flag (R.FBn_STAT_FVALID p) false
  | some l =>
    if x.edge = false then
      let old := b.rdS (R.FBn_SPDk_SPD p 1)
      let dt := diff32 t l.t
      if dt ≤ 0 then b
      else
        let cap := onGrid (3200000000 / (dt : Rat))
        b.wrS (R.FBn_SPDk_SPD p 1) (sgn old * min (Int.ofNat (magI old)) cap)
    else
      let r := match x.prevUse with
        | some e => some e
        | none => x.firstUse
      match r with
      | none => b.flag (R.FBn_STAT_FVALID p) false
      | some e =>
        let dt := diff32 l.t e.t
        if (e.t = l.t ∧ e.cnt = l.cnt) ∨ dt ≤ 0 then b.flag (R.FBn_STAT_FVALID p) false
        else
          (b.wrS (R.FBn_SPDk_SPD p 1) (onGrid ((diff32 l.cnt e.cnt : Rat) * 3200000000 / (dt : Rat)))).flag
            (R.FBn_STAT_FVALID p) true

/-- The position enters the window of R173. -/
def Blk.spdPush (b : Blk) (p : Nat) : Blk :=
  b.onPort p (fun x => { x with hist := (x.pos :: x.hist).take 64 })

/-- Standstill, window speed and reported speed (R173). At standstill the window holds the position alone, so that it
restarts at the frame of the next edge. -/
def Blk.spdRules (b : Blk) (p : Nat) : Blk :=
  let x := b.port p
  let win := b.rd (R.FBn_SPDCFG_WIN p) + 1
  let quiet := if x.edge then 0 else x.still + 1
  let wasStill := b.on (R.FBn_STAT_STILL p)
  let still := if x.edge then false else wasStill || decide (b.rd (R.FBn_SPDCFG_STILL p) ≤ quiet)
  let winFr := if still then 0 else if wasStill then 1 else min (x.winFr + 1) 128
  let d := posDiff (b.fbMode p) (b.ssiWidth p) x.pos (x.hist.getD (win - 1) (x.hist.getLastD 0))
  let b := (b.spdPush p).onPort p (fun x => { x with still := min quiet 8192, winFr := winFr, edge := false
                                                     prevUse := x.lastUse, run := if still then 0 else x.run
                                                     firstUse := if still then none else x.firstUse
                                                     lastUse := if still then none else x.lastUse })
  let b := b.flag (R.FBn_STAT_STILL p) still
  if still then
    let b := b.flag (R.FBn_STAT_FVALID p) false
    let b := b.onPort p (fun x => { x with prevUse := none, hist := [x.pos] })
    b.each 3 (fun k b => b.wr (R.FBn_SPDk_SPD p k) 0)
  else
    let b := b.wrS (R.FBn_SPDk_SPD p 0) (onGrid ((d : Rat) * spdUnit / ((win : Rat) * b.period)))
    let rep := if winFr < win then 0
      else if b.on (R.FBn_STAT_FVALID p) then b.rdS (R.FBn_SPDk_SPD p 1) else b.rdS (R.FBn_SPDk_SPD p 0)
    b.wrS (R.FBn_SPDk_SPD p 2) rep

/-- The frame after a faulty word: the speeds keep their values and the frame counts in the window (R173, R178). Whether
the port stands still is judged at the next good word (log entry 151). -/
def Blk.spdKeep (b : Blk) (p : Nat) : Blk :=
  (b.spdPush p).onPort p (fun x => { x with still := min (x.still + 1) 8192, winFr := if x.winFr = 0 then 0 else min (x.winFr + 1) 128 })

/-- A switch code with no legal sector stands at a SAMPLE_PHASE (R170); two legal ones in a row make the port valid
again. -/
def Blk.hallStands (b : Blk) (p : Nat) : Blk :=
  let x := b.port p
  let bad := (hallTable (hallCode x.a x.b x.z)).isNone
  let b := b.onPort p (fun x => { x with badCode := if bad then min (x.badCode + 1) 2 else 0,
                                         ssiGood := if bad then 0 else min (x.ssiGood + 1) 2 })
  if 2 ≤ (b.port p).badCode then b.portInvalid p
  else if 2 ≤ (b.port p).ssiGood then b.flag (R.FBn_STAT_INVAL p) false else b

/-- Port p at a SAMPLE_PHASE with stamp t (R161, R167, R171 to R178). -/
def Blk.portSample (b : Blk) (p t : Nat) (s : SsiSample) : Blk :=
  match b.fbMode p with
  | 0 => b
  | 3 =>
    let bad := (b.port p).ssiRead && (b.port p).ssiNext.isNone
    let b := b.ssiDeliver p
    let b := if bad then b.spdKeep p else b.spdRules p
    let b := b.wr (R.FBn_POS_POS p) (b.port p).pos
    let b := b.onPort p (fun x => { x with
      delTh := unsigned 16 (Int.ofNat (b.quadAngle p (b.mirPos p x.thPos)) + b.heldAngle p) })
    b.ssiJudge p s
  | m =>
    let b := (b.fineSpeed p t).spdRules p
    let b := b.wr (R.FBn_POS_POS p) (b.port p).pos
    let b := b.onPort p (fun x => { x with
      delPos := b.mirPos p x.pos, delTh := if m = 1 then b.quadAngle p (b.mirPos p x.pos) else b.hallAngle p t })
    if m = 2 then (b.hallReach p t).hallStands p else b

/-- An edge that lies further back than R162 asks for no longer counts against the next one. -/
def Blk.filtAge (b : Blk) (p t : Nat) : Blk :=
  b.onPort p (fun x => { x with filt := x.filt.filter (fun e => decide (diff32 t e < Int.ofNat (b.edgeGap p))) })

/-- Every port at a SAMPLE_PHASE. -/
def Blk.feedSample (b : Blk) (smp : Samples) : Blk :=
  if b.powered .feed then
    b.each 12 (fun p b => (b.portSample p smp.time.toNat (smp.ssi.getD p default)).filtAge p smp.time.toNat)
  else b

/-- The reported speed of port p as Q15 of the full scale of drive n (R173). -/
def Blk.portSpeed (b : Blk) (p n : Nat) : Int :=
  let cpr := Int.ofNat (max 1 (b.rd (R.FBn_CPR_CPR p)))
  let fs := Int.ofNat (max 1 (b.rd (R.Dn_SPDFS_SPD_FS n)))
  sat16 (halfUp (b.rdS (R.FBn_SPDk_SPD p 2) * 60 * 2048) (cpr * fs))

end Sys2Proof.Machine
end

