-- ==== Sys2Proof/Machine/Stepper.lean ====
section
/-! DEFINITION. The stepper channels (chapter 10, R237 to R245, R256 to R259): amplitude, winding references, load angle,
stall and homing, ENERGIZE and DEENERGIZE. -/

namespace Sys2Proof.Machine

/-- Carrier period P_s of stepper n in units of 78.125 ps (R238). -/
def Blk.stpCarrier (b : Blk) (n : Nat) : Nat := 32 * b.period / 2 ^ b.rd (R.Sn_CFG_SRATIO n)

/-- The on-time of a winding's bridge input for the duty d, 0 where MINPW omits the pulse (R238). -/
def Blk.stpOn (b : Blk) (n : Nat) (d : Int) : Nat :=
  let on := (magI d * b.stpCarrier n + 16384) / 32768
  if on < b.rd (R.Sn_TIM_MINPW n) then 0 else on

/-- A pulse of `on` units centred on each peak is high `u` units after a tick; a valley stands at each tick (R238). -/
def inPulse (ps on u : Nat) : Bool :=
  let w := 2 * (u % max 1 ps)
  decide (ps ≤ w + on) && decide (w < ps + on)

/-- The levels of IN1 and IN2 of a winding (R238). -/
def Blk.stpInputs (b : Blk) (n : Nat) (d : Int) (u : Nat) : Bool × Bool :=
  let p := inPulse (b.stpCarrier n) (b.stpOn n d) u
  if d < 0 then (false, p) else (p, false)

/-- The output pins of a stepper channel (R237). -/
structure StpPins where
  en   : Bool
  ain1 : Bool
  ain2 : Bool
  bin1 : Bool
  bin2 : Bool
  deriving DecidableEq, Repr

/-- The pins of stepper n `u` units of 78.125 ps after a tick, none while they are high-impedance: without ownership; then
inactive without gate-enable or with a fault latched; else as the channel state and the duty words say (R237, R238,
R240, R244). -/
def Blk.stpPins (b : Blk) (n u : Nat) : Option StpPins :=
  let s := b.stp n
  let live := b.gateEn (8 + n) && (b.stpState n == 1 || b.stpState n == 2)
  let w := fun d => if live then b.stpInputs n d u else (false, false)
  if b.owns (8 + n) then
    some ⟨(live && s.en) != b.on (R.Sn_CFG_EPOL n), (w s.dutyA).1, (w s.dutyA).2, (w s.dutyB).1, (w s.dutyB).2⟩
  else none

/-- RUN and HOLD as R310 scales them. -/
def Blk.scaledAmp (b : Blk) (n : Nat) (f : Fld) : Int :=
  let i : Int := Int.ofNat (b.rd f)
  if b.on (R.THM_Sn_CFG_EN n) then stQ (pMul i (b.thm.fact.getD n 32767) 0) else i

/-- The current amplitude in force (R243). -/
def Blk.amplitude (b : Blk) (n : Nat) : Int :=
  let s := b.stp n
  if s.homing ≠ 0 then Int.ofNat (b.rd (R.Sn_HOME_HOMEI n))
  else
    let run := b.scaledAmp n (R.Sn_ICUR_RUN n)
    match s.fall with
    | none => run
    | some k =>
      let hold := b.scaledAmp n (R.Sn_ICUR_HOLD n)
      run - halfUp ((run - hold) * Int.ofNat (min k 16)) 16

/-- T[i] of the channel's table, T[256] as 32,767 (R242). -/
def Stepper.tab (s : Stepper) (i : Nat) : Int := if i < 256 then s.table.getD i 0 else 32767

/-- The winding references at a position (R242). -/
def windRefs (s : Stepper) (amp : Int) (pInt : Nat) : Int × Int :=
  let e := pInt % 1024
  let i := e % 256
  let x : Int × Int := match e / 256 with
    | 0 => (s.tab (256 - i), s.tab i)
    | 1 => (-s.tab i, s.tab (256 - i))
    | 2 => (-s.tab (256 - i), -s.tab i)
    | _ => (s.tab i, -s.tab (256 - i))
  (stQ (pMul amp x.1 0), stQ (pMul amp x.2 0))

/-- The references of stepper n at a SAMPLE_PHASE, from the present P_int (R241, R243). -/
def Blk.stpRefs (b : Blk) (n : Nat) : Int × Int := windRefs (b.stp n) (b.amplitude n) (b.axis (8 + n)).pInt

/-- SAMPLE_PHASE: Sn_IREF shows the references latched. -/
def Blk.stpSample (b : Blk) (n : Nat) : Blk :=
  let r := b.stpRefs n
  (b.wrS (R.Sn_IREF_IA n) r.1).wrS (R.Sn_IREF_IB n) r.2

/-- Back-EMF of a winding in Q15 of VBR (R256). -/
def Blk.backEmf (b : Blk) (n : Nat) (d i iPrev : Int) : Rat :=
  let vbr : Rat := b.rd (R.Sn_VBR_VBR n)
  let amp : Int → Rat := fun x => (x : Rat) * b.rd (R.AFE_SISC_IFS n) / 1000 / 32768
  let tf : Rat := (b.period : Rat) / 400000000
  let drop := amp i * b.rd (R.Sn_MOTOR_RWIND n) / 1000 +
    (b.rd (R.Sn_MOTOR_LWIND n) : Rat) / 1000000 * (amp i - amp iPrev) / tf
  (d : Rat) - drop * 32768 * 10 / vbr

/-- The load angle and |e| of a frame (R256). -/
def Blk.loadAngle (b : Blk) (n : Nat) : Int × Int :=
  let s := b.stp n
  let m := b.afe.stp.getD n default
  let eA := onGrid (b.backEmf n s.dutyA m.iA s.iA)
  let eB := onGrid (b.backEmf n s.dutyB m.iB s.iB)
  let th := (b.axis (8 + n)).pInt % 1024 * 64
  let par := halfUp (eA * cosU th + eB * sinU th) 32767
  let perp := halfUp (eB * cosU th - eA * sinU th) 32767
  let sg := sgn (b.axis (8 + n)).v
  (signed 16 (angleOf (-sg * par) (sg * perp)), Int.ofNat (isqrt (eA * eA + eB * eB).toNat))

/-- STALLA reached by a load angle (R257). -/
def Blk.atStall (b : Blk) (n : Nat) (d : Int) : Bool := decide (Int.ofNat (b.rd (R.Sn_STALL_STALLA n) * 65536) ≤ d * 720)

/-- The load estimate of one frame and the frames in a row at STALLA (R256, R257). -/
def Blk.stpLoad (b : Blk) (n : Nat) : Blk :=
  let m := b.afe.stp.getD n default
  let v := (b.axis (8 + n)).v
  let b := if b.stpState n = 2 ∧ v ≠ 0 ∧ 0 < b.rd (R.Sn_VBR_VBR n) then
      let l := b.loadAngle n
      let b := (b.wrS (R.Sn_LOAD_DELTA n) l.1).wrSat (R.Sn_LOAD_EMAG n) l.2.toNat
      b.onStp n (fun s => { s with stallN := if b.atStall n l.1 then min (s.stallN + 1) 255 else 0 })
    else b.onStp n (fun s => { s with stallN := 0 })
  b.onStp n (fun s => { s with iA := m.iA, iB := m.iB })

/-- The stall of a homing at the tick (R258): the stop's position, then the way back from it. -/
def Blk.homeAt (b : Blk) (n : Nat) : Blk :=
  let a := 8 + n
  let st := (b.stp n).stall.getD (0, 1)
  let pos := unsigned 32 (b.rdS (R.Sn_HOMEPOS_POS n) + halfUp (st.1 * 256) 16384 * st.2)
  let b := (b.abruptStop a).onAxis a (fun x => { x with susp := none, pRef := pos * 2 ^ 32 })
  let back := -st.2 * Int.ofNat (b.rd (R.Sn_BACKOFF_BACKOFF n))
  let p := b.planMove a ⟨0, false, Int.ofNat (add32 pos back), 0, 0, 0⟩ 0 none
  if back = 0 then
    let b := (b.onStp n (fun s => { s with homing := 0 })).wr (R.Sn_STAT_SSTATE n) 1
    let b := (b.flag (R.Sn_STAT_PUNC n) false).flag (R.Sn_STAT_HOMED n) true
    (b.raise 0x4001 a [halfUp (st.1 * 256) 16384]).showAxis a
  else
    ((b.onAxis a (fun x => { x with cur := some p })).onStp n (fun s => { s with homing := 2 })).showAxis a

/-- The abrupt stop of a stall at the tick (R257, R258): the channel stays in HOLD. A channel that a fault has taken out of
MOVE since the verdict is left as it is. -/
def Blk.stallAct (b : Blk) (n : Nat) : Blk :=
  let s := b.stp n
  if s.stallDue = false then b
  else
    let b := b.onStp n (fun s => { s with stallDue := false, stallN := 0 })
    if b.stpState n ≠ 2 then b
    else if s.homing = 1 then b.homeAt n
    else
      let b := ((b.abruptStop (8 + n)).flag (R.Sn_STAT_PUNC n) true).raise 0x4307 (8 + n) []
      b.wr (R.Sn_STAT_SSTATE n) 1

/-- What a tick does to stepper n before its axis advances: the load of the frame just ended, a stall, the fall of the
amplitude. -/
def Blk.stpTick (b : Blk) (n : Nat) : Blk :=
  if b.on (R.Sn_CFG_EN n) = false then b
  else
    let b := ((b.stpLoad n).stallAct n).homeNow n
    b.onStp n (fun s => { s with fall := s.fall.map (fun k => min (k + 1) 16) })

/-- What a tick does to stepper n after its axis has advanced: standstill and homing travel. -/
def Blk.stpMoved (b : Blk) (n : Nat) : Blk :=
  let v := (b.axis (8 + n)).v
  let atSpd := decide (magI v = b.rd (R.Sn_HOME_HOMESPD n) * 2 ^ 24)
  b.onStp n (fun s =>
    { s with zeroFr := if v = 0 then min (s.zeroFr + 1) 65536 else 0,
             homeFr := if s.homing = 1 ∧ atSpd then min (s.homeFr + 1) 65536 else s.homeFr,
             homeMs := if s.homing = 1 then s.homeMs + magI v else s.homeMs })

/-- HOLD_CURRENT_FALL (R243): HOLDT frames after standstill the fall to HOLD begins. -/
def Blk.doHoldFall (b : Blk) (n : Nat) : Blk :=
  let t := b.rd (R.Sn_TIM_HOLDT n)
  if 0 < t ∧ t ≤ (b.stp n).zeroFr ∧ (b.stp n).fall = none then b.onStp n (fun s => { s with fall := some 0 }) else b

/-- STALL_DETECTED (R257, R258): STALLN frames in a row at STALLA and a speed of STVMIN declare a stall, during homing
once it is armed; with STALLEN = 1, or during homing, it acts at the next tick. -/
def Blk.doStall (b : Blk) (n : Nat) : Blk :=
  let s := b.stp n
  let v := (b.axis (8 + n)).v
  let need := b.rd (R.Sn_STALL_STALLN n)
  if b.stpState n = 2 ∧ (s.homing = 1 → need ≤ s.homeFr) ∧ 0 < need ∧ need ≤ s.stallN ∧
      b.rd (R.Sn_STALL_STVMIN n) * 2 ^ 24 ≤ magI v then
    (b.flag (R.Sn_STAT_STALL n) true).onStp n (fun s =>
      { s with stall := some (b.rdS (R.Sn_LOAD_DELTA n), sgn v)
               stallDue := s.homing == 1 || b.on (R.Sn_CFG_STALLEN n) })
  else b

/-- HOMING_FAILED (R259). -/
def Blk.doHomingFailed (b : Blk) (n : Nat) : Blk :=
  let s := b.stp n
  if s.homing = 1 ∧ b.rd (R.Sn_HOMEX_HOMEMAX n) * 2 ^ 32 ≤ s.homeMs then
    let b := ((b.onStp n (fun s => { s with homing := 0 })).stopAxis (8 + n)).onAxis (8 + n) (fun x => { x with susp := none })
    (((b.flag (R.Sn_STAT_HOMED n) false).flag (R.Sn_STAT_PUNC n) true).raise 0x4306 (8 + n) []).showAxis (8 + n)
  else b

/-- STEPPER_BRIDGE_FAULT (R245). -/
def Blk.doBridgeFault (b : Blk) (n : Nat) : Blk :=
  if b.on (R.Sn_CFG_EN n) ∧ b.on (R.Sn_CFG_FLTEN n) ∧ b.powered .pwm then
    ((b.flag (R.Sn_STAT_FLT n) true).raise 0x4304 (8 + n) []).stpFault n
  else b

/-- ENERGIZE (R244): a channel already energised stays as it is. -/
def Blk.doEnergize (b : Blk) (h : Hdr) (n : Nat) : Blk :=
  b.forTarget h 0x10 (8 + n) fun b =>
  let st := b.stpState n
  if st = 1 ∨ st = 2 then b.ok h 0x10
  else if st = 4 ∨ b.on (R.Sn_STAT_FLTIN n) ∨ b.on (R.Sn_STAT_HASP_EN n) = false ∨ b.on (R.Sn_STAT_OWN n) = false then
    (b.raise 0x4101 (8 + n) [1]).refuse h 0x10 0x0001
  else
    let b := if st = 3 then b.raise 0x4002 (8 + n) [] else b
    let b := (b.wr (R.Sn_STAT_SSTATE n) 1).onStp n (fun s =>
      { s with enReq := true, offReq := false, deEn := false, fall := some 16, zeroFr := 0 })
    b.ok h 0x10

/-- DEENERGIZE (R244): a STOP of the axis, then the bridges off at the OUTPUT_PHASE after standstill. -/
def Blk.doDeenergize (b : Blk) (h : Hdr) (n : Nat) : Blk :=
  b.forTarget h 0x11 (8 + n) fun b =>
  if b.stpState n = 1 ∨ b.stpState n = 2 then
    let a := 8 + n
    let still := decide ((b.axis a).v = 0) && decide ((b.axis a).vRaw = 0) && (b.axis a).cur.isNone
    let b := (b.stopAxis a).onStp n (fun s => { s with homing := 0, homeDue := false, deEn := true, offReq := s.offReq || still })
    b.ok h 0x11
  else b.ok h 0x11

end Sys2Proof.Machine
end

