-- ==== Sys2Proof/Machine/Commut.lean ====
section
/-! DEFINITION. Commutation (chapter 4): sectors, the angle and speed of a frame, zero crossings, the soft-step sequencer,
synchronism, the reference ramp, hand-overs between modes. -/

namespace Sys2Proof.Machine

/-- CUR of a drive: 0 field-oriented, 1 soft-step sensorless, 2 soft-step sensored. -/
def Blk.cur (b : Blk) (n : Nat) : Nat := b.rd (R.Dn_CSTAT_CUR n)

/-- The frame runs in dq form: field-oriented mode or alignment (R89, R128). -/
def Blk.runsDq (b : Blk) (n : Nat) : Bool := b.stage n == 4 || (b.cur n == 0 && b.stage n != 5)

/-- High, low and floating leg of a sector for a direction (R92). -/
def legsOf (sector : Nat) (dir : Int) : Nat × Nat × Nat :=
  let t := match sector with
    | 1 => (0, 2, 1)
    | 2 => (1, 2, 0)
    | 3 => (1, 0, 2)
    | 4 => (2, 0, 1)
    | 5 => (2, 1, 0)
    | _ => (0, 1, 2)
  if dir < 0 then (t.2.1, t.1, t.2.2) else t

/-- The crossing of the floating phase rises in this sector (R92). -/
def risingIn (sector : Nat) : Bool := sector % 2 == 1

/-- The sector that contains an angle θ_q (R92). -/
def sectorOf (thq : Nat) : Nat := thq % 65536 * 6 / 65536 + 1

/-- The next sector in a direction. -/
def nextSector (sector : Nat) (dir : Int) : Nat := if dir < 0 then (sector + 4) % 6 + 1 else sector % 6 + 1

/-- An angle in 0.0625° as 65,536 units to 360°. -/
def fromHalfUnits (x : Int) : Int := halfUp (x * 65536) 5760

/-- ADV_LIM of R105 in 0.0625°. -/
def advLim (sensorless : Bool) (soft : Nat) : Int := if sensorless then 416 - Int.ofNat soft else 480

/-- The advance angle α in 65,536 units for id* (R105). -/
def Blk.advance (b : Blk) (n : Nat) (idRef : Int) : Nat :=
  let base := 2 * Int.ofNat (b.rd (R.Dn_SOFT_ADVB n))
  let idm := Int.ofNat (b.rd (R.Dn_FW_IDMIN n))
  let l := advLim (b.cur n != 2) (b.rd (R.Dn_SOFT_SOFT n))
  if idm = 0 then (fromHalfUnits base).toNat
  else (halfUp (65536 * (base * idm + (l - base) * (-idRef))) (5760 * idm)).toNat

/-- Electrical angle gained in `dt` PWMCLK cycles at speed ω (Q15 of SPD_FS), in 65,536 units (R101, R191). -/
def Blk.angleGain (b : Blk) (n : Nat) (w dt : Int) : Int :=
  halfUp (w * Int.ofNat (b.rd (R.Dn_SPDFS_SPD_FS n) * b.rd (R.Dn_SPDFS_POLEP n)) * dt) 6000000000

/-- Speed as Q15 of SPD_FS for a sector time T_s (R99). -/
def Blk.speedOfTs (b : Blk) (n ts : Nat) : Int :=
  let d := ts * b.rd (R.Dn_SPDFS_POLEP n) * b.rd (R.Dn_SPDFS_SPD_FS n)
  if d = 0 then 0 else sat16 (halfUp (2000000000 * 32768) (Int.ofNat d))

/-- Sector time in PWMCLK cycles for a speed; 0 at standstill. -/
def Blk.tsOfSpeed (b : Blk) (n : Nat) (w : Int) : Nat :=
  let d := magI w * b.rd (R.Dn_SPDFS_POLEP n) * b.rd (R.Dn_SPDFS_SPD_FS n)
  if d = 0 then 0 else 2000000000 * 32768 / d

/-- The drive takes its angle from crossings. -/
def Blk.byCrossings (b : Blk) (n : Nat) : Bool := b.cur n == 1

/-- Angle of mid-sector as θ_e (R86, R92). -/
def midTheta (sector : Nat) : Nat :=
  (((2 * sector - 1) * 65536 + 6) / 12 + 49152) % 65536

/-- θ_e at stamp t of a drive that takes its angle from crossings or, before two of them, from its anchor (R99, R111). -/
def Blk.sensorlessAngle (b : Blk) (n t : Nat) : Nat :=
  let q := b.seq n
  if q.acq.isSome ∨ b.on (R.Dn_CSTAT_SYNC n) = false then
    unsigned 16 (Int.ofNat q.anc.1 + b.angleGain n q.anc.2.2 (diff32 t q.anc.2.1))
  else
    let ts := b.rd (R.Dn_TSEC_TS n)
    if ts = 0 then q.anc.1
    else unsigned 16 (Int.ofNat q.anc.1 + q.dir * halfUp (diff32 t q.anc.2.1 * 65536) (6 * Int.ofNat ts))

/-- θ_e and the speed word of the frame whose SAMPLE_PHASE has stamp t (R99, R101, R111, R128, R129; log entry 27). -/
def Blk.frameAngle (b : Blk) (n t : Nat) : Nat × Int :=
  let q := b.seq n
  if b.stage n = 4 then (q.thCmd / 65536, 0)
  else if b.stage n = 5 then
    let f := Int.ofNat (q.ifK * b.rd (R.Dn_IF_IFACC n) * b.period)
    let d := Int.ofNat (max 1 (b.rd (R.Dn_SPDFS_POLEP n) * b.rd (R.Dn_SPDFS_SPD_FS n)))
    (q.thCmd / 65536, q.fwd * sat16 (halfUp (f * 6 * 32768) (400000000 * d)))
  else if b.sensorless n = false then
    let p := b.rd (R.Dn_CMODE_FBSEL n)
    ((b.port p).delTh, b.portSpeed p n)
  else if (b.stage n = 0 ∧ b.runState n ≠ 1) ∨ b.stage n = 1 ∨ b.stage n = 2 then ((b.drv n).theta, 0)
  else if q.acq.isSome ∨ b.on (R.Dn_CSTAT_SYNC n) = false then (b.sensorlessAngle n t, q.anc.2.2)
  else (b.sensorlessAngle n t, q.dir * b.speedOfTs n (b.rd (R.Dn_TSEC_TS n)))

/-- The sector time in force: the crossings' in sensorless soft-step, else that of the speed. -/
def Blk.sectorTime (b : Blk) (n : Nat) : Nat :=
  let q := b.seq n
  if b.stage n = 5 then
    let f := q.ifK * b.rd (R.Dn_IF_IFACC n) * b.period
    if f = 0 then 0 else 400000000 * 10 * 200000000 / (6 * f)
  else if b.byCrossings n then
    if q.acq.isSome then b.tsOfSpeed n q.anc.2.2 else b.rd (R.Dn_TSEC_TS n)
  else b.tsOfSpeed n (b.drv n).sSpd

/-- Angle that the rotor has covered, in its direction, past the commutation that opened the sector in force; 65,536
units (R96, R99, R101, R129). -/
def Blk.intoSector (b : Blk) (n t : Nat) : Int :=
  let q := b.seq n
  let d := b.drv n
  let s := b.rd (R.Dn_CSTAT_SECTOR n)
  let start := fun (adv : Int) (thq : Int) =>
    let edge := if q.dir < 0 then halfUp (Int.ofNat (s * 65536)) 6 else halfUp (Int.ofNat ((s - 1) * 65536)) 6
    signed 16 (unsigned 16 ((thq - edge) * q.dir + adv))
  if b.stage n = 5 then start 0 (Int.ofNat (q.thCmd / 65536 + 16384))
  else if b.byCrossings n && q.acq.isNone && b.on (R.Dn_CSTAT_SYNC n) then
    let ts := b.rd (R.Dn_TSEC_TS n)
    if ts = 0 then 0 else halfUp (diff32 t q.tComm * 65536) (6 * Int.ofNat ts)
  else if b.byCrossings n then start (Int.ofNat d.sAl) (Int.ofNat (b.sensorlessAngle n t + 16384))
  else start (Int.ofNat d.sAl) (Int.ofNat d.sTh + b.angleGain n d.sSpd (diff32 t d.sT) + 16384)

/-- The placed time of the next commutation of an anchored sensorless drive (R99, R100). -/
def Blk.placedAt (b : Blk) (n : Nat) : Nat :=
  let q := b.seq n
  let ts := Int.ofNat (b.rd (R.Dn_TSEC_TS n))
  if q.seen then
    add32 (b.rd (R.Dn_ZCTS_TS n)) (halfUp ((65536 - 12 * Int.ofNat (b.drv n).sAl) * ts) 131072)
  else add32 q.tComm ts

/-- Commutations are placed from crossings (R99): two have anchored the angle. -/
def Blk.anchored (b : Blk) (n : Nat) : Bool :=
  b.byCrossings n && (b.seq n).acq.isNone && b.on (R.Dn_CSTAT_SYNC n) && b.stage n != 5

/-- Angle from stamp t to the next commutation, in 65,536 units (R99 to R101, R129); 0 or less once it is due. -/
def Blk.toComm (b : Blk) (n t : Nat) : Int :=
  if b.anchored n then halfUp (diff32 (b.placedAt n) t * 65536) (6 * Int.ofNat (max 1 (b.rd (R.Dn_TSEC_TS n))))
  else halfUp 65536 6 - b.intoSector n t

/-- The angle places a commutation at or before stamp t. -/
def Blk.commDue (b : Blk) (n t : Nat) : Bool :=
  if b.anchored n then decide (0 ≤ diff32 t (b.placedAt n)) else decide (b.toComm n t ≤ 0)

/-- The sequencer of a soft-step drive runs: pulses are applied, or a standby runs it in shadow (R391). -/
def Blk.softRuns (b : Blk) (n : Nat) : Bool :=
  b.runState n == 1 && b.rd (R.Dn_CSTAT_SECTOR n) != 0

/-- T_s from the crossings kept, newest first (R99): the mean of the last two intervals, or the only one. -/
def tsOfList : List Nat → Nat
  | a :: _ :: c :: _ => (diff32 a c).toNat / 2
  | a :: c :: _ => (diff32 a c).toNat
  | _ => 0

/-- A valid crossing at stamp t is used (R98, R99, R111, R121). -/
def Blk.takeCrossing (b : Blk) (n t : Nat) : Blk :=
  let q := b.seq n
  let l := (t :: q.tzc).take 3
  let b := (b.wr (R.Dn_ZCTS_TS n) t).onSeq n (fun q => { q with tzc := l, seen := true, missed := 0 })
  let b := if 2 ≤ l.length then b.wr (R.Dn_TSEC_TS n) (tsOfList l) else b
  if b.byCrossings n then
    let mid := midTheta (b.rd (R.Dn_CSTAT_SECTOR n))
    match q.acq with
    | some (s, x) =>
      if 1 ≤ x then (b.onSeq n (fun q => { q with acq := none, anc := (mid, t, 0) })).flag (R.Dn_CSTAT_SYNC n) true
      else b.onSeq n (fun q => { q with acq := some (s, x + 1) })
    | none => b.onSeq n (fun q => { q with anc := (mid, t, 0) })
  else b

/-- ZERO_CROSSING (R97, R98, R115): the mean of the entry and the exit. -/
def Blk.doZeroCrossing (b : Blk) (n ph : Nat) (rising : Bool) (tin tout edgeAge : Nat) : Blk :=
  let t := add32 tin (diff32 tout tin / 2)
  if b.configured n = false then b
  else if b.sstate n = 1 ∨ b.sstate n = 2 then
    if ph = 0 then b.onSeq n (fun q => { q with xings := q.xings ++ [t] }) else b
  else if b.softRuns n = false then b
  else
    let s := b.rd (R.Dn_CSTAT_SECTOR n)
    let soft := Int.ofNat (b.rd (R.Dn_SOFT_SOFT n))
    let blank := Int.ofNat (b.rd (R.Dn_SOFT_BLANK n))
    let at_ := b.intoSector n t
    let valid := decide (ph = (legsOf s 1).2.2) && (rising == risingIn s) &&
      decide (fromHalfUnits (soft + 2 * blank) ≤ at_) && decide (at_ ≤ fromHalfUnits (960 - soft)) &&
      decide (b.rd (R.Dn_ZC_EBLANK n) ≤ edgeAge)
    if valid = false then b.inc (R.Dn_CSTAT_ZCREJ n)
    else if (b.seq n).seen then b
    else b.takeCrossing n t

/-- The span of a softened transition in PWMCLK cycles (R94). -/
def Blk.spanLen (b : Blk) (n : Nat) : Nat := b.rd (R.Dn_SOFT_SOFT n) * b.sectorTime n / 480

/-- The span covers at least two reload intervals (R95). -/
def Blk.spanFits (b : Blk) (n : Nat) : Bool := decide (b.carrier n ≤ b.spanLen n * 64) && decide (0 < b.spanLen n)

/-- The outgoing and incoming legs at the change from sector s, and whether their shared role is high (R94). -/
def swapLegs (s : Nat) (dir : Int) : Nat × Nat × Bool :=
  let o := legsOf s dir
  let i := legsOf (nextSector s dir) dir
  if o.1 = i.1 then (o.2.1, i.2.1, false) else (o.1, i.1, true)

/-- SOFT_ANGLE / 2 in 65,536 units (R94). -/
def Blk.halfSpan (b : Blk) (n : Nat) : Int := fromHalfUnits (Int.ofNat (b.rd (R.Dn_SOFT_SOFT n)))

/-- How far into its span a transition is at stamp t, in angle, from 0 to 2 × `halfSpan` (R94, R95): the span is centred on
the commutation, placed before it and done after it. -/
def Blk.spanPos (b : Blk) (n t : Nat) (x : Trans) : Int :=
  let h := b.halfSpan n
  satI (if x.after then h + b.intoSector n t else h - b.toComm n t) 0 (if x.after then 2 * h else h)

/-- The softened transition that is running at stamp t or begins by then (R94, R95). -/
def Blk.transAt (b : Blk) (n t : Nat) : Option Trans :=
  let q := b.seq n
  match q.trans with
  | some x => if b.spanPos n t x < 2 * b.halfSpan n then some x else none
  | none =>
    if b.softRuns n && b.spanFits n && decide (b.toComm n t ≤ b.halfSpan n) && !b.commDue n t then
      let w := swapLegs (b.rd (R.Dn_CSTAT_SECTOR n)) q.dir
      some ⟨w.1, w.2.1, w.2.2, false⟩
    else none

/-- One leg of the active compare words replaced. -/
def Blk.setActive (b : Blk) (n k : Nat) (l : Leg) : Blk := b.onDrv n (fun d => { d with active := d.active.set k l })

/-- The devices that were on in leg `o` pass to leg `i` (R95): the swap of a hard transition, between reload points. -/
def Blk.swapPins (b : Blk) (n o i : Nat) : Blk :=
  let s := if b.on (R.Dn_CFG_TOPO n) then 16 else 4
  let g := Nat.lor (b.rd (R.Dn_PINS_ACTV n)) (b.drv n).waitOn
  let part := g / s ^ o % s
  b.gatesTo n (g - part * s ^ o - g / s ^ i % s * s ^ i + part * s ^ i) 0

/-- SOFTSTEP_COMMUTATION at stamp t (R92, R94, R95, R99 to R101). With SOFT = 0 a transition is hard by setting and
neither sets SOFTLIM nor raises 0x3114, though its span covers no reload interval (DESIGN CHOICE, log entry 161). A hard
transition hands the outgoing leg's active duty to the incoming leg at the commutation itself. -/
def Blk.doCommutation (b : Blk) (n t : Nat) : Blk :=
  if b.softRuns n && b.commDue n t then
    let q := b.seq n
    let s := b.rd (R.Dn_CSTAT_SECTOR n)
    let w := swapLegs s q.dir
    let fits := b.spanFits n
    let miss := !q.seen && b.byCrossings n && b.stage n != 5
    let live := b.pstate n == 1
    let tr := if fits then some ⟨w.1, w.2.1, w.2.2, true⟩ else none
    let b := if miss && live then b.raise 0x3115 n [] else b
    let b := b.onSeq n (fun q =>
      { q with tComm := t, seenOld := q.seenPrev, seenPrev := q.seen, seen := false, trans := tr,
               tzc := if !q.seen && b.stage n == 5 then [] else q.tzc,
               missed := if miss then min (q.missed + 1) 15 else q.missed,
               acq := q.acq.map (fun x => (x.1 + 1, x.2)) })
    let b := b.wr (R.Dn_CSTAT_SECTOR n) (nextSector s q.dir)
    if fits then b
    else
      let b := if b.rd (R.Dn_SOFT_SOFT n) = 0 || !live then b
        else (b.flag (R.Dn_CSTAT_SOFTLIM n) true).raiseLim 1024 0x3114 n []
      let l := (b.drv n).active.getD w.1 default
      let b := (b.setActive n w.1 ⟨true, 0⟩).setActive n w.2.1 l
      if live then b.swapPins n w.1 w.2.1 else b
  else b

/-- The channel blocks its pulses for want of synchronism: event 0x3316 with its cause (1 missed sectors, 2 acquisition,
3 FMAX, 4 a verdict, which the record names by its CAUSE, 5 a takeover). -/
def Blk.syncLost (b : Blk) (n cause : Nat) (more : List Int := []) : Blk :=
  let b := (b.stopReq n).onDrv n (fun d => { d with byStop := false })
  (b.flag (R.Dn_CSTAT_SYNC n) false).raise 0x3316 n (Int.ofNat cause :: more)

/-- The sequencer loses synchronism: pulses are blocked under R100; one in shadow has none to block, and begins anew from
the next F (R391, log entry 141). -/
def Blk.loseSync (b : Blk) (n cause : Nat) (more : List Int := []) : Blk :=
  if b.pstate n = 1 then b.syncLost n cause more
  else ((b.flag (R.Dn_CSTAT_SYNC n) false).wr (R.Dn_CSTAT_SECTOR n) 0).onSeq n (fun q => { q with missed := 0, trans := none })

/-- SYNC_LOSS (R100). Sectors missed while an acquisition of R111 or R121 runs count too, so that MISS of them may end it
before its 12 sectors (DESIGN CHOICE, log entry 137). -/
def Blk.doSyncLoss (b : Blk) (n : Nat) : Blk :=
  if b.softRuns n ∧ 0 < (b.seq n).missed ∧ b.rd (R.Dn_ZC_MISS n) ≤ (b.seq n).missed then b.loseSync n 1 else b

/-- FALLBACK_ACQUISITION_FAIL (R111, R121): 12 sectors without two valid crossings. After a fall-back the record names the
verdict (R223). -/
def Blk.doAcqFail (b : Blk) (n : Nat) : Blk :=
  match (b.seq n).acq with
  | some (s, _) =>
    if 12 ≤ s ∧ b.runState n = 1 then
      let b := b.onSeq n (fun q => { q with acq := none })
      if b.on (R.Dn_SUPSTAT_FALL n) && !(b.seq n).asSens then b.loseSync n 4 [Int.ofNat (b.rd (R.Dn_SUPSTAT_CAUSE n))]
      else b.loseSync n 2
    else b
  | none => b

/-- Dn_CSTAT.HOBL: a blend of R109 runs. -/
def Blk.showBlend (b : Blk) (n : Nat) : Blk := b.flag (R.Dn_CSTAT_HOBL n) ((b.drv n).blends.any (fun x => !x.first))

/-- A hand-over under R109 is to be compared at the incoming controller's first run; a running blend of the output ends
there (R110). -/
def Blk.startBlend (b : Blk) (n what kind : Nat) (yLast vq : Int) (vd : Int := 0) : Blk :=
  (b.onDrv n (fun d =>
    { d with blends := d.blends.filter (fun x => x.what != what) ++ [⟨what, kind, true, false, 0, yLast, vq, vd⟩] })).showBlend n

/-- Residuals are not counted for SETTLE frames (R220). -/
def Blk.startSettle (b : Blk) (n : Nat) : Blk :=
  let k := b.rd (R.Dn_SUPCFG_SETTLE n)
  (b.onDrv n (fun d => { d with settle := k })).flag (R.Dn_SUPSTAT_SUSP n) (decide (0 < k))

/-- COMMUTATION_HANDOVER (R106 to R108). -/
def Blk.doHandover (b : Blk) (n : Nat) : Blk :=
  let d := b.drv n
  if b.rd (R.Dn_CMODE_MODE n) ≠ 2 ∨ d.verdNew = true ∨ b.on (R.Dn_SUPSTAT_FALL n) then b
  else
    let up := b.cur n == 0 && decide (8 ≤ d.hoUp)
    let dn := b.cur n == 2 && decide (8 ≤ d.hoDn)
    if up || dn then
      let b := b.wr (R.Dn_CSTAT_CUR n) (if up then 2 else 0)
      if b.pstate n ≠ 1 then b
      else
        let vm := vmOf (b.afe.drv.getD n default).vdc
        let vq := sgn d.speed * halfUp (d.u * vm) 32768
        let b := b.startBlend n 0 (if up then 0 else 1) d.u vq
        let b := if up then b.onSeq n (fun q => { q with enter := true, dir := if d.speed < 0 then -1 else 1, trans := none })
          else b
        (b.startSettle n).abortInj n 3
    else b

/-- HANDOVER_BLEND_END (R109). -/
def Blk.doBlendEnd (b : Blk) (n : Nat) : Blk :=
  let b := b.onDrv n (fun d =>
    { d with blends := d.blends.filter (fun x => x.first || decide (x.k < b.rd (R.Dn_BUMP_HFRM n))) })
  b.showBlend n

/-- A sensorless soft-step drive runs under R112. -/
def Blk.sensorlessRun (b : Blk) (n : Nat) : Bool :=
  b.sensorless n && b.runState n == 1 && (b.stage n == 6 || b.stage n == 3)

/-- What brings a sensorless drive down to 1.25 × CATCH_MIN (R112, R124). -/
def Blk.rampsDown (b : Blk) (n : Nat) : Bool :=
  let d := b.drv n
  d.rampStop || decide (d.ref = 0) || decide (d.ref * d.ramp < 0)

/-- SENSORLESS_RAMP_STOP (R112): the pulses are blocked; a reference of the opposite sign brings a start request. -/
def Blk.doRampStop (b : Blk) (n : Nat) : Blk :=
  let d := b.drv n
  if b.pstate n == 1 && b.sensorlessRun n && b.sstate n == 6 && b.rampsDown n && decide (magI d.ramp ≤ b.catchFloor n * 512) then
    let rev := !d.rampStop && decide (d.ref * d.ramp < 0)
    (b.stopReq n).onDrv n (fun d => { d with revStart := rev })
  else b

/-- The soft-step frequency limit as a ramp magnitude in SPD_FS × 2^−24 (R102). -/
def Blk.softLimit (b : Blk) (n : Nat) : Nat :=
  let d := b.rd (R.Dn_SPDFS_SPD_FS n) * b.rd (R.Dn_SPDFS_POLEP n)
  let pf := max 1 (b.carrier n)
  if d = 0 then 0
  else if 6 * pf * 2000 ≤ 12800000000 then 2000 * 60 * 2 ^ 24 / d else 12800000000 * 60 * 2 ^ 24 / (6 * pf * d)

/-- The reference that the ramp of a drive moves to in this frame (R87, R112, R124). In BRAKE a sensored drive goes to zero
where the reference has left the direction taken: the change is taken up at the next decision (R132). -/
def Blk.rampTarget (b : Blk) (n : Nat) (ref : Int) : Int :=
  let d := b.drv n
  let fl := Int.ofNat (b.catchFloor n)
  if b.sensorlessRun n then
    if b.stage n = 3 ∨ b.rampsDown n = true then (if d.ramp < 0 then -fl else fl)
    else sgn ref * max (Int.ofNat (magI ref)) fl
  else if d.rampStop ∨ (b.stage n = 3 ∧ ref * (b.seq n).fwd < 0) then 0 else ref

/-- A ramp held at or above a magnitude, in the direction `dir` where it is 0 (R112). -/
def atLeast (fl : Nat) (rs dir : Int) : Int :=
  if fl ≤ magI rs then rs else if rs < 0 ∨ (rs = 0 ∧ dir < 0) then -(Int.ofNat fl) else Int.ofNat fl

/-- One frame of the ramp of a drive towards a reference (R87, R102, R112). -/
def Blk.rampTick (b : Blk) (n : Nat) (ref : Int) : Blk :=
  let d := b.drv n
  let rs := rampStep d.ramp (b.rampTarget n ref * 512) (Int.ofNat (b.rd (R.Dn_RAMP_ACC n)))
    (Int.ofNat (b.rd (R.Dn_RAMP_DEC n)))
  let rs := if b.sensorlessRun n then atLeast (b.catchFloor n * 512) rs (b.seq n).dir else rs
  let mx := Int.ofNat (b.softLimit n)
  let cut := b.cur n != 0 && decide (mx < Int.ofNat (magI rs))
  let rs' := if cut then satI rs (-mx) mx else rs
  let b := b.onDrv n (fun d => { d with ramp := rs', dRamp := rs' - d.ramp, flim := cut })
  if cut ∧ d.flim = false then (b.flag (R.Dn_CSTAT_FLIM n) true).raise 0x3118 n [] else b

/-- The counts of R106 at a tick. -/
def Blk.thresholds (b : Blk) (n : Nat) : Blk :=
  let m := magI (b.rampOut n)
  b.onDrv n (fun d =>
    { d with hoUp := if b.rd (R.Dn_HOSPD_UP n) ≤ m then min (d.hoUp + 1) 255 else 0,
             hoDn := if m ≤ b.rd (R.Dn_HOSPD_DN n) then min (d.hoDn + 1) 255 else 0 })

/-- The angle, speed and stamp of a drive at a SAMPLE_PHASE. -/
def Blk.angleSample (b : Blk) (n t : Nat) : Blk :=
  let a := b.frameAngle n t
  let b := b.wr (R.Dn_ANGLE_THETA n) a.1
  b.onDrv n (fun d => { d with theta := a.1, speed := a.2, tS := t })

end Sys2Proof.Machine
end

