-- ==== Sys2Proof/Machine/Whet.lean ====
section
/-! DEFINITION. Whetstone's estimates (chapter 6): offset windows and corrections (R145, R146), the gain checks of R155, and
what the front end does at a tick. -/

namespace Sys2Proof.Machine

/-- The estimate after one window sample x, in 2^−12 LSB (R146, log entry 24). -/
def estNext (e x : Int) : Int := e + (4096 * x - e) / 4096

/-- The correction moves towards the estimate by at most 1 LSB, within ±512 (R146). -/
def corNext (cor e : Int) : Int := satI (stepTo cor (satI (e / 4096) (-512) 512)) (-512) 512

/-- An estimate lies beyond ±512 LSB (R146). -/
def estOut (e : Int) : Bool := decide (512 * 4096 < magI e)

/-- An offset estimate passes its limit (R146): bit `bit` of OFSLIM; event 0x6104 of input i as it does so. Inputs 40 to
63 are the phase voltages (log entry 144). -/
def Blk.ofsLimit (b : Blk) (i bit : Nat) (out was : Bool) : Blk :=
  let b := if out then b.flag (bitOf R.AFE_WSTAT_OFSLIM bit) true else b
  if out && !was then b.raise 0x6104 i [] else b

/-- The peak line-to-line voltage lies below 0.8 × V_DC (R145), in V / 65,535. R145 does not say over what the peak is taken:
the model takes the highest line-to-line value of the one held sample (DESIGN CHOICE, log entry 164). -/
def Blk.quietPv (b : Blk) (n : Nat) (x : DriveMeas) : Bool :=
  let hi := max x.pvA (max x.pvB x.pvC)
  let lo := min x.pvA (min x.pvB x.pvC)
  decide ((hi - lo) * b.rd (R.AFE_VSC_PVFS n) * 100 < 8 * b.rd (R.Dn_DCMEAS_VDC n) * 65535)

/-- One window sample of modulator input i of the channel with bit `bit` in OFSLIM: its estimate. -/
def Blk.offSample (b : Blk) (i : Nat) (x : Int) (bit : Nat) : Blk :=
  let e := estNext (b.afe.est.getD i 0) x
  let was := b.afe.beyond.getD i false
  let b := b.onAfe (fun a => { a with est := putAt a.est i e, beyond := putAt a.beyond i (estOut e) })
  b.ofsLimit i bit (estOut e) was

/-- The running mean of R145 for a field-oriented drive: sums over whole electrical periods, given up where the speed moved
by 1 % or more. The mean is rounded down, as R145 gives no rounding (DESIGN CHOICE, log entry 165). -/
def Blk.meanWindow (b : Blk) (n : Nat) (x : DriveMeas) : Blk :=
  let m := b.afe.means.getD n default
  let d := b.drv n
  let steady := decide (100 * magI (d.speed - m.w0) < magI m.w0)
  let wrapped := decide (32768 < (if m.th ≤ d.theta then d.theta - m.th else m.th - d.theta))
  let set := fun (y : OffMean) (b : Blk) => b.onAfe (fun a => { a with means := putAt a.means n y })
  if b.pstate n ≠ 1 ∨ b.rd (R.Dn_CSTAT_CUR n) ≠ 0 ∨ steady = false then set ⟨false, 0, 0, 0, d.theta, d.speed⟩ b
  else if wrapped then
    let b := if m.whole ∧ 0 < m.cnt then
        (b.offSample (3 * n) (m.sumA / Int.ofNat m.cnt) n).offSample (3 * n + 1) (m.sumB / Int.ofNat m.cnt) n
      else b
    set ⟨true, x.iA, x.iB, 1, d.theta, d.speed⟩ b
  else set ⟨m.whole, m.sumA + x.iA, m.sumB + x.iB, m.cnt + 1, d.theta, m.w0⟩ b

/-- The phase-voltage offsets of a drive at a lower zero vector (R145, R146). -/
def Blk.pvOffsets (b : Blk) (n : Nat) (x : DriveMeas) : Blk :=
  if b.lowerZero n then
    b.each 3 (fun p b =>
      let i := 3 * n + p
      let v := Int.ofNat ((if p = 0 then x.pvA else if p = 1 then x.pvB else x.pvC) / 2)
      let e := estNext (b.afe.pvEst.getD i 0) v
      let was := b.afe.pvBeyond.getD i false
      let b := b.onAfe (fun a => { a with pvEst := putAt a.pvEst i e, pvBeyond := putAt a.pvBeyond i (estOut e) })
      b.ofsLimit (40 + i) n (estOut e) was)
  else b

/-- Pulses of a drive are blocked, or the bridges of a stepper off (R145). A RELEASED channel does not count: the partner may
drive the stage whose modulators both modules read. -/
def Blk.pulsesOff (b : Blk) (c : Nat) : Bool :=
  if c < 8 then b.pstate c == 0 || b.pstate c == 3 else b.stpState (c - 8) == 0 || b.stpState (c - 8) == 3

/-- `cyc` cycles after the last tick: channels whose pulses are found off count from here, where they were not off before
(R145, log entry 166). -/
def Blk.offNote (b : Blk) (cyc : Nat) : Blk :=
  b.onAfe (fun a => { a with offCyc := (List.range 16).map (fun c =>
    if b.pulsesOff c then (a.offCyc.getD c none).or (some (-Int.ofNat cyc)) else none) })

/-- Pulses of channel c have been off for `ms` at this SAMPLE_PHASE (R145). -/
def Blk.offFor (b : Blk) (c ms : Nat) : Bool :=
  b.pulsesOff c && (match b.afe.offCyc.getD c none with
    | some x => decide (Int.ofNat (ms * cycPerMs) ≤ x + Int.ofNat (b.rd R.TICK_SPHASE_PHASE))
    | none => false)

/-- Phase k of a drive floats in soft-step, after BLANK (R96, R145). -/
def Blk.floatsQuiet (b : Blk) (n k : Nat) : Bool :=
  let soft := Int.ofNat (b.rd (R.Dn_SOFT_SOFT n))
  let blank := Int.ofNat (b.rd (R.Dn_SOFT_BLANK n))
  b.pstate n == 1 && b.rd (R.Dn_CSTAT_CUR n) != 0 && (b.seq n).trans.isNone && ((b.drv n).active.getD k ⟨false, 0⟩).float &&
    decide (fromHalfUnits (soft + 2 * blank) ≤ b.intoSector n (b.drv n).tS)

/-- The offset windows of a drive at SAMPLE_PHASE (R145, R146). -/
def Blk.offDrive (b : Blk) (n : Nat) : Blk :=
  if b.configured n then
    let x := b.afe.rawD.getD n default
    let off := b.offFor n 5 && b.quietPv n x
    let b := if off || b.floatsQuiet n 0 then b.offSample (3 * n) x.iA n else b
    let b := if off || b.floatsQuiet n 1 then b.offSample (3 * n + 1) x.iB n else b
    (b.meanWindow n x).pvOffsets n x
  else b

/-- The offset windows of a stepper: bridges off for at least 2 ms (R145). -/
def Blk.offStep (b : Blk) (n : Nat) : Blk :=
  if b.configured (8 + n) ∧ b.offFor (8 + n) 2 = true then
    let x := b.afe.rawS.getD n default
    (b.offSample (24 + 2 * n) x.iA (8 + n)).offSample (25 + 2 * n) x.iB (8 + n)
  else b

/-- Every correction in force moves towards its estimate (R146). -/
def Blk.moveOffsets (b : Blk) : Blk :=
  let e := fun i => b.afe.est.getD i 0
  let mv := fun (f : Fld) (i : Nat) (b : Blk) => b.wrS f (corNext (b.rdS f) (e i))
  let b := b.each 8 (fun n b => if b.configured n then mv (R.AFE_IOFS_IB n) (3 * n + 1) (mv (R.AFE_IOFS_IA n) (3 * n) b) else b)
  let b := b.each 8 (fun n b =>
    if b.configured (8 + n) then mv (R.AFE_SIOFS_WB n) (25 + 2 * n) (mv (R.AFE_SIOFS_WA n) (24 + 2 * n) b) else b)
  b.onAfe (fun a => { a with pvCor := (List.range 24).map (fun i => corNext (a.pvCor.getD i 0) (a.pvEst.getD i 0)) })

/-- The modelled link current of a drive, Σ d_x × i_x (R155), in IFS / 2^30; the legs in float carry none. -/
def Blk.modLink (b : Blk) (n : Nat) : Int :=
  let x := b.afe.drv.getD n default
  let d := fun k => let l := (b.drv n).active.getD k ⟨true, 0⟩; if l.float then 0 else l.d
  d 0 * x.iA + d 1 * x.iB + d 2 * (-x.iA - x.iB)

/-- A gain check of a drive has a result (R155, R219): `bad` where it lies outside its tolerance; kind 0 power balance, 1
phase A against B, 2 divider against link. -/
def Blk.gainResult (b : Blk) (n kind : Nat) (bad : Bool) : Blk :=
  b.onAfe (fun a => { a with gainBad := a.gainBad.modify n (fun x => withBit x kind bad) })

/-- k of the power balance from its sums (R155): −(T_frame / C_LINK) × Σ ΔI_mod² / Σ (ΔV × ΔI_mod). -/
def Blk.balanceK (b : Blk) (n : Nat) (p : PowerBal) : Rat :=
  let t : Rat := (b.period : Rat) / 400000000
  let c : Rat := (b.rd (R.AFE_PB_CLINK n) : Rat) / 100000
  let amp : Rat := (b.rd (R.AFE_ISC_IFS n) : Rat) / 10 / 2 ^ 31
  let volt : Rat := (b.rd (R.AFE_VSC_DCFS n) : Rat) / 32768
  if p.sVI = 0 ∨ volt = 0 ∨ c = 0 then 0 else -(t / c) * (p.sII * amp) / (p.sVI * volt)

/-- One frame of the power balance (R155): the change of I_mod and of V_DC since the frame before counts where it exceeds 1 %
of IFS; after 65,536 such frames k is reported and the sums begin anew. -/
def Blk.powerBalance (b : Blk) (n : Nat) : Blk :=
  let set := fun (y : PowerBal) (b : Blk) => b.onAfe (fun a => { a with pb := putAt a.pb n y })
  let p := b.afe.pb.getD n default
  if b.rd (R.AFE_PB_CLINK n) = 0 ∨ b.pstate n ≠ 1 then set { p with last := none } b
  else
    let i := b.modLink n
    let v := (b.afe.drv.getD n default).vdc
    let p' : PowerBal := match p.last with
      | none => p
      | some (i0, v0) =>
        if 2 ^ 31 < 100 * magI (i - i0) then
          { p with cnt := p.cnt + 1, sII := p.sII + (i - i0) * (i - i0), sVI := p.sVI + (v - v0) * (i - i0) }
        else p
    if p'.cnt < 65536 then set { p' with last := some (i, v) } b
    else
      let k := b.balanceK n p'
      let bad := decide ((b.rd (R.AFE_PB_GTOL n) : Rat) < 100 * (k - 1)) || decide (100 * (k - 1) < -(b.rd (R.AFE_PB_GTOL n) : Rat))
      ((b.wr (R.AFE_GCHK_PBGAIN n) (satI (onGrid (k * 16384)) 0 65535).toNat).gainResult n 0 bad) |> set ⟨0, 0, 0, some (i, v)⟩

/-- The divider against the link at an upper zero vector (R155): the ratio of the phase voltage that lies farthest from V_DC
is reported in 0.25 %, rounded half up and kept off the code of a missing result (log entry 145); the tolerance judges it
before that rounding. -/
def Blk.dividerCheck (b : Blk) (n : Nat) : Blk :=
  let x := b.afe.drv.getD n default
  let dc := x.vdc * Int.ofNat (b.rd (R.AFE_VSC_DCFS n))
  if b.upperZero n = false ∨ b.afe.service.isEmpty ∨ dc ≤ 0 ∨ b.on (R.AFE_LMAP_VALID (3 * n + 2)) = false then b
  else
    let r := fun (p code : Nat) =>
      pvQ15 code (b.afe.pvCor.getD (3 * n + p) 0) * Int.ofNat (b.rd (R.AFE_VSC_PVFS n)) - dc
    let far := fun (u v : Int) => if magI u < magI v then v else u
    let v := far (far (r 0 x.pvA) (r 1 x.pvB)) (r 2 x.pvC)
    (b.wrS (R.AFE_GCHK_PVR n) (satI (halfUp (400 * v) dc) (-127) 127)).gainResult n 2 (decide (dc < 50 * Int.ofNat (magI v)))

/-- Whetstone at SAMPLE_PHASE: the windows of R145 and the checks of R155. -/
def Blk.whetSample (b : Blk) : Blk :=
  if b.powered .afe then
    let b := b.offNote (b.rd R.TICK_SPHASE_PHASE)
    let b := b.each 8 (fun n b => if b.configured n then ((b.offDrive n).powerBalance n).dividerCheck n else b)
    b.each 8 (fun n b => b.offStep n)
  else b

/-- GAIN_CHECK_FAIL (R155): a result outside tolerance sets GFAIL and is passed to the supervision (R219). The results of the
power balance and of the divider check are those that Whetstone has computed; of the ratio of the gains of A and B the
manual names the ripple it is estimated from and no estimator, so `v` gives it (log entry 146). -/
def Blk.doGainCheck (b : Blk) (n kind : Nat) (v : Int) : Blk :=
  if b.powered .afe = false ∨ b.configured n = false ∨ (kind = 0 ∧ b.rd (R.AFE_PB_CLINK n) = 0) then b
  else
    let b := if kind = 1 then (b.wrS (R.AFE_GCHK_ABR n) v).gainResult n 1 (decide (20 < magI v)) else b
    if bitAt (b.afe.gainBad.getD n 0) kind then
      (b.flag (bitOf R.AFE_WSTAT_GFAIL n) true).raise 0x6101 n [Int.ofNat kind]
    else b

/-- The front end at a tick: lanes and converters (R148, R153), corrections (R146), trims (R152), the frames of the shadow
groups (R147), the time that pulses have been off (R145), and the safe reactions of R154. -/
def Blk.afeTick (b : Blk) : Blk :=
  if b.powered .afe then
    let b := (b.frontTick.moveOffsets).sarTrims
    let b := (b.onAfe (fun a =>
      { a with groups := a.groups.map (fun g => { g with fr := g.fr + 1 }),
               offCyc := a.offCyc.map (fun x => x.map (· + Int.ofNat b.tick.ended)) })).offNote 0
    if b.afe.sarLost then
      (b.each 16 (fun c b => b.safeReact c)).onAfe (fun a => { a with sarLost := false })
    else b
  else b

/-- A measurement input of drive n is flagged by Whetstone (R146, R155, R219). -/
def Blk.whetFlag (b : Blk) (n : Nat) : Bool :=
  b.afe.beyond.getD (3 * n) false || b.afe.beyond.getD (3 * n + 1) false ||
    (List.range 3).any (fun p => b.afe.pvBeyond.getD (3 * n + p) false) || b.afe.gainBad.getD n 0 != 0

end Sys2Proof.Machine
end

