-- ==== Sys2Proof/Machine/Start.lean ====
section
/-! DEFINITION. Starting (chapter 5): the start request of R580, the catch, the decisions on what it finds, flying start,
reverse rotation, alignment and the current-frequency start. -/

namespace Sys2Proof.Machine

/-- PATH of Dn_SSTAT. -/
def Blk.setPath (b : Blk) (n p : Nat) : Blk := b.wr (R.Dn_SSTAT_PATH n) p

/-- Forward: the sign of the ramp reference, 0 as positive (R117). -/
def Blk.forward (b : Blk) (n : Nat) : Int := if (b.drv n).ref < 0 then -1 else 1

/-- A sensored drive whose start takes the sensorless path at the request (R168, R224). -/
def Blk.startsBlind (b : Blk) (n : Nat) : Bool :=
  b.on (R.Dn_CMODE_SENS n) && b.on (R.Dn_CMODE_FALLBK n) &&
    (b.on (R.Dn_SUPSTAT_VERD n) || !b.on (R.FBn_STAT_AVALID (b.rd (R.Dn_CMODE_FBSEL n))))

/-- All three qualified GRDY inputs have been high for 1 ms (R81, R580). -/
def Blk.grdyReady (b : Blk) (n : Nat) : Bool :=
  b.rd (R.Dn_STAT_GRDY n) == 7 && (b.drv n).grdyAge.all (fun x => decide (Int.ofNat cycPerMs ≤ x))

/-- The first check of R580 that refuses a start: status, DETAIL, event, its source and what it records. -/
def Blk.startRefusal (b : Blk) (n : Nat) : Option (Nat × Nat × Option (Nat × Nat × List Int)) :=
  let ps := b.pstate n
  let p := b.rd (R.Dn_CMODE_FBSEL n)
  let strict := b.on (R.Dn_CMODE_SENS n) && !b.on (R.Dn_CMODE_FALLBK n)
  if b.sstate n ≠ 0 then some (1, 0, none)
  else if ps ≠ 0 ∧ ps ≠ 3 ∧ ps ≠ 4 then some (2, 0x0001, some (0x3102, n, [1, Int.ofNat ps]))
  else if b.on (R.Dn_STAT_TRIPIN n) then some (2, 0x0101, some (0x3102, n, [2]))
  else if b.on (R.Dn_CFG_GRDY_EN n) && !b.grdyReady n then some (2, 0x0102, some (0x3102, n, [3]))
  else if b.on (R.Dn_STAT_HASP_EN n) = false then some (2, 0x0103, some (0x3102, n, [4]))
  else if b.on (R.Dn_STAT_OWN n) = false then some (2, 0x0104, some (0x3102, n, [5]))
  else if b.on (R.THM_Dn_STAT_TRIPPED n) && !b.override then some (2, 0x0109, some (0x8149, n, []))
  else if strict && b.on (R.Dn_SUPSTAT_VERD n) then some (2, 0x0107, some (0x3126, n, [5]))
  else if strict && !b.on (R.FBn_STAT_AVALID p) then some (2, 0x0108, some (0x5105, p, []))
  else if b.rd (R.Dn_DCMEAS_VDC n) < 10 * b.rd (R.Dn_DCTH1_UV n) then some (2, 0x0106, some (0x3126, n, [6]))
  else if (!b.on (R.Dn_CMODE_SENS n) || b.startsBlind n) && decide (magI (b.drv n).ref < b.catchFloor n) then
    some (2, 0x0105, some (0x3126, n, [4]))
  else none

/-- Open a catch (R115): nothing read yet. -/
def Blk.openCatch (b : Blk) (n sstate : Nat) : Blk :=
  let len := b.msFrames (b.rd (R.Dn_START_CATCHT n))
  (b.wr (R.Dn_SSTAT_SSTATE n) sstate).onSeq n (fun q =>
    { q with catchFr := 0, catchLen := len, amps := [], angles := [], xings := [], reopen := false })

/-- An accepted start request (R580, R114, R74): the trip latch is cleared, the start sequence opens. -/
def Blk.startOpen (b : Blk) (n : Nat) : Blk :=
  let b := if b.pstate n = 3 ∨ b.pstate n = 4 then ((b.wr (R.Dn_STAT_PSTATE n) 0).pinsOff n).raise 0x3001 n [] else b
  let blind := b.startsBlind n
  let b := (b.wr (R.Dn_SSTAT_BRKN n) 0).setPath n 0
  let b := ((b.wr (R.Dn_SUPPK_PKW n) 0).wr (R.Dn_SUPPK_PKI n) 0).wr (R.Dn_DCMEAS_VPK n) (b.rd (R.Dn_DCMEAS_VDC n))
  let b := b.onSeq n (fun q => { q with asSens := blind, waitFr := 0 })
  let b := b.onDrv n (fun d => { d with rampStop := false, revStart := false, blends := [] })
  b.openCatch n 1

/-- A start request judged at its tick (R580): the completion it brings, if any, and the state after. -/
def Blk.startRequest (b : Blk) (n : Nat) : Option (Nat × Nat) × Blk :=
  match b.startRefusal n with
  | some (st, d, ev) =>
    (some (st, d), match ev with
      | some (code, src, info) => b.raise code src info
      | none => b)
  | none => (none, b.startOpen n)

/-- Amplitude (Q15 of V_PVFS) and direction of the line-to-line vector (R115). -/
def emfVector (a b c : Int) : Nat × Nat :=
  let m2 := a * a + b * b + c * c - a * b - b * c - c * a
  (isqrt (4 * m2 / 9).toNat, angleOf ((b - c) * 3 * 18919) ((2 * a - b - c) * 32768))

/-- The readings of a catch or a WAIT at a SAMPLE_PHASE (R115, R123). -/
def Blk.catchSample (b : Blk) (n : Nat) : Blk :=
  let q := b.seq n
  if (b.sstate n = 1 ∨ b.sstate n = 2) ∧ q.reopen = false then
    let s := b.afe.drv.getD n default
    let v := emfVector (pvQ15 s.pvA (b.afe.pvCor.getD (3 * n) 0)) (pvQ15 s.pvB (b.afe.pvCor.getD (3 * n + 1) 0))
      (pvQ15 s.pvC (b.afe.pvCor.getD (3 * n + 2) 0))
    let win := Int.ofNat (q.catchLen * b.period / 2)
    let now := (b.drv n).tS
    b.onSeq n (fun q =>
      { q with amps := (v.1 :: q.amps).take q.catchLen, angles := (v.2 :: q.angles).take q.catchLen,
               xings := q.xings.filter (fun t => decide (diff32 now t ≤ win)) })
  else b

/-- Angles unwrapped from the oldest on, as signed units; the list is newest first. -/
def unwrap : List Nat → List Int
  | [] => []
  | a :: l =>
    match unwrap l, l with
    | y :: ys, p :: _ => (y + signed 16 ((a + 65536 - p % 65536) % 65536)) :: (y :: ys)
    | _, _ => [Int.ofNat a]

/-- Numerator and denominator of the least-squares slope of values, newest first, per frame (R116). -/
def slopeOf (l : List Int) : Int × Int :=
  let n := Int.ofNat l.length
  let y := l.reverse
  let si := n * (n - 1) / 2
  let sii := n * (n - 1) * (2 * n - 1) / 6
  let sy := y.foldl (· + ·) 0
  let siy := ((List.range l.length).map (fun i => Int.ofNat i * iAt y i)).foldl (· + ·) 0
  (n * siy - si * sy, n * sii - si * si)

/-- Speed, source, amplitude in V_PVFS / 4,096 and crossings of a catch (R115, R116). -/
def Blk.catchSpeed (b : Blk) (n : Nat) : Int × Nat × Nat × Nat :=
  let q := b.seq n
  let amp := (halfUp (Int.ofNat q.amps.sum) (8 * Int.ofNat (max 1 q.amps.length))).toNat
  let d : Rat := (max 1 (b.rd (R.Dn_SPDFS_POLEP n) * b.rd (R.Dn_SPDFS_SPD_FS n)) : Nat)
  let u := unwrap q.angles
  let net := iAt u 0 - u.getLastD 0
  let k := q.xings.length
  if amp < b.rd (R.Dn_EMF_EMFMIN n) then (0, 0, amp, k)
  else if 3 ≤ k then
    let dt := diff32 (q.xings.getLastD 0) (q.xings.headD 0)
    if dt ≤ 0 then (0, 1, amp, k)
    else
      let f : Rat := ((k - 1 : Nat) : Rat) * 100000000 / (dt : Rat)
      (sgn net * sat16 (onGrid (f * 60 * 32768 / d)), 1, amp, k)
  else
    let s := slopeOf u
    if s.2 = 0 then (0, 2, amp, k)
    else (sat16 (onGrid ((s.1 : Rat) / s.2 / 65536 * 400000000 / b.period * 60 * 32768 / d)), 2, amp, k)

/-- θ_e at the tick that ends the catch: the last angle extrapolated at the measured speed (R115, R86). -/
def Blk.catchTheta (b : Blk) (n : Nat) (spd : Int) : Nat :=
  let a := (b.seq n).angles.headD 0
  let th := if spd < 0 then a + 16384 else a + 49152
  let dt := (Int.ofNat b.period - Int.ofNat (b.rd R.TICK_SPHASE_PHASE)) / 2
  unsigned 16 (Int.ofNat th + b.angleGain n spd dt)

/-- The stamp of the tick, half a SYSCLK-to-PWMCLK count after the last SAMPLE_PHASE. -/
def Blk.tickStamp (b : Blk) (n : Nat) : Nat :=
  add32 (b.drv n).tS ((Int.ofNat b.period - Int.ofNat (b.rd R.TICK_SPHASE_PHASE)) / 2)

/-- PSTATE RUN with every leg in float until the frame's words transfer (R74, R114). -/
def Blk.floatRun (b : Blk) (n : Nat) : Blk :=
  let fl : List Leg := [⟨true, 0⟩, ⟨true, 0⟩, ⟨true, 0⟩]
  (b.wr (R.Dn_STAT_PSTATE n) 1).onDrv n (fun d =>
    { d with active := fl, shadow := fl, prev := fl, fresh := false, soft := false, prevFr := (false, false),
             byStop := false })

/-- Pulses are called for: PSTATE RUN (R74, R114); a drive axis takes the port's position (R253). -/
def Blk.enterRun (b : Blk) (n : Nat) : Blk :=
  let b := b.floatRun n
  if (b.axis n).rearm then
    let pos := b.rd (R.FBn_POS_POS (b.rd (R.Dn_CMODE_FBSEL n)))
    (b.onAxis n (fun x => { x with pRef := pos * 2 ^ 32, rearm := false })).showAxis n
  else b

/-- The mode of R120 for a speed: soft-step or field-oriented. -/
def Blk.startCur (b : Blk) (n : Nat) (spd : Int) : Nat :=
  if b.sensorless n then 1
  else
    let m := b.rd (R.Dn_CMODE_MODE n)
    if m = 1 ∨ (m = 2 ∧ b.rd (R.Dn_HOSPD_UP n) ≤ magI spd) then 2 else 0

/-- Closed-loop entry at a speed and angle with a back-EMF amplitude (R120, R127): preloads and the sequencer. -/
def Blk.closeAt (b : Blk) (n th amp : Nat) (spd : Int) (sstate : Nat) : Blk :=
  let cur := b.startCur n spd
  let b := (b.wr (R.Dn_CSTAT_CUR n) cur).wr (R.Dn_SSTAT_SSTATE n) sstate
  let rs := if b.sensorless n then atLeast (b.catchFloor n * 512) (spd * 512) spd else spd * 512
  let b := b.onDrv n (fun d => { d with ramp := rs, dRamp := 0, spdLim := false, hoUp := 0, hoDn := 0,
                                        speed := spd, theta := th })
  let pvfs := Int.ofNat (b.rd (R.AFE_VSC_PVFS n))
  let volts := Int.ofNat amp * pvfs
  let vq := sgn spd * sat16 (halfUp (volts * 32768) (4096 * Int.ofNat (max 1 (b.rd (R.AFE_VSC_DCFS n)))))
  let vdc := max 1 (b.rd (R.Dn_DCMEAS_VDC n))
  let dp := satI (halfUp (1654 * volts * 10 * 32768) (1000 * 4096 * Int.ofNat vdc)) 0 32767
  let u := if cur = 0 then uOf 0 vq (vmOf (b.afe.drv.getD n default).vdc) else dp
  let b := (b.startBlend n 1 3 0 0).startBlend n 0 3 u vq
  let blind := cur == 1
  let b := b.onSeq n (fun q =>
    { q with dir := if spd < 0 then -1 else 1, enter := cur != 0, trans := none, missed := 0, tzc := [], seen := false,
             acq := if blind then some (0, 0) else none, anc := (th, b.tickStamp n, spd) })
  let b := (b.flag (R.Dn_CSTAT_SYNC n) false).wr (R.Dn_CSTAT_SECTOR n) 0
  (b.startSettle n).enterRun n

/-- A start refused in the sequence (R123, R124, R118): IDLE, PATH refused, event 0x3126. -/
def Blk.startRefused (b : Blk) (n reason : Nat) : Blk :=
  ((b.setPath n 4).seqIdle n).raise 0x3126 n [Int.ofNat reason]

/-- WAIT begins (R122, R123): the pulses are blocked already, or will be at the next OUTPUT_PHASE. -/
def Blk.beginWait (b : Blk) (n : Nat) : Blk :=
  ((b.setPath n 2).wr (R.Dn_SSTAT_SSTATE n) 2).onSeq n (fun q => { q with waitFr := 0 })

/-- Alignment begins (R128). -/
def Blk.beginAlign (b : Blk) (n : Nat) : Blk :=
  let fwd := b.forward n
  let b := ((b.setPath n 5).wr (R.Dn_SSTAT_SSTATE n) 4).wr (R.Dn_CSTAT_CUR n) 1
  let b := b.onSeq n (fun q => { q with alignJ := 0, thCmd := 0xC0000000, fwd := fwd, enter := false, acq := none })
  ((b.startBlend n 0 9 0 0).flag (R.Dn_CSTAT_SYNC n) false).enterRun n

/-- The decision of the start-state table (R117, R120, R122 to R127) for an angle, a speed and an amplitude. The manual does
not rank the checks on REV_ROT: the model judges REFUSE above REV_MAX first, then BRKN = 3, then the clamp of TLIM.GEN
(DESIGN CHOICE, log entry 138). -/
def Blk.decide_ (b : Blk) (n th amp : Nat) (spd : Int) (waiting : Bool) : Blk :=
  let fwd := b.forward n
  let cmin := b.rd (R.Dn_START_CATCH_MIN n)
  let pol := b.rd (R.Dn_START_REVPOL n)
  let b := b.onSeq n (fun q => { q with fwd := fwd })
  if magI spd < cmin then
    let b := b.flag (R.Dn_SSTAT_REV_ROT n) false
    if b.sensorless n then b.beginAlign n else (b.setPath n 6).closeAt n th 0 spd 6
  else if 0 < spd * fwd then ((b.flag (R.Dn_SSTAT_REV_ROT n) false).setPath n 1).closeAt n th amp spd 6
  else if waiting then b.flag (R.Dn_SSTAT_REV_ROT n) true
  else
    let b := (b.flag (R.Dn_SSTAT_REV_ROT n) true).raise 0x3121 n [spd, Int.ofNat pol]
    if pol = 0 then b.beginWait n
    else if pol = 2 ∧ b.rd (R.Dn_REVMAX_REV_MAX n) < magI spd then
      (((b.flag (R.Dn_SSTAT_REVF n) true).setPath n 4).seqIdle n).raise 0x3327 n [spd]
    else if 3 ≤ b.rd (R.Dn_SSTAT_BRKN n) then b.startRefused n 3
    else if b.on (R.Dn_DCSTAT_GENCLMP n) then (b.beginWait n).raise 0x3129 n []
    else ((b.inc (R.Dn_SSTAT_BRKN n)).setPath n 3).closeAt n th amp spd 3

/-- A verdict is latched with its cause (R218, R224). -/
def Blk.latchVerdict (b : Blk) (n cause : Nat) : Blk :=
  ((b.flag (R.Dn_SUPSTAT_VERD n) true).wr (R.Dn_SUPSTAT_CAUSE n) cause).inc (R.Dn_SUPCNT_VERDS n)

/-- The port and the back-EMF disagree (R118). -/
def Blk.disagrees (b : Blk) (n amp : Nat) (port emf : Int) : Bool :=
  decide (8 * b.rd (R.Dn_EMF_EMFMIN n) ≤ amp) &&
    decide (max (10 * b.rd (R.Dn_START_CATCH_MIN n)) (magI emf) < 10 * magI (port - emf))

/-- The angle of the port at the tick that ends a catch (R118): the angle of the last SAMPLE_PHASE extrapolated to the tick
at the port's speed (log entry 140). -/
def Blk.portTheta (b : Blk) (n p : Nat) : Nat :=
  unsigned 16 (Int.ofNat (b.port p).delTh + b.angleGain n (b.portSpeed p n) (diff32 (b.tickStamp n) (b.drv n).tS))

/-- What a catch or a window of WAIT found: registers, the cross-check of R118 and the decision. The crossings of the window
end at the tick. A window of WAIT raises neither 0x3020 nor 0x3121 (DESIGN CHOICE, log entry 139). -/
def Blk.catchDone (b : Blk) (n : Nat) (waiting : Bool) : Blk :=
  let win := Int.ofNat ((b.seq n).catchLen * b.period / 2)
  let now := b.tickStamp n
  let b := b.onSeq n (fun q => { q with xings := q.xings.filter (fun t => decide (diff32 now t ≤ win)) })
  let r := b.catchSpeed n
  let amp := r.2.2.1
  let p := b.rd (R.Dn_CMODE_FBSEL n)
  let sensored := !b.sensorless n
  let port := b.portSpeed p n
  let bad := sensored && b.disagrees n amp port r.1
  let b := (b.wrSat (R.Dn_CATCHA_NXING n) r.2.2.2).wrSat (R.Dn_CATCHA_AMP n) amp
  let fb := b.on (R.Dn_CMODE_FALLBK n)
  let b := if bad then (b.latchVerdict n 4) else b
  let b := if bad && fb then
      (((b.onSeq n (fun q => { q with asSens := true })).flag (R.Dn_SUPSTAT_FALL n) true).raise 0x7311 n [4]).degrade 3 [n] false
    else b
  let usePort := sensored && !bad
  let spd := if usePort then port else r.1
  let th := if usePort then b.portTheta n p else b.catchTheta n r.1
  let b := (b.wrS (R.Dn_CATCH_SPD n) spd).wr (R.Dn_CATCH_THETA n) th
  let b := b.wr (R.Dn_SSTAT_SRC n) (if usePort then 3 else r.2.1)
  let b := if bad && !fb then b.startRefused n 5 else b.decide_ n th amp spd waiting
  if waiting then b
  else b.raise 0x3020 n [spd, Int.ofNat amp, Int.ofNat (b.rd (R.Dn_SSTAT_SRC n)), Int.ofNat (b.rd (R.Dn_SSTAT_PATH n))]

/-- CATCH_END (R115 to R118, R120, R122, R127, R128). -/
def Blk.doCatchEnd (b : Blk) (n : Nat) : Blk :=
  let q := b.seq n
  if b.sstate n = 1 ∧ q.reopen = false ∧ q.catchLen ≤ q.catchFr then b.catchDone n false else b

/-- CATCH_WINDOW_DECISION in WAIT (R123). -/
def Blk.doWindowDecision (b : Blk) (n : Nat) : Blk :=
  let q := b.seq n
  if b.sstate n = 2 ∧ q.reopen = false ∧ q.catchLen ≤ q.catchFr then b.catchDone n true else b

/-- WAITMAX_EXPIRY (R123). -/
def Blk.doWaitmax (b : Blk) (n : Nat) : Blk :=
  let m := b.rd (R.Dn_REVMAX_WAITMAX n)
  if b.sstate n = 2 ∧ 0 < m ∧ b.msFrames (100 * m) ≤ (b.seq n).waitFr then b.startRefused n 2 else b

/-- Pulses are blocked at the next OUTPUT_PHASE and a catch opens at the tick after it (R124, R125, R132). -/
def Blk.blockAndCatch (b : Blk) (n sstate : Nat) : Blk :=
  ((b.wr (R.Dn_SSTAT_SSTATE n) sstate).onSeq n (fun q => { q with reopen := true, acq := none })).reqBlock n

/-- BRAKE_RAMP_END (R124). -/
def Blk.doBrakeEnd (b : Blk) (n : Nat) : Blk :=
  let d := b.drv n
  if b.sstate n ≠ 3 then b
  else if b.sensorless n then
    if magI d.ramp ≤ b.catchFloor n * 512 then b.blockAndCatch n 1 else b
  else if 0 ≤ d.ramp * (b.seq n).fwd then (b.wr (R.Dn_SSTAT_SSTATE n) 6).startSettle n else b

/-- Frames of the alignment (R128). -/
def Blk.alignFrames (b : Blk) (n : Nat) : Nat := b.msFrames (b.rd (R.Dn_ALIGN_ALIGNT n))

/-- Magnitude of the alignment current in frame j (R128). -/
def Blk.alignMag (b : Blk) (n : Nat) : Int :=
  let f := b.alignFrames n
  let j := (b.seq n).alignJ
  let i := b.rd (R.Dn_ALIGN_IALIGN n)
  if f / 2 ≤ j then Int.ofNat i
  else
    let q := max 1 (f / 4)
    Int.ofNat ((i * min (j + 1) q + q / 2) / q)

/-- ALIGN_END (R129, R131). -/
def Blk.doAlignEnd (b : Blk) (n : Nat) : Blk :=
  if b.sstate n = 4 ∧ b.alignFrames n ≤ (b.seq n).alignJ then
    let b := b.wr (R.Dn_SSTAT_SSTATE n) 5
    let b := b.onSeq n (fun q => { q with ifK := 0, thCmd := 0, dir := q.fwd, enter := true, trans := none, missed := 0,
                                          tzc := [], seen := false, seenPrev := false, seenOld := false, acq := none })
    b.startBlend n 0 9 (b.drv n).u 0
  else b

/-- f_cmd has reached a frequency given in 0.1 Hz (R129, R130). -/
def Blk.ifReached (b : Blk) (n f : Nat) : Bool :=
  decide (f * 400000000 ≤ (b.seq n).ifK * b.rd (R.Dn_IF_IFACC n) * b.period)

/-- IF_HANDOVER (R130). -/
def Blk.doIfHandover (b : Blk) (n : Nat) : Blk :=
  let q := b.seq n
  if b.sstate n = 5 ∧ b.ifReached n (b.rd (R.Dn_IFF_FHO n)) ∧ q.seenPrev = true ∧ q.seenOld = true then
    let spd := q.dir * b.speedOfTs n (b.rd (R.Dn_TSEC_TS n))
    let b := ((b.wr (R.Dn_SSTAT_SSTATE n) 6).flag (R.Dn_CSTAT_SYNC n) true).onDrv n (fun d =>
      { d with ramp := spd * 512, dRamp := 0 })
    let iif := Int.ofNat (b.rd (R.Dn_IF_IIF n))
    let b := (b.startBlend n 1 3 (q.fwd * iif) 0).startBlend n 0 3 (b.drv n).u 0
    (b.startSettle n).abortInj n 3
  else b

/-- IF_FMAX_ABORT (R130). -/
def Blk.doFmax (b : Blk) (n : Nat) : Blk :=
  if b.sstate n = 5 ∧ b.ifReached n (b.rd (R.Dn_IFF_FMAX n)) then b.syncLost n 3 else b

/-- θ_cmd after a frame of the current-frequency start (R129). -/
def Blk.ifNext (b : Blk) (n : Nat) (q : Seq) : Seq :=
  let step := (q.ifK * b.rd (R.Dn_IF_IFACC n) * b.period * b.period * 2 ^ 32 * 2 + 1600000000000000000) /
    3200000000000000000
  { q with thCmd := unsigned 32 (Int.ofNat q.thCmd + q.fwd * Int.ofNat step), ifK := q.ifK + 1 }

/-- A frame of a catch has passed: one with readings (R115). -/
def Blk.countCatch (b : Blk) (n : Nat) : Blk :=
  if (b.seq n).amps.isEmpty then b else b.onSeq n (fun q => { q with catchFr := q.catchFr + 1 })

/-- Frame j of the alignment has passed (R128). -/
def Blk.alignNext (b : Blk) (n : Nat) (q : Seq) : Seq :=
  { q with alignJ := q.alignJ + 1, thCmd := if q.alignJ + 1 < b.alignFrames n / 2 then 0xC0000000 else 0 }

/-- The start sequence that a standby runs in shadow goes on in a frame without a new F (R391). -/
def Blk.shadowStart (b : Blk) (n : Nat) (x : HingeChan) : Blk :=
  match x.sstate with
  | 4 => b.onSeq n (fun q => b.alignNext n q)
  | 5 => b.onSeq n (fun q => b.ifNext n q)
  | _ => b

/-- The start sequence of a drive at a tick (R123, R125, R128, R129, R132). -/
def Blk.startTick (b : Blk) (n : Nat) : Blk :=
  let q := b.seq n
  match b.sstate n with
  | 1 =>
    if q.reopen then (if b.pstate n = 1 then b else b.openCatch n 1)
    else b.countCatch n
  | 2 =>
    let b := b.onSeq n (fun q => { q with waitFr := q.waitFr + 1 })
    if q.reopen then (if b.pstate n = 1 then b else b.openCatch n 2)
    else b.countCatch n
  | 3 =>
    if b.on (R.Dn_DCSTAT_GENCLMP n) then
      ((b.blockAndCatch n 2).setPath n 2).onSeq n (fun q => { q with waitFr := 0 }) |>.raise 0x3129 n []
    else b
  | 4 =>
    if b.forward n ≠ q.fwd then b.blockAndCatch n 1 else b.onSeq n (fun q => b.alignNext n q)
  | 5 => if b.forward n ≠ q.fwd then b.blockAndCatch n 1 else b.onSeq n (fun q => b.ifNext n q)
  | _ => b

/-- The block of a start sequence that goes on: the state of the sequence survives (R124, R125, R132). -/
def Blk.blockKeeping (b : Blk) (n : Nat) : Blk :=
  let st := b.sstate n
  let q := b.seq n
  let b := (b.blockTo n 0).wr (R.Dn_SSTAT_SSTATE n) st
  b.onSeq n (fun x => { x with reopen := true, asSens := q.asSens, waitFr := q.waitFr })

/-- A start request that the module makes itself after a reversed reference (R112). -/
def Blk.doReverseRestart (b : Blk) (n : Nat) : Blk :=
  let d := b.drv n
  if d.revStart ∧ b.pstate n ≠ 1 ∧ d.reqBlock = false then
    let b := b.onDrv n (fun d => { d with revStart := false })
    if d.ref = 0 ∨ 0 < d.ref * (b.seq n).dir then b else (b.startRequest n).2
  else b

end Sys2Proof.Machine
end

