-- ==== Sys2Proof/Machine/Loop.lean ====
section
/-! DEFINITION. The run of a channel's loop program in its windows (chapter 8, R36 to R38, R88 to R91, R104, R105, R109,
R195 to R199): input words, references, the parts that rules of other chapters give single elements, output words. -/

namespace Sys2Proof.Machine

/-- The module of this one in a share slot's byte: 0 for A and solo, 1 for B (R262). -/
def Blk.ownModule (b : Blk) : Nat := if b.rd R.MIR_STAT_PID = 2 then 1 else 0

/-- The byte of slot s of group g. -/
def Blk.slotByte (b : Blk) (g s : Nat) : Nat := b.rd (sliceOf (R.SHR_Gg_MEM_SLOT g) s 8)

/-- State of slot s of group g: 0 OUT, 1 JOIN, 2 IN, 3 ISOL (R265). -/
def Blk.slotState (b : Blk) (g s : Nat) : Nat := b.rd (sliceOf (R.SHR_Gg_STAT_ST g) s 2)

/-- Slot s of group g is enabled. -/
def Blk.slotOn (b : Blk) (g s : Nat) : Bool := bitAt (b.slotByte g s) 7

/-- The drive that slot s of group g names. -/
def Blk.slotDrive (b : Blk) (g s : Nat) : Nat := b.slotByte g s % 8

/-- Slot s of group g names a drive that runs on this module: a local drive of its own, or a paired drive while it holds
output ownership, so that the group goes with the stages at a takeover (R262, R276, R383). -/
def Blk.slotOwn (b : Blk) (g s : Nat) : Bool :=
  if b.rd R.MIR_STAT_PID ≠ 0 ∧ b.on (bitOf R.MIR_CHMAP_PAIRED (b.slotDrive g s)) then b.ownsOut
  else b.slotByte g s / 8 % 2 == b.ownModule

/-- The slot that names drive n of this module (R262). -/
def Blk.memberOf (b : Blk) (n : Nat) : Option (Nat × Nat) :=
  ((List.range 16).map (fun i => (i / 4, i % 4))).find? (fun x =>
    b.rd (R.SHR_Gg_CFG_MODE x.1) != 0 && b.slotOn x.1 x.2 && b.slotOwn x.1 x.2 && b.slotDrive x.1 x.2 == n)

/-- The share that replaces the own torque reference of an active member (R270). -/
def Blk.shareOf (b : Blk) (n : Nat) : Option Int :=
  match b.memberOf n with
  | some (g, s) =>
    if b.rd (R.SHR_Gg_CFG_MODE g) % 2 = 1 ∧ (b.slotState g s = 1 ∨ b.slotState g s = 2) then
      some ((b.grp g).inUse.getD s 0)
    else none
  | none => none

/-- Drive n leads a group in a master mode (R264). -/
def Blk.leadsGroup (b : Blk) (n : Nat) : Option Nat :=
  match b.memberOf n with
  | some (g, s) => if (b.shareOf n).isSome ∧ b.rd (R.SHR_Gg_STAT_LEAD g) = s then some g else none
  | none => none

/-- A member of a winding-balance group other than its lead (R274). -/
def Blk.balanceFollower (b : Blk) (n : Nat) : Option Nat :=
  match b.memberOf n with
  | some (g, s) =>
    if b.rd (R.SHR_Gg_CFG_MODE g) = 3 ∧ (b.shareOf n).isSome ∧ b.rd (R.SHR_Gg_STAT_LEAD g) ≠ s then some g else none
  | none => none

/-- The droop offset that lowers the speed reference of a member in droop or isolated (R275, R276). -/
def Blk.droopOf (b : Blk) (n : Nat) : Int :=
  match b.memberOf n with
  | some (g, s) =>
    let st := b.slotState g s
    if (b.rd (R.SHR_Gg_CFG_MODE g) = 2 ∧ (st = 1 ∨ st = 2)) ∨ (st = 3 ∧ b.on (R.SHR_Gg_CFG_ISOL g)) then
      (b.grp g).droop.getD s 0 else 0
  | none => 0

/-- The group speed that an active member of a droop group other than the lead follows (R266, R275). -/
def Blk.groupSpeed (b : Blk) (n : Nat) : Option Int :=
  match b.memberOf n with
  | some (g, s) =>
    if b.rd (R.SHR_Gg_CFG_MODE g) = 2 ∧ (b.slotState g s = 1 ∨ b.slotState g s = 2) ∧ b.rd (R.SHR_Gg_STAT_LEAD g) ≠ s then
      some (b.grp g).ramp
    else none
  | none => none

/-- The program of channel c holds a RAMP instance, which moves the ramp when it runs (R87, R198). -/
def Blk.hasRamp (b : Blk) (c : Nat) : Bool := (b.chan c).prog.elems.any (fun e => e.kind == .ramp)

/-- The instance of a channel with a part. -/
def Chan.part (x : Chan) (r : ElemRole) : Option Nat :=
  (List.range x.prog.elems.length).find? (fun i => (x.prog.elems.getD i default).role == r)

/-- Velocity and acceleration of a drive axis in Q15 of SPD_FS and in SPD_FS × 2^−23 per frame (R251). -/
def Blk.axisWord (b : Blk) (n : Nat) (x : Int) (scale : Int) : Int :=
  let p := b.rd (R.Dn_CMODE_FBSEL n)
  let d := Int.ofNat (max 1 (b.period * b.rd (R.FBn_CPR_CPR p) * b.rd (R.Dn_SPDFS_SPD_FS n)))
  sat16 (halfUp (x * 400000000 * 60 * scale) (2 ^ 32 * d))

/-- Position error of a drive axis (R251). -/
def Blk.axisError (b : Blk) (n : Nat) : Int :=
  let p := b.rd (R.Dn_CMODE_FBSEL n)
  sat16 (halfUp (diff32 (b.axis n).pInt (b.mirPos p (b.rd (R.FBn_POS_POS p)))) (2 ^ b.rd (R.MPG_CFG_PSH n)))

/-- The input words of a channel as latched at a SAMPLE_PHASE (R36, log entry 28): for a drive the phase currents, the
link voltage, θ_e, ω, the phase voltages, position error, velocity and acceleration of its axis, the droop offset, and the
position of its port as delivered, low and high half (R161, R177);
for a stepper the winding currents and references. -/
def Blk.latchedWords (b : Blk) (c : Nat) : List Int :=
  if c < 8 then
    let s := b.afe.drv.getD c default
    let d := b.drv c
    let pv := fun k code => pvQ15 code (b.afe.pvCor.getD (3 * c + k) 0)
    [s.iA, s.iB, s.vdc, signed 16 d.theta, d.speed, pv 0 s.pvA, pv 1 s.pvB, pv 2 s.pvC,
     b.axisError c, b.axisWord c (b.axis c).v 32768, b.axisWord c (b.axis c).a (2 ^ 23), b.droopOf c,
     signed 16 (b.port (b.rd (R.Dn_CMODE_FBSEL c))).delPos, signed 16 ((b.port (b.rd (R.Dn_CMODE_FBSEL c))).delPos / 65536)]
  else
    let s := b.afe.stp.getD (c - 8) default
    let r := b.stpRefs (c - 8)
    [s.iA, s.iB, r.1, r.2]

/-- The Slalu words that a program takes as inputs: session and word (R357). -/
def slaluRefs (p : Program) : List (Nat × Nat) :=
  ((p.elems.flatMap (·.ins)).filterMap (fun s => match s with
    | .slalu s w => some (s, w)
    | _ => none)).eraseDups

/-- The number of a channel's first Slalu input: they follow the words latched at SAMPLE_PHASE (log entry 28). -/
def slaluBase (c : Nat) : Nat := if c < 8 then 14 else 4

/-- Word w of the payload of session s as latched at SAMPLE_PHASE (R357). -/
def Blk.slaluWord (b : Blk) (x : Nat × Nat) : Int := signed 16 (leAt (b.sll.lat.getD x.1 []) (2 * x.2) 2)

/-- The value of a Slalu word as channel c has taken it last, if it has. -/
def Chan.slaluIn (x : Chan) (c : Nat) (y : Nat × Nat) : Option Int :=
  ((List.range x.slRefs.length).find? (fun i => x.slRefs.getD i (0, 0) == y)).bind (fun i => x.ins[slaluBase c + i]?)

/-- The value of an input reference (R197, R198): the speed and torque references as written, and the position target of
the channel's axis as the queue holds it, in its low 16 bits (log entry 125). -/
def Blk.srcVal (b : Blk) (c : Nat) (s : ElemSrc) : Int :=
  match s with
  | .input w => iAt (b.chan c).ins w
  | .hostRef k =>
    if k = 0 then (b.drv c).ref else if k = 1 then (b.drv c).torqRef else signed 16 (unsigned 16 (b.axis c).written)
  | .cfgWord off lo w =>
    let base := if c < 8 then 0x8000 + 0x400 * c else 0xA000 + 0x200 * (c - 8)
    signed 16 (b.rd ⟨base + off, lo, w⟩)
  | .zero => 0
  | .slalu s w => ((b.chan c).slaluIn c (s, w)).getD 0
  | .elem i o => iAt ((b.chan c).rt.getD i default).out o

/-- T_d of R90 in units of 78.125 ps: from SAMPLE_PHASE to the middle of the span that this frame's words govern. -/
def Blk.tDelay (b : Blk) (n : Nat) : Int :=
  let pf := Int.ofNat (max 1 (b.carrier n))
  let step := if b.on (R.Dn_CFG_DUAL n) then pf / 2 else pf
  let base := 32 * (Int.ofNat (b.rd (R.Dn_CARR_OFS n)) - Int.ofNat (b.drv n).aCyc)
  let first := 32 * Int.ofNat (b.rd R.TICK_OPHASE_PHASE + 64)
  let take := base + step * ceilI (first - base) (max 1 step)
  take + step / 2 - 32 * Int.ofNat (b.rd R.TICK_SPHASE_PHASE)

/-- KTD for a shift S: ω_e × T_d in 65,536 units to 360° per Q15 of speed (R191). -/
def Blk.ktdFor (b : Blk) (n : Nat) (s : Int) : Int :=
  let num := Int.ofNat (b.rd (R.Dn_SPDFS_SPD_FS n) * b.rd (R.Dn_SPDFS_POLEP n)) * b.tDelay n * 65536
  if 0 ≤ s then halfUp num (768000000000 * 2 ^ s.toNat) else halfUp (num * 2 ^ (-s).toNat) 768000000000

/-- KTD and STD: the least shift for which KTD fits (R191; log entry 29). -/
def Blk.ktd (b : Blk) (n : Nat) : Int × Int :=
  match ((List.range 16).map (fun i => Int.ofNat i - 8)).find? (fun s => decide (magI (b.ktdFor n s) ≤ 32767)) with
  | some s => (b.ktdFor n s, s)
  | none => (32767, 7)

/-- The current of the high phase (R93). -/
def Blk.highCurrent (b : Blk) (n : Nat) : Int :=
  let x := (b.chan n).ins
  match (legsOf (b.rd (R.Dn_CSTAT_SECTOR n)) (b.seq n).dir).1 with
  | 0 => iAt x 0
  | 1 => iAt x 1
  | _ => sat16 (-iAt x 0 - iAt x 1)

/-- A list of inputs with one replaced. -/
def setIn (x : List Int) (i : Nat) (v : Int) : List Int := x.set i v

/-- What rules of other chapters put in place of an input of an element with a part (R88, R93, R104, R128, R129, R274,
R275). -/
def Blk.roleInputs (b : Blk) (c : Nat) (r : ElemRole) (x : List Int) : List Int :=
  let d := b.drv c
  match r with
  | .speedLoop => setIn x 0 (sat16 ((b.groupSpeed c).getD (iAt x 0) - b.droopOf c))
  | .idLoop =>
    setIn x 0 (if b.stage c = 4 then b.alignMag c else d.idRef)
  | .iqLoop => setIn x 0 (if b.stage c = 4 then 0 else d.iqRef)
  | .softLoop =>
    let v := if b.stage c = 5 then Int.ofNat (b.rd (R.Dn_IF_IIF c)) else (b.seq c).dir * d.iqRef
    setIn (setIn x 0 v) 1 (b.highCurrent c)
  | .fieldWeak =>
    let u := match b.leadsGroup c with
      | some g => if b.rd (R.SHR_Gg_CFG_MODE g) = 3 then max d.u (b.grp g).uMax else d.u
      | none => d.u
    setIn (setIn x 0 (Int.ofNat (b.rd (R.Dn_FW_VMARG c)))) 1 u
  | _ => x

/-- The blend of an output under R109 in its frame k. -/
def blendOut (b : Blk) (n : Nat) (x : Blend) (y : Int) : Int :=
  let f := Int.ofNat (max 1 (b.rd (R.Dn_BUMP_HFRM n)))
  x.yLast + (2 * (y - x.yLast) * Int.ofNat x.k + f) / (2 * f)

/-- The blend of output `what`. -/
def Blk.blendOf (b : Blk) (n what : Nat) : Option Blend := (b.drv n).blends.find? (fun x => x.what == what)

/-- Replace or remove the blend of an output. -/
def Blk.putBlend (b : Blk) (n what : Nat) (x : Option Blend) : Blk :=
  (b.onDrv n (fun d => { d with blends := d.blends.filter (fun y => y.what != what) ++ x.toList })).showBlend n

/-- The incoming controller's first output compared with the outgoing one (R109): event 0x3010, or a blend with event
0x3111. A hand-over of several outputs raises one event (R130): 0x3111 with the first that is blended, or 0x3010 with the
last found within HANDOVER_MAX. Kind 9 is a preload within the start sequence and is not reported. -/
def Blk.decideBlend (b : Blk) (n what : Nat) (y : Int) : Blk :=
  match b.blendOf n what with
  | none => b
  | some x =>
    let others := (b.drv n).blends.filter (fun z => z.kind == x.kind && z.what != what)
    if x.first = false then b
    else if x.kind = 9 then b.putBlend n what none
    else if magI (y - x.yLast) ≤ b.rd (R.Dn_BUMP_HMAX n) then
      let b := b.putBlend n what none
      if others.isEmpty && !x.told then b.raise 0x3010 n [Int.ofNat x.kind] else b
    else
      let b := b.putBlend n what (some { x with first := false, told := true, k := 0 })
      let b := b.onDrv n (fun d =>
        { d with blends := d.blends.map (fun z => if z.kind = x.kind then { z with told := true } else z) })
      if x.told then b else b.raise 0x3111 n [Int.ofNat x.kind, x.yLast, y]

/-- One frame of an output under its blend: the value applied, and the blend moved on (R109). -/
def Blk.blendFrame (b : Blk) (n what : Nat) (y : Int) : Int × Blk :=
  match b.blendOf n what with
  | none => (y, b)
  | some x =>
    if x.first then (x.yLast, b)
    else
      let x := { x with k := min (x.k + 1) (b.rd (R.Dn_BUMP_HFRM n)) }
      (blendOut b n x y, b.putBlend n what (some x))

/-- iq* under the limits of R88 and R105. -/
def Blk.limitTorque (b : Blk) (n : Nat) (iq : Int) : Int :=
  let d := b.drv n
  let l := b.limitIq n iq d.speed
  if b.runsDq n then
    let mx := if 0 ≤ l * d.speed then b.motLimit n else b.genLimit n
    let r := Int.ofNat (isqrt (mx * mx - d.idRef * d.idRef).toNat)
    satI l (-r) r
  else l

/-- iq* of the frame (R88, R109, R270): the share of a group member, the torque reference, or what the speed loop left,
under the blend and the limits in force. The id* of a follower in winding balance is its lead's (R274). -/
def Blk.torqueFrame (b : Blk) (n : Nat) : Blk :=
  let b := match b.balanceFollower n with
    | some g => b.onDrv n (fun d => { d with idRef := (b.grp g).idW })
    | none => b
  let b := match b.shareOf n with
    | some v => (b.putBlend n 1 none).onDrv n (fun d => { d with iqRaw := v })
    | none =>
      if b.on (R.Dn_CMODE_CTRL n) && !(b.drv n).spdLim then
        let t := b.limitTorque n (b.drv n).torqRef
        (b.onDrv n (fun d => { d with iqRaw := t })).decideBlend n 1 t
      else b
  let r := b.blendFrame n 1 (b.drv n).iqRaw
  let b := r.2
  let iq := b.limitTorque n r.1
  b.onDrv n (fun d => { d with iqRef := iq })

/-- A hand-over of R109 has been made: residuals pause (R220) and an injection on the drive is aborted (R229). -/
def Blk.handedOver (b : Blk) (n : Nat) : Blk := (b.startSettle n).abortInj n 3

/-- The speed loop's torque reference, with the acceleration added where the program adds it (R88, R202). In the run in
which the regulator takes over its output is the iq* in force, and the return is first judged in the next run. -/
def Blk.speedResult (b : Blk) (n : Nat) (y : Int) : Blk :=
  let b := b.onDrv n (fun d => { d with own := y })
  if (b.shareOf n).isSome then b
  else if b.on (R.Dn_CMODE_CTRL n) then
    if (b.drv n).spdLim = false then b
    else
      let t := (b.drv n).torqRef
      let l := b.limitTorque n y
      let taken := match b.blendOf n 1 with
        | some x => x.first && x.kind == 4
        | none => false
      let b := (b.onDrv n (fun d => { d with iqRaw := l })).decideBlend n 1 l
      if taken = false ∧ Int.ofNat (magI t) ≤ sgn t * y then
        let tl := b.limitTorque n t
        let b := (b.startBlend n 1 5 (b.drv n).iqRef 0).handedOver n
        (b.onDrv n (fun d => { d with spdLim := false, iqRaw := tl })).decideBlend n 1 tl
      else b
  else
    let l := b.limitTorque n y
    (b.onDrv n (fun d => { d with iqRaw := l })).decideBlend n 1 l

/-- What the anti-windup of the speed loop, instance i, acts on for its own output y (R109): while iq* is blended, y moved by
as much as the blend moves the torque reference that y brings. -/
def Blk.windRef (b : Blk) (c i : Nat) (y : Int) : Int :=
  let ch := b.chan c
  let ff := match ch.part .torqueSum with
    | some j => iAt (ch.rt.getD j default).out 0 - iAt (ch.rt.getD i default).out 0
    | none => 0
  match b.blendOf c 1 with
  | some x =>
    let l := b.limitTorque c (y + ff)
    let k := if x.first then 1 else x.k + 1
    if (b.shareOf c).isSome = true ∨ (x.first = true ∧ (x.kind = 9 ∨ magI (l - x.yLast) ≤ b.rd (R.Dn_BUMP_HMAX c))) then y
    else y + (blendOut b c { x with k := min k (b.rd (R.Dn_BUMP_HFRM c)) } l - l)
  | none => y

/-- What the integrator of the speed loop is preloaded to before its run (R88, R109), and the state in which the
speed-limit regulator takes over. -/
def Blk.speedPrepare (b : Blk) (n : Nat) : Option Int × Blk :=
  let d := b.drv n
  if (b.shareOf n).isSome then
    match b.blendOf n 2 with
    | some x => (some x.yLast, b.putBlend n 2 none)
    | none => (none, b)
  else if b.on (R.Dn_CMODE_CTRL n) && !d.spdLim then
    if b.runState n = 1 ∧ Int.ofNat (magI (b.rampOut n)) < Int.ofNat (magI d.speed) ∧ 0 < d.torqRef * d.speed then
      (some d.iqRef, ((b.onDrv n (fun d => { d with spdLim := true })).startBlend n 1 4 d.iqRef 0).handedOver n)
    else (some d.iqRef, b)
  else match b.blendOf n 1 with
    | some x => if x.first then (some x.yLast, b) else (none, b)
    | none => (none, b)

/-- The largest r with r^d ≤ x, below 2^48. -/
def rootOf (d x : Nat) : Nat :=
  (List.range 48).foldl (fun r i => if (r + 2 ^ (47 - i)) ^ d ≤ x then r + 2 ^ (47 - i) else r) 0

/-- f lies within ±0.1 % of F0 × (F1 / F0)^(j / DUR), as a comparison of powers (R227). -/
def sweepNear (f0 f1 j dur : Nat) (f : Rat) : Bool :=
  let x : Rat := (f0 ^ (dur - j) * f1 ^ j : Nat)
  decide (0 < f) && decide ((999 : Rat) ^ dur * x ≤ (1000 * f) ^ dur) && decide ((1000 * f) ^ dur ≤ 1001 ^ dur * x)

/-- f_j of a logarithmic sweep in 0.1 Hz (R227): any value within ±0.1 % of the formula (log entry 15). -/
def logSweep (f0 f1 j dur : Nat) : Rat :=
  let f := Config.sweep f0 f1 j dur
  if sweepNear f0 f1 j dur f then f else (rootOf dur (f0 ^ (dur - j) * f1 ^ j * 2 ^ (16 * dur)) : Nat) / 65536

/-- The generator's value in its run (R226, R227), and the generator moved on. -/
def Blk.genValue (b : Blk) (k rate : Nat) : Int × Tuner :=
  let t := b.tun k
  let amp := b.rdS (R.LE_INJAMP_AMP k)
  let dur := b.rd (R.LE_INJDUR_DUR k)
  let reps := b.rd (R.LE_INJCFG_REPS k)
  match b.rd (R.LE_INJCFG_TYPE k) with
  | 0 =>
    if dur ≤ t.j then (0, { t with v := 0 })
    else
      let f0 := b.rd (R.LE_INJF_F0 k)
      let f1 := b.rd (R.LE_INJF_F1 k)
      let v := stQ (pMul amp (sinU (t.phi / 65536)) 0)
      let f : Rat := if b.on (R.LE_INJCFG_LOG k) then logSweep f0 f1 t.j dur
        else (f0 : Rat) + ((f1 : Rat) - (f0 : Rat)) * (t.j : Rat) / (dur : Rat)
      let step := (f / 10 * (rate * b.period : Nat) / 400000000 * 2 ^ 32 + 1 / 2).floor
      (v, { t with j := t.j + 1, phi := unsigned 32 (Int.ofNat t.phi + step), v := v })
  | 1 =>
    let ord := b.rd (R.LE_INJCFG_ORD k)
    let hold := max 1 (b.rd (R.LE_INJCFG_HOLD k))
    if (2 ^ ord - 1) * hold * reps ≤ t.j then (0, { t with v := 0 })
    else
      let v := if bitAt t.lfsr (ord - 1) then amp else -amp
      let taps := match ord with
        | 7 => [7, 6]
        | 8 => [8, 6, 5, 4]
        | 9 => [9, 5]
        | 10 => [10, 7]
        | 11 => [11, 9]
        | 12 => [12, 6, 4, 1]
        | 13 => [13, 4, 3, 1]
        | 14 => [14, 5, 3, 1]
        | _ => [15, 14]
      let fb := taps.foldl (fun a i => a != bitAt t.lfsr (i - 1)) false
      let nx := (t.lfsr * 2 + b2n fb) % 2 ^ ord
      (v, { t with j := t.j + 1, lfsr := if (t.j + 1) % hold = 0 then nx else t.lfsr, v := v })
  | _ =>
    let off := b.rd (R.LE_INJAMP_OFF k)
    if (dur + off) * reps ≤ t.j then (0, { t with v := 0 })
    else
      let v := if t.j % max 1 (dur + off) < dur then amp else 0
      (v, { t with j := t.j + 1, v := v })

/-- A capture with TRIG = INJ starts at the first run of the injection (R231). -/
def Blk.capByInj (b : Blk) (k : Nat) : Blk :=
  if b.rd (R.LE_CAPSTAT_CAP k) = 1 ∧ b.rd (R.LE_CAPCFG_TRIG k) = 1 then
    (b.wr (R.LE_CAPSTAT_CAP k) 2).onTun k (fun t => { t with fn0 := b.fn })
  else b

/-- The value that an injection adds at an element, 0 where none runs (R226). -/
def Blk.injValue (b : Blk) (c : Nat) (e : Elem) : Int × Blk :=
  match e.point with
  | none => (0, b)
  | some p =>
    match (List.range 5).find? (fun k => b.rd (R.LE_CAPSTAT_INJ k) == 1 && b.rd (R.LE_INJCFG_CH k) == c &&
        b.rd (R.LE_INJCFG_PT k) == p) with
    | none => (0, b)
    | some k =>
      let r := b.genValue k e.rate
      let b := if (b.tun k).j = 0 then b.capByInj k else b
      let b := match (b.tun k).hdr with
        | some h => (b.onTun k (fun t => { t with hdr := none })).ok h 0x20
        | none => b
      let r := (r.1, { r.2 with hdr := none })
      (r.1, b.onTun k (fun _ => r.2))

/-- An element of a degraded channel that still runs: it feeds compare values (R56). The manual does not say which
elements those are; the model takes the pre-output elements of rate 1 that are no speed, torque-sum or position loop, so
field weakening goes on (DESIGN CHOICE, log entry 124). -/
def feedsOutput (e : Elem) : Bool :=
  !e.post && e.rate == 1 && e.role != .speedLoop && e.role != .torqueSum && e.role != .posLoop

/-- The instance runs in a window of frame `fn` (R38, R56). -/
def runsIn (e : Elem) (post degraded : Bool) (fn : Nat) : Bool :=
  e.post == post && fn % max 1 e.rate == e.ofs && (!degraded || feedsOutput e)

/-- Put the result of an instance. -/
def Blk.putRt (b : Blk) (c i : Nat) (o : ElemOut) : Blk :=
  let b := b.onChan c (fun x => { x with rt := x.rt.set i ⟨o.st, o.out⟩ })
  if o.sat ∧ (b.chan c).sat = false then
    (b.inc (R.LE_SATCNT_COUNT c)).onChan c (fun x => { x with sat := true })
  else b

/-- The cross terms that DQDEC adds in this frame (R198), for the preload of the current loops. -/
def Blk.crossTerms (b : Blk) (c : Nat) : Int × Int :=
  match (b.chan c).part .decouple with
  | none => (0, 0)
  | some i =>
    let e := (b.chan c).prog.elems.getD i default
    let x := (e.ins.map (b.srcVal c)).set 0 0 |>.set 1 0
    let o := elDqdec x (e.coefs.map (iAt (b.chan c).coefs)) e.shifts
    (iAt o.out 0, iAt o.out 1)

/-- The preload of a current loop at a hand-over (R109, R120), if one is due. -/
def Blk.currentPreload (b : Blk) (c : Nat) (r : ElemRole) : Option Int :=
  match b.blendOf c 0 with
  | none => none
  | some x =>
    if x.first = false then none
    else match r with
      | .idLoop => if b.runsDq c then some (sat16 (x.vd - (b.crossTerms c).1)) else none
      | .iqLoop => if b.runsDq c then some (sat16 (x.vq - (b.crossTerms c).2)) else none
      | .softLoop => if b.runsDq c then none else some x.yLast
      | _ => none

/-- The vector of IPARK scaled to a blended voltage demand (R109, log entry 30). -/
def scaleVec (vd vq u out vm : Int) : Int × Int :=
  if u = 0 then (0, sat16 (halfUp (out * vm) 32768)) else (sat16 (halfUp (vd * out) u), sat16 (halfUp (vq * out) u))

/-- The integrators of the current loops take the blended voltages for their anti-windup (R109). -/
def Blk.currentWind (b : Blk) (c : Nat) (r : ElemRole) (own applied : Int) : Blk :=
  match (b.chan c).part r with
  | none => b
  | some i =>
    let e := (b.chan c).prog.elems.getD i default
    b.onChan c (fun x => { x with rt := x.rt.modify i (fun y =>
      { y with st := windAdjust e.kind (e.coefs.map (iAt x.coefs)) y.st own applied }) })

/-- IPARK of a drive: the voltage demand u, its blend, the limit of R91. -/
def Blk.runIpark (b : Blk) (c i : Nat) (x : List Int) : Blk :=
  let k := b.ktd c
  let vm := vmOf (iAt x 4)
  let u := uOf (iAt x 0) (iAt x 1) vm
  if b.runsDq c = false then b.putRt c i (elIpark x k.1 k.2)
  else
    let b := b.decideBlend c 0 u
    let r := b.blendFrame c 0 u
    let b := r.2
    let w := if r.1 = u then (iAt x 0, iAt x 1) else scaleVec (iAt x 0) (iAt x 1) u r.1 vm
    let o := elIpark ((x.set 0 w.1).set 1 w.2) k.1 k.2
    let b := if r.1 = u then b else (b.currentWind c .idLoop (iAt x 0) w.1).currentWind c .iqLoop (iAt x 1) w.2
    let b := b.onDrv c (fun d => { d with u := r.1, vd := w.1, vq := w.2 })
    let b := if iAt o.out 3 = 1 ∧ b.pstate c = 1 then (b.flag (R.Dn_CSTAT_VLIM c) true).raiseLim 1024 0x3112 c [] else b
    b.putRt c i o

/-- One run of a RAMP instance (R87, R199). The first of a drive's program is the ramp that the rules of the drive read; any
other keeps a state RS of its own. -/
def Blk.runRamp (b : Blk) (c i : Nat) (ref : Int) : List Int × List Int × Blk :=
  let ch := b.chan c
  let first := (List.range ch.prog.elems.length).find? (fun j => (ch.prog.elems.getD j default).kind == .ramp)
  if first = some i then
    let b := b.rampTick c ref
    ([b.rampOut c, ((b.drv c).dRamp + 1) / 2], [], b)
  else
    let rs := iAt (ch.rt.getD i default).st 0
    let rs' := rampStep rs (ref * 512) (Int.ofNat (b.rd (R.Dn_RAMP_ACC c))) (Int.ofNat (b.rd (R.Dn_RAMP_DEC c)))
    ([rampQ15 rs', (rs' - rs + 1) / 2], [rs'], b)

/-- Run one instance of a channel's program (R197, R198). An integrator that is due is preloaded first (R109, R208). -/
def Blk.runInst (b : Blk) (c i : Nat) : Blk :=
  let ch := b.chan c
  let e := ch.prog.elems.getD i default
  let x := b.roleInputs c e.role (e.ins.map (b.srcVal c))
  let cf := e.coefs.map (iAt ch.coefs)
  let st := match ch.due.find? (fun y => y.1 == i) with
    | some y => preloadI e.kind x cf e.shifts (ch.rt.getD i default).st y.2
    | none => (ch.rt.getD i default).st
  let inj := b.injValue c e
  let b := inj.2.onChan c (fun y => { y with due := y.due.filter (fun z => z.1 != i) })
  let rp := if e.kind = .ramp ∧ c < 8 then b.runRamp c i (iAt x 0) else ([], [], b)
  let b := rp.2.2
  let run := fun (st : List Int) (adj : Int → Int) =>
    runElem e.kind x cf e.shifts (if e.kind = .ramp then rp.2.1 else st) inj.1 rp.1 0 0 adj
  if 8 ≤ c then b.putRt c i (run st id)
  else match e.role with
    | .invPark => b.runIpark c i x
    | .speedLoop =>
      let pr := b.speedPrepare c
      let b := pr.2
      let st := match pr.1 with
        | some t => preloadI e.kind x cf e.shifts st t
        | none => st
      let carried := match b.leadsGroup c with
        | some g => (b.grp g).carried
        | none => none
      let o := { run st (fun y => carried.getD (b.windRef c i y)) with out := (run st id).out }
      let b := b.putRt c i o
      if (ch.part .torqueSum).isSome then b else b.speedResult c (iAt o.out 0)
    | .torqueSum =>
      let o := run st id
      (b.putRt c i o).speedResult c (iAt o.out 0)
    | .fieldWeak =>
      let mn := -(Int.ofNat (b.rd (R.Dn_FW_IDMIN c)))
      let o := run st (fun y => satI y mn 0)
      if (b.balanceFollower c).isSome then b.putRt c i o
      else
      let b := b.decideBlend c 3 (iAt o.out 0)
      let bl := b.blendFrame c 3 (iAt o.out 0)
      let w := if (b.blendOf c 3).isSome then { run st (fun _ => bl.1) with out := o.out } else o
      let b := (bl.2.putRt c i w).onDrv c (fun d => { d with idRef := bl.1 })
      if mn < 0 ∧ iAt o.out 0 = mn then (b.flag (R.Dn_CSTAT_FWLIM c) true).raiseLim 1024 0x3113 c [] else b
    | .softLoop =>
      let st := match b.currentPreload c .softLoop with
        | some t => preloadI e.kind x cf e.shifts st t
        | none => st
      if b.runsDq c then b.putRt c i (run st id)
      else
        let b := b.decideBlend c 0 (iAt (run st id).out 0)
        let bl := b.blendFrame c 0 (iAt (run st id).out 0)
        let b := bl.2
        let o := run st (fun y => satI (if (b.blendOf c 0).isSome then bl.1 else y) 0 32767)
        (b.putRt c i o).onDrv c (fun d => { d with dp := iAt o.out 0, u := iAt o.out 0 })
    | .posLoop =>
      let b := b.decideBlend c 4 (iAt (run st id).out 0)
      let bl := b.blendFrame c 4 (iAt (run st id).out 0)
      bl.2.putRt c i (run st (fun y => if (b.blendOf c 4).isSome then bl.1 else y))
    | r =>
      let st := match b.currentPreload c r with
        | some t => preloadI e.kind x cf e.shifts st t
        | none => st
      b.putRt c i (run st id)

/-- Run a window of a channel's program. -/
def Blk.runWindow (b : Blk) (c : Nat) (post : Bool) : Blk :=
  let ch := b.chan c
  (List.range ch.prog.elems.length).foldl (fun b i =>
    if runsIn (ch.prog.elems.getD i default) post ch.degraded b.fn then b.runInst c i else b) b

/-- The duty of a winding without a valid current (R157): the voltage that drives half its reference through RWIND, in Q15 of
VBR (log entry 147). -/
def Blk.openDuty (b : Blk) (n : Nat) (ref : Int) : Int :=
  let half := ref / 2
  let vbr := Int.ofNat (b.rd (R.Sn_VBR_VBR n))
  if vbr = 0 then sat16 (Config.openDuty half)
  else sat16 (halfUp (half * Int.ofNat (b.rd (R.AFE_SISC_IFS n) * b.rd (R.Sn_MOTOR_RWIND n))) (100000 * vbr))

/-- The output words that a channel's pair delivers at OUTPUT_PHASE (R65, R103, R239): three compare words, or d_p, α,
angle and speed; two duty words of a stepper. -/
def Blk.outputWords (b : Blk) (c : Nat) : List Int :=
  let ch := b.chan c
  let outOf := fun r o => match ch.part r with
    | some i => iAt (ch.rt.getD i default).out o
    | none => 0
  if 8 ≤ c then
    let n := c - 8
    let w := fun (i k : Nat) (r : ElemRole) =>
      if b.on (R.AFE_LMAP_VALID (24 + 2 * n + i)) then outOf r 0 else b.openDuty n (iAt ch.ins k)
    [w 0 2 .windA, w 1 3 .windB]
  else if b.runsDq c then
    if (ch.part .modulator).isSome then [outOf .modulator 0, outOf .modulator 1, outOf .modulator 2]
    else ch.prog.outs.map (fun x => iAt (ch.rt.getD x.1 default).out x.2)
  else
    let d := b.drv c
    [d.dp, Int.ofNat d.alpha, Int.ofNat d.theta, d.speed]

/-- The measured dq currents of the frame (Dn_IDQ). -/
def Blk.showIdq (b : Blk) (n : Nat) : Blk :=
  let x := (b.chan n).ins
  let ab := elClarke [iAt x 0, iAt x 1]
  let dq := elPark [iAt ab.out 0, iAt ab.out 1, iAt x 3]
  (b.wrS (R.Dn_IDQ_ID n) (iAt dq.out 0)).wrS (R.Dn_IDQ_IQ n) (iAt dq.out 1)

/-- The direction in which a sensored soft-step drive is commutated (R92): that of the measured speed, at standstill that of
the torque reference (DESIGN CHOICE, log entry 136). A change exchanges the conducting legs: the sequencer begins anew in the
sector that contains θ_q. -/
def Blk.softDir (b : Blk) (n : Nat) : Blk :=
  let d := b.drv n
  let v := if d.speed ≠ 0 then sgn d.speed else sgn d.iqRef
  if b.cur n = 2 ∧ b.runState n = 1 ∧ v ≠ 0 ∧ v ≠ (b.seq n).dir then
    (b.wr (R.Dn_CSTAT_SECTOR n) 0).onSeq n (fun q => { q with dir := v, enter := true, trans := none })
  else b

/-- The pre-output window of a channel: references, program, output words (R37, R46, R89, R105). -/
def Blk.runPre (b : Blk) (c : Nat) : Blk :=
  let b := if c < 8 then ((b.torqueFrame c).softDir c).showIdq c else b
  let b := b.runWindow c false
  let b := if c < 8 then
      let a := b.advance c (b.drv c).idRef
      (b.onDrv c (fun d => { d with alpha := a })).wrSat (R.Dn_ANGLE_ADV c) ((a * 2880 + 32768) / 65536)
    else b
  let w := b.outputWords c
  b.onChan c (fun x => { x with outs := some w })

/-- The pair that runs channel c, as LE_DMAP and LE_SMAP code it. -/
def Blk.pairOf (b : Blk) (c : Nat) : Nat :=
  if c < 8 then b.rd (sliceOf R.LE_DMAP_MAP c 4) else b.rd (sliceOf R.LE_SMAP_MAP (c - 8) 4)

/-- State of pair k as LE_PSTAT codes it. -/
def Blk.pairState (b : Blk) (k : Nat) : Nat := b.rd (sliceOf R.LE_PSTAT_ST k 3)

/-- Channel c is computed in this frame: its pair runs and is not loading it (R208 to R210). -/
def Blk.computes (b : Blk) (c : Nat) : Bool :=
  let k := b.pairOf c
  b.configured c && decide (k < 5) && (b.pairState k == 1 || b.pairState k == 2 || b.pairState k == 3) &&
    b.powered (if k < 3 then .lpa else .lpb) && !b.le.loading.any (fun l => l.chs.contains c)

end Sys2Proof.Machine
end

