-- ==== Sys2Proof/Machine/Ward.lean ====
section
/-! DEFINITION. Ward (chapter 16): counting tag failures, FABRIC blocks whose copies disagree, SRAM banks and their
spares, inputs that keep failing. -/

namespace Sys2Proof.Machine

def Blk.onWard (b : Blk) (f : Ward → Ward) : Blk := { b with ward := f b.ward }

/-- A word fails its tag at an exit of a class (R372): counted, its route key kept, event 0xB201 for the classes that
report here. -/
def Blk.wardFail (b : Blk) (cls key : Nat) : Blk :=
  let b := ((b.inc (R.WARD_CNT_COUNT cls)).wr R.WARD_LAST_KEY key).wr R.WARD_LAST_FN b.fn
  if cls = 0 ∨ cls = 2 ∨ cls = 3 ∨ cls = 5 ∨ cls = 6 then b.raiseLim 1024 0xB201 cls [Int.ofNat key, Int.ofNat cls] else b

/-- Input i is shadowed in this frame (R147). -/
def Blk.shadowed (b : Blk) (i : Nat) : Bool := b.afe.groups.any (fun g => g.inp == i)

/-- The front-end input behind input word w of channel c; none for a word of another source. -/
def frontInput (c w : Nat) : Option Nat :=
  if c < 8 then (if w < 3 then some (3 * c + w) else none)
  else if w < 2 then some (24 + 2 * (c - 8) + w) else none

/-- Input word w of channel c is shadowed in this frame. -/
def Blk.covered (b : Blk) (c w : Nat) : Bool := ((frontInput c w).map b.shadowed).getD false

/-- What a pair takes for an input word x that is disturbed: the word it finds where that passes, the shadow lane's where
that exists and passes (R372); none where the word fails. -/
def takesInput (h : InputHit) (shadowed : Bool) (x : Int) : Option Int :=
  let key := h.c.val * 256 + h.w
  let via := fun (f : Flip) => if flipPasses f key (tagWord x) then some (signed 16 (flipWord f (tagWord x))) else none
  (via h.flip).or (if shadowed then (match h.shadow with | some f => via f | none => some x) else none)

/-- Consecutive frames in which input words failed (R374). -/
def failRun (old : List (Nat × Nat)) (bad : List Nat) : List (Nat × Nat) :=
  bad.eraseDups.map (fun w => (w, min (((old.find? (fun x => x.1 == w)).getD (w, 0)).2 + 1) 255))

/-- The input words of channel c in this frame: those latched, then its Slalu words, each copy under the channel's key
(R36, R357, R368). -/
def Blk.inputWords (b : Blk) (c : Nat) : List Int :=
  b.latchedWords c ++ (slaluRefs (b.chan c).prog).map b.slaluWord

/-- The datum of input word w in the last frame (R372). -/
def Chan.lastIn (x : Chan) (c w : Nat) : Option Int :=
  if w < slaluBase c then x.ins[w]?
  else ((slaluRefs x.prog)[w - slaluBase c]?).bind (x.slaluIn c)

/-- The input words of channel c are delivered (R372 class 0): a word that fails is counted, and keeps the datum of the last
frame. The answer tells whether every word could be delivered; without, the outputs are held (R26). -/
def Blk.deliverWords (b : Blk) (c : Nat) (hits : List InputHit) : Bool × Blk :=
  let new := b.inputWords c
  let hits := hits.filter (fun h => h.c.val == c && decide (h.w < new.length))
  let b := (hits.filter (fun h => !flipPasses h.flip (c * 256 + h.w) (tagWord (iAt new h.w)))).foldl
    (fun b h => b.wardFail 0 (c * 256 + h.w)) b
  let got := fun w => match hits.find? (fun h => h.w == w) with
    | some h => takesInput h (b.covered c w) (iAt new w)
    | none => some (iAt new w)
  let bad := (List.range new.length).filter (fun w => (got w).isNone)
  let x := b.chan c
  let last := fun w => (got w).or (x.lastIn c w)
  let ins := (List.range new.length).map (fun w => (last w).getD 0)
  let whole := bad.all (fun w => (x.lastIn c w).isSome)
  (whole, b.onChan c (fun x => { x with ins := if whole then ins else x.ins
                                        slRefs := if whole then slaluRefs x.prog else x.slRefs
                                        inFails := failRun x.inFails bad }))

/-- INPUT_INVALID_BY_TAGS (R374). -/
def Blk.doInputInvalid (b : Blk) (c w : Nat) : Blk :=
  let run := ((b.chan c).inFails.find? (fun x => x.1 == w)).getD (w, 0)
  if b.configured c ∧ 4 ≤ run.2 then
    if c < 8 ∧ (w = 3 ∨ w = 4) then
      if b.on (R.Dn_CMODE_SENS c) then b.portInvalid (b.rd (R.Dn_CMODE_FBSEL c)) else b
    else match frontInput c w with
      | some i => if b.on (R.AFE_LMAP_VALID i) then b.loseInput i false else b
      | none => if c < 8 ∧ 5 ≤ w ∧ w ≤ 7 then (b.raise 0x6301 c []).rung3 1 [c] else b
  else b

/-- The counter of FABRIC block i: profile generator, share logic, thermal manager, Slalu engine. -/
def fblk (i : Nat) : Fld :=
  match i with
  | 0 => R.WARD_FBLK_MPG
  | 1 => R.WARD_FBLK_SHR
  | 2 => R.WARD_FBLK_THM
  | _ => R.WARD_FBLK_SLL

/-- The copies of some blocks disagree in this frame (R371): their outputs are withheld, the count in a row goes on. -/
def Blk.blocksDiffer (b : Blk) (l : List Nat) : Blk :=
  let b := b.onWard (fun w =>
    { w with now := l, run := (List.range 4).map (fun i => if l.contains i then min (w.run.getD i 0 + 1) 255 else 0) })
  b.eachOf l.eraseDups (fun i b => (b.inc (fblk i)).raise 0xB203 i [])

/-- A FABRIC block delivers in this frame. -/
def Blk.blockGood (b : Blk) (i : Nat) : Bool := !b.ward.now.contains i

/-- The configured channels that depend on a FABRIC block (R371). -/
def Blk.dependsOn (b : Blk) (i c : Nat) : Bool :=
  b.configured c && match i with
    | 0 => b.on (R.MPG_CFG_EN c)
    | 1 => decide (c < 8) && (b.memberOf c).isSome
    | 2 => if c < 8 then b.on (R.THM_Dn_CFG_EN c) else b.on (R.THM_Sn_CFG_EN (c - 8))
    | _ => false

/-- FABRIC_BLOCK_FAILED (R371): 8 frames in a row. Without a ready standby the channels that depend on the block react at the
next tick. -/
def Blk.doBlockFailed (b : Blk) (i : Nat) : Blk :=
  if 8 ≤ b.ward.run.getD i 0 ∧ b.ward.dead.contains i = false then
    let b := (b.onWard (fun w => { w with dead := i :: w.dead })).raise 0xB303 i []
    if b.standbyReady then b.loss (0x20 + i)
    else b.onWard (fun w => { w with due := w.due ++ (List.range 16).filter (b.dependsOn i) })
  else b

/-- A spare takes the place of bank k (R375). -/
def Blk.retireBank (b : Blk) (k : Nat) : Blk :=
  let b := (b.wr R.WARD_SPARE_BANKS (b.rd R.WARD_SPARE_BANKS - 1)).inc R.WARD_BANK_RETIRED
  (b.wr R.WARD_BANK_BANK k).raise 0xB202 k []

/-- Ward's part of a tick: spares take the places of the banks copied (R375), before a pair is taken over (R379); the safe
reactions to a block that has failed begin (R371). -/
def Blk.wardTick (b : Blk) : Blk :=
  let b := b.eachOf b.ward.copied (fun k b => b.retireBank k)
  (b.eachOf b.ward.due.eraseDups (fun c b => b.safeReact c)).onWard (fun w => { w with due := [], copied := [] })

/-- SRAM_BANK_THRESHOLD (R375, R376): the copy to a spare begins; with every spare used or taken by a copy under way the
bank stays in service (R32). -/
def Blk.doBankThreshold (b : Blk) (k : Nat) (chs : List Nat) : Blk :=
  if b.powered .fabric = false ∨ b.ward.copy.contains k = true ∨ b.ward.copied.contains k = true then b
  else if b.ward.copy.length + b.ward.copied.length < b.rd R.WARD_SPARE_BANKS then b.onWard (fun w => { w with copy := w.copy ++ [k] })
  else
    let b := b.raise 0xB302 k []
    if chs.isEmpty then b else b.rung3 0 chs

/-- SRAM_BANK_COPY_DONE (R375): the spare takes the bank's place at the tick that follows. -/
def Blk.doBankCopied (b : Blk) (k : Nat) : Blk :=
  if b.ward.copy.contains k then
    b.onWard (fun w => { w with copy := w.copy.filter (fun x => x != k), copied := w.copied ++ [k] })
  else b

end Sys2Proof.Machine
end

