-- ==== Sys2Proof/Machine/LoopPairs.lean ====
section
/-! DEFINITION. The loop-engine pairs (chapter 8, R39, R53 to R56, R188 to R190, R203 to R213): cycle demand and
admission, checkpoints, takeover by LP4, plans, placement and shedding, overruns, coefficient writes. -/

namespace Sys2Proof.Machine

/-- A window's length in cycles (R37). -/
def Blk.windowLen (b : Blk) (post : Bool) : Nat :=
  let o := b.rd R.TICK_OPHASE_PHASE
  if post then b.period - b.rd R.TICK_CTL_SLEW - o else o - b.rd R.TICK_SPHASE_PHASE - 192

/-- State words W of a program (R200). -/
def stateWords (p : Program) : Nat :=
  (p.elems.map (fun e => elemWords e.kind + (if 1 < e.rate then elemOutputs e.kind else 0))).sum + 4

/-- Cycles of a run of an instance, with its injection point (R200, R235): what the image declares for it (R201). -/
def runCost (e : Elem) : Nat := elemCost e.kind + (if e.point.isSome then 4 else 0)

/-- Cycles that a channel needs in a window in the frames of residue r (R200, R235). -/
def chanDemand (p : Program) (sup post : Bool) (r : Nat) : Nat :=
  let l := p.elems.filter (fun e => runsIn e post false r)
  let entry := if l.isEmpty then 0 else 16 + 2 * (if post then p.entryPost.length else p.entryPre.length)
  let rest := if post then 24 + ceilDiv (stateWords p) 4 + (if sup then 12 else 0) else 6 * p.outs.length
  entry + (l.map runCost).sum + rest

/-- The least common multiple of the rate divisors of some programs (R39). -/
def cycleLen (l : List Program) : Nat :=
  (l.flatMap (fun p => p.elems.map (fun e => max 1 e.rate))).foldl Nat.lcm 1

/-- Cycles that a pair needs for its channels' programs in the frames of residue r (R200, R235). -/
def pairDemand (l : List (Program × Bool)) (tuned post : Bool) (r : Nat) : Nat :=
  (l.map (fun x => chanDemand x.1 x.2 post r)).sum +
    (if post then 128 + (if tuned then 16 else 0) else if tuned then 28 else 0)

/-- The largest demand of a pair over the whole cycle and the residue at which it falls. -/
def worstDemand (l : List (Program × Bool)) (tuned post : Bool) : Nat × Nat :=
  (List.range (cycleLen (l.map (·.1)))).foldl (fun m r =>
    let d := pairDemand l tuned post r
    if m.1 < d then (d, r) else m) (0, 0)

/-- The programs in force of some channels with whether each is supervised. -/
def Blk.progsOf (b : Blk) (chs : List Nat) : List (Program × Bool) :=
  chs.map (fun c => ((b.chan c).prog, decide (c < 8) && b.on (R.Dn_SUPCFG_EN c)))

/-- The smallest margin of a pair over both windows and the whole cycle; none where a demand exceeds its window. -/
def Blk.pairMargin (b : Blk) (l : List (Program × Bool)) (tuned : Bool) : Option Nat :=
  let d0 := (worstDemand l tuned false).1
  let d1 := (worstDemand l tuned true).1
  let w0 := b.windowLen false
  let w1 := b.windowLen true
  if d0 ≤ w0 ∧ d1 ≤ w1 then some (min (w0 - d0) (w1 - d1)) else none

/-- The pair is provisioned for tuning (R227, R235). -/
def Blk.provisioned (b : Blk) (k : Nat) : Bool := b.le.tuned.any (fun x => x.1 == k)

/-- The load for which pair k is admitted in a window, given the channels of each pair: its own, and for LP4 without
channels that of the largest active pair with its tuning costs (R41, R235). R41 does not say which pair is the largest when
one is so in the pre-output and another in the post-output window: the largest load of each window is taken by itself (DESIGN
CHOICE, log entry 180). -/
def Blk.pairLoad (b : Blk) (chs : Nat → List Nat) (k : Nat) (post : Bool) : Nat × Nat :=
  let of_ := fun (j : Nat) (t : Bool) => worstDemand (b.progsOf (chs j)) t post
  if k = 4 ∧ (chs 4).isEmpty = true then
    (List.range 4).foldl (fun m j =>
      let d := of_ j (b.provisioned j || b.provisioned 4)
      if m.1 < d.1 then d else m) (of_ 4 (b.provisioned 4))
  else of_ k (b.provisioned k)

/-- TICK_ADMk of every pair (R41). -/
def Blk.showMargins (b : Blk) : Blk :=
  let chs := fun k => (List.range 16).filter (fun c => b.configured c && b.pairOf c == k)
  b.each 5 (fun k b =>
    let m := fun post => b.windowLen post - (b.pairLoad chs k post).1
    (b.wrSat (R.TICK_ADMk_PRE k) (m false)).wrSat (R.TICK_ADMk_POST k) (m true))

def Blk.onLe (b : Blk) (f : Le → Le) : Blk := { b with le := f b.le }

/-- LE_DMAP or LE_SMAP of a channel. -/
def Blk.setMap (b : Blk) (c v : Nat) : Blk :=
  if c < 8 then b.wr (sliceOf R.LE_DMAP_MAP c 4) v else b.wr (sliceOf R.LE_SMAP_MAP (c - 8) 4) v

/-- LE_PSTAT of a pair. -/
def Blk.setPair (b : Blk) (k v : Nat) : Blk := b.wr (sliceOf R.LE_PSTAT_ST k 3) v

/-- The configured channels that pair k runs. -/
def Blk.chansOn (b : Blk) (k : Nat) : List Nat := (List.range 16).filter (fun c => b.configured c && b.pairOf c == k)

/-- LP4 is free: the spare, carrying no moved channel (R209). -/
def Blk.spareFree (b : Blk) : Bool := b.pairState 4 == 2 && (b.chansOn 4).isEmpty

/-- An instance's integrator is to be preloaded at its next run (R109). -/
def Chan.preloadAt (x : Chan) (i : Nat) (target : Int) : Chan :=
  { x with due := x.due.filter (fun y => y.1 != i) ++ [(i, target)] }

/-- The integrator of the instance with a part is to be preloaded at its next run. -/
def Chan.preloadPart (x : Chan) (r : ElemRole) (target : Int) : Chan :=
  match x.part r with
  | some i => x.preloadAt i target
  | none => x

/-- The tags that fail at a load of channel c. -/
def Blk.loadTags (b : Blk) (c : Nat) : LoadTags :=
  (b.le.badTags.find? (fun t => t.c.val == c)).getD default

/-- A command runs with the tags that fail at the loads it brings (R208, R373). -/
def Blk.withTags (b : Blk) (bad : List LoadTags) (f : Blk → Blk) : Blk :=
  (f (b.onLe (fun l => { l with badTags := bad }))).onLe (fun l => { l with badTags := [] })

/-- A checkpoint slot fails at a word (R208, R372, R377; log entry 49). -/
def Blk.ckFails (b : Blk) (c w : Nat) : Blk :=
  ((b.wardFail 2 (0x3000 + c * 256 + w % 256)).inc (R.LE_ERR_CKF (b.pairOf c))).flag R.WARD_SPARE_CKS false

/-- The words of a checkpoint, in the order of their numbers (log entry 156). -/
def Ckpt.words (k : Ckpt) : List Int := k.rt.flatMap (fun x => x.st ++ x.out) ++ k.outs ++ [k.ramp, k.iqRaw, k.idRef]

/-- The first word of a checkpoint of channel c that fails at a load: one that has failed before keeps its failing tag
(R370). -/
def Ckpt.fails (k : Ckpt) (c : Nat) (hits : List (Nat × Flip)) : Option Nat :=
  k.bad.or (badWord hits (0x3000 + c * 256) k.words.length (fun w => tagWord (iAt k.words w)))

/-- The newer and the older checkpoint slot of a channel. -/
def Chan.slots (x : Chan) : Option Ckpt × Option Ckpt :=
  match x.slot0, x.slot1 with
  | some k, some l => if l.fn < k.fn then (some k, some l) else (some l, some k)
  | some k, none => (some k, none)
  | none, l => (l, none)

/-- The last good checkpoint of channel c as a load finds it (R208): the newer slot, the older one with event 0x7103 where
the newer fails its tags, none where both do. R208 speaks of slots that fail their tags only: a channel that has no
checkpoint yet is loaded as one whose slots both fail, with no slot counted as failed (DESIGN CHOICE, log entry 173). -/
def Blk.pickCk (b : Blk) (c : Nat) : Option Ckpt × Blk :=
  let s := (b.chan c).slots
  let t := b.loadTags c
  let mark := fun (b : Blk) (k : Ckpt) (w : Nat) => (b.ckFails c w).onChan c (fun x =>
    let f := fun (y : Option Ckpt) => if y = some k then some { k with bad := some w } else y
    { x with slot0 := f x.slot0, slot1 := f x.slot1 })
  match s.1, s.1.bind (fun k => k.fails c t.newer) with
  | some k, some w =>
    let b := mark b k w
    match s.2, s.2.bind (fun k => k.fails c t.older) with
    | some l, some v => (none, mark b l v)
    | some l, none => (some l, b.raise 0x7103 c [])
    | none, _ => (none, b)
  | _, _ => (s.1, b)

/-- Channel c goes on from a checkpoint; without one every integrator is preloaded so that its first outputs equal those
last applied, event 0x7104 (R208). -/
def Blk.resumeFrom (b : Blk) (c : Nat) (ck : Option Ckpt) : Blk :=
  match ck with
  | some k =>
    let b := b.onChan c (fun x => { x with rt := k.rt, due := [] })
    if c < 8 then b.onDrv c (fun d => { d with ramp := k.ramp, iqRaw := k.iqRaw, idRef := k.idRef }) else b
  | none =>
    let b := (b.raise 0x7104 c []).onChan c (fun x =>
      (List.range x.prog.elems.length).foldl (fun x i => x.preloadAt i (iAt x.appliedOf i)) x)
    if c < 8 then
      let a := (b.chan c).appliedRef
      let b := b.onChan c (fun x => { x with due := x.due.filter (fun y =>
        !([ElemRole.idLoop, .iqLoop, .softLoop, .speedLoop].contains (x.prog.elems.getD y.1 default).role)) })
      (b.startBlend c 0 9 (iAt a 0) (iAt a 1) (iAt a 2)).startBlend c 1 9 (iAt a 3) 0
    else
      b.onChan c (fun x => (x.preloadPart .windA (iAt x.applied 0)).preloadPart .windB (iAt x.applied 1))

/-- A pair loads channel c (R208). -/
def Blk.restoreCk (b : Blk) (c : Nat) : Blk :=
  let r := b.pickCk c
  r.2.resumeFrom c r.1

/-- A capture on a pair whose channel moves ends with MOVED (R234). -/
def Blk.moveCapture (b : Blk) (k : Nat) (c : Option Nat) : Blk :=
  let ch := fun s c => b.rd s / 4096 == c && decide (b.rd s / 1024 % 4 < 2)
  let on := match c with
    | some c => ch (R.LE_CAPSEL_SIG0 k) c || ch (R.LE_CAPSEL_SIG1 k) c
    | none => true
  if (b.rd (R.LE_CAPSTAT_CAP k) = 1 ∨ b.rd (R.LE_CAPSTAT_CAP k) = 2) ∧ on = true then
    (b.wr (R.LE_CAPSTAT_CAP k) 3).onTun k (fun t => { t with moved := true, final := true })
  else b

/-- The pair that runs channel c still has its copy of the coefficient table (R373). -/
def Blk.ownerLives (b : Blk) (c : Nat) : Bool :=
  let k := b.pairOf c
  decide (k < 5) && (b.pairState k == 1 || b.pairState k == 3) && b.powered (if k < 3 then .lpa else .lpb)

/-- A channel whose coefficient table cannot be loaded is shed under R210 (R373): with a ready standby the cause inside the
module is a loss (R31). -/
def Blk.cannotLoad (b : Blk) (c : Nat) : Blk :=
  let b := b.raise 0xB304 c []
  if b.standbyReady then b.loss 0 else (b.setMap c 0xE).shed c

/-- The route key of coefficient i of channel c (R368). -/
def coefKey (c i : Nat) : Nat := (if i < 256 then 0x1000 else 0x2000) + c * 256 + i % 256

/-- The coefficient table of channel c as a load finds it (R372, R373): a word of the first FABRIC copy that fails is counted
and taken from the second; the answer tells whether both copies of a word fail. -/
def Blk.loadCoefs (b : Blk) (c : Nat) : Bool × Blk :=
  let word := fun i => tagWord (iAt (b.chan c).coefs i)
  (b.loadTags c).coef.foldl (fun r x =>
    if flipPasses x.2.1 (coefKey c x.1) (word x.1) then r
    else (r.1 || (x.2.2.map (fun f => !flipPasses f (coefKey c x.1) (word x.1))).getD false, r.2.wardFail 2 (coefKey c x.1)))
    (false, b)

/-- Channel c passes to pair k (R209, R210): its checkpoint loaded, an injection on it aborted. Where both FABRIC copies of
a coefficient fail, the running pair's copy restores them; with none the channel cannot be loaded (R373). -/
def Blk.moveChan (b : Blk) (c k : Nat) : Blk :=
  let old := b.pairOf c
  let b := (b.moveCapture old (some c)).abortInj c 5
  let r := b.loadCoefs c
  if r.1 = true ∧ b.ownerLives c = false then r.2.cannotLoad c else (r.2.setMap c k).restoreCk c

/-- Cycles for loading some channels (R208). -/
def Blk.loadCost (b : Blk) (chs : List Nat) : Nat :=
  (chs.map (fun c => 32 + ceilDiv (b.chan c).prog.words 8 + ceilDiv (stateWords (b.chan c).prog) 4)).sum

/-- SAMPLE_PHASEs that a pair misses while it loads channels (R209 step 4, log entry 31). -/
def Blk.loadFrames (b : Blk) (k : Nat) (chs : List Nat) (post : Bool) : Nat :=
  let o := b.rd R.TICK_OPHASE_PHASE
  let room := if post then b.period else b.period - o
  let late := b.loadCost chs - room
  let pre := (worstDemand (b.progsOf (b.chansOn k)) (b.provisioned k) false).1
  let done := max late (b.rd R.TICK_SPHASE_PHASE + 128) + pre + 64
  (if post then 1 else 0) + (if o < done then 1 else 0)

/-- A pair starts loading channels. -/
def Blk.startLoading (b : Blk) (k : Nat) (chs : List Nat) (post : Bool) : Blk :=
  if chs.isEmpty then b
  else
    let fr := b.loadFrames k chs post
    (b.setPair k 3).onLe (fun l => { l with loading := l.loading ++ [⟨k, chs, fr⟩] })

/-- Pairs that can take channels: not off and not retired. -/
def Blk.survivors (b : Blk) : List Nat :=
  (List.range 5).filter (fun k => b.pairState k != 0 && b.pairState k != 4 && b.powered (if k < 3 then .lpa else .lpb))

/-- A channel put into a list of falling priority. -/
def Blk.putByPrio (b : Blk) (c : Nat) : List Nat → List Nat
  | [] => [c]
  | x :: l =>
    if b.rd (R.LE_PRIO_PRIO x) < b.rd (R.LE_PRIO_PRIO c) ∨ (b.rd (R.LE_PRIO_PRIO x) = b.rd (R.LE_PRIO_PRIO c) ∧ c < x)
    then c :: x :: l else x :: b.putByPrio c l

/-- Channels by falling priority, drives before steppers and lower numbers first among equals (R210). -/
def Blk.byPriority (b : Blk) (chs : List Nat) : List Nat := chs.foldr (fun c l => b.putByPrio c l) []

/-- The pair on which a channel is placed, given what is placed already (R210 step 2). -/
def Blk.placeOne (b : Blk) (placed : List (Nat × Nat)) (alive : List Nat) (c : Nat) : Option Nat :=
  let fit := fun k => b.pairMargin (b.progsOf (((placed.filter (fun x => x.2 == k)).map (·.1)) ++ [c]))
    (b.provisioned k)
  let own := b.pairOf c
  if alive.contains own ∧ (fit own).isSome = true then some own
  else
    (alive.filterMap (fun k => (fit k).map (fun m => (k, m)))).foldl (fun r x =>
      match r with
      | none => some x
      | some y => if y.2 < x.2 then some x else some y) none |>.map (·.1)

/-- The placement of every channel not shed (R210). -/
def Blk.placement (b : Blk) : List (Nat × Nat) × List Nat :=
  let alive := b.survivors
  let chs := b.byPriority ((List.range 16).filter (fun c => b.configured c && b.pairOf c != 0xE))
  chs.foldl (fun r c => match b.placeOne r.1 alive c with
    | some k => (r.1 ++ [(c, k)], r.2)
    | none => (r.1, r.2 ++ [c])) ([], [])

/-- Apply an assignment of channels to pairs; the pairs that gain channels load them. -/
def Blk.applyAssign (b : Blk) (l : List (Nat × Nat)) (post : Bool) : Blk :=
  let moved := l.filter (fun x => b.pairOf x.1 != x.2)
  let b := moved.foldl (fun b x => b.moveChan x.1 x.2) b
  (List.range 5).foldl (fun b k =>
    b.startLoading k ((moved.filter (fun x => x.2 == k && b.pairOf x.1 == k)).map (·.1)) post) b

/-- The retired pairs. -/
def Blk.retired (b : Blk) : List Nat := (List.range 5).filter (fun k => b.pairState k == 4)

/-- A usable plan for exactly the retired pairs (R39, R210). -/
def Blk.planFor (b : Blk) : Option Plan :=
  if b.on R.LE_CTL_PLAN_EN then
    (b.le.plans.find? (fun x => x.2 && (List.range 5).all (fun k =>
      b.retired.contains k == x.1.lost.any (fun y => y.val == k)))).map (·.1)
  else none

/-- A loss of a pair with no spare (R210, R27, R31): a plan, or the placement with its sheds. -/
def Blk.lossNoSpare (b : Blk) (post : Bool) : Blk :=
  match b.planFor with
  | some p => (b.applyAssign (p.assign.map (fun x => (x.1.val, x.2.val))) post).raise 0x7202 0 []
  | none =>
    if b.standbyReady then b.loss 0
    else
      let r := b.placement
      let b := b.applyAssign r.1 post
      let b := b.eachOf r.2 (fun c b => (((b.moveCapture (b.pairOf c) (some c)).abortInj c 5).setMap c 0xE).shed c)
      (b.raise 0x7301 0 [Int.ofNat r.2.length]).degrade 0 (r.1.map (·.1)) false

/-- Configured channels whose pair is retired. -/
def Blk.orphans (b : Blk) : List Nat :=
  (List.range 16).filter (fun c => b.configured c && decide (b.pairOf c < 5) && b.pairState (b.pairOf c) == 4)

/-- Pair k is retired: its outputs not yet applied are discarded (R209 steps 1 and 2). -/
def Blk.retirePair (b : Blk) (k : Nat) (post : Bool) : Blk :=
  let chs := b.chansOn k
  let b := if post then b else b.eachOf chs (fun c b => b.onChan c (fun x => { x with outs := none }))
  let b := ((b.setPair k 4).inc (R.LE_ERR_DIS k)).moveCapture k none
  let b := b.eachOf chs (fun c b => b.abortInj c 5)
  let b := b.onLe (fun l => { l with loading := l.loading.filter (fun x => x.pair != k) })
  if k = 4 then b.flag R.WARD_SPARE_LP4 false else b

/-- LP4 takes the channels of a pair (R209 step 3). -/
def Blk.spareTakes (b : Blk) (chs : List Nat) (post : Bool) : Blk :=
  let b := (b.onLe (fun l => { l with preload := [] })).flag R.WARD_SPARE_LP4 false
  let b := b.eachOf chs (fun c b => b.moveChan c 4)
  b.startLoading 4 (chs.filter (fun c => b.pairOf c == 4)) post

/-- The highest priority among channels. -/
def Blk.topPrio (b : Blk) (chs : List Nat) : Nat := (chs.map (fun c => b.rd (R.LE_PRIO_PRIO c))).foldl max 0

/-- Pair k is lost (R209 to R211, R30): event 0x7201 (R209 step 2). Of two pairs lost in one frame whose highest LE_PRIO are
equal, LP4 keeps the one reported first: the manual does not say (DESIGN CHOICE, log entry 123). -/
def Blk.pairLost (b : Blk) (k : Nat) (post : Bool) : Blk :=
  let chs := b.chansOn k
  let free := b.spareFree && k != 4
  let earlier := b.le.lostNow
  let b := ((b.retirePair k post).raise 0x7201 k []).onLe (fun l => { l with lostNow := k :: l.lostNow })
  if free then b.spareTakes chs post
  else
    let on4 := b.chansOn 4
    let swap := !earlier.isEmpty && k != 4 && b.pairState 4 == 3 &&
      decide (b.topPrio on4 < b.topPrio chs)
    if swap then
      let b := b.onLe (fun l => { l with loading := l.loading.filter (fun x => x.pair != 4) })
      let b := b.eachOf on4 (fun c b => b.setMap c (earlier.headD 4))
      (b.spareTakes chs post).lossNoSpare post
    else if chs.isEmpty then b else b.lossNoSpare post

/-- SPARE_SELFCHECK_FAIL (R189, R212): the free spare is retired. -/
def Blk.doSpareFail (b : Blk) : Blk :=
  if b.spareFree ∧ b.on R.LE_CTL_SPARECHK then
    let b := ((b.setPair 4 4).inc (R.LE_ERR_DIS 4)).flag R.WARD_SPARE_LP4 false
    (b.onLe (fun l => { l with preload := [] })).raise 0x7204 4 []
  else b

/-- LANE_DISAGREEMENT (R189, R209 to R211). A disagreement in the free spare is its failed self-check. -/
def Blk.doDisagree (b : Blk) (k : Nat) (post : Bool) : Blk :=
  let st := b.pairState k
  if st = 0 ∨ st = 4 ∨ b.powered (if k < 3 then .lpa else .lpb) = false then b
  else if k = 4 ∧ b.spareFree then b.doSpareFail
  else b.pairLost k post

/-- LP4 loads channel c after its first overrun (R54): the last good checkpoint as this load finds it. -/
def Blk.preloadSpare (b : Blk) (c : Nat) : Blk :=
  let r := b.pickCk c
  r.2.onLe (fun l => { l with preload := l.preload.filter (fun x => x.c != c) ++ [⟨c, b.fn, r.1⟩] })

/-- CHANNEL_OVERRUN (R53, R54, R56). The record of 0x1102 is to name which of its two causes it reports (R57): for an
overrun its source is the channel and its value 0, for a phase error the source is 0 and the value the error in ns (DESIGN
CHOICE, log entry 126). -/
def Blk.doOverrun (b : Blk) (c : Nat) : Blk :=
  if b.configured c = false ∨ 4 < b.pairOf c then b
  else
    let fn := b.fn
    let first := !(b.chan c).overruns.contains (fn - 1) && !(b.chan c).overruns.contains fn
    let b := b.onChan c (fun x => { x with outs := none, overran := true, overruns := (fn :: x.overruns).take 4 })
    let b := ((b.flag R.TICK_STAT_OVR true).inc R.TICK_OVRCNT_COUNT).raise 0x1102 c [0]
    if first && b.spareFree then b.preloadSpare c else b

/-- The channel overran in the two frames before frame `fn` and not in the one before them (R55). -/
def Chan.secondNow (x : Chan) (fn : Nat) : Bool :=
  match x.overruns with
  | y :: z :: l => decide (y = z + 1) && decide (fn = y + 1) && l.head?.all (fun a => a + 1 != z)
  | _ => false

/-- CHANNEL_MOVED_TO_SPARE (R55): overruns in two frames in a row, at the tick that follows. LP4 goes on from what it loaded
at the first overrun. Of two channels due at one tick the one whose command comes first takes LP4 and the other stays: the
manual names no order (DESIGN CHOICE, log entry 123). A channel that could not move then is governed by R56 from then on. -/
def Blk.doMoveToSpare (b : Blk) (c : Nat) : Blk :=
  let two := (b.chan c).secondNow b.fn
  if two && b.configured c && !(b.spareFree && decide (b.pairOf c < 4)) then b.onChan c (fun x => { x with noMove := true })
  else if two && b.configured c && !(b.chan c).noMove then
    let pre := b.le.preload.find? (fun x => x.c == c && x.fn + 2 == b.fn)
    let b := (b.onLe (fun l => { l with preload := [] })).flag R.WARD_SPARE_LP4 false
    let b := match pre with
      | some x => (((b.moveCapture (b.pairOf c) (some c)).abortInj c 5).setMap c 4).resumeFrom c x.ck
      | none => b.moveChan c 4
    (b.setPair 4 1).raise 0x1201 c []
  else b

/-- CHANNEL_DEGRADED_OVERRUNS (R56): four overruns within a second, at the tick after the fourth. -/
def Blk.doDegradeOverruns (b : Blk) (c : Nat) : Blk :=
  let o := (b.chan c).overruns
  let four := decide (4 ≤ o.length) && decide (o.headD 0 < o.getD 3 0 + b.msFrames 1000) && decide (b.fn = o.headD 0 + 1)
  if four && b.configured c && !(b.chan c).degraded then
    if b.standbyReady then (b.raise 0x1301 c []).loss 0
    else ((b.onChan c (fun x => { x with degraded := true })).raise 0x1301 c []).degrade 0 [c] false
  else b

/-- Coefficient i of channel c belongs to its supervision model (R216, R220). -/
def Blk.modelCoef (b : Blk) (c i : Nat) : Bool :=
  (b.chan c).prog.elems.any (fun e => e.role == .model && e.coefs.contains i)

/-- COEF_WRITE (R203, R205, R220). -/
def Blk.doCoefWrite (b : Blk) (h : Hdr) (c idx val : Nat) : Blk :=
  b.forTarget h 0x06 c fun b =>
  let ch := b.chan c
  let new := ch.coefs.set idx (signed 16 val)
  let why := if ch.coefs.length ≤ idx then 0x0301
    else if ch.prog.elems.any (fun e => e.coefs.contains idx && !limitsOk e new) then 0x0302
    else if ch.prog.elems.any (fun e => e.coefs.contains idx && !boundOk e) then 0x0303 else 0
  if why ≠ 0 then
    (((b.inc R.LE_CWCNT_REF).raise 0x7105 c [Int.ofNat c, Int.ofNat idx, Int.ofNat why])).refuse h 0x06 why
  else
    let b := (b.onChan c (fun x => { x with coefs := new })).inc R.LE_CWCNT_APPL
    let b := if c < 8 ∧ b.modelCoef c idx then b.startSettle c else b
    (b.noteApplied [(0x5040, 0, c * 2 ^ 28 + idx * 2 ^ 16 + val)]).ok h 0x06

/-- The pairs' part of a SAMPLE_PHASE: a pair that has loaded runs (R209). -/
def Blk.loadTick (b : Blk) : Blk :=
  let done := b.le.loading.filter (fun l => l.fr == 0)
  let b := b.onLe (fun l => { l with loading := (l.loading.filter (fun x => x.fr != 0)).map (fun x => { x with fr := x.fr - 1 }) })
  done.foldl (fun b l => if b.pairState l.pair = 3 then b.setPair l.pair 1 else b) b

/-- A channel's part of a SAMPLE_PHASE: its inputs are delivered, and its pre-output window runs on them. Where an input
is absent the outputs are held for the frame (R26, R372). -/
def Blk.chanSample (b : Blk) (hits : List InputHit) (c : Nat) : Blk :=
  let r := if b.configured c then b.deliverWords c hits else (true, b)
  if r.1 = true ∧ r.2.computes c = true then r.2.runPre c else r.2.onChan c (fun x => { x with outs := none })

/-- SAMPLE_PHASE (R36, R37, R46, R65, R372): inputs latched and delivered, the pre-output windows run. -/
def Blk.doSamplePhase (b : Blk) (s : Samples) (hits : List InputHit) (ecc : List (Nat × Nat)) : Blk :=
  if b.powered .fabric = false then b
  else
    let b := (b.afeSample s).feedSample s
    let b := (b.each 8 (fun n b => if b.configured n then (b.angleSample n s.time.toNat).catchSample n else b)).whetSample
    let b := b.each 8 (fun n b => if b.configured (8 + n) then b.stpSample n else b)
    let b := ecc.foldl (fun b x => b.add (R.LE_ERR_ECCRET x.1) x.2) b
    b.loadTick.each 16 (fun c b => b.chanSample hits c)

/-- The checkpoint of a channel (R206). -/
def Blk.writeCk (b : Blk) (c : Nat) : Blk :=
  let ch := b.chan c
  if ch.overran then b
  else
    let d := b.drv c
    let k : Ckpt := if c < 8 then ⟨b.fn, ch.rt, ch.applied, d.ramp, d.iqRaw, d.idRef, none⟩
      else ⟨b.fn, ch.rt, ch.applied, 0, 0, 0, none⟩
    let b := b.onChan c (fun x => if b.fn % 2 = 0 then { x with slot0 := some k } else { x with slot1 := some k })
    b.wr (R.LE_CKFN_FN c) b.fn

end Sys2Proof.Machine
end

