-- ==== Sys2Proof/Machine/Drive.lean ====
section
/-! DEFINITION. The PWM side of the channels (chapter 3, R238 to R240): OUTPUT_PHASE, the transfers at reload points, the
gate pins they leave, trips and gate-driver ready inputs. -/

namespace Sys2Proof.Machine

/-- Words with some kept at their previous value. -/
def keepBad (old new : List Int) (bad : List Nat) : List Int :=
  (List.range new.length).map (fun w => if bad.contains w then iAt old w else iAt new w)

/-- Words that fail their tags at OUTPUT_PHASE (R65, R239, R372 class 1): each counted, the channel's own event. -/
def Blk.tagFails (b : Blk) (c : Nat) (bad : List Nat) : Blk :=
  if bad.isEmpty then b
  else
    let b := bad.foldl (fun b w => b.wardFail 1 (0x4000 + c * 256 + w)) b
    if c < 8 then (b.flag (R.Dn_STAT_TAGF c) true).raise 0x3205 c []
    else (b.flag (R.Sn_STAT_TAGF (c - 8)) true).raise 0x4203 c []

/-- Word k of the output words w of channel c as the PWM block finds it; none where it fails its tag (R65). -/
def outWord (c : Nat) (hits : List (Nat × Flip)) (w : List Int) (k : Nat) : Option Int :=
  match hits.find? (fun x => x.1 == k) with
  | some x =>
    if flipPasses x.2 (0x4000 + c * 256 + k) (tagWord (iAt w k)) then some (signed 16 (flipWord x.2 (tagWord (iAt w k)))) else none
  | none => some (iAt w k)

/-- The compare words of a drive enter the shadow registers, or the sequencer takes its four words (R65, R103). -/
def Blk.shadowDrive (b : Blk) (n : Nat) (w : List Int) (bad : List Nat) : Blk :=
  if w.length = 3 then
    b.onDrv n (fun d =>
      { d with fresh := true, soft := false,
               shadow := (List.range 3).map (fun k =>
                 if bad.contains k then d.shadow.getD k default else ⟨false, iAt w k⟩) })
  else
    let v := fun k (old new : Int) => if bad.contains k then old else new
    b.onDrv n (fun d =>
      { d with fresh := true, soft := true, sDp := v 0 d.sDp (iAt w 0),
               sAl := (v 1 (Int.ofNat d.sAl) (iAt w 1)).toNat, sTh := (v 2 (Int.ofNat d.sTh) (iAt w 2)).toNat,
               sSpd := v 3 d.sSpd (iAt w 3), sT := if bad.contains 2 then d.sT else d.tS })

/-- The words of a channel at OUTPUT_PHASE; none where its results are discarded (R26, R65, R239). -/
def Blk.outputWordsIn (b : Blk) (c : Nat) (hits : List (Nat × Flip)) : Blk :=
  let b := if c < 8 then b.onDrv c (fun d => { d with prev := d.shadow, prevFr := (d.fresh, d.soft), pDp := d.sDp })
    else b.onStp (c - 8) (fun s => { s with pvA := s.shA, pvB := s.shB })
  match (b.chan c).outs with
  | none => b
  | some w =>
    let bad := (List.range w.length).filter (fun k => (outWord c hits w k).isNone)
    let w := (List.range w.length).map (fun k => (outWord c hits w k).getD (iAt w k))
    let b := b.tagFails c bad
    let d := b.drv c
    let b := b.onChan c (fun x => { x with applied := keepBad x.applied w bad, outs := none
                                           appliedOf := x.rt.map (fun y => iAt y.out 0)
                                           appliedRef := [d.u, d.vq, d.vd, d.iqRef] })
    if c < 8 then b.shadowDrive c w bad
    else b.onStp (c - 8) (fun s => { s with shA := if bad.contains 0 then s.shA else iAt w 0,
                                            shB := if bad.contains 1 then s.shB else iAt w 1 })

/-- Requests of a drive take effect at OUTPUT_PHASE (R74, R28, R289, R290): OV2 first, then a stop, shed or block. A stop or
shed of a channel in ASC, for which R74 has no row, blocks the pulses as a pulse-block request does (DESIGN CHOICE, log
entry 134). -/
def Blk.driveRequests (b : Blk) (n : Nat) : Blk :=
  let ran := b.pstate n == 1
  let b := b.ascCount n
  let ov2 := (b.dc n).ov2
  let b := b.ov2Request n
  let d := b.drv n
  let b := b.onDrv n (fun d => { d with reqBlock := false, reqShed := false })
  let b := if d.reqBlock && !ov2 then
      (if (b.seq n).reopen then b.blockKeeping n
       else if b.pstate n = 1 ∨ b.pstate n = 2 then b.blockTo n 0 else b)
    else b
  if d.reqShed then
    let b := if ran then b else b.abruptStop n
    (b.raise 0x3309 n []).onHch n (fun h => { h with shed := true })
  else b

/-- Requests of a stepper take effect at OUTPUT_PHASE (R244, R28). -/
def Blk.stepRequests (b : Blk) (n : Nat) : Blk :=
  let s := b.stp n
  let b := b.onStp n (fun s => { s with en := s.en || s.enReq && (b.stpState n == 1 || b.stpState n == 2)
                                        enReq := false, offReq := false, shedReq := false })
  let b := if s.offReq ∧ (b.stpState n = 1 ∨ b.stpState n = 2) then
      if (b.axis (8 + n)).v ≠ 0 ∨ (b.axis (8 + n)).cur.isSome = true then b.bridgesOff n 0
      else ((b.abortInj (8 + n) 2).wr (R.Sn_STAT_SSTATE n) 0).onStp n (fun s => { s with en := false, deEn := false, dutyA := 0, dutyB := 0 })
    else b
  if s.shedReq then
    let b := if b.stpState n = 1 ∨ b.stpState n = 2 then b.stpFault n else b.abruptStop (8 + n)
    b.onHch (8 + n) (fun h => { h with shed := true })
  else b

/-- OUTPUT_PHASE (R65, R74, R239). -/
def Blk.doOutputPhase (b : Blk) (fails : List (Nat × Nat × Flip)) : Blk :=
  if b.powered .fabric = false ∨ b.powered .pwm = false then b
  else
    let b := b.each 16 (fun c b =>
      if b.configured c then b.outputWordsIn c ((fails.filter (fun x => x.1 == c)).map (·.2)) else b)
    let b := b.each 8 (fun n b => if b.configured n then b.driveRequests n else b)
    let b := b.each 8 (fun n b => if b.configured (8 + n) then b.stepRequests n else b)
    b.settle.offNote (b.rd R.TICK_OPHASE_PHASE)

/-- θ_q of a soft-step drive at stamp t (R86, R99, R101, R103, R129). -/
def Blk.thQAt (b : Blk) (n t : Nat) : Nat :=
  let d := b.drv n
  let th := if b.stage n = 5 then (b.seq n).thCmd / 65536
    else if b.byCrossings n then b.sensorlessAngle n t
    else unsigned 16 (Int.ofNat d.sTh + b.angleGain n d.sSpd (diff32 t d.sT))
  (th + 16384) % 65536

/-- The sequencer begins: the sector that contains θ_q at this reload point (R107). One that runs already, in a shadow that
has taken over, goes on (R397). -/
def Blk.enterSector (b : Blk) (n t : Nat) : Blk :=
  if b.rd (R.Dn_CSTAT_SECTOR n) ≠ 0 then b.onSeq n (fun q => { q with enter := false })
  else
  let b := b.wr (R.Dn_CSTAT_SECTOR n) (sectorOf (b.thQAt n t))
  let past := b.intoSector n t * 6 * Int.ofNat (b.sectorTime n) / 65536
  b.onSeq n (fun q => { q with enter := false, trans := none, tComm := add32 t (-past), seen := false })

/-- The leg that a sector gives: +d_p high, −d_p low, float (R92, R93). -/
def sectorLeg (w : Nat × Nat × Nat) (dp : Int) (k : Nat) : Leg :=
  if k = w.1 then ⟨false, dp⟩ else if k = w.2.1 then ⟨false, -dp⟩ else ⟨true, 0⟩

/-- The three legs during a softened transition at angle `e` of its `span` (R94, R95): the outgoing leg at ±d_p (1 − r), the
incoming leg at ±d_p r, from 0 at its first reload point; the third leg keeps its role. -/
def transLeg (x : Trans) (e span : Int) (dp : Int) (old : List Leg) (k : Nat) : Leg :=
  let s : Int := if x.high then 1 else -1
  let r := fun (a : Int) => halfUp (dp * a) (max 1 span)
  if k = x.out then ⟨false, s * r (span - e)⟩
  else if k = x.inn then ⟨false, if (old.getD k default).float then 0 else s * r e⟩
  else ⟨false, -s * dp⟩

/-- A leg that R69 holds back at a peak. -/
def heldAtPeak (threeLevel peak : Bool) (old new : Leg) : Bool :=
  threeLevel && peak && !old.float && !new.float && decide (decide (old.d < 0) ≠ decide (new.d < 0))

/-- The legs of a soft-step drive at a reload point with the d_p that R68 gives it (R69, R92 to R95); a sequencer that begins
there begins without a transition (R107). `full` is a reload point of Dn_CFG.DUAL; another peak rewrites only the ramping
legs: at it the incoming leg leaves float, but the outgoing leg enters float at the next valley (DESIGN CHOICE, log
entry 135). -/
def Blk.softTransfer (b : Blk) (n t : Nat) (peak full entering : Bool) (dp : Int) : Blk :=
  let keep := fun (old new : Leg) => if heldAtPeak (b.on (R.Dn_CFG_TOPO n)) peak old new then old else new
  let tr := if entering then none else b.transAt n t
  let b := b.onSeq n (fun q => { q with trans := tr })
  match tr with
  | some x =>
    let e := b.spanPos n t x
    let span := 2 * b.halfSpan n
    b.onDrv n (fun y => { y with active := (List.range 3).map (fun k =>
      if full ∨ k = x.out ∨ k = x.inn then keep (y.active.getD k default) (transLeg x e span dp y.active k)
      else y.active.getD k default) })
  | none =>
    if full then
      let w := legsOf (b.rd (R.Dn_CSTAT_SECTOR n)) (b.seq n).dir
      b.onDrv n (fun y => { y with active := (List.range 3).map (fun k =>
        keep (y.active.getD k default) (sectorLeg w dp k)) })
    else b

/-- The compare words of a field-oriented drive transfer (R68, R69, R107). -/
def Blk.wordTransfer (b : Blk) (n : Nat) (peak : Bool) (sh : List Leg) (cur : Bool) : Blk :=
  let d := b.drv n
  let held := fun k => heldAtPeak (b.on (R.Dn_CFG_TOPO n)) peak (d.active.getD k default) (sh.getD k default)
  let any := held 0 || held 1 || held 2
  let b := (b.wr (R.Dn_CSTAT_SECTOR n) 0).onSeq n (fun q => { q with trans := none })
  b.onDrv n (fun y =>
    { y with active := (List.range 3).map (fun k => if held k then y.active.getD k default else sh.getD k default),
             fresh := if cur then any else y.fresh })

/-- The length of the carrier cycle that runs, in its units (R61, R64). -/
def Blk.runningCycle (b : Blk) (n : Nat) : Nat := if (b.drv n).shortCyc = 0 then b.carrier n else (b.drv n).shortCyc

/-- N_on, U and L of R72 for a leg in a carrier cycle of `pf` units, and what it comes to: 0 modulated, 1 the leading device
off, 2 on for the whole carrier cycle. -/
def Blk.pulseOf (b : Blk) (n k pf : Nat) (l : Leg) : Int × Nat :=
  let on := Int.ofNat (b.nOn n pf l.d)
  let dt := Int.ofNat (b.rd (R.Dn_DEADT_DT n k))
  let mp := Int.ofNat (b.rd (R.Dn_MINPW_MINPW n))
  if on - dt < mp then (0, 1) else if Int.ofNat pf - on - dt < mp then (Int.ofNat pf, 2) else (on - dt, 0)

/-- The edges of a modulating pair in units from the peak (R70): the leading device on and off, its complement off and on. -/
structure Edges where
  leadOn  : Int
  leadOff : Int
  compOff : Int
  compOn  : Int
  deriving DecidableEq, Repr, Inhabited

/-- The edges that R70 gives a leg with on-time N_on and dead time DT. -/
def edgesOf (on dt : Nat) : Edges :=
  let h := on / 2
  ⟨Int.ofNat dt - Int.ofNat h, Int.ofNat (on - h), -Int.ofNat h, Int.ofNat (on - h + dt)⟩

/-- The devices of leg k that a duty d concerns, as bits of Dn_PINS.ACTV: the leading device, its complement, and the one
that R67 holds on (R58, R67, R70). -/
def Blk.legDevs (b : Blk) (n k : Nat) (d : Int) : Nat × Nat × Nat :=
  if b.on (R.Dn_CFG_TOPO n) then
    if d < 0 then (8 * 16 ^ k, 2 * 16 ^ k, 4 * 16 ^ k) else (16 ^ k, 4 * 16 ^ k, 2 * 16 ^ k)
  else (4 ^ k, 2 * 4 ^ k, 0)

/-- Leg k with the words `l` at `pos` units of a carrier cycle of `pf` units (R66, R67, R70, R72): the devices that are on,
and those whose turn-on the dead time holds back there, as the other device of the pair went off less than DT before. -/
def Blk.legAt (b : Blk) (n k pf pos : Nat) (l : Leg) : Nat × Nat :=
  if l.float then (0, 0)
  else
    let s := (b.pulseOf n k pf l).2
    let x := edgesOf (b.nOn n pf l.d) (b.rd (R.Dn_DEADT_DT n k))
    let v := b.legDevs n k l.d
    let r := Int.ofNat pos - Int.ofNat (pf / 2)
    if s = 1 then (v.2.2 + v.2.1, 0)
    else if s = 2 then (v.2.2 + v.1, 0)
    else if r < x.compOff then (v.2.2 + v.2.1, 0)
    else if r < x.leadOn ∧ r < x.leadOff then (v.2.2, v.1)
    else if r < x.leadOff then (v.2.2 + v.1, 0)
    else if r < x.compOn then (v.2.2, v.2.1) else (v.2.2 + v.2.1, 0)

/-- The devices that leg k's words call for from a reload point on (R67, R70, R72): at a valley the complement, at a peak
the leading device once R70 has turned it on. Where R72 holds a three-level leg's outer device on for the whole cycle the
leg stays in P or N at the valley, against the last sentence of R67 (DESIGN CHOICE, log entry 131). -/
def Blk.legFrom (b : Blk) (n k pf : Nat) (peak : Bool) (l : Leg) : Nat :=
  if l.float then 0
  else
    let v := b.legDevs n k l.d
    match (b.pulseOf n k pf l).2 with
    | 0 => if peak then (b.legAt n k pf (pf / 2) l).1 else v.2.2 + v.2.1
    | 1 => v.2.2 + v.2.1
    | _ => v.2.2 + v.1

/-- The gates at a reload point or forced valley (R58, R59, R64, R67 to R72): what the words in force from here call for;
a device that was not on waits while the other device of its pair was on up to here, or went off less than the dead time
before, so that a three-level leg passes from P to N only through all-off or O. Before it the words `old` stood at `pos`
units of a cycle of `pf`. -/
def Blk.switchLegs (b : Blk) (n pf pos : Nat) (old : List Leg) (peak : Bool) : Blk :=
  let was := (List.range 3).map (fun k => b.legAt n k pf pos (old.getD k ⟨true, 0⟩))
  let on := (was.map (·.1)).sum
  let wait := Nat.lor (partners (b.on (R.Dn_CFG_TOPO n)) on) (was.map (·.2)).sum
  let len := b.runningCycle n
  let new := ((List.range 3).map (fun k => b.legFrom n k len peak ((b.drv n).active.getD k ⟨true, 0⟩))).sum
  b.gatesTo n new (wait - Nat.land wait on)

/-- The registers that show the active words at a reload point: Dn_ONT, Dn_STAT.MINP. -/
def Blk.showLegs (b : Blk) (n : Nat) : Blk :=
  let act := (b.drv n).active
  b.each 3 (fun k b =>
    let l := act.getD k default
    let p := b.pulseOf n k (b.runningCycle n) l
    let b := (b.flag (R.Dn_ONT_FLOAT n k) l.float).flag (R.Dn_ONT_NEG n k)
      (b.on (R.Dn_CFG_TOPO n) && !l.float && decide (l.d < 0))
    let b := b.wrSat (R.Dn_ONT_ONT n k) (if l.float then 0 else p.1.toNat)
    if !l.float && p.2 != 0 then b.flag (R.Dn_STAT_MINP n) true else b)

/-- The active words at a reload point of a drive that runs (R68, R69, R92 to R95, R107). -/
def Blk.driveWords (b : Blk) (n : Nat) (peak : Bool) (since t : Nat) : Blk :=
  let full := !peak || b.on (R.Dn_CFG_DUAL n)
  let d := b.drv n
  let cur := decide (64 ≤ since)
  let sh := if cur then d.shadow else d.prev
  let fr := if cur then (d.fresh, d.soft) else d.prevFr
  let done := fun (b : Blk) => if cur then b.onDrv n (fun d => { d with fresh := false })
    else b.onDrv n (fun d => { d with prevFr := (false, d.prevFr.2) })
  if full && fr.1 && !fr.2 then
      let b := b.wordTransfer n peak sh cur
      if cur then b else b.onDrv n (fun d => { d with prevFr := (false, d.prevFr.2) })
    else
      let entering := full && fr.1 && fr.2 && (b.seq n).enter
      let b := if entering then b.enterSector n t else b
      let b := if full && fr.1 then done b else b
      if b.rd (R.Dn_CSTAT_SECTOR n) ≠ 0 ∧ (b.seq n).enter = false then
        b.softTransfer n t peak full entering (if cur then d.sDp else d.pDp)
      else b

/-- SHADOW_TRANSFER of a drive in RUN (R68, R69, R72, R92 to R95, R107), at the end or the middle of a carrier cycle of `pf`
units. -/
def Blk.driveTransfer (b : Blk) (n pf : Nat) (peak : Bool) (since t : Nat) : Blk :=
  let old := (b.drv n).active
  ((b.driveWords n peak since t).showLegs n).switchLegs n pf (if peak then pf / 2 else pf) old peak

/-- A transfer that falls in the cycle of an accepted trip (R80): the words that it transfers are held in the active
registers and are never applied. A soft-step drive transfers by the sector and transition it stood in at the trip. -/
def Blk.heldTransfer (b : Blk) (n : Nat) (peak : Bool) (since t : Nat) : Blk :=
  let x := (b.drv n).cut
  let r := ((b.wr (R.Dn_CSTAT_SECTOR n) x.1).onSeq n (fun q => { q with trans := x.2, enter := false })).driveWords n peak since t
  b.onDrv n (fun _ => r.drv n)

/-- SYSCLK cycles from the last OUTPUT_PHASE to a cycle of the frame (R68). -/
def Blk.sinceOut (b : Blk) (cyc : Nat) : Nat :=
  let o := b.rd R.TICK_OPHASE_PHASE
  if o ≤ cyc then cyc - o else cyc + b.period - o

/-- A valley of stepper n in the cycle `cyc` after the tick (R238): P_s = 32 × PERIOD / SRATIO units from each tick on. -/
def Blk.stpValley (b : Blk) (n cyc : Nat) : Bool :=
  let ps := max 1 (b.stpCarrier n)
  decide ((ps - 32 * cyc % ps) % ps < 32)

/-- SHADOW_TRANSFER (R62, R64, R68, R95, R238, R239): the reload point of channel c, a peak or a valley, in the cycle `cyc`
after the last tick, at stamp t. Where the carrier has no reload point of that kind nothing transfers (log entry 1). -/
def Blk.doShadowTransfer (b : Blk) (c : Nat) (peak : Bool) (cyc t : Nat) : Blk :=
  let since := b.sinceOut cyc
  if b.configured c = false ∨ b.powered .pwm = false then b
  else if c < 8 then
    if b.reloadAt c cyc = some peak then
      let pf := b.runningCycle c
      let b := if peak = true ∨ (b.carrierAt c cyc).2.2 = true then b else b.onDrv c (fun d => { d with shortCyc := 0 })
      if b.pstate c = 1 ∧ b.gateEn c then b.driveTransfer c pf peak since t
      else if b.pstate c = 3 ∨ b.pstate c = 4 then b.heldTransfer c peak since t
      else if (b.shadowOf c).isSome ∧ b.runState c = 1 then b.driveWords c peak since t else b
    else b
  else
    let n := c - 8
    if peak = false ∧ b.stpValley n cyc = true ∧ (b.stpState n = 1 ∨ b.stpState n = 2) then
      b.onStp n (fun s => if 64 ≤ since then { s with dutyA := s.shA, dutyB := s.shB }
        else { s with dutyA := s.pvA, dutyB := s.pvB })
    else b

/-- FAST_TRIP (R76) and FILTERED_TRIP_ACCEPT (R77): the input selected by Dn_TRIP.FEN. -/
def Blk.doTrip (b : Blk) (n : Nat) (filtered : Bool) : Blk :=
  if b.on (R.Dn_CFG_EN n) ∧ b.on (R.Dn_TRIP_FEN n) = filtered then
    (b.flag (R.Dn_STAT_TRIPIN n) true).acceptTrip n 0
  else b

/-- TRIP_PULSE_REJECTED (R77). -/
def Blk.doTripRejected (b : Blk) (n : Nat) : Blk :=
  if b.on (R.Dn_CFG_EN n) ∧ b.on (R.Dn_TRIP_FEN n) then
    (b.inc (R.Dn_TRIPCNT_REJ n)).raiseLim 1 0x3104 n []
  else b

/-- GRDY_QUALIFIED_CHANGE (R81) of a leg, `cyc` SYSCLK cycles after the tick. -/
def Blk.doGrdy (b : Blk) (n leg : Nat) (level : Bool) (cyc : Nat) : Blk :=
  let b := (b.flag (bitOf (R.Dn_STAT_GRDY n) leg) level).onDrv n (fun d =>
    { d with grdyAge := d.grdyAge.set leg (-(Int.ofNat cyc)) })
  if level then b else b.grdyLoss n leg

/-- The qualified levels grow older by a frame (R81). -/
def Blk.grdyTick (b : Blk) (n : Nat) : Blk :=
  b.onDrv n (fun d => { d with grdyAge := (List.range 3).map (fun k =>
    if b.on (bitOf (R.Dn_STAT_GRDY n) k) then min (d.grdyAge.getD k 0 + Int.ofNat b.tick.ended) (2 ^ 30) else 0) })

end Sys2Proof.Machine
end

