-- ==== Sys2Proof/Machine/Tune.lean ====
section
/-! DEFINITION. Supervision of the feedback, test-signal injection and capture (chapter 9). -/

namespace Sys2Proof.Machine

/-- The residuals of the supervision model of drive n after its run (R216, R217): res1, res2; none without a model. -/
def Blk.residuals (b : Blk) (n : Nat) : Option (Int × Int) :=
  match (b.chan n).part .model with
  | some i => some (iAt ((b.chan n).rt.getD i default).out 2, iAt ((b.chan n).rt.getD i default).out 3)
  | none => none

/-- The faults that the port of drive n has counted (R217). -/
def Blk.portFaults (b : Blk) (n : Nat) : Nat × Nat × Nat :=
  let x := b.port (b.rd (R.Dn_CMODE_FBSEL n))
  (x.cntIll, x.cntDrift, x.cntSsi)

/-- Whether the port counted a fault since the supervision last took its counts, and what those faults add to the suspicion
counter (R217). -/
def Blk.portWeight (b : Blk) (n : Nat) : Bool × Nat :=
  let x := b.portFaults n
  let y := (b.drv n).seen
  let d := (x.1 - y.1, x.2.1 - y.2.1, x.2.2 - y.2.2)
  (decide (0 < d.1 + d.2.1 + d.2.2),
    d.1 * b.rd (R.Dn_SUPCFG_ILLW n) + d.2.1 * b.rd (R.Dn_SUPCFG_DRIFTW n) + d.2.2 * b.rd (R.Dn_SUPCFG_SSIW n))

/-- The counts of the port are taken (R217). -/
def Blk.portTaken (b : Blk) (n : Nat) : Blk :=
  let x := b.portFaults n
  b.onDrv n (fun d => { d with seen := x })

/-- MEAS of a drive follows Whetstone's flags (R219). -/
def Blk.measFlag (b : Blk) (n : Nat) : Blk :=
  let m := b.whetFlag n
  let was := b.on (R.Dn_SUPSTAT_MEAS n)
  let b := b.flag (R.Dn_SUPSTAT_MEAS n) m
  if m && !was then b.raise 0x7114 n [] else b

/-- The largest residuals since the last start (Dn_SUPPK). -/
def Blk.notePeaks (b : Blk) (n : Nat) (r : Int × Int) : Blk :=
  let b := (b.wrS (R.Dn_SUPRES_RI n) r.1).wrS (R.Dn_SUPRES_RW n) r.2
  let b := if b.rd (R.Dn_SUPPK_PKI n) < magI r.1 then b.wrSat (R.Dn_SUPPK_PKI n) (magI r.1) else b
  if b.rd (R.Dn_SUPPK_PKW n) < magI r.2 then b.wrSat (R.Dn_SUPPK_PKW n) (magI r.2) else b

/-- The frame exceeds a threshold (R217, R219). -/
def Blk.exceeds (b : Blk) (n : Nat) (r : Int × Int) : Bool :=
  (!b.on (R.Dn_SUPSTAT_MEAS n) && decide (b.rd (R.Dn_SUPTH_THI n) < magI r.1)) || decide (b.rd (R.Dn_SUPTH_THW n) < magI r.2)

/-- The suspicion counter of a frame (R217, R220): `fault` says that the port counted a fault, of whatever weight. -/
def suspicion (cnt persist weight : Nat) (fault exc paused : Bool) : Nat :=
  let rise := exc && !paused
  if fault || rise then min (cnt + weight + b2n rise) persist
  else if paused then cnt else cnt - 1

/-- The frame did not exceed and CNT is 0: its angle and speed are the last plausible ones (R222). -/
def Blk.plausible (b : Blk) (n : Nat) (exc : Bool) : Blk :=
  if !b.sensorless n && !exc && b.rd (R.Dn_SUPSTAT_CNT n) == 0 then
    b.onSeq n (fun q => { q with good := ((b.drv n).theta, (b.drv n).tS, (b.drv n).speed) })
  else b

/-- The supervision of drive n at the end of the post-output window (R216 to R222). -/
def Blk.supervise (b : Blk) (n : Nat) : Blk :=
  let b := b.measFlag n
  let paused := decide (0 < (b.drv n).settle)
  let w := b.portWeight n
  let b := (b.portTaken n).onDrv n (fun d => { d with settle := d.settle - 1 })
  if b.on (R.Dn_SUPCFG_EN n) = false then b.plausible n false
  else
    let res := (b.residuals n).getD (0, 0)
    let b := b.notePeaks n res
    let exc := b.exceeds n res
    let b := b.onDrv n (fun d => { d with lastExc := exc && !paused })
    let b := if exc then
        (((b.flag (R.Dn_SUPSTAT_EXC n) true).inc (R.Dn_SUPCNT_EXCFR n)).raiseLim 1024 0x7110 n [res.1, res.2])
      else b
    if b.sensorless n then b
    else
      let b := b.wr (R.Dn_SUPSTAT_CNT n)
        (suspicion (b.rd (R.Dn_SUPSTAT_CNT n)) (b.rd (R.Dn_SUPCFG_PERSIST n)) w.2 w.1 exc paused)
      b.plausible n exc

/-- FEEDBACK_VERDICT (R218): CNT at PERSIST, or the port invalid; the start cross-check forms its own (R118). -/
def Blk.doVerdict (b : Blk) (n : Nat) : Blk :=
  if b.configured n = false ∨ b.on (R.Dn_CMODE_SENS n) = false ∨ b.on (R.Dn_SUPSTAT_VERD n) then b
  else
    let p := b.rd (R.Dn_CMODE_FBSEL n)
    let full := b.on (R.Dn_SUPCFG_EN n) && decide (0 < b.rd (R.Dn_SUPCFG_PERSIST n)) &&
      decide (b.rd (R.Dn_SUPCFG_PERSIST n) ≤ b.rd (R.Dn_SUPSTAT_CNT n))
    if full || b.on (R.FBn_STAT_INVAL p) then
      let cause := if full then (if (b.drv n).lastExc then 1 else 2) else 3
      (b.latchVerdict n cause).onDrv n (fun d => { d with verdNew := true })
    else b

/-- The drive falls back to sensorless soft-step (R111, R121, R223): the angle goes on from the last plausible one. -/
def Blk.fallBack (b : Blk) (n : Nat) : Blk :=
  let q := b.seq n
  let spd := q.good.2.2
  let d := b.drv n
  let vm := vmOf (b.afe.drv.getD n default).vdc
  let b := ((b.flag (R.Dn_SUPSTAT_FALL n) true).wr (R.Dn_CSTAT_CUR n) 1).flag (R.Dn_CSTAT_SYNC n) false
  let b := (b.wr (R.Dn_CSTAT_SECTOR n) 0).startBlend n 0 2 d.u (sgn d.speed * halfUp (d.u * vm) 32768)
  let b := b.onSeq n (fun q =>
    { q with acq := some (0, 0), anc := q.good, dir := if spd < 0 then -1 else 1, enter := true, trans := none,
             missed := 0, tzc := [], seen := false, seenPrev := false, seenOld := false })
  let b := b.onDrv n (fun d => { d with ramp := atLeast (b.catchFloor n * 512) d.ramp spd })
  (b.startSettle n).degrade 3 [n] false

/-- A channel whose pulses a verdict blocks during the guard of a takeover does not resume (R225, R397). -/
def Blk.dropMirror (b : Blk) (n : Nat) : Blk :=
  if b.mir.guard.isSome then
    { b with mir := { b.mir with got := b.mir.got.map (fun f =>
        { f with chans := f.chans.map (fun x => if x.c = n then { x with pstate := 0, sstate := 0 } else x) }) } }
  else b

/-- A verdict takes effect at the tick (R222, R223, R225). A standby leaves it to the active module, and applies one that
it has mirrored at its first tick as owner. -/
def Blk.verdictTick (b : Blk) (n : Nat) : Blk :=
  if (b.drv n).verdNew = false ∨ (b.standby && b.pairedCh n) = true then b
  else
    let b := (b.onDrv n (fun d => { d with verdNew := false })).abortInj n 4
    let fb := b.on (R.Dn_CMODE_FALLBK n)
    let cause := Int.ofNat (b.rd (R.Dn_SUPSTAT_CAUSE n))
    let ev := fun (b : Blk) => b.raise (if fb then 0x7311 else 0x7312) n [cause]
    let ps := b.runState n
    if (b.drv n).reqBlock then ev b
    else if ps = 1 then
      if fb = false then ev (((b.stopReq n).onDrv n (fun d => { d with byStop := false, why := 5 })).dropMirror n)
      else if b.sensorless n then ev ((b.flag (R.Dn_SUPSTAT_FALL n) true).degrade 3 [n] false)
      else if b.stage n ≠ 3 ∧ magI (b.seq n).good.2.2 < b.rd (R.Dn_START_CATCH_MIN n) then
        (b.syncLost n 4 [cause]).dropMirror n
      else ev (b.fallBack n)
    else if ps = 2 ∧ fb = false then ev ((b.reqBlock n).dropMirror n)
    else ev b

/-- SUPERVISION_SETTLE_END (R220). -/
def Blk.doSettleEnd (b : Blk) (n : Nat) : Blk :=
  if (b.drv n).settle = 0 then b.flag (R.Dn_SUPSTAT_SUSP n) false else b

/-- SUP_CLEAR (R224). -/
def Blk.doSupClear (b : Blk) (h : Hdr) (n : Nat) : Blk :=
  b.forTarget h 0x24 n fun b =>
  if b.on (R.Dn_SUPSTAT_VERD n) = false then b.ok h 0x24
  else if b.pstate n ≠ 0 ∨ b.on (R.FBn_STAT_INVAL (b.rd (R.Dn_CMODE_FBSEL n))) then b.refuse h 0x24 0x0001
  else
    let b := ((b.flag (R.Dn_SUPSTAT_VERD n) false).flag (R.Dn_SUPSTAT_FALL n) false).wr (R.Dn_SUPSTAT_CAUSE n) 0
    let b := b.onDrv n (fun d => { d with verdNew := false })
    ((b.undegrade 3 n).raise 0x7010 n []).ok h 0x24

/-- The marked SUM of a channel at injection point p (R226). -/
def Blk.pointOf (b : Blk) (c p : Nat) : Option Elem := (b.chan c).prog.elems.find? (fun e => e.point == some p)

/-- Channel c runs: RUN of a drive, HOLD or MOVE of a stepper. -/
def Blk.running (b : Blk) (c : Nat) : Bool :=
  if c < 8 then b.pstate c == 1 else b.stpState (c - 8) == 1 || b.stpState (c - 8) == 2

/-- A sweep frequency of 0.1 Hz that R228 admits at a rate divisor. -/
def Blk.sweepOk (b : Blk) (f rate : Nat) : Bool := decide (0 < f) && decide (2 * f * rate * b.period ≤ 4000000000)

/-- The first case of R228 that refuses an INJ_START: status and DETAIL. -/
def Blk.injRefusal (b : Blk) (k : Nat) : Option (Nat × Nat) :=
  let c := b.rd (R.LE_INJCFG_CH k)
  let dur := b.rd (R.LE_INJDUR_DUR k)
  let reps := b.rd (R.LE_INJCFG_REPS k)
  match b.pointOf c (b.rd (R.LE_INJCFG_PT k)) with
  | none => some (2, 0x0201)
  | some e =>
    if b.provisioned k = false ∨ b.pairOf c ≠ k then some (2, 0x0201)
    else if b.running c = false ∨ b.isDegraded c ∨ (b.chan c).degraded then some (2, 0x0202)
    else if c < 8 ∧ b.on (R.Dn_CSTAT_HOBL c) then some (2, 0x0203)
    else if b.rd (R.LE_CAPSTAT_INJ k) = 1 then some (3, 0)
    else match b.rd (R.LE_INJCFG_TYPE k) with
      | 0 =>
        if b.sweepOk (b.rd (R.LE_INJF_F0 k)) e.rate && b.sweepOk (b.rd (R.LE_INJF_F1 k)) e.rate && decide (0 < dur)
        then none else some (2, 0x0205)
      | 1 =>
        let ord := b.rd (R.LE_INJCFG_ORD k)
        if ord < 7 ∨ b.rd (R.LE_INJCFG_HOLD k) = 0 ∨ reps = 0 then some (2, 0x0206) else none
      | 2 => if dur = 0 ∨ reps = 0 then some (2, 0x0207) else none
      | _ => some (2, 0x0204)

/-- INJ_START (R227, R228, R415): it completes when its first run begins. -/
def Blk.doInjStart (b : Blk) (h : Hdr) (k : Nat) : Blk :=
  match b.injRefusal k with
  | some r => b.complete h 0x20 r.1 r.2
  | none =>
    let ord := b.rd (R.LE_INJCFG_ORD k)
    (b.wr (R.LE_CAPSTAT_INJ k) 1).onTun k (fun t =>
      { t with j := 0, phi := 0, lfsr := 2 ^ ord - 1, v := 0, hdr := some h })

/-- INJ_STOP (R229). -/
def Blk.doInjStop (b : Blk) (h : Hdr) (k : Nat) : Blk :=
  (b.abortInjOn k (b.rd (R.LE_INJCFG_CH k)) 1).ok h 0x21

/-- Runs after which an injection ends (R227). -/
def Blk.injRuns (b : Blk) (k : Nat) : Nat :=
  let dur := b.rd (R.LE_INJDUR_DUR k)
  let reps := b.rd (R.LE_INJCFG_REPS k)
  match b.rd (R.LE_INJCFG_TYPE k) with
  | 0 => dur
  | 1 => (2 ^ b.rd (R.LE_INJCFG_ORD k) - 1) * b.rd (R.LE_INJCFG_HOLD k) * reps
  | _ => (dur + b.rd (R.LE_INJAMP_OFF k)) * reps

/-- INJECTION_COMPLETE (R229). -/
def Blk.doInjComplete (b : Blk) (k : Nat) : Blk :=
  if b.rd (R.LE_CAPSTAT_INJ k) = 1 ∧ b.injRuns k ≤ (b.tun k).j then
    (((b.wr (R.LE_CAPSTAT_INJ k) 2).onTun k (fun t => { t with v := 0 })).raise 0x7015 k []).capWithInj k
  else b

/-- CAP_START (R231): IMM starts at this tick, the other triggers arm (log entry 34). -/
def Blk.doCapStart (b : Blk) (h : Hdr) (k : Nat) : Blk :=
  if b.provisioned k = false then b.complete h 0x22 0x06
  else if b.rd (R.LE_CAPSTAT_CAP k) ≠ 0 then b.complete h 0x22 0x03
  else if b.rd (R.LE_CAPCFG_TRIG k) = 3 then b.refuse h 0x22 0x0004
  else
    let b := (b.wr (R.LE_CAPSTAT_CAP k) (if b.rd (R.LE_CAPCFG_TRIG k) = 0 then 2 else 1)).wr (R.LE_CAPSTAT_FILL k) 0
    let b := (b.wr (R.LE_CAPSTAT_DROP k) 0).onTun k (fun t =>
      { t with buf := [], taken := 0, fn0 := b.fn, prev := none, cross := false, gap := false, moved := false,
               final := false, seq := 0 })
    b.ok h 0x22

/-- CAP_STOP (R233). -/
def Blk.doCapStop (b : Blk) (h : Hdr) (k : Nat) : Blk :=
  let st := b.rd (R.LE_CAPSTAT_CAP k)
  let b := if st = 1 ∨ st = 2 then (b.wr (R.LE_CAPSTAT_CAP k) 3).onTun k (fun t => { t with final := true }) else b
  b.ok h 0x23

/-- The value of a signal of LE_CAPSEL (R230). -/
def Blk.capSignal (b : Blk) (k s : Nat) : Int :=
  let c := s / 4096
  match s / 1024 % 4 with
  | 0 => iAt ((b.chan c).rt.getD (s / 4 % 256) default).out (s % 4)
  | 1 => iAt (b.chan c).ins (s % 1024)
  | 2 => (b.tun k).v
  | _ => 0

/-- The sample of a running capture enters its buffer, or is dropped in STREAM (R230, R233). -/
def Blk.capStore (b : Blk) (k : Nat) (v : Int × Int) : Blk :=
  if 32768 ≤ (b.tun k).buf.length then
    ((b.inc (R.LE_CAPSTAT_DROP k)).onTun k (fun t => { t with gap := true })).raiseLim 1024 0x7118 k []
  else
    let b := b.onTun k (fun t => { t with buf := t.buf ++ [(b.fn, v.1, v.2)], taken := t.taken + 1 })
    let b := b.wr (R.LE_CAPSTAT_FILL k) (b.tun k).buf.length
    if b.rd (R.LE_CAPCFG_MODE k) = 0 ∧ 32768 ≤ (b.tun k).taken then
      (b.wr (R.LE_CAPSTAT_CAP k) 3).onTun k (fun t => { t with final := true })
    else b

/-- Signal 0 crosses LEVEL in the direction of EDGE (R231). -/
def Blk.crosses (b : Blk) (k : Nat) (old new : Int) : Bool :=
  let l := b.rdS (R.LE_CAPTRIG_LEVEL k)
  if b.on (R.LE_CAPCFG_EDGE k) then decide (l < old) && decide (new ≤ l) else decide (old < l) && decide (l ≤ new)

/-- A frame of a capture that waits for its level (R231): the crossing is looked for in every frame once PRE samples are
kept; they stay, and the samples go on in their DEC-th frames, which without any kept sample are counted from the frame of
the crossing (R230, R232). -/
def Blk.capWait (b : Blk) (k : Nat) (due : Bool) (v : Int × Int) : Blk :=
  let t := b.tun k
  let pre := b.rd (R.LE_CAPTRIG_PRE k)
  let hit := !t.cross && decide (pre ≤ t.buf.length) && (match t.prev with
    | some o => b.crosses k o v.1
    | none => false)
  let anew := hit && pre == 0
  let one := if due || anew then [(b.fn, v.1, v.2)] else []
  let buf := t.buf ++ one
  let buf := if t.cross || hit then buf else buf.drop (buf.length - pre)
  let b := b.onTun k (fun t =>
    { t with buf := buf, prev := some v.1, cross := t.cross || hit, taken := buf.length, fn0 := if anew then b.fn else t.fn0 })
  b.wr (R.LE_CAPSTAT_FILL k) buf.length

/-- The capture of pair k at the end of its post-output work (R230). -/
def Blk.capture (b : Blk) (k : Nat) : Blk :=
  let st := b.rd (R.LE_CAPSTAT_CAP k)
  let due := decide ((b.fn + 2 ^ 48 - (b.tun k).fn0) % 2 ^ 48 % (b.rd (R.LE_CAPCFG_DEC k) + 1) = 0)
  let v := (b.capSignal k (b.rd (R.LE_CAPSEL_SIG0 k)), b.capSignal k (b.rd (R.LE_CAPSEL_SIG1 k)))
  if st = 2 then (if due then b.capStore k v else b)
  else if st = 1 ∧ b.rd (R.LE_CAPCFG_TRIG k) = 2 then b.capWait k due v
  else b

/-- CAPTURE_LEVEL_TRIGGER (R231). -/
def Blk.doCapLevel (b : Blk) (k : Nat) : Blk :=
  if b.rd (R.LE_CAPSTAT_CAP k) = 1 ∧ (b.tun k).cross then b.wr (R.LE_CAPSTAT_CAP k) 2 else b

/-- CAPTURE_END (R233, R234): the final record is written. -/
def Blk.doCapEnd (b : Blk) (k : Nat) : Blk :=
  let t := b.tun k
  if b.rd (R.LE_CAPSTAT_CAP k) = 3 ∧ t.final = false ∧ t.buf = [] then
    (b.wr (R.LE_CAPSTAT_CAP k) 0).raise 0x7017 k [Int.ofNat t.taken]
  else b

end Sys2Proof.Machine
end

