-- ==== Sys2Proof/Machine/Share.lean ====
section
/-! DEFINITION. The share groups (chapter 11): members, slot states, the group torque and its shares. -/

namespace Sys2Proof.Machine

/-- Replace entry i of a list. -/
def setAt {α : Type} (l : List α) (i : Nat) (x : α) : List α := l.set i x

/-- A real result rounded half up. -/
def roundR (x : Rat) : Int := (x + 1 / 2).floor

/-- The enabled slots of a group. -/
def Blk.slotsOf (b : Blk) (g : Nat) : List Nat := (List.range 4).filter (fun s => b.slotOn g s)

/-- The group names drives on both modules (R276). -/
def Blk.spans (b : Blk) (g : Nat) : Bool := (b.slotsOf g).any (fun s => !b.slotOwn g s)

/-- Slot s is active: JOIN or IN (R265). -/
def Blk.slotActive (b : Blk) (g s : Nat) : Bool := b.slotState g s == 1 || b.slotState g s == 2

/-- Set the state of a slot. -/
def Blk.setSlot (b : Blk) (g s v : Nat) : Blk := b.wr (sliceOf (R.SHR_Gg_STAT_ST g) s 2) v

/-- What a drive of this module tells the share logic (R268, R270). -/
def Blk.ownMember (b : Blk) (n : Nat) : HingeMember :=
  let d := b.drv n
  { n := n, run := b.pstate n == 1, closed := b.sstate n == 6, stop := d.byStop, why := d.why, mot := b.motLimit n, gen := b.genLimit n,
    speed := d.speed, iq := b.rdS (R.Dn_IDQ_IQ n), iqRef := d.iqRef, idRef := d.idRef, u := d.u, own := d.own,
    ramp := b.rampOut n, ok := true }

/-- The ticks of the two modules are aligned as this module can tell (R49, R276). Both hold one configuration: with SRC = 1
the standby is disciplined to the active module and must be LOCKED, with SRC = 0 each is to gPTP time. Of the partner F tells
no more than HOLDOVER (log entry 153). -/
def Blk.aligned (b : Blk) (f : HingeFrame) : Bool :=
  !f.holdover && b.on R.TICK_CTL_DISC_EN &&
    ((b.on R.TICK_CTL_SRC && b.role == 3) || b.rd R.TICK_STAT_DSTATE == 2)

/-- The exchange of the frame just ended is here and valid (R276). -/
def Blk.exchange (b : Blk) : Bool := b.mir.fresh && (b.mir.got.map b.aligned).getD false

/-- What the member of slot s tells the share logic at this tick; none for a partner member without a valid word. -/
def Blk.member (b : Blk) (g s : Nat) : Option HingeMember :=
  if b.slotOwn g s then some (b.ownMember (b.slotDrive g s))
  else if b.exchange then
    match b.mir.got with
    | some f => f.members.find? (fun m => m.n == b.slotDrive g s && m.ok)
    | none => none
  else none

/-- What the member of slot s told last, whether or not the exchange is valid now. -/
def Blk.lastWord (b : Blk) (g s : Nat) : Option HingeMember :=
  if b.slotOwn g s then some (b.ownMember (b.slotDrive g s))
  else b.mir.got.bind (fun f => f.members.find? (fun m => m.n == b.slotDrive g s))

/-- The lead slot: the lowest active one (R264). -/
def Blk.leadOf (b : Blk) (g : Nat) : Option Nat := (b.slotsOf g).find? (fun s => b.slotActive g s)

/-- HFRM of a slot's member, at least 1. -/
def Blk.hfrm (b : Blk) (g s : Nat) : Nat := max 1 (b.rd (R.Dn_BUMP_HFRM (b.slotDrive g s)))

/-- f_s of R268: k_s / HFRM_s in JOIN, else 1. -/
def Blk.joinPart (b : Blk) (g s : Nat) : Rat :=
  if b.slotState g s = 1 then ((b.grp g).k.getD s 0 : Rat) / (b.hfrm g s : Rat) else 1

/-- TFS of a group (R262). -/
def Blk.tfs (b : Blk) (g : Nat) : Nat := ((b.slotsOf g).map (fun s => b.rd (R.SHR_Gg_WT_RTQ g s))).sum

/-- One member in the computation of R268. -/
structure Part where
  s     : Nat
  rtq   : Rat
  rate  : Rat
  f     : Rat
  c     : Int
  mot   : Int
  gen   : Int
  speed : Int
  iq    : Int
  held  : Bool
  deriving DecidableEq, Repr, Inhabited

/-- iq*_s for a load fraction L (R268). -/
def Part.at_ (p : Part) (l : Int) : Part := { p with iq := roundR ((l : Rat) * p.rate * p.f / 16384) + p.c }

/-- One pass of R268: clamp, then spread what newly clamped members fall short of over those never clamped. The flag says
whether members were clamped with none left to take their part. -/
def sharePass (x : Int × List Part × Bool × Bool) : Int × List Part × Bool × Bool :=
  let l := x.1
  let ps := x.2.1
  if x.2.2.2 then x
  else
    let cl := ps.map (fun p => { p with iq := limitBy p.mot p.gen p.iq p.speed })
    let new := (List.zip ps cl).filter (fun q => q.1.iq != q.2.iq && !q.1.held)
    let hit := fun (p : Part) => p.held || new.any (fun q => q.1.s == p.s)
    let cl := cl.map (fun p => { p with held := hit p })
    let free := cl.filter (fun p => !p.held)
    if new.isEmpty then (l, cl, false, true)
    else if free.isEmpty then (l, cl, true, true)
    else
      let lack := (new.map (fun q => (l : Rat) * q.2.rtq * q.2.f - (q.2.iq : Rat) * 16384 * q.2.rtq / q.2.rate)).sum
      let l := l + roundR (lack / (free.map (fun p => p.rtq * p.f)).sum)
      (l, cl.map (fun p => if p.held then p else p.at_ l), false, false)

/-- R268 for a torque τ, the members and C_eff: the load fraction after redistribution, the members with their shares,
and whether the group is at its limit (R269). -/
def computeShares (tau : Int) (tfs : Nat) (ps : List Part) (ceff : Rat) : Int × List Part × Bool :=
  let l := sat16 (roundR ((tau : Rat) * (tfs : Rat) * 16384 / (32768 * (if ceff = 0 then 1 else ceff))))
  let r := sharePass (sharePass (sharePass (l, ps.map (fun p => p.at_ l), false, false)))
  let last := r.2.1.map (fun p => { p with iq := limitBy p.mot p.gen p.iq p.speed })
  (r.1, last, r.2.2.1 || (!r.2.2.2 && last.any (fun p => r.2.1.any (fun q => q.s == p.s && q.iq != p.iq))))

/-- The active members of a group as the computation takes them; a partner member without a valid word keeps what it
told last. -/
def Blk.parts (b : Blk) (g : Nat) : List Part :=
  let bal := b.rd (R.SHR_Gg_CFG_MODE g) == 3
  ((b.slotsOf g).filter (fun s => b.slotActive g s)).map (fun s =>
    let m := ((b.member g s).or (b.lastWord g s)).getD default
    { s := s, rtq := b.rd (R.SHR_Gg_WT_RTQ g s), rate := max 1 (b.rd (R.SHR_Gg_WT_RATE g s)), f := b.joinPart g s,
      c := if bal then onGrid ((b.grp g).c.getD s 0) else 0, mot := m.mot, gen := m.gen, speed := m.speed, iq := 0,
      held := false })

/-- C_eff of R268. -/
def cEff (ps : List Part) : Rat := (ps.map (fun p => p.rtq * p.f)).sum

/-- τ of a group: the lead's torque reference after its latest run (R268). -/
def Blk.tauOf (b : Blk) (g : Nat) : Int :=
  match b.leadOf g with
  | some s => match b.member g s with
    | some m => m.own
    | none => (b.grp g).tau
  | none => 0

/-- Slot s is OUT and counted in no computation. -/
def Blk.slotOut (b : Blk) (g s : Nat) : Blk :=
  let b := if b.slotOwn g s then b.putBlend (b.slotDrive g s) 5 none else b
  (b.setSlot g s 0).onGrp g (fun x => { x with k := setAt x.k s 0, c := setAt x.c s 0, dev := setAt x.dev s 0 })

/-- The event of a member that was counted out (R265): 0x8003 after a stop, else 0x8203 with its cause and the new L as the
tick has computed it, once every member that leaves at the tick is out (R277, R278). -/
def Blk.leftEvent (b : Blk) (g s : Nat) (stop : Bool) (cause : Nat) : Blk :=
  if stop then b.raise 0x8003 g [Int.ofNat s]
  else (b.inc (R.SHR_Gg_STAT_LEFT g)).raise 0x8203 g [Int.ofNat s, Int.ofNat cause, (b.grp g).load]

/-- The current of a joining drive of this module is handed over under R109 from zero current to the share `iq` (R271): a
blend that Dn_CSTAT.HOBL shows until the join completes, or none (kind 11). -/
def Blk.joinShown (b : Blk) (g s : Nat) (iq : Int) (blend : Bool) : Blk :=
  if b.slotOwn g s then
    let n := b.slotDrive g s
    if blend then (b.putBlend n 5 (some ⟨5, 11, false, true, 0, 0, 0, 0⟩)).raise 0x3111 n [11, 0, iq]
    else b.raise 0x3010 n [11]
  else b

/-- A member joins (R271): at once where its full share lies within HANDOVER_MAX of zero current, else with k_s from `k`. The
share is that of the torque the group carries; a first member brings its own. -/
def Blk.join (b : Blk) (g s k : Nat) : Blk :=
  let n := b.slotDrive g s
  let full := b.setSlot g s 2
  let ps := full.parts g
  let tau := if (b.leadOf g).isSome then b.tauOf g else full.tauOf g
  let iq := ((computeShares tau (b.tfs g) ps (cEff ps)).2.1.find? (fun p => p.s == s)).getD default
  if b.rd (R.SHR_Gg_CFG_MODE g) = 2 ∨ magI iq.iq ≤ b.rd (R.Dn_BUMP_HMAX n) then
    let b := full.onGrp g (fun x => { x with k := setAt x.k s (b.hfrm g s) })
    (if b.rd (R.SHR_Gg_CFG_MODE g) = 2 then b else b.joinShown g s iq.iq false).raise 0x8001 g [Int.ofNat s, 0]
  else ((b.setSlot g s 1).onGrp g (fun x => { x with k := setAt x.k s k })).joinShown g s iq.iq true

/-- SHARE_JOIN_COMPLETE (R265, R271). -/
def Blk.doJoinComplete (b : Blk) (g s : Nat) : Blk :=
  if b.slotState g s = 1 ∧ b.hfrm g s ≤ (b.grp g).k.getD s 0 then
    let b := if b.slotOwn g s then b.putBlend (b.slotDrive g s) 5 none else b
    (b.setSlot g s 2).raise 0x8001 g [Int.ofNat s, Int.ofNat (b.hfrm g s)]
  else b

/-- SHARE_SPEED_DEVIATION (R265, R273). -/
def Blk.doSpeedDev (b : Blk) (g s : Nat) : Blk :=
  if b.slotActive g s ∧ 0 < b.rd (R.SHR_Gg_CFG_DEVN g) ∧ b.rd (R.SHR_Gg_CFG_DEVN g) ≤ (b.grp g).dev.getD s 0 then
    let b := if b.slotOwn g s then b.reqBlock (b.slotDrive g s) else b
    let b := (b.slotOut g s).onGrp g (fun x => { x with apart := s :: x.apart })
    (b.inc (R.SHR_Gg_STAT_LEFT g)).raise 0x8306 g [Int.ofNat s]
  else b

/-- Slot s is a partner member as the exchange sees it: one of the two sides of a spanning group that does not hold the
lead (R264, R276). -/
def Blk.remote (b : Blk) (g s : Nat) : Bool :=
  match b.leadOf g with
  | some l => b.slotOwn g l != b.slotOwn g s
  | none => !b.slotOwn g s

/-- A member of this module goes on alone (R276): its speed loop in droop, preloaded from its last share, or a ramp to zero.
In a droop group its own speed loop is in use already. -/
def Blk.isolate (b : Blk) (g s : Nat) : Blk :=
  let n := b.slotDrive g s
  let last := (b.grp g).inUse.getD s 0
  let b := if b.slotOwn g s then b.putBlend n 5 none else b
  let b := (b.setSlot g s 3).inc (R.SHR_Gg_STAT_LEFT g)
  if b.slotOwn g s then
    if b.on (R.SHR_Gg_CFG_ISOL g) then (if b.rd (R.SHR_Gg_CFG_MODE g) = 2 then b else b.startBlend n 1 10 last 0)
    else b.onDrv n (fun d => { d with rampStop := true })
  else b

/-- SHARE_EXCHANGE_LOST (R265, R276): four frames without a valid exchange. -/
def Blk.doExchangeLost (b : Blk) (g : Nat) : Blk :=
  let hit := if (b.slotsOf g).any (fun s => b.slotOwn g s) then
      (b.slotsOf g).filter (fun s => b.slotActive g s && b.remote g s && decide (4 ≤ (b.grp g).noEx.getD s 0)) else []
  if hit.isEmpty then b
  else (b.eachOf hit (fun s b => (b.isolate g s).onGrp g (fun x => { x with okEx := setAt x.okEx s 0 }))).raise 0x8205 g []

/-- SHARE_ISOL_REJOIN (R265): 64 frames of valid exchange, CLOSED. Its k_s is 1 in the first frame, which the next tick
opens. -/
def Blk.doIsolRejoin (b : Blk) (g s : Nat) : Blk :=
  if b.slotState g s = 3 ∧ 64 ≤ (b.grp g).okEx.getD s 0 ∧ ((b.member g s).map (·.closed)).getD false = true then
    b.join g s 0
  else b

/-- The members that leave at this tick (R265): PSTATE is not RUN. -/
def Blk.leavers (b : Blk) (g : Nat) : List (Nat × HingeMember) :=
  (b.slotsOf g).filterMap (fun s => match b.member g s with
    | some m => if m.run = false ∧ b.slotState g s ≠ 0 then some (s, m) else none
    | none => none)

/-- The leaves of a tick (R265, R270, R277): all are counted out together. While a takeover has not resumed the drives
none is judged (R397). -/
def Blk.groupOut (b : Blk) (g : Nat) : List (Nat × HingeMember) := if b.mir.guard.isSome then [] else b.leavers g

/-- The join of a slot at a tick (R265); that of a partner member asks for a valid exchange. -/
def Blk.slotJoin (b : Blk) (g s : Nat) : Blk :=
  match b.member g s with
  | some m =>
    let b := if m.run ∧ m.closed then b else b.onGrp g (fun x => { x with apart := x.apart.filter (fun y => y != s) })
    if b.slotState g s = 0 ∧ m.run ∧ m.closed ∧ (b.grp g).apart.contains s = false ∧
        (b.spans g = true → b.remote g s = true → b.exchange = true) then b.join g s 1 else b
  | none => b

/-- The exchange of slot s for the frame just ended (R276): the partner's word of a member there, the shares of the home
module for one here. -/
def Blk.slotExchange (b : Blk) (g s : Nat) : Bool :=
  if b.spans g = false then true
  else if b.slotOwn g s = false then (b.member g s).isSome
  else b.exchange && (!b.remote g s ||
    (b.mir.got.map (fun f => f.groups.any (fun x => x.g == g && x.ok))).getD false)

/-- Counters of a slot at a tick: k_s in JOIN (R271), the exchange (R276), speed deviation (R273). -/
def Blk.slotCount (b : Blk) (g s : Nat) : Blk :=
  let x := b.grp g
  let ex := b.slotExchange g s
  let lead := b.leadOf g
  let dv := match b.member g s, lead.bind (fun l => b.member g l) with
    | some m, some l =>
      b.rd (R.SHR_Gg_CFG_MODE g) == 1 && b.slotActive g s && decide (lead ≠ some s) &&
        decide (0 < b.rd (R.SHR_Gg_CFG_SPDDEV g)) && decide (b.rd (R.SHR_Gg_CFG_SPDDEV g) < magI (m.speed - l.speed))
    | _, _ => false
  b.onGrp g (fun y =>
    { y with
    k := if b.slotState g s = 1 then setAt x.k s (min (x.k.getD s 0 + 1) (b.hfrm g s)) else x.k,
    noEx := setAt x.noEx s (if ex then 0 else min (x.noEx.getD s 0 + 1) 255),
    okEx := setAt x.okEx s (if ex then min (x.okEx.getD s 0 + 1) 255 else 0),
    dev := setAt x.dev s (if dv then min (x.dev.getD s 0 + 1) 255 else 0) })

/-- The old lead's ramp output of the last frame (R267): a RAMP instance has moved it within that frame, else the tick has
moved it on and the group holds it; of a lead on the partner as the last word of it says. -/
def Blk.lastRamp (b : Blk) (g old : Nat) : Int :=
  let n := b.slotDrive g old
  if b.slotOwn g old then (if b.hasRamp n then b.rampOut n else (b.grp g).ramp)
  else ((b.lastWord g old).map (·.ramp)).getD (b.grp g).ramp

/-- A new lead takes over (R267): its ramp is preloaded to the old lead's, and in a master mode its speed loop to τ of the
last frame, which is the group's torque until that loop has run. -/
def Blk.newLead (b : Blk) (g : Nat) (old new : Nat) : Blk :=
  let r := b.lastRamp g old
  let t := (b.grp g).tau
  let b := b.raise 0x8204 g [Int.ofNat old, Int.ofNat new]
  if b.slotOwn g new then
    let n := b.slotDrive g new
    let b := b.onDrv n (fun d => { d with ramp := r * 512, dRamp := 0 })
    if b.rd (R.SHR_Gg_CFG_MODE g) % 2 = 1 then (b.onDrv n (fun d => { d with own := t })).startBlend n 2 3 t 0 else b
  else b

/-- The balance corrections of R274 move by one frame. -/
def Blk.balance (b : Blk) (g : Nat) (act : List Nat) : Blk :=
  let v := fun s => ((((b.member g s).or (b.lastWord g s)).map (·.iq)).getD 0 : Rat) * 32768 / (max 1 (b.rd (R.SHR_Gg_WT_RATE g s)) : Nat)
  let m := (act.map v).sum / (max 1 act.length : Nat)
  let lim : Rat := b.rd (R.SHR_Gg_BAL_BALLIM g)
  let kb : Rat := b.rd (R.SHR_Gg_BAL_KBAL g)
  b.onGrp g (fun x => { x with c := (List.range 4).map (fun s =>
    if act.contains s then
      let c := x.c.getD s 0 + kb * (m - v s) / 32768
      if c < -lim then -lim else if lim < c then lim else c
    else 0) })

/-- The droop offset Δ_s of a member of this module (R275). -/
def Blk.droopAt (b : Blk) (g s : Nat) : Int :=
  let r := Int.ofNat (max 1 (b.rd (R.SHR_Gg_WT_RATE g s)))
  let d := Int.ofNat (b.rd (sliceOf (R.SHR_Gg_DROOP_DROOP g) s 8))
  sat16 (halfUp (d * (b.drv (b.slotDrive g s)).iqRef * 32768) (1000 * r))

/-- Show the shares (SHR_Gg_SHARE). -/
def Blk.showShares (b : Blk) (g : Nat) (iq : List Int) : Blk :=
  b.each 2 (fun j b => (b.wrS (R.SHR_Gg_SHARE_EVEN g j) (iq.getD (2 * j) 0)).wrS (R.SHR_Gg_SHARE_ODD g j) (iq.getD (2 * j + 1) 0))

/-- The computation of the home module (R268 to R270). -/
def Blk.homeShares (b : Blk) (g : Nat) (act : List Nat) : Blk :=
  let b := if b.rd (R.SHR_Gg_CFG_MODE g) = 3 then b.balance g act else b
  let tau := b.tauOf g
  let ps := b.parts g
  let r := computeShares tau (b.tfs g) ps (cEff ps)
  let iq := (List.range 4).map (fun s => ((r.2.1.find? (fun p => p.s == s)).map (·.iq)).getD 0)
  let tq := (r.2.1.map (fun p => (p.iq : Rat) * p.rtq / p.rate)).sum
  let tfs : Rat := max 1 (b.tfs g)
  let u := (act.filterMap (fun s => (b.member g s).map (·.u))).foldl max 0
  let id := ((act.head?.bind (fun s => b.member g s)).map (·.idRef)).getD 0
  let b := ((b.wrS (R.SHR_Gg_LOAD_TAU g) tau).wrS (R.SHR_Gg_LOAD_L g) r.1).showShares g iq
  let b := b.onGrp g (fun x =>
    { x with tau := tau, load := r.1, inUse := if b.spans g then x.iq else iq, iq := iq, uMax := u, idW := id,
             carried := if r.2.2 then some (sat16 (roundR (tq * 32768 / tfs))) else none })
  if r.2.2 then
    (b.flag (R.SHR_Gg_STAT_GLIM g) true).raiseLim 1024 0x8102 g [roundR ((tau : Rat) * tfs / 32768 - tq)]
  else b

/-- A module that does not hold the lead takes the shares of the home module (R264, R270). -/
def Blk.awayShares (b : Blk) (g : Nat) : Blk :=
  match b.mir.got.bind (fun f => f.groups.find? (fun x => x.g == g && x.ok)) with
  | some x =>
    if b.exchange then
      let b := ((b.wrS (R.SHR_Gg_LOAD_TAU g) x.grp.tau).wrS (R.SHR_Gg_LOAD_L g) x.grp.load).showShares g x.grp.iq
      b.onGrp g (fun y =>
        { y with tau := x.grp.tau, load := x.grp.load, inUse := x.grp.iq, iq := x.grp.iq, uMax := x.grp.uMax
                 idW := x.grp.idW, k := x.grp.k, c := x.grp.c, ramp := x.grp.ramp, carried := none })
    else b
  | none => b

/-- The group reference in a group that spans the pair (R266): what a host, bridge-loss or a lever brought on either module
at the tick before is now in every member's ramp. F carries the latest one until a later takes its place, so that a missing F
delays it only; of two of one tick the home module's is taken (log entry 152). -/
def Blk.groupRef (b : Blk) (g : Nat) : Blk :=
  let x := b.grp g
  let theirs := if b.exchange then b.mir.got.bind (fun f => (f.groups.find? (fun y => y.g == g && y.ok)).bind (·.grp.refSent)) else none
  let home := ((b.leadOf g).map (fun l => b.slotOwn g l)).getD true
  let v := match x.refSent, theirs with
    | some p, some q => if p.fn < q.fn ∨ (p.fn = q.fn ∧ home = false) then some q else some p
    | p, q => p.or q
  let own := ((b.slotsOf g).filter (fun s => b.slotOwn g s)).map (fun s => b.slotDrive g s)
  let b := b.onGrp g (fun x => { x with refSent := x.refNew.or x.refSent, refNew := none })
  match v with
  | some r =>
    if r.fn < x.refDone then b
    else
      (b.eachOf own (fun n b => b.onDrv n (fun d =>
        if r.table then { d with ref := r.v }
        else { d with hostRef := r.v, ref := if d.leverSel || d.bridge.isSome then d.ref else r.v }))).onGrp g
        (fun x => { x with refDone := r.fn + 1 })
  | none => b

/-- The computation of a group once its members are known (R264, R268 to R275). -/
def Blk.groupCompute (b : Blk) (g old : Nat) (had : Bool) : Blk :=
  match b.leadOf g with
  | none => b.onGrp g (fun x => { x with carried := none, tau := 0, load := 0 })
  | some l =>
    let b := b.wr (R.SHR_Gg_STAT_LEAD g) l
    let b := if had ∧ l ≠ old then b.newLead g old l else b
    let act := (b.slotsOf g).filter (fun s => b.slotActive g s)
    let b := if b.slotOwn g l then
        (if b.rd (R.SHR_Gg_CFG_MODE g) = 2 then b else b.homeShares g act)
      else b.awayShares g
    let r := ((b.member g l).map (·.ramp)).getD (b.grp g).ramp
    b.onGrp g (fun x => { x with ramp := r })

/-- A share group at a tick (R264 to R277): leaves before joins; a join's k_s is 1 in its first frame. A group none of
whose members runs on this module is the partner's. -/
def Blk.shareGroup (b : Blk) (g : Nat) : Blk :=
  let slots := b.slotsOf g
  if b.rd (R.SHR_Gg_CFG_MODE g) = 0 then b.wr (R.SHR_Gg_STAT_ST g) 0
  else if slots.any (fun s => b.slotOwn g s) = false then b
  else
    let old := b.rd (R.SHR_Gg_STAT_LEAD g)
    let had := (b.leadOf g).isSome
    let b := if b.spans g then b.groupRef g else b
    let out := b.groupOut g
    let act := out.filter (fun x => b.slotActive g x.1)
    let b := b.eachOf (out.map (·.1)) (fun s b => b.slotOut g s)
    let b := b.eachOf slots (fun s b => b.slotCount g s)
    let b := b.eachOf slots (fun s b => b.slotJoin g s)
    let b := b.onGrp g (fun x => { x with droop := (List.range 4).map (fun s => b.droopAt g s) })
    act.foldl (fun b x => b.leftEvent g x.1 x.2.stop x.2.why) (b.groupCompute g old had)

/-- The share logic at a tick; its outputs are withheld while its copies disagree (R371). -/
def Blk.shareTick (b : Blk) : Blk := if b.blockGood 1 then b.each 4 (fun g b => b.shareGroup g) else b

end Sys2Proof.Machine
end

