-- ==== Sys2Proof/Machine/Hasp.lean ====
section
/-! DEFINITION. Hasp (chapter 14): closing and testing the STO outputs, safe inputs, reset pulses, timers, the tick
watchdog and Hasp's own faults. The demand path and the gate-enables stand in Machine/Gate.lean. -/

namespace Sys2Proof.Machine

/-- The midpoint readback and chain current as HASP_STOSTAT shows them. -/
def Blk.stoSense (b : Blk) (k ma : Nat) (sns : Bool) : Blk :=
  (b.wrSat (R.HASP_STOSTAT_I k) ma).flag (R.HASP_STOSTAT_SNS k) sns

/-- Output k goes to FAULT with both switches open (R322, R328). -/
def Blk.stoFault (b : Blk) (k : Nat) (f : Fld) (ev : Nat) : Blk :=
  let b := if b.stoState k = 3 ∨ b.stoState k = 4 then b.wr (R.HASP_STOSTAT_STATE k) 2 else b
  let b := (((b.openSto k).wr (R.HASP_STOSTAT_STATE k) 5).flag f true).onSto k (fun s => { s with manual := true })
  (b.raise ev k []).settle

/-- A switch is found stuck closed (R328): degraded mode of class STO for the mapped channels, or loss. -/
def Blk.stoStuck (b : Blk) (k : Nat) (f : Fld) : Blk :=
  let b := (b.flag f true).raise 0x9301 k []
  b.rung3 6 (b.mapped k)

/-- A stuck-open switch or open wiring (R328): FAULT, and loss with a ready standby. -/
def Blk.stoOpenFault (b : Blk) (k : Nat) : Blk :=
  let b := b.stoFault k (R.HASP_STOSTAT_OPENF k) 0x9302
  if b.standbyReady then b.loss 6 else b

/-- STO_CLOSING_LOW_CHECK (R322, R400): 100 µs after the low side closed. -/
def Blk.doClosingLow (b : Blk) (k ma : Nat) (sns : Bool) : Blk :=
  if b.stoState k = 1 ∧ (b.sto k).hs = false then
    let b := b.stoSense k ma sns
    if sns then b.stoOpenFault k
    else
      let b := b.onSto k (fun s => { s with hs := true })
      if 5 ≤ ma then b.stoStuck k (R.HASP_STOSTAT_HSF k) else b
  else b

/-- STO_CLOSING_HIGH_CHECK (R322): 1 ms after the high side closed. -/
def Blk.doClosingHigh (b : Blk) (k ma : Nat) (sns : Bool) : Blk :=
  if b.stoState k = 1 ∧ (b.sto k).hs = true then
    let b := b.stoSense k ma sns
    if sns then b.stoOpenFault k
    else
      let b := ((b.wr (R.HASP_STOSTAT_STATE k) 2).flag (R.HASP_STOSTAT_OPENF k) false).flag (R.HASP_STOSTAT_OCF k) false
      ((b.onSto k (fun s => { s with manual := false })).raise 0x9001 k []).settle
  else b

/-- TP_PERIOD in SYSCLK cycles. -/
def Blk.tpPeriod (b : Blk) : Nat := b.rd R.HASP_TP_TPPER * 100 * cycPerMs

/-- The slot of output k falls into the frame at hand (R325): k × TP_PERIOD / 4 after that of output 0. R325 names no instant
for the first; the model takes the tick that opens frame 0 (DESIGN CHOICE, log entry 119). -/
def Blk.slotIn (b : Blk) (k : Nat) : Bool :=
  let p := b.tpPeriod
  decide ((k * p / 4 + p - b.hasp.tpT) % p < b.period)

/-- The slot of output k is due: it falls into this frame, has not been taken, and no output is under test (R325). -/
def Blk.slotDue (b : Blk) (k : Nat) : Bool :=
  b.slotIn k && !(b.sto k).tested && (List.range 4).all (fun j => b.stoState j != 3 && b.stoState j != 4)

/-- STO_TEST_SLOT (R325, R327): one switch of a closed output opens; the tests alternate. -/
def Blk.doTestSlot (b : Blk) (k : Nat) : Blk :=
  if b.stoState k = 2 ∧ b.slotDue k = true then
    let hs := (b.sto k).testHs
    (b.wr (R.HASP_STOSTAT_STATE k) (if hs then 3 else 4)).onSto k (fun s =>
      if hs then { s with hs := false, tested := true } else { s with ls := false, tested := true })
  else b

/-- The module runs in a pair (R400). -/
def Blk.paired (b : Blk) : Bool := b.rd R.MIR_STAT_PID != 0

/-- STO_TEST_END (R325, R328, R400): the checks of the pulse and of the reclosing. -/
def Blk.doTestEnd (b : Blk) (k ma : Nat) (snsDuring snsEnd snsAfter hsPin : Bool) : Blk :=
  let hs := b.stoState k == 3
  if hs || b.stoState k == 4 then
    let stuck := decide (5 ≤ ma) || (!hs && !snsEnd && !b.paired)
    let bad := stuck || snsAfter || (hs && snsDuring)
    let b := (b.stoSense k ma snsAfter).wr (R.HASP_STOSTAT_STATE k) 2
    let b := b.onSto k (fun s => { s with hs := true, ls := true, testHs := !hs })
    let b := if bad then b.inc (R.HASP_TPCNT_FAIL k) else b.inc (R.HASP_TPCNT_PASS k)
    let b := if hs && hsPin && b.paired then b.raise 0xC110 k [] else b
    let b := if stuck then b.stoStuck k (if hs then R.HASP_STOSTAT_HSF k else R.HASP_STOSTAT_LSF k) else b
    if snsAfter ∧ b.stoState k = 2 then b.stoOpenFault k else b
  else b

/-- STO_CURRENT_LIMIT (R322, R328). -/
def Blk.doCurrentLimit (b : Blk) (k : Nat) : Blk :=
  if b.stoState k = 5 then b
  else (b.wr (R.HASP_STOSTAT_DSRC k) 0xA).stoFault k (R.HASP_STOSTAT_OCF k) 0x9303

/-- The levels of safe input i (HASP_SDISTAT). -/
def Blk.sdiLevels (b : Blk) (i : Nat) (x y : Bool) : Blk :=
  (b.flag (bitOf R.HASP_SDISTAT_ST (4 * i)) x).flag (bitOf R.HASP_SDISTAT_ST (4 * i + 1)) y

/-- Both channels of input i stand at their healthy levels (R330). -/
def Blk.sdiHealthy (b : Blk) (i : Nat) (x y : Bool) : Bool := x && (y != b.on (R.HASP_SDICFG_ANTIV i))

/-- Both channels stand at the opposite of their healthy levels (R330). -/
def Blk.sdiAway (b : Blk) (i : Nat) (x y : Bool) : Bool := !x && (y == b.on (R.HASP_SDICFG_ANTIV i))

/-- The levels of input i as HASP_SDISTAT holds them. -/
def Blk.sdiX (b : Blk) (i : Nat) : Bool := b.on (bitOf R.HASP_SDISTAT_ST (4 * i))
def Blk.sdiY (b : Blk) (i : Nat) : Bool := b.on (bitOf R.HASP_SDISTAT_ST (4 * i + 1))

def Blk.onHasp (b : Blk) (f : Hasp → Hasp) : Blk := { b with hasp := f b.hasp }

/-- The outputs in the mask of input i. -/
def Blk.sdiOuts (b : Blk) (i : Nat) : List Nat := (List.range 4).filter (fun k => b.on (bitOf (R.HASP_SDICFG_MASK i) k))

/-- SDI_DEMAND (R330, R332): a channel of the input leaves its healthy level. A reset source never demands. -/
def Blk.doSdiDemand (b : Blk) (i : Nat) (x y : Bool) : Blk :=
  if b.powered .safe = false ∨ b.on (R.HASP_SDICFG_EN i) = false then b
  else
    let b := b.sdiLevels i x y
    if b.on (R.HASP_SDICFG_RSTIN i) then
      if b.sdiAway i x y then
        (b.flag (sdiDiscf i) false).onHasp (fun h => { h with sdiVoid := h.sdiVoid.set i false })
      else b
    else if b.sdiHealthy i x y then b
    else
      let new := !b.on (sdiDem i)
      let b := (b.flag (sdiDem i) true).onHasp (fun h =>
        { h with sdiBoth := h.sdiBoth.set i (h.sdiBoth.getD i false || b.sdiAway i x y) })
      let b := if new && b.on (R.HASP_SDICFG_SS1 i) then b.eachOf (b.sdiOuts i) (fun k b => b.startSs1 i k) else b
      b.settle

/-- A reset pulse of an output rises (R324): it counts only if no demand is present. -/
def Blk.resetRise (b : Blk) (k : Nat) : Blk :=
  b.onSto k (fun s => { s with riseOk := !b.on (R.HASP_STOSTAT_DEM k) })

/-- SDI_RETURN_HEALTHY (R330, R331): the demand ends; after a discrepancy only when both channels had been in demand
state together and returned within DISC. A reset source starts its pulse. -/
def Blk.doSdiHealthy (b : Blk) (i : Nat) (within : Bool) : Blk :=
  if b.powered .safe = false ∨ b.on (R.HASP_SDICFG_EN i) = false then b
  else
    let b := b.sdiLevels i true (!b.on (R.HASP_SDICFG_ANTIV i))
    if b.on (R.HASP_SDICFG_RSTIN i) then
      b.each 4 (fun k b => if b.rd (R.HASP_STOCFG_RSRC k) = i then b.resetRise k else b)
    else if b.on (sdiDiscf i) && !(b.hasp.sdiBoth.getD i false && within) then b
    else
      let b := (b.flag (sdiDem i) false).flag (sdiDiscf i) false
      (b.onHasp (fun h => { h with sdiBoth := h.sdiBoth.set i false })).settle

/-- SDI_DISCREPANCY (R330, R331): the channels have disagreed for longer than DISC. -/
def Blk.doSdiDisc (b : Blk) (i : Nat) : Blk :=
  let x := b.sdiX i
  let y := b.sdiY i
  if b.powered .safe = false ∨ b.on (R.HASP_SDICFG_EN i) = false ∨ b.sdiHealthy i x y ∨ b.sdiAway i x y then b
  else
    let b := (b.flag (sdiDiscf i) true).raise 0x9305 i []
    if b.on (R.HASP_SDICFG_RSTIN i) then b.onHasp (fun h => { h with sdiVoid := h.sdiVoid.set i true })
    else b.eachOf (b.sdiOuts i) (fun k b => b.onSto k (fun s => { s with manual := true }))

/-- The lowest-numbered receive session that HASP_SLMAP maps to output k (R324). -/
def Blk.resetSession (b : Blk) (k : Nat) : Option Nat :=
  (List.range 64).find? (fun s => b.slMapped s k && b.on (R.SLL_SESs_CFG_EN s) && !b.on (R.SLL_SESs_CFG_DIR s))

/-- RSRC of output k names a source of reset pulses (R324): a safe input in use with RSTIN = 1, or the reset bit of a
Slalu session mapped to the output. -/
def Blk.resetSource (b : Blk) (k : Nat) : Bool :=
  let src := b.rd (R.HASP_STOCFG_RSRC k)
  if src = 8 then (b.resetSession k).isSome
  else decide (src < 8) && b.on (R.HASP_SDICFG_EN src) && b.on (R.HASP_SDICFG_RSTIN src)

/-- STO_RESET_PULSE (R322, R324): the falling edge of a reset pulse of `us` µs for output k. -/
def Blk.doResetPulse (b : Blk) (k us : Nat) : Blk :=
  let src := b.rd (R.HASP_STOCFG_RSRC k)
  let s := b.sto k
  let clean := s.riseOk || decide (400 * us ≤ s.quiet)
  let fits := decide (100000 ≤ us) && decide (us ≤ 2000000) && b.resetSource k && !(b.hasp.sdiVoid.getD src false)
  let run := b.rd R.HASP_STAT_HSTATE == 1 || b.rd R.HASP_STAT_HSTATE == 2
  let b := b.onSto k (fun s => { s with riseOk := false })
  if b.on (R.HASP_STOCFG_EN k) && (b.on (R.HASP_STOCFG_RST k) || s.manual) && fits && clean && run &&
      (b.demandSrc k).isNone then
    if b.stoState k = 0 then b.beginClosing k
    else if b.stoState k = 5 ∧ b.on (R.HASP_STOSTAT_HSF k) = false ∧ b.on (R.HASP_STOSTAT_LSF k) = false then
      b.beginClosing k
    else b
  else b

/-- SS1_TIMEOUT (R332): SS1T since the demand has passed. -/
def Blk.doSs1Timeout (b : Blk) (k : Nat) : Blk :=
  match (b.sto k).ss1 with
  | some left =>
    if b.ranOut left then
      ((b.openSto k).raise 0x9300 k [1, Int.ofNat (b.sto k).ss1In]).settle
    else b
  | none => b

/-- DEG of HASP_STAT follows the timers. -/
def Blk.showDeg (b : Blk) : Blk :=
  let b := b.each 8 (fun c b => b.flag (bitOf R.HASP_STAT_DEG c) ((b.hasp.degs.getD c default).left.isSome))
  let fr := (b.hasp.degs.filterMap (fun d => d.left.map (fun x => ceilDiv x b.period))).foldl min 0xFFFFFFFF
  b.wr R.HASP_DEGLEFT_FR fr

/-- A switch of output k is stuck closed (R328). -/
def Blk.stuckClosed (b : Blk) (k : Nat) : Bool := b.on (R.HASP_STOSTAT_HSF k) || b.on (R.HASP_STOSTAT_LSF k)

/-- Class STO takes in the channels that a configuration maps to an output with a stuck switch (R328, R341). -/
def Blk.stoFollow (b : Blk) : Blk :=
  b.each 4 (fun k b =>
    let new := (b.mapped k).filter (fun c => !(b.hasp.degs.getD 6 default).chs.contains c)
    if b.stuckClosed k = true ∧ (b.sto k).dead = false ∧ new.isEmpty = false then b.degrade 6 new false else b)

/-- The timer of class c has run out (R336): every affected channel performs its safe reaction. The record gives the
channels, bit c for channel c. -/
def Blk.degExpire (b : Blk) (c : Nat) : Blk :=
  let chs := (b.hasp.degs.getD c default).chs
  let b := b.onHasp (fun h => { h with degs := h.degs.modify c (fun d => { d with left := none, start := false }) })
  let b := b.onHasp (fun h => if c = 5 then { h with ntcHeld := false } else h)
  let b := (b.raise 0x9304 c [Int.ofNat ((chs.map (fun x => 2 ^ x)).sum)]).eachOf chs (fun x b => b.safeReact x)
  let b := if c = 6 then b.each 4 (fun k b =>
      if b.stuckClosed k then
        let b := b.onSto k (fun s => { s with dead := true })
        if b.stoState k = 0 then b.wr (R.HASP_STOSTAT_STATE k) 5 else b
      else b) else b
  b.showDeg.settle

/-- DEG_TIME_EXPIRY (R335 to R337): the frames have run, or Flint-A has reached 1.01 × DEG_TIME first. Class NTC waits for
the override. -/
def Blk.doDegExpiry (b : Blk) (c : Nat) (flintA : Bool) : Blk :=
  match (b.hasp.degs.getD c default).left with
  | some left =>
    if b.powered .safe = true ∧ (left = 0 ∨ flintA = true) then
      if c = 5 ∧ b.on R.THM_OVRD_ACT then b.onHasp (fun h => { h with ntcHeld := true }) else b.degExpire c
    else b
  | none => b

/-- STOPMAX_EXPIRY (R336). -/
def Blk.doStopmax (b : Blk) (c : Nat) : Blk :=
  match (b.hch c).react with
  | some (some left) =>
    if b.ranOut left then
      ((b.onHch c (fun h => { h with react := none, gone := true })).raise 0x9309 c []).settle
    else b
  | _ => b

/-- TICK_WATCHDOG_EXPIRY (R338), counted on Flint-A from Ready on. -/
def Blk.doTickWatchdog (b : Blk) : Blk := if b.powered .safe ∧ b.pwr.step = 8 then b.haspDemand 8 else b

/-- HASP_INTERNAL_FAULT (R338): the supervisor cores disagree, or the firmware check fails. -/
def Blk.doHaspFault (b : Blk) : Blk := if b.powered .safe then b.haspDemand 7 else b

/-- The degraded-mode timers at a tick (R335), ahead of what the tick itself detects: a start that waited begins with the
frame that opens, the others lose the frame in force that has ended. -/
def Blk.degTick (b : Blk) : Blk :=
  b.onHasp (fun h => { h with degs := (List.range 8).map (fun c =>
    let d := h.degs.getD c default
    if d.start ∧ d.left = none then
      { d with start := false, left := some (b.rd (R.HASP_DEGT_MIN c) * 60 * 400000000) }
    else { d with start := false, left := d.left.map (fun x => x - b.period) }) })

/-- Hasp's counters at a tick: SS1 and STOPMAX (R332, R336), the time without a demand, the test slots (R325). -/
def Blk.haspTick (b : Blk) : Blk :=
  let p := b.tick.ended
  let b := b.onHasp (fun h =>
    { h with tpT := (h.tpT + p) % max 1 b.tpPeriod
             stos := h.stos.map (fun s => { s with ss1 := s.ss1.map (fun x => x - p), quiet := min (s.quiet + p) (2 ^ 40) }),
             chs := h.chs.map (fun x => { x with react := x.react.map (fun m => m.map (fun t => t - p)) }) })
  let b := b.each 4 (fun k b => if b.slotIn k then b else b.onSto k (fun s => { s with tested := false }))
  let b := if b.hasp.ntcHeld ∧ b.on R.THM_OVRD_ACT = false then b.degExpire 5 else b
  b.showDeg.settle

end Sys2Proof.Machine
end

