-- ==== Sys2Proof/Machine/Slalu.lean ====
section
/-! DEFINITION. The Slalu engine's receiving side, its sessions, and SLL_TXDATA (chapter 15). -/

namespace Sys2Proof.Machine

def Blk.onSll (b : Blk) (f : Sll → Sll) : Blk := { b with sll := f b.sll }

/-- STATE of session s: 0 OFF, 1 WAIT, 2 RUN, 3 FAIL, 4 TX (R354). -/
def Blk.sesState (b : Blk) (s : Nat) : Nat := b.rd (R.SLL_SESs_ST_STATE s)

/-- The payload of session s that the host and the loops see (R355). -/
def Blk.sesPayload (b : Blk) (s : Nat) : List Byte :=
  if s = 0 then b.sll.mPay else if b.sesState s = 2 then b.sll.pay.getD s [] else b.sll.safe.getD s []

/-- SLL_WINDAT follows SLL_WINSEL and the payloads (R357). -/
def Blk.showWindow (b : Blk) : Blk :=
  let s := b.rd R.SLL_WINSEL_SES
  let bytes := if b.on R.SLL_WINSEL_SAFE then b.sll.safe.getD s [] else b.sesPayload s
  b.each 12 (fun w b => b.wr (R.SLL_WINDAT_DAT w) (leAt bytes (4 * w) 4))

/-- SLL_STAT.NFAIL: enabled receive sessions not in RUN. -/
def Blk.showFails (b : Blk) : Blk :=
  b.wrSat R.SLL_STAT_NFAIL ((List.range 64).filter (fun s => decide (0 < s) && b.on (R.SLL_SESs_CFG_EN s) &&
    !b.on (R.SLL_SESs_CFG_DIR s) && b.sesState s != 2)).length

/-- What Hasp sees of session s (R323, R355). -/
def Blk.sesPermit (b : Blk) (s : Nat) (run : Bool) : Blk :=
  (b.flag (R.SLL_SESs_ST_PERMIT s) run).onHasp (fun h => { h with permit := h.permit.set s run })

/-- The outputs that take their reset from session s. -/
def Blk.resetOuts (b : Blk) (s : Nat) : List Nat :=
  (List.range 4).filter (fun k => b.rd (R.HASP_STOCFG_RSRC k) == 8 && b.resetSession k == some s)

/-- Session s fails (R354, R355): safe values in force, a reset pulse in progress void (R356). -/
def Blk.sesFail (b : Blk) (s cause : Nat) : Blk :=
  let b := (b.wr (R.SLL_SESs_ST_STATE s) 3).wr (R.SLL_SESs_ST_CAUSE s) cause
  let b := (b.wr (R.SLL_SESs_ST_RSC s) 0).inc (R.SLL_SESs_CNT_FAILS s)
  let b := (b.flag (R.SLL_SESs_ST_RSTB s) false).sesPermit s false
  let b := b.eachOf (b.resetOuts s) (fun k b => b.onSto k (fun x => { x with riseOk := false }))
  (((b.raise 0xA301 s [Int.ofNat cause]).showFails).showWindow).settle

/-- The values of an accepted frame come into force (R354 to R356). `us` is the length of a reset pulse that the frame
ends; of a session bound to Hinge the time after the tick, from which the engine counts the length itself. -/
def Blk.sesLive (b : Blk) (s : Nat) (ctrl : Nat) (pay : List Byte) (us : Nat) : Blk :=
  let was := b.on (R.SLL_SESs_ST_RSTB s)
  let rst := bitAt ctrl 1
  let at0 := Int.ofNat (400 * us)
  let us := if b.rd (R.SLL_SESs_CFG_TRANS s) = 2 then ((b.sll.rstAge.getD s 0 + Int.ofNat (400 * us)) / 400).toNat else us
  let b := b.onSll (fun x =>
    { x with pay := x.pay.set s pay, age := x.age.set s 0
             rstAge := if rst && !was then x.rstAge.set s (-at0) else x.rstAge })
  let b := (b.flag (R.SLL_SESs_ST_RSTB s) rst).sesPermit s (bitAt ctrl 0)
  let b := b.onHasp (fun h => { h with wdOut := h.wdOut.set s false })
  let b := if rst && !was then b.eachOf (b.resetOuts s) (fun k b => b.resetRise k)
    else if was && !rst then b.eachOf (b.resetOuts s) (fun k b => b.doResetPulse k us) else b
  (b.showFails.showWindow).settle

/-- A frame of session s is judged by its sequence (R352, R354): d modulo 65,536. -/
def Blk.sesSequence (b : Blk) (s seq ctrl : Nat) (pay : List Byte) (us : Nat) : Blk :=
  let st := b.sesState s
  let base := fun (b : Blk) (n : Nat) => ((b.wr (R.SLL_SESs_ST_SEQ s) seq).wr (R.SLL_SESs_ST_RSC s) n).onSll
    (fun x => { x with seen := x.seen.set s true })
  if b.sll.seen.getD s false = false then base b 1
  else
    let d := (seq + 65536 - b.rd (R.SLL_SESs_ST_SEQ s)) % 65536
    if 1 ≤ d ∧ d ≤ b.rd (R.SLL_SESs_CFG_MAXGAP s) then
      let b := b.wr (R.SLL_SESs_ST_SEQ s) seq
      let b := if 1 < d then (b.add (R.SLL_SESs_CNT_LOST s) (d - 1)).raiseLim 1024 0xA103 s [Int.ofNat (d - 1)] else b
      if st = 2 then b.sesLive s ctrl pay us
      else
        let n := min (b.rd (R.SLL_SESs_ST_RSC s) + 1) 15
        let b := b.wr (R.SLL_SESs_ST_RSC s) n
        if b.rd (R.SLL_SESs_CFG_RESYNC s) ≤ n then
          ((b.wr (R.SLL_SESs_ST_STATE s) 2).raise (if st = 1 then 0xA001 else 0xA002) s []).sesLive s ctrl pay us
        else b
    else
      let cause := if d = 0 then 2 else if d < 32768 then 4 else 3
      if st = 2 then b.sesFail s cause
      else base (b.wr (R.SLL_SESs_ST_CAUSE s) cause) 1

/-- A frame for receive session s is checked: length, CRC, sequence (R348, R351). -/
def Blk.sesFrame (b : Blk) (s : Nat) (bytes : List Byte) (exact : Bool) (us : Nat) : Blk :=
  let len := b.rd (R.SLL_SESs_CFG_LEN s)
  let fits := if exact then bytes.length == 10 + len else decide (10 + len ≤ bytes.length)
  let bad := fun (b : Blk) (cause : Nat) =>
    if b.sesState s = 2 then b.sesFail s cause
    else (b.wr (R.SLL_SESs_ST_CAUSE s) cause).wr (R.SLL_SESs_ST_RSC s) 0
  if byteAt bytes 0 ≠ 0x11 ∨ byteAt bytes 4 ≠ len ∨ fits = false then bad b 6
  else if crc32c (leBytes 4 (b.rd (R.SLL_SESs_CID_CID s)) ++ bytes.take (6 + len)) ≠ leAt bytes (6 + len) 4 then bad b 1
  else b.sesSequence s (leAt bytes 2 2) (byteAt bytes 5) ((bytes.drop 6).take len) us

/-- A frame with this SID that R350 discards; the record names the session (R366). -/
def Blk.sesUnknown (b : Blk) (sid : Nat) : Blk := (b.inc R.SLL_STAT_UNK).raiseLim 1024 0xA102 sid [Int.ofNat sid]

/-- Session s is an enabled receive session bound to transport t (R350). -/
def Blk.sesBound (b : Blk) (s t : Nat) : Bool :=
  decide (1 ≤ s) && decide (s < 64) && b.on (R.SLL_SESs_CFG_EN s) && !b.on (R.SLL_SESs_CFG_DIR s) &&
    b.rd (R.SLL_SESs_CFG_TRANS s) == t

/-- The CAN identifier of session s: bits 28:0 of ADDR, bits 10:0 where XID is 0 (R349). -/
def Blk.sesId (b : Blk) (s : Nat) : Nat :=
  b.rd (R.SLL_SESs_ADDR_ADDR s) % (if b.on (R.SLL_SESs_CFG_XID s) then 2 ^ 29 else 2 ^ 11)

/-- The session bound to a CAN controller and identifier (R349). -/
def Blk.sesOfCan (b : Blk) (k : Nat) (xid : Bool) (id : Nat) : Option Nat :=
  (List.range 64).find? (fun s => b.sesBound s 1 && b.rd (R.SLL_SESs_CFG_CANK s) == k &&
    b.on (R.SLL_SESs_CFG_XID s) == xid && b.sesId s == id)

/-- A frame with SID 0 is received: a management frame with VT 0x12 (R364), else one that names no receive session (R350). -/
def Blk.doMgmtReceived (b : Blk) (bytes : List Byte) : Blk :=
  if b.on R.SLL_CFG_EN = false ∨ b.powered .fabric = false then b
  else if byteAt bytes 0 ≠ 0x12 ∨ byteAt bytes 1 ≠ 0 then b.sesUnknown (byteAt bytes 1)
  else
    let len := byteAt bytes 4
    let seq := leAt bytes 2 2
    let ok := decide (len ≤ 48) && decide (10 + len ≤ bytes.length) &&
      crc32c (leBytes 4 (b.rd R.SLL_MCID_MCID) ++ bytes.take (6 + len)) == leAt bytes (6 + len) 4 &&
      (match b.sll.mSeq with
       | some o => decide (1 ≤ (seq + 65536 - o) % 65536) && decide ((seq + 65536 - o) % 65536 ≤ 255)
       | none => true)
    if ok then
      let pay := (bytes.drop 6).take len
      let b := (b.onSll (fun x => { x with mSeq := some seq, mPay := pay })).showWindow
      b.raise 0xA005 0 (Int.ofNat seq :: (List.range 16).map (fun i => Int.ofNat (byteAt pay i)))
    else b.inc R.SLL_STAT_MGF

/-- The first word of a received Slalu frame whose tag fails at the Slalu engine (R368, R369), under the keys of its exit. -/
def slaluBad (c : Carriage) (bytes : List Byte) (tags : List (Nat × Flip)) : Option Nat :=
  let key := match c with
    | .udp _ _ => 0x8000
    | .can k _ _ _ => 0x7000 + k.val * 256
    | .hinge => 0x9000 + byteAt bytes 1 % 64 * 64
  (badWord tags key ((bytes.length + 3) / 4) (fun w => leAt bytes (4 * w) 4)).map (key + ·)

/-- SLALU_FRAME_RECEIVED (R349 to R356): `us` is the length of the reset pulse that this frame ends; over Hinge, its time
after the tick. -/
def Blk.doSlaluFrame (b : Blk) (c : Carriage) (bytes : List Byte) (tags : List (Nat × Flip)) (us : Nat) : Blk :=
  if b.on R.SLL_CFG_EN = false ∨ b.powered .fabric = false ∨ b.blockGood 3 = false then b
  else match slaluBad c bytes tags with
  | some key => b.wardFail 2 key
  | none =>
    let sid := byteAt bytes 1
    match c with
    | .udp port plain =>
      if plain = false ∨ port.toNat ≠ b.rd R.SLL_CFG_UDPPORT then b.sesUnknown sid
      else if sid = 0 then b.doMgmtReceived bytes
      else if b.sesBound sid 0 then b.sesFrame sid bytes true us else b.sesUnknown sid
    | .can k xid id fdf =>
      if fdf = false then b.sesUnknown sid
      else if sid = 0 then b.doMgmtReceived bytes
      else match b.sesOfCan k.val xid id.toNat with
        | some s => if b.sesBound sid 1 then b.sesFrame s bytes false us else b.sesUnknown sid
        | none => b.sesUnknown sid
    | .hinge =>
      if sid = 0 then b.doMgmtReceived bytes
      else if b.sesBound sid 2 then b.sesFrame sid bytes false us else b.sesUnknown sid

/-- The watchdog of session s can have run out: WD × 100 µs since the last accepted frame (R353). -/
def Blk.sesOverdue (b : Blk) (s : Nat) : Bool :=
  decide (b.rd (R.SLL_SESs_WD_WD s) * 40000 ≤ b.sll.age.getD s 0 + b.period)

/-- SLALU_WATCHDOG_EXPIRY (R353, R354). -/
def Blk.doSesWatchdog (b : Blk) (s : Nat) : Blk :=
  if b.sesState s = 2 ∧ b.sesOverdue s then b.sesFail s 5 else b

/-- HASP_SESSION_WATCHDOG (R323, R353): Hasp's own watchdog of a mapped session; with FABRIC or the ticks stopped no frame
is verified and it runs out (R24). -/
def Blk.doHaspSession (b : Blk) (s : Nat) : Blk :=
  if b.powered .safe && (List.range 4).any (fun k => b.slMapped s k) && b.hasp.permit.getD s false &&
      (!b.ticks || b.sesOverdue s) then
    (b.onHasp (fun h => { h with wdOut := h.wdOut.set s true })).settle
  else b

/-- Bytes of a list replaced from an offset on. -/
def splice (old : List Byte) (ofs : Nat) (new : List Byte) : List Byte :=
  (List.range (max old.length (ofs + new.length))).map (fun i =>
    if ofs ≤ i ∧ i < ofs + new.length then new.getD (i - ofs) 0 else old.getD i 0)

/-- SLL_TXDATA (R359, R417): data and RUN of a transmit session. -/
def Blk.doTxData (b : Blk) (h : Hdr) (s : Nat) (run : Bool) (ofs cnt : Nat) (data : List Byte) : Blk :=
  let len := b.rd (R.SLL_SESs_CFG_LEN s)
  let low := if b.on (R.SLL_SESs_CFG_STATUS s) then 8 else 0
  if s = 0 ∨ b.on (R.SLL_SESs_CFG_EN s) = false ∨ b.on (R.SLL_SESs_CFG_DIR s) = false then b.refuse h 0x30 0x0401
  else if cnt = 0 ∨ 48 < cnt then b.refuse h 0x30 0x0004
  else if len < ofs + cnt ∨ ofs < low then b.refuse h 0x30 0x0402
  else
    (b.onSll (fun x =>
      { x with data := x.data.set s (splice (x.data.getD s []) ofs (data.take cnt)), run := x.run.set s run })).ok h 0x30

end Sys2Proof.Machine
end

