-- ==== Sys2Proof/Machine/Can.lean ====
section
/-! DEFINITION. The CAN FD controllers (chapter 20): states, filter lists, receive FIFOs, transmit buffers. -/

namespace Sys2Proof.Machine

def Blk.can (b : Blk) (k : Nat) : Can := b.cans.getD k default
def Blk.onCan (b : Blk) (k : Nat) (f : Can → Can) : Blk := { b with cans := b.cans.modify k f }

/-- STATE of controller k: 0 OFF, 1 INIT, 2 INTEGRATING, 3 ACTIVE, 4 PASSIVE, 5 BUSOFF, 6 RECOVERING, 7 SLEEP (R452). -/
def Blk.canState (b : Blk) (k : Nat) : Nat := b.rd (R.CANn_STAT_STATE k)

/-- The controller takes part in the bus. -/
def Blk.canOn (b : Blk) (k : Nat) : Bool := b.powered .comm && (b.canState k == 3 || b.canState k == 4)

/-- Restricted operation (R453). -/
def Blk.canRestricted (b : Blk) (k : Nat) : Bool :=
  b.rd (R.CANn_CFG_MODE k) == 1 ||
    (b.on R.MIR_CFG_CANRO && [1, 2, 4, 5].contains (b.rd R.MIR_STAT_ROLE))

/-- CANn_STAT.RESTR follows the configuration and the role. -/
def Blk.showRestr (b : Blk) : Blk := b.each 4 (fun k b => b.flag (R.CANn_STAT_RESTR k) (b.canRestricted k))

/-- The level of CANn_STB (R449). -/
def Blk.canStandby (b : Blk) (k : Nat) : Bool := b.canState k == 7 && !b.on (R.CANn_CFG_ROLE k)

def txbFld (k i : Nat) : Fld := sliceOf (R.CANn_TXSTAT_TXB0 k) i 3

/-- State of transmit buffer i: 0 IDLE, 1 PENDING, 2 ACTIVE, 3 SENT, 4 CANCELLED, 5 TAGERR (R463). -/
def Blk.txb (b : Blk) (k i : Nat) : Nat := b.rd (txbFld k i)

def Blk.setTxb (b : Blk) (k i v : Nat) : Blk := b.wr (txbFld k i) v

def Can.buf (x : Can) (i : Nat) : TxBuf := x.bufs.getD i default
def Blk.onTxb (b : Blk) (k i : Nat) (f : TxBuf → TxBuf) : Blk :=
  b.onCan k (fun x => { x with bufs := x.bufs.modify i f })

/-- The buffer in an attempt. -/
def Blk.canActive (b : Blk) (k : Nat) : Option Nat := [0, 1, 2].find? (fun i => b.txb k i == 2)

/-- TXB0 of controller k belongs to Slalu: an enabled transmit session is bound to it (R349, R459). -/
def Blk.slaluOwnsTx (b : Blk) (k : Nat) : Bool :=
  (List.range 64).any (fun s => decide (1 ≤ s) && b.on (R.SLL_SESs_CFG_EN s) && b.on (R.SLL_SESs_CFG_DIR s) &&
    b.rd (R.SLL_SESs_CFG_TRANS s) == 1 && b.rd (R.SLL_SESs_CFG_CANK s) == k)

/-- An enabled Slalu session is bound to controller k (R450, R465). -/
def Blk.slaluBound (b : Blk) (k : Nat) : Bool :=
  (List.range 64).any (fun s => decide (1 ≤ s) && b.on (R.SLL_SESs_CFG_EN s) &&
    b.rd (R.SLL_SESs_CFG_TRANS s) == 1 && b.rd (R.SLL_SESs_CFG_CANK s) == k)

/-- REC as one number. -/
def Blk.canRec (b : Blk) (k : Nat) : Nat := b.rd (R.CANn_ECNT_REC k) + 128 * b.rd (R.CANn_ECNT_RP k)

def Blk.setRec (b : Blk) (k v : Nat) : Blk :=
  (b.wr (R.CANn_ECNT_REC k) (min v 255)).flag (R.CANn_ECNT_RP k) (decide (127 < v))

/-- Data bytes of a DLC (R448, R459): classical frames send at most 8. -/
def dlcLen (fdf : Bool) (dlc : Nat) : Nat :=
  if dlc ≤ 8 then dlc
  else if fdf then [12, 16, 20, 24, 32, 48, 64].getD (dlc - 9) 64
  else 8

/-- The session whose Slalu frame a CAN frame carries (R347). -/
def canSes (f : CanFrame) : Nat := byteAt f.data 1 % 64

/-- A waiting frame of session s is replaced by the session's next (R362). -/
def Blk.slaluLost (b : Blk) (s : Nat) : Blk :=
  if s = 0 then b else (b.inc (R.SLL_SESs_CNT_REPL s)).raiseLim 1024 0xA104 s [Int.ofNat s]

/-- The next frame that waits for buffer i, if any, takes it. -/
def Blk.nextTx (b : Blk) (k i : Nat) : Blk :=
  match ((b.can k).buf i).next with
  | f :: l => (b.setTxb k i 1).onTxb k i (fun y => { y with f := f, next := l })
  | [] => b

/-- A CAN_CANCEL that waited for its attempt completes, unless PERST_N came between (R404, R463). -/
def Blk.cancelDone (b : Blk) (h : Option Hdr) (status : Nat) : Blk :=
  match h with
  | some h => b.complete h 0x52 status
  | none => b

/-- The buffer's attempt ends without its frame on the bus (R461 to R463): back to PENDING, withdrawn by a cancel, or
replaced by the next frame of its Slalu session (R362). -/
def Blk.attemptFails (b : Blk) (k i : Nat) : Blk :=
  let x := (b.can k).buf i
  match x.cancel with
  | some (h, _) => (((b.setTxb k i 4).onTxb k i (fun y => { y with cancel := none })).cancelDone h 0x00).nextTx k i
  | none =>
    let b := b.setTxb k i 1
    match x.next.find? (fun g => canSes g == canSes x.f) with
    | some g => (b.onTxb k i (fun y => { y with f := g, next := y.next.filter (fun h => canSes h != canSes x.f) })).slaluLost (canSes x.f)
    | none => b

/-- Every buffer of the controller that is in an attempt leaves it. -/
def Blk.endAttempt (b : Blk) (k : Nat) : Blk :=
  match b.canActive k with
  | some i => b.attemptFails k i
  | none => b

/-- ACTIVE and PASSIVE follow the counters (R452). -/
def Blk.canErrState (b : Blk) (k : Nat) : Blk :=
  let hi := decide (127 < b.rd (R.CANn_ECNT_TEC k)) || decide (127 < b.canRec k)
  if b.canState k = 3 ∧ hi = true then (b.wr (R.CANn_STAT_STATE k) 4).raise 0xD102 k []
  else if b.canState k = 4 ∧ hi = false then (b.wr (R.CANn_STAT_STATE k) 3).raise 0xD001 k []
  else b

/-- The words of the element at the head of a FIFO (R457). -/
def RxEl.word (e : RxEl) (w : Nat) : Nat :=
  let d := e.f.data.take (if e.f.rtr then 0 else dlcLen e.f.fdf e.f.dlc)
  match w with
  | 0 => e.f.id + 2 ^ 29 * b2n e.f.rtr + 2 ^ 30 * b2n e.f.xtd + 2 ^ 31 * b2n e.f.esi
  | 1 => e.f.dlc + 16 * b2n e.f.brs + 32 * b2n e.f.fdf + 64 * b2n e.pri + 128 * b2n e.tagf + 256 * e.idx +
      65536 * b2n (e.f.xtd && e.idx != 255)
  | 2 => e.fn % 2 ^ 32
  | 3 => e.fn / 2 ^ 32 % 65536
  | 4 => e.cyc
  | _ => leAt d (4 * (w - 5)) 4

/-- CANn_RXW and CANn_RXF follow FIFO q; an empty FIFO reads 0 (R458). -/
def Blk.showFifo (b : Blk) (k q : Nat) : Blk :=
  let l := (b.can k).fifos.getD q []
  let b := b.wr (R.CANn_RXF_FILL k q) l.length
  b.each 21 (fun w b => b.wr (R.CANn_RXW_WORD k q w) (match l with | e :: _ => e.word w | [] => 0))

def Blk.onFifo (b : Blk) (k q : Nat) (f : List RxEl → List RxEl) : Blk :=
  (b.onCan k (fun x => { x with fifos := x.fifos.modify q f })).showFifo k q

/-- Store a frame in FIFO q (R455, R456, R458). -/
def Blk.canStore (b : Blk) (k q : Nat) (f : CanFrame) (pri : Bool) (idx cyc : Nat) : Blk :=
  let l := (b.can k).fifos.getD q []
  if 32 ≤ l.length then (b.inc (R.CANn_RXF_DROP k q)).raiseLim 1024 0xD105 k [Int.ofNat q]
  else
    let b := b.onFifo k q (fun l => l ++ [⟨f, pri, idx, b.fn, cyc, false⟩])
    let b := if l.isEmpty && !(b.can k).told.getD q false then
        (b.onCan k (fun x => { x with told := x.told.set q true })).raise 0xD004 k [Int.ofNat q]
      else b
    if pri then b.raise 0xD006 k [Int.ofNat f.id, Int.ofNat idx] else b

/-- Whether a filter element with TYPE, ID1 and ID2 matches an identifier (R454). -/
def filterHits (ty id1 id2 id : Nat) : Bool :=
  match ty with
  | 0 => decide (id1 ≤ id) && decide (id ≤ id2)
  | 1 => id == id1 || id == id2
  | 2 => Nat.land id id2 == Nat.land id1 id2
  | _ => false

/-- ACT, TYPE, ID1 and ID2 of element e of the standard or the extended list (R454). -/
def Can.filter (x : Can) (xtd : Bool) (e : Nat) : Nat × Nat × Nat × Nat :=
  if xtd then
    let w0 := x.ext.getD (2 * e) 0
    let w1 := x.ext.getD (2 * e + 1) 0
    (w0 / 2 ^ 29 % 8, w1 / 2 ^ 30 % 4, w0 % 2 ^ 29, w1 % 2 ^ 29)
  else
    let w := x.std.getD e 0
    (w / 2 ^ 27 % 8, w / 2 ^ 30 % 4, w / 2 ^ 16 % 2 ^ 11, w % 2 ^ 11)

/-- The first element in use that matches, with its action (R455). -/
def Blk.canMatch (b : Blk) (k : Nat) (f : CanFrame) : Option (Nat × Nat) :=
  let n := if f.xtd then b.rd (R.CANn_CFG_FLXTD k) else b.rd (R.CANn_CFG_FLSTD k)
  let hit := fun e =>
    let (act, ty, id1, id2) := (b.can k).filter f.xtd e
    act != 0 && filterHits ty id1 id2 f.id
  ((List.range n).find? hit).map (fun e => (e, ((b.can k).filter f.xtd e).1))

/-- A frame that no Slalu session claims goes through the filter list (R455). -/
def Blk.canFilter (b : Blk) (k : Nat) (f : CanFrame) (cyc : Nat) : Blk :=
  match b.canMatch k f with
  | some (e, act) =>
    if act = 1 ∨ act = 2 then b.canStore k (act - 1) f false e cyc
    else if act = 4 ∨ act = 5 then b.canStore k (act - 4) f true e cyc
    else b
  | none =>
    let nms := b.rd (R.CANn_CFG_NMS k)
    if nms ≤ 1 then b.canStore k nms f false 255 cyc else b

/-- REC after a frame received without error (R448: ISO 11898-1). Above 127 it takes a value from 119 to 127, which the
standard leaves open. -/
def Blk.canRecDown (b : Blk) (k : Nat) : Blk :=
  if b.on (R.CANn_STAT_RESTR k) then b
  else if 127 < b.canRec k then
    let (i, b) := b.free
    (b.setRec k (119 + Config.freeNat i % 9)).canErrState k
  else b.setRec k (b.canRec k - 1)

/-- A CAN FD frame with the identifier of management frames, on a controller to which a session is bound (R364). -/
def Blk.canMgmt (b : Blk) (k : Nat) (f : CanFrame) : Bool :=
  b.slaluBound k && f.fdf && f.xtd == (Config.mgmtCanId k).1 && f.id == (Config.mgmtCanId k).2 % 2 ^ 29 &&
    byteAt f.data 0 == 0x12 && byteAt f.data 1 == 0

/-- CAN_FRAME_RECEIVED (R349, R455, R456): Slalu sessions first, then the filter list. -/
def Blk.doCanReceived (b : Blk) (k : Fin 4) (f : CanFrame) (cyc us : Nat) : Blk :=
  if b.canOn k.val then
    let b := b.canRecDown k.val
    if ((b.sesOfCan k.val f.xtd f.id).isSome || b.canMgmt k.val f) && b.on R.SLL_CFG_EN then
      b.doSlaluFrame (.can k f.xtd (BitVec.ofNat 29 f.id) f.fdf) f.data [] us
    else b.canFilter k.val f cyc
  else b

/-- The arbitration field as a number: of two frames, the one with the lower number wins (R461). -/
def arbField (f : CanFrame) : Nat :=
  if f.xtd then f.id / 2 ^ 18 * 2 ^ 21 + 2 ^ 20 + 2 ^ 19 + f.id % 2 ^ 18 * 2 + b2n f.rtr
  else f.id * 2 ^ 21 + 2 ^ 20 * b2n f.rtr

/-- The choice among the PENDING buffers (R461, R462). -/
def Blk.canChoice (b : Blk) (k : Nat) : Option Nat :=
  let p := [0, 1, 2].filter (fun i => b.txb k i == 1)
  match p.find? (fun i => ((b.can k).buf i).first) with
  | some i => some i
  | none =>
    if b.on (R.CANn_CFG_TXORD k) then p.head?
    else p.find? (fun i => p.all (fun j => arbField ((b.can k).buf i).f ≤ arbField ((b.can k).buf j).f))

/-- Word w of a frame as a transmit buffer holds it: identifier, control, data (log entry 156). -/
def canTxWord (f : CanFrame) (w : Nat) : Nat :=
  match w with
  | 0 => f.id + 2 ^ 29 * b2n f.rtr + 2 ^ 30 * b2n f.xtd + 2 ^ 31 * b2n f.esi
  | 1 => f.dlc + 16 * b2n f.brs + 32 * b2n f.fdf
  | w + 2 => leAt f.data (4 * w) 4

/-- The loop delay of the frame being sent is measured (R451): FD frames with BRS = 1, TDC.EN = 1; a free value. -/
def Blk.measureTdc (b : Blk) (k : Nat) : Blk :=
  match b.canActive k with
  | some i =>
    if ((b.can k).buf i).f.fdf && ((b.can k).buf i).f.brs && b.on (R.CANn_TDC_EN k) then
      let (n, b) := b.free
      b.wr (R.CANn_STAT_TDCV k) (Config.freeNat n)
    else b
  | none => b

/-- CAN_TX_ATTEMPT (R461, R464). -/
def Blk.doCanAttempt (b : Blk) (k : Nat) (tag : TagCheck) : Blk :=
  if b.canOn k = false ∨ b.on (R.CANn_STAT_RESTR k) = true ∨ (b.canActive k).isSome then b
  else match b.canChoice k with
    | none => b
    | some i =>
      let b := b.eachOf [0, 1, 2] (fun j b => b.onTxb k j (fun y => { y with first := false }))
      let key := 0x7000 + k * 256 + i * 32
      let go := fun (b : Blk) => b.setTxb k i 2
      let bad := fun hits => badWord hits key 18 (canTxWord ((b.can k).buf i).f)
      match bad tag.first, bad tag.again with
      | none, _ => go b
      | some w, none => go ((b.wardFail 4 (key + w)).raise 0xD201 k [Int.ofNat i])
      | some w, some _ => (((b.wardFail 4 (key + w)).setTxb k i 5).raise 0xD202 k [Int.ofNat i]).nextTx k i

/-- CAN_FRAME_SENT (R451, R461, R463). -/
def Blk.doCanSent (b : Blk) (k : Nat) : Blk :=
  match (if b.canOn k then b.canActive k else none) with
  | none => b
  | some i =>
    let x := (b.can k).buf i
    let b := (((b.measureTdc k).setTxb k i 3).inc (R.CANn_TXSTAT_SENT k)).send (.can k x.f)
    let b := (b.wr (R.CANn_ECNT_TEC k) (b.rd (R.CANn_ECNT_TEC k) - 1)).canErrState k
    let b := if x.report then b.raise 0xD010 k [Int.ofNat i, Int.ofNat x.tag, Int.ofNat b.fn] else b
    let b := match x.cancel with
      | some (h, won) => b.cancelDone h (if won then 0x09 else 0x00)
      | none => b
    (b.onTxb k i (fun y => { y with cancel := none })).nextTx k i

/-- CAN_ARBITRATION_LOST (R461, R463). -/
def Blk.doCanLost (b : Blk) (k : Nat) : Blk := if b.canOn k then b.endAttempt k else b

/-- Bus-off (R452, R462): the frames stay, the one in the attempt goes first after recovery. -/
def Blk.canBusOff (b : Blk) (k : Nat) : Blk :=
  let act := (b.canActive k).filter (fun i => ((b.can k).buf i).cancel.isNone)
  let b := b.endAttempt k
  let b := match act with
    | some i => b.onTxb k i (fun y => { y with first := b.txb k i == 1 })
    | none => b
  ((b.wr (R.CANn_STAT_STATE k) 5).inc (R.CANn_CNT_BOFF k)).raise 0xD301 k []

/-- CAN_BUS_ERROR (R452, R453, R463): an error of the kind LEC; `dTec` and `dRec` are what ISO 11898-1 adds to the
counters for it. -/
def Blk.doCanError (b : Blk) (k lec dTec dRec : Nat) : Blk :=
  if b.canOn k then
    let b := ((b.measureTdc k).wr (R.CANn_STAT_LEC k) lec).inc (R.CANn_CNT_ERR k)
    if b.on (R.CANn_STAT_RESTR k) then b
    else
      let tec := b.rd (R.CANn_ECNT_TEC k) + dTec
      let b := (b.wr (R.CANn_ECNT_TEC k) (min tec 255)).setRec k (b.canRec k + dRec)
      let b := b.canErrState k
      if 255 < tec then b.canBusOff k else b.endAttempt k
  else b

/-- CAN_INTEGRATED (R452). -/
def Blk.doCanIntegrated (b : Blk) (k : Nat) : Blk :=
  if b.powered .comm ∧ b.canState k = 2 then (b.wr (R.CANn_STAT_STATE k) 3).canErrState k else b

/-- CAN_PROTOCOL_EXCEPTION (R452, R469). -/
def Blk.doCanPxe (b : Blk) (k : Nat) : Blk :=
  if b.canOn k then
    (((b.endAttempt k).flag (R.CANn_STAT_PXE k) true).raise 0xD103 k []).wr (R.CANn_STAT_STATE k) 2
  else b

/-- CAN_RECOVER (R452): a write of CANn_CTL.RECOVER. -/
def Blk.doCanRecover (b : Blk) (k : Nat) : Blk :=
  if b.powered .comm ∧ b.canState k = 5 then (b.wr (R.CANn_ECNT_RECOVN k) 0).wr (R.CANn_STAT_STATE k) 6 else b

/-- CAN_RECOVERY_DONE (R452). -/
def Blk.doCanRecovered (b : Blk) (k : Nat) : Blk :=
  if b.powered .comm ∧ b.canState k = 6 then
    let b := ((b.wr (R.CANn_ECNT_RECOVN k) 128).wr (R.CANn_ECNT_TEC k) 0).setRec k 0
    (b.raise 0xD002 k []).wr (R.CANn_STAT_STATE k) 3
  else b

/-- CAN_SLEEP_ENTER (R449, R465): the first bus idle after an accepted CAN_SLEEP. -/
def Blk.doCanSleepEnter (b : Blk) (k : Nat) : Blk :=
  if b.canOn k ∧ (b.can k).sleepReq then
    (b.wr (R.CANn_STAT_STATE k) 7).onCan k (fun x => { x with sleepReq := false })
  else b

/-- A sleeping controller wakes (R466). -/
def Blk.canWakes (b : Blk) (k cause : Nat) : Blk :=
  (b.wr (R.CANn_STAT_STATE k) 2).raise 0xD003 k [Int.ofNat cause]

/-- CAN_WAKE_EDGE (R466). -/
def Blk.doCanWakeEdge (b : Blk) (k : Nat) : Blk :=
  if b.powered .comm ∧ b.canState k = 7 ∧ b.on (R.CANn_CFG_ROLE k) = false then b.canWakes k 1 else b

/-- A frame is the wake frame of controller k (R466). -/
def Blk.isWakeFrame (b : Blk) (k : Nat) (f : CanFrame) : Bool :=
  let m := b.rd (R.CANn_WAKEM_MASK k)
  let dm := b.rd (R.CANn_WAKED_DMASK k)
  f.xtd == b.on (R.CANn_WAKEID_XTD k) && Nat.land f.id m == Nat.land (b.rd (R.CANn_WAKEID_ID k)) m &&
    (!b.on (R.CANn_WAKED_DEN k) ||
      (!f.data.isEmpty && Nat.land (byteAt f.data 0) dm == b.rd (R.CANn_WAKED_DVAL k)))

/-- A CAN_WAKE for controller k takes effect at the tick that ends this frame (R466). -/
def Blk.wakeWaits (b : Blk) (k : Nat) : Bool :=
  b.host.wait.any (fun w => w.ticks == 1 && match w.cmd with
    | .canWake _ j => j.val == k
    | _ => false)

/-- CAN_WAKE_FRAME (R466): with a CAN_WAKE in the same frame period the cause is 3. -/
def Blk.doCanWakeFrame (b : Blk) (k : Nat) (f : CanFrame) : Blk :=
  if b.powered .comm ∧ b.canState k = 7 ∧ b.on (R.CANn_CFG_ROLE k) ∧ b.isWakeFrame k f then
    b.canWakes k (if b.wakeWaits k then 3 else 2)
  else b

/-- CAN_RXF_ACK (R458): the n oldest elements leave FIFO q. -/
def Blk.doCanAck (b : Blk) (k q n : Nat) : Blk :=
  if b.powered .comm ∧ 1 ≤ n ∧ n ≤ 32 then
    let had := !((b.can k).fifos.getD q []).isEmpty
    let b := b.onFifo k q (fun l => l.drop n)
    if had && ((b.can k).fifos.getD q []).isEmpty then b.onCan k (fun x => { x with told := x.told.set q false }) else b
  else b

/-- CAN_RXW_READ (R458): a word that fails its tag marks its element. -/
def Blk.doCanRead (b : Blk) (k q w : Nat) (tag : Option Flip) : Blk :=
  let ok := fun (f : Flip) (e : RxEl) => flipPasses f (0x7080 + k * 256 + q * 32 + w) (e.word w)
  let bad := match tag, (b.can k).fifos.getD q [] with
    | some f, e :: _ => !ok f e
    | _, _ => false
  if b.powered .comm ∧ bad = true then
    (b.inc (R.CANn_CNT_RXTAG k)).onFifo k q (fun l => l.modifyHead (fun e => { e with tagf := true }))
  else b

/-- The state in which CAN_TX and CAN_STAGE are refused (R453, R460). -/
def Blk.canClosed (b : Blk) (k : Nat) : Bool :=
  !b.powered .comm || [0, 1, 7].contains (b.canState k) || b.on (R.CANn_STAT_RESTR k)

/-- CAN_TX (R459, R460). -/
def Blk.doCanTx (b : Blk) (h : Hdr) (k buf flags dlc id : Nat) (data : List Byte) : Blk :=
  let xtd := bitAt flags 0
  let fdf := bitAt flags 1
  let brs := bitAt flags 2
  let rtr := bitAt flags 3
  let staged := bitAt flags 4
  if buf < 3 ∧ (b.txb k buf = 1 ∨ b.txb k buf = 2) then b.complete h 0x50 0x03
  else if b.canClosed k then b.refuse h 0x50 0x0001
  else if 2 < buf ∨ (buf = 0 ∧ b.slaluOwnsTx k) then b.refuse h 0x50 0x0004
  else if (fdf = true ∧ b.on (R.CANn_CFG_FDEN k) = false) ∨ (rtr = true ∧ fdf = true) ∨ (brs = true ∧ fdf = false) ∨
      (14 ≤ dlc ∧ staged = false) ∨ 15 < dlc ∨ (if xtd then 2 ^ 29 else 2 ^ 11) ≤ id then b.refuse h 0x50 0x0004
  else
    let src := if staged then ((b.can k).buf buf).img else data
    let body := if rtr then [] else (src ++ List.replicate 64 0).take (dlcLen fdf dlc)
    let b := b.onTxb k buf (fun y =>
      { y with f := ⟨xtd, rtr, fdf, brs, false, id, dlc, body⟩, tag := h.tag.toNat, report := bitAt flags 5,
               img := if staged then List.replicate 64 0 else y.img, first := false, cancel := none, next := [] })
    (b.setTxb k buf 1).ok h 0x50

/-- CAN_STAGE (R459, R460). -/
def Blk.doCanStage (b : Blk) (h : Hdr) (k buf ofs cnt : Nat) (data : List Byte) : Blk :=
  if b.canClosed k then b.refuse h 0x51 0x0001
  else if 2 < buf ∨ (buf = 0 ∧ b.slaluOwnsTx k) ∨ 64 < ofs + cnt ∨ cnt = 0 ∨ 48 < cnt then b.refuse h 0x51 0x0004
  else (b.onTxb k buf (fun y => { y with img := splice y.img ofs ((data ++ List.replicate 48 0).take cnt) })).ok h 0x51

/-- CAN_CANCEL (R463): `won` is whether the attempt has won arbitration at the tick. -/
def Blk.doCanCancel (b : Blk) (h : Hdr) (k buf : Nat) (won : Bool) : Blk :=
  if 2 < buf then b.refuse h 0x52 0x0004
  else if b.txb k buf = 1 then (((b.setTxb k buf 4).onTxb k buf (fun y => { y with first := false })).nextTx k buf).ok h 0x52
  else if b.txb k buf = 2 then
    if ((b.can k).buf buf).cancel.isSome then b.refuse h 0x52 0x0001
    else b.onTxb k buf (fun y => { y with cancel := some (some h, won) })
  else b.refuse h 0x52 0x0001

/-- CAN_SLEEP (R453, R465). -/
def Blk.doCanSleep (b : Blk) (h : Hdr) (k : Nat) : Blk :=
  if b.on (R.CANn_STAT_RESTR k) ∨ b.canOn k = false ∨ b.slaluBound k ∨
      [0, 1, 2].any (fun i => b.txb k i == 1 || b.txb k i == 2) then b.refuse h 0x53 0x0001
  else (b.onCan k (fun x => { x with sleepReq := true })).ok h 0x53

/-- CAN_WAKE (R453, R466). -/
def Blk.doCanWake (b : Blk) (h : Hdr) (k : Nat) : Blk :=
  if b.on (R.CANn_STAT_RESTR k) then b.refuse h 0x54 0x0001
  else (b.when (b.powered .comm && b.canState k == 7) (fun b => b.canWakes k 3)).ok h 0x54

/-- INIT ends at the applying tick (R452). -/
def Blk.canTick (b : Blk) : Blk :=
  if b.powered .comm then
    (b.each 4 (fun k b => if b.canState k = 1 then b.wr (R.CANn_STAT_STATE k) 2 else b)).showRestr
  else b

/-- A commit cleared EN (R452, R467): pending frames are CANCELLED, the FIFOs lose their contents. -/
def Blk.canOff (b : Blk) (k : Nat) : Blk :=
  let b := b.endAttempt k
  let b := b.eachOf [0, 1, 2] (fun i b => (if b.txb k i = 1 then b.setTxb k i 4 else b).onTxb k i (fun y => { y with next := [] }))
  let b := b.onCan k (fun x => { x with told := [false, false], sleepReq := false })
  ((b.onFifo k 0 (fun _ => [])).onFifo k 1 (fun _ => [])).wr (R.CANn_STAT_STATE k) 0

/-- A commit changed NBT, DBT, TDC, FDEN, ROLE, TXORD or MODE of an enabled controller (R467). -/
def Blk.canReinit (b : Blk) (k : Nat) : Blk :=
  if [3, 4, 7].contains (b.canState k) then
    (((b.endAttempt k).wr (R.CANn_ECNT_TEC k) 0).setRec k 0).wr (R.CANn_STAT_STATE k) 1
  else b

/-- The consequences of a commit for controller k, from the state before it (R452, R467). -/
def Blk.canCommitted (b old : Blk) (k : Nat) : Blk :=
  let en := b.on (R.CANn_CFG_EN k)
  if old.on (R.CANn_CFG_EN k) = true ∧ en = false then b.canOff k
  else if old.on (R.CANn_CFG_EN k) = false ∧ en = true then b.wr (R.CANn_STAT_STATE k) 1
  else if en = true ∧ (b.rd (R.CANn_NBT_W k) ≠ old.rd (R.CANn_NBT_W k) ∨ b.rd (R.CANn_DBT_W k) ≠ old.rd (R.CANn_DBT_W k) ∨
      b.rd (R.CANn_TDC_W k) ≠ old.rd (R.CANn_TDC_W k) ∨ b.on (R.CANn_CFG_FDEN k) ≠ old.on (R.CANn_CFG_FDEN k) ∨
      b.on (R.CANn_CFG_ROLE k) ≠ old.on (R.CANn_CFG_ROLE k) ∨ b.on (R.CANn_CFG_TXORD k) ≠ old.on (R.CANn_CFG_TXORD k) ∨
      b.rd (R.CANn_CFG_MODE k) ≠ old.rd (R.CANn_CFG_MODE k)) then b.canReinit k
  else b

end Sys2Proof.Machine
end

