-- ==== Sys2Proof/Machine/Lode.lean ====
section
/-! DEFINITION. Lode (chapter 21): ports, forwarding, queues and gates, redundant streams, gPTP, management. Port index
p is 0 for P1 and 1 for P2. -/

namespace Sys2Proof.Machine

def Blk.onLode (b : Blk) (f : Lode → Lode) : Blk := { b with lode := f b.lode }
def Blk.lodePort (b : Blk) (p : Nat) : LodePort := b.lode.ports.getD p default
def Blk.onLodePort (b : Blk) (p : Nat) (f : LodePort → LodePort) : Blk :=
  b.onLode (fun l => { l with ports := l.ports.modify p f })
def Blk.cb (b : Blk) (s : Nat) : CbStream := b.lode.cbs.getD s default
def Blk.onCb (b : Blk) (s : Nat) (f : CbStream → CbStream) : Blk :=
  b.onLode (fun l => { l with cbs := l.cbs.modify s f })

/-- The switch runs. -/
def Blk.lodeOn (b : Blk) : Bool := b.powered .comm && b.on R.LODE_CFG_EN

/-- Port p is up (R474). -/
def Blk.portUp (b : Blk) (p : Nat) : Bool := b.lodeOn && b.on (R.LODE_Pk_CFG_EN p) && b.on (R.LODE_Pk_STAT_LINK p)

/-- The module's MAC address. -/
def Blk.mac (b : Blk) : Nat := b.rd R.LODE_MAC_LO_MAC + 2 ^ 32 * b.rd R.LODE_MAC_HI_MAC

/-- The gPTP multicast address of 802.1AS and the broadcast address. -/
def gptpMac : Nat := 0x0180C200000E
def allMac : Nat := 0xFFFFFFFFFFFF

/-- A group address. -/
def isGroup (mac : Nat) : Bool := mac / 2 ^ 40 % 2 == 1

/-- The big-endian value of `n` bytes from offset `i` (IPv4, UDP, ARP). -/
def beAt (bs : List Byte) (i n : Nat) : Nat := leNat ((bs.drop i).take n).reverse

/-- The `n` bytes of a value, most significant first. -/
def beBytes (n v : Nat) : List Byte := (leBytes n v).reverse

/-- Length on the wire from destination address to FCS, at least 64 (R472, R487). -/
def wireLen (payload : Nat) (tagged rtag : Bool) : Nat :=
  max 64 (18 + (if tagged then 4 else 0) + (if rtag then 6 else 0) + payload)

/-- Members P0, P1, P2 of a VLAN (R476); none where no enabled entry names it. -/
def Blk.vlanMembers (b : Blk) (vid : Nat) : Option (List Bool) :=
  ((List.range 64).find? (fun v => b.on (R.LODE_VLAN_EN v) && b.rd (R.LODE_VLAN_VID v) == vid)).map
    (fun v => [bitAt (b.rd (R.LODE_VLAN_MEMB v)) 0, bitAt (b.rd (R.LODE_VLAN_MEMB v)) 1, bitAt (b.rd (R.LODE_VLAN_MEMB v)) 2])

/-- The queue of a frame by its PCP (R477); a frame without a tag counts as PCP 0. -/
def Blk.queueOf (b : Blk) (f : EthFrame) : Nat := b.rd (sliceOf R.LODE_PCPQ_MAP (f.vlan.getD (0, 0)).2 3)

/-- Put a frame in its egress queue (R477). -/
def Blk.enqueue (b : Blk) (p : Nat) (f : EthFrame) : Blk :=
  if b.portUp p then
    let q := b.queueOf f
    let l := (b.lodePort p).queues.getD q []
    if 32768 < (l.map (fun x => x.1.len)).sum + f.len then
      (b.inc (R.LODE_Pk_CNT_QDROP p)).raiseLim 1024 0xE104 (p + 1) [0]
    else b.onLodePort p (fun x => { x with queues := x.queues.modify q (fun l => l ++ [(f, false)]) })
  else b

/-- The enabled stream of a direction that a destination and VID name (R484). -/
def Blk.streamOf (b : Blk) (tx : Bool) (dmac vid : Nat) : Option Nat :=
  if b.on R.LODE_CFG_CBEN then
    (List.range 32).find? (fun s => b.on (R.LODE_CBSTR_EN s) && b.on (R.LODE_CBSTR_DIR s) == tx &&
      b.rd (R.LODE_CBSTR_VID s) == vid &&
      b.rd (R.LODE_CBMAC_DMAC_LO s) + 2 ^ 32 * b.rd (R.LODE_CBSTR_DMAC_HI s) == dmac)
  else none

/-- External ports a frame of VLAN `vid` for `dmac` goes to, but not `src` (R476). -/
def Blk.targets (b : Blk) (dmac vid : Nat) (src : Option Nat) : List Nat :=
  match b.vlanMembers vid with
  | none => []
  | some m =>
    let ports := [0, 1].filter (fun p => m.getD (p + 1) false && src != some p)
    if isGroup dmac then ports
    else match b.lode.fdb.find? (fun e => e.1 == dmac) with
      | some e => ports.filter (fun p => p == e.2.1)
      | none => ports

/-- A frame from P0 leaves the module (R476, R484). -/
def Blk.lodeOwn (b : Blk) (f : EthFrame) : Blk :=
  if b.lodeOn then
    let vid := (f.vlan.getD (0, 0)).1
    match b.streamOf true f.dmac vid with
    | some s =>
      let n := ((b.cb s).tx + 1) % 65536
      let g := { f with rtag := some n, len := wireLen f.payload.length true true }
      ((b.onCb s (fun x => { x with tx := n })).enqueue 0 g).enqueue 1 g
    | none => b.eachOf (b.targets f.dmac vid none) (fun p b => b.enqueue p f)
  else b

/-- The MAC address of an IPv4 destination: broadcast, group (RFC 1112 form), or the neighbour's (a free value). -/
def ipMac (ip : Nat) : Nat :=
  if ip = 0xFFFFFFFF then allMac
  else if 0xE0000000 ≤ ip ∧ ip < 0xF0000000 then 0x01005E000000 + ip % 2 ^ 23
  else Config.macOf ip % 2 ^ 48

/-- Send a UDP datagram of the module (R349, R486). -/
def Blk.sendUdp (b : Blk) (ip port vid pcp : Nat) (data : List Byte) : Blk :=
  let hdr := (Config.udpHeader (b.rd R.LODE_IP_ADDR) ip port data.length ++ List.replicate 28 0).take 28
  let pay := hdr ++ data
  b.lodeOwn ⟨ipMac ip, b.mac, some (vid, pcp), none, 0x0800, wireLen pay.length true false, pay, true⟩

/-- The one's-complement sum of 16-bit words of RFC 1071. -/
def onesSum : List Byte → Nat
  | a :: c :: l => a.toNat * 256 + c.toNat + onesSum l
  | [a] => a.toNat * 256
  | [] => 0

/-- The Internet checksum. -/
def ipSum (bs : List Byte) : Nat :=
  let s := onesSum bs
  let s := s % 65536 + s / 65536
  65535 - (s % 65536 + s / 65536)

/-- An ARP request for the module's address is answered (R472). -/
def Blk.arp (b : Blk) (f : EthFrame) : Blk :=
  let p := f.payload
  if beAt p 0 8 = 0x0001080006040001 ∧ beAt p 24 4 = b.rd R.LODE_IP_ADDR then
    let sha := beAt p 8 6
    let pay := beBytes 8 0x0001080006040002 ++ beBytes 6 b.mac ++ beBytes 4 (b.rd R.LODE_IP_ADDR) ++
      beBytes 6 sha ++ beBytes 4 (beAt p 14 4)
    b.lodeOwn ⟨sha, b.mac, f.vlan, none, 0x0806, wireLen pay.length true false, pay, true⟩
  else b

/-- An ICMP echo is answered (R472): addresses exchanged, type 0, the rest as it came. -/
def Blk.icmp (b : Blk) (f : EthFrame) (ihl total : Nat) : Blk :=
  let p := f.payload
  if byteAt p ihl = 8 ∧ byteAt p (ihl + 1) = 0 then
    let rest := ((p.take total).drop (ihl + 4))
    let sum := ipSum ([0, 0, 0, 0] ++ rest)
    let pay := p.take 12 ++ (p.drop 16).take 4 ++ (p.drop 12).take 4 ++ (p.take ihl).drop 20 ++ [0, 0] ++ beBytes 2 sum ++ rest
    b.lodeOwn ⟨f.smac, b.mac, f.vlan, none, 0x0800, wireLen pay.length true false, pay, true⟩
  else b

/-- A frame reaches P0 (R349, R350, R472). -/
def Blk.toP0 (b : Blk) (f : EthFrame) (us : Nat) : Blk :=
  let p := f.payload
  if f.etype = 0x0806 then b.arp f
  else if f.etype = 0x86DD then b.doSlaluFrame (.udp 0 false) [] [] us
  else if f.etype = 0x0800 then
    let ihl := byteAt p 0 % 16 * 4
    let total := beAt p 2 2
    let dst := beAt p 16 4
    let whole := beAt p 6 2 % 16384 == 0
    if byteAt p 0 / 16 ≠ 4 ∨ (dst ≠ b.rd R.LODE_IP_ADDR ∧ ¬ (0xE0000000 ≤ dst)) then b
    else if byteAt p 9 = 1 ∧ whole = true then b.icmp f ihl total
    else if byteAt p 9 = 17 then
      b.doSlaluFrame (.udp (BitVec.ofNat 16 (beAt p (ihl + 2) 2)) whole)
        ((p.drop (ihl + 8)).take (beAt p (ihl + 4) 2 - 8)) [] us
    else b
  else b

/-- A copy with sequence number `n` of receive stream s arrives on port p (R484, R485): whether it is accepted. -/
def Blk.recover (b : Blk) (s p n : Nat) : Bool × Blk :=
  let x := b.cb s
  let b := b.onCb s (fun y =>
    { y with pAge := y.pAge.set p 0
             one := (y.one.filter (fun o => o.1 == p)).or (some (p, 0))
             lost := y.lost && decide (y.pAge.getD p 0 < b.rd (R.LODE_CBTIM_PATHTO s) * cycPerMs) })
  match x.last with
  | none => (true, b.onCb s (fun y => { y with last := some n, hist := true :: List.replicate 31 false, age := 0 }))
  | some l =>
    let d := (n + 65536 - l) % 65536
    if 1 ≤ d ∧ d < 32768 then
      (true, b.onCb s (fun y => { y with
        last := some n, hist := (true :: (List.replicate (min (d - 1) 31) false ++ y.hist)).take 32, age := 0 }))
    else
      let back := (65536 - d) % 65536
      if 32 ≤ back then (false, b.inc (R.LODE_CBCNT_ROGUE s))
      else if x.hist.getD back false then (false, b.inc (R.LODE_CBCNT_DUP s))
      else (true, b.onCb s (fun y => { y with hist := y.hist.set back true, age := 0 }))

/-- A frame from an external port that is for P0 (R476, R484). -/
def Blk.arriveP0 (b : Blk) (p vid : Nat) (f : EthFrame) (us : Nat) : Blk :=
  match f.rtag, b.streamOf false f.dmac vid with
  | some n, some s =>
    let (take, b) := b.recover s p n
    if take then b.toP0 { f with rtag := none } us else b
  | _, _ => b.toP0 f us

/-- The source address is learned (R472: 1,024 entries, 300 s). -/
def Blk.learn (b : Blk) (mac p : Nat) : Blk :=
  if isGroup mac then b
  else b.onLode (fun l =>
    let rest := l.fdb.filter (fun e => e.1 != mac)
    if rest.length < 1024 then { l with fdb := rest ++ [(mac, p, 0)] } else l)

/-- A good frame on external port p (R476). -/
def Blk.lodeForward (b : Blk) (p : Nat) (f : EthFrame) (us : Nat) : Blk :=
  let v := f.vlan.getD (b.rd (R.LODE_Pk_CFG_PVID p), 0)
  match b.vlanMembers v.1 with
  | none => b
  | some m =>
    if m.getD (p + 1) false = false then b
    else if f.dmac = gptpMac ∨ f.etype = 0x88F7 then b
    else
      let b := b.learn f.smac p
      let g := { f with vlan := some v }
      if f.dmac = b.mac then (if m.getD 0 false then b.arriveP0 p v.1 g us else b)
      else
        let h := if f.vlan.isSome || Config.relayTagged then { g with len := if f.vlan.isSome then f.len else f.len + 4 } else f
        let b := b.eachOf (b.targets f.dmac v.1 (some p)) (fun q b => b.enqueue q h)
        if (isGroup f.dmac || (b.lode.fdb.find? (fun e => e.1 == f.dmac)).isNone) && m.getD 0 false then b.arriveP0 p v.1 g us else b

/-- LODE_FRAME_RECEIVED (R472, R475, R476): port 0 is P0, 1 and 2 are P1 and P2. -/
def Blk.doLodeReceived (b : Blk) (port : Nat) (f : EthFrame) (us : Nat) : Blk :=
  if port = 0 then b.lodeOwn f
  else
    let p := port - 1
    if b.portUp p = false then b
    else if f.good = false ∨ f.len < 64 ∨ (if f.rtag.isSome then 1528 else 1522) < f.len then b.inc (R.LODE_Pk_CNT_RXERR p)
    else if f.etype = 0x8808 then b
    else b.lodeForward p f us

/-- Gates open on port p, one bit per queue (R478). -/
def Blk.gates8 (b : Blk) (p : Nat) : Nat :=
  if b.on (R.LODE_Pk_GCLCFG_EN p) then
    match (b.lodePort p).run with
    | [] => 255
    | l => l.getD (b.lodePort p).ent 0 / 2 ^ 24
  else 255

/-- Time on the wire in ns with preamble and inter-frame gap (R479). -/
def Blk.wireNs (b : Blk) (p len : Nat) : Nat :=
  (len + 20) * (match b.rd (R.LODE_Pk_STAT_SPEED p) with | 0 => 800 | 1 => 80 | _ => 8)

/-- The longest stretch in ns for which a list keeps the gate of queue q open, over two cycles; none if it never
closes. -/
def longestWindow (run : List Nat) (q : Nat) : Option Nat :=
  if run.all (fun e => bitAt (e / 2 ^ 24) q) then none
  else
    some ((run ++ run).foldl (fun (a : Nat × Nat) e =>
      if bitAt (e / 2 ^ 24) q then (a.1 + e % 2 ^ 24, max a.2 (a.1 + e % 2 ^ 24)) else (0, a.2)) (0, 0)).2

/-- The head of queue q of port p may start: its gate is open and stays open long enough (R479). -/
def Blk.mayStart (b : Blk) (p q : Nat) (room : List (Option Nat)) : Bool :=
  match (b.lodePort p).queues.getD q [] with
  | [] => false
  | (f, _) :: _ => bitAt (b.gates8 p) q &&
    (match room.getD q none with | none => true | some ns => decide (b.wireNs p f.len ≤ ns))

/-- Heads that fit no window of their queue are counted, once each (R479). -/
def Blk.countNoFit (b : Blk) (p : Nat) : Blk :=
  if b.on (R.LODE_Pk_GCLCFG_EN p) = false ∨ (b.lodePort p).run.isEmpty then b
  else b.each 8 (fun q b =>
    match (b.lodePort p).queues.getD q [], longestWindow (b.lodePort p).run q with
    | (f, false) :: l, some w =>
      if w < b.wireNs p f.len then
        ((b.onLodePort p (fun x => { x with queues := x.queues.set q ((f, true) :: l) })).inc
          (R.LODE_Pk_CNT_NOFIT p)).raise 0xE104 (p + 1) [1]
      else b
    | _, _ => b)

/-- An Ethernet frame from its destination address to its last byte before the FCS (R6: standard headers keep their order;
802.1Q and 802.1CB tags). -/
def ethBytes (f : EthFrame) : List Byte :=
  beBytes 6 f.dmac ++ beBytes 6 f.smac ++
  (match f.vlan with | some (vid, pcp) => beBytes 2 0x8100 ++ beBytes 2 (pcp * 8192 + vid) | none => []) ++
  (match f.rtag with | some n => beBytes 2 0xF1C1 ++ beBytes 2 0 ++ beBytes 2 n | none => []) ++ beBytes 2 f.etype ++ f.payload

/-- LODE_FRAME_TRANSMIT (R475, R477, R479): `room` gives per queue the ns left until its gate closes. -/
def Blk.doLodeTransmit (b : Blk) (p : Nat) (room : List (Option Nat)) (tags : List (Nat × Flip)) : Blk :=
  if b.portUp p then
    let b := b.countNoFit p
    match [7, 6, 5, 4, 3, 2, 1, 0].find? (fun q => b.mayStart p q room) with
    | none => b
    | some q =>
      match (b.lodePort p).queues.getD q [] with
      | [] => b
      | (f, _) :: l =>
        let b := b.onLodePort p (fun x => { x with queues := x.queues.set q l })
        match badWord tags 0x8000 (((ethBytes f).length + 3) / 4) (fun w => leAt (ethBytes f) (4 * w) 4) with
        | none => b.send (.eth p f)
        | some w => b.wardFail 5 (0x8000 + w % 4096)
  else b

/-- GCL_ENTRY_EXPIRY (R478, R480): the next entry, or the next cycle with the list in force. -/
def Blk.doGclExpiry (b : Blk) (p : Nat) : Blk :=
  if b.lodeOn ∧ b.on (R.LODE_Pk_GCLCFG_EN p) then
    let x := b.lodePort p
    let b := if x.ent + 1 < x.run.length then b.onLodePort p (fun y => { y with ent := y.ent + 1 })
      else b.onLodePort p (fun y => { y with ent := 0, run := y.list.take (b.rd (R.LODE_Pk_GCLCFG_LEN p)) })
    if b.on R.LODE_PTPSTAT_SYNC = false ∧ x.unsync = false then
      (b.onLodePort p (fun y => { y with unsync := true })).raise 0xE105 (p + 1) []
    else b
  else b

/-- LODE_LINK_UP (R474): `speed` is what auto-negotiation found. -/
def Blk.doLinkUp (b : Blk) (p speed : Nat) : Blk :=
  if b.lodeOn ∧ b.on (R.LODE_Pk_CFG_EN p) ∧ b.on (R.LODE_Pk_STAT_LINK p) = false then
    let sp := if b.on (R.LODE_Pk_CFG_MODE p) then 2 else if b.on (R.LODE_Pk_CFG_ANEG p) then speed else b.rd (R.LODE_Pk_CFG_SPEED p)
    ((b.flag (R.LODE_Pk_STAT_LINK p) true).wr (R.LODE_Pk_STAT_SPEED p) sp).raise 0xE001 (p + 1) []
  else b

/-- LODE_LINK_DOWN (R474): every frame queued for the port is dropped. -/
def Blk.doLinkDown (b : Blk) (p : Nat) : Blk :=
  if b.on (R.LODE_Pk_STAT_LINK p) then
    let b := b.onLodePort p (fun x => { x with queues := List.replicate 8 [], pdOk := false })
    (b.flag (R.LODE_Pk_STAT_LINK p) false).raise 0xE101 (p + 1) []
  else b

/-- The frequency offset of a port, in 0.01 ppm, in holdover of the clocks (R483). -/
def Blk.portPpm (b : Blk) (p : Nat) (ofs : Int) (holdover : Bool) : Blk :=
  let b := b.wrS (R.LODE_Pk_STAT_OFS p) ofs
  if holdover && decide (10000 < magI ofs) then
    let b := b.flag (R.LODE_Pk_STAT_PPM p) true
    if (b.lodePort p).ppm then b
    else (b.onLodePort p (fun x => { x with ppm := true })).raise 0xE103 (p + 1) [ofs]
  else b.onLodePort p (fun x => { x with ppm := false })

/-- The gPTP time as the registers show it (R481). -/
def Blk.showNs (b : Blk) : Blk :=
  let n := b.lode.ns.floor.toNat
  (b.wr R.LODE_PTPNS_LO_NS n).wr R.LODE_PTPNS_HI_NS (n / 2 ^ 32)

/-- gPTP runs on port p. -/
def Blk.ptpOn (b : Blk) (p : Nat) : Bool :=
  b.lodeOn && b.on R.LODE_CFG_PTPEN && (if p = 0 then b.on R.LODE_PTPCFG_P1EN else b.on R.LODE_PTPCFG_P2EN)

/-- A role: a port on which gPTP does not run is disabled. -/
def Blk.ptpRole (b : Blk) (p r : Nat) : Nat := if b.ptpOn p then r else 0

/-- GPTP_MESSAGE_RECEIVED (R481, R483). -/
def Blk.doGptp (b : Blk) (p : Nat) (m : GptpMsg) (holdover : Bool) : Blk :=
  if b.ptpOn p then
    match m with
    | .sync offset rate now =>
      ((b.wrS R.LODE_PTPSTAT_OFFS offset).onLode (fun l => { l with ns := now, rate := rate })).showNs
    | .announce p1 p2 => (b.wr R.LODE_PTPSTAT_P1ROLE (b.ptpRole 0 p1.val)).wr R.LODE_PTPSTAT_P2ROLE (b.ptpRole 1 p2.val)
    | .pdelay ofs => (b.portPpm p ofs holdover).onLodePort p (fun x => { x with pdOk := true })
  else b

/-- A slave port exists and the servo offset lies within ±1 µs (R482). -/
def Blk.ptpGood (b : Blk) : Bool :=
  b.lodeOn && b.on R.LODE_CFG_PTPEN && (b.rd R.LODE_PTPSTAT_P1ROLE == 2 || b.rd R.LODE_PTPSTAT_P2ROLE == 2) &&
    decide (magI (b.rdS R.LODE_PTPSTAT_OFFS) ≤ 1000)

/-- PTP_SYNC_GAINED (R480, R482). -/
def Blk.doPtpGained (b : Blk) : Blk :=
  if b.ptpGood ∧ b.on R.LODE_PTPSTAT_SYNC = false then
    let b := b.each 2 (fun p b => b.onLodePort p (fun x => { x with unsync := false }))
    (b.flag R.LODE_PTPSTAT_SYNC true).raise 0xE002 0 []
  else b

/-- PTP_SYNC_LOST (R480, R482). -/
def Blk.doPtpLost (b : Blk) : Blk :=
  if b.on R.LODE_PTPSTAT_SYNC then
    let b := (b.flag R.LODE_PTPSTAT_SYNC false).raise 0xE102 0 []
    b.each 2 (fun p b =>
      if b.on (R.LODE_Pk_GCLCFG_EN p) ∧ (b.lodePort p).run ≠ [] then
        (b.onLodePort p (fun x => { x with unsync := true })).raise 0xE105 (p + 1) []
      else b)
  else b

/-- CB_RECOVERY_RESET (R485). -/
def Blk.doCbReset (b : Blk) (s : Nat) : Blk :=
  if b.on (R.LODE_CBSTR_EN s) ∧ b.on (R.LODE_CBSTR_DIR s) = false ∧ (b.cb s).last.isSome ∧
      b.rd (R.LODE_CBTIM_RSTTO s) * cycPerMs ≤ (b.cb s).age + b.period then
    (b.onCb s (fun x => { x with last := none, hist := List.replicate 32 false })).raise 0xE106 s []
  else b

/-- CB_PATH_LOSS (R485): copies from one port only for PATHTO; the record names the other port. -/
def Blk.doCbPathLoss (b : Blk) (s : Nat) : Blk :=
  let lim := b.rd (R.LODE_CBTIM_PATHTO s) * cycPerMs
  match (b.cb s).one with
  | some (p, t) =>
    if b.on (R.LODE_CBSTR_EN s) ∧ b.on (R.LODE_CBSTR_DIR s) = false ∧ (b.cb s).lost = false ∧ lim ≤ t + b.period ∧
        (b.cb s).pAge.getD p 0 < lim then
      (b.onCb s (fun x => { x with lost := true })).raise 0xE201 s [2 - Int.ofNat p]
    else b
  | none => b

/-- MDIO_GO (R473): a write of LODE_MDIO. -/
def Blk.doMdioGo (b : Blk) (v : Word) : Blk :=
  if b.powered .comm = false ∨ b.on R.LODE_MDIOST_BUSY then b
  else
    let b := b.setWord R.LODE_MDIO_W.off (BitVec.ofNat 32 (Nat.land v.toNat (((findReg R.LODE_MDIO_W.off).map (·.rw)).getD 0)))
    if v.toNat / 2 ^ 31 = 1 then
      let w := b.on R.LODE_MDIO_WR
      ((b.flag R.LODE_MDIOST_BUSY true).onLode (fun l => { l with mdio := some w })).send
        (.mdio (b.on R.LODE_MDIO_C45) w (b.rd R.LODE_MDIO_PHYAD) (b.rd R.LODE_MDIO_REG) (b.rd R.LODE_MDIO_DATA))
    else b

/-- MDIO_DONE (R473). -/
def Blk.doMdioDone (b : Blk) (rdata : Nat) : Blk :=
  match b.lode.mdio with
  | none => b
  | some w =>
    let b := (b.flag R.LODE_MDIOST_BUSY false).onLode (fun l => { l with mdio := none })
    if w then b else b.wr R.LODE_MDIOST_RDATA rdata

/-- PHY_RESET_RELEASE (R473): 10 ms after the commit that enabled the port. -/
def Blk.doPhyRelease (b : Blk) (p : Nat) : Blk :=
  match (b.lodePort p).phyAge with
  | some t =>
    if 10 * cycPerMs ≤ t + b.period then b.onLodePort p (fun x => { x with phyLow := false, phyAge := none }) else b
  | none => b

/-- FDB_ENTRY_AGED (R472): 300 s without a frame from the address. -/
def Blk.doFdbAged (b : Blk) (mac : Nat) : Blk :=
  b.onLode (fun l => { l with fdb := l.fdb.filter (fun e =>
    !(e.1 == mac && decide (300000 * cycPerMs ≤ e.2.2 + b.period))) })

/-- Lode's counters at a tick of `cyc` SYSCLK cycles. -/
def Blk.lodeTick (b : Blk) (cyc : Nat) : Blk :=
  if b.lodeOn then
    (b.onLode (fun l => { l with
      fdb := l.fdb.map (fun e => (e.1, e.2.1, e.2.2 + cyc)),
      cbs := l.cbs.map (fun x =>
        { x with age := x.age + cyc, pAge := x.pAge.map (fun a => a + cyc), one := x.one.map (fun o => (o.1, o.2 + cyc)) }),
      ports := l.ports.map (fun x => { x with phyAge := x.phyAge.map (fun a => a + cyc) }),
      ns := l.ns + (cyc : Rat) * 5 / 2 * (1 + (l.rate : Rat) / 1000000000) })).showNs
  else b

/-- The consequences of a commit for port p, from the state before it (R473, R474, R480). -/
def Blk.lodeCommitted (b old : Blk) (p : Nat) : Blk :=
  let en := b.on (R.LODE_Pk_CFG_EN p)
  let b := if old.on (R.LODE_Pk_CFG_EN p) = false ∧ en = true then
      b.onLodePort p (fun x => { x with phyLow := true, phyAge := some 0 })
    else if old.on (R.LODE_Pk_CFG_EN p) = true ∧ en = false then b.doLinkDown p else b
  if b.on (R.LODE_Pk_GCLCFG_EN p) = false then b.onLodePort p (fun x => { x with run := [], ent := 0, unsync := false }) else b

end Sys2Proof.Machine
end

