-- ==== Sys2Proof/Machine/SlaluTx.lean ====
section
/-! DEFINITION. The Slalu engine's sending side and its work at ticks (chapter 15). -/

namespace Sys2Proof.Machine

/-- The module holds output ownership alone or in a pair (R381). -/
def Blk.isOwner (b : Blk) : Bool := b.rd R.MIR_STAT_ROLE == 0 || b.rd R.MIR_STAT_ROLE == 3

/-- STO of R360 for one output: open, closed, under test, fault. -/
def stoCode (st : Nat) : Nat := if st = 5 then 3 else if st = 3 ∨ st = 4 then 2 else if st = 2 then 1 else 0

/-- Hasp's status in a transmit payload (R360). -/
def Blk.haspStatus (b : Blk) : List Byte :=
  let bits := fun (f : Nat → Bool) (n : Nat) => ((List.range n).map (fun i => b2n (f i) * 2 ^ i)).sum
  leBytes 1 ((List.range 4).map (fun k => stoCode (b.stoState k) * 4 ^ k)).sum ++
  leBytes 1 (bits (fun i => b.on (sdiDem i)) 8) ++
  leBytes 1 (bits (fun i => b.on (sdiDiscf i)) 8) ++
  leBytes 1 (b.rd R.HASP_STAT_HSTATE + 8 * b2n (b.on R.THM_OVRD_ACT)) ++
  leBytes 2 (b.rd R.HASP_GEN_EN) ++
  leBytes 2 (b.rd R.HASP_STAT_DEG)

/-- A Slalu frame: header, payload and check value (R347, R348). -/
def slaluBytes (vt sid seq ctrl cid : Nat) (pay : List Byte) : List Byte :=
  let body := leBytes 1 vt ++ leBytes 1 sid ++ leBytes 2 seq ++ leBytes 1 pay.length ++ leBytes 1 ctrl ++ pay
  body ++ leBytes 4 (crc32c (leBytes 4 cid ++ body))

/-- The length of the CAN FD data field that holds n bytes, and its DLC (R349). -/
def canFieldFor (n : Nat) : Nat × Nat :=
  match [(12, 9), (16, 10), (20, 11), (24, 12), (32, 13), (48, 14), (64, 15)].find? (fun x => decide (n ≤ x.1)) with
  | some x => x
  | none => (64, 15)

/-- A frame of Slalu for TXB0 (R349, R362): it replaces a frame of its session that still waits. Frames of other sessions on
the controller wait in the order in which they were built (DEDUCED, log entry 177). -/
def Blk.slaluCan (b : Blk) (k : Nat) (xid : Bool) (id : Nat) (bytes : List Byte) : Blk :=
  let (len, dlc) := canFieldFor bytes.length
  let f : CanFrame := ⟨xid, false, true, Config.slaluBrs, false, id, dlc, (bytes ++ List.replicate 64 0).take len⟩
  let x := (b.can k).buf 0
  if b.powered .comm = false ∨ b.canState k = 0 then b
  else if b.txb k 0 = 1 ∧ canSes x.f = canSes f then (b.slaluLost (canSes f)).onTxb k 0 (fun y => { y with f := f })
  else if b.txb k 0 = 1 ∨ b.txb k 0 = 2 then
    if x.next.any (fun g => canSes g == canSes f) then
      (b.slaluLost (canSes f)).onTxb k 0 (fun y => { y with next := y.next.map (fun g => if canSes g = canSes f then f else g) })
    else b.onTxb k 0 (fun y => { y with next := y.next ++ [f] })
  else (b.onTxb k 0 (fun y => { y with f := f, report := false, cancel := none, next := [] })).setTxb k 0 1

/-- Transmit session s builds its frame (R359 to R363). -/
def Blk.sesTransmit (b : Blk) (s : Nat) : Blk :=
  let trans := b.rd (R.SLL_SESs_CFG_TRANS s)
  if trans ≠ 2 ∧ b.isOwner = false then b
  else
    let seq := (b.rd (R.SLL_SESs_ST_SEQ s) + 1) % 65536
    let len := b.rd (R.SLL_SESs_CFG_LEN s)
    let host := (b.sll.data.getD s [] ++ List.replicate 48 0).take len
    let pay := if b.on (R.SLL_SESs_CFG_STATUS s) then (b.haspStatus ++ host.drop 8).take len else host
    let hs := b.rd R.HASP_STAT_HSTATE
    let run := b.sll.run.getD s false && (hs == 1 || hs == 2)
    let bytes := slaluBytes 0x11 s seq (b2n run) (b.rd (R.SLL_SESs_CID_CID s)) pay
    let b := b.wr (R.SLL_SESs_ST_SEQ s) seq
    let a := b.rd (R.SLL_SESs_ADDR_ADDR s)
    if trans = 0 then b.sendUdp a (b.rd R.SLL_CFG_UDPPORT) (b.rd (R.SLL_SESs_VLAN_VID s)) (b.rd (R.SLL_SESs_VLAN_PCP s)) bytes
    else if trans = 1 then
      b.slaluCan (b.rd (R.SLL_SESs_CFG_CANK s)) (b.on (R.SLL_SESs_CFG_XID s)) (b.sesId s) bytes
    else if trans = 2 then b.onSll (fun x => { x with hinge := x.hinge ++ [bytes] })
    else b

/-- The management payload: 6 bits of STATE and CAUSE per session 1 to 63 (R364). -/
def Blk.mgmtPayload (b : Blk) : List Byte :=
  leBytes 48 ((List.range 63).map (fun i =>
    (b.rd (R.SLL_SESs_ST_STATE (i + 1)) + 8 * (b.rd (R.SLL_SESs_ST_CAUSE (i + 1)) % 8)) * 64 ^ i)).sum

/-- Some enabled session uses a transport (R364: each enabled transport). -/
def Blk.transOn (b : Blk) (t : Nat) : Bool :=
  (List.range 64).any (fun s => decide (1 ≤ s) && b.on (R.SLL_SESs_CFG_EN s) && b.rd (R.SLL_SESs_CFG_TRANS s) == t)

/-- TXB0 of controller k takes a management frame (R349, R364): it is Slalu's own, or only receive sessions are bound to the
controller and no frame of the host waits in it (DESIGN CHOICE, log entry 176). -/
def Blk.mgmtOnCan (b : Blk) (k : Nat) : Bool :=
  b.slaluOwnsTx k || (b.slaluBound k && b.txb k 0 != 1 && b.txb k 0 != 2)

/-- MGMT_FRAME_SEND (R364): due every MGMTPER × 10 ms. -/
def Blk.doMgmtSend (b : Blk) : Blk :=
  let per := b.rd R.SLL_CFG_MGMTPER * 10 * cycPerMs
  if b.powered .fabric = false ∨ b.on R.SLL_CFG_EN = false ∨ per = 0 ∨ b.sll.mAge + b.period < per then b
  else
    let seq := (b.sll.mTx + 1) % 65536
    let bytes := slaluBytes 0x12 0 seq 0 (b.rd R.SLL_MCID_MCID) b.mgmtPayload
    let b := b.onSll (fun x => { x with mTx := seq, mAge := 0 })
    let b := if b.transOn 0 && b.isOwner then
        b.sendUdp Config.mgmtIp (b.rd R.SLL_CFG_UDPPORT) Config.mgmtVlan.1 Config.mgmtVlan.2 bytes
      else b
    let b := if b.isOwner then
        b.each 4 (fun k b => if b.mgmtOnCan k then b.slaluCan k (Config.mgmtCanId k).1 ((Config.mgmtCanId k).2 % 2 ^ 29) bytes else b)
      else b
    if b.transOn 2 then b.onSll (fun x => { x with hinge := x.hinge ++ [bytes] }) else b

/-- The transmit sessions among `p` that are due in the frame that opens build their frames (R359). -/
def Blk.sllSend (b : Blk) (p : Nat → Bool) : Blk :=
  if b.powered .fabric ∧ b.on R.SLL_CFG_EN ∧ b.blockGood 3 then
    b.each 64 (fun s b =>
      if 1 ≤ s ∧ b.on (R.SLL_SESs_CFG_EN s) ∧ b.on (R.SLL_SESs_CFG_DIR s) ∧ p s = true ∧
        b.fn % (b.rd (R.SLL_SESs_TIM_TXDIV s) + 1) = b.rd (R.SLL_SESs_TIM_TXOFS s)
      then b.sesTransmit s else b)
  else b

/-- The Slalu engine at a tick: times since the last frames, transmit sessions that are due (R353, R359). -/
def Blk.sllTick (b : Blk) : Blk :=
  if b.powered .fabric = false ∨ b.on R.SLL_CFG_EN = false then b
  else
    let p := b.tick.ended
    (b.onSll (fun x =>
      { x with age := x.age.map (fun a => a + p), rstAge := x.rstAge.map (fun a => a + Int.ofNat p), mAge := x.mAge + p
               hinge := [] })).sllSend (fun _ => true)

/-- The payloads in force are latched at SAMPLE_PHASE (R357). -/
def Blk.sllLatch (b : Blk) : Blk :=
  if b.powered .fabric ∧ b.blockGood 3 then
    let l := (List.range 64).map (fun s => b.sesPayload s)
    b.onSll (fun x => { x with lat := l })
  else b

/-- The sessions as the safety parameter set opens them (R354): WAIT, TX or OFF, with the safe values of the set. -/
def Blk.openSessions (b : Blk) (safe : List (List Byte)) : Blk :=
  let b := b.onSll (fun x =>
    { x with safe := safe, pay := safe, lat := safe, seen := List.replicate 64 false, age := List.replicate 64 0 })
  let b := b.each 64 (fun s b =>
    if 1 ≤ s then
      let st := if b.on (R.SLL_SESs_CFG_EN s) = false then 0 else if b.on (R.SLL_SESs_CFG_DIR s) then 4 else 1
      b.wr (R.SLL_SESs_ST_STATE s) st
    else b)
  b.showFails.showWindow

end Sys2Proof.Machine
end

