-- ==== Sys2Proof/Machine/HostCmd.lean ====
section
/-! DEFINITION. The host's commands to drives, the heartbeat, bridge-loss and the levers (chapter 18). -/

namespace Sys2Proof.Machine

/-- Drive n follows its lever: bridge-loss in mode LEVER, or LEVER_SELECT (R426, R428). -/
def Blk.followsLever (b : Blk) (n : Nat) : Bool := (b.drv n).leverSel || (b.drv n).bridge == some 2

/-- Bridge-loss or lever command is in force for drive n (R426). -/
def Blk.underTable (b : Blk) (n : Nat) : Bool := (b.drv n).leverSel || (b.drv n).bridge.isSome

/-- The lever that HIF_BLOSS names for drive n. -/
def Blk.leverNo (b : Blk) (n : Nat) : Nat := b.rd (R.HIF_BLOSS_LEV n)

/-- The reading of lever k is broken in this frame (R427). -/
def Blk.leverBad (b : Blk) (k : Nat) : Bool :=
  let c := b.rd (R.AFE_AIN_VAL (16 + k))
  let m := b.rd (R.HIF_LEVC_LBRK k)
  decide (c < m) || decide (65535 - m < c) || !b.on (R.AFE_AIN_VALID (16 + k))

/-- The lever reference r of R427, Q15. -/
def Blk.leverR (b : Blk) (k : Nat) : Int :=
  let c := Int.ofNat (b.rd (R.AFE_AIN_VAL (16 + k)))
  let m := Int.ofNat (b.rd (R.HIF_LEVB_LMID k))
  let d := Int.ofNat (b.rd (R.HIF_LEVB_DB k))
  let up := max 1 (Int.ofNat (b.rd (R.HIF_LEVA_LMAX k)) - m - d)
  let dn := max 1 (m - d - Int.ofNat (b.rd (R.HIF_LEVA_LMIN k)))
  if m + d < c then min (((c - m - d) * 32767 + up / 2) / up) 32767
  else if c < m - d then max (-(((m - d - c) * 32768 + dn / 2) / dn)) (-32768)
  else 0

/-- The lever reference of drive n: PRESET while its lever is broken, else r scaled by LSCL (R427). -/
def Blk.leverRef (b : Blk) (n : Nat) : Int :=
  let k := b.leverNo n
  if (b.host.levers.getD k default).broken then b.rdS (R.HIF_BLOSS_PRESET n)
  else stQ (pMul (b.leverR k) (b.rdS (R.HIF_LSCL_LSCL n)) 0)

/-- A passage of a drive's reference between host and lever (R428): kind 6 to the lever, 7 to the host. -/
def Blk.refPassage (b : Blk) (n kind : Nat) : Blk :=
  (b.raise 0x3010 n [Int.ofNat kind, Int.ofNat (magI (b.rampOut n))]).handedOver n

/-- The drive whose configuration a lost bridge and a lever follow for drive n: the lead of its share group, else itself
(R266, R426). Both modules of a pair hold one configuration, so a lead on the partner is found in the own registers. -/
def Blk.refDrive (b : Blk) (n : Nat) : Nat :=
  match (b.memberOf n).bind (fun x => (b.leadOf x.1).map (fun l => b.slotDrive x.1 l)) with
  | some l => l
  | none => n

/-- The reference that bridge-loss or a lever sets for drive n (R266): in a group that spans the pair it goes with the
next F, and every member takes it one tick later. -/
def Blk.tableRef (b : Blk) (n : Nat) (v : Int) : Blk :=
  match (b.memberOf n).filter (fun x => b.spans x.1) with
  | some x => b.onGrp x.1 (fun y => { y with refNew := some ⟨v, true, b.fn⟩ })
  | none => b.onDrv n (fun d => { d with ref := v })

/-- Drive n begins to follow its lever (R428). -/
def Blk.toLever (b : Blk) (n : Nat) : Blk := (b.tableRef n (b.leverRef (b.refDrive n))).refPassage n 6

/-- The host reference is in force again (R428). -/
def Blk.toHost (b : Blk) (n : Nat) : Blk := (b.tableRef n (b.drv n).hostRef).refPassage n 7

/-- The mode that a loss puts drive n in: a share group follows its lead (R266, R426). -/
def Blk.blossMode (b : Blk) (n : Nat) : Nat × Nat := (b.rd (R.HIF_BLOSS_MODE (b.refDrive n)), b.refDrive n)

/-- The drives that a speed reference for n reaches: the members of its share group on this module (R266). -/
def Blk.speedTargets (b : Blk) (n : Nat) : List Nat :=
  match b.memberOf n with
  | some (g, _) => ((b.slotsOf g).filter (fun s => b.slotOwn g s)).map (fun s => b.slotDrive g s)
  | none => [n]

/-- Drive n enters bridge-loss (R426); a drive under lever command keeps it (R428). A mode that replaces the reference
overrides a set-point of the same tick (R43, R44, R430). -/
def Blk.enterBridge (b : Blk) (n : Nat) : Blk :=
  if b.configured n = false ∨ (b.drv n).leverSel = true ∨ (b.drv n).bridge.isSome then b
  else
    let (m, lead) := b.blossMode n
    let b := (b.onDrv n (fun d => { d with bridge := some m })).abortInj n 6
    let b := if m = 0 then b else b.supersedeAt (fun i => match i with
      | .setSpeed _ x _ => (b.speedTargets x.val).contains n
      | .leverSelect _ x _ => x.val == n
      | _ => false)
    if m = 1 then b.tableRef n (b.rdS (R.HIF_BLOSS_PRESET lead))
    else if m = 2 then b.toLever n else b

/-- A BRIDGE_RESUME of this tick is overridden by a loss (R430). -/
def supersedeResume (fn : Nat) (s : Slot) : Slot :=
  if s.op = 0x08 ∧ s.res = some (0, fn, 0) then { s with res := some (1, fn, 0) } else s

/-- Drive n is under its bridge-loss mode without an event: a hostless module's from Ready (R405). -/
def Blk.hostlessBridge (b : Blk) (n : Nat) : Blk :=
  if b.configured n = false then b
  else
    let (m, lead) := b.blossMode n
    let b := b.onDrv n (fun d => { d with bridge := some m })
    if m = 1 then b.tableRef n (b.rdS (R.HIF_BLOSS_PRESET lead)) else if m = 2 then b.tableRef n (b.leverRef lead) else b

/-- Every drive enters bridge-loss but those that another module's heartbeat governs: the paired ones of a standby (R429). -/
def Blk.bridgeAll (b : Blk) : Blk := b.each 8 (fun n b => if b.standby && b.pairedCh n then b else b.enterBridge n)

/-- The heartbeat is lost (R425, R426): HB reads `hb` afterwards. -/
def Blk.heartbeatLost (b : Blk) (hb : Nat) : Blk :=
  let b := (b.wr R.HIF_STAT_HB hb).raise 0x2201 0 []
  let fn := b.fn
  let b := b.onHost (fun x => { x with slots := x.slots.map (fun l => l.map (supersedeResume fn)) })
  b.bridgeAll

/-- HEARTBEAT_LOSS (R425): HB_TIMEOUT has passed at a tick. -/
def Blk.doHeartbeatLoss (b : Blk) : Blk :=
  if b.rd R.HIF_STAT_HB = 1 ∧ b.rd R.HIF_HB_TMO * cycPerMs ≤ b.host.hbAge then b.heartbeatLost 2 else b

/-- HEARTBEAT_DOORBELL (R425). -/
def Blk.doHeartbeat (b : Blk) : Blk :=
  if b.powered .host then
    let lost := b.rd R.HIF_STAT_HB == 2
    let b := (b.wr R.HIF_STAT_HB 1).onHost (fun x => { x with hbAge := 0 })
    if lost then b.raise 0x2001 0 [] else b
  else b

/-- START (R580, R417, R426). -/
def Blk.doStart (b : Blk) (h : Hdr) (n : Nat) : Blk :=
  b.forTarget h 0x02 n fun b =>
  if b.underTable n then b.refuse h 0x02 0x0003
  else if b.noHeartbeat then b.refuse h 0x02 0x0002
  else
    let (r, b) := b.startRequest n
    match r with
    | some (st, d) => b.complete h 0x02 st d
    | none => b.ok h 0x02

/-- DRV_STOP (R417): at once, or through the ramp. -/
def Blk.drvStop (b : Blk) (n mode : Nat) : Blk :=
  if mode = 1 ∨ b.sstate n ≠ 6 then b.stopReq n
  else b.onDrv n (fun d => { d with rampStop := true })

/-- DRV_STOP as a command. -/
def Blk.doDrvStop (b : Blk) (h : Hdr) (n mode : Nat) : Blk :=
  b.forTarget h 0x03 n fun b =>
  if 1 < mode then b.refuse h 0x03 0x0004 else (b.drvStop n mode).ok h 0x03

/-- The host's speed reference for drive n reaches every member of its group (R266): at once on one module; in a group that
spans the pair it goes with the next F, and every member takes it one tick later. A deferred one is only held. -/
def Blk.putSpeed (b : Blk) (n : Nat) (v : Int) (held : Bool) : Blk :=
  match (b.memberOf n).filter (fun x => b.spans x.1) with
  | some x => b.onGrp x.1 (fun y => { y with refNew := some ⟨v, false, b.fn⟩ })
  | none => b.eachOf (b.speedTargets n) (fun m b =>
      let t := held || b.underTable m
      b.onDrv m (fun d => { d with hostRef := v, ref := if t then d.ref else v }))

/-- SET_SPEED (R417, R266, R426). -/
def Blk.doSetSpeed (b : Blk) (h : Hdr) (n : Nat) (v : Int) : Blk :=
  b.forTarget h 0x04 n fun b =>
  let fn := b.fn + (if ((b.memberOf n).filter (fun x => b.spans x.1)).isSome then 1 else 0)
  if b.underTable n then (b.putSpeed n v true).completeAt fn h 0x04 0x08 0
  else if b.noHeartbeat then b.refuse h 0x04 0x0002
  else (b.putSpeed n v false).completeAt fn h 0x04 0x00 0

/-- SET_TORQUE (R88, R417, R426). -/
def Blk.doSetTorque (b : Blk) (h : Hdr) (n : Nat) (v : Int) : Blk :=
  b.forTarget h 0x05 n fun b =>
  if b.underTable n then b.refuse h 0x05 0x0003
  else if b.noHeartbeat then b.refuse h 0x05 0x0002
  else if b.on (R.Dn_CMODE_CTRL n) = false then b.refuse h 0x05 0x0001
  else (b.onDrv n (fun d => { d with torqRef := v })).ok h 0x05

/-- LEVER_SELECT (R417, R426, R428). -/
def Blk.doLeverSelect (b : Blk) (h : Hdr) (n src : Nat) : Blk :=
  b.forTarget h 0x07 n fun b =>
  if (b.drv n).bridge.isSome then b.refuse h 0x07 0x0003
  else if (b.drv n).leverSel then
    if src = 0 then ((b.onDrv n (fun d => { d with leverSel := false })).toHost n).ok h 0x07
    else if src = 1 then b.ok h 0x07
    else b.refuse h 0x07 0x0004
  else if b.noHeartbeat then b.refuse h 0x07 0x0002
  else if 1 < src then b.refuse h 0x07 0x0004
  else if src = 1 then ((b.onDrv n (fun d => { d with leverSel := true })).toLever n).ok h 0x07
  else b.ok h 0x07

/-- Bridge-loss ends for drive n (R428). -/
def Blk.endBridge (b : Blk) (n : Nat) : Blk :=
  if (b.drv n).bridge.isSome then
    ((b.onDrv n (fun d => { d with bridge := none })).toHost n).raise 0x2002 n []
  else b

/-- BRIDGE_RESUME (R428): one drive or every drive. -/
def Blk.doBridgeResume (b : Blk) (h : Hdr) (n : Option Nat) : Blk :=
  let go := fun (b : Blk) =>
    if b.noHeartbeat then b.refuse h 0x08 0x0002
    else (match n with
      | some n => b.endBridge n
      | none => b.each 8 (fun n b => b.endBridge n)).ok h 0x08
  match n with
  | some n => b.forTarget h 0x08 n go
  | none => go b

/-- The levers at a tick (R427): readings judged, references of the drives that follow them. -/
def Blk.leverTick (b : Blk) : Blk :=
  let b := b.each 4 (fun k b =>
    if bitAt (b.rd R.AFE_SLOW_EN) (16 + k) then
      let bad := b.leverBad k
      let was := (b.host.levers.getD k default).broken
      let b := if bad then b else b.wr (R.HIF_LEVC_VAL k) (unsigned 16 (b.leverR k))
      let b := b.onHost (fun x => { x with levers := x.levers.modify k (fun l =>
        { broken := l.broken || bad, good := if bad then 0 else min (l.good + 1) 65535 }) })
      if bad && !was then b.raise 0x2104 k [] else b
    else b)
  b.each 8 (fun n b =>
    if b.followsLever n ∧ b.configured n then b.tableRef n (b.leverRef (b.refDrive n)) else b)

/-- Times of drive n inside its lever's dead band at a tick (R406): the lever's stay there counts whatever the drive
follows; the passage out of it is a request only while the drive follows it with LSTART = 1. -/
def Blk.leverDwell (b : Blk) (n : Nat) : Blk :=
  let k := b.leverNo (b.refDrive n)
  let good := !(b.host.levers.getD k default).broken && !b.leverBad k
  let on := b.configured n && b.on (R.HIF_BLOSS_LSTART n) && b.followsLever n && good
  let inside := good && b.leverR k == 0
  let p := b.tick.ended
  b.onHost (fun x => { x with dwell := x.dwell.modify n (fun d =>
    if inside then
      ⟨d.inBand + p, false, if on ∧ b.pstate n = 1 then d.inRun + p else 0⟩
    else ⟨0, on && decide (1000 * cycPerMs ≤ d.inBand), 0⟩) })

/-- LEVER_START (R406): the lever has left its dead band after a second inside it. -/
def Blk.doLeverStart (b : Blk) (n : Nat) : Blk :=
  if (b.host.dwell.getD n default).ready ∧ [0, 3, 4].contains (b.pstate n) then
    let b := b.onHost (fun x => { x with dwell := x.dwell.modify n (fun d => { d with ready := false }) })
    (b.startRequest n).2
  else b

/-- LEVER_STOP (R406): LSTOP seconds inside the dead band in RUN. -/
def Blk.doLeverStop (b : Blk) (n : Nat) : Blk :=
  let s := b.rd (R.HIF_BLOSS_LSTOP n)
  if s ≠ 0 ∧ 0 < (b.host.dwell.getD n default).inRun ∧
      s * 1000 * cycPerMs ≤ (b.host.dwell.getD n default).inRun ∧ (b.drv n).rampStop = false then
    b.drvStop n 0
  else b

/-- LEVER_RESTORED (R427): 64 frames unbroken. -/
def Blk.doLeverRestored (b : Blk) (k : Nat) : Blk :=
  let l := b.host.levers.getD k default
  if l.broken ∧ 64 ≤ l.good then
    let b := b.onHost (fun x => { x with levers := x.levers.modify k (fun y => { y with broken := false }) })
    b.each 8 (fun n b =>
      let l := b.refDrive n
      if b.followsLever n ∧ b.leverNo l = k then b.tableRef n (b.leverRef l) else b)
  else b

/-- The timers of the host interface at a tick: the heartbeat's (R425), and those of the moderated vectors (R408). -/
def Blk.heartbeatTick (b : Blk) : Blk :=
  b.onHost (fun x => { x with hbAge := x.hbAge + b.tick.ended, rings := x.rings.map (fun r => { r with age := r.age + b.tick.ended }) })

end Sys2Proof.Machine
end

