-- ==== Sys2Proof/Machine/HostRing.lean ====
section
/-! DEFINITION. The rings of the host interface (chapter 18): doorbells, descriptors and their checks, completion,
telemetry and event entries, MSI-X, ring reset and PERST_N. -/

namespace Sys2Proof.Machine

/-- Ring q halts (R412): nothing more is read or written until it is reset. -/
def Blk.haltRing (b : Blk) (q cause : Nat) : Blk :=
  let b := (b.wr (R.RING_STAT_STATE q) 2).wr (R.RING_STAT_CAUSE q) cause
  (b.onHost (fun x => { x with vec8 := x.vec8 + 1 })).raise 0x2103 q [Int.ofNat q, Int.ofNat cause]

/-- A doorbell of ring q (R407, R412). A producer index may lie at most the size ahead of the module's index, a consumer
index at most the size behind it. -/
def Blk.doorbell (b : Blk) (q : Nat) (v : Word) : Blk :=
  let st := b.rd (R.RING_STAT_STATE q)
  let idx := v.toNat % 2 ^ 13
  let size := b.ringSize q
  if b.powered .host = false ∨ st = 2 then b
  else if b.on (R.RING_CTL_EN q) = false then b.haltRing q 3
  else
    let d := if q < 4 then ringDist size idx (b.rd (R.RING_IDX_MOD q)) else ringDist size (b.rd (R.RING_IDX_MOD q)) idx
    if size < d ∨ 2 * size ≤ idx then b.haltRing q 1 else b.wr (R.RING_IDX_HOST q) idx

/-- BAR2_STRAY_WRITE (R407). -/
def Blk.doStray (b : Blk) : Blk := if b.powered .host then b.inc R.HIF_ERRCNT_BAR2 else b

/-- What TARGET must name for a command (R417): nothing known, 0xFF, a drive, a stepper, a channel, a pair, a session, a
controller, a drive or 0xFF. -/
def targetOk (op t : Nat) : Bool :=
  if [0x02, 0x03, 0x04, 0x05, 0x07, 0x24, 0x25].contains op then decide (t < 8)
  else if op = 0x08 then decide (t < 8) || t == 255
  else if op = 0x10 ∨ op = 0x11 then decide (8 ≤ t) && decide (t < 16)
  else if op = 0x06 ∨ (0x12 ≤ op ∧ op ≤ 0x16) then decide (t < 16)
  else if 0x20 ≤ op ∧ op ≤ 0x23 then decide (t < 5)
  else if op = 0x30 then decide (t < 64)
  else if 0x50 ≤ op ∧ op ≤ 0x54 then decide (t < 4)
  else t == 255

/-- The opcodes of R417. -/
def knownOp (op : Nat) : Bool :=
  [0x00, 0x02, 0x03, 0x04, 0x05, 0x06, 0x07, 0x08, 0x10, 0x11, 0x12, 0x13, 0x14, 0x15, 0x16, 0x20, 0x21, 0x22, 0x23,
   0x24, 0x25, 0x30, 0x38, 0x40, 0x41, 0x42, 0x43, 0x50, 0x51, 0x52, 0x53, 0x54].contains op

/-- Whether a command uses argument byte i (R417, R459). -/
def usesByte (bs : List Byte) (i : Nat) : Bool :=
  let op := byteAt bs 0
  let upTo := fun (n : Nat) => decide (12 ≤ i) && decide (i < 12 + n)
  if op = 0x03 ∨ op = 0x07 ∨ op = 0x52 then i == 8
  else if op = 0x04 ∨ op = 0x05 then decide (i < 10)
  else if op = 0x06 then decide (i < 12)
  else if op = 0x12 then i == 8 || i == 9 || upTo 16
  else if op = 0x30 ∨ op = 0x51 then decide (i < 11) || upTo (min (byteAt bs 10) 48)
  else if op = 0x41 then decide (i < 16)
  else if op = 0x50 then decide (i < 11) || upTo 4 || (decide (16 ≤ i) && !bitAt (byteAt bs 9) 4)
  else false

/-- Bits of a used byte that must be 0 (R417, R459). -/
def reservedBits (bs : List Byte) : Bool :=
  let op := byteAt bs 0
  if op = 0x12 then decide (1 < byteAt bs 9)
  else if op = 0x30 then decide (1 < byteAt bs 8)
  else if op = 0x50 then decide (63 < byteAt bs 9)
  else false

/-- A descriptor breaks check 2 of R414. -/
def badOp (bs : List Byte) : Bool :=
  !knownOp (byteAt bs 0) || decide (1 < byteAt bs 1) || decide (leAt bs 5 3 ≠ 0) || reservedBits bs ||
    (List.range 52).any (fun i => !usesByte bs (8 + i) && decide (byteAt bs (8 + i) ≠ 0))

/-- The command of a descriptor that passes the first three checks (R417). Whether a CAN attempt has won arbitration at
the tick is not in a descriptor; `won` says it. -/
def descCmd (h : Hdr) (bs : List Byte) (won : Bool) : Instr :=
  let t := byteAt bs 4
  let d : Fin 8 := Fin.ofNat 8 t
  let c : Fin 16 := Fin.ofNat 16 t
  let p : Fin 5 := Fin.ofNat 5 t
  let k : Fin 4 := Fin.ofNat 4 t
  let byte := fun i => BitVec.ofNat 8 (byteAt bs i)
  let half := fun i => BitVec.ofNat 16 (leAt bs i 2)
  let word := fun i => BitVec.ofNat 32 (leAt bs i 4)
  match byteAt bs 0 with
  | 0x02 => .start h d
  | 0x03 => .drvStop h d (byte 8)
  | 0x04 => .setSpeed h d (half 8)
  | 0x05 => .setTorque h d (half 8)
  | 0x06 => .coefWrite h c (half 8) (half 10)
  | 0x07 => .leverSelect h d (byte 8)
  | 0x08 => .bridgeResume h (if t = 255 then none else some d)
  | 0x10 => .energize h d
  | 0x11 => .deenergize h d
  | 0x12 => .move h c (byte 8) (bitAt (byteAt bs 9) 0) (word 12) (word 16) (word 20) (word 24)
  | 0x13 => .axisStop h c
  | 0x14 => .resume h c
  | 0x15 => .moveFlush h c
  | 0x16 => .home h c
  | 0x20 => .injStart h p
  | 0x21 => .injStop h p
  | 0x22 => .capStart h p
  | 0x23 => .capStop h p
  | 0x24 => .supClear h d
  | 0x25 => .brkClear h d
  | 0x30 => .sllTxdata h (Fin.ofNat 64 t) (bitAt (byteAt bs 8) 0) (byte 9) (byte 10) ((bs.drop 12).take 48)
  | 0x38 => .pairHandover h
  | 0x40 => .txnBegin h
  | 0x41 => .txnWrite h (word 8) (word 12)
  | 0x42 => .txnCommit h
  | 0x43 => .txnRollback h
  | 0x50 => .canTx h k (byte 8) (byte 9) (byte 10) (word 12) ((bs.drop 16).take 44)
  | 0x51 => .canStage h k (byte 8) (byte 9) (byte 10) ((bs.drop 12).take 48)
  | 0x52 => .canCancel h k (byte 8) won
  | 0x53 => .canSleep h k
  | 0x54 => .canWake h k
  | _ => .nop h

/-- The first of checks 1 to 3 of R414 that a descriptor fails, as its status. -/
def descStatus (bs : List Byte) : Option Nat :=
  if crc32c (bs.take 60) ≠ leAt bs 60 4 then some 0x04
  else if badOp bs then some 0x05
  else if targetOk (byteAt bs 0) (byteAt bs 4) = false then some 0x06
  else none

/-- Advance the module's index of ring q; the phase bit turns at a wrap (R409, R410). -/
def Blk.advance1 (b : Blk) (q : Nat) : Blk :=
  let size := b.ringSize q
  let i := (b.rd (R.RING_IDX_MOD q) + 1) % (2 * size)
  let b := b.wr (R.RING_IDX_MOD q) i
  if 4 ≤ q ∧ i % size = 0 then
    b.onHost (fun x => { x with rings := x.rings.modify q (fun r => { r with phase := !r.phase }) })
  else b

/-- The command ring may fetch one more descriptor (R411, R438). -/
def Blk.mayFetch (b : Blk) (r : Nat) : Bool :=
  b.ringRuns r && decide (0 < ringDist (b.ringSize r) (b.rd (R.RING_IDX_HOST r)) (b.rd (R.RING_IDX_MOD r))) &&
    decide ((b.host.slots.getD r []).length < b.ringSpace (4 + r)) && b.rd (R.TXN_STAT_STATE r) != 3

/-- One fetched descriptor is checked and waits for its tick (R42, R414). -/
def Blk.fetchOne (b : Blk) (r : Fin 4) (cyc : Nat) (bs : List Byte) : Blk :=
  if b.mayFetch r.val = false then b
  else
    let b := b.advance1 r.val
    let h : Hdr := ⟨r, BitVec.ofNat 16 (leAt bs 2 2), bitAt (byteAt bs 1) 0⟩
    let slot := fun (res : Option (Nat × Nat × Nat)) (b : Blk) =>
      b.onHost (fun x => { x with slots := x.slots.modify r.val (fun l =>
        l ++ [⟨h.tag.toNat, byteAt bs 0, b.rd (R.RING_IDX_MOD r.val), h.silent, res⟩]) })
    match descStatus bs with
    | some st =>
      let b := slot (some (st, b.fn, 0)) b
      if st = 0x04 then b.raise 0xB105 r.val [Int.ofNat r.val] else b
    | none =>
      let (i, b) := b.free
      let w : Waiting := ⟨r.val, if cyc + 2048 ≤ b.frameLen then 1 else 2, descCmd h bs (Config.freeNat i % 2 == 1), false⟩
      (slot none b).onHost (fun x => { x with wait := x.wait ++ [w] })

/-- DESCRIPTOR_FETCH (R411, R414, R415): a burst of up to 8 descriptors, validated `cyc` cycles after the tick. -/
def Blk.doFetch (b : Blk) (r : Fin 4) (descs : List (List Byte)) (cyc : Nat) (dmaErr : Bool) : Blk :=
  if dmaErr then (if b.ringRuns r.val then b.haltRing r.val 2 else b)
  else (descs.take 8).foldl (fun b d => b.fetchOne r cyc d) b

/-- An entry of ring q was written: it counts for the ring's vector unless silent (R408). -/
def Blk.wrote (b : Blk) (q : Nat) (silent : Bool) : Blk :=
  let b := b.advance1 q
  if silent then b
  else b.onHost (fun x => { x with rings := x.rings.modify q (fun r => { r with unsig := r.unsig + 1, age := if r.unsig = 0 then 0 else r.age }) })

def Blk.phase (b : Blk) (q : Nat) : Bool := (b.host.rings.getD q default).phase

/-- A number as `n` bytes, low byte first (R6). -/
def leOf (v : Int) (n : Nat) : List Byte := leBytes n (unsigned (8 * n) v)

/-- The 20 RECORD bytes of an event (R423): the SEQ and the first 16 payload bytes of event 0xA005, else the values that the
record gives, four bytes each (DESIGN CHOICE, log entry 128), zeros after them. -/
def Event.record (e : Event) : List Byte :=
  let v := if e.code = 0xA005 then leOf (iAt e.info 0) 2 ++ (e.info.drop 1).map (fun x => BitVec.ofInt 8 x)
    else e.info.flatMap (fun x => leOf x 4)
  (v ++ List.replicate 20 0).take 20

/-- The bytes of an event entry (R423). -/
def Event.bytes (e : Event) (phase : Bool) : List Byte :=
  leOf e.code 2 ++ [BitVec.ofNat 8 (b2n phase + 2 * b2n e.coal), BitVec.ofNat 8 e.src] ++ leOf e.fn 6 ++ leOf e.cnt 2 ++ e.record

/-- The bytes of a completion entry (R418). -/
def completionBytes (tag op status fn detail idx : Nat) (phase : Bool) : List Byte :=
  leOf tag 2 ++ [BitVec.ofNat 8 op, BitVec.ofNat 8 status] ++ leOf fn 6 ++ leOf detail 2 ++ leOf idx 2 ++ [BitVec.ofNat 8 (b2n phase), 0]

/-- A ring entry is checked word by word before it is written (R372 class 3, R368): a word that fails is counted, and the
entry is rebuilt once. The answer tells whether it fails again. -/
def Blk.writeBack (b : Blk) (ring : Nat) (tag : TagCheck) (entry : List Byte) : Bool × Blk :=
  let bad := fun hits => badWord hits (0x6000 + ring * 256) ((entry.length + 3) / 4) (fun w => leAt entry (4 * w) 4)
  match bad tag.first with
  | none => (false, b)
  | some w => ((bad tag.again).isSome, b.wardFail 3 (0x6000 + ring * 256 + w))

/-- COMPLETION_WRITE (R415, R418): the oldest descriptor of command ring r that is decided. -/
def Blk.doCompletion (b : Blk) (r : Nat) (tag : TagCheck) (dmaErr : Bool) : Blk :=
  let q := 4 + r
  match b.host.slots.getD r [] with
  | s :: l =>
    match s.res with
    | some (st, fn, detail) =>
      if b.ringSpace q = 0 then b
      else if dmaErr then b.haltRing q 2
      else
        let (lost, b) := b.writeBack r tag (completionBytes s.tag s.op st fn detail s.idx (b.phase q))
        let st := if lost then 0x07 else st
        let b := b.send (.completion r s.tag s.op st fn (if st = 0x07 then 0 else detail) s.idx (b.phase q))
        (b.onHost (fun x => { x with slots := x.slots.set r l })).wrote q s.silent
    | none => b
  | [] => b

/-- The payload of a DRIVE record (R420). -/
def Blk.drivePayload (b : Blk) (n : Nat) : List Byte :=
  let d := b.drv n
  let s16 := fun (x : Int) => leBytes 2 (unsigned 16 x)
  let src := match d.bridge with
    | some 0 => 2
    | some 1 => 3
    | some _ => 1
    | none => if d.leverSel then 1 else 0
  s16 d.speed ++ s16 (b.rampOut n) ++ s16 (if b.on (R.Dn_CMODE_CTRL n) then d.torqRef else d.ref) ++ leBytes 2 (b.rd (R.Dn_IDQ_IQ n)) ++
  leBytes 2 (b.rd (R.Dn_IDQ_ID n)) ++ s16 (iAt (b.chan n).ins 2) ++ s16 d.u ++
  leBytes 2 (b.rd (R.THM_Dn_TEMP_TJ n)) ++ leBytes 2 (b.rd (R.THM_Dn_TEMP_TW n)) ++
  leBytes 2 (b.rd (R.THM_Dn_STAT_FACT n)) ++
  leBytes 4 (if b.on (R.Dn_CMODE_SENS n) then b.rd (R.FBn_POS_POS (b.rd (R.Dn_CMODE_FBSEL n))) else 0) ++
  leBytes 1 (b.pstate n + 8 * b.cur n + 32 * b2n (b.on (R.Dn_CSTAT_SYNC n))) ++
  leBytes 1 (b.sstate n + 16 * src) ++ List.replicate 22 0

/-- The payload of a STEPPER record (R420). -/
def Blk.stepperPayload (b : Blk) (n : Nat) : List Byte :=
  let a := 8 + n
  leBytes 4 (b.rd (R.MPG_PREF_PINT a)) ++ leBytes 4 (b.rd (R.MPG_VREF_V a)) ++
  leBytes 2 (b.rd (R.Sn_IREF_IA n)) ++ leBytes 2 (b.rd (R.Sn_IREF_IB n)) ++
  leBytes 2 (unsigned 16 (iAt (b.chan a).ins 0)) ++ leBytes 2 (unsigned 16 (iAt (b.chan a).ins 1)) ++
  leBytes 2 (b.rd (R.Sn_LOAD_DELTA n)) ++ leBytes 1 (b.stpState n) ++ leBytes 1 (b.rd (R.MPG_STAT_STATE a)) ++
  leBytes 4 (b.rd (R.MPG_REM_REM a)) ++ List.replicate 24 0

/-- A telemetry entry: header of R419 and 48 payload bytes. -/
def telBytes (type flags seq fn src div ns : Nat) (pay : List Byte) : List Byte :=
  leBytes 1 type ++ leBytes 1 flags ++ leBytes 2 seq ++ leBytes 6 fn ++ leBytes 1 src ++ leBytes 1 div ++
  leBytes 1 ns ++ [0, 0, 0] ++ (pay ++ List.replicate 48 0).take 48

/-- The next SEQ of a record type and source (R419). -/
def Blk.takeSeq (b : Blk) (type src : Nat) : Nat × Blk :=
  let hit := fun (x : Nat × Nat × Nat) => x.1 == type && x.2.1 == src
  let n := match b.host.telSeq.find? hit with
    | some x => x.2.2
    | none => 0
  (n, b.onHost (fun x => { x with telSeq := (type, src, (n + 1) % 65536) :: x.telSeq.filter (fun y => !hit y) }))

/-- Write an entry to telemetry ring t (R419); its flags take the phase bit. -/
def Blk.telWrite (b : Blk) (t type flags seq fn src div ns : Nat) (pay : List Byte) : Blk :=
  let f := flags + b2n (b.phase (8 + t))
  (b.send (.telemetry t (telBytes type f seq fn src div ns pay))).wrote (8 + t) false

/-- A GAP record comes first when records were dropped (R422). -/
def Blk.telGap (b : Blk) (t : Nat) : Blk :=
  let n := b.host.telDrop.getD t 0
  if n = 0 ∨ b.ringSpace (8 + t) = 0 then b
  else
    let (seq, b) := b.takeSeq 4 t
    let b := b.onHost (fun x => { x with telDrop := x.telDrop.set t 0 })
    b.telWrite t 0x04 0 seq b.fn t 0 0 (leBytes 4 n)

/-- A record of channel c at the end of a frame (R420, R422). -/
def Blk.telChan (b : Blk) (c : Nat) (tag : TagCheck) (dmaErr : Bool) : Blk :=
  if b.host.telDue.contains c = false then b
  else
    let t := b.rd R.HIF_TELCFG_RING
    let b := b.onHost (fun x => { x with telDue := x.telDue.filter (fun y => y != c) })
    if b.ringRuns (8 + t) = false then b
    else if dmaErr then b.haltRing (8 + t) 2
    else
      let b := b.telGap t
      if b.ringSpace (8 + t) = 0 then
        (b.inc R.HIF_TELDROP_COUNT).onHost (fun x => { x with telDrop := x.telDrop.modify t (fun y => y + 1) })
      else
        let ty := if c < 8 then 0x01 else 0x02
        let pay := if c < 8 then b.drivePayload c else b.stepperPayload (c - 8)
        let div := b.rd R.HIF_TELCFG_TDIV
        let (lost, b) := b.writeBack (4 + t) tag (telBytes ty (b2n (b.phase (8 + t))) (b.takeSeq ty c).1 b.fn c div 0 pay)
        if lost then b.raise 0xB106 (8 + t) [Int.ofNat (8 + t)]
        else
          let (seq, b) := b.takeSeq ty c
          b.telWrite t ty 0 seq b.fn c div 0 pay

/-- One entry of a capture record: its samples, each signal 0 first (R421). -/
def capPayload (l : List (Nat × Int × Int)) : List Byte :=
  l.flatMap (fun x => leBytes 2 (unsigned 16 x.2.1) ++ leBytes 2 (unsigned 16 x.2.2))

/-- A CAPTURE record of pair k (R232 to R234, R421): 24 sample pairs, or what is left for the final record. -/
def Blk.telCapture (b : Blk) (k : Nat) (tag : TagCheck) (dmaErr : Bool) : Blk :=
  let t := b.rd (R.LE_CAPCFG_RING k)
  let x := b.tun k
  let recs := x.buf.take 24
  let last := x.final && decide (x.buf.length ≤ 24)
  let two := decide (12 < recs.length)
  let runs := [2, 3].contains (b.rd (R.LE_CAPSTAT_CAP k))
  if runs = false ∨ (recs.length < 24 ∧ last = false) ∨ b.ringRuns (8 + t) = false then b
  else if dmaErr then b.haltRing (8 + t) 2
  else
    let b := b.telGap t
    if b.ringSpace (8 + t) < (if two then 2 else 1) then b
    else
      let fl := 4 * b2n last + 8 * b2n x.gap + 16 * b2n (x.moved && last)
      let entry := fun (ph : Bool) (flags : Nat) (l : List (Nat × Int × Int)) =>
        telBytes 0x03 (flags + b2n ph) x.seq (l.headD (b.fn, 0, 0)).1 k (b.rd (R.LE_CAPCFG_DEC k)) l.length (capPayload l)
      let ph2 := (b.advance1 (8 + t)).phase (8 + t)
      let (lost, b) := b.writeBack (4 + t) tag
        (entry (b.phase (8 + t)) fl (recs.take 12) ++ if two then entry ph2 (fl + 2) (recs.drop 12) else [])
      let b := b.onTun k (fun y => { y with
        buf := y.buf.drop 24, gap := false, moved := y.moved && !last, final := y.final && !last, seq := (y.seq + 1) % 65536 })
      let b := b.wr (R.LE_CAPSTAT_FILL k) (b.tun k).buf.length
      if lost then b.raise 0xB106 (8 + t) [Int.ofNat (8 + t)]
      else
        let one := fun (b : Blk) (flags : Nat) (l : List (Nat × Int × Int)) =>
          b.telWrite t 0x03 flags x.seq (l.headD (b.fn, 0, 0)).1 k (b.rd (R.LE_CAPCFG_DEC k)) l.length (capPayload l)
        let b := one b fl (recs.take 12)
        if two then one b (fl + 2) (recs.drop 12) else b

/-- TELEMETRY_RECORD (R420 to R422). -/
def Blk.doTelemetry (b : Blk) (src : TelSrc) (tag : TagCheck) (dmaErr : Bool) : Blk :=
  match src with
  | .chan c => b.telChan c.val tag dmaErr
  | .capture k => b.telCapture k.val tag dmaErr

/-- The records due at the end of the frame that opens (R420). -/
def Blk.telTick (b : Blk) : Blk :=
  let due := if b.powered .host ∧ b.fn % (b.rd R.HIF_TELCFG_TDIV + 1) = 0 then
    (List.range 16).filter (fun c => bitAt (b.rd R.HIF_TELCFG_MASK) c) else []
  b.onHost (fun x => { x with telDue := due })

/-- An entry for the event ring leaves the module (R423), or event 0xB106 in its place (R372); its record names the ring as
R412 numbers rings. -/
def Blk.eventOut (b : Blk) (e : Event) (tag : TagCheck) : Blk :=
  let (lost, b) := b.writeBack 6 tag (e.bytes (b.phase 10))
  if lost then b.raise 0xB106 10 [10]
  else
    let sev3 := severity e.code == 3
    let b := (b.send (.event e (b.phase 10))).wrote 10 sev3
    if sev3 then b.onHost (fun x => { x with vec7 := x.vec7 + 1 }) else b

/-- EVENT_ENTRY_WRITE (R424): after drops event 0x2105 goes first; then severity 3, then the rest, while the ring has
space. -/
def Blk.doEventWrite (b : Blk) (tag : TagCheck) (dmaErr : Bool) : Blk :=
  let b := b.noteDrops
  if b.ringSpace 10 = 0 ∨ (b.evs.high = [] ∧ b.evs.low = []) then b
  else if dmaErr then b.haltRing 10 2
  else match b.evs.high, b.evs.low with
    | [], [] => b
    | [], e :: l => Blk.eventOut { b with evs := { b.evs with low := l } } e tag
    | h :: m, [] => Blk.eventOut { b with evs := { b.evs with high := m } } h tag
    | h :: m, e :: l =>
      if e.code = 0x2105 then Blk.eventOut { b with evs := { b.evs with low := l } } e tag
      else Blk.eventOut { b with evs := { b.evs with high := m } } h tag

/-- Send vector v, or leave it pending while its table entry is masked. -/
def Blk.signal (b : Blk) (v : Nat) : Blk :=
  if b.on (R.MSIX_CTL_MASK v) then b.flag (bitOf R.MSIX_PBA_PEND v) true else b.send (.msix v)

/-- The moderated vector of ring q is due (R408): IMCNT entries, 0 for one, or IMTIM µs since the first of them. -/
def Blk.msixDue (b : Blk) (q : Nat) : Bool :=
  let r := b.host.rings.getD q default
  decide (0 < r.unsig) && (decide (b.rd (R.RING_CTL_IMCNT q) ≤ r.unsig) || decide (b.rd (R.RING_CTL_IMTIM q) * 400 ≤ r.age + b.period))

/-- MSIX_SIGNAL (R408): a moderated vector that is due, vector 7 or 8 with an entry or a halt waiting. -/
def Blk.doMsix (b : Blk) (v : Nat) : Blk :=
  if b.powered .host = false then b
  else if v ≤ 6 then
    if b.msixDue (4 + v) then
      (b.onHost (fun x => { x with rings := x.rings.modify (4 + v) (fun r => { r with unsig := 0, age := 0 }) })).signal v
    else b
  else if v = 7 ∧ 0 < b.host.vec7 then (b.onHost (fun x => { x with vec7 := x.vec7 - 1 })).signal 7
  else if v = 8 ∧ 0 < b.host.vec8 then (b.onHost (fun x => { x with vec8 := x.vec8 - 1 })).signal 8
  else b

/-- The transaction of command ring r rolls back at the next tick (R445). -/
def Blk.doomTxn (b : Blk) (r : Nat) : Blk :=
  if b.rd (R.TXN_STAT_STATE r) = 0 then b
  else { b with txns := { b.txns with open_ := b.txns.open_.modify r (fun t => { t with doom := true }) } }

/-- RING_RESET (R412, R445): indexes 0, phase 1, the ring runs again if it is enabled. -/
def Blk.doRingReset (b : Blk) (q : Nat) : Blk :=
  if b.powered .host = false then b
  else
    let b := (b.wr (R.RING_IDX_MOD q) 0).wr (R.RING_IDX_HOST q) 0
    let b := (b.wr (R.RING_STAT_CAUSE q) 0).wr (R.RING_STAT_STATE q) (b2n (b.on (R.RING_CTL_EN q)))
    let b := b.onHost (fun x => { x with rings := x.rings.modify q (fun _ => ⟨true, 0, 0⟩) })
    if q < 4 then b.doomTxn q else b

/-- A write of RING_CTL: the ring is enabled from 0, disabled, or keeps its state (R409); a halted ring stays so until RESET
(R412). -/
def Blk.ringCtl (b : Blk) (q v : Nat) : Blk :=
  let was := b.on (R.RING_CTL_EN q)
  let en := bitAt v 31
  let w := if was then (b.rd (R.RING_CTL_LOG2SIZE q)) else v % 16
  let b := ((b.flag (R.RING_CTL_EN q) en).wr (R.RING_CTL_IMTIM q) (v / 2 ^ 16)).wr (R.RING_CTL_IMCNT q) (v / 2 ^ 8)
  let b := b.wr (R.RING_CTL_LOG2SIZE q) w
  let b := if b.rd (R.RING_STAT_STATE q) = 2 then b
    else if en && !was then
      let b := b.onHost (fun x => { x with rings := x.rings.modify q (fun _ => ⟨true, 0, 0⟩) })
      ((b.wr (R.RING_IDX_MOD q) 0).wr (R.RING_IDX_HOST q) 0).wr (R.RING_STAT_STATE q) 1
    else if was && !en then b.wr (R.RING_STAT_STATE q) 0 else b
  if bitAt v 30 then b.doRingReset q else b

/-- Every register whose reset source a predicate picks takes its reset value (R14). -/
def Blk.resetRegs (b : Blk) (p : RegDesc → Bool) : Blk :=
  { b with regs := b.regs.filter (fun e => match findReg e.1 with | some d => !p d | none => true) }

/-- PERST_N asserted, or the link down for 1 ms (R404, R445). -/
def Blk.doPerst (b : Blk) : Blk :=
  if b.powered .host = false then b
  else
    let armed := b.rd R.HIF_STAT_HB == 1
    let ring := b.on (R.RING_CTL_EN 10)
    let b := [0, 1, 2, 3].foldl (fun b r => b.doomTxn r) b
    let b := b.resetRegs (fun d => d.src == .perst)
    let b := b.onHost (fun x =>
      { x with slots := List.replicate 4 [], wait := x.wait.map (fun w => { w with mute := true }),
               rings := List.replicate 11 (RingSt.mk true 0 0), telDue := [], telDrop := [0, 0], vec7 := 0, vec8 := 0 })
    let b :=
      { b with
        txns := { b.txns with ready := b.txns.ready.map (fun (c : Commit) => { c with mute := true }) }
        tuns := b.tuns.map (fun (t : Tuner) => { t with hdr := none })
        cans := b.cans.map (fun (c : Can) =>
          { c with bufs := c.bufs.map (fun (x : TxBuf) => { x with cancel := x.cancel.map (fun (y : Option Hdr × Bool) => (none, y.2)) }) })
        evs := if ring then { b.evs with low := [], drops := 0 } else b.evs }
    let b := if armed then b.heartbeatLost 0 else b
    b.raise 0x2106 0 []

/-- The sections of a Hinge frame: type and words, each with its route key. R389 gives their contents and no order of words
in them (log entry 42). -/
def HingeFrame.sections (f : HingeFrame) : List (Nat × List (Nat × Nat)) := Config.hingeSections f

/-- The length of a Hinge frame in bytes, CRC included (R388). -/
def HingeFrame.size (f : HingeFrame) : Nat :=
  28 + 4 * f.sections.length + 6 * (f.sections.map (fun s => s.2.length)).sum

/-- The bytes of a Hinge frame (R6, R388): header, directory, words with their Ward tags, CRC. -/
def HingeFrame.bytes (f : HingeFrame) : List Byte :=
  let flags := b2n f.own + 2 * b2n f.ready + 4 * b2n f.lost + 8 * b2n f.isB + 16 * b2n f.holdover
  let head := leBytes 1 1 ++ leBytes 1 flags ++ leBytes 2 f.len ++ leBytes 6 f.fn ++ leBytes 2 f.sections.length ++
    leBytes 4 f.txcyc ++ leBytes 4 f.rxcyc ++ leBytes 4 f.cfgcrc
  let dir := f.sections.flatMap (fun s => leBytes 1 s.1 ++ [0] ++ leBytes 2 s.2.length)
  let body := head ++ dir ++ f.sections.flatMap (fun s => s.2.flatMap (fun w => leBytes 4 w.2 ++ leBytes 2 (wardTag w.1 w.2)))
  body ++ leBytes 4 (crc32c body)

/-- What an output leaves as bytes, byte 0 first: the entry in its ring in host memory, a Hinge frame (R6, R388, R418, R419,
R423). -/
def Output.entry : Output → List Byte
  | .event e p => e.bytes p
  | .completion _ t o st fn d i p => completionBytes t o st fn d i p
  | .telemetry _ bs => bs
  | .hinge f => f.bytes
  | _ => []

end Sys2Proof.Machine
end

