-- ==== Sys2Proof/Machine/Checks.lean ====
section
/-! DEFINITION. The commit checks of R438 on a candidate configuration: the stated ranges and commit conditions of every
chapter (status RANGE), the limits of a program (PROGRAM), admission (ADMIT), the Hinge frame (HINGE), and the conditions
that depend on run state (CHANGED). The same checks judge an image at start-up (R517). A candidate is a state whose
registers, programs and tables are those of the configuration judged. -/

namespace Sys2Proof.Machine

/-- One condition of a check: whether it holds, and the offsets of the registers whose values it compares. -/
structure Cond where
  ok   : Bool
  regs : List Nat
  deriving DecidableEq, Repr, Inhabited

/-- A field lies in a stated range. -/
def Blk.inRange (b : Blk) (f : Fld) (lo hi : Nat) : Cond := ⟨decide (lo ≤ b.rd f) && decide (b.rd f ≤ hi), [f.off]⟩

/-- Conditions that apply only in a case. -/
def onlyIf (c : Bool) (l : List Cond) : List Cond := if c then l else []

/-- A condition over fields. -/
def cond (ok : Bool) (fs : List Fld) : Cond := ⟨ok, fs.map (·.off)⟩

/-- Conditions for units 0 to n − 1. -/
def forAll (n : Nat) (f : Nat → List Cond) : List Cond := (List.range n).flatMap f

/-- The domains that a configuration needs (R20, R512). -/
def Blk.needs (b : Blk) : Dom → Bool
  | .lpa => (List.range 16).any (fun c => b.configured c && decide (b.pairOf c < 3))
  | .pwm => (List.range 16).any (fun c => b.configured c)
  | .afe => (List.range 16).any (fun c => b.configured c)
  | .feed => (List.range 12).any (fun p => b.rd (R.FBn_CFG_MODE p) != 0)
  | .comm => (List.range 4).any (fun k => b.on (R.CANn_CFG_EN k)) || (List.range 2).any (fun p => b.on (R.LODE_Pk_CFG_EN p))
  | .host => !b.on R.HIF_CFG_HOSTLESS
  | .mir => b.rd R.MIR_STAT_PID != 0
  | _ => true

/-- The frame and its discipline (R33, R34, R49, R50). -/
def Blk.condFrame (b : Blk) : List Cond :=
  let p := b.period
  let s := b.rd R.TICK_SPHASE_PHASE
  let o := b.rd R.TICK_OPHASE_PHASE
  [b.inRange R.TICK_PERIOD_PERIOD 8000 100000,
   cond (decide (s + 2048 ≤ p)) [R.TICK_SPHASE_PHASE, R.TICK_PERIOD_PERIOD],
   cond (decide (s + 1024 ≤ o)) [R.TICK_OPHASE_PHASE, R.TICK_SPHASE_PHASE],
   cond (decide (o + 1024 ≤ p)) [R.TICK_OPHASE_PHASE, R.TICK_PERIOD_PERIOD],
   b.inRange R.TICK_CTL_SLEW 0 16] ++
  onlyIf (b.on R.TICK_CTL_DISC_EN) [
   cond (p % 2 == 0) [R.TICK_CTL_DISC_EN, R.TICK_PERIOD_PERIOD],
   cond (decide (2 * b.rd R.TICK_ALIGN_OFFSET < 5 * p)) [R.TICK_CTL_DISC_EN, R.TICK_ALIGN_OFFSET, R.TICK_PERIOD_PERIOD]]

/-- The PWM side of drive n (R62, R73). -/
def Blk.condPwm (b : Blk) (n : Nat) : List Cond :=
  cond (decide (b.rd (R.Dn_CARR_OFS n) < b.period)) [R.Dn_CARR_OFS n, R.TICK_PERIOD_PERIOD] ::
  forAll 3 (fun k => b.inRange (R.Dn_DEADT_DT n k) 0 128000 :: onlyIf (b.configured n) [
    cond (decide (2 * (b.rd (R.Dn_DEADT_DT n k) + b.rd (R.Dn_MINPW_MINPW n)) < b.carrier n))
      [R.Dn_DEADT_DT n k, R.Dn_MINPW_MINPW n, R.Dn_CFG_RATIO n, R.TICK_PERIOD_PERIOD]])

/-- Commutation of drive n (R85, R96, R105, R106). -/
def Blk.condCommut (b : Blk) (n : Nat) : List Cond :=
  let mode := b.rd (R.Dn_CMODE_MODE n)
  let sens := b.on (R.Dn_CMODE_SENS n)
  let p := b.rd (R.Dn_CMODE_FBSEL n)
  let soft := b.rd (R.Dn_SOFT_SOFT n)
  let other := fun m => m != n && b.on (R.Dn_CMODE_SENS m) && b.rd (R.Dn_CMODE_FBSEL m) == p
  [b.inRange (R.Dn_CMODE_MODE n) 0 2,
   cond (sens || mode == 1) [R.Dn_CMODE_MODE n],
   b.inRange (R.Dn_CMODE_FBSEL n) 0 11] ++
  onlyIf sens [
   cond (b.rd (R.FBn_CFG_MODE p) != 0) [R.Dn_CMODE_FBSEL n, R.FBn_CFG_MODE p],
   cond (!(List.range 8).any other) (R.Dn_CMODE_FBSEL n :: ((List.range 8).filter other).map R.Dn_CMODE_FBSEL)] ++
  [b.inRange (R.Dn_SPDFS_POLEP n) 1 32, b.inRange (R.Dn_SPDFS_SPD_FS n) 1 65535,
   b.inRange (R.Dn_SOFT_BLANK n) 0 120, b.inRange (R.Dn_SOFT_SOFT n) 0 240,
   cond (decide (soft + b.rd (R.Dn_SOFT_BLANK n) ≤ 360)) [R.Dn_SOFT_SOFT n],
   cond (decide (2 * Int.ofNat (b.rd (R.Dn_SOFT_ADVB n)) ≤ advLim (!sens || b.on (R.Dn_CMODE_FALLBK n)) soft))
     [R.Dn_SOFT_ADVB n, R.Dn_CMODE_SENS n],
   cond (decide (b.rd (R.Dn_HOSPD_DN n) < b.rd (R.Dn_HOSPD_UP n))) [R.Dn_HOSPD_DN n],
   b.inRange (R.Dn_BUMP_HFRM n) 1 255, b.inRange (R.Dn_ZC_MISS n) 1 15]

/-- Starting of drive n (R133); FHO is compared at the 0.1 Hz of its register, as the worked example does. -/
def Blk.condStart (b : Blk) (n : Nat) : List Cond :=
  let cm := b.rd (R.Dn_START_CATCH_MIN n)
  let fho := b.rd (R.Dn_IFF_FHO n)
  let fmax := b.rd (R.Dn_IFF_FMAX n)
  let least := (250 * cm * b.rd (R.Dn_SPDFS_SPD_FS n) * b.rd (R.Dn_SPDFS_POLEP n) + 19660800) / 39321600
  [b.inRange (R.Dn_START_CATCHT n) 20 255, b.inRange (R.Dn_START_REVPOL n) 0 2, b.inRange (R.Dn_ALIGN_ALIGNT n) 1 65535] ++
  onlyIf (b.configured n) ([
   b.inRange (R.Dn_START_CATCH_MIN n) 1 65535,
   cond (decide (cm ≤ b.rd (R.Dn_REVMAX_REV_MAX n))) [R.Dn_REVMAX_REV_MAX n, R.Dn_START_CATCH_MIN n],
   cond (decide (least ≤ fho)) [R.Dn_IFF_FHO n, R.Dn_START_CATCH_MIN n, R.Dn_SPDFS_SPD_FS n],
   cond (decide (fho < fmax)) [R.Dn_IFF_FMAX n],
   cond (decide (fmax ≤ 20000) && decide (fmax * 6 * b.carrier n ≤ 128000000000))
     [R.Dn_IFF_FMAX n, R.Dn_CFG_RATIO n, R.TICK_PERIOD_PERIOD]] ++
   onlyIf (!b.on (R.Dn_CMODE_SENS n)) [
    b.inRange (R.Dn_ALIGN_IALIGN n) 1 65535, b.inRange (R.Dn_IF_IIF n) 1 65535])

/-- The DC link of drive n (R281, R282, R285). -/
def Blk.condLink (b : Blk) (n : Nat) : List Cond :=
  let lt := fun (x y : Fld) => cond (decide (b.rd x < b.rd y)) [x, y]
  let mode := b.rd (R.Dn_BRK_MODE n)
  let src := b.rd (R.Dn_BRK_SRC n)
  [b.inRange (R.Dn_BRK_MODE n) 0 2,
   cond (!(b.on (R.Dn_BRK_FBEN n) || b.on (R.Dn_BRK_SLPEN n)) || decide (20 ≤ b.rd (R.Dn_BRK_MINON n))) [R.Dn_BRK_MINON n]] ++
  onlyIf (mode == 2) [cond (b.rd (R.Dn_BRK_MODE src) == 1) [R.Dn_BRK_SRC n, R.Dn_BRK_MODE src]] ++
  onlyIf (b.configured n) (
   (if mode = 0 then [lt (R.Dn_DCTH1_UV n) (R.Dn_DCTH1_OV1 n)]
    else [lt (R.Dn_DCTH1_UV n) (R.Dn_DCTH0_BRKOFF n), lt (R.Dn_DCTH0_BRKOFF n) (R.Dn_DCTH0_BRKON n),
          lt (R.Dn_DCTH0_BRKON n) (R.Dn_DCTH1_OV1 n)]) ++
   [lt (R.Dn_DCTH1_OV1 n) (R.Dn_DCTH2_OV2 n), lt (R.Dn_DCTH2_OV2 n) (R.Dn_DCTH2_OV3 n),
    cond (decide (b.rd (R.Dn_DCTH2_OV3 n) ≤ b.rd (R.AFE_VSC_DCFS n))) [R.Dn_DCTH2_OV3 n, R.AFE_VSC_DCFS n]])

/-- The supervision model of drive n (R216). -/
def Blk.condSup (b : Blk) (n : Nat) : List Cond :=
  let models := (b.chan n).prog.elems.filter (fun e => e.role == ElemRole.model)
  let good := fun (e : Elem) => e.rate == 1 && (match e.kind with
    | .obs _ _ p => p == 2
    | _ => false)
  b.inRange (R.Dn_SUPCFG_PERSIST n) 1 255 ::
  onlyIf (b.configured n && b.on (R.Dn_SUPCFG_EN n)) [
   cond (!models.isEmpty && models.all good) [R.Dn_SUPCFG_EN n]]

/-- The front end (R137, R139, R144, AFE_ISC). -/
def Blk.condAfe (b : Blk) : List Cond :=
  let settle := fun (f : Fld) (k : Nat) =>
    cond (decide (6 * 2 ^ (5 + b.rd f) * b.rd (R.AFE_MCLK_DIV k) ≤ b.period)) [f, R.AFE_MCLK_DIV k, R.TICK_PERIOD_PERIOD]
  forAll 4 (fun k => [b.inRange (R.AFE_MCLK_DIV k) 8 40,
    cond (decide (b.rd (R.AFE_MCLK_DSKEW k) < b.rd (R.AFE_MCLK_DIV k))) [R.AFE_MCLK_DSKEW k]]) ++
  forAll 8 (fun n => onlyIf (b.configured n) [settle (sliceOf R.AFE_OSR_DOSR n 2) (n / 4), b.inRange (R.AFE_ISC_IFS n) 1 65535]) ++
  forAll 8 (fun n => onlyIf (b.configured (8 + n)) [settle (sliceOf R.AFE_OSR_SOSR n 2) (2 + n / 4)]) ++
  [cond (decide (12 * (2 ^ b.rd R.AFE_SLOW_AVG + 1) + 16 ≤ b.period / 80)) [R.AFE_SLOW_AVG, R.TICK_PERIOD_PERIOD]]

/-- Feedback port p (R185). -/
def Blk.condPort (b : Blk) (p : Nat) : List Cond :=
  let mode := b.rd (R.FBn_CFG_MODE p)
  let names := fun n => b.on (R.Dn_CMODE_SENS n) && b.rd (R.Dn_CMODE_FBSEL n) == p
  let sdiv := b.rd (R.FBn_SSI_SDIV p)
  let wlen := b.rd (R.FBn_SSI_WLEN p)
  let pb := b.rd (R.FBn_SSI_PBITS p)
  let crcw := b.rd (R.FBn_SSI_CRCW p)
  let ebit := b.rd (R.FBn_SSICHK_EBIT p)
  let src := b.rd (R.FBn_EMUCFG_SRC p)
  [b.inRange (R.FBn_CFG_FLT p) 0 128, b.inRange (R.FBn_CPR_CPR p) 1 16777215, b.inRange (R.FBn_SPDCFG_STILL p) 1 4095,
   b.inRange (R.FBn_SSI_TOUT p) 1 255, b.inRange (R.FBn_SSI_SDIV p) 10 255, b.inRange (R.FBn_SSI_WLEN p) 8 48,
   cond (crcw == 0 || (decide (3 ≤ crcw) && decide (crcw ≤ 8))) [R.FBn_SSI_CRCW p],
   b.inRange (R.FBn_SSICHK_SSIMAX p) 1 7, b.inRange (R.FBn_CMPCTL_PW p) 5 100000,
   b.inRange (R.FBn_EMU_M p) 1 65535, b.inRange (R.FBn_EMU_N p) 1 (b.rd (R.FBn_EMU_M p)),
   b.inRange (R.FBn_EMUCFG_SRC p) 0 11, b.inRange (R.FBn_EMUCFG_EMIN p) 5 255] ++
  onlyIf (mode == 2) (((List.range 8).filter names).map (fun n =>
   cond (b.rd (R.FBn_CPR_CPR p) == 6 * b.rd (R.Dn_SPDFS_POLEP n)) [R.FBn_CPR_CPR p, R.Dn_SPDFS_POLEP n])) ++
  onlyIf (mode == 3) [
   b.inRange (R.FBn_SSI_PBITS p) 1 63,
   cond (decide (pb + crcw ≤ wlen)) [R.FBn_SSI_PBITS p],
   cond (ebit == 63 || (decide (crcw ≤ ebit) && decide (ebit + pb + 1 ≤ wlen))) [R.FBn_SSICHK_EBIT p, R.FBn_SSI_CRCW p],
   cond (decide (b.rd (R.FBn_SSICHK_SDLY p) < sdiv)) [R.FBn_SSICHK_SDLY p, R.FBn_SSI_SDIV p],
   cond (decide ((2 * wlen + 1) * sdiv * 10 + 2000 * (b.rd (R.FBn_SSI_TOUT p) + 1) ≤ 5 * b.period))
     [R.FBn_SSI_WLEN p, R.TICK_PERIOD_PERIOD]] ++
  onlyIf (b.on (R.FBn_EMUCFG_EN p)) [
   cond (b.rd (R.FBn_CFG_MODE src) != 0) [R.FBn_EMUCFG_SRC p, R.FBn_CFG_MODE src]]

/-- Steppers and axes (R260). -/
def Blk.condAxis (b : Blk) (a : Nat) : List Cond :=
  let ports := b.rd (R.Dn_CMODE_FBSEL a)
  let scale := b.rd (R.FBn_CPR_CPR ports) * b.period * b.rd (R.Dn_SPDFS_SPD_FS a)
  let fits := fun (f g : Fld) => cond (decide (b.rd f * 24000000000 ≤ b.rd g * scale)) [f, g]
  onlyIf (b.on (R.MPG_CFG_SCURVE a)) [cond (decide (b.nJ a ≤ 4096)) [R.MPG_AMAX_AMAX a, R.MPG_JMAX_JMAX a]] ++
  onlyIf (b.on (R.MPG_CFG_EN a)) ([
   b.inRange (R.MPG_AMAX_AMAX a) 1 (2 ^ 32 - 1), b.inRange (R.MPG_DMAX_DMAX a) 1 (2 ^ 32 - 1),
   b.inRange (R.MPG_DSTOP_DSTOP a) 1 (2 ^ 32 - 1), b.inRange (R.MPG_JMAX_JMAX a) 1 (2 ^ 32 - 1)] ++
   (if 8 ≤ a then [b.inRange (R.MPG_VMAX_VMAX a) 0 0x800000]
    else [cond (b.on (R.Dn_CMODE_SENS a)) [R.Dn_CMODE_SENS a],
      fits (R.MPG_AMAX_AMAX a) (R.Dn_RAMP_ACC a), fits (R.MPG_AMAX_AMAX a) (R.Dn_RAMP_DEC a),
      fits (R.MPG_DSTOP_DSTOP a) (R.Dn_RAMP_ACC a), fits (R.MPG_DSTOP_DSTOP a) (R.Dn_RAMP_DEC a)]))

def Blk.condStepper (b : Blk) (n : Nat) : List Cond :=
  [b.inRange (R.Sn_STALL_STALLN n) 1 255,
   cond (decide (b.rd (R.Sn_STALL_STVMIN n) ≤ b.rd (R.Sn_HOME_HOMESPD n))) [R.Sn_HOME_HOMESPD n, R.Sn_STALL_STVMIN n],
   cond (decide (b.rd (R.Sn_HOME_HOMESPD n) * 256 ≤ b.rd (R.MPG_VMAX_VMAX (8 + n))))
     [R.Sn_HOME_HOMESPD n, R.MPG_VMAX_VMAX (8 + n)],
   cond ((b.stp n).table.all (fun x => decide (0 ≤ x) && decide (x ≤ 32767))) [R.Sn_TABDAT_EVEN n]]

/-- Share group g (R263). -/
def Blk.condShare (b : Blk) (g : Nat) : List Cond :=
  let on := b.slotsOf g
  let mode := b.rd (R.SHR_Gg_CFG_MODE g)
  let mem := R.SHR_Gg_MEM_SLOT g
  let twice := fun s => (List.range 4).any (fun g' => (b.slotsOf g').any (fun s' =>
    !(g' == g && s' == s) && b.slotByte g' s' % 16 == b.slotByte g s % 16))
  let lead := b.slotDrive g (on.headD 0)
  [b.inRange (R.SHR_Gg_CFG_DEVN g) 1 255, cond (mode == 0 || decide (2 ≤ on.length)) [R.SHR_Gg_CFG_MODE g, mem],
   cond (!on.any twice) (mem :: ((List.range 4).filter (fun g' => g' != g && (b.slotsOf g').any (fun s' =>
     on.any (fun s => b.slotByte g' s' % 16 == b.slotByte g s % 16)))).map R.SHR_Gg_MEM_SLOT)] ++
  on.flatMap (fun s =>
    let d := b.slotDrive g s
    [cond (b.configured d) [mem, R.Dn_CFG_EN d], cond (!b.on (R.Dn_CMODE_CTRL d)) [mem, R.Dn_CMODE_CTRL d],
     b.inRange (R.SHR_Gg_WT_RTQ g s) 1 65535, b.inRange (R.SHR_Gg_WT_RATE g s) 1 65535] ++
    onlyIf (mode == 2) [b.inRange (sliceOf (R.SHR_Gg_DROOP_DROOP g) s 8) 1 255] ++
    onlyIf (mode == 3) [cond (b.rd (R.Dn_CMODE_MODE d) == 0) [mem, R.Dn_CMODE_MODE d],
      cond (b.rd (R.Dn_SPDFS_POLEP d) == b.rd (R.Dn_SPDFS_POLEP lead) &&
        b.rd (R.Dn_SPDFS_SPD_FS d) == b.rd (R.Dn_SPDFS_SPD_FS lead)) [mem, R.Dn_SPDFS_POLEP d, R.Dn_SPDFS_POLEP lead]])

/-- An assigned TH input is enabled and has its constants (R318). -/
def Blk.condNtc (b : Blk) (k : Nat) (f : Fld) : List Cond :=
  [cond (bitAt (b.rd R.AFE_SLOW_EN) k) [f, R.AFE_SLOW_EN],
   b.inRange (R.THM_NTC_B k) 1 65535, b.inRange (R.THM_NTC_R26 k) 1 65535]

/-- The thermal model of drive n and the limit of stepper n (R318). -/
def Blk.condThermal (b : Blk) (n : Nat) : List Cond :=
  let lt := fun (x y : Fld) => cond (decide (b.rd x < b.rd y)) [x, y]
  let slow := fun (c r : Fld) (k : Nat) =>
    cond (decide (1600 * b.period ≤ b.rd c * b.rd r * k)) [c, r, R.TICK_PERIOD_PERIOD]
  onlyIf (b.configured n && b.on (R.THM_Dn_CFG_EN n)) (
   [lt (R.THM_Dn_LIMS_TSTART n) (R.THM_Dn_LIMS_TMAX n),
    cond (decide (b.rd (R.THM_Dn_LIMS_TMAX n) ≤ b.rd (R.THM_Dn_LIMS_TTRIP n))) [R.THM_Dn_LIMS_TMAX n],
    lt (R.THM_Dn_LIMW_TSTART n) (R.THM_Dn_LIMW_TMAX n),
    cond (decide (b.rd (R.THM_Dn_LIMW_TMAX n) ≤ b.rd (R.THM_Dn_LIMW_TTRIP n))) [R.THM_Dn_LIMW_TMAX n],
    b.inRange (R.THM_Dn_LIMS_FLOOR n) 10 90, b.inRange (R.THM_Dn_RATE_RWIN n) 1 65535,
    slow (R.THM_Dn_WC_CW n) (R.THM_Dn_WR_RWS n) 1000000, slow (R.THM_Dn_WC_CS n) (R.THM_Dn_WR_RWS n) 10000000,
    slow (R.THM_Dn_WC_CS n) (R.THM_Dn_WS_RSA n) 10000000] ++
   forAll 4 (fun k => [b.inRange (R.THM_Dn_FST_M n k) 1 4095]) ++
   onlyIf (b.on (R.THM_Dn_CFG_SNEN n))
    (b.inRange (R.THM_Dn_CFG_NTCPOS n) 1 3 :: b.condNtc (b.rd (R.THM_Dn_CFG_SNTC n)) (R.THM_Dn_CFG_SNTC n)) ++
   onlyIf (b.on (R.THM_Dn_CFG_WNEN n)) (b.condNtc (b.rd (R.THM_Dn_CFG_WNTC n)) (R.THM_Dn_CFG_WNTC n))) ++
  onlyIf (b.configured (8 + n) && b.on (R.THM_Sn_CFG_EN n))
   (lt (R.THM_Sn_CFG_TSTART n) (R.THM_Sn_CFG_TTRIP n) :: b.condNtc (b.rd (R.THM_Sn_CFG_NTC n)) (R.THM_Sn_CFG_NTC n))

/-- The host interface, levers, transactions and Ward (R425, R426, R427, R405, register tables). -/
def Blk.condHost (b : Blk) : List Cond :=
  [b.inRange R.HIF_HB_TMO 1 1000, b.inRange R.TXN_CFG_MIRN 1 255, b.inRange R.TXN_CFG_TMO 1 65535,
   b.inRange R.WARD_CFG_RETN 1 15, b.inRange R.CLK_CFG_PLAUS 100 5000, b.inRange R.STR_CFG_PERIOD 1 1440] ++
  forAll 8 (fun n =>
    let m := b.rd (R.HIF_BLOSS_MODE n)
    [b.inRange (R.HIF_BLOSS_MODE n) 0 2,
     cond (m == 0 || !b.on (R.Dn_CMODE_CTRL n)) [R.HIF_BLOSS_MODE n, R.Dn_CMODE_CTRL n],
     cond (m == 0 || !b.on (R.MPG_CFG_EN n)) [R.HIF_BLOSS_MODE n, R.MPG_CFG_EN n],
     cond (m != 2 || bitAt (b.rd R.AFE_SLOW_EN) (16 + b.rd (R.HIF_BLOSS_LEV n))) [R.HIF_BLOSS_MODE n, R.AFE_SLOW_EN]] ++
    onlyIf (b.on R.HIF_CFG_HOSTLESS && b.configured n) [
     cond (m == 2 && b.on (R.HIF_BLOSS_LSTART n)) [R.HIF_BLOSS_MODE n]]) ++
  forAll 4 (fun k =>
    let br := b.rd (R.HIF_LEVC_LBRK k)
    let mn := b.rd (R.HIF_LEVA_LMIN k)
    let mx := b.rd (R.HIF_LEVA_LMAX k)
    let mid := b.rd (R.HIF_LEVB_LMID k)
    let db := b.rd (R.HIF_LEVB_DB k)
    onlyIf (bitAt (b.rd R.AFE_SLOW_EN) (16 + k)) [
     cond (decide (br < mn)) [R.HIF_LEVC_LBRK k, R.HIF_LEVA_LMIN k],
     cond (decide (mn + db < mid)) [R.HIF_LEVA_LMIN k, R.HIF_LEVB_DB k],
     cond (decide (mid + db < mx)) [R.HIF_LEVA_LMAX k, R.HIF_LEVB_DB k],
     cond (decide (mx + br < 65535)) [R.HIF_LEVA_LMAX k, R.HIF_LEVC_LBRK k]])

/-- ACT of the filter elements in use, from their words (R454). -/
def filterActs (std ext : List Nat) (ns nx : Nat) : List Nat :=
  (std.take ns).map (fun w => w / 2 ^ 27 % 8) ++ (List.range nx).map (fun e => ext.getD (2 * e) 0 / 2 ^ 29 % 8)

/-- CAN controller k (R450, R454, R455). -/
def Blk.condCan (b : Blk) (k : Nat) : List Cond :=
  let quanta := fun (brp s1 s2 : Fld) => (b.rd brp + 1) * (3 + b.rd s1 + b.rd s2)
  let nq := quanta (R.CANn_NBT_NBRP k) (R.CANn_NBT_NTSEG1 k) (R.CANn_NBT_NTSEG2 k)
  let dq := quanta (R.CANn_DBT_DBRP k) (R.CANn_DBT_DTSEG1 k) (R.CANn_DBT_DTSEG2 k)
  let bound := (List.range 64).any (fun s => decide (1 ≤ s) && b.on (R.SLL_SESs_CFG_EN s) &&
    b.rd (R.SLL_SESs_CFG_TRANS s) == 1 && b.rd (R.SLL_SESs_CFG_CANK s) == k)
  let c := b.cans.getD k default
  [b.inRange (R.CANn_CFG_FLSTD k) 0 128, b.inRange (R.CANn_CFG_FLXTD k) 0 64,
   b.inRange (R.CANn_NBT_NTSEG1 k) 1 255, b.inRange (R.CANn_NBT_NTSEG2 k) 1 127,
   cond ((filterActs c.std c.ext (b.rd (R.CANn_CFG_FLSTD k)) (b.rd (R.CANn_CFG_FLXTD k))).all (fun a => decide (a < 6)))
     [R.CANn_FLTDAT_WORD k, R.CANn_CFG_FLSTD k]] ++
  onlyIf (b.on (R.CANn_CFG_EN k)) [
   b.inRange (R.CANn_CFG_NMS k) 0 2, b.inRange (R.CANn_CFG_MODE k) 0 1,
   cond (decide (80 ≤ nq)) [R.CANn_NBT_NBRP k],
   cond (decide (10 ≤ dq)) [R.CANn_DBT_DBRP k],
   cond (decide (dq ≤ nq)) [R.CANn_NBT_NBRP k, R.CANn_DBT_DBRP k],
   cond (decide (b.rd (R.CANn_NBT_NSJW k) ≤ b.rd (R.CANn_NBT_NTSEG2 k))) [R.CANn_NBT_NSJW k],
   cond (decide (b.rd (R.CANn_DBT_DSJW k) ≤ b.rd (R.CANn_DBT_DTSEG2 k))) [R.CANn_DBT_DSJW k],
   cond (!b.on (R.CANn_TDC_EN k) || decide (b.rd (R.CANn_DBT_DBRP k) ≤ 1)) [R.CANn_TDC_EN k, R.CANn_DBT_DBRP k],
   cond (b.on (R.CANn_CFG_FDEN k) || !bound) [R.CANn_CFG_FDEN k]]

/-- Lode (R478, register tables). -/
def Blk.condLode (b : Blk) : List Cond :=
  b.inRange R.LODE_PTPCFG_SYNCTO 2 15 ::
  forAll 2 (fun p =>
    let len := b.rd (R.LODE_Pk_GCLCFG_LEN p)
    let cyc := b.rd (R.LODE_Pk_CYCLE_CYCLE p)
    b.inRange (R.LODE_Pk_CFG_SPEED p) 0 2 :: onlyIf (b.on (R.LODE_Pk_GCLCFG_EN p)) [
     b.inRange (R.LODE_Pk_GCLCFG_LEN p) 1 64, b.inRange (R.LODE_Pk_CYCLE_CYCLE p) 1000 1000000000,
     cond ((((b.lodePort p).list.take len).map (fun w => w % 2 ^ 24)).sum == cyc)
       [R.LODE_Pk_GCLDAT_INTERVAL p, R.LODE_Pk_GCLCFG_LEN p, R.LODE_Pk_CYCLE_CYCLE p],
     cond (decide (b.rd (R.LODE_Pk_BASE_BASE p) < cyc)) [R.LODE_Pk_BASE_BASE p, R.LODE_Pk_CYCLE_CYCLE p]]) ++
  forAll 32 (fun s => [b.inRange (R.LODE_CBTIM_PATHTO s) 1 65535, b.inRange (R.LODE_CBTIM_RSTTO s) 1 65535])

/-- The candidate needs no domain that is off (R512): `now` is the running state. -/
def Blk.condDomains (b now : Blk) : List Cond :=
  let up := fun (d : Dom) (l : List Nat) => (⟨!b.needs d || now.powered d, l⟩ : Cond)
  let cfgs := (List.range 8).map (fun n => (R.Dn_CFG_EN n).off) ++ (List.range 8).map (fun n => (R.Sn_CFG_EN n).off)
  [up .lpa cfgs, up .pwm cfgs, up .afe cfgs, up .feed ((List.range 12).map (fun p => (R.FBn_CFG_MODE p).off)),
   up .comm ((List.range 4).map (fun k => (R.CANn_CFG_EN k).off) ++ (List.range 2).map (fun p => (R.LODE_Pk_CFG_EN p).off))]

/-- The final coefficient tables (R205): no LO above its HI. -/
def Blk.condCoefs (b : Blk) (c : Nat) : List Cond :=
  [cond ((b.chan c).prog.elems.all (fun e => limitsOk e (b.chan c).coefs)) [R.TXN_COEF_VALUE]]

/-- Every condition of status RANGE. -/
def Blk.condRange (b now : Blk) : List Cond :=
  b.condFrame ++ forAll 8 (fun n => b.condPwm n ++ b.condCommut n ++ b.condStart n ++ b.condLink n ++ b.condSup n) ++
  b.condAfe ++ forAll 12 b.condPort ++ forAll 16 b.condAxis ++ forAll 8 b.condStepper ++ forAll 4 b.condShare ++
  forAll 8 b.condThermal ++ b.condHost ++ forAll 4 b.condCan ++ b.condLode ++ b.condDomains now ++ forAll 16 b.condCoefs

/-- The least of a list of numbers. -/
def least? (l : List Nat) : Option Nat := l.foldl (fun r x => match r with
  | none => some x
  | some y => some (min x y)) none

/-- The word index that DETAIL gives for broken conditions (R438): the lowest register of one that the list writes,
else the lowest involved; the lowest over all. -/
def detailOf (l : List Cond) (written : List Nat) : Option Nat :=
  (least? ((l.filter (fun c => !c.ok)).filterMap (fun c =>
    match least? (c.regs.filter (fun r => written.contains r)) with
    | some r => some r
    | none => least? c.regs))).map (fun r => r / 4)

/-- The limits of one program (R196) and the numbers of a group of them. -/
def progSize (p : Program) (coefs : List Int) : Nat × Nat × Nat := (p.elems.length, coefs.length, stateWords p - 4)

/-- A rate divisor and its offset are ones that R38 gives: N or M × N with both from 1 to 64 and the product not above
4,096, the offset below it. -/
def rateOk (e : Elem) : Bool :=
  decide (e.ofs < e.rate) && decide (e.rate ≤ 4096) &&
    (List.range 64).any (fun i => e.rate % (i + 1) == 0 && decide (e.rate / (i + 1) ≤ 64))

/-- The first breach of status PROGRAM in a channel (R193, R196, R201, R235; R38, log entry 127) as its DETAIL. -/
def Blk.progBreach (b : Blk) (c : Nat) : Option Nat :=
  let x := b.chan c
  let (n, k, w) := progSize x.prog x.coefs
  if 96 < n ∨ 512 < k ∨ 256 < w ∨ (c < 8 ∧ b.on (R.Dn_SUPCFG_EN c) = true ∧ x.prog.sup ≠ 12) then some (c * 4096 + 0xFF)
  else (least? ((List.range n).filter (fun i =>
    let e := x.prog.elems.getD i default
    !boundOk e || e.declared != runCost e || !rateOk e))).map (fun i => c * 4096 + i)

/-- The channels that an assignment gives to a pair. -/
def onPair (l : List (Nat × Nat)) (k : Nat) : List Nat := (l.filter (fun x => x.2 == k)).map (·.1)

/-- The cycles that the image declares for the generator and the capture of pair k are those of R235. -/
def Blk.tuningOk (b : Blk) (k : Nat) : Bool := b.le.tuned.all (fun x => x.1 != k || (x.2.1 == 28 && x.2.2 == 16))

/-- A pair's totals are within R196. -/
def Blk.pairFits (b : Blk) (chs : List Nat) : Bool :=
  let s := chs.map (fun c => progSize (b.chan c).prog (b.chan c).coefs)
  decide ((s.map (·.1)).sum ≤ 768) && decide ((s.map (·.2.1)).sum ≤ 4096) && decide ((s.map (·.2.2)).sum ≤ 2048)

/-- Where the candidate runs each configured channel: those that have a pair stay; a shed or newly configured channel
is placed as R210 places one; a shed channel that fits nowhere stays shed. -/
def Blk.assignment (b : Blk) : List (Nat × Nat) :=
  let chs := (List.range 16).filter (fun c => b.configured c)
  let kept := (chs.filter (fun c => decide (b.pairOf c < 5))).map (fun c => (c, b.pairOf c))
  (b.byPriority (chs.filter (fun c => decide (5 ≤ b.pairOf c)))).foldl (fun l c =>
    match b.placeOne l b.survivors c with
    | some k => l ++ [(c, k)]
    | none => if b.pairOf c = 0xE then l else l ++ [(c, b.survivors.headD 4)]) kept

/-- Status PROGRAM: the lowest channel's first breach; a pair over its totals counts for its lowest channel. -/
def Blk.checkProgram (b : Blk) : Option Nat :=
  let chs := (List.range 16).filter (fun c => b.configured c)
  match chs.filterMap b.progBreach with
  | d :: _ => some d
  | [] => ((List.range 5).filterMap (fun k =>
      if b.pairFits (onPair b.assignment k) && b.tuningOk k then none else (onPair b.assignment k).head?.map (fun c => c * 4096 + 0xFF))).head?

/-- Status ADMIT (R39, R40): pair, window (true for post-output), residue and excess of the worst excess. Of equal excesses,
which R40 does not order, the lowest pair is named, its pre-output window first, the lowest residue (DESIGN CHOICE, log entry
181). -/
def Blk.checkAdmit (b : Blk) : Option (Nat × Bool × Nat × Nat) :=
  let l := b.assignment
  ((List.range 5).flatMap (fun k => [false, true].map (fun post => (k, post)))).foldl (fun r x =>
    let w := if x.1 = 4 ∧ b.pairState 4 = 4 then (0, 0) else b.pairLoad (onPair l) x.1 x.2
    let ex := w.1 - b.windowLen x.2
    match r with
    | some y => if y.2.2.2 < ex then some (x.1, x.2, w.2, ex) else r
    | none => if 0 < ex then some (x.1, x.2, w.2, ex) else none) none

/-- A fallback plan is admitted with the programs of the candidate (R39, R196). -/
def Blk.planUsable (b : Blk) (p : Plan) : Bool :=
  let l := p.assign.map (fun x => (x.1.val, x.2.val))
  (List.range 5).all (fun k =>
    let chs := onPair l k
    chs.isEmpty || (!p.lost.any (fun y => y.val == k) && b.pairFits chs &&
      (b.pairMargin (b.progsOf chs) (b.provisioned k)).isSome)) &&
  (List.range 16).all (fun c => !b.configured c || l.any (fun x => x.1 == c))

/-- The largest F of the candidate in bytes; 0 for a solo module (R387). -/
def Blk.largestF (b : Blk) : Nat :=
  if b.rd R.MIR_STAT_PID = 0 then 0
  else
    let chs := (List.range 16).filter (fun c => b.configured c && bitAt (b.rd R.MIR_CHMAP_PAIRED) c)
    Config.hingeSize (chs.map (fun c => stateWords (b.chan c).prog)) (b.rd R.TXN_CFG_MIRN)

/-- Status HINGE: the size fits (R387), in 1.6 ns per byte, 8 µs and 2.5 ns per cycle. -/
def Blk.hingeFits (b : Blk) : Bool :=
  let f := b.largestF
  f == 0 || (decide (f ≤ 16384) && decide (16 * f + 80000 ≤ 25 * b.period))

/-- The checks of R438 from RANGE on: status, DETAIL, and for ADMIT residue and excess. -/
def Blk.validate (b now : Blk) (written : List Nat) : Option (Nat × Nat × Nat × Nat) :=
  match detailOf (b.condRange now) written with
  | some d => some (0x12, d, 0, 0)
  | none => match b.checkProgram with
    | some d => some (0x13, d, 0, 0)
    | none => match b.checkAdmit with
      | some (k, post, res, ex) => some (0x14, k * 8192 + (if post then 4096 else 0) + min ex 4095, res, ex)
      | none => if b.hingeFits then none else some (0x15, min (ceilDiv b.largestF 16) 65535, 0, 0)

/-- The conditions that depend on run state (R73, R185, R260, R263), the candidate against the running state. -/
def Blk.condRun (b now : Blk) : List Cond :=
  let same := fun (f : Fld) => (⟨b.rd f == now.rd f, [f.off]⟩ : Cond)
  let runs := fun n => now.pstate n == 1 || now.pstate n == 2
  forAll 8 (fun n => onlyIf (runs n) ([same (R.Dn_CFG_TOPO n), same (R.Dn_CFG_GPOL n), same (R.Dn_CFG_EN n)] ++
    onlyIf (now.on (R.Dn_CMODE_SENS n)) (
      let p := now.rd (R.Dn_CMODE_FBSEL n)
      [same (R.FBn_CFG_MODE p), same (R.FBn_CPR_CPR p), same (R.FBn_CFG_INV p), same (R.FBn_CFG_GRAY p),
       same (R.FBn_CFG_ZGATE p), same (R.FBn_ANG_EOFS p)]))) ++
  forAll 16 (fun a => onlyIf ([1, 2, 4, 5].contains (now.rd (R.MPG_STAT_STATE a))) (
    [same (R.MPG_CFG_W a), same (R.MPG_VMAX_W a), same (R.MPG_AMAX_W a), same (R.MPG_DMAX_W a), same (R.MPG_JMAX_W a),
     same (R.MPG_DSTOP_W a)] ++ onlyIf (decide (8 ≤ a)) [same (R.Sn_CFG_SRATIO (a - 8)),
      cond ((b.stp (a - 8)).table == (now.stp (a - 8)).table) [R.Sn_TABDAT_EVEN (a - 8)]])) ++
  forAll 4 (fun g => onlyIf ((now.slotsOf g).any (fun s => ((now.lastWord g s).map (·.run)).getD false) ||
      (b.slotsOf g).any (fun s => ((b.lastWord g s).map (·.run)).getD false))
    [same (R.SHR_Gg_CFG_MODE g), same (R.SHR_Gg_MEM_SLOT g)]) ++
  forAll 16 b.condCoefs

end Sys2Proof.Machine
end

