-- ==== Sys2Proof/Machine/Tumbler.lean ====
section
/-! DEFINITION. Tumbler's discipline to network time (chapter 2, R49 to R52). -/

namespace Sys2Proof.Machine

/-- Frames of F are arriving over Hinge: fewer than four in a row are missing (R394). -/
def Blk.hingeUp (b : Blk) : Bool := b.powered .mir && b.mir.got.isSome && decide (b.mir.miss < 4)

/-- The time source that TICK_CTL.SRC selects is valid (R49, R51). -/
def Blk.srcValid (b : Blk) : Bool :=
  if b.on R.TICK_CTL_SRC then b.hingeUp else b.powered .comm && b.on R.LODE_PTPSTAT_SYNC

def Blk.onTick (b : Blk) (f : Tick → Tick) : Blk := { b with tick := f b.tick }

/-- DSTATE of R51: 0 FREE, 1 ACQUIRING, 2 LOCKED, 3 HOLDOVER. -/
def Blk.dstate (b : Blk) : Nat := b.rd R.TICK_STAT_DSTATE

/-- The frame that opens is corrected by so many cycles; the last 1,024 frames are kept (R51). -/
def Tick.correct (t : Tick) (c : Int) : Tick := { t with corr := c, corrs := (c :: t.corrs).take 1024 }

/-- The mean of the corrections of the last 1,024 frames, of those since start-up where they are fewer (R51), rounded half
up to whole cycles: the rounding is the model's choice (DESIGN CHOICE, log entry 121). -/
def Tick.meanCorr (t : Tick) : Int := if t.corrs.isEmpty then 0 else halfUp t.corrs.sum (Int.ofNat t.corrs.length)

/-- Begin acquiring. -/
def Blk.acquire (b : Blk) : Blk := (b.wr R.TICK_STAT_DSTATE 1).onTick (fun t => { t with inBand := 0 })

/-- The discipline state follows its enable and its source (R51). -/
def Blk.discFollow (b : Blk) : Blk :=
  if b.on R.TICK_CTL_DISC_EN = false then
    (b.wr R.TICK_STAT_DSTATE 0).onTick (fun t => { t with inBand := 0, corr := 0 })
  else match b.dstate with
    | 0 => if b.srcValid then b.acquire else b
    | 3 => if b.srcValid then b.acquire else b
    | _ =>
      if b.srcValid then b
      else ((b.wr R.TICK_STAT_DSTATE 3).onTick (fun t => { t with mean := t.meanCorr, inBand := 0 })).raise 0x1101 0 []

/-- A frame's correction in SYSCLK cycles for a phase error in ns, at most SLEW (R50, log entry 40: a positive error is a
late tick). -/
def tickCorr (ph : Int) (slew : Nat) : Int := satI (-(halfUp (2 * ph) 5)) (-(Int.ofNat slew)) (Int.ofNat slew)

/-- The phase error of the tick in ns (R49): with SRC = 0 how far gPTP time less OFFSET lies from the nearest multiple of
the period, positive where the tick is late; with SRC = 1 the distance `ph` from the partner's tick. The manual gives no
rounding to whole ns (log entry 25). -/
def Blk.phaseErr (b : Blk) (ph : Int) : Int :=
  if b.on R.TICK_CTL_SRC then ph
  else
    let per : Rat := (5 * b.period : Nat) / 2
    let x := b.lode.ns - (b.rd R.TICK_ALIGN_OFFSET : Rat)
    let r := x - per * (x / per).floor
    onGrid (if per < 2 * r then r - per else r)

/-- TICK_DISCIPLINE_CORRECTION and DISCIPLINE_PHASE_ERROR at a tick (R49 to R51). -/
def Blk.discTick (b : Blk) (src : Int) : Blk :=
  let b := b.discFollow
  let ph := b.phaseErr src
  let slew := b.rd R.TICK_CTL_SLEW
  match b.dstate with
  | 0 => b.onTick (fun t => { t.correct 0 with phErr := 0 })
  | 3 => b.onTick (fun t => t.correct (satI t.mean (-(Int.ofNat slew)) (Int.ofNat slew)))
  | st =>
    let b := (b.wrS R.TICK_STAT_PHERR (satI ph (-32767) 32767)).onTick (fun t =>
      { t.correct (tickCorr ph slew) with
        phErr := ph, inBand := if magI ph ≤ 50 then t.inBand + 1 else 0 })
    if st = 2 ∧ 500 < magI ph then b.acquire.raise 0x1102 0 [ph] else b

/-- DISCIPLINE_LOCKED (R51): 64 frames in a row within ±50 ns. -/
def Blk.doDisciplineLocked (b : Blk) : Blk :=
  if b.dstate = 1 ∧ 64 ≤ b.tick.inBand then (b.wr R.TICK_STAT_DSTATE 2).raise 0x1002 0 [] else b

/-- The consequences of a commit for the frame and its discipline, from the state before it (R47, R51, R52). In HOLDOVER
with the source still lost R52 puts the state to ACQUIRING and R51 back to HOLDOVER at the same tick, with another event
0x1101 (DESIGN CHOICE, log entry 122). -/
def Blk.frameCommitted (b old : Blk) : Blk :=
  let p := decide (b.period ≠ old.period)
  let ph := decide (b.rd R.TICK_SPHASE_PHASE ≠ old.rd R.TICK_SPHASE_PHASE) ||
    decide (b.rd R.TICK_OPHASE_PHASE ≠ old.rd R.TICK_OPHASE_PHASE)
  let b := if p || ph then b.raise 0x1001 0 [] else b
  let slew := Int.ofNat (b.rd R.TICK_CTL_SLEW)
  let b := b.onTick (fun t => { t with corr := satI t.corr (-slew) slew })
  if b.on R.TICK_CTL_DISC_EN ∧ b.dstate ≠ 0 ∧ (p = true ∨ b.rd R.TICK_ALIGN_W ≠ old.rd R.TICK_ALIGN_W)
  then b.acquire.discFollow else b.discFollow

end Sys2Proof.Machine
end

