-- ==== Sys2Proof/Machine/Txn.lean ====
section
/-! DEFINITION. Transactions (chapter 19): staging with its pointers, the candidate configuration, validation, the
applying tick with its re-check and consequences, timeout and roll-back. -/

namespace Sys2Proof.Machine

/-- The run-time state of a program that has not run: every state word 0. -/
def coldRt (p : Program) : List ElemRt :=
  p.elems.map (fun e => ⟨List.replicate (elemWords e.kind) 0, List.replicate (elemOutputs e.kind) 0⟩)

/-- State carried into a new program by its state map (R207): `map` gives for each instance the old one. -/
def convRt (map : List (Option Nat)) (old : List ElemRt) (p : Program) : List ElemRt :=
  let cold := coldRt p
  (List.range p.elems.length).map (fun i => match map.getD i none with
    | some j => old.getD j (cold.getD i default)
    | none => cold.getD i default)

/-- The preloads that a new program brings (R207): a new controller that takes over the output of the old program's
element with the same part is to give that element's last output first. -/
def Chan.newDue (ch : Chan) (p : Program) (map : List (Option Nat)) : List (Nat × Int) :=
  (List.range p.elems.length).filterMap (fun i =>
    let e := p.elems.getD i default
    match map.getD i none with
    | some j => (ch.due.find? (fun y => y.1 == j)).map (fun y => (i, y.2))
    | none => if e.role = .none ∨ (e.kind ≠ .pi ∧ e.kind ≠ .pid) then none
      else (ch.part e.role).map (fun j => (i, iAt (ch.rt.getD j default).out 0)))

/-- A channel takes a new program (R207): its state and both checkpoint slots are converted by the state map, elements
the map does not name start from zero state, and a new element that takes over an output is preloaded. The state of a
RAMP element is the channel's one ramp, which stays in force. -/
def Chan.newProgram (ch : Chan) (p : Program) (map : List (Option Nat)) : Chan :=
  let conv := fun (k : Ckpt) => { k with rt := convRt map k.rt p }
  { ch with prog := p, rt := convRt map ch.rt p, slot0 := ch.slot0.map conv, slot1 := ch.slot1.map conv
            due := ch.newDue p map }

/-- Shift field `fld` of instance `inst` (TXN_ELEM, R437). -/
def Chan.setShift (ch : Chan) (inst fld : Nat) (v : Int) : Chan :=
  { ch with prog := { ch.prog with
      elems := ch.prog.elems.modify inst (fun e => { e with shifts := e.shifts.set fld v }) } }

/-- The program words staged for channel c: word address and word (R437). -/
def pdatOf (l : List (Nat × Nat × Nat)) (c : Nat) : List (Nat × Nat) :=
  l.filterMap (fun x => if x.1 = 0x504C ∧ x.2.1 / 2 ^ 28 = c then some (x.2.1 % 65536, x.2.2) else none)

/-- Which unit a data register behind a pointer belongs to (R436): stepper table, CAN filter list, gate control list. -/
inductive PtrReg where
  | tab (n : Nat) | flt (k : Nat) | gcl (p : Nat) | pdat
  deriving DecidableEq, Repr

/-- The data register behind a pointer at an offset, if one stands there. -/
def ptrReg (off : Nat) : Option PtrReg :=
  match (List.range 8).find? (fun n => (R.Sn_TABDAT_W n).off == off) with
  | some n => some (.tab n)
  | none => match (List.range 4).find? (fun k => (R.CANn_FLTDAT_W k).off == off) with
    | some k => some (.flt k)
    | none => match (List.range 2).find? (fun p => (R.LODE_Pk_GCLDAT_W p).off == off) with
      | some p => some (.gcl p)
      | none => if off = 0x504C then some .pdat else none

/-- The pointer register of a data register, and the field of it that advances (R436, R454, R478). -/
def PtrReg.sel : PtrReg → Fld × Fld
  | .tab n => (R.Sn_TABADR_W n, R.Sn_TABADR_ADR n)
  | .flt k => (R.CANn_FLTSEL_W k, R.CANn_FLTSEL_ADR k)
  | .gcl p => (R.LODE_Pk_GCLSEL_W p, R.LODE_Pk_GCLSEL_ADR p)
  | .pdat => (R.TXN_PSEL_W, R.TXN_PSEL_ADR)

/-- The pointer in force, and the state with the pointer advanced by one access. -/
def Blk.takePtr (b : Blk) (p : PtrReg) : Nat × Blk := (b.rd p.sel.1, b.wr p.sel.2 (b.rd p.sel.2 + 1))

/-- The place of a filter word in its list: word ADR of the list that XL names; none past its end (R454). -/
def fltPlace (ptr : Nat) : Option (Bool × Nat) :=
  if ptr % 256 < 128 then some (bitAt ptr 31, ptr % 256) else none

/-- Write one staged word into a configuration: offset, pointer, value. -/
def Blk.putStaged (b : Blk) (x : Nat × Nat × Nat) : Blk :=
  let v := x.2.2
  match ptrReg x.1 with
  | some (.tab n) => b.onStp n (fun s =>
      { s with table := (s.table.set (2 * (x.2.1 % 128)) (signed 16 v)).set (2 * (x.2.1 % 128) + 1) (signed 16 (v / 65536)) })
  | some (.flt k) => match fltPlace x.2.1 with
    | some (true, i) => { b with cans := b.cans.modify k (fun c => { c with ext := c.ext.set i v }) }
    | some (false, i) => { b with cans := b.cans.modify k (fun c => { c with std := c.std.set i v }) }
    | none => b
  | some (.gcl p) => b.onLodePort p (fun y => { y with list := y.list.set (x.2.1 % 64) v })
  | some .pdat => b
  | none =>
    let c := v / 2 ^ 28
    let b := if x.1 = 0x5040 then
        b.onChan c (fun ch => { ch with coefs := ch.coefs.set (v / 2 ^ 16 % 512) (signed 16 v) })
      else if x.1 = 0x5044 then b.onChan c (fun ch => ch.setShift (v / 2 ^ 21 % 128) (v / 2 ^ 18 % 8) (signed 4 v))
      else b
    match findReg x.1 with
    | some d =>
      let old := (b.word x.1).toNat
      b.setWord x.1 (BitVec.ofNat 32 (Nat.lor (old - Nat.land old d.rwl) (Nat.land v d.rwl)))
    | none => b

/-- Apply a list in staged order; the program of a channel is replaced where its last TXN_PDAT write stands (R437,
R438). -/
def Blk.applyList (all : List (Nat × Nat × Nat)) : List (Nat × Nat × Nat) → Blk → Blk
  | [], b => b
  | x :: l, b =>
    let c := x.2.1 / 2 ^ 28
    if x.1 = 0x504C then
      let b := if (pdatOf l c).isEmpty then
          let p := Config.program (pdatOf all c)
          b.onChan c (fun ch => ch.newProgram p.1 p.2)
        else b
      Blk.applyList all l b
    else Blk.applyList all l (b.putStaged x)

/-- The configuration with a whole list applied. -/
def Blk.withList (b : Blk) (l : List (Nat × Nat × Nat)) : Blk := b.applyList l l

/-- A staged word that names a coefficient, shift field or filter word that does not exist breaks status RANGE on its
own register. -/
def Blk.badPart (b : Blk) (x : Nat × Nat × Nat) : Option Nat :=
  let v := x.2.2
  let ch := b.chan (v / 2 ^ 28)
  let bad := if x.1 = 0x5040 then decide (ch.coefs.length ≤ v / 2 ^ 16 % 512)
    else if x.1 = 0x5044 then
      decide ((ch.prog.elems.getD (v / 2 ^ 21 % 128) default).shifts.length ≤ v / 2 ^ 18 % 8)
    else match ptrReg x.1 with
      | some (.flt _) => (fltPlace x.2.1).isNone
      | _ => false
  if bad then some (x.1 / 4) else none

/-- The checks of R438 on a list over the configuration in force: status, DETAIL, and for ADMIT residue and excess. -/
def Blk.judgeList (b : Blk) (bad : Bool) (l : List (Nat × Nat × Nat)) : Option (Nat × Nat × Nat × Nat) :=
  if bad then some (0x10, l.length, 0, 0)
  else match l.find? (fun x => match findReg x.1 with | some d => d.rwl == 0 | none => true) with
    | some x => some (0x11, x.1 / 4, 0, 0)
    | none =>
      let cand := (b.txns.ready.foldl (fun c r => c.withList r.list) b).withList l
      let written := l.map (·.1)
      match least? (l.filterMap cand.badPart) with
      | some d => some (0x12, match detailOf (cand.condRange b) written with
          | some e => min d e
          | none => d, 0, 0)
      | none => cand.validate b written

def Blk.onTxn (b : Blk) (r : Nat) (f : Txn → Txn) : Blk :=
  { b with txns := { b.txns with open_ := b.txns.open_.modify r f } }

def Blk.txn (b : Blk) (r : Nat) : Txn := b.txns.open_.getD r default

/-- STATE of a transaction (R438): 0 IDLE, 1 OPEN, 2 INCOMPLETE, 3 VALIDATING, as TXN_STAT shows it. A PCIe reset has cleared
TXN_STAT of one that is to roll back at the next tick (R14, R445): it is still open. -/
def Blk.txnState (b : Blk) (r : Nat) : Nat :=
  let st := b.rd (R.TXN_STAT_STATE r)
  if st = 0 ∧ (b.txns.open_.getD r default).doom = true then 1 else st

/-- The transaction of ring r closes, its list gone. -/
def Blk.closeTxn (b : Blk) (r : Nat) : Blk :=
  ((((b.onTxn r (fun _ => default)).wr (R.TXN_STAT_STATE r) 0).wr (R.TXN_STAT_COUNT r) 0)).wr (R.TXN_STAT_LEFT r) 0

/-- A standby takes its commits from the active module: every transaction command is refused (R433). -/
def Blk.txnStandby (b : Blk) : Bool := [1, 2, 4].contains (b.rd R.MIR_STAT_ROLE)

/-- LEFT of TXN_STAT: the timeout left in 100 ms (R444). -/
def Blk.showLeft (b : Blk) (r : Nat) : Blk :=
  let left := b.rd R.TXN_CFG_TMO * cycPerMs - (b.txn r).age
  if b.txnState r = 1 ∨ b.txnState r = 2 then b.wrSat (R.TXN_STAT_LEFT r) (ceilDiv left (100 * cycPerMs)) else b

/-- TXN_BEGIN (R433, R434). -/
def Blk.doTxnBegin (b : Blk) (h : Hdr) : Blk :=
  let r := h.ring.val
  if b.txnStandby then b.refuse h 0x40 0x0001
  else if b.txnState r ≠ 0 then b.complete h 0x40 0x03
  else (((b.onTxn r (fun _ => default)).wr (R.TXN_STAT_STATE r) 1).showLeft r).ok h 0x40

/-- TXN_WRITE (R433 to R436). -/
def Blk.doTxnWrite (b : Blk) (h : Hdr) (off val : Nat) : Blk :=
  let r := h.ring.val
  if b.txnStandby = true ∨ b.txnState r = 0 ∨ b.txnState r = 3 then b.refuse h 0x41 0x0001
  else if off % 4 ≠ 0 ∨ 0x3FFFF < off ∨ 4096 ≤ (b.txn r).list.length then
    ((b.onTxn r (fun t => { t with bad := true })).wr (R.TXN_STAT_STATE r) 2).refuse h 0x41 0x0004
  else
    let (ptr, b) := match ptrReg off with
      | some p => b.takePtr p
      | none => (0, b)
    let b := b.onTxn r (fun t => { t with list := t.list ++ [(off, ptr, val)] })
    (b.wr (R.TXN_STAT_COUNT r) (b.txn r).list.length).ok h 0x41

/-- TXN_COMMIT (R433, R438): validation begins. -/
def Blk.doTxnCommit (b : Blk) (h : Hdr) : Blk :=
  let r := h.ring.val
  if b.txnStandby = true ∨ b.txnState r = 0 ∨ b.txnState r = 3 then b.refuse h 0x42 0x0001
  else (b.onTxn r (fun t => { t with hdr := some h })).wr (R.TXN_STAT_STATE r) 3

/-- TXN_ROLLBACK (R433, R434). -/
def Blk.doTxnRollback (b : Blk) (h : Hdr) : Blk :=
  let r := h.ring.val
  if b.txnStandby = true ∨ b.txnState r = 0 ∨ b.txnState r = 3 then b.refuse h 0x43 0x0001
  else ((b.closeTxn r).raise 0x2011 r []).ok h 0x43

/-- A commit of ring r is rejected (R438 to R440): completion, TXN_REJ, event. -/
def Blk.rejectTxn (b : Blk) (h : Hdr) (mute : Bool) (n : Nat) (why : Nat × Nat × Nat × Nat) : Blk :=
  let r := h.ring.val
  let b := (b.closeTxn r).inc R.TXN_CNT_REJ
  let b := if why.1 = 0x14 then
      ((b.wrSat (R.TXN_REJ_RESID r) why.2.2.1).wrSat (R.TXN_REJ_EXCESS r) why.2.2.2).raise 0x1103 r
        [Int.ofNat why.2.1, Int.ofNat why.2.2.1, Int.ofNat why.2.2.2]
    else b.raise 0x2113 r [Int.ofNat why.1, Int.ofNat why.2.1, Int.ofNat n]
  if mute then b else b.complete h 0x42 why.1 why.2.1

/-- TXN_VALIDATION_DONE (R438 to R440): `cyc` cycles after the tick. -/
def Blk.doValidated (b : Blk) (r cyc : Nat) : Blk :=
  let t := b.txn r
  match t.hdr with
  | none => b
  | some h => match b.judgeList t.bad t.list with
    | some why => b.rejectTxn h false t.list.length why
    | none =>
      let c : Commit := ⟨r, h, if cyc + 2048 ≤ b.frameLen then 1 else 2, t.list, t.doom, t.carried⟩
      let b := b.onTxn r (fun _ => { (default : Txn) with doom := t.doom })
      { b with txns := { b.txns with ready := b.txns.ready ++ [c] } }

/-- The completion of a command that will never be decided is dropped (R445). -/
def Blk.dropSlot (b : Blk) (r op : Nat) : Blk :=
  b.onHost (fun x => { x with slots := x.slots.modify r (fun l => l.filter (fun s => !(s.op == op && s.res.isNone))) })

/-- Roll-backs of PERST_N, link loss or ring reset at a tick (R445). -/
def Blk.doomTick (b : Blk) (r : Nat) : Blk :=
  let t := b.txn r
  if t.doom = false then b
  else if b.txnState r = 3 ∧ t.hdr = none then
    let mute := fun (c : Commit) => if c.ring = r then { c with mute := true } else c
    Blk.dropSlot { (b.onTxn r (fun t => { t with doom := false })) with
      txns := { ready := b.txns.ready.map mute
                open_ := b.txns.open_.modify r (fun t => { t with doom := false }) } } r 0x42
  else if b.txnState r = 0 then b.onTxn r (fun t => { t with doom := false })
  else ((b.dropSlot r 0x42).closeTxn r).raise 0x2114 r []

/-- TXN_TIMEOUT (R444, R446): judged at a tick; a commit that has taken effect stops it. -/
def Blk.doTxnTimeout (b : Blk) (r : Nat) : Blk :=
  if (b.txnState r = 1 ∨ b.txnState r = 2) ∧ b.rd R.TXN_CFG_TMO * cycPerMs ≤ (b.txn r).age then
    ((b.closeTxn r).inc R.TXN_CNT_TMO).raise 0x2112 r []
  else b

/-- The timeouts run on at a tick (R444). -/
def Blk.txnAge (b : Blk) : Blk :=
  b.each 4 (fun r b =>
    if b.txnState r = 1 ∨ b.txnState r = 2 then (b.onTxn r (fun t => { t with age := t.age + b.tick.ended })).showLeft r else b)

/-- Channel c is to be computed by pair k from now on: newly placed by a commit (R210, R438). A channel admitted again keeps
its gate-enable, or has it again (R28); a pulse block its shed asked for still takes effect (log entry 129). -/
def Blk.placeChan (b : Blk) (c k : Nat) : Blk :=
  if b.pairOf c = k then b
  else
    let old := b.pairOf c
    let shed := old == 0xE || (b.hch c).shed
    let b := if old < 5 then (b.moveCapture old (some c)).abortInj c 5 else b
    let b := b.setMap c k
    let b := if (b.chan c).rt.length = (b.chan c).prog.elems.length ∧
        ((b.chan c).slot0.isSome = true ∨ (b.chan c).slot1.isSome = true) then b.restoreCk c
      else b.onChan c (fun ch => { ch with rt := coldRt ch.prog })
    if shed then
      let b := if c < 8 then b.onDrv c (fun d => { d with reqShed := false }) else b.onStp (c - 8) (fun s => { s with shedReq := false })
      (b.onHch c (fun h => { h with shed := false })).gateFollow c
    else b

/-- The pairs and channels follow a configuration (R41, R56, R210): placement, pair states, margins, plans. -/
def Blk.placeAll (b : Blk) : Blk :=
  let l := b.assignment
  let b := l.foldl (fun b x => b.placeChan x.1 x.2) b
  let b := b.each 16 (fun c b => if b.configured c then b else b.setMap c 0xF)
  let b := b.each 5 (fun k b =>
    let some_ := !(b.chansOn k).isEmpty
    match b.pairState k with
    | 1 => if some_ then b else b.setPair k (if k = 4 then 2 else 5)
    | 2 => if some_ then b.setPair k 1 else b
    | 5 => if some_ then b.setPair k 1 else b
    | _ => b)
  let b := b.onLe (fun x => { x with plans := x.plans.map (fun p => (p.1, b.planUsable p.1)) })
  let b := b.each 16 (fun c b =>
    let b := b.onChan c (fun ch => { ch with noMove := false })
    if (b.chan c).degraded ∧ b.configured c = true then
      (b.onChan c (fun ch => { ch with degraded := false, overruns := [] })).undegrade 0 c
    else b)
  b.showMargins

/-- The carrier of drive n is forced to a valley at the applying tick (R64): a device that is on at the cut, where the
carrier stood by the configuration before, turns off, and its complement turns on after the dead time. -/
def Blk.forceValley (b old : Blk) (n : Nat) : Blk :=
  let p := old.carrierAt n 0
  let b := b.onDrv n (fun d =>
    { d with anchor := 0, aCyc := 0, aPrev := b.anchorSpan n * b.period
             shortCyc := 32 * b.rd (R.Dn_CARR_OFS n) % max 1 (b.carrier n) })
  if b.pstate n = 1 ∧ b.gateEn n = true then (b.showLegs n).switchLegs n p.2.1 p.1 (b.drv n).active false else b

/-- Dn_CFG.EN changes (R60, R74): the gates are driven inactive where the channel is owned, or go high-impedance. A latched
trip stays latched, its short circuit gone with the drive of the pins (log entry 132). -/
def Blk.enChanged (b : Blk) (n : Nat) : Blk :=
  let b := if b.configured n = false ∧ b.pstate n = 4 then b.wr (R.Dn_STAT_PSTATE n) 3 else b
  (if b.configured n then b else b.seqIdle n).pinsOff n

/-- The consequences of a configuration that has just been written for drive n (R64, R74, R207, R220, R229, R303). A
short circuit held by TRIP_ASC passes to the lower devices of the topology committed, after the dead time (log entry 160). -/
def Blk.driveCommitted (b old : Blk) (n : Nat) : Blk :=
  let b := if b.configured n = old.configured n then b else b.enChanged n
  let b := if b.period ≠ old.period ∨ b.rd (R.Dn_CFG_RATIO n) ≠ old.rd (R.Dn_CFG_RATIO n) ∨
      b.rd (R.Dn_CARR_OFS n) ≠ old.rd (R.Dn_CARR_OFS n) ∨
      (b.configured n = true ∧ old.configured n = false) then b.forceValley old n else b
  let b := if b.pstate n = 4 ∧ b.on (R.Dn_CFG_TOPO n) ≠ old.on (R.Dn_CFG_TOPO n) then b.pinsAsc n 0 else b
  let b := if b.on (R.Dn_CFG_GRDY_EN n) ∧ old.on (R.Dn_CFG_GRDY_EN n) = false then b.gatesJudge n else b
  let b := if b.ownChopper n then b else b.brakeOff n
  let b := if b.chopOwner n ≠ old.chopOwner n ∨
      (b.rd (R.Dn_BRK_MODE n) = 2 ∧ b.configured n = true ∧ old.configured n = false) then b.chopperTaken n else b
  let p := (b.chan n).prog
  let model := decide ((b.chan n).prog.elems ≠ (old.chan n).prog.elems) ||
    (List.range (b.chan n).coefs.length).any (fun i =>
      iAt (b.chan n).coefs i != iAt (old.chan n).coefs i && b.modelCoef n i)
  let b := if model then b.startSettle n else b
  let b := if b.rd (R.Dn_CMODE_FBSEL n) = old.rd (R.Dn_CMODE_FBSEL n) then b else b.portTaken n
  let b := if p ≠ (old.chan n).prog then b.abortInj n 7 else b
  b.thmInit n

/-- The same for stepper n (R207, R229, R260). A commit that clears Sn_CFG.EN, for which R244 has no row, turns the bridges
off at once; FAULT and RELEASED stay (DESIGN CHOICE, log entry 174). -/
def Blk.stepperCommitted (b old : Blk) (n : Nat) : Blk :=
  let c := 8 + n
  let b := if (b.chan c).prog ≠ (old.chan c).prog then b.abortInj c 7 else b
  if b.configured c = false ∧ old.configured c = true then b.bridgesOff n 0 else b

/-- The encoder emulation of port q starts at this commit (R182). -/
def Blk.emuStarts (b old : Blk) (q : Nat) : Bool :=
  b.on (R.FBn_EMUCFG_EN q) && (!old.on (R.FBn_EMUCFG_EN q) || b.rd (R.FBn_EMU_W q) != old.rd (R.FBn_EMU_W q) ||
    b.rd (R.FBn_EMUCFG_SRC q) != old.rd (R.FBn_EMUCFG_SRC q))

/-- The same for feedback port p (R161, R180). -/
def Blk.portCommitted (b old : Blk) (p : Nat) : Blk :=
  let b := if b.fbMode p ≠ old.fbMode p then b.portEnable p (old.fbMode p) (old.ssiWidth p) (fun q => b.emuStarts old q) else b
  if (List.range 16).any (fun j =>
      b.rd (R.FBn_CMPPOS_W p j) != old.rd (R.FBn_CMPPOS_W p j) ||
      b.rd (R.FBn_CMPMODE_W p j) != old.rd (R.FBn_CMPMODE_W p j)) then b.cmpTouched p else b

/-- A commit that writes words at `offs` touches the compare tables among them, whatever values they hold (R180). -/
def Blk.cmpWritten (b : Blk) (offs : List Nat) : Blk :=
  b.each 12 (fun p b =>
    if (List.range 16).any (fun j => offs.contains (R.FBn_CMPPOS_W p j).off || offs.contains (R.FBn_CMPMODE_W p j).off) then
      b.cmpTouched p
    else b)

/-- The same for every port: the positions first, which an emulation that starts at the same tick takes (R182). -/
def Blk.portsCommitted (b old : Blk) : Blk :=
  (b.each 12 (fun p b => b.portCommitted old p)).each 12 (fun q b => if b.emuStarts old q then b.emuStart q else b)

/-- Strata notes a change of the frame period (PCHG of R539, log entry 41). -/
def Blk.notePeriod (b old : Blk) : Blk :=
  { b with nvs := { b.nvs with perChg := b.nvs.perChg || decide (b.period ≠ old.period) } }

/-- The consequences of a configuration over the one before it (R441). -/
def Blk.configured' (b old : Blk) : Blk :=
  let b := b.frameCommitted old
  let b := b.placeAll
  let b := b.each 8 (fun n b => b.driveCommitted old n)
  let b := b.each 8 (fun n b => b.stepperCommitted old n)
  let b := b.portsCommitted old
  let b := b.each 4 (fun k b => b.canCommitted old k)
  let b := b.each 2 (fun p b => b.lodeCommitted old p)
  let b := b.notePeriod old
  b.stoFollow.ownSettle.settle

/-- A commit takes effect (R440, R441): the re-check, then every staged word at this tick. Direct coefficient writes of
the same tick that it overwrites complete as SUPERSEDED (R43, R44, R442). -/
def Blk.applyCommit (b : Blk) (c : Commit) : Blk :=
  let cand := b.withList c.list
  match detailOf (cand.condRun b) (c.list.map (·.1)) with
  | some d => b.rejectTxn c.hdr c.mute c.list.length (0x16, d, 0, 0)
  | none =>
    let r := c.ring
    let b := ((cand.configured' b).cmpWritten (c.list.map (·.1))).closeTxn r
    let b := b.supersedeAt (fun i => match i with
      | .coefWrite _ ch idx _ =>
        c.list.any (fun x => x.1 == 0x5040 && x.2.2 / 2 ^ 28 == ch.val && x.2.2 / 2 ^ 16 % 512 == idx.toNat)
      | _ => false)
    let b := (b.inc R.TXN_CNT_APPL).raise 0x2010 r [Int.ofNat r, Int.ofNat c.list.length, Int.ofNat b.fn]
    let b := b.noteApplied c.list
    if c.mute then b else b.ok c.hdr 0x42

/-- The last staged write of a commit left with an F sent before this tick, where a ready standby is to apply it (R443). -/
def Blk.crossed (b : Blk) (c : Commit) : Bool := !b.standbyReady || decide (c.list.length ≤ c.carried)

/-- The rings whose waiting commits have crossed before this tick's F is made (R443). -/
def Blk.crossedRings (b : Blk) : List Nat := (b.txns.ready.filter b.crossed).map (·.ring)

/-- Commits that may apply at this tick, in the order of their validation (R440): each must lie on a ring above that of
the one before it and be among those that have crossed (R443). -/
def dueCommits (sent : List Nat) : List Commit → Option Nat → List Commit
  | [], _ => []
  | c :: l, last =>
    let late := match last with
      | some r => decide (c.ring < r)
      | none => false
    if c.ticks = 0 ∧ late = false ∧ sent.contains c.ring = true then c :: dueCommits sent l (some c.ring) else []

/-- Apply a commit that waits. -/
def Blk.takeCommit (b : Blk) (c : Commit) : Blk :=
  Blk.applyCommit { b with txns := { b.txns with ready := b.txns.ready.filter (fun x => x.ring != c.ring) } } c

/-- The commits at a tick (step 2 of R43), of the rings that have crossed. -/
def Blk.commitTick (b : Blk) (sent : List Nat) : Blk :=
  let b := { b with txns := { b.txns with ready := b.txns.ready.map (fun (c : Commit) => { c with ticks := c.ticks - 1 }) } }
  (dueCommits sent b.txns.ready none).foldl (fun b c => b.takeCommit c) b

/-- TXN_COMMIT_APPLY (R440, R441): the applying tick of the commit of ring r that was validated first. -/
def Blk.doCommitApply (b : Blk) (r : Nat) : Blk :=
  match b.txns.ready with
  | c :: _ => if c.ring = r ∧ c.ticks ≤ 1 ∧ b.crossed c = true then b.takeCommit c else b
  | [] => b

/-- The F sent at a tick carries staged writes, at most MIRN, rings in order (R443). -/
def Blk.carryStaged (b : Blk) : Blk :=
  let step := fun (s : Nat × List Txn) (t : Txn) =>
    let n := min (t.list.length - t.carried) s.1
    (s.1 - n, s.2 ++ [{ t with carried := t.carried + n }])
  let step2 := fun (s : Nat × List Commit) (c : Commit) =>
    let n := min (c.list.length - c.carried) s.1
    (s.1 - n, s.2 ++ [{ c with carried := c.carried + n }])
  let r := b.txns.ready.foldl step2 (b.rd R.TXN_CFG_MIRN, [])
  let o := b.txns.open_.foldl step (r.1, [])
  { b with txns := ⟨o.2, r.2⟩ }

/-- Read a data register behind a pointer (R436, R454, R478): the list or table in force, and the pointer advances. -/
def Blk.ptrRead (b : Blk) (p : PtrReg) : Blk := (b.takePtr p).2

/-- An access to a data register behind a pointer (SN_TABDAT_ACCESS, CAN_FLTDAT_ACCESS, GCLDAT_ACCESS): a read advances
the pointer; a staged write is a TXN_WRITE on the ring given, which takes effect at this tick. -/
def Blk.doPtrAccess (b : Blk) (dom : Dom) (p : PtrReg) (off : Nat) (wr : Option (Nat × Nat)) : Blk :=
  if b.powered dom = false then b
  else match wr with
    | none => b.ptrRead p
    | some (r, v) =>
      if b.txnStandby = true ∨ (b.txnState r ≠ 1 ∧ b.txnState r ≠ 2) then b
      else if 4096 ≤ (b.txn r).list.length then
        (b.onTxn r (fun t => { t with bad := true })).wr (R.TXN_STAT_STATE r) 2
      else
        let (ptr, b) := b.takePtr p
        let b := b.onTxn r (fun t => { t with list := t.list ++ [(off, ptr, v)] })
        b.wr (R.TXN_STAT_COUNT r) (b.txn r).list.length

end Sys2Proof.Machine
end

