-- ==== Sys2Proof/Machine/Pair.lean ====
section
/-! DEFINITION. Running as a pair (chapter 17): the Hinge frame sent and received, the standby's frame, readiness,
takeover and return. -/

namespace Sys2Proof.Machine

def Blk.onMir (b : Blk) (f : Mir → Mir) : Blk := { b with mir := f b.mir }

/-- The configured paired channels (R383). -/
def Blk.pairedChans (b : Blk) : List Nat :=
  (List.range 16).filter (fun c => b.pairedCh c)

/-- The ports that paired channels name (R389). -/
def Blk.pairedPorts (b : Blk) : List Nat :=
  (List.range 12).filter (fun p => b.pairedChans.any (fun c => decide (c < 8) && b.on (R.Dn_CMODE_SENS c) &&
    b.rd (R.Dn_CMODE_FBSEL c) == p))

/-- What F carries of channel c (R389, sections 0x01 and 0x02). -/
def Blk.hingeChan (b : Blk) (c : Nat) : HingeChan :=
  let ch := b.chan c
  let d := b.drv c
  let ck : Ckpt := ⟨b.fn, ch.rt, ch.applied, d.ramp, d.iqRaw, d.idRef, none⟩
  let d := decide (c < 8)
  { c := c, ck := ck, outs := ch.applied
    pstate := if d then b.pstate c else b.stpState (c - 8)
    sstate := if d then b.sstate c else 0
    path := if d then b.rd (R.Dn_SSTAT_PATH c) else 0
    brkn := if d then b.rd (R.Dn_SSTAT_BRKN c) else 0
    cur := if d then b.cur c else 0
    sector := if d then b.rd (R.Dn_CSTAT_SECTOR c) else 0
    sync := d && b.on (R.Dn_CSTAT_SYNC c)
    chf := d && b.on (R.Dn_DCSTAT_CHF c)
    stkd := d && b.on (R.Dn_DCSTAT_STKD c)
    mot := d && b.on (R.Dn_DCSTAT_MOTCLMP c)
    gen := d && b.on (R.Dn_DCSTAT_GENCLMP c)
    cnt := if d then b.rd (R.Dn_SUPSTAT_CNT c) else 0
    verd := d && b.on (R.Dn_SUPSTAT_VERD c)
    cause := if d then b.rd (R.Dn_SUPSTAT_CAUSE c) else 0
    fall := d && b.on (R.Dn_SUPSTAT_FALL c)
    drv := b.drv c, seq := b.seq c, dcl := b.dc c, react := (b.hch c).react
    deEn := !d && (b.stp (c - 8)).deEn, ok := true }

/-- What F carries of the share groups (R389, section 0x05). -/
def Blk.hingeGroups (b : Blk) : List HingeGroup :=
  ((List.range 4).filter (fun g => b.rd (R.SHR_Gg_CFG_MODE g) != 0)).map (fun g =>
    ⟨g, (List.range 4).map (fun s => b.slotState g s), b.rd (R.SHR_Gg_STAT_LEAD g), b.grp g, true⟩)

/-- The Hinge frame F(n) (R387 to R389) before its length is known; the cycle at which its start delimiter
leaves is a free value (log entry 42), the positions are those of SAMPLE_PHASE. -/
def Blk.buildF (b : Blk) (fn : Nat) (free : Nat) : HingeFrame :=
  let chs := b.pairedChans
  let ds := chs.filter (fun c => decide (c < 8))
  let cls := fun (c : Nat) => c == 3 || c == 4 || c == 5 || (c == 1 && (b.hasp.degs.getD 1 default).outer)
  { own := b.on R.MIR_STAT_OWNOUT, ready := b.role == 2, lost := b.role == 5
    isB := b.rd R.MIR_STAT_PID == 2, holdover := b.dstate == 3
    len := 0, fn := fn, txcyc := Config.freeNat free, rxcyc := b.mir.rxc
    cfgcrc := b.rd (R.MIR_CFGCRC_CRC 0)
    chans := chs.map (fun c => b.hingeChan c)
    ports := b.pairedPorts.map (fun p => (p, (b.port p).hist.headD (b.rd (R.FBn_POS_POS p)),
      b.rd (R.FBn_IDXREF_REF p), b.on (R.FBn_STAT_AVALID p)))
    axes := (chs.filter (fun c => decide (8 ≤ c) || b.on (R.MPG_CFG_EN c))).map (fun a => (a, b.axis a))
    members := ((List.range 8).filter (fun n => b.configured n)).map (fun n => b.ownMember n)
    groups := b.hingeGroups
    thm := ds.map (fun n => (n, b.thmd n, b.rd (R.THM_Dn_TEMP_W n), b.rd (R.THM_Dn_STAT_W n)))
    thmS := (chs.filter (fun c => decide (8 ≤ c))).map (fun c => (c - 8, b.thm.fact.getD (c - 8) 32768, b.thm.stop.getD (c - 8) false))
    slalu := b.sll.hinge
    sllTx := ((List.range 64).filter (fun s => b.on (R.SLL_SESs_CFG_EN s) && b.on (R.SLL_SESs_CFG_DIR s))).map (fun s =>
      (s, b.rd (R.SLL_SESs_ST_SEQ s), b.sll.run.getD s false, b.sll.data.getD s []))
    applied := b.mir.applied
    staged := (List.range 4).filterMap (fun r =>
      if b.txnState r = 0 then none else some (r, (b.txn r).bad, (b.txn r).list.take (b.txn r).carried))
    degs := ((List.range 8).filter cls).filterMap (fun c =>
      (b.hasp.degs.getD c default).left.map (fun l => (c, l, (b.hasp.degs.getD c default).chs)))
    crcOk := true }

/-- The Hinge frame F(fn) at the tick that opens the frame after `fn` (R387), while the Mirror block is up in a pair. -/
def Blk.makeF (b : Blk) (fn : Nat) : Option HingeFrame × Blk :=
  if b.powered .mir ∧ b.rd R.MIR_STAT_PID ≠ 0 then
    let b := b.carryStaged
    let (i, b) := b.free
    let f := b.buildF fn i
    let f := { f with len := f.size }
    (some f, (b.wrSat R.MIR_LINK_SIZE f.len).onMir (fun m => { m with applied := [], txc := f.txcyc }))
  else (none, b)

/-- The checkpoint words of F that are disturbed before they leave (R370, R372 class 6): one that fails is counted, and goes
with its failing tag, so that the partner rejects the channel's sections. -/
def Blk.hingeTags (b : Blk) (f : Option HingeFrame) (hits : List (Fin 16 × Nat × Flip)) : Option HingeFrame × Blk :=
  match f with
  | none => (none, b)
  | some f =>
    let bad := fun (x : HingeChan) =>
      badWord ((hits.filter (fun h => h.1.val == x.c)).map (·.2)) (0x3000 + x.c * 256) x.ck.words.length
        (fun w => tagWord (iAt x.ck.words w))
    (some { f with chans := f.chans.map (fun x => { x with ok := x.ok && (bad x).isNone }) },
     f.chans.foldl (fun b x => match bad x with
       | some w => b.wardFail 6 (0x3000 + x.c * 256 + w % 256)
       | none => b) b)

/-- HINGE_FRAME_SEND (R387): F leaves after the tick with what its flags then say of the sender (R388), and with the
shares that this tick has computed, which both modules use from the next tick on (R270). -/
def Blk.sendF (b : Blk) (f : Option HingeFrame) : Blk :=
  match f with
  | some f => b.send (.hinge { f with
      groups := b.hingeGroups, own := b.on R.MIR_STAT_OWNOUT, ready := b.role == 2, lost := b.role == 5
      holdover := b.dstate == 3 })
  | none => b

/-- The offset O of a port from F(n) (R393): the active module's position less this module's at the same SAMPLE_PHASE.
A jump beyond IDXTOL counts as an index drift. -/
def Blk.posOffset (b : Blk) (f : HingeFrame) (us : Nat) (known : Bool) (x : Nat × Nat × Nat × Bool) : Blk :=
  let p := x.1
  let k := b.fn - f.fn - (if us * 400 < b.rd R.TICK_SPHASE_PHASE then 1 else 0)
  let own := (b.port p).hist.getD k (b.port p).pos
  let o := diff32 x.2.1 own
  let jump := known && decide (b.rd (R.FBn_IDXTOL_TOL p) < magI (o - b.rdS (R.MIR_POSOFS_OFS p)))
  let b := b.wrS (R.MIR_POSOFS_OFS p) o
  let b := (b.wr (R.FBn_IDXREF_REF p) x.2.2.1).flag (R.FBn_STAT_AVALID p) x.2.2.2
  if jump then (b.onPort p (fun y => { y with cntDrift := y.cntDrift + 1 })).raise 0xC104 p [o] else b

/-- The partner's role as its F shows it (PROLE): LOST, ACTIVE, READY; a standby that is not ready is SYNCING or
NOTREADY, which F does not tell apart (log entry 42). -/
def Blk.partnerRole (b : Blk) (f : HingeFrame) : Nat × Blk :=
  if f.lost then (5, b) else if f.own then (3, b) else if f.ready then (2, b)
  else
    let (i, b) := b.free
    (if Config.freeNat i % 2 = 0 then 1 else 4, b)

/-- A channel whose tags fail in F keeps what the F before said of it (R372, R391). -/
def HingeFrame.keepBad (f : HingeFrame) (old : Option HingeFrame) : HingeFrame :=
  { f with chans := f.chans.map (fun x =>
      if x.ok then x
      else match old.bind (fun g => g.chans.find? (fun y => y.c == x.c)) with
        | some y => { y with ok := false }
        | none => x) }

/-- HINGE_FRAME_RECEIVED (R386, R387, R390, R392, R393): a copy on a lane, `us` µs after this module's tick; one that comes
later than 2,048 cycles before the next tick is no longer taken. -/
def Blk.doHingeReceived (b : Blk) (lane : Nat) (f : HingeFrame) (us : Nat) : Blk :=
  if b.powered .mir = false ∨ b.rd R.MIR_STAT_PID = 0 ∨ b.mir.dead.getD lane true = true then b
  else if f.crcOk = false then b.inc (if lane = 0 then R.MIR_CNT_CRC0 else R.MIR_CNT_CRC1)
  else
    let b := b.onMir (fun m => { m with came := m.came.set lane true, lost := m.lost.set lane 0 })
    let b := b.flag (if lane = 0 then R.MIR_STAT_LANE0 else R.MIR_STAT_LANE1) true
    if b.mir.fresh = true ∨ b.frameLen < 400 * us + 2048 then b
    else
      let old := b.mir.got
      let (pr, b) := b.partnerRole f
      let b := ((b.wr R.MIR_STAT_PROLE pr).wr (R.MIR_CFGCRC_CRC 1) f.cfgcrc)
      let dly := (Int.ofNat (us * 400) - Int.ofNat f.txcyc + Int.ofNat f.rxcyc - Int.ofNat b.mir.txc) / 2
      let b := b.wr R.MIR_LINK_DELAY (dly % Int.ofNat (max 1 b.period)).toNat
      let b := b.onMir (fun m => { m with got := some (f.keepBad m.got), fresh := true, rxc := us * 400 })
      let b := if b.standby then
          let known := fun p => match old with
            | some g => g.ports.any (fun x => x.1 == p)
            | none => false
          let b := f.ports.foldl (fun b x => b.posOffset f us (known x.1) x) b
          b.onMir (fun m => { m with todo := m.todo ++ f.applied })
        else b
      f.slalu.foldl (fun b x => b.doSlaluFrame .hinge x [] us) b

/-- HINGE_FRAME_MISSING (R387, R395). -/
def Blk.doHingeMissing (b : Blk) : Blk :=
  if b.powered .mir = false ∨ b.rd R.MIR_STAT_PID = 0 ∨ b.mir.fresh = true then b
  else
    let first := b.mir.miss == 0
    let ready := b.role == 2
    (b.inc R.MIR_CNT_MISS).onMir (fun m =>
      { m with miss := m.miss + 1, good := 0, wasReady := if first then ready else m.wasReady })

/-- HINGE_LANE_RETIRE (R386). -/
def Blk.doLaneRetire (b : Blk) (lane : Nat) : Blk :=
  if b.powered .mir ∧ b.mir.dead.getD lane true = false ∧ 64 ≤ b.mir.lost.getD lane 0 ∧ b.mir.lost.getD (1 - lane) 0 = 0 then
    let b := b.onMir (fun m => { m with dead := m.dead.set lane true })
    let b := b.flag (if lane = 0 then R.MIR_STAT_LANE0 else R.MIR_STAT_LANE1) false
    (b.flag R.WARD_SPARE_HL false).raise 0xC201 lane []
  else b

/-- Why a standby is not ready, as NRC; 0 when every condition of R394 holds. -/
def Blk.notReady (b : Blk) : Nat :=
  match b.mir.got with
  | none => 5
  | some f =>
    if 4 ≤ b.mir.miss then 1
    else if f.isB == (b.rd R.MIR_STAT_PID == 2) then 6
    else if b.rd (R.MIR_CFGCRC_CRC 0) ≠ b.rd (R.MIR_CFGCRC_CRC 1) then 2
    else if b.dstate ≠ 2 ∨ b.on R.TICK_CTL_SRC = false then 3
    else if b.rd R.HASP_STAT_HSTATE ≠ 1 then 4
    else if b.mir.good < 64 then 5 else 0

/-- The standby leaves READY, or its NRC follows (R394, R401). -/
def Blk.readyFollow (b : Blk) : Blk :=
  let n := b.notReady
  let b := if n ≠ 0 ∧ n ≠ 1 ∧ n ≠ 5 then b.onMir (fun m => { m with wasReady := false }) else b
  match b.role with
  | 2 => if n = 0 then b else ((b.wr R.MIR_STAT_NRC n).setRole 4).raise 0xC101 0 [Int.ofNat n]
  | 4 => b.wr R.MIR_STAT_NRC n
  | 1 => if n = 2 ∨ n = 4 ∨ n = 6 then (b.wr R.MIR_STAT_NRC n).setRole 4 else b
  | _ => b

/-- HINGE_SILENT (R394, R51): four frames in a row are missing. -/
def Blk.doHingeSilent (b : Blk) : Blk :=
  if b.powered .mir ∧ b.rd R.MIR_STAT_PID ≠ 0 ∧ b.mir.miss = 4 then
    let b := if b.role = 2 then ((b.wr R.MIR_STAT_NRC 1).setRole 4).raise 0xC101 0 [1]
      else if b.role = 1 ∨ b.role = 4 then (b.wr R.MIR_STAT_NRC 1).setRole 4 else b
    (b.raise 0xC105 0 []).discFollow
  else b

/-- STANDBY_READY (R394); FRAME_NO equals the partner's, whose F(n) comes in frame n + 1. -/
def Blk.doStandbyReady (b : Blk) : Blk :=
  match b.mir.got with
  | some f =>
    if (b.role = 1 ∨ b.role = 4) ∧ b.notReady = 0 ∧ (b.mir.fresh = true → b.fn = f.fn + 1) then
      ((b.wr R.MIR_STAT_NRC 0).setRole 2).raise 0xC001 0 []
    else b
  | none => b

/-- PAIR_HANDOVER (R395, R417): the active module deasserts its line without a loss. -/
def Blk.doPairHandover (b : Blk) (h : Hdr) : Blk :=
  if b.standbyReady then
    ((((b.flag R.MIR_STAT_OWNOUT false).setRole 1).onMir (fun m => { m with wasReady := false })).ntcHold.ownSettle.settle.dropInFlight).ok h 0x38
  else (b.raise 0xC103 0 []).refuse h 0x38 0x0501

/-- A drive adopts the mirrored state; what its own hardware samples or counts stays its own (R391). -/
def adoptDrive (own m : Drive) : Drive :=
  { m with shadow := own.shadow, active := own.active, fresh := own.fresh, soft := own.soft, prev := own.prev,
           prevFr := own.prevFr, grdyAge := own.grdyAge, reqBlock := own.reqBlock, reqShed := own.reqShed,
           anchor := own.anchor, aCyc := own.aCyc, aPrev := own.aPrev, cut := own.cut, shortCyc := own.shortCyc
           speed := own.speed, theta := own.theta,
           sT := own.sT, tS := own.tS, waitOn := own.waitOn, pDp := own.pDp, sDp := own.sDp, sAl := own.sAl, sTh := own.sTh,
           sSpd := own.sSpd, seen := own.seen }

/-- What a start sequence under way hands to the standby (R132); times, crossings and readings stay each module's own. -/
def adoptSeq (own m : Seq) : Seq :=
  { own with dir := m.dir, fwd := m.fwd, asSens := m.asSens, waitFr := m.waitFr, alignJ := m.alignJ, ifK := m.ifK,
             thCmd := m.thCmd }

/-- The shadow sequencer of a drive (R391): it begins where the active module's runs, at the mirrored angle and speed, and
is idle where that one is. `dt` is the time from the mirrored SAMPLE_PHASE to this module's last. -/
def Blk.shadowSeq (b : Blk) (n : Nat) (x : HingeChan) (dt : Int) : Blk :=
  if x.pstate ≠ 1 ∨ x.cur = 0 ∨ x.sstate = 4 then
    ((b.wr (R.Dn_CSTAT_SECTOR n) 0).flag (R.Dn_CSTAT_SYNC n) false).onSeq n (fun q => { q with enter := false, trans := none })
  else if b.rd (R.Dn_CSTAT_SECTOR n) ≠ 0 ∨ (b.seq n).enter = true then b
  else
    (b.flag (R.Dn_CSTAT_SYNC n) false).onSeq n (fun q =>
      { q with enter := true, trans := none, missed := 0, tzc := [], seen := false, seenPrev := false, seenOld := false,
               acq := if x.cur = 1 ∧ x.sstate ≠ 5 then some (0, 0) else none,
               anc := (x.drv.theta, add32 (b.drv n).tS (-dt), x.drv.speed) })

/-- The standby loads what F carries of a paired channel (R391); a channel whose tags fail keeps its own state. -/
def Blk.loadChan (b : Blk) (x : HingeChan) : Blk :=
  if x.ok = false ∨ (b.pairedChans.contains x.c) = false then b
  else
    let b := b.onChan x.c (fun ch =>
      let ch := { ch with rt := x.ck.rt, applied := x.outs, appliedOf := x.ck.rt.map (fun (y : ElemRt) => iAt y.out 0)
                          appliedRef := [x.drv.u, x.drv.vq, x.drv.vd, x.drv.iqRef] }
      if x.ck.fn % 2 = 0 then { ch with slot0 := some x.ck } else { ch with slot1 := some x.ck })
    if x.c < 8 then
      let n := x.c
      let b := (b.onDrv n (fun d => adoptDrive d x.drv)).onDc n (fun _ => x.dcl)
      let dt := Int.ofNat ((b.fn - x.ck.fn) * b.period / 2)
      let b := (b.onSeq n (fun q => adoptSeq q x.seq)).shadowSeq n x dt
      let b := (b.wr (R.Dn_SSTAT_PATH n) x.path).wr (R.Dn_SSTAT_BRKN n) x.brkn
      let b := ((b.wr (R.Dn_CSTAT_CUR n) x.cur).flag (R.Dn_DCSTAT_CHF n) x.chf).flag (R.Dn_DCSTAT_STKD n) x.stkd
      let b := ((b.flag (R.Dn_DCSTAT_MOTCLMP n) x.mot).flag (R.Dn_DCSTAT_GENCLMP n) x.gen).wr (R.Dn_SUPSTAT_CNT n) x.cnt
      ((b.flag (R.Dn_SUPSTAT_VERD n) x.verd).wr (R.Dn_SUPSTAT_CAUSE n) x.cause).flag (R.Dn_SUPSTAT_FALL n) x.fall
    else b

/-- The lists of open transactions as F carries them (R389, R398); their timeouts run in the standby too. -/
def Blk.loadStaged (b : Blk) (f : HingeFrame) : Blk :=
  b.each 4 (fun r b => match f.staged.find? (fun x => x.1 == r) with
    | some x => b.onTxn r (fun t => { t with bad := x.2.1, list := x.2.2, age := t.age + b.tick.ended })
    | none => b.onTxn r (fun _ => default))

/-- The standby loads a share group that runs wholly on the active module (R276): slot states, lead, τ, L, k_s and c_s. -/
def Blk.loadGroup (b : Blk) (x : HingeGroup) : Blk :=
  if x.ok = false ∨ (b.slotsOf x.g).any (fun s => b.slotOwn x.g s) = true then b
  else
    let b := (List.range 4).foldl (fun b s => b.setSlot x.g s (x.st.getD s 0)) b
    let b := ((b.wr (R.SHR_Gg_STAT_LEAD x.g) x.lead).wrS (R.SHR_Gg_LOAD_TAU x.g) x.grp.tau).wrS (R.SHR_Gg_LOAD_L x.g) x.grp.load
    (b.showShares x.g x.grp.iq).onGrp x.g (fun _ => { x.grp with inUse := x.grp.iq })

/-- STANDBY_MIRROR_LOAD (R391): the newest good F becomes the state of every paired channel. -/
def Blk.mirrorLoad (b : Blk) : Blk :=
  match b.mir.got with
  | some f =>
    if b.standby ∧ b.mir.fresh then
      let b := f.chans.foldl (fun b x => b.loadChan x) b
      let b := f.groups.foldl (fun b x => b.loadGroup x) b
      let b := f.axes.foldl (fun b x => (b.onAxis x.1 (fun _ => x.2)).showAxis x.1) b
      let b := f.thm.foldl (fun b x =>
        ((b.onThmd x.1 (fun _ => x.2.1)).wr (R.THM_Dn_TEMP_W x.1) x.2.2.1).wr (R.THM_Dn_STAT_W x.1) x.2.2.2) b
      let b := f.thmS.foldl (fun b x => b.onThm (fun t => { t with fact := putAt t.fact x.1 x.2.1, stop := putAt t.stop x.1 x.2.2 })) b
      let b := f.sllTx.foldl (fun b x =>
        (if b.rd (R.SLL_SESs_CFG_TRANS x.1) = 2 then b else b.wr (R.SLL_SESs_ST_SEQ x.1) x.2.1).onSll (fun y =>
          { y with run := y.run.set x.1 x.2.2.1, data := y.data.set x.1 x.2.2.2 })) b
      (b.loadStaged f).setFn (f.fn + 1)
    else b
  | none => b

/-- R392: writes of the active module that have arrived are applied. -/
def Blk.mirrorWrites (b : Blk) : Blk :=
  if b.mir.todo.isEmpty then b
  else
    let l := b.mir.todo
    let b := b.onMir (fun m => { m with todo := [] })
    ((b.withList l).configured' b).cmpWritten (l.map (·.1))

/-- The Hinge counters at a tick: lanes, frames in a row, and the readiness that follows (R386, R394). -/
def Blk.hingeTick (b : Blk) : Blk :=
  if b.powered .mir = false ∨ b.rd R.MIR_STAT_PID = 0 then b
  else
    let b := b.onMir (fun m =>
      { m with
        good := if m.fresh then min (m.good + 1) 64 else m.good
        miss := if m.fresh then 0 else m.miss
        lost := (List.range 2).map (fun l => if m.came.getD l false then 0 else m.lost.getD l 0 + 1)
        rel := m.rel.map (· + 1), guard := m.guard.map (· + 1) })
    let b := (b.flag R.MIR_STAT_LANE0 (b.mir.came.getD 0 false)).flag R.MIR_STAT_LANE1 (b.mir.came.getD 1 false)
    b.readyFollow

/-- OWN_IN_RELEASED (R384, R395, R396): the partner's line qualifies deasserted; frame j of a standby. A module that has kept
its own line asserted through a tie becomes ACTIVE. -/
def Blk.doOwnReleased (b : Blk) : Blk :=
  if b.powered .mir = false ∨ b.rd R.MIR_STAT_PID = 0 ∨ b.on R.MIR_STAT_OWNIN = false then b
  else
    let b := b.flag R.MIR_STAT_OWNIN false
    if b.standby ∧ b.on R.MIR_STAT_OWNOUT then (((b.setRole 3).raise 0xC003 0 []).ntcHold).ownSettle.settle
    else if b.standby then (b.onMir (fun m => { m with rel := some 0 })).ntcHold else b.ownSettle

/-- The standby may claim (R395). -/
def Blk.mayClaim (b : Blk) : Bool :=
  b.role == 2 || (b.role == 4 && (b.rd R.MIR_STAT_NRC == 1 || b.rd R.MIR_STAT_NRC == 5) && b.mir.wasReady)

/-- The trigger of a takeover (R395). -/
def Blk.trigger (b : Blk) : Nat :=
  match b.mir.got with
  | some f => if f.lost then 1 else if 4 ≤ b.mir.miss then 2 else if f.own = false then 4 else 3
  | none => 2

/-- MODCLK0 to MODCLK3 and FBn_CLK are driven by this module: the owner's, or the standby's from the release on (R396,
R399). -/
def Blk.drivesClocks (b : Blk) : Bool :=
  b.rd R.MIR_STAT_PID == 0 || (b.on R.MIR_STAT_OWNOUT && !b.on R.MIR_STAT_OWNIN) || (b.standby && b.mir.rel.isSome)

/-- A channel after the claim: ASC, TRIP_ASC, TRIP_OFF as mirrored (R396, R397). -/
def Blk.claimChan (b : Blk) (x : HingeChan) : Blk :=
  if x.c < 8 ∧ b.owns x.c = true ∧ (x.pstate = 2 ∨ x.pstate = 3 ∨ x.pstate = 4) ∧ b.pstate x.c = 0 then
    let b := b.wr (R.Dn_STAT_PSTATE x.c) x.pstate
    if x.pstate = 3 then b else (b.pinsAsc x.c 0).gatesJudge x.c
  else b

/-- TAKEOVER_CLAIM (R395, R396): at the first tick after the release. The transmit sessions on UDP and CAN that are due at it
send (R363). -/
def Blk.doClaim (b : Blk) : Blk :=
  match b.mir.rel with
  | some k =>
    if k = 0 ∨ b.standby = false then b
    else if b.mayClaim = false ∨ b.on R.MIR_STAT_OWNIN then
      (b.onMir (fun m => { m with rel := none })).raise 0xC108 0 []
    else
      let trig := b.trigger
      let b := b.mirrorWrites
      let b := ((b.flag R.MIR_STAT_OWNOUT true).setRole 3).ntcHold
      let b := (b.wr R.MIR_TKO_TRIG trig).wr R.MIR_TKO_FN b.fn
      let b := b.eachOf b.pairedChans (fun c b => if c < 8 then ((b.abortInj c 8).forceValley b c).startSettle c else b.abortInj c 8)
      let b := b.ownSettle
      let b : Blk := match b.mir.got with
        | some f =>
          let b := f.chans.foldl (fun b x => b.claimChan x) b
          let gone := (b.fn - (f.fn + 1)) * b.period
          let b := f.chans.foldl (fun b x => b.onHch x.c (fun h =>
            { h with react := h.react.or (x.react.map (fun m => m.map (fun t => t - gone))) })) b
          let b := (b.onMir (fun m => { m with guard := some 0 })).eachOf (b.pairedChans.filter (fun c => decide (c < 8)))
            (fun n b => b.verdictTick n)
          let own := fun (b : Blk) (s : Nat) => b.rd (R.SLL_SESs_CFG_TRANS s) != 2
          let b := f.sllTx.foldl (fun b x => if own b x.1 then b.wr (R.SLL_SESs_ST_SEQ x.1) (x.2.1 + 1) else b) b
          let b := b.sllSend (own b)
          let b := b.onHasp (fun h => { h with degs := f.degs.foldl (fun l x =>
            l.set x.1 ⟨some (x.2.1 - gone), false, x.2.2, x.1 == 1⟩) h.degs })
          b.each 4 (fun r b => match f.staged.find? (fun x => x.1 == r) with
            | some x => ((b.wr (R.TXN_STAT_STATE r) (if x.2.1 then 2 else 1)).wr (R.TXN_STAT_COUNT r) x.2.2.length).showLeft r
            | none => b)
        | none => b
      let b := (b.txns.ready.foldl (fun b c => if c.mute then b else b.complete c.hdr 0x42 0x01) b).dropInFlight
      let b : Blk := { b with txns := { b.txns with ready := [] } }
      let b : Blk := if b.rd R.HIF_STAT_HB = 2 then b.bridgeAll else b
      ((b.onMir (fun m => { m with guard := some 0, edge := true })).settle).raise 0xC202 0 [Int.ofNat trig]
  | none => b

/-- Every driver-ready input that a drive watches is high and qualified (R81, R397). -/
def Blk.grdyHigh (b : Blk) (n : Nat) : Bool :=
  !b.on (R.Dn_CFG_GRDY_EN n) || (List.range 3).all (fun l => b.on (bitOf (R.Dn_STAT_GRDY n) l))

/-- Every PI and PID of a channel is preloaded to its mirrored output (R109, R110, R397). -/
def Blk.preloadAll (b : Blk) (c : Nat) (ck : Ckpt) : Blk :=
  b.onChan c (fun ch => { ch with due := (List.range ch.prog.elems.length).filterMap (fun i =>
    let k := (ch.prog.elems.getD i default).kind
    if k = .pi ∨ k = .pid then some (i, iAt (ck.rt.getD i default).out 0) else none) })

/-- A drive mirrored in RUN runs again (R397, R132): in its start state, every controller preloaded against the mirrored
outputs; u, iq* and id* are compared with them and blended (R110). -/
def Blk.resumeRun (b : Blk) (n : Nat) (x : HingeChan) : Blk :=
  let o := x.drv
  let b := ((b.wr (R.Dn_SSTAT_SSTATE n) x.sstate).floatRun n).preloadAll n x.ck
  let b := b.onSeq n (fun q => { q with enter := b.cur n != 0 && x.sstate != 4 })
  let b := b.startBlend n 0 8 o.u o.vq o.vd
  if x.sstate = 3 ∨ x.sstate = 6 then
    let b := b.startBlend n 1 8 o.iqRef 0
    let b := if ((b.chan n).part .fieldWeak).isSome then b.startBlend n 3 8 o.idRef 0 else b
    match (b.chan n).part .posLoop with
    | some i => b.startBlend n 4 8 (iAt (x.ck.rt.getD i default).out 0) 0
    | none => b
  else b

/-- One channel at resume (R397). A drive whose pulses a stop had asked to block stays BLOCKED; the row of a lost SYNC is
taken for CLOSED and BRAKE (log entry 141). -/
def Blk.resumeChan (b : Blk) (stale : Bool) (x : HingeChan) : Blk :=
  if b.owns x.c = false ∨ (b.pairedChans.contains x.c) = false then b
  else if stale then (if x.c < 8 then b.blockTo x.c 0 else b.wr (R.Sn_STAT_SSTATE (x.c - 8)) 0)
  else if x.c < 8 then
    let n := x.c
    let free := !b.on (R.Dn_STAT_TRIPIN n) && b.grdyHigh n && b.gateEn n
    if b.pstate n ≠ 0 then b
    else if (x.sstate = 1 ∨ x.sstate = 2) ∧ free = true then b.openCatch n x.sstate
    else if x.pstate = 1 ∧ 3 ≤ x.sstate ∧ free = true then
      if b.sensorless n ∧ b.cur n ≠ 0 ∧ (x.sstate = 3 ∨ x.sstate = 6) ∧ b.on (R.Dn_CSTAT_SYNC n) = false then
        (b.seqIdle n).raise 0x3316 n [5]
      else b.resumeRun n x
    else b.seqIdle n
  else
    let n := x.c - 8
    if (x.pstate = 1 ∨ x.pstate = 2) ∧ b.stpState n = 0 ∧ b.gateEn x.c = true then
      ((b.wr (R.Sn_STAT_SSTATE n) x.pstate).onStp n (fun s => { s with enReq := true, deEn := x.deEn })).preloadAll x.c x.ck
    else b

/-- TAKEOVER_RESUME (R396, R397): four guard frames after the claim. -/
def Blk.doTakeoverResume (b : Blk) : Blk :=
  match b.mir.guard, b.mir.got with
  | some k, some f =>
    if k < 4 then b
    else
      let stale := decide (b.rd R.MIR_CFG_STALE < b.fn - f.fn)
      let b := f.chans.foldl (fun b x => b.resumeChan stale x) (b.onMir (fun m => { m with edge := m.edge && !stale }))
      let b := (b.onMir (fun m => { m with guard := none })).settle
      if stale then b.raise 0xC109 0 [] else b
  | some k, none => if k < 4 then b else (b.onMir (fun m => { m with guard := none, edge := false })).raise 0xC109 0 []
  | none, _ => b

/-- The first gate edges after a takeover, at a reload point of a paired channel (R396). -/
def Blk.firstEdges (b : Blk) (c : Nat) : Blk :=
  if b.mir.edge ∧ b.mir.guard = none ∧ (b.pairedChans.contains c) = true ∧
      ((c < 8 ∧ b.pstate c = 1) ∨ (8 ≤ c ∧ 1 ≤ b.stpState (c - 8) ∧ b.stpState (c - 8) ≤ 2)) then
    let k := b.mir.rel.getD 0
    let b := b.onMir (fun m => { m with edge := false, rel := none })
    (b.wrSat R.MIR_TKO_FRAMES k).raise 0xC002 0 [Int.ofNat (b.rd R.MIR_TKO_TRIG), Int.ofNat k]
  else b

/-- PARTNER_LINE_REASSERTED (R385, R398): an active module keeps ownership. -/
def Blk.doLineReasserted (b : Blk) : Blk :=
  if b.powered .mir = false ∨ b.rd R.MIR_STAT_PID = 0 then b
  else
    let b := b.flag R.MIR_STAT_OWNIN true
    if b.role = 3 ∧ b.on R.MIR_STAT_OWNOUT then b.raise 0xC106 0 [] else b

end Sys2Proof.Machine
end

