-- ==== Sys2Proof/Machine/Clocks.lean ====
section
/-! DEFINITION. The clocks (chapter 22): the watch on XO and the two oscillators, switches of the references, holdover and
its bound, PLL lock, the real-time clock. -/

namespace Sys2Proof.Machine

def Blk.onClk (b : Blk) (f : Clk → Clk) : Blk := { b with clk := f b.clk }

/-- A domain goes on or off (PWR_DOMSTAT). -/
def Blk.setDom (b : Blk) (d : Dom) (on : Bool) : Blk := b.flag (bitOf R.PWR_DOMSTAT_ON d.bit) on

/-- LOCK of a PLL: 0 S, 1 P, 2 N. -/
def lockFld (pll : Nat) : Fld := if pll = 0 then R.CLK_STAT_LOCKS else if pll = 1 then R.CLK_STAT_LOCKP else R.CLK_STAT_LOCKN

/-- A PLL goes into holdover: its lock is lost until edges return (R495). -/
def Blk.pllHold (b : Blk) (pll : Nat) : Blk :=
  (b.onClk (fun c => { c with hold := c.hold.set pll true })).flag (lockFld pll) false

/-- The die temperature nearest Flint-B in 0.0625 °C. -/
def Blk.dieB (b : Blk) : Int := b.rdS (R.AFE_DIE_TEMP (Config.flintbSensor % 6))

/-- A forced switch of a multiplexer (R494, R495): 0 the three PLL references, 1 the real-time clock. -/
def Blk.forcedSwitch (b : Blk) (mux : Nat) : Blk :=
  let b := ((b.flag R.CLK_STAT_FORCED true).inc R.CLK_CNT_FORCED).raise 0x0111 mux []
  if mux = 0 then ((b.pllHold 0).pllHold 1).pllHold 2 else b

/-- The holdover bound of R499 in ppm for ΔT in 0.0625 K and t in seconds; 511 for none. -/
def holdBound (dt t : Nat) : Nat :=
  if t ≤ 600 ∧ dt ≤ 32 then 50
  else if t ≤ 86400 ∧ dt ≤ 320 then min 300 (onGrid (50 + 25 * (dt : Rat) / 32)).toNat
  else 511

/-- BOUND follows; without a valid peer delay it is the estimate of the Ethernet ports (R483, R499). -/
def Blk.showBound (b : Blk) (v : Nat) : Blk :=
  if b.rd R.CLK_STAT_BOUND = v then b
  else
    let b := b.wr R.CLK_STAT_BOUND v
    b.each 2 (fun p b =>
      if b.powered .comm = false ∨ b.on (R.LODE_Pk_CFG_EN p) = false then b
      else if (b.lodePort p).pdOk then b.onLodePort p (fun x => { x with ppm := x.ppm && decide (0 < v) })
      else b.portPpm p (Int.ofNat (100 * v)) (decide (0 < v)))

/-- The references leave XO (R498, R501): the clock of holdover starts. -/
def Blk.startHold (b : Blk) (ref : Nat) : Blk :=
  let was := b.on R.CLK_STAT_HOLD
  let b := (b.wr R.CLK_STAT_REFSEL ref).flag R.CLK_STAT_HOLD true
  let b := b.flag R.WARD_SPARE_XO false
  if was then b
  else
    let t := b.dieB
    let b := (b.wr R.CLK_HOLD_SEC 0).wr R.CLK_HOLD_DTMAX 0
    b.onClk (fun c => { c with swT := t, secCyc := 0, told := false })

/-- XO has failed and Flint-B is good (R498): cause 1 window, 2 drift, 3 absent at start-up. Flint-B is trimmed from the
table from the switch on; while the AFE domain is off, as last stored (R156). -/
def Blk.toFlintB (b : Blk) (cause : Nat) (forced : Bool) : Blk :=
  let b := if forced then b.forcedSwitch 0 else b
  let b := b.onClk (fun c => { c with trim := tabAt b.afe.tabF b.flintBin })
  ((b.startHold 1).showBound 50).raise 0x0215 0 [Int.ofNat cause]

/-- Flint-B has failed (R501): Flint-A / 4, CLOCK_DEGRADED, and loss or the timer of class CLOCK. -/
def Blk.toFlintA (b : Blk) (forced : Bool) : Blk :=
  let b := if forced then b.forcedSwitch 0 else b
  let b := (((b.startHold 2).flag R.CLK_STAT_FBOK false).showBound 511).raise 0x0317 0 []
  let b := if b.rd R.HASP_STAT_HSTATE = 1 then b.wr R.HASP_STAT_HSTATE 2 else b
  b.rung3 7 ((List.range 16).filter (fun c => b.configured c))

/-- The Flint-A vote of R496: XO and Flint-B, which is stable, agree within ±1.5 % of their ratio of 0.5, so Flint-A has
failed. -/
def Blk.flintAVote (b : Blk) (w : ClkWindow) : Bool :=
  b.on R.CLK_STAT_FBOK && decide (magI (2 * Int.ofNat w.xo - Int.ofNat w.fb) * 1000 ≤ 15 * w.fb)

/-- XO's count lies within 245 to 255 (R496). -/
def xoGood (w : ClkWindow) : Bool := decide (245 ≤ w.xo) && decide (w.xo ≤ 255)

/-- CLK_MON shows the deviations of a window, in 0.01 % (R496). -/
def Blk.showWindowDev (b : Blk) (w : ClkWindow) : Blk :=
  if b.powered .safe then (b.wrS R.CLK_MON_XODEV ((Int.ofNat w.xo - 250) * 40)).wrS R.CLK_MON_FBDEV ((Int.ofNat w.fb - 500) * 20) else b

/-- XO no longer passes: its references move (R498, R500, R501, R506). -/
def Blk.xoFailed (b : Blk) (cause : Nat) (stopped : Bool) : Blk :=
  let b := (b.flag R.CLK_STAT_XOOK false).inc R.CLK_CNT_XOF
  if b.rd R.CLK_STAT_REFSEL ≠ 0 then b
  else if b.on R.CLK_STAT_FBOK ∧ b.clk.fbLost = false then b.toFlintB cause stopped
  else b.toFlintA stopped

/-- XO_FAILURE (R496, R498, R500): no edge for 1 µs, or a window count outside 245 to 255. -/
def Blk.doXoFailure (b : Blk) (stopped : Bool) (w : ClkWindow) : Blk :=
  let fails := stopped || !xoGood w
  let b := b.showWindowDev w
  let b := if fails then b.onClk (fun c => { c with xoAge := 0 }) else b
  if b.pwr.step = 3 ∧ b.pwr.xoPass ∧ fails then
    (((b.onClk (fun c => { c with xoWait := true })).pllHold 0).pllHold 1).pllHold 2
  else if b.powered .fabric = false ∨ b.on R.CLK_STAT_XOOK = false ∨ fails = false then b
  else if stopped = false ∧ b.flintAVote w then b.haspDemand 7
  else b.xoFailed 1 stopped

/-- XO_DRIFT (R497): the second count in a row beyond PLAUS. -/
def Blk.doXoDrift (b : Blk) (count : Nat) : Blk :=
  if b.powered .fabric ∧ b.on R.CLK_STAT_XOOK ∧ b.rd R.CLK_STAT_REFSEL = 0 ∧ b.clk.drift = true ∧
      b.trimDiffers count (trimBin b.dieB) = true then
    (b.onClk (fun c => { c with drift := false })).xoFailed 2 false
  else b

/-- FLINTB_FAILURE (R501): outside 485 to 515 counts while it is the reference in force. -/
def Blk.doFlintbFailure (b : Blk) (x : FlintSeen) : Blk :=
  let b := if b.powered .safe then b.wrS R.CLK_MON_FBDEV ((Int.ofNat x.count - 500) * 20) else b
  if b.powered .fabric ∧ b.rd R.CLK_STAT_REFSEL = 1 ∧ (x.stopped = true ∨ x.count < 485 ∨ 515 < x.count) then b.toFlintA x.stopped
  else b

/-- FLINTB_SPARE_LOST (R502): outside its check, or a trim beyond ±2 %, while XO is the reference. Which of the two it
was decides FBOK, which the row does not say. -/
def Blk.doSpareLost (b : Blk) : Blk :=
  if b.powered .fabric ∧ b.rd R.CLK_STAT_REFSEL = 0 ∧ b.clk.fbLost = false then
    let (i, b) := b.free
    let b := if Config.freeNat i % 2 = 0 then b.flag R.CLK_STAT_FBOK false else b
    ((b.onClk (fun c => { c with fbLost := true })).flag R.WARD_SPARE_XO false).raise 0x0216 0 []
  else b

/-- PLL_REFERENCE_LOST (R495). -/
def Blk.doRefLost (b : Blk) (pll : Nat) : Blk := if b.on (lockFld pll) then b.pllHold pll else b

/-- PLL_RELOCKED (R495). -/
def Blk.doRelocked (b : Blk) (pll : Nat) : Blk :=
  if b.on (lockFld pll) = false ∧ 3 ≤ b.pwr.step ∧ (pll = 2 → b.clk.nOff = false) ∧ (pll < 2 → b.clk.stop = false) then
    (b.onClk (fun c => { c with hold := c.hold.set pll false })).flag (lockFld pll) true
  else b

/-- PLL_SP_LOCK_LOSS (R504): Tumbler stops; the gates go on with the last duty until Hasp acts. -/
def Blk.doSpLockLoss (b : Blk) (p : Bool) : Blk :=
  let f := if p then R.CLK_STAT_LOCKP else R.CLK_STAT_LOCKS
  if b.on f then ((b.flag f false).onClk (fun c => { c with stop := true })).raise 0x0318 0 [Int.ofNat (b2n p)] else b

/-- The COMM domain stops (R504, R513): CAN and Lode stop. -/
def Blk.commStops (b : Blk) : Blk :=
  let b := b.each 4 (fun k b => b.canOff k)
  (b.each 2 (fun p b => b.doLinkDown p)).doPtpLost

/-- PLL_N_LOCK_LOSS (R504): relocks, counted; the third within 1 s, as `within` says of it and of the two before, leaves it
off, and the COMM domain with it (log entry 75). -/
def Blk.doNLockLoss (b : Blk) (within : Bool) : Blk :=
  if b.on R.CLK_STAT_LOCKN then
    let third := within && decide (2 ≤ (b.clk.relocks.filter (fun t => decide (t ≤ 1000 * cycPerMs + b.period))).length)
    let b := ((b.flag R.CLK_STAT_LOCKN false).inc R.CLK_CNT_RELOCK).raise 0x0113 0 []
    let b := b.onClk (fun c => { c with relocks := (0 :: c.relocks).take 2 })
    if third then
      let b := (b.commStops.setDom .comm false).onClk (fun c => { c with nOff := true })
      b.onMir (fun m => { m with dead := [true, true], came := [false, false] })
    else b
  else b

/-- X32_FAILURE (R505). -/
def Blk.doX32Failure (b : Blk) (stopped : Bool) : Blk :=
  if b.clk.rtcRun = false then b
  else
    let b := b.onClk (fun c => { c with rtcRun := false })
    if b.powered .fabric then
      let b := (b.flag R.CLK_STAT_X32OK false).inc R.CLK_CNT_X32F
      let b := if stopped then b.forcedSwitch 1 else b
      (b.flag R.CLK_STAT_RTCSRC true).raise 0x0112 0 []
    else b.onClk (fun c => { c with x32Late := true })

/-- XO_RETURN (R503): XORET written while XO has passed every judgement of the last 10 s. -/
def Blk.doXoReturn (b : Blk) (good : Bool) : Blk :=
  if b.powered .fabric ∧ b.on R.CLK_STAT_HOLD ∧ good then
    let b := ((b.wr R.CLK_STAT_REFSEL 0).flag R.CLK_STAT_HOLD false).flag R.CLK_STAT_XOOK true
    let b := ((b.wr R.CLK_HOLD_SEC 0).wr R.CLK_HOLD_DTMAX 0).showBound 0
    let b := (b.onClk (fun c => { c with drift := false })).flag R.WARD_SPARE_XO
      (b.on R.CLK_STAT_FBOK && !b.clk.fbLost)
    b.raise 0x0010 0 []
  else b

/-- The bound is no longer guaranteed (R499): event 0x0114 once per holdover. -/
def Blk.boundLost (b : Blk) : Blk :=
  let b := b.showBound 511
  if b.clk.told then b else (b.onClk (fun c => { c with told := true })).raise 0x0114 0 []

/-- HOLDOVER_BOUND_LOST (R499): 24 h after the switch. -/
def Blk.doBoundLost (b : Blk) : Blk :=
  if b.on R.CLK_STAT_HOLD ∧ 86400 ≤ b.rd R.CLK_HOLD_SEC then b.boundLost else b

/-- X32_DELAY_END (R490): X32 is stable. -/
def Blk.doX32Delay (b : Blk) : Blk :=
  if b.pwr.vault ∧ b.clk.rtcRun = false ∧ b.clk.x32Late = false ∧ b.on R.CLK_STAT_RTCSRC = false then
    let b := b.onClk (fun c => { c with rtcRun := true, rtcCyc := 0 })
    if b.powered .fabric then b.flag R.CLK_STAT_X32OK true else b
  else b

/-- Whole seconds in a count of cycles, and what is left. -/
def secondsOf (cyc : Nat) : Nat × Nat := (cyc / (1000 * cycPerMs), cyc % (1000 * cycPerMs))

/-- The clocks' counters at a tick that ends a frame of `cyc` cycles: PWR_RTC, CLK_HOLD and the bound (R499). -/
def Blk.clkTick (b : Blk) (cyc : Nat) : Blk :=
  let b := if b.clk.rtcRun ∨ b.on R.CLK_STAT_RTCSRC then
      let s := secondsOf (b.clk.rtcCyc + cyc)
      (b.wr R.PWR_RTC_SEC (b.rd R.PWR_RTC_SEC + s.1)).onClk (fun c => { c with rtcCyc := s.2 })
    else b
  let b := b.onClk (fun c =>
    { c with xoAge := min (c.xoAge + cyc) (10000 * cycPerMs), relocks := c.relocks.map (fun t => t + cyc) })
  if b.on R.CLK_STAT_HOLD then
    let s := secondsOf (b.clk.secCyc + cyc)
    let b := (b.wrSat R.CLK_HOLD_SEC (b.rd R.CLK_HOLD_SEC + s.1)).onClk (fun c => { c with secCyc := s.2 })
    let b := b.wrSat R.CLK_HOLD_DTMAX (max (b.rd R.CLK_HOLD_DTMAX) (magI (b.dieB - b.clk.swT)))
    let v := holdBound (b.rd R.CLK_HOLD_DTMAX) (b.rd R.CLK_HOLD_SEC)
    if b.clk.told then b
    else if v = 511 then b.boundLost
    else if b.rd R.CLK_STAT_REFSEL = 2 then b
    else b.showBound v
  else b

end Sys2Proof.Machine
end

