-- ==== Sys2Proof/Machine/Memory.lean ====
section
/-! DEFINITION. The Bedrock store (R531): 32 MiB of bytes, kept as the list of those that differ from 0 with rising
addresses. An address not listed reads 0 (log entry 5). -/

namespace Sys2Proof.Machine

/-- Bytes of Bedrock. -/
def bedrockSize : Nat := 2 ^ 25

/-- The byte at an address. -/
def memGet : List Host.Cell → Nat → Byte
  | [], _ => 0
  | e :: m, a => if e.1 = a then e.2 else memGet m a

/-- The store without an address. -/
def memDrop (m : List Host.Cell) (a : Nat) : List Host.Cell := m.filter (fun e => e.1 != a)

/-- A byte put at its place in a rising list that does not hold its address. -/
def memIns (a : Nat) (v : Byte) : List Host.Cell → List Host.Cell
  | [] => [(a, v)]
  | e :: m => if a < e.1 then (a, v) :: e :: m else e :: memIns a v m

/-- Write one byte; a byte of 0 is not listed, and an address beyond Bedrock does not exist. -/
def memPut (m : List Host.Cell) (a : Nat) (v : Byte) : List Host.Cell :=
  if bedrockSize ≤ a then m else if v = 0 then memDrop m a else memIns a v (memDrop m a)

/-- Write bytes from an address on. -/
def memPuts (m : List Host.Cell) (a : Nat) : List Byte → List Host.Cell
  | [] => m
  | v :: l => memPuts (memPut m a v) (a + 1) l

/-- Read `n` bytes from an address on. -/
def memGets (m : List Host.Cell) (a n : Nat) : List Byte := (List.range n).map (fun i => memGet m (a + i))

/-- A little-endian number in Bedrock (R6). -/
def memLe (m : List Host.Cell) (a n : Nat) : Nat := leNat (memGets m a n)

/-- Addresses strictly rising from `lo`, inside Bedrock, and no byte of 0. -/
def memRises : Nat → List Host.Cell → Bool
  | _, [] => true
  | lo, e :: m => decide (lo ≤ e.1) && decide (e.1 < bedrockSize) && decide (e.2 ≠ 0) && memRises (e.1 + 1) m

/-- The canonical form of the store. -/
def Memory.wf (m : List Host.Cell) : Bool := memRises 0 m

/-- Change the store of a state. -/
def State.onMem (s : State) (f : List Host.Cell → List Host.Cell) : State := { s with mem := f s.mem }

/-- Change the block of a state. -/
def State.onBlk (s : State) (f : Blk → Blk) : State := { s with blk := f s.blk }

/-- A function runs only while the domains that hold it are powered (R20). -/
def State.within (s : State) (l : List Dom) (f : Blk → Blk) : State :=
  s.onBlk fun b => if l.all b.powered then f b else b

end Sys2Proof.Machine
end

