-- ==== Sys2Proof/Machine/Strata.lean ====
section
/-! DEFINITION. Strata and the Bedrock engines (chapter 24): what a frame accumulates, records, their placing, host
transfers, image slots; and the checkpoint write that ends a frame (R206). -/

namespace Sys2Proof.Machine

def Blk.onNvs (b : Blk) (f : Nvs → Nvs) : Blk := { b with nvs := f b.nvs }

/-- A count of 32 bits saturates (R536). -/
def sat32 (v : Nat) : Nat := min v (2 ^ 32 - 1)

/-- One value enters a histogram (R536). -/
def Hist.put (h : Hist) (bin : Nat) (v : Int) (fn : Nat) : Hist :=
  { bins := h.bins.modify bin (fun c => sat32 (c + 1))
    mn := if h.n = 0 ∨ v < h.mn then v else h.mn
    mnFn := if h.n = 0 ∨ v < h.mn then fn else h.mnFn
    mx := if h.n = 0 ∨ h.mx < v then v else h.mx
    mxFn := if h.n = 0 ∨ h.mx < v then fn else h.mxFn
    n := sat32 (h.n + 1) }

/-- Accumulate quantity i when its frames count. -/
def Blk.tally (b : Blk) (i : Nat) (on : Bool) (bin : Int) (v : Int) : Blk :=
  if on then
    let fn := b.fn
    b.onNvs (fun x => { x with hists := x.hists.modify i (fun h => h.put (satI bin 0 31).toNat v fn) })
  else b

/-- Bin of a temperature in 0.0625 °C (R536). -/
def tempBin (t : Int) : Int := (t + 352) / 96

/-- The quantities of drive n (R536). -/
def Blk.strataDrive (b : Blk) (n : Nat) : Blk :=
  let d := b.drv n
  let run := b.pstate n == 1
  let id := b.rdS (R.Dn_IDQ_ID n)
  let iq := b.rdS (R.Dn_IDQ_IQ n)
  let i := min (Int.ofNat (isqrt (id * id + iq * iq).toNat)) 32767
  let v := (b.afe.drv.getD n default).vdc
  let tj := b.rdS (R.THM_Dn_TEMP_TJ n)
  let tw := b.rdS (R.THM_Dn_TEMP_TW n)
  let err := sat16 (b.rampOut n - d.speed)
  let b := b.tally (7 * n) (run || b.pstate n == 2) (i / 1024) i
  let b := b.tally (7 * n + 1) true (max v 0 / 1024) v
  let b := b.tally (7 * n + 2) true (tempBin tj) tj
  let b := b.tally (7 * n + 3) true (tempBin tw) tw
  let b := b.tally (7 * n + 4) run ((d.speed + 32768) / 2048) d.speed
  let b := b.tally (7 * n + 5) run ((d.iqRef + 32768) / 2048) d.iqRef
  b.tally (7 * n + 6) (run && !b.on (R.Dn_CMODE_CTRL n)) ((err + 512) / 32) err

/-- The quantities of stepper n (R536); a current beyond the largest Q15 value counts as that value (log entry 44). -/
def Blk.strataStepper (b : Blk) (n : Nat) : Blk :=
  let s := b.afe.stp.getD n default
  let st := b.stpState n
  let i := min (Int.ofNat (isqrt (s.iA * s.iA + s.iB * s.iB).toNat)) 32767
  let v := (b.axis (8 + n)).v.tdiv (2 ^ 32)
  let b := b.tally (56 + 2 * n) (st == 1 || st == 2) (i / 1024) i
  b.tally (57 + 2 * n) (st == 2) (Int.ofNat (magI v) / 4) v

/-- STRATA_ACCUMULATE for channel c (R536, R544): a paired channel only in frames in which the module owns it. -/
def Blk.strataChan (b : Blk) (c : Nat) : Blk :=
  if b.configured c = false ∨ b.powered .fabric = false ∨
      (b.rd R.MIR_STAT_PID ≠ 0 ∧ b.on (bitOf R.MIR_CHMAP_PAIRED c) ∧ b.owns c = false) then b
  else if c < 8 then b.strataDrive c else b.strataStepper (c - 8)

/-- Pairs that run post-output work. -/
def Blk.pairRuns (b : Blk) (k : Nat) : Bool :=
  [1, 2, 3, 5].contains (b.pairState k) && b.powered (if k < 3 then .lpa else .lpb)

/-- CHECKPOINT_WRITE (R206, R216, R230, R536): the end of pair k's post-output work. Channels without a pair are
accumulated with the lowest running pair (log entry 44). -/
def Blk.doCheckpoint (b : Blk) (k : Nat) : Blk :=
  if b.powered .fabric = false ∨ b.clk.stop = true ∨ b.pairRuns k = false then b
  else
    let chs := (b.chansOn k).filter (fun c => b.computes c)
    let b := b.eachOf chs (fun c b => b.runWindow c true)
    let b := b.eachOf (b.chansOn k) (fun c b => if c < 8 then b.supervise c else b)
    let b := b.capture k
    let low := (List.range 5).find? (fun k => b.pairRuns k) == some k
    let b := b.each 16 (fun c b => if b.pairOf c = k ∨ (low = true ∧ 5 ≤ b.pairOf c) then b.strataChan c else b)
    b.eachOf chs (fun c b => b.writeCk c)

/-- A stored bin of R538. -/
def binAt (e c : Nat) : Nat := if c = 0 then 0 else if e = 0 then c else max 1 ((c + 2 ^ (e - 1)) / 2 ^ e)

/-- The exponent E of R538. -/
def binExp (l : List Nat) : Nat :=
  ((List.range 32).find? (fun e => l.all (fun c => decide (binAt e c ≤ 255)))).getD 31

/-- A histogram saturated: a bin, or an extreme beyond 16 bits (R537, R540). -/
def Hist.full (h : Hist) : Bool := h.bins.any (fun c => c == 2 ^ 32 - 1) || sat16 h.mn != h.mn || sat16 h.mx != h.mx

/-- A histogram block of 50 bytes (R538, R540). -/
def Hist.block (h : Hist) : List Byte :=
  if h.n = 0 then List.replicate 32 0 ++ [0xFF] ++ List.replicate 17 0
  else
    let e := binExp h.bins
    h.bins.map (fun c => BitVec.ofNat 8 (binAt e c)) ++ leBytes 1 e ++ leBytes 1 (b2n h.full) ++
      leBytes 2 (unsigned 16 (sat16 h.mn)) ++ leBytes 2 (unsigned 16 (sat16 h.mx)) ++ leBytes 6 h.mnFn ++ leBytes 6 h.mxFn

/-- The severity of a record: the highest of any event it counts (R542). -/
def Nvs.severity (x : Nvs) : Nat :=
  max ((x.evs.map (fun e => Machine.severity e.1)).foldl max 0)
    (((List.range 4).filter (fun s => decide (0 < x.evOvf.getD s 0))).foldl max 0)

/-- The body of a record, bytes 64 to 4,095 (R540). -/
def Blk.recBody (b : Blk) : List Byte :=
  let x := b.nvs
  let blk := fun (i c : Nat) => (if b.configured c then x.hists.getD i Hist.empty else Hist.empty).block
  (List.range 56).flatMap (fun i => blk i (i / 7)) ++ (List.range 16).flatMap (fun i => blk (56 + i) (8 + i / 2)) ++
  (List.range 32).flatMap (fun i => match x.evs[i]? with
    | some e => leBytes 2 e.1 ++ leBytes 4 e.2.1 ++ leBytes 6 e.2.2
    | none => List.replicate 12 0) ++
  leBytes 4 x.ovrFr ++ (List.range 8).flatMap (fun n => leBytes 4 (x.levFr.getD n 0)) ++
  (List.range 4).flatMap (fun s => leBytes 2 (x.evOvf.getD s 0)) ++ leBytes 1 x.evs.length ++ List.replicate 3 0

/-- Some count of the interval saturated (FLAGS.SAT). -/
def Nvs.anySat (x : Nvs) : Bool :=
  x.hists.any Hist.full || x.evs.any (fun e => e.2.1 == 2 ^ 32 - 1) || x.evOvf.any (fun c => c == 65535)

/-- Bytes 0 to 55 of a record of a type with a severity and a RECNO (R539). -/
def Blk.recHead (b : Blk) (type sev recno fnEnd : Nat) : List Byte :=
  let x := b.nvs
  let flags := b2n x.gap + 2 * b2n x.anySat + 4 * b2n x.evFull + 8 * b2n x.ownAll + 16 * b2n x.ownChg + 32 * b2n x.perChg
  leBytes 2 1 ++ leBytes 1 type ++ leBytes 1 sev ++ leBytes 4 recno ++ leBytes 2 x.bootno ++ leBytes 2 flags ++
  leBytes 6 x.fnStart ++ leBytes 6 fnEnd ++ leBytes 4 x.rtcStart ++ leBytes 4 (b.rd R.PWR_RTC_SEC) ++
  leBytes 4 (if type = 1 then b.period else x.perEnd) ++ leBytes 4 (b.rd R.PWR_GEN_GEN) ++ List.replicate 16 0

/-- A whole record with its CRC and STATE 0x01 (R539). -/
def Blk.record (b : Blk) (type sev recno fnEnd : Nat) : List Byte :=
  let head := b.recHead type sev recno fnEnd
  let body := b.recBody
  head ++ leBytes 4 (crc32c (head ++ body)) ++ [0x01, 0, 0, 0] ++ body

/-- Offset of record slot i (R531). -/
def recAt (i : Nat) : Nat := 0x1800000 + 0x1000 * i

/-- STATE, SEV and RECNO of a record slot. -/
def recState (m : List Host.Cell) (i : Nat) : Nat := (memGet m (recAt i + 60)).toNat
def recSev (m : List Host.Cell) (i : Nat) : Nat := (memGet m (recAt i + 3)).toNat
def recNo (m : List Host.Cell) (i : Nat) : Nat := memLe m (recAt i + 4) 4

/-- The record with the lowest RECNO among some slots. -/
def oldest (m : List Host.Cell) (l : List Nat) : Option Nat :=
  l.foldl (fun r i => match r with
    | some j => if recNo m i < recNo m j then some i else r
    | none => some i) none

/-- Where a new record of a severity goes (R542). -/
def recPlace (m : List Host.Cell) (sev : Nat) : Option Nat :=
  match (List.range 1024).find? (fun i => recState m i == 0) with
  | some i => some i
  | none =>
    let low := (List.range 1024).foldl (fun s i => min s (recSev m i)) 255
    if low ≤ sev then oldest m ((List.range 1024).filter (fun i => recSev m i == low)) else none

/-- The valid records (STR_STAT.USED). -/
def recUsed (m : List Host.Cell) : Nat := ((List.range 1024).filter (fun i => recState m i == 1)).length

/-- A record of severity `sev` is dropped (R542). -/
def Blk.dropRecord (b : Blk) (sev recno : Nat) : Blk :=
  let f := match sev with
    | 0 => R.STR_DROP01_S0
    | 1 => R.STR_DROP01_S1
    | 2 => R.STR_DROP23_S2
    | _ => R.STR_DROP23_S3
  let b := (b.inc f).onNvs (fun x => { x with drop := x.drop.modify sev (fun c => min (c + 1) 65535) })
  b.raise 0xF101 0 [Int.ofNat sev, Int.ofNat recno]

/-- The banks swap: an empty bank is live (R537). -/
def Blk.swapBanks (b : Blk) : Blk :=
  let fn := b.fn
  let rtc := b.rd R.PWR_RTC_SEC
  let own := b.isOwner
  (b.wr R.STR_STAT_BANK (b.rd R.STR_STAT_BANK + 1)).onNvs (fun x =>
    { Nvs.empty with
      fnStart := fn, rtcStart := rtc, ownWas := x.ownWas, ownAll := own, rec_ := x.rec_, dma := x.dma, slotOp := x.slotOp
      snap := x.snap, recno := x.recno, bootno := x.bootno, drop := x.drop })

/-- An interval ends with a record of a type; its last frame is `fnEnd` (R537, R542, R543): the record is placed and its
header line written with STATE 0x02, or it is dropped. -/
def State.endInterval (s : State) (type fnEnd : Nat) : State :=
  let b := s.blk
  let sev := b.nvs.severity
  let no := b.nvs.recno
  let bytes := b.record type sev no fnEnd
  let b := b.swapBanks.onNvs (fun x => { x with recno := (no + 1) % 2 ^ 32 })
  match recPlace s.mem sev with
  | some i =>
    let head := bytes.take 56 ++ List.replicate 4 0 ++ [0x02, 0, 0, 0]
    let m := memPuts s.mem (recAt i) head
    let b := (b.flag R.STR_STAT_WR true).wr R.STR_STAT_USED (recUsed m)
    { s with mem := m, blk := b.onNvs (fun x => { x with rec_ := some (i, bytes, sev, no) }) }
  | none => { s with blk := (b.onNvs (fun x => { x with gap := s.blk.nvs.gap })).dropRecord sev no }

/-- Strata runs: the accumulators lie in FABRIC, the records in Bedrock. -/
def Blk.strataRuns (b : Blk) : Bool := b.powered .fabric && b.powered .nvs && b.pwr.step == 8

/-- The interval has run its time, or a SNAP waits (R537). -/
def Blk.intervalDue (b : Blk) : Bool :=
  b.nvs.snapNow || decide (b.rd R.STR_CFG_PERIOD * 60000 * cycPerMs ≤ b.nvs.cyc)

/-- Lines of Bedrock that ECC corrected in a read (R532): counted, reported at most once per 1,024 frames. -/
def Blk.eccNote (b : Blk) (corr : Nat) : Blk :=
  if corr = 0 then b else (b.add R.NVS_ECC_CORR corr).raiseLim 1024 0xF108 0

/-- STRATA_INTERVAL_END (R537, R545), at the tick that has just opened a frame. -/
def State.doIntervalEnd (s : State) (corr : Nat) : State :=
  let b := s.blk
  if b.strataRuns = true ∧ b.intervalDue = true ∧ b.nvs.rec_ = none then
    State.endInterval { s with blk := b.eccNote corr } (if b.nvs.snapNow then 2 else 0) (b.fn - 1)
  else s

/-- STRATA_SNAP (R537): STR_CTL.SNAP written. -/
def Blk.doSnap (b : Blk) : Blk := if b.strataRuns then b.onNvs (fun x => { x with snap := true }) else b

/-- STRATA_RECORD_DONE (R543): the record stands, its header written again with STATE 0x01. -/
def State.doRecordDone (s : State) : State :=
  let b := s.blk
  match b.nvs.rec_ with
  | none => s
  | some (i, bytes, sev, no) =>
    let m := memPuts s.mem (recAt i) bytes
    let b := (b.onNvs (fun x => { x with rec_ := none })).flag R.STR_STAT_WR false
    let b := ((b.wr R.STR_STAT_USED (recUsed m)).wr R.STR_STAT_NEWEST i).wr R.STR_RECNO_RECNO no
    { s with mem := m, blk := b.raise 0xF001 0 [Int.ofNat no, Int.ofNat i, Int.ofNat sev] }

/-- Strata's counters at the tick that ends a frame (R536, R537, R539); an interval counts frames of the period in force. -/
def Blk.strataTick (b : Blk) : Blk :=
  if b.powered .fabric = false then b
  else
    let p := b.period
    let own := b.isOwner
    let ovr := b.on R.THM_OVRD_ACT
    let lev := (List.range 8).map (fun n => b.configured n && b.followsLever n)
    b.onNvs (fun x =>
      { x with cyc := x.cyc + p, snap := false, snapNow := x.snapNow || x.snap, perEnd := p
               ownAll := x.ownAll && own, ownChg := x.ownChg || (own != x.ownWas), ownWas := own
               ovrFr := if ovr then sat32 (x.ovrFr + 1) else x.ovrFr
               levFr := (List.range 8).map (fun n => sat32 (x.levFr.getD n 0 + b2n (lev.getD n false))) })

/-- Offset of slot A or B (R531). -/
def slotAt (s : Nat) : Nat := 0xC00000 * s

/-- STATE of a slot (R515): 0 empty, 1 ready, 2 marked bad. -/
def slotState (m : List Host.Cell) (s : Nat) : Nat := (memGet m (slotAt s + 60)).toNat

def slotGen (m : List Host.Cell) (s : Nat) : Nat := memLe m (slotAt s + 4) 4
def slotLen (m : List Host.Cell) (s : Nat) : Nat := memLe m (slotAt s + 8) 4

/-- HDRCRC of a slot passes (R515). -/
def hdrOk (m : List Host.Cell) (s : Nat) : Bool := crc32c (memGets m (slotAt s) 56) == memLe m (slotAt s + 56) 4

/-- VER and DEVICE are as R515 states. -/
def verOk (m : List Host.Cell) (s : Nat) : Bool := memLe m (slotAt s) 2 == 1 && memLe m (slotAt s + 2) 2 == 0x0860

/-- The safety parameter set passes SAFECRC. -/
def safeOk (m : List Host.Cell) (s : Nat) : Bool :=
  crc32c (memGets m (slotAt s + memLe m (slotAt s + 12) 4) (memLe m (slotAt s + 16) 4)) == memLe m (slotAt s + 20) 4

/-- IMGCRC passes over bytes 64 to LEN − 1, and LEN is at most 12 MiB. -/
def imgOk (m : List Host.Cell) (s : Nat) : Bool :=
  decide (64 ≤ slotLen m s) && decide (slotLen m s ≤ 0xC00000) &&
    crc32c (memGets m (slotAt s + 64) (slotLen m s - 64)) == memLe m (slotAt s + 24) 4

/-- A slot is a candidate (R516). -/
def candidate (m : List Host.Cell) (s : Nat) : Bool := slotState m s == 1 && hdrOk m s && verOk m s && safeOk m s

/-- The slot in force: none when the module runs without an image (R518, R534). -/
def Blk.slotInForce (b : Blk) (s : Nat) : Bool := !b.on R.PWR_BOOT_NOIMG && b.rd R.PWR_BOOT_SLOT == s

/-- A transfer request is refused (R534). -/
def Blk.dmaRefuse (b : Blk) (err : Nat) : Blk := (b.wr R.NVS_STAT_ERR err).raise 0xF104 0 [Int.ofNat err]

/-- Why a transfer is refused, as ERR; 0 for none (R534). -/
def State.dmaWhy (s : State) (write : Bool) (ofs len : Nat) : Nat :=
  if len = 0 ∨ 0xC00000 < len then 2
  else if bedrockSize < ofs + len then 1
  else if write = false then 0
  else match [0, 1].find? (fun k => decide (slotAt k ≤ ofs) && decide (ofs + len ≤ slotAt k + 0xC00000)) with
    | none => 1
    | some k => if s.blk.slotInForce k then 1 else if slotState s.mem k ≠ 0 then 4 else 0

/-- NVS_CTL.GO (R534): DIR, and the host's bytes for DIR = 1. -/
def State.dmaGo (s : State) (write : Bool) (data : List Byte) (corr : Nat) : State :=
  let b := s.blk
  if b.powered .nvs = false then s
  else if b.on R.NVS_STAT_BUSY then { s with blk := b.wr R.NVS_STAT_ERR 5 }
  else
    let ofs := 64 * b.rd R.NVS_OFS_OFS
    let len := 64 * b.rd R.NVS_LEN_LEN
    let why := s.dmaWhy write ofs len
    if why ≠ 0 then { s with blk := b.dmaRefuse why }
    else
      let addr := 2 ^ 32 * b.rd R.NVS_DMA_HI_ADDR + 64 * b.rd R.NVS_DMA_LO_ADDR
      let b := ((b.eccNote corr).wr R.NVS_STAT_ERR 0).flag R.NVS_STAT_BUSY true
      { s with blk := b.onNvs (fun x => { x with dma := some (write, addr, ofs, len, data) }) }

/-- A byte of Bedrock as a transfer reads it: the journal and the module state have no layout in the manual (R531, log
entry 45). -/
def bedrockRead (m : List Host.Cell) (free a : Nat) : Byte :=
  if 0x1C00000 ≤ a ∧ a < 0x1C20000 then Config.bedrockByte (free * bedrockSize + a) else memGet m a

/-- Bytes written into a slot by a transfer: the slot keeps its STATE (R545, log entry 45). -/
def slotPuts (m : List Host.Cell) (ofs : Nat) (data : List Byte) : List Host.Cell :=
  let put := memPuts m ofs data
  let keep := fun (m' : List Host.Cell) (k : Nat) => memPut m' (slotAt k + 60) (memGet m (slotAt k + 60))
  keep (keep put 0) 1

/-- NVS_DMA_DONE (R534): the transfer has ended; a PCIe error leaves a number of lines written that the manual does not
give. -/
def State.doDmaDone (s : State) (err : Bool) : State :=
  let b := s.blk
  match b.nvs.dma with
  | none => s
  | some (write, addr, ofs, len, data) =>
    let (i, b) := b.free
    let b := (b.onNvs (fun x => { x with dma := none })).flag R.NVS_STAT_BUSY false
    let b := if err then b.wr R.NVS_STAT_ERR 3 else b
    let n := if err then Config.freeNat i % (len / 64 + 1) * 64 else len
    let bytes := (List.range len).map (fun k => data.getD k (Config.bedrockByte (i * bedrockSize + k)))
    if write then { s with blk := b, mem := slotPuts s.mem ofs (bytes.take n) }
    else
      let out := (List.range n).map (fun k => bedrockRead s.mem i (ofs + k))
      { s with blk := if n = 0 then b else b.send (.hostMem addr out) }

/-- Candidates as PWR_BOOT and WARD_SPARE show them (R377, R517). -/
def Blk.showSlots (b : Blk) (m : List Host.Cell) : Blk :=
  let a := candidate m 0
  let c := candidate m 1
  let b := (b.flag R.PWR_BOOT_AVAL a).flag R.PWR_BOOT_BVAL c
  let b := (b.flag R.PWR_BOOT_ABAD (Sys2Proof.Machine.slotState m 0 == 2)).flag R.PWR_BOOT_BBAD (Sys2Proof.Machine.slotState m 1 == 2)
  b.flag R.WARD_SPARE_KEY (a && c && !b.on R.PWR_BOOT_FALLBK)

/-- A slot operation is refused (R535). -/
def Blk.slotRefuse (b : Blk) (res : Nat) : Blk := (b.wr R.NVS_SLOTST_RES res).raise 0xF104 0 [Int.ofNat res]

/-- A write of NVS_SLOT (R535): ERASE, or COMMIT, whose checks begin. -/
def State.slotWrite (s : State) (v : Nat) : State :=
  let b := s.blk
  let k := v / 16 % 2
  let op := v % 4
  if b.powered .nvs = false ∨ v / 256 % 256 ≠ 0xA5 ∨ op = 0 ∨ op = 3 then s
  else if b.nvs.dma.isSome then { s with blk := b.slotRefuse 7 }
  else if b.nvs.slotOp.isSome ∨ b.slotInForce k = true then { s with blk := b.slotRefuse 1 }
  else if op = 1 then
    let m := memPut s.mem (slotAt k + 60) 0
    { s with mem := m, blk := (b.wr R.NVS_SLOTST_RES 0).showSlots m }
  else { s with blk := (b.flag R.NVS_SLOTST_BUSY true).onNvs (fun x => { x with slotOp := some k }) }

/-- The first check of a COMMIT that fails, as RES (R535). -/
def State.commitRes (s : State) (k : Nat) : Nat :=
  if hdrOk s.mem k = false then 2
  else if verOk s.mem k = false then 3
  else if safeOk s.mem k = false then 4
  else if imgOk s.mem k = false then 5
  else if slotGen s.mem k ≤ s.blk.rd R.PWR_GEN_GEN then 6
  else 0

/-- NVS_SLOT_COMMIT_DONE (R535). -/
def State.doSlotDone (s : State) : State :=
  let b := s.blk
  match b.nvs.slotOp with
  | none => s
  | some k =>
    let res := s.commitRes k
    let b := ((b.onNvs (fun x => { x with slotOp := none })).flag R.NVS_SLOTST_BUSY false).wr R.NVS_SLOTST_RES res
    if res = 0 then
      let m := memPut s.mem (slotAt k + 60) 1
      { s with mem := m, blk := (b.showSlots m).raise 0xF005 0 [Int.ofNat k, Int.ofNat (slotGen m k)] }
    else { s with blk := b.raise 0xF106 0 [Int.ofNat res] }

/-- A system reset or a loss of power in the middle of a record or a transfer (R526, R543, R545): lines already written
stay; how many, the manual does not say. -/
def State.cutWrites (s : State) : State :=
  let (i, b) := s.blk.free
  let lines := Config.freeNat i
  let m := match b.nvs.rec_ with
    | some (k, bytes, _, _) => memPuts s.mem (recAt k + 64) ((bytes.drop 64).take (lines % 64 * 64))
    | none => s.mem
  let m := match b.nvs.dma with
    | some (true, _, ofs, len, data) =>
      slotPuts m ofs (((List.range len).map (fun j => data.getD j (Config.bedrockByte (i * bedrockSize + j)))).take
        (Config.freeNat (i + 1) % (len / 64 + 1) * 64))
    | _ => m
  { s with blk := b, mem := m }

/-- Partial records are discarded at start-up (R543): STATE 0x02, or 0x01 with a failing CRC. -/
def recBad (m : List Host.Cell) (i : Nat) : Bool :=
  recState m i == 2 || (recState m i == 1 &&
    crc32c (memGets m (recAt i) 56 ++ memGets m (recAt i + 64) 4032) != memLe m (recAt i + 56) 4)

/-- The record scan of a start-up (R543). -/
def State.scanRecords (s : State) : State :=
  let bad := (List.range 1024).filter (fun i => recBad s.mem i)
  let m := bad.foldl (fun m i => memPut m (recAt i + 60) 0) s.mem
  let b := bad.foldl (fun b i =>
    ((b.inc R.STR_CNT_PARTIAL).raise 0xF102 0 [Int.ofNat i]).onNvs (fun x => { x with gap := true })) s.blk
  let used := (List.range 1024).filter (fun i => recState m i == 1)
  let newest := used.foldl (fun r i => match r with
    | some j => if recNo m j < recNo m i then some i else r
    | none => some i) none
  let b := (b.wr R.STR_STAT_USED used.length).wr R.STR_STAT_NEWEST (newest.getD 0)
  let b := b.wr R.STR_RECNO_RECNO (match newest with | some i => recNo m i | none => 0)
  { s with mem := m, blk := b }

end Sys2Proof.Machine
end

