-- ==== Sys2Proof/Machine/Supply.lean ====
section
/-! DEFINITION. Supplies, power domains, system reset, shutdown and standby (chapter 23, R315, R378, R558). -/

namespace Sys2Proof.Machine

def Blk.onPwr (b : Blk) (f : Pwr → Pwr) : Blk := { b with pwr := f b.pwr }

/-- Show the last step of R514 that was reached. -/
def Blk.showStep (b : Blk) (n : Nat) : Blk := b.wr R.PWR_BOOT_STEP n

/-- A supply reading of which only the range is known: at least `lo`, below `hi` (log entry 46). -/
def Blk.reading (b : Blk) (f : Fld) (lo hi : Nat) : Blk :=
  let (i, b) := b.free
  b.wr f (lo + Config.freeNat i % (hi - lo))

/-- Events that wait are written while the ring has space: HOST is the first domain to go (R525, log entry 47). -/
def Blk.flushEvents (b : Blk) : Blk :=
  (List.range (b.evs.high.length + b.evs.low.length + 1)).foldl (fun b _ => b.doEventWrite ⟨[], []⟩ false) b

/-- The offset corrections in force as Bedrock has them when a system reset comes (R146). -/
def Blk.keepOffsets (b : Blk) : Blk :=
  if b.powered .afe ∧ b.powered .nvs then
    let c := b.corrections
    b.onAfe (fun a => { a with savO := c })
  else b

/-- What is left when every domain but some is removed: their registers, what VAULT holds (R20, reset source POR), what
Bedrock keeps of Whetstone's tables and Strata's counters (R531); `lost` is whether an interval was lost (R543). -/
def Blk.reduced (b : Blk) (keep : Dom → Bool) (lost : Bool) : Blk :=
  Blk.setDom (d := .vault) (on := b.pwr.vault) { Blk.cold with
    regs := b.regs.filter (fun e => match findReg e.1 with
      | some d => d.src == .por || keep d.dom
      | none => false)
    out := b.out
    freeCtr := b.freeCtr
    afe := { Afe.cold with savF := b.afe.savF, savS := b.afe.savS, savO := b.afe.savO }
    hasp := if keep .safe then b.hasp else Hasp.cold
    clk := { Clk.cold with rtcRun := b.clk.rtcRun, rtcCyc := b.clk.rtcCyc, x32Late := b.clk.x32Late }
    nvs := { Nvs.empty with
      gap := b.nvs.gap || lost, recno := b.nvs.recno, bootno := b.nvs.bootno, drop := b.nvs.drop }
    pwr := { b.pwr with step := 0, ride := none, held := false, hot := false, noImg := false, img := none } }

/-- Strata has an interval that the loss of FABRIC loses (R543). -/
def Blk.interval (b : Blk) : Bool := b.pwr.step == 8 && b.powered .fabric

/-- Only VAULT stays (R20). -/
def onlyVault (d : Dom) : Bool := d == .vault

/-- RST_N is ignored: masked, or to be masked at Ready (R522). -/
def Blk.rstIgnored (b : Blk) : Bool := b.on R.PWR_RSTPIN_MASK || bitAt b.pwr.cause 10

/-- A cause of the start-up to come (PWR_RSTCAUSE). -/
def Blk.addCause (b : Blk) (bit : Nat) : Blk := b.onPwr (fun p => { p with cause := Nat.lor p.cause (2 ^ bit) })

/-- The drop counters of Strata as Bedrock keeps them. -/
def Blk.showDrops (b : Blk) : Blk :=
  let d := fun i => b.nvs.drop.getD i 0
  (((b.wr R.STR_DROP01_S0 (d 0)).wr R.STR_DROP01_S1 (d 1)).wr R.STR_DROP23_S2 (d 2)).wr R.STR_DROP23_S3 (d 3)

/-- Start-up begins at step 2 of R514 with the SAFE and NVS rails: BOOTNO counts, Strata's records are scanned, the causes
are shown. The cause "pin masked" stays until Ready (R522). -/
def State.beginStart (s : State) : State :=
  let b := s.blk
  let c := b.pwr.cause
  let b := ((b.setDom .vault true).setDom .safe true).setDom .nvs true
  let b := (b.wr R.PWR_RSTCAUSE_W c).showStep 1
  let b := if bitAt c 2 then b.inc R.PWR_CNT_ABRUPT else b
  let b := b.onPwr (fun p =>
    { p with step := 1, held := false, hot := false, auto := false, v33 := true, cause := Nat.land c 0x400
             second := bitAt c 6 })
  let b := (b.onNvs (fun x => { x with bootno := min (x.bootno + 1) 65535 }))
  State.scanRecords { s with blk := (b.wr R.STR_CNT_BOOTNO b.nvs.bootno).showDrops }

/-- The module starts if VMAIN is there and RST_N lets it (R521, R522, R527). -/
def State.tryStart (s : State) : State :=
  let b := s.blk
  if b.on R.PWR_RSTPIN_LEVEL = false ∧ b.rstIgnored = false then { s with blk := b.onPwr (fun p => { p with held := true }) }
  else if b.pwr.vmain then s.beginStart else s

/-- A system reset with a cause (R523): pins high-impedance, every domain but VAULT reset, start-up from step 2. -/
def State.systemReset (s : State) (cause : Nat) (lost : Bool) : State :=
  let s := s.cutWrites
  let b := (s.blk.keepOffsets.reduced onlyVault lost).addCause cause
  State.tryStart { s with blk := b }

/-- The shutdown record of Strata (R525, R537, R545): a record being written completes first. -/
def State.shutdownRecord (s : State) : State :=
  if s.blk.strataRuns then (s.doRecordDone.endInterval 1 s.blk.fn).doRecordDone else s

/-- Steps 1 to 5 of an orderly shutdown (R525): pulses blocked, the power failure as a supply-monitor fault, the record,
the tables, the domains. The whole takes one command (log entry 47). -/
def State.orderly (s : State) (pfail : Bool) : State :=
  let b := s.blk.each 8 (fun n b => if [1, 2].contains (b.pstate n) then b.blockTo n 0 else b)
  let b := b.each 8 (fun n b => b.bridgesOff n 0)
  let b := if pfail then
      let b := b.raise 0x0322 0 []
      if b.standbyReady then b.loss 9 else Blk.settle { b with hasp := { b.hasp with pfail := true } }
    else b
  let ready := b.pwr.step == 8
  let s := { s with blk := b }
  let s := if ready then s.shutdownRecord else s
  let b := if ready then s.blk.doTrimSave.flushEvents else s.blk
  let s := State.cutWrites { s with blk := b }
  { s with blk := (s.blk.reduced onlyVault false).onPwr (fun p => { p with v33 := false }) }

/-- A write of PWR_CTL (R524): STBY, SYSRST, or discarded. -/
def State.pwrWrite (s : State) (v : Nat) : State :=
  let b := s.blk
  if b.powered .fabric = false ∨ b.pwr.step ≠ 8 then s
  else if v / 256 % 256 ≠ 0xA5 ∨ v % 4 = 3 then { s with blk := b.raise 0x0124 0 [] }
  else if v % 4 = 1 then
    let idle := (List.range 8).all (fun n => [0, 3, 5].contains (b.pstate n) && [0, 3, 4].contains (b.stpState n))
    if idle = true ∧ b.rd R.MIR_STAT_ROLE ≠ 3 then s.orderly false
    else { s with blk := b.raise 0x0124 0 [] }
  else if v % 4 = 2 then (s.orderly false).systemReset 4 false
  else s

/-- VAULT comes up (R510): its registers take their reset values, the real-time clock starts from 0 once X32 is stable. -/
def Blk.vaultUp (b : Blk) (strap : Nat) : Blk :=
  let b := (b.reduced (fun _ => false) false).resetRegs (fun d => d.dom == .vault)
  let b := (b.setDom .vault true).onPwr (fun p =>
    { p with vault := true, x32strt := strap, auto := true, cause := 1, v33 := false })
  (b.onClk (fun _ => Clk.cold)).flag R.PWR_RSTPIN_LEVEL true

/-- VAULT_POWER_ON (R510): VBAK powers VAULT with VMAIN absent. -/
def Blk.doVaultOn (b : Blk) (strap : Nat) : Blk := if b.pwr.vault then b else b.vaultUp strap

/-- VAULT_LOSS (R510): VBAK goes with VMAIN absent. -/
def Blk.doVaultLoss (b : Blk) : Blk :=
  if b.pwr.vault ∧ b.pwr.vmain = false ∧ b.powered .safe = false then
    let b := ((b.reduced (fun _ => false) false).resetRegs (fun d => d.dom == .vault)).setDom .vault false
    (b.onClk (fun _ => Clk.cold)).onPwr (fun p => { p with vault := false, auto := false, cause := 0 })
  else b

/-- VMAIN_START (R510, R511, R527): VMAIN at or above 17.0 V for 1 ms. X32STRT is not read where VBAK is absent; its
field then holds a free value. -/
def State.doVmainStart (s : State) : State :=
  let b := s.blk
  let b := if b.pwr.vault then b
    else
      let (i, b) := b.free
      b.vaultUp (Config.freeNat i % 4)
  if b.pwr.vmain then s
  else
    let b := b.onPwr (fun p => { p with vmain := true })
    if b.pwr.auto = true ∧ b.pwr.step = 0 ∧ b.pwr.hot = false then
      let s := State.tryStart { s with blk := b.addCause 1 }
      { s with blk := s.blk.reading R.PWR_VMON_VMAIN 1700 65536 }
    else { s with blk := b }

/-- The module's supply monitor works. -/
def Blk.monitored (b : Blk) : Bool := b.powered .safe && b.pwr.vmain

/-- VMAIN_LOW (R511). -/
def Blk.doVmainLow (b : Blk) : Blk :=
  if b.monitored ∧ b.pwr.ride.isNone then
    let b := (b.onPwr (fun p => { p with ride := some 0 })).inc R.PWR_CNT_RIDE
    (b.raise 0x0120 0 []).reading R.PWR_VMON_VMAIN 1200 1600
  else b

/-- VMAIN_RECOVER (R511). -/
def Blk.doVmainRecover (b : Blk) : Blk :=
  if b.monitored ∧ b.pwr.ride.isSome then
    ((b.onPwr (fun p => { p with ride := none })).raise 0x0021 0 []).reading R.PWR_VMON_VMAIN 1700 65536
  else b

/-- RIDE_EXPIRY (R511, R525, R528): ride-through has lasted RIDE ms. -/
def State.doRideExpiry (s : State) : State :=
  let b := s.blk
  match b.pwr.ride with
  | none => s
  | some t =>
    if b.monitored = false ∨ (b.pwr.step = 8 ∧ t + b.period < b.rd R.PWR_CFG_RIDE * cycPerMs) then s
    else
      let s := State.orderly { s with blk := b.inc R.PWR_CNT_PFAIL } true
      { s with blk := (s.blk.addCause 7).onPwr (fun p => { p with vmain := false, auto := true }) }

/-- VMAIN_DROPOUT (R526): the regulators stop. -/
def State.doDropout (s : State) : State :=
  let b := s.blk
  if b.pwr.vmain = false ∧ b.powered .safe = false then s
  else
    let ran := decide (b.pwr.step ≠ 0)
    let s := s.cutWrites
    let was := s.blk.pwr
    let b := (s.blk.reduced onlyVault s.blk.interval).onPwr (fun p =>
      { p with vmain := false, v33 := false, held := was.held, auto := was.auto || ran || was.hot || was.held })
    { s with blk := if ran then b.addCause 2 else b }

/-- VMAIN_HIGH (R511). -/
def Blk.doVmainHigh (b : Blk) : Blk :=
  if b.monitored then (b.raise 0x0125 0 []).reading R.PWR_VMON_VMAIN 3301 65536 else b

/-- VBAK_LOW (R510). -/
def Blk.doVbakLow (b : Blk) : Blk :=
  if b.monitored then (b.raise 0x0123 0 []).reading R.PWR_VMON_VBAK 0 2400 else b

/-- V33OUT_LOW (R558, R579): the record gives the voltage. -/
def Blk.doV33Low (b : Blk) (mv : Nat) : Blk :=
  if b.powered .safe ∧ b.pwr.v33 then (b.onPwr (fun p => { p with v33 := false })).raise 0x0126 0 [Int.ofNat mv] else b

/-- V33OUT_RECOVERED (R558). -/
def Blk.doV33Back (b : Blk) : Blk := if b.powered .safe then b.onPwr (fun p => { p with v33 := true }) else b

/-- The loop-engine pairs of LPA or LPB are lost in one frame (R378); a free spare among them goes first. -/
def Blk.pairsLost (b : Blk) (ks : List Nat) : Blk :=
  let ks := ks.filter (fun k => b.pairState k != 0 && b.pairState k != 4)
  let spare := b.spareFree
  let b := if spare && ks.contains 4 then (b.setPair 4 4).flag R.WARD_SPARE_LP4 false else b
  let ks := ks.filter (fun k => !(spare && k == 4))
  let b := b.eachOf ks (fun k b => ((b.retirePair k false).raise 0x7201 k []).onLe (fun l => { l with lostNow := k :: l.lostNow }))
  let best := ks.foldl (fun m k => match m with
    | none => some k
    | some j => if b.topPrio (b.chansOn j) < b.topPrio (b.chansOn k) then some k else m) none
  let b := match best with
    | some k => if b.spareFree then b.spareTakes (b.chansOn k) false else b
    | none => b
  if b.orphans.isEmpty then b else b.lossNoSpare false

/-- A domain is lost while the module runs (R378, R513). -/
def Blk.domainLost (b : Blk) (d : Dom) : Blk :=
  let b := b.raise 0x0302 0 [Int.ofNat d.bit]
  match d with
  | .vault => b
  | .safe => (b.haspDemand 9).setDom d false
  | .pwm => ((b.haspDemand 9).setDom d false).ownSettle
  | .fabric => (b.haspDemand 9).setDom d false
  | .afe => (b.haspDemand 9).setDom d false
  | .lpa => (b.setDom d false).pairsLost [0, 1, 2]
  | .lpb => (b.setDom d false).pairsLost [4, 3]
  | .feed =>
    let b := b.each 12 (fun p b => if b.rd (R.FBn_CFG_MODE p) = 0 then b else b.portInvalid p)
    (b.each 12 (fun p b => b.onPort p (fun x => { x with cmpRun := false }))).setDom d false
  | .comm => b.commStops.setDom d false
  | .host => b.doPerst.setDom d false
  | .mir => ((b.onMir (fun m => { m with miss := 4, good := 0 })).doHingeSilent).setDom d false
  | .nvs => b.setDom d false

/-- RAIL_OUT_OF_WINDOW (R513). A domain that is off, or VAULT, which no internal rail feeds, is not judged. -/
def State.doRail (s : State) (d : Dom) : State :=
  if s.blk.powered d = false ∨ d = .vault then s
  else
    let b := s.blk.domainLost d
    if d = .nvs then
      let s := State.cutWrites { s with blk := b }
      { s with blk := s.blk.onNvs (fun x => { x with rec_ := none, dma := none, slotOp := none, gap := true }) }
    else { s with blk := b }

/-- The domains with two regulator phases (R21). -/
def twoPhase : Dom → Bool
  | .lpa => true
  | .lpb => true
  | .pwm => true
  | .afe => true
  | .fabric => true
  | _ => false

/-- REGULATOR_PHASE_FAIL (R21, R378): the other phase carries the domain; the second failure loses it. -/
def Blk.doPhase (b : Blk) (d : Dom) : Blk :=
  if b.powered d = false ∨ twoPhase d = false then b
  else
    let f := bitOf R.PWR_DOMSTAT_PHF d.bit
    if b.on f then b.domainLost d
    else
      let b := b.flag f true
      let n := ([2, 3, 4, 5, 6].filter (fun i => !b.on (bitOf R.PWR_DOMSTAT_PHF i))).length
      (b.wr R.WARD_SPARE_REGPH (min n 3)).raise 0x0201 0 [Int.ofNat d.bit]

/-- RST_N_ACCEPTED (R521 to R523, R527, R528): the module is held in reset; shut down by TSHUT it stays so. -/
def State.doRstAccepted (s : State) : State :=
  let b := s.blk
  if b.pwr.vault = false then s
  else
    let b := b.flag R.PWR_RSTPIN_LEVEL false
    if b.rstIgnored ∨ b.pwr.hot ∨ b.pwr.held then { s with blk := b }
    else
      let lost := b.interval
      let s := State.cutWrites { s with blk := b }
      { s with blk := ((s.blk.reduced onlyVault lost).addCause 3).onPwr (fun p => { p with held := true, auto := true }) }

/-- RST_N_RELEASED (R521): a module held in reset starts up from step 2. -/
def State.doRstReleased (s : State) : State :=
  let b := s.blk
  if b.pwr.vault = false then s
  else
    let b := b.flag R.PWR_RSTPIN_LEVEL true
    if b.pwr.held then State.tryStart { s with blk := b.onPwr (fun p => { p with held := false }) } else { s with blk := b }

/-- PIN_STUCK (R522): RST_N still low 2 s after it was accepted; start-up runs with the pin ignored. -/
def State.doPinStuck (s : State) : State :=
  let b := s.blk
  if b.pwr.held ∧ b.on R.PWR_RSTPIN_LEVEL = false then
    State.tryStart { s with blk := (b.addCause 10).onPwr (fun p => { p with held := false }) }
  else s

/-- RST_N_REARM (R522): the pin has been high for 10 ms. -/
def Blk.doRearm (b : Blk) : Blk :=
  if b.rstIgnored then
    let b := ((b.flag R.PWR_RSTPIN_MASK false).flag R.PWR_RSTPIN_LEVEL true).onPwr (fun p =>
      { p with cause := p.cause - Nat.land p.cause 0x400 })
    b.raise 0x0031 0 []
  else b

/-- A module in standby is woken (R523, R527). -/
def State.wake (s : State) (bit : Nat) : State :=
  let b := s.blk
  if b.pwr.vault ∧ b.pwr.step = 0 ∧ b.pwr.held = false ∧ b.pwr.hot = false then
    State.tryStart { s with blk := (b.addCause bit).onPwr (fun p => { p with auto := true }) }
  else s

/-- WAKE_PIN (R527): WAKE_N low for 1 ms with PINEN = 1. -/
def State.doWakePin (s : State) : State := if s.blk.on R.PWR_WAKE_PINEN then s.wake 8 else s

/-- RTC_ALARM (R527): PWR_RTC reaches PWR_ALARM; the seconds of a standby pass in this command. -/
def State.doRtcAlarm (s : State) : State :=
  let b := s.blk
  let a := b.rd R.PWR_ALARM_SEC
  let rtc := b.rd R.PWR_RTC_SEC
  if b.on R.PWR_WAKE_RTCEN ∧ a ≠ 0 ∧ b.pwr.step = 0 ∧ (a ≤ rtc ∨ b.clk.rtcRun = true) then
    State.wake { s with blk := if rtc < a then b.wr R.PWR_RTC_SEC a else b } 9
  else s

/-- TSHUT (R315): a demand on every output or loss, event 0x8348, every domain but VAULT and SAFE removed. -/
def State.doTshut (s : State) : State :=
  let b := s.blk
  if b.powered .safe = false ∨ b.pwr.hot then s
  else
    let lost := b.interval
    let b := if b.standbyReady then b.loss 5 else Blk.settle { b with hasp := { b.hasp with tshut := true } }
    let b := (b.raise 0x8348 0 []).flushEvents
    let s := State.cutWrites { s with blk := b }
    let b := s.blk.reduced (fun d => d == .vault || d == .safe) lost
    let b := ((b.setDom .vault true).setDom .safe true).onPwr (fun p => { p with hot := true })
    { s with blk := { b with hasp := { b.hasp with tshut := true } } }

/-- TSHUT_RECOVER (R315): start-up runs as after a system reset. -/
def State.doTshutOver (s : State) : State := if s.blk.pwr.hot then s.systemReset 5 false else s

end Sys2Proof.Machine
end

