-- ==== Sys2Proof/Machine/Startup.lean ====
section
/-! DEFINITION. The steps of start-up (R514 to R519, R341, R491, R213, R381, R384). -/

namespace Sys2Proof.Machine

/-- The slot that Hasp chooses: the candidate with the higher GEN, A of two equal ones (R516). -/
def chooseSlot (m : List Host.Cell) : Option Nat :=
  match candidate m 0, candidate m 1 with
  | true, true => some (if slotGen m 0 < slotGen m 1 then 1 else 0)
  | true, false => some 0
  | false, true => some 1
  | false, false => none

/-- Hasp's self-test or parameter check has failed (R320, R341). -/
def Blk.haspFailed (b : Blk) : Blk := (b.wr R.HASP_STAT_HSTATE 4).raise 0x9308 0 []

/-- A word as register d holds it: the reserved bits read 0 (R13). -/
def RegDesc.kept (d : RegDesc) (v : Word) : Word := BitVec.ofNat 32 (Nat.land v.toNat d.known)

/-- The words of a list that an image can set (reset source NVS) at offsets that `p` admits. -/
def Blk.loadWords (b : Blk) (p : Nat → Bool) (l : List (Nat × Word)) : Blk :=
  l.foldl (fun b x =>
    if p x.1 = true then
      match findReg x.1 with
      | some d => if d.src = .nvs then b.setWord x.1 (d.kept x.2) else b
      | none => b
    else b) b

/-- An offset of the safety parameter set: the HASP and SLL blocks (R320, R346). -/
def isSafety (a : Nat) : Bool := decide (0x10000 ≤ a) && decide (a < 0x12000)

/-- The session table of the parameter set passes the check of R346; a session on UDP needs an enabled Lode port (log
entry 155). -/
def Blk.sessionsOk (b : Blk) : Bool :=
  let ss := (List.range 64).filter (fun s => decide (1 ≤ s) && b.on (R.SLL_SESs_CFG_EN s))
  let cid := fun s => b.rd (R.SLL_SESs_CID_CID s)
  let trans := fun s => b.rd (R.SLL_SESs_CFG_TRANS s)
  let tx := fun s => b.on (R.SLL_SESs_CFG_DIR s)
  let sameCan := fun s t => trans s == 1 && trans t == 1 && !tx s && !tx t &&
    b.rd (R.SLL_SESs_CFG_CANK s) == b.rd (R.SLL_SESs_CFG_CANK t) &&
    b.on (R.SLL_SESs_CFG_XID s) == b.on (R.SLL_SESs_CFG_XID t) &&
    b.sesId s == b.sesId t
  let one := fun s =>
    cid s != 0 && cid s != b.rd R.SLL_MCID_MCID && b.rd (R.SLL_SESs_WD_WD s) != 0 &&
    decide (b.rd (R.SLL_SESs_CFG_LEN s) ≤ 48) && b.rd (R.SLL_SESs_CFG_MAXGAP s) != 0 &&
    b.rd (R.SLL_SESs_CFG_RESYNC s) != 0 &&
    ss.all (fun t => t == s || (cid t != cid s && !sameCan s t)) &&
    (trans s != 1 || b.on (R.CANn_CFG_EN (b.rd (R.SLL_SESs_CFG_CANK s)))) &&
    (trans s != 0 || (List.range 2).any (fun p => b.on (R.LODE_Pk_CFG_EN p))) &&
    !(tx s && b.on (R.SLL_SESs_CFG_STATUS s) && decide (b.rd (R.SLL_SESs_CFG_LEN s) < 8))
  ss.all one && decide ((ss.filter (fun s => trans s == 2)).length ≤ 16) &&
    (List.range 4).all (fun k => (List.range 64).all (fun s => !b.slMapped s k || (ss.contains s && !tx s)))

/-- The safety parameter set: HASP and SLL configuration, and the safe bytes of the sessions behind them (log entry 36). -/
def Blk.loadSafety (b : Blk) (l : List (Nat × Word)) : Blk :=
  let b := b.loadWords isSafety l
  let byte := fun (s i : Nat) =>
    match l.find? (fun x => x.1 == 0x20000 + 64 * s + 4 * (i / 4)) with
    | some x => BitVec.ofNat 8 (x.2.toNat / 2 ^ (8 * (i % 4)))
    | none => 0
  b.onSll (fun x => { x with safe := (List.range 64).map (fun s => (List.range 48).map (fun i => byte s i)) })

/-- What the self-test of output k found (R328, R341). -/
def Blk.stoTested (b : Blk) (k : Nat) (t : StoSelfTest) : Blk :=
  if b.on (R.HASP_STOCFG_EN k) = false then b
  else match t with
    | .pass => b
    | .openFault => b.stoOpenFault k
    | .lowStuck => b.stoStuck k (R.HASP_STOSTAT_LSF k)
    | .highStuck => b.stoStuck k (R.HASP_STOSTAT_HSF k)

/-- The levels of safe input i at the end of the self-test (R330). -/
def Blk.sdiFirst (b : Blk) (i : Nat) (x : Bool × Bool) : Blk :=
  if b.on (R.HASP_SDICFG_EN i) = false then b
  else
    let b := b.sdiLevels i x.1 x.2
    if b.on (R.HASP_SDICFG_RSTIN i) ∨ b.sdiHealthy i x.1 x.2 = true then b
    else (b.flag (sdiDem i) true).onHasp (fun h => { h with sdiBoth := h.sdiBoth.set i (b.sdiAway i x.1 x.2) })

/-- The journal replayed in step 2 (R533): entries whose CRC fails are discarded, one event each. -/
def Blk.journalReplayed (b : Blk) (jbad : Nat) : Blk :=
  (List.range jbad).foldl (fun b _ => (b.inc R.STR_CNT_JDISC).raise 0xF103 0 []) b

/-- HASP_SELF_TEST_DONE (R341, R516, R320): step 2 ends. -/
def State.doSelfTest (s : State) (coresOk : Bool) (outs : List StoSelfTest) (safety : List (Nat × Word))
    (sdi : List (Bool × Bool)) (jbad corr : Nat) : State :=
  let b := s.blk
  if b.pwr.step ≠ 1 then s
  else
    let b := (b.journalReplayed jbad).eccNote corr
    let b := (b.flag R.PWR_BOOT_FALLBK b.pwr.second).showSlots s.mem
    let b := match chooseSlot s.mem with
      | some k =>
        let b := (b.wr R.PWR_BOOT_SLOT k).wr R.HASP_PCRC_CRC (memLe s.mem (slotAt k + 20) 4)
        let b := (b.loadSafety safety).wr R.HASP_STAT_HSTATE 1
        if coresOk ∧ (b.loadWords (fun _ => true) safety).sessionsOk then b else b.haspFailed
      | none => (b.onPwr (fun p => { p with noImg := true })).haspFailed
    let b := b.each 8 (fun i b => b.sdiFirst i (sdi.getD i (true, false)))
    let b := b.each 4 (fun k b => b.stoTested k (outs.getD k .pass))
    { s with blk := ((b.onPwr (fun p => { p with step := 2 })).showStep 2).settle }

/-- XO_DELAY_END (R490, R491, R514): XO judged, the PLLs lock; the strap read waits for V33OUT (R558). -/
def Blk.doXoDelay (b : Blk) (pass : Bool) (strap : Nat) : Blk :=
  if b.pwr.step ≠ 2 ∨ b.pwr.v33 = false then b
  else
    let b := b.onPwr (fun p => { p with step := 3, xoPass := pass, xstrt := strap })
    let b := (b.showStep 4).wr R.CLK_STAT_REFSEL (if pass then 0 else 2)
    ((b.flag R.CLK_STAT_LOCKS true).flag R.CLK_STAT_LOCKP true).flag R.CLK_STAT_LOCKN true

/-- FABRIC_UP (R514, R491, R500 to R502, R505): Flint-B counted and judged. -/
def Blk.doFabricUp (b : Blk) (flintb : Bool) : Blk :=
  if b.pwr.step ≠ 3 then b
  else
    let b := (b.setDom .fabric true).onPwr (fun p => { p with step := 5 })
    let b := (b.showStep 5).onAfe (fun a => { a with tabF := a.savF, tabS := a.savS })
    let b := ((b.wr R.CLK_STRAP_XSTRT b.pwr.xstrt).wr R.CLK_STRAP_X32STRT b.pwr.x32strt).flag R.CLK_STAT_FBOK flintb
    let b := (b.flag R.CLK_STAT_X32OK b.clk.rtcRun).flag R.CLK_STAT_XOOK b.pwr.xoPass
    let b := if b.clk.x32Late then
        ((b.onClk (fun c => { c with x32Late := false })).flag R.CLK_STAT_RTCSRC true).raise 0x0112 0 []
      else b
    if b.pwr.xoPass = false then if flintb then b.toFlintB 3 false else b.toFlintA false
    else if b.clk.xoWait then
      let b := b.onClk (fun c => { c with xoWait := false })
      let b := (b.flag R.CLK_STAT_XOOK false).inc R.CLK_CNT_XOF
      if flintb then b.toFlintB 1 true else b.toFlintA true
    else if flintb then b
    else ((b.onClk (fun c => { c with fbLost := true })).flag R.WARD_SPARE_XO false).raise 0x0216 0 []

/-- A channel's program and coefficients from the image. -/
def Blk.loadChanImg (b : Blk) (img : Image) (c : Nat) : Blk :=
  let p := ((img.progs.find? (fun x => x.1.val == c)).map (·.2)).getD default
  let k := ((img.coefs.find? (fun x => x.1.val == c)).map (·.2)).getD []
  b.onChan c (fun ch => { ch with prog := p, coefs := k, rt := coldRt p, applied := List.replicate p.outs.length 0 })

/-- The contents of an image loaded (R514 step 6, R519): registers with reset source NVS outside the safety parameter set,
programs, tables, plans, the pair of each configured channel. -/
def Blk.loadImage (b : Blk) (img : Image) : Blk :=
  let b := b.loadWords (fun a => !isSafety a) img.regs
  let b := b.each 16 (fun c b => b.loadChanImg img c)
  let b := img.tables.foldl (fun b x => b.onStp x.1.val (fun s => { s with table := x.2 })) b
  let b := b.onLe (fun l =>
    { l with tuned := img.tuned.map (fun (x : Fin 5 × Nat × Nat) => (x.1.val, x.2)), plans := img.plans.map (fun (p : Plan) => (p, false)) })
  b.each 16 (fun c b =>
    if b.configured c then
      match img.pairOf.find? (fun x => x.1.val == c) with
      | some x => b.setMap c x.2.val
      | none => b
    else b)

/-- The pairs as a start-up finds them in powered domains: LP4 the spare, the others idle (R209). -/
def Blk.pairsUp (b : Blk) : Blk :=
  b.each 5 (fun k b => b.setPair k (if b.powered (if k < 3 then .lpa else .lpb) = false then 0 else if k = 4 then 2 else 5))

/-- Every domain powered: what a configuration is judged against before the domains come up. -/
def Blk.allOn (b : Blk) : Blk := b.wr R.PWR_DOMSTAT_ON 0xFFF

/-- The configuration of an image passes RANGE, PROGRAM and ADMIT (R517); HINGE is judged once PAIR_ID is read. -/
def Blk.imagePasses (b : Blk) (img : Image) : Bool :=
  let c := (b.allOn.loadImage img).pairsUp
  (c.validate c []).isNone

/-- A slot is marked bad and the module resets with cause KEYSTONE (R517, R528). -/
def State.keystone (s : State) : State :=
  let k := s.blk.rd R.PWR_BOOT_SLOT
  State.systemReset { s with mem := memPut s.mem (slotAt k + 60) 2, blk := s.blk.raise 0x0240 0 [Int.ofNat k] } 6 false

/-- IMAGE_VERIFY_DONE (R517, R518): `crcOk` is false where a line of the image could not be corrected (R532). -/
def State.doVerify (s : State) (crcOk : Bool) (img : Image) : State :=
  let b := s.blk
  let k := b.rd R.PWR_BOOT_SLOT
  if b.pwr.step ≠ 5 then s
  else if b.pwr.noImg then
    { s with blk := (((b.flag R.PWR_BOOT_NOIMG true).raise 0x0341 0 []).onPwr (fun p => { p with step := 6 })).showStep 6 }
  else if crcOk = true ∧ imgOk s.mem k = true ∧ b.imagePasses img = true then
    let b := (b.wr R.PWR_GEN_GEN (slotGen s.mem k)).onPwr (fun p => { p with step := 6, img := some img })
    { s with blk := b.showStep 6 }
  else State.keystone { s with blk := if crcOk then b else b.inc R.NVS_ECC_UNCORR }

/-- The domains that come up in step 7 (R20, R512, R518). -/
def Blk.domainsOn (b : Blk) : Blk :=
  let d := b.rd R.PWR_CFG_DOMON
  if b.pwr.noImg then b.setDom .host true
  else
    let up := fun (x : Dom) => b.needs x || (decide (3 ≤ x.bit) && decide (x.bit ≤ 8) && bitAt d (x.bit - 3))
    [Dom.lpa, .lpb, .pwm, .afe, .feed, .comm, .host, .mir].foldl (fun b x => b.setDom x (up x)) b

/-- The levels of the pins that a domain finds when it comes up (operands of DOMAINS_UP, log entry 3). -/
def Blk.loadPins (b : Blk) (pins : List Bool) : Blk :=
  let pin := fun i => pins.getD i false
  let b := b.each 8 (fun n b => b.each 3 (fun l b =>
    (b.flag (bitOf (R.Dn_STAT_GRDY n) l) (pin (3 * n + l)))))
  let b := if pin 24 then b.onThm (fun t => { t with ovrd := some true }) else b
  let b := b.flag R.MIR_STAT_OWNIN (b.powered .mir && pin 25)
  b.each 12 (fun p b => b.onPort p (fun x => { x with a := pin (26 + 3 * p), b := pin (27 + 3 * p), z := pin (28 + 3 * p) }))

/-- The front end as it comes up: forty live lanes, two shadow groups, two converters in service (R147, R152); the groups
start at SD0 and SD20, as R147 names no first input (DESIGN CHOICE, log entry 167); the offset corrections as Bedrock kept
them, each estimate where its correction stands (R146). -/
def Blk.afeUp (b : Blk) : Blk :=
  if b.powered .afe = false then b
  else
    let o := fun i => b.afe.savO.getD i 0
    let b := b.onAfe (fun a =>
      { a with groups := [⟨40, 41, 0, 0⟩, ⟨42, 43, 20, 0⟩], reserve := [], service := [0, 1]
               est := (List.range 40).map (fun i => 4096 * (if i < 24 then (if i % 3 = 2 then 0 else o (i / 3 * 2 + i % 3)) else o (i - 8)))
               pvEst := (List.range 24).map (fun i => 4096 * o (32 + i))
               pvCor := (List.range 24).map (fun i => o (32 + i)) })
    let b := b.each 40 (fun i b => (b.wr (R.AFE_LMAP_LANE i) i).flag (R.AFE_LMAP_VALID i) true)
    let b := b.each 8 (fun n b => (b.wrS (R.AFE_IOFS_IA n) (o (2 * n))).wrS (R.AFE_IOFS_IB n) (o (2 * n + 1)))
    let b := b.each 8 (fun n b => (b.wrS (R.AFE_SIOFS_WA n) (o (16 + 2 * n))).wrS (R.AFE_SIOFS_WB n) (o (17 + 2 * n)))
    let b := (b.wr R.AFE_TBIN_FBINS (filled b.afe.tabF)).wr R.AFE_TBIN_SBINS (filled b.afe.tabS)
    b.showLanes

/-- The consequences of the first configuration (R519), where a commit's `configured'` gives those of a later one; `old`
is the state with nothing configured. -/
def Blk.imageTaken (b old : Blk) : Blk :=
  let b := b.placeAll
  let b := b.each 8 (fun n b => if b.configured n then (b.forceValley b n).thmInit n else b)
  let b := b.portsCommitted old
  let b := b.each 4 (fun k b => b.canCommitted old k)
  let b := b.each 2 (fun p b => b.lodeCommitted old p)
  (b.openSessions b.sll.safe).stoFollow

/-- A pair that failed its self-test (R213). -/
def Blk.pairFailed (b : Blk) (k : Nat) : Blk :=
  if b.pairState k = 0 ∨ b.pairState k = 4 then b
  else
    let b := b.raise 0x7203 k []
    if (b.chansOn k).isEmpty then
      let b := b.setPair k 4
      if k = 4 then b.flag R.WARD_SPARE_LP4 false else b
    else b.pairLost k false

/-- DOMAINS_UP (R514 step 7, R381, R213, R387): the remaining domains up and loaded. -/
def State.doDomainsUp (s : State) (failed : List Nat) (strap : Nat) (pins : List Bool) : State :=
  let b := s.blk
  if b.pwr.step ≠ 6 ∨ b.pwr.v33 = false then s
  else
    let b := if strap = 3 then b.raise 0xC107 0 [] else b
    let b := b.wr R.MIR_STAT_PID (if strap = 3 ∨ b.pwr.noImg = true then 0 else strap)
    let old := b
    let b := match b.pwr.img with
      | some i => b.loadImage i
      | none => b
    if b.hingeFits = false then State.keystone { s with blk := b }
    else
      let b := b.domainsOn.pairsUp
      let b := ((b.loadPins pins).afeUp).imageTaken old
      let k := b.rd R.PWR_BOOT_SLOT
      let b := if b.powered .mir then b.wr (R.MIR_CFGCRC_CRC 0) (memLe s.mem (slotAt k + 24) 4) else b
      let b := b.eachOf (([4, 0, 1, 2, 3]).filter (fun k => failed.contains k)) (fun k b => b.pairFailed k)
      let b := (b.onPwr (fun p => { p with step := 7, img := none })).showStep 7
      { s with blk := b.ownSettle.settle }

/-- Ownership at Ready in a pair (R384): `after` tells that both lines are found asserted 2 µs later. Module B then gives
way; module A keeps its line, is ACTIVE once B's is gone, and shows SYNCING until then (DESIGN CHOICE, log entry 178). -/
def Blk.readyOwn (b : Blk) (after : Bool) : Blk :=
  let pid := b.rd R.MIR_STAT_PID
  if pid = 0 then b.setRole 0
  else if b.on R.MIR_STAT_OWNIN then b.setRole 1
  else if after then ((b.flag R.MIR_STAT_OWNIN true).flag R.MIR_STAT_OWNOUT (pid == 1)).setRole 1
  else (((b.flag R.MIR_STAT_OWNOUT true).setRole 3).raise 0xC003 0 []).ntcHold

/-- READY (R519, R384, R405, R522): the first tick opens frame 0. -/
def Blk.doReady (b : Blk) (t : Nat) (after : Bool) : Blk :=
  if b.pwr.step ≠ 7 then b
  else
    let b := (((b.setFn 0).wrSat R.PWR_START_T t).readyOwn after).sllSend (fun _ => true)
    let b := b.raise 0x0004 0 [Int.ofNat t, Int.ofNat (b.rd R.PWR_RSTCAUSE_W), Int.ofNat (b.rd R.PWR_BOOT_SLOT)]
    let b := if b.on R.PWR_RSTCAUSE_PINMASK then
        ((b.inc R.PWR_RSTPIN_STUCKCNT).flag R.PWR_RSTPIN_MASK (bitAt b.pwr.cause 10)).raise 0x0130 0 []
      else b
    let b := (b.onPwr (fun p => { p with step := 8, cause := p.cause - Nat.land p.cause 0x400 })).showStep 8
    let b := if b.on R.HIF_CFG_HOSTLESS then b.each 8 (fun n b => b.hostlessBridge n) else b
    let rtc := b.rd R.PWR_RTC_SEC
    let own := b.isOwner
    (b.onNvs (fun x => { x with rtcStart := rtc, ownWas := own, ownAll := own })).ownSettle.settle

end Sys2Proof.Machine
end

