-- ==== Sys2Proof/Machine/RegAccess.lean ====
section
/-! DEFINITION. Accesses to BAR0 (R9 to R13): writes by access type, the registers whose write acts, latching reads; and
Lode's telemetry datagrams (R486). -/

namespace Sys2Proof.Machine

/-- The host reaches the registers: the HOST domain is up and the link is not held in reset (R404, R520). -/
def Blk.hostUp (b : Blk) : Bool := b.powered .host && !b.pwr.perst

/-- A write by the access types of its register's fields (R11): RW bits take the value, W1C bits clear where it is 1.
Where the clear falls together with a set, the sender queues the clear first (R12, log entry 130). -/
def writeBits (d : RegDesc) (old v : Nat) : Nat :=
  let kept := Nat.lor (old - Nat.land old d.rw) (Nat.land v d.rw)
  kept - Nat.land kept (Nat.land v d.w1c)

/-- A register holds RWL fields and nothing that a direct write may change: the write is discarded (R11). -/
def RegDesc.locked (d : RegDesc) : Bool := d.rwl != 0 && d.rw == 0 && d.wo == 0 && d.w1c == 0

/-- The unit of an indexed register at an offset, from the offset of its unit 0 and its stride. -/
def unitOf (off base stride : Nat) : Nat := (off - base) / stride

/-- A vector that is pending and has just been unmasked is signalled (log entry 37). -/
def Blk.unmask (b : Blk) (v : Nat) : Blk :=
  if b.on (bitOf R.MSIX_PBA_PEND v) ∧ b.on (R.MSIX_CTL_MASK v) = false then
    (b.flag (bitOf R.MSIX_PBA_PEND v) false).send (.msix v)
  else b

/-- A write that goes by the access types alone (R11), with what follows it: SLL_WINDAT follows SLL_WINSEL (R357), ring
base and size are held while the ring is enabled (R409), an unmasked vector is signalled. -/
def Blk.writePlain (b : Blk) (d : RegDesc) (off v : Nat) : Blk :=
  let w := b.setWord off (BitVec.ofNat 32 (writeBits d (b.word off).toNat v))
  if d.base = (R.RING_BASE_LO_W 0).off ∨ d.base = (R.RING_BASE_HI_W 0).off then
    if b.on (R.RING_CTL_EN (unitOf off 0x4100 0x20)) then b else w
  else if d.base = (R.SLL_WINSEL_W).off then w.showWindow
  else if d.base = (R.MSIX_CTL_MASK 0).off then w.unmask (unitOf off 0x3F000 0x10)
  else w

/-- A full-width write to register d (R11). The registers with a behaviour of their own act as their rows say. -/
def State.writeReg (s : State) (d : RegDesc) (off v : Nat) : State :=
  let b := s.blk
  let on := fun (b : Blk) => { s with blk := b }
  if 0x10000 ≤ off ∧ off < 0x11000 then on (b.raise 0x9106 0 [Int.ofNat off])
  else if d.locked then on (b.raise 0x2102 0 [Int.ofNat off])
  else if b.powered d.dom = false then s
  else if d.base = (R.RING_CTL_W 0).off then on (b.ringCtl (unitOf off 0x4100 0x20) v)
  else if d.base = (R.CLK_CTL_W).off then if bitAt v 0 then on (b.doXoReturn (decide (10000 * cycPerMs ≤ b.clk.xoAge))) else s
  else if d.base = (R.PWR_CTL_W).off then s.pwrWrite v
  else if d.base = (R.CANn_CTL_W 0).off then if bitAt v 0 then on (b.doCanRecover (unitOf off 0x14000 0x800)) else s
  else if d.base = (R.CANn_RXF_W 0 0).off then
    on (b.doCanAck (unitOf off 0x14000 0x800) ((off - 0x14040) % 0x800 / 4) (v / 2 ^ 24 % 256))
  else if d.base = (R.LODE_MDIO_W).off then on (b.doMdioGo (BitVec.ofNat 32 v))
  else if d.base = (R.STR_CTL_W).off then if bitAt v 0 then on b.doSnap else s
  else if d.base = (R.NVS_CTL_W).off then if bitAt v 31 then s.dmaGo (bitAt v 0) [] 0 else s
  else if d.base = (R.NVS_SLOT_W).off then s.slotWrite v
  else on (b.writePlain d off v)

/-- REGISTER_WRITE (R9, R11, R13): `width` in bytes; a write with another width or alignment is discarded and counted. Every
offset of the HASP block discards the write with its event, assigned or not (R320). -/
def State.registerWrite (s : State) (off width : Nat) (v : Word) : State :=
  let b := s.blk
  if b.hostUp = false then s
  else if width ≠ 4 ∨ off % 4 ≠ 0 then { s with blk := b.inc R.HIF_ERRCNT_WIDTH }
  else if 0x40000 ≤ off then s
  else match findReg off with
    | some d => s.writeReg d off v.toNat
    | none => if 0x10000 ≤ off ∧ off < 0x11000 then { s with blk := b.raise 0x9106 0 [Int.ofNat off] } else s

/-- The latching low words of R10: their place among the latches and the field of the high word. -/
def latchOf (off : Nat) : Option (Nat × Dom × Fld) :=
  if off = R.TICK_FRAME_NO_LO_W.off then some (0, .fabric, R.TICK_FRAME_NO_HI_W)
  else if off = R.SYS_UID_LO_W.off then some (1, .fabric, R.SYS_UID_HI_W)
  else if off = R.AFE_LRET_LO_W.off then some (2, .afe, R.AFE_LRET_HI_W)
  else if off = R.AFE_STUCK_LO_W.off then some (3, .afe, R.AFE_STUCK_HI_W)
  else if off = R.LODE_PTPNS_LO_W.off then some (4, .comm, R.LODE_PTPNS_HI_W)
  else none

/-- LATCHING_LOW_WORD_READ (R10): the high word is latched. -/
def Blk.latchRead (b : Blk) (off : Nat) : Blk :=
  match latchOf off with
  | some (i, d, f) => if b.hostUp ∧ b.powered d then { b with latch := b.latch.set i (some (b.word f.off)) } else b
  | none => b

/-- What a data register behind a pointer reads as (R260, R454, R478): the table or list in force at the pointer; TXN_PDAT
reads 0. -/
def Blk.ptrWord (b : Blk) (p : PtrReg) : Nat :=
  let ptr := b.rd p.sel.1
  match p with
  | .tab n =>
    let t := (b.stp n).table
    unsigned 16 (t.getD (2 * (ptr % 128)) 0) + 2 ^ 16 * unsigned 16 (t.getD (2 * (ptr % 128) + 1) 0)
  | .flt k =>
    let c := b.cans.getD k default
    match fltPlace ptr with
    | some (true, i) => c.ext.getD i 0
    | some (false, i) => c.std.getD i 0
    | none => 0
  | .gcl p => (b.lodePort p).list.getD (ptr % 64) 0
  | .pdat => 0

/-- What a read of a word returns to the host (R10, R11): a latched high word, the list behind a pointer, 0 for the WO
bits. -/
def Blk.readWord (b : Blk) (off : Nat) : Word :=
  match [(0, R.TICK_FRAME_NO_HI_W), (1, R.SYS_UID_HI_W), (2, R.AFE_LRET_HI_W), (3, R.AFE_STUCK_HI_W),
      (4, R.LODE_PTPNS_HI_W)].find? (fun x => x.2.off == off) with
  | some x => (b.latch.getD x.1 none).getD (resetWord off)
  | none => match ptrReg off with
    | some p => BitVec.ofNat 32 (b.ptrWord p)
    | none => match findReg off with
      | some d => BitVec.ofNat 32 ((b.word off).toNat - Nat.land (b.word off).toNat d.wo)
      | none => 0

/-- One record of a telemetry datagram (R486): the phase bit is 0; the records of the datagrams have a SEQ of their own
(log entry 48). -/
def Blk.datagramRecord (b : Blk) (c : Nat) : List Byte × Blk :=
  let ty := if c < 8 then 0x01 else 0x02
  let (seq, b) := b.takeSeq ty (256 + c)
  (telBytes ty 0 seq b.fn c (b.rd R.LODE_TELCFG_TDIV) 0 (if c < 8 then b.drivePayload c else b.stepperPayload (c - 8)), b)

/-- LODE_TELEMETRY_SEND (R486). -/
def Blk.doLodeTelemetry (b : Blk) : Blk :=
  let mask := b.rd R.LODE_TELCFG_MASK
  if b.lodeOn ∧ b.on R.LODE_CFG_TELEN ∧ b.isOwner ∧ b.fn % (b.rd R.LODE_TELCFG_TDIV + 1) = 0 ∧ mask ≠ 0 then
    let chs := (List.range 16).filter (fun c => bitAt mask c)
    let r : List Byte × Blk := chs.foldl (fun (r : List Byte × Blk) c =>
      let x := r.2.datagramRecord c
      (r.1 ++ x.1, x.2)) ([], b)
    r.2.sendUdp (b.rd R.LODE_TELADDR_ADDR) (b.rd R.LODE_TELPORT_PORT) (b.rd R.LODE_TELPORT_VID) (b.rd R.LODE_TELPORT_PCP) r.1
  else b

/-- PERST (R404): PERST_N asserted, or the link down for 1 ms. -/
def Blk.perstRow (b : Blk) : Blk :=
  let b := b.doPerst
  ((b.onPwr (fun p => { p with perst := true })).wr R.HIF_STAT_SPEED 0).wr R.HIF_STAT_WIDTH 0

/-- PERST_N_DEASSERT (R403, R520): the link trains; Gen 1 to 3, one or two lanes. -/
def Blk.linkTrains (b : Blk) (gen width : Nat) : Blk :=
  if b.powered .host = false ∨ gen = 0 ∨ width = 0 ∨ 2 < width then b.onPwr (fun p => { p with perst := false })
  else ((b.onPwr (fun p => { p with perst := false })).wr R.HIF_STAT_SPEED gen).wr R.HIF_STAT_WIDTH width

end Sys2Proof.Machine
end

