-- ==== Sys2Proof/Machine/Frame.lean ====
section
/-! DEFINITION. FRAME_TICK (R42 to R48): the host commands that are due, the commits and the changes that the module
decides itself, in the order of R43; and the counters that run with the frames. -/

namespace Sys2Proof.Machine

/-- The effect of a host command at its tick (R417). Rows that no descriptor carries have none here. -/
def Blk.hostCmd (b : Blk) (i : Instr) : Blk :=
  match i with
  | .start h n => b.doStart h n.val
  | .drvStop h n m => b.doDrvStop h n.val m.toNat
  | .setSpeed h n v => b.doSetSpeed h n.val v.toInt
  | .setTorque h n v => b.doSetTorque h n.val v.toInt
  | .coefWrite h c i v => b.doCoefWrite h c.val i.toNat v.toNat
  | .leverSelect h n s => b.doLeverSelect h n.val s.toNat
  | .bridgeResume h n => b.doBridgeResume h (n.map (fun x => x.val))
  | .nop h => b.ok h 0x00
  | .brkClear h n => b.doBrkClear h n.val
  | .sllTxdata h s r o c d => b.doTxData h s.val r o.toNat c.toNat d
  | .supClear h n => b.doSupClear h n.val
  | .injStart h k => b.doInjStart h k.val
  | .injStop h k => b.doInjStop h k.val
  | .capStart h k => b.doCapStart h k.val
  | .capStop h k => b.doCapStop h k.val
  | .energize h n => b.doEnergize h n.val
  | .deenergize h n => b.doDeenergize h n.val
  | .move h a k bl t v ac d => b.doMove h a.val k.toNat bl t.toNat v.toNat ac.toNat d.toNat
  | .axisStop h a => b.doAxisStop h a.val
  | .resume h a => b.doResume h a.val
  | .moveFlush h a => b.doFlush h a.val
  | .home h a => b.doHome h a.val
  | .pairHandover h => b.doPairHandover h
  | .txnBegin h => b.doTxnBegin h
  | .txnWrite h o v => b.doTxnWrite h o.toNat v.toNat
  | .txnCommit h => b.doTxnCommit h
  | .txnRollback h => b.doTxnRollback h
  | .canTx h k bf f dl id d => b.doCanTx h k.val bf.toNat f.toNat dl.toNat id.toNat d
  | .canStage h k bf o c d => b.doCanStage h k.val bf.toNat o.toNat c.toNat d
  | .canCancel h k bf w => b.doCanCancel h k.val bf.toNat w
  | .canSleep h k => b.doCanSleep h k.val
  | .canWake h k => b.doCanWake h k.val
  | _ => b

/-- A later command touches the word or undoes the state that an earlier one of the same tick set (R43, R44, R255). -/
def Blk.overrides (b : Blk) (later earlier : Instr) : Bool :=
  match later, earlier with
  | .setSpeed _ n _, .setSpeed _ m _ => (b.speedTargets n.val).any (fun x => (b.speedTargets m.val).contains x)
  | .setTorque _ n _, .setTorque _ m _ => n == m
  | .leverSelect _ n _, .leverSelect _ m _ => n == m
  | .coefWrite _ c i _, .coefWrite _ d j _ => c == d && i == j
  | .drvStop _ n _, .start _ m => n == m
  | .deenergize _ n, .energize _ m => n == m
  | .moveFlush _ a, .move _ c _ _ _ _ _ _ => a == c
  | .axisStop _ a, .resume _ c => a == c
  | .injStop _ k, .injStart _ j => k == j
  | .capStop _ k, .capStart _ j => k == j
  | _, _ => false

/-- The completion that a command has been given at this tick. -/
def Blk.decided (b : Blk) (i : Instr) : Option Nat :=
  match overridable i with
  | some (r, t, o) =>
    (((b.host.slots.getD r []).reverse.find? (fun s => s.tag == t && s.op == o && s.res.isSome)).bind (·.res)).map (·.1)
  | none => none

/-- A host command at its tick, after those of `before`: what it overrides completes as SUPERSEDED unless it is itself
turned away; a muted command leaves no completion (R404). -/
def Blk.applyWaiting (b : Blk) (before : List Instr) (w : Waiting) : Blk :=
  let hit := before.filter (fun e => b.overrides w.cmd e)
  let b1 := (hit.foldl (fun b e => b.supersede e) b).hostCmd w.cmd
  let r := if hit.isEmpty then b1
    else match b1.decided w.cmd with
      | some st => if st = 0 ∨ st = 8 then b1 else b.hostCmd w.cmd
      | none => b1
  if w.mute then r.onHost (fun x => { x with slots := b.host.slots }) else r

/-- The host commands at a tick (step 1 of R43): ring 0 first, and within a ring in ring order. -/
def Blk.hostTick (b : Blk) : Blk :=
  let l := b.host.wait.map (fun (w : Waiting) => { w with ticks := w.ticks - 1 })
  let due := (List.range 4).flatMap (fun r => l.filter (fun w => w.ring == r && w.ticks == 0))
  let b := b.onHost (fun x => { x with wait := l.filter (fun w => w.ticks != 0), atTick := [] })
  due.foldl (fun b w =>
    (b.applyWaiting b.host.atTick w).onHost (fun x => { x with atTick := x.atTick ++ [w.cmd] })) b

/-- A drive's part of a tick: what it decided itself takes effect, its ramp, its start sequence, its link. -/
def Blk.driveTick (b : Blk) (n : Nat) : Blk :=
  if b.configured n then
    let b := ((b.linkTick n).verdictTick n).leverDwell n
    let b := if b.hasRamp n then b else b.rampTick n (b.drv n).ref
    let d := b.drv n
    let b := if d.rampStop ∧ d.ramp = 0 ∧ b.sensorless n = false ∧ b.sstate n = 6 then b.stopReq n else b
    let b := b.thresholds n
    match b.shadowOf n with
    | some x => b.shadowStart n x
    | none => b.startTick n
  else b

/-- A stepper's part of a tick, its axis included. -/
def Blk.stepperTick (b : Blk) (n : Nat) : Blk :=
  if b.on (R.Sn_CFG_EN n) then
    let b := b.stpTick n
    (b.when (b.blockGood 0) (fun b => b.advanceAxis (8 + n))).stpMoved n
  else b

/-- The changes that the module decides itself at a tick (step 3 of R43) and the units that advance with it. -/
def Blk.ownTick (b : Blk) : Blk :=
  let b := b.wardTick.leverTick
  let b := b.each 8 (fun n b => b.driveTick n)
  let b := b.when (b.blockGood 0) (fun b => b.each 8 (fun a b => b.advanceAxis a))
  let b := b.each 8 (fun n b => b.stepperTick n)
  let b := ((b.thmTick.afeTick).feedTick).shareTick
  ((b.haspTick.canTick).sllTick.telTick).heartbeatTick

/-- What is noted for one frame only begins anew. -/
def Blk.frameClear (b : Blk) : Blk :=
  let b := b.onLe (fun l =>
    { l with lostNow := []
             preload := l.preload.filter (fun x => decide (b.fn ≤ x.fn + 2))
             chans := l.chans.map (fun (c : Chan) => { c with sat := false, overran := false }) })
  b.onMir (fun m => { m with fresh := false, came := m.came.map (fun _ => false) })

/-- The counters of cycles that the ended frame of `cyc` cycles advances. -/
def Blk.cyclesTick (b : Blk) (cyc : Nat) : Blk :=
  let b := ((b.lodeTick cyc).clkTick cyc).strataTick
  b.onPwr (fun p => { p with ride := p.ride.map (· + cyc) })

/-- FRAME_TICK (R42 to R48): what the tick sees from outside, and the FABRIC
blocks whose copies disagree in the frame that opens. FRAME_NO counts the tick: nothing else in it writes the count. -/
def Blk.doFrameTick (b : Blk) (x : TickSeen) (differ : List Nat) : Blk :=
  if b.ticks then
    let cyc := b.frameLen
    let b := b.onTick (fun t => { t with ended := cyc })
    let b := b.degTick
    let sent := b.crossedRings
    let (f, b) := b.makeF b.fn
    let (f, b) := b.hingeTags f x.hinge
    let b := b.mirrorLoad
    let no := b.fn + 1
    let b := (b.setFn no).blocksDiffer differ
    let b := ((b.cyclesTick cyc).discTick x.phErr).txnAge
    let b := x.oc.foldl (fun b o => b.clearOcv o.c.val o.outs) b
    let b := b.each 8 (fun n b => ((b.deadEnd n).anchorTick n).grdyTick n)
    let b := b.hostTick.each 4 (fun r b => b.doomTick r)
    let b := (b.commitTick sent).mirrorWrites
    (((b.ownTick.hingeTick).setFn no).frameClear).sendF f
  else b

end Sys2Proof.Machine
end

