-- ==== Sys2Proof/Machine/CmdFrame.lean ====
section
/-! DEFINITION. The meanings of commands: the frame, the loop engines, Ward (chapters 2, 8, 16). One per command; each
calls the operation that holds its rule and leaves the queue of commands as it is. -/

namespace Sys2Proof.Machine

/-- What the frame times does not happen before Ready or while the frame stands still (R504, R519). -/
def Blk.inFrame (b : Blk) (f : Blk → Blk) : Blk := if b.pwr.step = 8 ∧ b.clk.stop = false then f b else b

/-- FRAME_TICK (R42): Tumbler's tick opens a frame and applies every validated change in the order of R43. -/
def execFrameTick (phErr : TickSeen) (differ : List (Fin 4)) (s : State) : Host.Outcome State Fault Refusal :=
  .next (s.onBlk fun b => b.doFrameTick phErr (differ.map (fun i => i.val)))

/-- DISCIPLINE_LOCKED (R51): The phase error stays within ±50 ns for 64 consecutive frames and discipline enters
LOCKED. -/
def execDisciplineLocked (s : State) : Host.Outcome State Fault Refusal :=
  .next (s.within [.fabric] fun b => b.doDisciplineLocked)

/-- SAMPLE_PHASE (R36): At SAMPLE_PHASE every input is latched and receives its Ward tag for the loop-engine pairs. -/
def execSamplePhase (smp : Samples) (tagFails : List InputHit) (ecc : List (Fin 5 × Nat))
    (s : State) : Host.Outcome State Fault Refusal :=
  .next (s.onBlk fun b => b.inFrame fun b => b.sllLatch.doSamplePhase smp tagFails (ecc.map (fun x => (x.1.val, x.2))))

/-- LANE_DISAGREEMENT (R209): The two lanes of a pair write different values, the pair is retired and LP4 begins
loading its channels. -/
def execLaneDisagreement (k : Fin 5) (post : Bool) (bad : List LoadTags)
    (s : State) : Host.Outcome State Fault Refusal :=
  .next (s.within [.fabric] fun b => b.withTags bad fun b => b.doDisagree k.val post)

/-- SPARE_SELFCHECK_FAIL (R212): The free spare's self-check fails, LP4 is retired and no spare remains. -/
def execSpareSelfcheckFail (s : State) : Host.Outcome State Fault Refusal :=
  .next (s.within [.fabric] fun b => b.doSpareFail)

/-- CHANNEL_OVERRUN (R53): A channel's pre-output program is unfinished at OUTPUT_PHASE − 64; its outputs hold and no
checkpoint is written. -/
def execChannelOverrun (x : ChanLoad) (s : State) : Host.Outcome State Fault Refusal :=
  .next (s.within [.fabric] fun b => b.withTags x.bad fun b => b.doOverrun x.c.val)

/-- CHANNEL_MOVED_TO_SPARE (R55): A second consecutive overrun moves the channel to LP4 at the following tick. -/
def execChannelMovedToSpare (x : ChanLoad) (s : State) : Host.Outcome State Fault Refusal :=
  .next (s.within [.fabric] fun b => b.withTags x.bad fun b => b.doMoveToSpare x.c.val)

/-- CHANNEL_DEGRADED_OVERRUNS (R56): A fourth overrun within one second puts the channel in degraded mode with only
its inner loops running. -/
def execChannelDegradedOverruns (c : Fin 16) (s : State) : Host.Outcome State Fault Refusal :=
  .next (s.within [.fabric] fun b => b.doDegradeOverruns c.val)

/-- OUTPUT_PHASE (R65): At OUTPUT_PHASE the PWM block checks the tags of compare and duty words and writes those that
pass into the shadow registers. -/
def execOutputPhase (tagFails : List (Fin 16 × Nat × Flip)) (s : State) : Host.Outcome State Fault Refusal :=
  .next (s.onBlk fun b => b.inFrame fun b => b.doOutputPhase (tagFails.map (fun x => (x.1.val, x.2))))

/-- SHADOW_TRANSFER (R68): At a carrier reload point the shadow registers transfer to the active compare registers and
edges follow the new duty. -/
def execShadowTransfer (c : Fin 16) (peak : Bool) (cyc : Nat) (t : BitVec 32) (s : State) : Host.Outcome State Fault Refusal :=
  .next (s.onBlk fun b => b.inFrame fun b => (b.doShadowTransfer c.val peak cyc t.toNat).firstEdges c.val)

/-- CHECKPOINT_WRITE (R206): At the end of post-output work the pair writes each channel's checkpoint into the slot
chosen by FRAME_NO parity. -/
def execCheckpointWrite (k : Fin 5) (s : State) : Host.Outcome State Fault Refusal :=
  .next (s.onBlk fun b => b.inFrame fun b => b.doCheckpoint k.val)

/-- INPUT_INVALID_BY_TAGS (R374): An input falls back to its previous value in 4 consecutive frames and becomes
invalid. -/
def execInputInvalidByTags (c : Fin 16) (w : Nat) (s : State) : Host.Outcome State Fault Refusal :=
  .next (s.within [.fabric] fun b => b.doInputInvalid c.val w)

/-- FABRIC_BLOCK_FAILED (R371): Disagreements in 8 consecutive frames fail the block: loss or safe reaction. -/
def execFabricBlockFailed (b_ : Fin 4) (s : State) : Host.Outcome State Fault Refusal :=
  .next (s.within [.fabric] fun b => b.doBlockFailed (b_).val)

/-- SRAM_BANK_THRESHOLD (R375): A bank reaches RETN failures within 65,536 frames and is copied to a spare. -/
def execSramBankThreshold (b_ : Fin 64) (chs : List (Fin 16)) (s : State) : Host.Outcome State Fault Refusal :=
  .next (s.onBlk fun b => b.doBankThreshold (b_).val (chs.map (fun c => c.val)))

/-- SRAM_BANK_COPY_DONE (R375): The bank copy completes and the spare takes the bank's place at the following tick. -/
def execSramBankCopyDone (b_ : Fin 64) (s : State) : Host.Outcome State Fault Refusal :=
  .next (s.within [.fabric] fun b => b.doBankCopied (b_).val)

end Sys2Proof.Machine
end

