-- ==== Sys2Proof/Machine/CmdDrive.lean ====
section
/-! DEFINITION. The meanings of commands: trips, commutation, starting and the DC link (chapters 3 to 5, 12). One per
command; each calls the operation that holds its rule and leaves the queue of commands as it is. -/

namespace Sys2Proof.Machine

/-- FAST_TRIP (R76): TRIPn_N low with FEN = 0 turns every gate output of the channel inactive within 4 ns and latches
the trip. -/
def execFastTrip (n : Fin 8) (s : State) : Host.Outcome State Fault Refusal :=
  .next (s.within [.pwm] fun b => b.doTrip n.val false)

/-- FILTERED_TRIP_ACCEPT (R77): TRIPn_N low for t_F with FEN = 1 is accepted as a trip with the configured action. -/
def execFilteredTripAccept (n : Fin 8) (s : State) : Host.Outcome State Fault Refusal :=
  .next (s.within [.pwm] fun b => b.doTrip n.val true)

/-- TRIP_PULSE_REJECTED (R77): A TRIPn_N low pulse shorter than t_F is rejected and counted. -/
def execTripPulseRejected (n : Fin 8) (s : State) : Host.Outcome State Fault Refusal :=
  .next (s.within [.pwm] fun b => b.doTripRejected n.val)

/-- OVERCURRENT_VERDICT (R140): OCCNT + 1 consecutive sinc2 outputs reach OCTH and an overcurrent verdict is reached.
-/
def execOvercurrentVerdict (c : OcOuts) (s : State) : Host.Outcome State Fault Refusal :=
  .next (s.onBlk fun b => b.doOcVerdict c.c.val c.outs)

/-- GRDY_QUALIFIED_CHANGE (R81): A gate-driver ready input holds a new level for 1 µs and its qualified level changes.
-/
def execGrdyQualifiedChange (n : Fin 8) (leg : Fin 3) (level : Bool) (cyc : Nat)
    (s : State) : Host.Outcome State Fault Refusal :=
  .next (s.within [.pwm] fun b => b.doGrdy n.val leg.val level cyc)

/-- ZERO_CROSSING (R97): The floating phase crosses the virtual-neutral window and the crossing is stamped and judged
for validity. -/
def execZeroCrossing (n : Fin 8) (phase : Fin 3) (rising : Bool) (tin tout : BitVec 32) (edgeAge : Nat)
    (s : State) : Host.Outcome State Fault Refusal :=
  .next (s.within [.afe] fun b => b.doZeroCrossing n.val phase.val rising tin.toNat tout.toNat edgeAge)

/-- SOFTSTEP_COMMUTATION (R99): The soft-step sequencer commutates at the placed angle and moves to the next sector.
-/
def execSoftstepCommutation (n : Fin 8) (t : BitVec 32) (s : State) : Host.Outcome State Fault Refusal :=
  .next (s.within [.fabric, .pwm] fun b => b.doCommutation n.val t.toNat)

/-- SYNC_LOSS (R100): MISS consecutive missed sectors block the pulses and clear SYNC. -/
def execSyncLoss (n : Fin 8) (s : State) : Host.Outcome State Fault Refusal :=
  .next (s.within [.fabric] fun b => b.doSyncLoss n.val)

/-- COMMUTATION_HANDOVER (R106): After 8 frames beyond a threshold the channel hands over between field-oriented and
soft-step. -/
def execCommutationHandover (n : Fin 8) (s : State) : Host.Outcome State Fault Refusal :=
  .next (s.within [.fabric] fun b => b.doHandover n.val)

/-- HANDOVER_BLEND_END (R109): A blended hand-over ends after HANDOVER_FRAMES frames. -/
def execHandoverBlendEnd (n : Fin 8) (s : State) : Host.Outcome State Fault Refusal :=
  .next (s.within [.fabric] fun b => b.doBlendEnd n.val)

/-- SENSORLESS_RAMP_STOP (R112): A sensorless channel ramping down reaches 1.25 × CATCH_MIN and blocks its pulses to
coast. -/
def execSensorlessRampStop (n : Fin 8) (s : State) : Host.Outcome State Fault Refusal :=
  .next (s.within [.fabric] fun b => b.doRampStop n.val)

/-- SENSORLESS_REVERSE_RESTART (R112): At the tick after a block for a reversed reference the module makes a start
request itself. -/
def execSensorlessReverseRestart (n : Fin 8) (s : State) : Host.Outcome State Fault Refusal :=
  .next (s.within [.fabric] fun b => b.doReverseRestart n.val)

/-- FALLBACK_ACQUISITION_FAIL (R111): A fallback or flying start sees no two valid crossings within 12 sectors and
blocks its pulses. -/
def execFallbackAcquisitionFail (n : Fin 8) (s : State) : Host.Outcome State Fault Refusal :=
  .next (s.within [.fabric] fun b => b.doAcqFail n.val)

/-- CATCH_END (R115): The catch measurement ends and its outcome decides flying start, reverse rotation or standstill
start. -/
def execCatchEnd (n : Fin 8) (s : State) : Host.Outcome State Fault Refusal :=
  .next (s.within [.fabric] fun b => b.doCatchEnd n.val)

/-- CATCH_WINDOW_DECISION (R123): In WAIT a rolling catch window ends and a new decision is taken. -/
def execCatchWindowDecision (n : Fin 8) (s : State) : Host.Outcome State Fault Refusal :=
  .next (s.within [.fabric] fun b => b.doWindowDecision n.val)

/-- WAITMAX_EXPIRY (R123): WAITMAX expires in WAIT and the start is refused. -/
def execWaitmaxExpiry (n : Fin 8) (s : State) : Host.Outcome State Fault Refusal :=
  .next (s.within [.fabric] fun b => b.doWaitmax n.val)

/-- BRAKE_RAMP_END (R124): In BRAKE the ramp passes zero (sensored) or reaches 1.25 × CATCH_MIN (sensorless, new
catch). -/
def execBrakeRampEnd (n : Fin 8) (s : State) : Host.Outcome State Fault Refusal :=
  .next (s.within [.fabric] fun b => b.doBrakeEnd n.val)

/-- ALIGN_END (R128): The alignment time elapses and the current-frequency start begins. -/
def execAlignEnd (n : Fin 8) (s : State) : Host.Outcome State Fault Refusal :=
  .next (s.within [.fabric] fun b => b.doAlignEnd n.val)

/-- IF_HANDOVER (R130): f_cmd reaches FHO with valid crossings in the last two sectors and the channel hands over to
closed loop. -/
def execIfHandover (n : Fin 8) (s : State) : Host.Outcome State Fault Refusal :=
  .next (s.within [.fabric] fun b => b.doIfHandover n.val)

/-- IF_FMAX_ABORT (R130): f_cmd reaches FMAX first and the channel blocks its pulses. -/
def execIfFmaxAbort (n : Fin 8) (s : State) : Host.Outcome State Fault Refusal :=
  .next (s.within [.fabric] fun b => b.doFmax n.val)

/-- CHOPPER_ON (R283): The fast link value reaches BRKON and BRKn goes active. -/
def execChopperOn (n : Fin 8) (v vPast : Int) (idleBefore : Bool) (s : State) : Host.Outcome State Fault Refusal :=
  .next (s.within [.pwm, .afe] fun b => b.doChopperOn n.val v vPast idleBefore)

/-- CHOPPER_OFF (R283): The fast link value falls below BRKOFF after MINON and BRKn goes inactive. -/
def execChopperOff (x : BrkSpan) (s : State) : Host.Outcome State Fault Refusal :=
  .next (s.within [.pwm, .afe] fun b => b.doChopperOff x.n.val x.v x.since)

/-- CHOPPER_CHECK (R285): 20 µs after BRKn goes active the feedback and slope checks judge the chopper. -/
def execChopperCheck (n : Fin 8) (fb : FbSeen) (v : Int) (s : State) : Host.Outcome State Fault Refusal :=
  .next (s.within [.pwm, .afe] fun b => b.doChopperCheck n.val fb v)

/-- CHOPPER_STUCK_ON (R286): Qualified conduction for 20 µs while BRKn is inactive latches a stuck chopper. -/
def execChopperStuckOn (x : BrkLevel) (s : State) : Host.Outcome State Fault Refusal :=
  .next (s.within [.pwm] fun b => b.doChopperStuck x.n.val x.level)

/-- BRK_CLEAR_TEST_END (R287): The chopper test pulse or hold ends and the latches clear or stay set. -/
def execBrkClearTestEnd (n : Fin 8) (fbPulse fbHold : FbSeen) (vPast v0 v : Int) (idleBefore : Bool)
    (s : State) : Host.Outcome State Fault Refusal :=
  .next (s.within [.pwm, .afe] fun b => b.doBrkTestEnd n.val fbPulse fbHold vPast v0 v idleBefore)

/-- OV2_REACHED (R289): The fast link value reaches OV2 and sets OV2F. -/
def execOv2Reached (n : Fin 8) (v : Int) (s : State) : Host.Outcome State Fault Refusal :=
  .next (s.within [.afe] fun b => b.doOv2 n.val v)

/-- ASC_HOLD_END (R290): An OV2 active short circuit ends when speed falls or ASCHOLD is counted, becoming a pulse
block. -/
def execAscHoldEnd (n : Fin 8) (s : State) : Host.Outcome State Fault Refusal :=
  .next (s.within [.fabric] fun b => b.doAscEnd n.val)

/-- OV3_DEMAND (R291): The link trip value reaches OV3 and places a demand on the channel's STO output. -/
def execOv3Demand (x : TripStep) (s : State) : Host.Outcome State Fault Refusal :=
  .next (s.within [.afe] fun b => b.doOv3 x.n.val x.v)

/-- OV3_DEMAND_END (R291): The first sinc2 output below OV3 ends the demand. -/
def execOv3DemandEnd (x : TripStep) (s : State) : Host.Outcome State Fault Refusal :=
  .next (s.within [.afe] fun b => b.doOv3End x.n.val x.v)

end Sys2Proof.Machine
end

