-- ==== Sys2Proof/Machine/CmdHost.lean ====
section
/-! DEFINITION. The meanings of commands: the commands that host descriptors carry (R417), each as it acts at its tick.
One per command; each calls the operation that holds its rule and leaves the queue of commands as it is. -/

namespace Sys2Proof.Machine

/-- START (R580): Command that requests a drive start, judged against the ordered checks and opening the start
sequence. -/
def execStart (h : Hdr) (n : Fin 8) (s : State) : Host.Outcome State Fault Refusal :=
  .next (s.within [.fabric] fun b => b.doStart h n.val)

/-- DRV_STOP (R417): Command that stops a drive at once (MODE 1) or through its ramp (MODE 0). -/
def execDrvStop (h : Hdr) (n : Fin 8) (mode : Byte) (s : State) : Host.Outcome State Fault Refusal :=
  .next (s.within [.fabric] fun b => b.doDrvStop h n.val mode.toNat)

/-- SET_SPEED (R417): Command that sets a drive's speed reference, a group reference in a share group. -/
def execSetSpeed (h : Hdr) (n : Fin 8) (v : BitVec 16) (s : State) : Host.Outcome State Fault Refusal :=
  .next (s.within [.fabric] fun b => b.doSetSpeed h n.val v.toInt)

/-- SET_TORQUE (R88): Command that sets the torque reference of a drive in torque control. -/
def execSetTorque (h : Hdr) (n : Fin 8) (v : BitVec 16) (s : State) : Host.Outcome State Fault Refusal :=
  .next (s.within [.fabric] fun b => b.doSetTorque h n.val v.toInt)

/-- COEF_WRITE (R203): Command that writes one loop coefficient directly at a tick. -/
def execCoefWrite (h : Hdr) (c : Fin 16) (idx val : BitVec 16) (s : State) : Host.Outcome State Fault Refusal :=
  .next (s.within [.fabric] fun b => b.doCoefWrite h c.val idx.toNat val.toNat)

/-- LEVER_SELECT (R428): Command that passes a drive's reference between host and lever. -/
def execLeverSelect (h : Hdr) (n : Fin 8) (src : Byte) (s : State) : Host.Outcome State Fault Refusal :=
  .next (s.within [.fabric] fun b => b.doLeverSelect h n.val src.toNat)

/-- BRIDGE_RESUME (R428): Command that ends bridge-loss for a drive and restores the host reference. -/
def execBridgeResume (h : Hdr) (n : Option (Fin 8)) (s : State) : Host.Outcome State Fault Refusal :=
  .next (s.within [.fabric] fun b => b.doBridgeResume h (n.map (fun x => x.val)))

/-- NOP (R417): Command that does nothing and completes. -/
def execNop (h : Hdr) (s : State) : Host.Outcome State Fault Refusal :=
  .next (s.within [.fabric] fun b => b.ok h 0x00)

/-- BRK_CLEAR (R287): Command that starts the chopper test which may clear CHF and STKD. -/
def execBrkClear (h : Hdr) (n : Fin 8) (s : State) : Host.Outcome State Fault Refusal :=
  .next (s.within [.fabric] fun b => b.doBrkClear h n.val)

/-- SLL_TXDATA (R359): Command that sets transmit payload data and the requested RUN of a session. -/
def execSllTxdata (h : Hdr) (s_ : Fin 64) (run : Bool) (ofs cnt : Byte) (data : List Byte)
    (s : State) : Host.Outcome State Fault Refusal :=
  .next (s.within [.fabric] fun b => b.doTxData h (s_).val run ofs.toNat cnt.toNat data)

/-- SUP_CLEAR (R224): Command that clears a latched feedback verdict and its degraded mode. -/
def execSupClear (h : Hdr) (n : Fin 8) (s : State) : Host.Outcome State Fault Refusal :=
  .next (s.within [.fabric] fun b => b.doSupClear h n.val)

/-- INJ_START (R228): Command that starts a test-signal injection at a declared point. -/
def execInjStart (h : Hdr) (k : Fin 5) (s : State) : Host.Outcome State Fault Refusal :=
  .next (s.within [.fabric] fun b => b.doInjStart h k.val)

/-- INJ_STOP (R229): Command that aborts a running injection. -/
def execInjStop (h : Hdr) (k : Fin 5) (s : State) : Host.Outcome State Fault Refusal :=
  .next (s.within [.fabric] fun b => b.doInjStop h k.val)

/-- CAP_START (R231): Command that arms or starts a capture. -/
def execCapStart (h : Hdr) (k : Fin 5) (s : State) : Host.Outcome State Fault Refusal :=
  .next (s.within [.fabric] fun b => b.doCapStart h k.val)

/-- CAP_STOP (R233): Command that ends a capture. -/
def execCapStop (h : Hdr) (k : Fin 5) (s : State) : Host.Outcome State Fault Refusal :=
  .next (s.within [.fabric] fun b => b.doCapStop h k.val)

/-- ENERGIZE (R244): Command that energises a stepper or clears its fault latch. -/
def execEnergize (h : Hdr) (n : Fin 8) (s : State) : Host.Outcome State Fault Refusal :=
  .next (s.within [.fabric] fun b => b.doEnergize h n.val)

/-- DEENERGIZE (R244): Command that stops a stepper and de-energises it after standstill. -/
def execDeenergize (h : Hdr) (n : Fin 8) (s : State) : Host.Outcome State Fault Refusal :=
  .next (s.within [.fabric] fun b => b.doDeenergize h n.val)

/-- MOVE (R247): Command that queues a motion profile move on an axis. -/
def execMove (h : Hdr) (a : Fin 16) (kind : Byte) (blend : Bool) (target vmax amax dmax : Word)
    (s : State) : Host.Outcome State Fault Refusal :=
  .next (s.within [.fabric] fun b => b.doMove h a.val kind.toNat blend target.toNat vmax.toNat amax.toNat dmax.toNat)

/-- AXIS_STOP (R252): Command that decelerates an axis at DSTOP and suspends its move. -/
def execAxisStop (h : Hdr) (a : Fin 16) (s : State) : Host.Outcome State Fault Refusal :=
  .next (s.within [.fabric] fun b => b.doAxisStop h a.val)

/-- RESUME (R254): Command that plans the suspended move afresh from standstill. -/
def execResume (h : Hdr) (a : Fin 16) (s : State) : Host.Outcome State Fault Refusal :=
  .next (s.within [.fabric] fun b => b.doResume h a.val)

/-- MOVE_FLUSH (R254): Command that removes queued and suspended moves. -/
def execMoveFlush (h : Hdr) (a : Fin 16) (s : State) : Host.Outcome State Fault Refusal :=
  .next (s.within [.fabric] fun b => b.doFlush h a.val)

/-- HOME (R258): Command that starts homing against a hard stop. -/
def execHome (h : Hdr) (a : Fin 16) (s : State) : Host.Outcome State Fault Refusal :=
  .next (s.within [.fabric] fun b => b.doHome h a.val)

/-- PAIR_HANDOVER (R395): Command that hands ownership to a READY partner. -/
def execPairHandover (h : Hdr) (s : State) : Host.Outcome State Fault Refusal :=
  .next (s.within [.fabric] fun b => b.doPairHandover h)

/-- TXN_BEGIN (R434): Command that opens a transaction on its ring. -/
def execTxnBegin (h : Hdr) (s : State) : Host.Outcome State Fault Refusal :=
  .next (s.within [.fabric] fun b => b.doTxnBegin h)

/-- TXN_WRITE (R435): Command that stages one BAR0 write in the open transaction. -/
def execTxnWrite (h : Hdr) (off val : Word) (s : State) : Host.Outcome State Fault Refusal :=
  .next (s.within [.fabric] fun b => b.doTxnWrite h off.toNat val.toNat)

/-- TXN_COMMIT (R438): Command that starts validation of the staged list. -/
def execTxnCommit (h : Hdr) (s : State) : Host.Outcome State Fault Refusal :=
  .next (s.within [.fabric] fun b => b.doTxnCommit h)

/-- TXN_ROLLBACK (R434): Command that discards the list and closes the transaction. -/
def execTxnRollback (h : Hdr) (s : State) : Host.Outcome State Fault Refusal :=
  .next (s.within [.fabric] fun b => b.doTxnRollback h)

/-- CAN_TX (R460): Command that loads a transmit buffer and makes its frame PENDING. -/
def execCanTx (h : Hdr) (k : Fin 4) (buf flags dlc : Byte) (id : Word) (data : List Byte)
    (s : State) : Host.Outcome State Fault Refusal :=
  .next (s.within [.fabric] fun b => b.doCanTx h k.val buf.toNat flags.toNat dlc.toNat id.toNat data)

/-- CAN_STAGE (R459): Command that writes bytes into a buffer's staging image. -/
def execCanStage (h : Hdr) (k : Fin 4) (buf ofs cnt : Byte) (data : List Byte)
    (s : State) : Host.Outcome State Fault Refusal :=
  .next (s.within [.fabric] fun b => b.doCanStage h k.val buf.toNat ofs.toNat cnt.toNat data)

/-- CAN_CANCEL (R463): Command that removes or abandons a pending or active frame. -/
def execCanCancel (h : Hdr) (k : Fin 4) (buf : Byte) (won : Bool) (s : State) : Host.Outcome State Fault Refusal :=
  .next (s.within [.fabric] fun b => b.doCanCancel h k.val buf.toNat won)

/-- CAN_SLEEP (R465): Command that requests sleep of a controller. -/
def execCanSleep (h : Hdr) (k : Fin 4) (s : State) : Host.Outcome State Fault Refusal :=
  .next (s.within [.fabric] fun b => b.doCanSleep h k.val)

/-- CAN_WAKE (R466): Command that wakes a sleeping controller. -/
def execCanWake (h : Hdr) (k : Fin 4) (s : State) : Host.Outcome State Fault Refusal :=
  .next (s.within [.fabric] fun b => b.doCanWake h k.val)

end Sys2Proof.Machine
end

