-- ==== Sys2Proof/Machine/CmdSafety.lean ====
section
/-! DEFINITION. The meanings of commands: thermal, Hasp and Slalu (chapters 13 to 15). One per command; each calls the
operation that holds its rule and leaves the queue of commands as it is. -/

namespace Sys2Proof.Machine

/-- NTC_RECOVER (R296): An NTC input unbroken for 64 frames recovers and its degraded mode ends. -/
def execNtcRecover (k : Fin 16) (s : State) : Host.Outcome State Fault Refusal :=
  .next (s.within [.fabric] fun b => b.doNtcRecover k.val)

/-- THERMAL_XCHK_FAIL (R300): NTC and model disagree beyond XTOL for one second and XCHK is set. -/
def execThermalXchkFail (n : Fin 8) (winding : Bool) (s : State) : Host.Outcome State Fault Refusal :=
  .next (s.within [.fabric] fun b => b.doThermalXchk n.val winding)

/-- THERMAL_RATE_RECOVER (R306): The rate stays at or below RMAX for RWIN frames and its factor returns. -/
def execThermalRateRecover (n : Fin 8) (winding : Bool) (s : State) : Host.Outcome State Fault Refusal :=
  .next (s.within [.fabric] fun b => b.doRateRecover n.val winding)

/-- OVRD_ASSERTED (R311): OVRD_N low for 10 ms asserts the emergency override. -/
def execOvrdAsserted (s : State) : Host.Outcome State Fault Refusal :=
  .next (s.within [.safe] fun b => b.doOvrd true)

/-- OVRD_RELEASED (R311): OVRD_N high for 10 ms releases the emergency override. -/
def execOvrdReleased (s : State) : Host.Outcome State Fault Refusal :=
  .next (s.within [.safe] fun b => b.doOvrd false)

/-- TSHUT (R315): A die comparator trips at 140 °C and the module shuts down through Hasp. -/
def execTshut (_k : Fin 6) (s : State) : Host.Outcome State Fault Refusal :=
  .next s.doTshut

/-- TSHUT_RECOVER (R315): All comparators below 125 °C for 1 s restart the module. -/
def execTshutRecover (s : State) : Host.Outcome State Fault Refusal :=
  .next s.doTshutOver

/-- STO_CLOSING_LOW_CHECK (R322): 100 µs after the low side closes the current and SNS are checked and the high side
closes. -/
def execStoClosingLowCheck (k : Fin 4) (ma : Nat) (sns : Bool) (s : State) : Host.Outcome State Fault Refusal :=
  .next (s.within [.safe] fun b => b.doClosingLow k.val ma sns)

/-- STO_CLOSING_HIGH_CHECK (R322): 1 ms after the high side closes SNS is checked and the gate-enables are granted. -/
def execStoClosingHighCheck (k : Fin 4) (ma : Nat) (sns : Bool) (s : State) : Host.Outcome State Fault Refusal :=
  .next (s.within [.safe] fun b => b.doClosingHigh k.val ma sns)

/-- STO_TEST_SLOT (R325): A scheduled test slot opens one switch of a closed output. -/
def execStoTestSlot (k : Fin 4) (s : State) : Host.Outcome State Fault Refusal :=
  .next (s.within [.safe] fun b => b.doTestSlot k.val)

/-- STO_TEST_END (R325): TP_WIDTH ends, the checks are judged and the switch recloses or the output faults. -/
def execStoTestEnd (k : Fin 4) (ma : Nat) (snsDuring snsEnd snsAfter hsPin : Bool)
    (s : State) : Host.Outcome State Fault Refusal :=
  .next (s.within [.safe] fun b => b.doTestEnd k.val ma snsDuring snsEnd snsAfter hsPin)

/-- STO_CURRENT_LIMIT (R322): Current limit for 10 µs opens both switches and puts the output in FAULT. -/
def execStoCurrentLimit (k : Fin 4) (s : State) : Host.Outcome State Fault Refusal :=
  .next (s.within [.safe] fun b => b.doCurrentLimit k.val)

/-- SDI_DEMAND (R330): A safe input channel leaves its healthy level and the input enters demand state. -/
def execSdiDemand (i : Fin 8) (a_ b_ : Bool) (s : State) : Host.Outcome State Fault Refusal :=
  .next (s.onBlk fun b => b.doSdiDemand i.val a_ b_)

/-- SDI_RETURN_HEALTHY (R330): Both channels of a safe input return to healthy and the demand ends. -/
def execSdiReturnHealthy (i : Fin 8) (withinDisc : Bool) (s : State) : Host.Outcome State Fault Refusal :=
  .next (s.onBlk fun b => b.doSdiHealthy i.val withinDisc)

/-- SDI_DISCREPANCY (R331): The two channels of an input disagree for longer than DISC and a discrepancy latches. -/
def execSdiDiscrepancy (i : Fin 8) (s : State) : Host.Outcome State Fault Refusal :=
  .next (s.onBlk fun b => b.doSdiDisc i.val)

/-- STO_RESET_PULSE (R324): The falling edge of a valid reset pulse closes a MANUAL output. -/
def execStoResetPulse (k : Fin 4) (us : Nat) (s : State) : Host.Outcome State Fault Refusal :=
  .next (s.within [.safe] fun b => b.doResetPulse k.val us)

/-- SS1_TIMEOUT (R332): SS1T elapses after an SS1 demand and the outputs open. -/
def execSs1Timeout (k : Fin 4) (s : State) : Host.Outcome State Fault Refusal :=
  .next (s.within [.safe] fun b => b.doSs1Timeout k.val)

/-- DEG_TIME_EXPIRY (R336): A fault class's DEG_TIME expires and every affected channel performs its safe reaction. -/
def execDegTimeExpiry (c : Fin 8) (flintA : Bool) (s : State) : Host.Outcome State Fault Refusal :=
  .next (s.onBlk fun b => b.doDegExpiry c.val flintA)

/-- STOPMAX_EXPIRY (R336): STOPMAX elapses in a safe reaction and Hasp removes the gate-enable before standstill. -/
def execStopmaxExpiry (c : Fin 16) (s : State) : Host.Outcome State Fault Refusal :=
  .next (s.within [.safe] fun b => b.doStopmax c.val)

/-- TICK_WATCHDOG_EXPIRY (R338): No tick by 1,024 cycles after it was due: loss with a ready standby, otherwise a
latched demand. -/
def execTickWatchdogExpiry (s : State) : Host.Outcome State Fault Refusal :=
  .next (s.onBlk fun b => b.doTickWatchdog)

/-- HASP_INTERNAL_FAULT (R338): Hasp's supervisor cores disagree or its firmware check fails. -/
def execHaspInternalFault (_firmware : Bool) (s : State) : Host.Outcome State Fault Refusal :=
  .next (s.onBlk fun b => b.doHaspFault)

/-- SLALU_FRAME_RECEIVED (R351): A Slalu frame for a receive session is checked for tag, length, CRC and sequence and
the session state moves. -/
def execSlaluFrameReceived (from_ : Carriage) (bytes : List Byte) (tags : List (Nat × Flip)) (us : Nat)
    (s : State) : Host.Outcome State Fault Refusal :=
  .next (s.onBlk fun b => b.doSlaluFrame from_ bytes tags us)

/-- SLALU_WATCHDOG_EXPIRY (R353): A session's receive watchdog expires and its safe values are put in force. -/
def execSlaluWatchdogExpiry (s_ : Fin 64) (s : State) : Host.Outcome State Fault Refusal :=
  .next (s.within [.fabric] fun b => b.doSesWatchdog (s_).val)

/-- HASP_SESSION_WATCHDOG (R323): Hasp's own receive watchdog of a mapped session expires and demands its outputs. -/
def execHaspSessionWatchdog (s_ : Fin 64) (s : State) : Host.Outcome State Fault Refusal :=
  .next (s.onBlk fun b => b.doHaspSession (s_).val)

/-- MGMT_FRAME_SEND (R364): Every MGMTPER × 10 ms a management frame with session states is sent on each transport. -/
def execMgmtFrameSend (s : State) : Host.Outcome State Fault Refusal :=
  .next (s.onBlk fun b => b.doMgmtSend)

/-- MGMT_FRAME_RECEIVED (R364): A management frame is verified and delivered to the host as event 0xA005. -/
def execMgmtFrameReceived (bytes : List Byte) (s : State) : Host.Outcome State Fault Refusal :=
  .next (s.onBlk fun b => b.doMgmtReceived bytes)

end Sys2Proof.Machine
end

