-- ==== Sys2Proof/Machine/CmdMeasure.lean ====
section
/-! DEFINITION. The meanings of commands: the front end, Whetstone, feedback ports and supervision (chapters 6, 7, 9). One
per command; each calls the operation that holds its rule and leaves the queue of commands as it is. -/

namespace Sys2Proof.Machine

/-- SHADOW_ROTATE (R147): After 256 frames a shadow group moves to the next input. -/
def execShadowRotate (g : Fin 2) (s : State) : Host.Outcome State Fault Refusal :=
  .next (s.onBlk fun b => b.doShadowRotate g.val)

/-- LANE_RESIDUE_FAIL (R147): A lane's residue check fails and the lane is retired at once. -/
def execLaneResidueFail (l : Fin 44) (s : State) : Host.Outcome State Fault Refusal :=
  .next (s.onBlk fun b => b.doResidue l.val)

/-- SHADOW_MISMATCH (R148): The three lanes on a shadowed input differ and the majority retires the outvoted lane. -/
def execShadowMismatch (g : Fin 2) (outvoted : Fin 3) (s : State) : Host.Outcome State Fault Refusal :=
  .next (s.onBlk fun b => b.doShadowMismatch g.val outvoted.val)

/-- SAR_ROTATE (R152): At FRAME_NO mod 4,096 = 0 the rotating converter returns and the longest-serving one leaves. -/
def execSarRotate (s : State) : Host.Outcome State Fault Refusal :=
  .next (s.onBlk fun b => b.doSarRotate)

/-- SAR_SHADOW_MISMATCH (R153): A shadow conversion differs by more than 16 codes and both converters are checked
against the reference. -/
def execSarShadowMismatch (cv : Fin 3) (cvBad rotBad : Bool) (s : State) : Host.Outcome State Fault Refusal :=
  .next (s.onBlk fun b => b.doSarMismatch cv.val cvBad rotBad)

/-- MODULATOR_STUCK (R157): A modulator data line with no transition for 256 periods is stuck and its input invalid.
-/
def execModulatorStuck (i : Fin 40) (high : Bool) (s : State) : Host.Outcome State Fault Refusal :=
  .next (s.onBlk fun b => b.doStuck i.val high)

/-- GAIN_CHECK_FAIL (R155): A gain check outside tolerance sets GFAIL and passes the input to the plausibility check.
-/
def execGainCheckFail (n : Fin 8) (kind : Fin 3) (value : Int) (s : State) : Host.Outcome State Fault Refusal :=
  .next (s.onBlk fun b => b.doGainCheck n.val kind.val value)

/-- FLINTB_TRIM_COUNT (R156): A count of Flint-B over 2^20 XO cycles completes and updates the trim table. -/
def execFlintbTrimCount (count : Nat) (whole : Bool) (s : State) : Host.Outcome State Fault Refusal :=
  .next (s.onBlk fun b => b.doTrimCount count whole)

/-- TRIM_TABLE_SAVE (R156): The Whetstone tables are written to Bedrock hourly. -/
def execTrimTableSave (s : State) : Host.Outcome State Fault Refusal :=
  .next (s.onBlk fun b => b.doTrimSave)

/-- FEEDBACK_VERDICT (R218): CNT reaches PERSIST, the port becomes invalid or a start disagrees, and implausible
feedback is latched. -/
def execFeedbackVerdict (n : Fin 8) (s : State) : Host.Outcome State Fault Refusal :=
  .next (s.within [.fabric] fun b => b.doVerdict n.val)

/-- SUPERVISION_SETTLE_END (R220): SETTLE frames elapse and residual counting resumes. -/
def execSupervisionSettleEnd (n : Fin 8) (s : State) : Host.Outcome State Fault Refusal :=
  .next (s.within [.fabric] fun b => b.doSettleEnd n.val)

/-- INJECTION_COMPLETE (R229): An injection reaches its run count and stops with v = 0. -/
def execInjectionComplete (k : Fin 5) (s : State) : Host.Outcome State Fault Refusal :=
  .next (s.within [.fabric] fun b => b.doInjComplete k.val)

/-- CAPTURE_LEVEL_TRIGGER (R231): Signal 0 crosses LEVEL after PRE samples and the capture starts. -/
def execCaptureLevelTrigger (k : Fin 5) (s : State) : Host.Outcome State Fault Refusal :=
  .next (s.within [.fabric] fun b => b.doCapLevel k.val)

/-- CAPTURE_END (R233): A one-shot capture reaches 32,768 samples and ends with a final record. -/
def execCaptureEnd (k : Fin 5) (s : State) : Host.Outcome State Fault Refusal :=
  .next (s.within [.fabric] fun b => b.doCapEnd k.val)

/-- FEEDBACK_EDGE (R162): A filtered edge on FBn_A/FBn_B, or a change of the magnetic-switch code, is counted or
judged illegal, stamped, and may hit a compare entry or move the emulation target. -/
def execFeedbackEdge (p : Fin 12) (a_ b_ z : Bool) (t : BitVec 32) (s : State) : Host.Outcome State Fault Refusal :=
  .next (s.onBlk fun b => b.doFeedbackEdge p.val a_ b_ z t.toNat)

/-- INDEX_LATCH (R164): The qualified index becomes active, FBn_POS is copied to FBn_IDXLAT within 15 ns, the first
latch sets AVALID and later latches are judged for drift. -/
def execIndexLatch (p : Fin 12) (s : State) : Host.Outcome State Fault Refusal :=
  .next (s.onBlk fun b => b.doIndexLatch p.val)

/-- COMPARE_PULSE_END (R181): PW × 10 ns after the last hit the CMPn pulse ends and the output returns inactive. -/
def execComparePulseEnd (p : Fin 12) (s : State) : Host.Outcome State Fault Refusal :=
  .next (s.within [.feed] fun b => b.doCompareEnd p.val)

/-- ENCODER_EMULATION_EDGE (R182): With a backlog, the emulation emits its next ENCOUTn edge once EMIN × 5 ns, or the
SSI spacing, has passed since the last one. -/
def execEncoderEmulationEdge (p : Fin 12) (s : State) : Host.Outcome State Fault Refusal :=
  .next (s.within [.feed] fun b => b.doEmuEdge p.val)

end Sys2Proof.Machine
end

