-- ==== Sys2Proof/Machine/CmdAxis.lean ====
section
/-! DEFINITION. The meanings of commands: steppers, profiles, load sharing and pair operation (chapters 10, 11, 17). One
per command; each calls the operation that holds its rule and leaves the queue of commands as it is. -/

namespace Sys2Proof.Machine

/-- STEPPER_BRIDGE_FAULT (R245): Sn_FLT_N low for 1 µs latches a bridge fault and turns the bridges off. -/
def execStepperBridgeFault (n : Fin 8) (s : State) : Host.Outcome State Fault Refusal :=
  .next (s.onBlk fun b => b.doBridgeFault n.val)

/-- MOVE_START (R248): A queued move starts once the axis is ready and the previous move has ended, and is planned. -/
def execMoveStart (a : Fin 16) (s : State) : Host.Outcome State Fault Refusal :=
  .next (s.within [.fabric] fun b => b.doMoveStart a.val)

/-- MOVE_COMPLETE (R249): A move ends exactly on its target or a speed move reaches its speed. -/
def execMoveComplete (a : Fin 16) (s : State) : Host.Outcome State Fault Refusal :=
  .next (s.within [.fabric] fun b => b.doMoveComplete a.val)

/-- AXIS_STANDSTILL (R252): A stop deceleration reaches standstill. -/
def execAxisStandstill (a : Fin 16) (s : State) : Host.Outcome State Fault Refusal :=
  .next (s.within [.fabric] fun b => b.doStandstill a.val)

/-- HOLD_CURRENT_FALL (R243): HOLDT frames after standstill the amplitude falls from RUN to HOLD over 16 frames. -/
def execHoldCurrentFall (n : Fin 8) (s : State) : Host.Outcome State Fault Refusal :=
  .next (s.within [.fabric] fun b => b.doHoldFall n.val)

/-- STALL_DETECTED (R257): The load angle stays at or above STALLA for STALLN frames and a stall is declared. -/
def execStallDetected (n : Fin 8) (s : State) : Host.Outcome State Fault Refusal :=
  .next (s.within [.fabric] fun b => b.doStall n.val)

/-- HOMING_FAILED (R259): The axis travels HOMEMAX without a stall and homing fails. -/
def execHomingFailed (n : Fin 8) (s : State) : Host.Outcome State Fault Refusal :=
  .next (s.within [.fabric] fun b => b.doHomingFailed n.val)

/-- SHARE_JOIN_COMPLETE (R271): A joining member's blend ends and it enters IN. -/
def execShareJoinComplete (g s_ : Fin 4) (s : State) : Host.Outcome State Fault Refusal :=
  .next (s.within [.fabric] fun b => b.doJoinComplete g.val (s_).val)

/-- SHARE_SPEED_DEVIATION (R273): A follower's speed deviates beyond SPDDEV for DEVN frames and its pulses are
blocked. -/
def execShareSpeedDeviation (g s_ : Fin 4) (s : State) : Host.Outcome State Fault Refusal :=
  .next (s.within [.fabric] fun b => b.doSpeedDev g.val (s_).val)

/-- SHARE_EXCHANGE_LOST (R276): 4 frames without a valid share exchange isolate the partner members. -/
def execShareExchangeLost (g : Fin 4) (s : State) : Host.Outcome State Fault Refusal :=
  .next (s.within [.fabric] fun b => b.doExchangeLost g.val)

/-- SHARE_ISOL_REJOIN (R265): A valid exchange for 64 frames lets an isolated member rejoin. -/
def execShareIsolRejoin (g s_ : Fin 4) (s : State) : Host.Outcome State Fault Refusal :=
  .next (s.within [.fabric] fun b => b.doIsolRejoin g.val (s_).val)

/-- OWN_IN_RELEASED (R395): The partner's ownership line qualifies deasserted and the standby drives MODCLK and
FBn_CLK. -/
def execOwnInReleased (s : State) : Host.Outcome State Fault Refusal :=
  .next (s.onBlk fun b => b.doOwnReleased)

/-- TAKEOVER_CLAIM (R396): At the next tick the standby claims ownership, drives its pins inactive and forces carriers
to a valley. -/
def execTakeoverClaim (s : State) : Host.Outcome State Fault Refusal :=
  .next (s.within [.mir] fun b => b.doClaim)

/-- TAKEOVER_RESUME (R397): After the guard frames each paired channel resumes from the newest mirrored state. -/
def execTakeoverResume (s : State) : Host.Outcome State Fault Refusal :=
  .next (s.within [.mir] fun b => b.doTakeoverResume)

/-- PARTNER_LINE_REASSERTED (R398): The partner asserts its line after the claim and this module keeps ownership. -/
def execPartnerLineReasserted (s : State) : Host.Outcome State Fault Refusal :=
  .next (s.onBlk fun b => b.doLineReasserted)

/-- HINGE_FRAME_RECEIVED (R386): A Hinge frame with a passing CRC is taken from the first lane that delivers it. -/
def execHingeFrameReceived (lane : Fin 2) (f : HingeFrame) (us : Nat)
    (s : State) : Host.Outcome State Fault Refusal :=
  .next (s.onBlk fun b => b.doHingeReceived lane.val f us)

/-- HINGE_FRAME_MISSING (R387): No valid F(n) has arrived 2,048 cycles before the tick of frame n + 2. -/
def execHingeFrameMissing (s : State) : Host.Outcome State Fault Refusal :=
  .next (s.onBlk fun b => b.doHingeMissing)

/-- HINGE_SILENT (R394): Four consecutive missing frames make the link silent and the standby NOTREADY. -/
def execHingeSilent (s : State) : Host.Outcome State Fault Refusal :=
  .next (s.onBlk fun b => b.doHingeSilent)

/-- HINGE_LANE_RETIRE (R386): A lane with no valid copy in 64 frames while the other delivers is retired. -/
def execHingeLaneRetire (lane : Fin 2) (s : State) : Host.Outcome State Fault Refusal :=
  .next (s.onBlk fun b => b.doLaneRetire lane.val)

/-- STANDBY_READY (R394): All readiness conditions hold over 64 frames and the standby becomes READY. -/
def execStandbyReady (s : State) : Host.Outcome State Fault Refusal :=
  .next (s.within [.mir] fun b => b.doStandbyReady)

end Sys2Proof.Machine
end

