-- ==== Sys2Proof/Machine/CmdRing.lean ====
section
/-! DEFINITION. The meanings of commands: doorbells, rings, heartbeat, levers and transactions (chapters 18, 19). One per
command; each calls the operation that holds its rule and leaves the queue of commands as it is. -/

namespace Sys2Proof.Machine

/-- COMMAND_DOORBELL (R407): A write of the host producer index to a command ring doorbell. -/
def execCommandDoorbell (r : Fin 4) (v : Word) (s : State) : Host.Outcome State Fault Refusal :=
  .next (s.onBlk fun b => b.doorbell r.val v)

/-- COMPLETION_DOORBELL (R407): A write of the host consumer index to a completion ring doorbell. -/
def execCompletionDoorbell (r : Fin 4) (v : Word) (s : State) : Host.Outcome State Fault Refusal :=
  .next (s.onBlk fun b => b.doorbell (4 + r.val) v)

/-- TELEMETRY_DOORBELL (R407): A write of the host consumer index to a telemetry ring doorbell. -/
def execTelemetryDoorbell (r : Fin 2) (v : Word) (s : State) : Host.Outcome State Fault Refusal :=
  .next (s.onBlk fun b => b.doorbell (8 + r.val) v)

/-- EVENT_DOORBELL (R407): A write of the host consumer index to the event ring doorbell. -/
def execEventDoorbell (v : Word) (s : State) : Host.Outcome State Fault Refusal :=
  .next (s.onBlk fun b => b.doorbell 10 v)

/-- HEARTBEAT_DOORBELL (R425): A heartbeat write arms the heartbeat and restarts its timer. -/
def execHeartbeatDoorbell (_v : Word) (s : State) : Host.Outcome State Fault Refusal :=
  .next (s.onBlk fun b => b.doHeartbeat)

/-- BAR2_STRAY_WRITE (R407): A write to another BAR2 offset is discarded and counted. -/
def execBar2StrayWrite (_off : Nat) (_v : Word) (s : State) : Host.Outcome State Fault Refusal :=
  .next (s.onBlk fun b => b.doStray)

/-- DESCRIPTOR_FETCH (R414): The module fetches command descriptors when completion space allows and checks each in
order. -/
def execDescriptorFetch (r : Fin 4) (descs : List (List Byte)) (cyc : Nat) (dmaErr : Bool)
    (s : State) : Host.Outcome State Fault Refusal :=
  .next (s.within [.host] fun b => b.doFetch r descs cyc dmaErr)

/-- COMPLETION_WRITE (R418): A completion entry is written when the command's change is applied and the ring has
space. -/
def execCompletionWrite (r : Fin 4) (tag : TagCheck) (dmaErr : Bool)
    (s : State) : Host.Outcome State Fault Refusal :=
  .next (s.within [.host] fun b => b.doCompletion r.val tag dmaErr)

/-- TELEMETRY_RECORD (R420): At the end of a TDIV frame a DRIVE or STEPPER record is written, or dropped for lack of
space. -/
def execTelemetryRecord (src : TelSrc) (tag : TagCheck) (dmaErr : Bool)
    (s : State) : Host.Outcome State Fault Refusal :=
  .next (s.within [.host] fun b => b.doTelemetry src tag dmaErr)

/-- EVENT_ENTRY_WRITE (R424): An event entry is written to the event ring, dropped or queued by severity. -/
def execEventEntryWrite (tag : TagCheck) (dmaErr : Bool) (s : State) : Host.Outcome State Fault Refusal :=
  .next (s.within [.host] fun b => b.doEventWrite tag dmaErr)

/-- MSIX_SIGNAL (R408): A moderated vector is signalled when IMCNT entries or IMTIM µs have passed. -/
def execMsixSignal (v : Fin 32) (s : State) : Host.Outcome State Fault Refusal :=
  .next (s.onBlk fun b => b.doMsix v.val)

/-- RING_RESET (R412): A RING_CTL.RESET write sets both indexes to 0 and restarts a halted ring. -/
def execRingReset (q : Fin 11) (s : State) : Host.Outcome State Fault Refusal :=
  .next (s.onBlk fun b => b.doRingReset q.val)

/-- PERST (R404): PERST_N asserted or the link down for 1 ms resets host-interface state and disables the rings. -/
def execPerst (_linkDown : Bool) (s : State) : Host.Outcome State Fault Refusal :=
  .next (s.onBlk fun b => b.perstRow)

/-- HEARTBEAT_LOSS (R425): HB_TIMEOUT passes without a heartbeat and every drive enters its bridge-loss mode. -/
def execHeartbeatLoss (s : State) : Host.Outcome State Fault Refusal :=
  .next (s.within [.host] fun b => b.doHeartbeatLoss)

/-- LEVER_START (R406): The lever leaves its dead band after 1 s inside it and the module makes a start request. -/
def execLeverStart (n : Fin 8) (s : State) : Host.Outcome State Fault Refusal :=
  .next (s.within [.fabric] fun b => b.doLeverStart n.val)

/-- LEVER_STOP (R406): The lever stays in its dead band for LSTOP seconds and a ramped stop is requested. -/
def execLeverStop (n : Fin 8) (s : State) : Host.Outcome State Fault Refusal :=
  .next (s.within [.fabric] fun b => b.doLeverStop n.val)

/-- LEVER_RESTORED (R427): A lever unbroken for 64 frames is used again. -/
def execLeverRestored (l : Fin 4) (s : State) : Host.Outcome State Fault Refusal :=
  .next (s.within [.fabric] fun b => b.doLeverRestored l.val)

/-- TXN_VALIDATION_DONE (R438): Validation of a commit completes and it is rejected or scheduled. -/
def execTxnValidationDone (r : Fin 4) (cyc : Nat) (s : State) : Host.Outcome State Fault Refusal :=
  .next (s.within [.fabric] fun b => b.doValidated r.val cyc)

/-- TXN_COMMIT_APPLY (R441): At its applying tick the commit is re-checked and all staged words are written. -/
def execTxnCommitApply (r : Fin 4) (s : State) : Host.Outcome State Fault Refusal :=
  .next (s.within [.fabric] fun b => b.doCommitApply r.val)

/-- TXN_TIMEOUT (R444): TXN_TIMEOUT expires and the open transaction rolls back. -/
def execTxnTimeout (r : Fin 4) (s : State) : Host.Outcome State Fault Refusal :=
  .next (s.within [.fabric] fun b => b.doTxnTimeout r.val)

/-- PERST_N_DEASSERT (R520): PERST_N goes high with the HOST domain up and the PCIe link trains. -/
def execPerstNDeassert (gen width : Fin 4) (s : State) : Host.Outcome State Fault Refusal :=
  .next (s.onBlk fun b => b.linkTrains gen.val width.val)

end Sys2Proof.Machine
end

