-- ==== Sys2Proof/Machine/CmdComm.lean ====
section
/-! DEFINITION. The meanings of commands: CAN FD and Lode (chapters 20, 21). One per command; each calls the operation that
holds its rule and leaves the queue of commands as it is. -/

namespace Sys2Proof.Machine

/-- CAN_FRAME_RECEIVED (R455): A valid CAN frame is matched against Slalu sessions and the filter list and stored or
rejected. -/
def execCanFrameReceived (k : Fin 4) (f : CanFrame) (cyc us : Nat) (s : State) : Host.Outcome State Fault Refusal :=
  .next (s.within [.comm] fun b => b.doCanReceived k f cyc us)

/-- CAN_TX_ATTEMPT (R461): Before a start of frame the controller chooses a pending buffer and checks its tags. -/
def execCanTxAttempt (k : Fin 4) (tag : TagCheck) (s : State) : Host.Outcome State Fault Refusal :=
  .next (s.within [.comm] fun b => b.doCanAttempt k.val tag)

/-- CAN_FRAME_SENT (R461): A transmission succeeds and the buffer reads SENT. -/
def execCanFrameSent (k : Fin 4) (s : State) : Host.Outcome State Fault Refusal :=
  .next (s.within [.comm] fun b => b.doCanSent k.val)

/-- CAN_ARBITRATION_LOST (R461): An attempt loses arbitration and the buffer returns to PENDING. -/
def execCanArbitrationLost (k : Fin 4) (s : State) : Host.Outcome State Fault Refusal :=
  .next (s.within [.comm] fun b => b.doCanLost k.val)

/-- CAN_BUS_ERROR (R452): An error is detected and the counters move the controller to PASSIVE or BUSOFF. -/
def execCanBusError (k : Fin 4) (lec : Fin 7) (dTec dRec : Nat) (s : State) : Host.Outcome State Fault Refusal :=
  .next (s.within [.comm] fun b => b.doCanError k.val lec.val dTec dRec)

/-- CAN_INTEGRATED (R452): 11 consecutive recessive bits take an integrating controller to ACTIVE. -/
def execCanIntegrated (k : Fin 4) (s : State) : Host.Outcome State Fault Refusal :=
  .next (s.onBlk fun b => b.doCanIntegrated k.val)

/-- CAN_PROTOCOL_EXCEPTION (R452): A recessive res bit makes the controller integrate. -/
def execCanProtocolException (k : Fin 4) (s : State) : Host.Outcome State Fault Refusal :=
  .next (s.within [.comm] fun b => b.doCanPxe k.val)

/-- CAN_RECOVER (R452): A write of RECOVER starts bus-off recovery. -/
def execCanRecover (k : Fin 4) (s : State) : Host.Outcome State Fault Refusal :=
  .next (s.onBlk fun b => b.doCanRecover k.val)

/-- CAN_RECOVERY_DONE (R452): 128 recessive sequences are counted and the controller returns to ACTIVE. -/
def execCanRecoveryDone (k : Fin 4) (s : State) : Host.Outcome State Fault Refusal :=
  .next (s.onBlk fun b => b.doCanRecovered k.val)

/-- CAN_SLEEP_ENTER (R465): An accepted sleep takes the controller to SLEEP at the first bus idle. -/
def execCanSleepEnter (k : Fin 4) (s : State) : Host.Outcome State Fault Refusal :=
  .next (s.within [.comm] fun b => b.doCanSleepEnter k.val)

/-- CAN_WAKE_EDGE (R466): A dominant edge wakes a monitoring-role controller. -/
def execCanWakeEdge (k : Fin 4) (s : State) : Host.Outcome State Fault Refusal :=
  .next (s.onBlk fun b => b.doCanWakeEdge k.val)

/-- CAN_WAKE_FRAME (R466): A matching wake frame wakes a control-role controller. -/
def execCanWakeFrame (k : Fin 4) (f : CanFrame) (s : State) : Host.Outcome State Fault Refusal :=
  .next (s.onBlk fun b => b.doCanWakeFrame k.val f)

/-- CAN_RXF_ACK (R458): A write of ACK removes the oldest elements of a receive FIFO. -/
def execCanRxfAck (k : Fin 4) (fifo : Fin 2) (cnt : Byte) (s : State) : Host.Outcome State Fault Refusal :=
  .next (s.onBlk fun b => b.doCanAck k.val fifo.val cnt.toNat)

/-- CAN_RXW_READ (R458): A read of a FIFO head word checks its tag and flags a failure. -/
def execCanRxwRead (k : Fin 4) (fifo : Fin 2) (w : Fin 21) (tag : Option Flip)
    (s : State) : Host.Outcome State Fault Refusal :=
  .next (s.onBlk fun b => b.doCanRead k.val fifo.val w.val tag)

/-- CAN_FLTDAT_ACCESS (R454): An access to CANn_FLTDAT reads or stages a filter word and advances the pointer. -/
def execCanFltdatAccess (k : Fin 4) (wr : Option (Fin 4 × Word)) (s : State) : Host.Outcome State Fault Refusal :=
  .next (s.within [.comm] fun b => b.doPtrAccess .comm (.flt k.val) (R.CANn_FLTDAT_WORD k.val).off (wr.map (fun x => (x.1.val, x.2.toNat))))

/-- LODE_FRAME_RECEIVED (R476): A frame received on a port is checked, tagged and forwarded or delivered to P0. -/
def execLodeFrameReceived (p : Fin 3) (f : EthFrame) (us : Nat) (s : State) : Host.Outcome State Fault Refusal :=
  .next (s.within [.comm] fun b => b.doLodeReceived p.val f us)

/-- LODE_FRAME_TRANSMIT (R479): The highest non-empty queue with an open gate starts a frame that fits its window. -/
def execLodeFrameTransmit (p : Fin 2) (room : List (Option Nat)) (tags : List (Nat × Flip))
    (s : State) : Host.Outcome State Fault Refusal :=
  .next (s.within [.comm] fun b => b.doLodeTransmit p.val room tags)

/-- GCL_ENTRY_EXPIRY (R478): A gate control list interval ends and the next entry's gates open. -/
def execGclEntryExpiry (p : Fin 2) (s : State) : Host.Outcome State Fault Refusal :=
  .next (s.within [.comm] fun b => b.doGclExpiry p.val)

/-- LODE_LINK_UP (R474): A port's PCS reports link. -/
def execLodeLinkUp (p : Fin 2) (speed : Fin 3) (s : State) : Host.Outcome State Fault Refusal :=
  .next (s.within [.comm] fun b => b.doLinkUp p.val speed.val)

/-- LODE_LINK_DOWN (R474): A port loses link and drops its queued frames. -/
def execLodeLinkDown (p : Fin 2) (s : State) : Host.Outcome State Fault Refusal :=
  .next (s.within [.comm] fun b => b.doLinkDown p.val)

/-- GPTP_MESSAGE_RECEIVED (R481): A gPTP message adjusts the servo and the best master choice. -/
def execGptpMessageReceived (p : Fin 2) (m : GptpMsg) (s : State) : Host.Outcome State Fault Refusal :=
  .next (s.within [.comm] fun b => b.doGptp p.val m (b.on R.CLK_STAT_HOLD))

/-- PTP_SYNC_GAINED (R482): Lode becomes synchronised. -/
def execPtpSyncGained (s : State) : Host.Outcome State Fault Refusal :=
  .next (s.within [.comm] fun b => b.doPtpGained.discFollow)

/-- PTP_SYNC_LOST (R482): Lode loses synchronisation. -/
def execPtpSyncLost (s : State) : Host.Outcome State Fault Refusal :=
  .next (s.within [.comm] fun b => b.doPtpLost.discFollow)

/-- CB_RECOVERY_RESET (R485): No frame of a receive stream for RSTTO ms resets its recovery. -/
def execCbRecoveryReset (s_ : Fin 32) (s : State) : Host.Outcome State Fault Refusal :=
  .next (s.within [.comm] fun b => b.doCbReset (s_).val)

/-- CB_PATH_LOSS (R485): Copies from only one port for PATHTO ms raise redundant-path loss. -/
def execCbPathLoss (s_ : Fin 32) (s : State) : Host.Outcome State Fault Refusal :=
  .next (s.within [.comm] fun b => b.doCbPathLoss (s_).val)

/-- LODE_TELEMETRY_SEND (R486): At the end of a TDIV frame Lode sends a telemetry datagram. -/
def execLodeTelemetrySend (s : State) : Host.Outcome State Fault Refusal :=
  .next (s.within [.comm] fun b => b.doLodeTelemetry)

/-- MDIO_GO (R473): A write of GO starts one MDIO transaction. -/
def execMdioGo (v : Word) (s : State) : Host.Outcome State Fault Refusal :=
  .next (s.onBlk fun b => b.doMdioGo v)

/-- MDIO_DONE (R473): The MDIO transaction completes and BUSY clears. -/
def execMdioDone (rdata : BitVec 16) (s : State) : Host.Outcome State Fault Refusal :=
  .next (s.within [.comm] fun b => b.doMdioDone rdata.toNat)

/-- PHY_RESET_RELEASE (R473): 10 ms after a port is enabled Pk_PHYRST_N is released. -/
def execPhyResetRelease (p : Fin 2) (s : State) : Host.Outcome State Fault Refusal :=
  .next (s.within [.comm] fun b => b.doPhyRelease p.val)

/-- GCLDAT_ACCESS (R478): An access to LODE_Pk_GCLDAT reads or stages a list entry and advances the pointer. -/
def execGcldatAccess (p : Fin 2) (wr : Option (Fin 4 × Word)) (s : State) : Host.Outcome State Fault Refusal :=
  .next (s.within [.comm] fun b => b.doPtrAccess .comm (.gcl p.val) (R.LODE_Pk_GCLDAT_INTERVAL p.val).off (wr.map (fun x => (x.1.val, x.2.toNat))))

/-- FDB_ENTRY_AGED (R472): A learned FDB entry reaches the 300 s ageing time and is removed, so frames to that address
are flooded. -/
def execFdbEntryAged (mac : Nat) (s : State) : Host.Outcome State Fault Refusal :=
  .next (s.within [.comm] fun b => b.doFdbAged mac)

end Sys2Proof.Machine
end

