-- ==== Sys2Proof/Machine/CmdPower.lean ====
section
/-! DEFINITION. The meanings of commands: clocks, power, reset, start-up, Strata, Bedrock and register accesses (chapters
1, 22 to 24). One per command; each calls the operation that holds its rule and leaves the queue of commands as it is. -/

namespace Sys2Proof.Machine

/-- The domain that bit i of PWR_DOMSTAT.ON shows (R20). -/
def domAt (i : Nat) : Dom :=
  match i with
  | 0 => .vault | 1 => .safe | 2 => .fabric | 3 => .lpa | 4 => .lpb | 5 => .pwm
  | 6 => .afe | 7 => .feed | 8 => .comm | 9 => .host | 10 => .mir | _ => .nvs

/-- PLL_REFERENCE_LOST (R495): A PLL's reference shows no edge for 4 periods and the PLL enters holdover. -/
def execPllReferenceLost (pll : Fin 3) (s : State) : Host.Outcome State Fault Refusal :=
  .next (s.within [.safe] fun b => b.doRefLost pll.val)

/-- XO_FAILURE (R496): XO fails its window check and the references move to Flint-B / 2. -/
def execXoFailure (stopped : Bool) (w : ClkWindow) (s : State) : Host.Outcome State Fault Refusal :=
  .next (s.onBlk fun b => b.doXoFailure stopped w)

/-- XO_DRIFT (R497): Two consecutive trim counts differ beyond PLAUS and XO fails with cause 2. -/
def execXoDrift (count : Nat) (s : State) : Host.Outcome State Fault Refusal :=
  .next (s.onBlk fun b => b.doXoDrift count)

/-- FLINTB_FAILURE (R501): Flint-B fails its check and the references move to Flint-A / 4. -/
def execFlintbFailure (seen : FlintSeen) (s : State) : Host.Outcome State Fault Refusal :=
  .next (s.onBlk fun b => b.doFlintbFailure seen)

/-- FLINTB_SPARE_LOST (R502): Flint-B fails its check while XO is good and is lost as a spare. -/
def execFlintbSpareLost (s : State) : Host.Outcome State Fault Refusal :=
  .next (s.onBlk fun b => b.doSpareLost)

/-- PLL_RELOCKED (R495): A PLL relocks to its new reference. -/
def execPllRelocked (pll : Fin 3) (s : State) : Host.Outcome State Fault Refusal :=
  .next (s.within [.safe] fun b => b.doRelocked pll.val)

/-- PLL_SP_LOCK_LOSS (R504): PLL-S or PLL-P loses lock and Tumbler stops. -/
def execPllSpLockLoss (p : Bool) (s : State) : Host.Outcome State Fault Refusal :=
  .next (s.within [.safe] fun b => b.doSpLockLoss p)

/-- PLL_N_LOCK_LOSS (R504): PLL-N loses lock and the COMM clocks are gated while it relocks. -/
def execPllNLockLoss (within1s : Bool) (s : State) : Host.Outcome State Fault Refusal :=
  .next (s.within [.safe] fun b => b.doNLockLoss within1s)

/-- X32_FAILURE (R505): X32 fails its check and the real-time clock moves to the Flint-B divider. -/
def execX32Failure (stopped : Bool) (s : State) : Host.Outcome State Fault Refusal :=
  .next (s.onBlk fun b => b.doX32Failure stopped)

/-- XO_RETURN (R503): A write of XORET returns the references to XO. -/
def execXoReturn (tenSecondsGood : Bool) (s : State) : Host.Outcome State Fault Refusal :=
  .next (s.onBlk fun b => b.doXoReturn tenSecondsGood)

/-- VMAIN_START (R511): VMAIN at or above 17.0 V for 1 ms starts start-up. -/
def execVmainStart (s : State) : Host.Outcome State Fault Refusal :=
  .next s.doVmainStart

/-- VMAIN_LOW (R511): VMAIN below 16.0 V for 20 µs begins ride-through. -/
def execVmainLow (s : State) : Host.Outcome State Fault Refusal :=
  .next (s.onBlk fun b => b.doVmainLow)

/-- VMAIN_RECOVER (R511): VMAIN back above 17.0 V for 1 ms ends ride-through. -/
def execVmainRecover (s : State) : Host.Outcome State Fault Refusal :=
  .next (s.onBlk fun b => b.doVmainRecover)

/-- RIDE_EXPIRY (R525): Ride-through lasts RIDE ms and an orderly power-fail shutdown begins. -/
def execRideExpiry (s : State) : Host.Outcome State Fault Refusal :=
  .next s.doRideExpiry

/-- VMAIN_DROPOUT (R526): VMAIN below 12.0 V stops the regulators in an abrupt loss. -/
def execVmainDropout (s : State) : Host.Outcome State Fault Refusal :=
  .next s.doDropout

/-- VMAIN_HIGH (R511): VMAIN above 33.0 V for 1 ms raises an event. -/
def execVmainHigh (s : State) : Host.Outcome State Fault Refusal :=
  .next (s.onBlk fun b => b.doVmainHigh)

/-- VBAK_LOW (R510): VBAK judged below 2.4 V raises an event. -/
def execVbakLow (s : State) : Host.Outcome State Fault Refusal :=
  .next (s.onBlk fun b => b.doVbakLow)

/-- V33OUT_LOW (R558): V33OUT below 2.9 V for 10 µs raises an event. -/
def execV33outLow (mv : Nat) (s : State) : Host.Outcome State Fault Refusal :=
  .next (s.onBlk fun b => b.doV33Low mv)

/-- RAIL_OUT_OF_WINDOW (R513): An internal rail leaves its ±6 % window and its domain is lost. -/
def execRailOutOfWindow (d : Fin 12) (s : State) : Host.Outcome State Fault Refusal :=
  .next (s.doRail (domAt d.val))

/-- REGULATOR_PHASE_FAIL (R21): One regulator phase fails and the other carries the domain. -/
def execRegulatorPhaseFail (d : Fin 12) (s : State) : Host.Outcome State Fault Refusal :=
  .next (s.onBlk fun b => b.doPhase (domAt d.val))

/-- RST_N_ACCEPTED (R521): An RST_N low level accepted by the filter starts a system reset. -/
def execRstNAccepted (s : State) : Host.Outcome State Fault Refusal :=
  .next s.doRstAccepted

/-- PIN_STUCK (R522): RST_N still low 2 s after acceptance is masked and start-up runs. -/
def execPinStuck (s : State) : Host.Outcome State Fault Refusal :=
  .next s.doPinStuck

/-- RST_N_REARM (R522): RST_N seen high for 10 ms re-arms the pin. -/
def execRstNRearm (s : State) : Host.Outcome State Fault Refusal :=
  .next (s.onBlk fun b => b.doRearm)

/-- PWR_STBY (R524): A PWR_CTL write with STBY leads to an orderly shutdown and standby, or is refused. -/
def execPwrStby (v : Word) (s : State) : Host.Outcome State Fault Refusal :=
  .next (s.pwrWrite v.toNat)

/-- PWR_SYSRST (R524): A PWR_CTL write with SYSRST leads to an orderly shutdown and a system reset. -/
def execPwrSysrst (v : Word) (s : State) : Host.Outcome State Fault Refusal :=
  .next (s.pwrWrite v.toNat)

/-- WAKE_PIN (R527): WAKE_N low for 1 ms wakes the module from standby. -/
def execWakePin (s : State) : Host.Outcome State Fault Refusal :=
  .next s.doWakePin

/-- RTC_ALARM (R527): PWR_RTC reaches PWR_ALARM and wakes the module from standby. -/
def execRtcAlarm (s : State) : Host.Outcome State Fault Refusal :=
  .next s.doRtcAlarm

/-- HASP_SELF_TEST_DONE (R341): Hasp's self-test ends, the image slot is chosen and the outputs may begin closing. -/
def execHaspSelfTestDone (coresOk : Bool) (outs : List StoSelfTest) (safety : List (Nat × Word)) (sdi : List (Bool × Bool)) (jbad corr : Nat)
    (s : State) : Host.Outcome State Fault Refusal :=
  .next (s.doSelfTest coresOk outs safety sdi jbad corr)

/-- XO_DELAY_END (R491): The strapped XO delay ends and XO is judged, the PLLs then lock. -/
def execXoDelayEnd (pass : Bool) (strap : Fin 8) (s : State) : Host.Outcome State Fault Refusal :=
  .next (s.onBlk fun b => b.doXoDelay pass strap.val)

/-- FABRIC_UP (R514): The FABRIC rail is up, Flint-B counted and SRAM cleared. -/
def execFabricUp (flintbPass : Bool) (s : State) : Host.Outcome State Fault Refusal :=
  .next (s.onBlk fun b => b.doFabricUp flintbPass)

/-- IMAGE_VERIFY_DONE (R517): The chosen image is verified and loaded, or marked bad with a KEYSTONE reset. -/
def execImageVerifyDone (crcOk : Bool) (img : Image) (s : State) : Host.Outcome State Fault Refusal :=
  .next (s.doVerify crcOk img)

/-- DOMAINS_UP (R514): The remaining domains are up and loaded and the pairs have run their self-tests. -/
def execDomainsUp (failedPairs : List (Fin 5)) (strap : Fin 4) (pins : List Bool)
    (s : State) : Host.Outcome State Fault Refusal :=
  .next (s.doDomainsUp (failedPairs.map (fun k => k.val)) strap.val pins)

/-- READY (R519): The first tick opens frame 0 and ownership is settled. -/
def execReady (t01ms : Nat) (partnerAfterTie : Bool) (s : State) : Host.Outcome State Fault Refusal :=
  .next (s.onBlk fun b => b.doReady t01ms partnerAfterTie)

/-- STRATA_INTERVAL_END (R537): An interval ends, the banks swap and a record write begins. -/
def execStrataIntervalEnd (corr : Nat) (s : State) : Host.Outcome State Fault Refusal :=
  .next (s.doIntervalEnd corr)

/-- STRATA_SNAP (R537): A SNAP write ends the interval at the next tick. -/
def execStrataSnap (s : State) : Host.Outcome State Fault Refusal :=
  .next (s.within [.nvs] fun b => b.doSnap)

/-- STRATA_RECORD_DONE (R543): The record write completes and the old bank is cleared. -/
def execStrataRecordDone (s : State) : Host.Outcome State Fault Refusal :=
  .next s.doRecordDone

/-- NVS_DMA_READ (R534): GO with DIR 0 starts a transfer from Bedrock to the host. -/
def execNvsDmaRead (corr : Nat) (s : State) : Host.Outcome State Fault Refusal :=
  .next (s.dmaGo false [] corr)

/-- NVS_DMA_WRITE (R534): GO with DIR 1 starts a transfer from the host into an erased slot. -/
def execNvsDmaWrite (data : List Byte) (corr : Nat) (s : State) : Host.Outcome State Fault Refusal :=
  .next (s.dmaGo true data corr)

/-- NVS_DMA_DONE (R534): A Bedrock transfer completes and BUSY clears. -/
def execNvsDmaDone (pcieErr : Bool) (s : State) : Host.Outcome State Fault Refusal :=
  .next (s.doDmaDone pcieErr)

/-- NVS_SLOT_ERASE (R535): An ERASE sets a slot's STATE to empty. -/
def execNvsSlotErase (v : Word) (s : State) : Host.Outcome State Fault Refusal :=
  .next (s.slotWrite v.toNat)

/-- NVS_SLOT_COMMIT (R535): A COMMIT starts the checks of an image written into a slot. -/
def execNvsSlotCommit (v : Word) (s : State) : Host.Outcome State Fault Refusal :=
  .next (s.slotWrite v.toNat)

/-- NVS_SLOT_COMMIT_DONE (R535): The slot checks end and the slot is marked ready or the failure is reported. -/
def execNvsSlotCommitDone (s : State) : Host.Outcome State Fault Refusal :=
  .next s.doSlotDone

/-- SN_TABDAT_ACCESS (R436): An access to Sn_TABDAT reads or stages a table entry pair and advances Sn_TABADR. -/
def execSnTabdatAccess (n : Fin 8) (wr : Option (Fin 4 × Word)) (s : State) : Host.Outcome State Fault Refusal :=
  .next (s.within [.fabric] fun b => b.doPtrAccess .pwm (.tab n.val) (R.Sn_TABDAT_EVEN n.val).off (wr.map (fun x => (x.1.val, x.2.toNat))))

/-- LATCHING_LOW_WORD_READ (R10): A read of a latching low word returns it and latches the high word. -/
def execLatchingLowWordRead (off : Nat) (s : State) : Host.Outcome State Fault Refusal :=
  .next (s.onBlk fun b => b.latchRead off)

/-- REGISTER_WRITE (R11): A BAR0 write to a register without behaviour of its own acts by its access type. -/
def execRegisterWrite (off width : Nat) (v : Word) (s : State) : Host.Outcome State Fault Refusal :=
  .next (s.registerWrite off width v)

/-- V33OUT_RECOVERED (R558): V33OUT returns within its window and a start-up waiting at a strap read proceeds. -/
def execV33outRecovered (s : State) : Host.Outcome State Fault Refusal :=
  .next (s.onBlk fun b => b.doV33Back)

/-- RST_N_RELEASED (R521): RST_N returns high and a module held in system reset begins start-up from step 2. -/
def execRstNReleased (s : State) : Host.Outcome State Fault Refusal :=
  .next s.doRstReleased

/-- HOLDOVER_BOUND_LOST (R499): 24 h after the switch to holdover, BOUND reads 511 and event 0x0114 is raised once. -/
def execHoldoverBoundLost (s : State) : Host.Outcome State Fault Refusal :=
  .next (s.within [.safe] fun b => b.doBoundLost)

/-- VAULT_POWER_ON (R510): VBAK first powers the VAULT domain with VMAIN absent, the real-time clock starts from 0 and
the X32 delay begins. -/
def execVaultPowerOn (strap : Fin 4) (s : State) : Host.Outcome State Fault Refusal :=
  .next (s.onBlk fun b => b.doVaultOn strap.val)

/-- VAULT_LOSS (R510): With VMAIN absent, VBAK is removed, VAULT is lost and its POR registers and real-time clock are
lost. -/
def execVaultLoss (s : State) : Host.Outcome State Fault Refusal :=
  .next (s.onBlk fun b => b.doVaultLoss)

/-- X32_DELAY_END (R490): The strapped X32 delay ends after VAULT power-on and X32 is judged stable for the real-time
clock. -/
def execX32DelayEnd (s : State) : Host.Outcome State Fault Refusal :=
  .next (s.onBlk fun b => b.doX32Delay)

end Sys2Proof.Machine
end

