-- ==== Sys2Proof/Machine/Dispatch.lean ====
section
/-! DEFINITION. The dispatch: one arm per command, in the order of spec/opcode_table.json. -/

namespace Sys2Proof.Machine

/-- The effect of a command on everything but the queue of commands. -/
def exec (i : Instr) (s : State) : Host.Outcome State Fault Refusal :=
  match i with
  | .frameTick phErr differ => Sys2Proof.Machine.execFrameTick phErr differ s
  | .disciplineLocked => Sys2Proof.Machine.execDisciplineLocked s
  | .samplePhase smp tagFails ecc => Sys2Proof.Machine.execSamplePhase smp tagFails ecc s
  | .laneDisagreement k post bad => Sys2Proof.Machine.execLaneDisagreement k post bad s
  | .spareSelfcheckFail => Sys2Proof.Machine.execSpareSelfcheckFail s
  | .channelOverrun x => Sys2Proof.Machine.execChannelOverrun x s
  | .channelMovedToSpare x => Sys2Proof.Machine.execChannelMovedToSpare x s
  | .channelDegradedOverruns c => Sys2Proof.Machine.execChannelDegradedOverruns c s
  | .outputPhase tagFails => Sys2Proof.Machine.execOutputPhase tagFails s
  | .shadowTransfer c peak cyc t => Sys2Proof.Machine.execShadowTransfer c peak cyc t s
  | .checkpointWrite k => Sys2Proof.Machine.execCheckpointWrite k s
  | .fastTrip n => Sys2Proof.Machine.execFastTrip n s
  | .filteredTripAccept n => Sys2Proof.Machine.execFilteredTripAccept n s
  | .tripPulseRejected n => Sys2Proof.Machine.execTripPulseRejected n s
  | .overcurrentVerdict c => Sys2Proof.Machine.execOvercurrentVerdict c s
  | .grdyQualifiedChange n leg level cyc => Sys2Proof.Machine.execGrdyQualifiedChange n leg level cyc s
  | .start h n => Sys2Proof.Machine.execStart h n s
  | .drvStop h n mode => Sys2Proof.Machine.execDrvStop h n mode s
  | .setSpeed h n v => Sys2Proof.Machine.execSetSpeed h n v s
  | .setTorque h n v => Sys2Proof.Machine.execSetTorque h n v s
  | .coefWrite h c idx val => Sys2Proof.Machine.execCoefWrite h c idx val s
  | .leverSelect h n src => Sys2Proof.Machine.execLeverSelect h n src s
  | .bridgeResume h n => Sys2Proof.Machine.execBridgeResume h n s
  | .nop h => Sys2Proof.Machine.execNop h s
  | .zeroCrossing n phase rising tin tout edgeAge => Sys2Proof.Machine.execZeroCrossing n phase rising tin tout edgeAge s
  | .softstepCommutation n t => Sys2Proof.Machine.execSoftstepCommutation n t s
  | .syncLoss n => Sys2Proof.Machine.execSyncLoss n s
  | .commutationHandover n => Sys2Proof.Machine.execCommutationHandover n s
  | .handoverBlendEnd n => Sys2Proof.Machine.execHandoverBlendEnd n s
  | .sensorlessRampStop n => Sys2Proof.Machine.execSensorlessRampStop n s
  | .sensorlessReverseRestart n => Sys2Proof.Machine.execSensorlessReverseRestart n s
  | .fallbackAcquisitionFail n => Sys2Proof.Machine.execFallbackAcquisitionFail n s
  | .catchEnd n => Sys2Proof.Machine.execCatchEnd n s
  | .catchWindowDecision n => Sys2Proof.Machine.execCatchWindowDecision n s
  | .waitmaxExpiry n => Sys2Proof.Machine.execWaitmaxExpiry n s
  | .brakeRampEnd n => Sys2Proof.Machine.execBrakeRampEnd n s
  | .alignEnd n => Sys2Proof.Machine.execAlignEnd n s
  | .ifHandover n => Sys2Proof.Machine.execIfHandover n s
  | .ifFmaxAbort n => Sys2Proof.Machine.execIfFmaxAbort n s
  | .chopperOn n v vPast idleBefore => Sys2Proof.Machine.execChopperOn n v vPast idleBefore s
  | .chopperOff x => Sys2Proof.Machine.execChopperOff x s
  | .chopperCheck n fb v => Sys2Proof.Machine.execChopperCheck n fb v s
  | .chopperStuckOn x => Sys2Proof.Machine.execChopperStuckOn x s
  | .brkClear h n => Sys2Proof.Machine.execBrkClear h n s
  | .brkClearTestEnd n fbPulse fbHold vPast v0 v idleBefore => Sys2Proof.Machine.execBrkClearTestEnd n fbPulse fbHold vPast v0 v idleBefore s
  | .ov2Reached n v => Sys2Proof.Machine.execOv2Reached n v s
  | .ascHoldEnd n => Sys2Proof.Machine.execAscHoldEnd n s
  | .ov3Demand x => Sys2Proof.Machine.execOv3Demand x s
  | .ov3DemandEnd x => Sys2Proof.Machine.execOv3DemandEnd x s
  | .ntcRecover k => Sys2Proof.Machine.execNtcRecover k s
  | .thermalXchkFail n winding => Sys2Proof.Machine.execThermalXchkFail n winding s
  | .thermalRateRecover n winding => Sys2Proof.Machine.execThermalRateRecover n winding s
  | .ovrdAsserted => Sys2Proof.Machine.execOvrdAsserted s
  | .ovrdReleased => Sys2Proof.Machine.execOvrdReleased s
  | .tshut k => Sys2Proof.Machine.execTshut k s
  | .tshutRecover => Sys2Proof.Machine.execTshutRecover s
  | .stoClosingLowCheck k ma sns => Sys2Proof.Machine.execStoClosingLowCheck k ma sns s
  | .stoClosingHighCheck k ma sns => Sys2Proof.Machine.execStoClosingHighCheck k ma sns s
  | .stoTestSlot k => Sys2Proof.Machine.execStoTestSlot k s
  | .stoTestEnd k ma snsDuring snsEnd snsAfter hsPin => Sys2Proof.Machine.execStoTestEnd k ma snsDuring snsEnd snsAfter hsPin s
  | .stoCurrentLimit k => Sys2Proof.Machine.execStoCurrentLimit k s
  | .sdiDemand k a b => Sys2Proof.Machine.execSdiDemand k a b s
  | .sdiReturnHealthy k withinDisc => Sys2Proof.Machine.execSdiReturnHealthy k withinDisc s
  | .sdiDiscrepancy k => Sys2Proof.Machine.execSdiDiscrepancy k s
  | .stoResetPulse k us => Sys2Proof.Machine.execStoResetPulse k us s
  | .ss1Timeout k => Sys2Proof.Machine.execSs1Timeout k s
  | .degTimeExpiry c flintA => Sys2Proof.Machine.execDegTimeExpiry c flintA s
  | .stopmaxExpiry c => Sys2Proof.Machine.execStopmaxExpiry c s
  | .tickWatchdogExpiry => Sys2Proof.Machine.execTickWatchdogExpiry s
  | .haspInternalFault firmware => Sys2Proof.Machine.execHaspInternalFault firmware s
  | .slaluFrameReceived from_ bytes tags us => Sys2Proof.Machine.execSlaluFrameReceived from_ bytes tags us s
  | .slaluWatchdogExpiry x => Sys2Proof.Machine.execSlaluWatchdogExpiry x s
  | .haspSessionWatchdog x => Sys2Proof.Machine.execHaspSessionWatchdog x s
  | .sllTxdata h x run ofs cnt data => Sys2Proof.Machine.execSllTxdata h x run ofs cnt data s
  | .mgmtFrameSend => Sys2Proof.Machine.execMgmtFrameSend s
  | .mgmtFrameReceived bytes => Sys2Proof.Machine.execMgmtFrameReceived bytes s
  | .inputInvalidByTags c w => Sys2Proof.Machine.execInputInvalidByTags c w s
  | .fabricBlockFailed b => Sys2Proof.Machine.execFabricBlockFailed b s
  | .sramBankThreshold b chs => Sys2Proof.Machine.execSramBankThreshold b chs s
  | .sramBankCopyDone b => Sys2Proof.Machine.execSramBankCopyDone b s
  | .shadowRotate g => Sys2Proof.Machine.execShadowRotate g s
  | .laneResidueFail l => Sys2Proof.Machine.execLaneResidueFail l s
  | .shadowMismatch g outvoted => Sys2Proof.Machine.execShadowMismatch g outvoted s
  | .sarRotate => Sys2Proof.Machine.execSarRotate s
  | .sarShadowMismatch cv cvBad rotBad => Sys2Proof.Machine.execSarShadowMismatch cv cvBad rotBad s
  | .modulatorStuck k high => Sys2Proof.Machine.execModulatorStuck k high s
  | .gainCheckFail n kind value => Sys2Proof.Machine.execGainCheckFail n kind value s
  | .flintbTrimCount count whole => Sys2Proof.Machine.execFlintbTrimCount count whole s
  | .trimTableSave => Sys2Proof.Machine.execTrimTableSave s
  | .feedbackVerdict n => Sys2Proof.Machine.execFeedbackVerdict n s
  | .supervisionSettleEnd n => Sys2Proof.Machine.execSupervisionSettleEnd n s
  | .supClear h n => Sys2Proof.Machine.execSupClear h n s
  | .injStart h k => Sys2Proof.Machine.execInjStart h k s
  | .injStop h k => Sys2Proof.Machine.execInjStop h k s
  | .injectionComplete k => Sys2Proof.Machine.execInjectionComplete k s
  | .capStart h k => Sys2Proof.Machine.execCapStart h k s
  | .capStop h k => Sys2Proof.Machine.execCapStop h k s
  | .captureLevelTrigger k => Sys2Proof.Machine.execCaptureLevelTrigger k s
  | .captureEnd k => Sys2Proof.Machine.execCaptureEnd k s
  | .energize h n => Sys2Proof.Machine.execEnergize h n s
  | .deenergize h n => Sys2Proof.Machine.execDeenergize h n s
  | .stepperBridgeFault n => Sys2Proof.Machine.execStepperBridgeFault n s
  | .move h a kind blend target vmax amax dmax => Sys2Proof.Machine.execMove h a kind blend target vmax amax dmax s
  | .axisStop h a => Sys2Proof.Machine.execAxisStop h a s
  | .resume h a => Sys2Proof.Machine.execResume h a s
  | .moveFlush h a => Sys2Proof.Machine.execMoveFlush h a s
  | .home h a => Sys2Proof.Machine.execHome h a s
  | .moveStart a => Sys2Proof.Machine.execMoveStart a s
  | .moveComplete a => Sys2Proof.Machine.execMoveComplete a s
  | .axisStandstill a => Sys2Proof.Machine.execAxisStandstill a s
  | .holdCurrentFall n => Sys2Proof.Machine.execHoldCurrentFall n s
  | .stallDetected n => Sys2Proof.Machine.execStallDetected n s
  | .homingFailed n => Sys2Proof.Machine.execHomingFailed n s
  | .shareJoinComplete g x => Sys2Proof.Machine.execShareJoinComplete g x s
  | .shareSpeedDeviation g x => Sys2Proof.Machine.execShareSpeedDeviation g x s
  | .shareExchangeLost g => Sys2Proof.Machine.execShareExchangeLost g s
  | .shareIsolRejoin g x => Sys2Proof.Machine.execShareIsolRejoin g x s
  | .ownInReleased => Sys2Proof.Machine.execOwnInReleased s
  | .takeoverClaim => Sys2Proof.Machine.execTakeoverClaim s
  | .takeoverResume => Sys2Proof.Machine.execTakeoverResume s
  | .partnerLineReasserted => Sys2Proof.Machine.execPartnerLineReasserted s
  | .hingeFrameReceived lane f us => Sys2Proof.Machine.execHingeFrameReceived lane f us s
  | .hingeFrameMissing => Sys2Proof.Machine.execHingeFrameMissing s
  | .hingeSilent => Sys2Proof.Machine.execHingeSilent s
  | .hingeLaneRetire lane => Sys2Proof.Machine.execHingeLaneRetire lane s
  | .standbyReady => Sys2Proof.Machine.execStandbyReady s
  | .pairHandover h => Sys2Proof.Machine.execPairHandover h s
  | .commandDoorbell r v => Sys2Proof.Machine.execCommandDoorbell r v s
  | .completionDoorbell r v => Sys2Proof.Machine.execCompletionDoorbell r v s
  | .telemetryDoorbell r v => Sys2Proof.Machine.execTelemetryDoorbell r v s
  | .eventDoorbell v => Sys2Proof.Machine.execEventDoorbell v s
  | .heartbeatDoorbell v => Sys2Proof.Machine.execHeartbeatDoorbell v s
  | .bar2StrayWrite off v => Sys2Proof.Machine.execBar2StrayWrite off v s
  | .descriptorFetch r descs cyc dmaErr => Sys2Proof.Machine.execDescriptorFetch r descs cyc dmaErr s
  | .completionWrite r tag dmaErr => Sys2Proof.Machine.execCompletionWrite r tag dmaErr s
  | .telemetryRecord src tag dmaErr => Sys2Proof.Machine.execTelemetryRecord src tag dmaErr s
  | .eventEntryWrite tag dmaErr => Sys2Proof.Machine.execEventEntryWrite tag dmaErr s
  | .msixSignal v => Sys2Proof.Machine.execMsixSignal v s
  | .ringReset q => Sys2Proof.Machine.execRingReset q s
  | .perst linkDown => Sys2Proof.Machine.execPerst linkDown s
  | .heartbeatLoss => Sys2Proof.Machine.execHeartbeatLoss s
  | .leverStart n => Sys2Proof.Machine.execLeverStart n s
  | .leverStop n => Sys2Proof.Machine.execLeverStop n s
  | .leverRestored l => Sys2Proof.Machine.execLeverRestored l s
  | .txnBegin h => Sys2Proof.Machine.execTxnBegin h s
  | .txnWrite h off val => Sys2Proof.Machine.execTxnWrite h off val s
  | .txnCommit h => Sys2Proof.Machine.execTxnCommit h s
  | .txnRollback h => Sys2Proof.Machine.execTxnRollback h s
  | .txnValidationDone r cyc => Sys2Proof.Machine.execTxnValidationDone r cyc s
  | .txnCommitApply r => Sys2Proof.Machine.execTxnCommitApply r s
  | .txnTimeout r => Sys2Proof.Machine.execTxnTimeout r s
  | .canFrameReceived k f cyc us => Sys2Proof.Machine.execCanFrameReceived k f cyc us s
  | .canTxAttempt k tag => Sys2Proof.Machine.execCanTxAttempt k tag s
  | .canFrameSent k => Sys2Proof.Machine.execCanFrameSent k s
  | .canArbitrationLost k => Sys2Proof.Machine.execCanArbitrationLost k s
  | .canBusError k lec dTec dRec => Sys2Proof.Machine.execCanBusError k lec dTec dRec s
  | .canIntegrated k => Sys2Proof.Machine.execCanIntegrated k s
  | .canProtocolException k => Sys2Proof.Machine.execCanProtocolException k s
  | .canRecover k => Sys2Proof.Machine.execCanRecover k s
  | .canRecoveryDone k => Sys2Proof.Machine.execCanRecoveryDone k s
  | .canSleepEnter k => Sys2Proof.Machine.execCanSleepEnter k s
  | .canWakeEdge k => Sys2Proof.Machine.execCanWakeEdge k s
  | .canWakeFrame k f => Sys2Proof.Machine.execCanWakeFrame k f s
  | .canRxfAck k fifo cnt => Sys2Proof.Machine.execCanRxfAck k fifo cnt s
  | .canRxwRead k fifo w tag => Sys2Proof.Machine.execCanRxwRead k fifo w tag s
  | .canTx h k buf flags dlc id data => Sys2Proof.Machine.execCanTx h k buf flags dlc id data s
  | .canStage h k buf ofs cnt data => Sys2Proof.Machine.execCanStage h k buf ofs cnt data s
  | .canCancel h k buf won => Sys2Proof.Machine.execCanCancel h k buf won s
  | .canSleep h k => Sys2Proof.Machine.execCanSleep h k s
  | .canWake h k => Sys2Proof.Machine.execCanWake h k s
  | .canFltdatAccess k wr => Sys2Proof.Machine.execCanFltdatAccess k wr s
  | .lodeFrameReceived p f us => Sys2Proof.Machine.execLodeFrameReceived p f us s
  | .lodeFrameTransmit p room tags => Sys2Proof.Machine.execLodeFrameTransmit p room tags s
  | .gclEntryExpiry p => Sys2Proof.Machine.execGclEntryExpiry p s
  | .lodeLinkUp p speed => Sys2Proof.Machine.execLodeLinkUp p speed s
  | .lodeLinkDown p => Sys2Proof.Machine.execLodeLinkDown p s
  | .gptpMessageReceived p m => Sys2Proof.Machine.execGptpMessageReceived p m s
  | .ptpSyncGained => Sys2Proof.Machine.execPtpSyncGained s
  | .ptpSyncLost => Sys2Proof.Machine.execPtpSyncLost s
  | .cbRecoveryReset x => Sys2Proof.Machine.execCbRecoveryReset x s
  | .cbPathLoss x => Sys2Proof.Machine.execCbPathLoss x s
  | .lodeTelemetrySend => Sys2Proof.Machine.execLodeTelemetrySend s
  | .mdioGo v => Sys2Proof.Machine.execMdioGo v s
  | .mdioDone rdata => Sys2Proof.Machine.execMdioDone rdata s
  | .phyResetRelease p => Sys2Proof.Machine.execPhyResetRelease p s
  | .gcldatAccess p wr => Sys2Proof.Machine.execGcldatAccess p wr s
  | .pllReferenceLost pll => Sys2Proof.Machine.execPllReferenceLost pll s
  | .xoFailure stopped dev => Sys2Proof.Machine.execXoFailure stopped dev s
  | .xoDrift count => Sys2Proof.Machine.execXoDrift count s
  | .flintbFailure stopped => Sys2Proof.Machine.execFlintbFailure stopped s
  | .flintbSpareLost => Sys2Proof.Machine.execFlintbSpareLost s
  | .pllRelocked pll => Sys2Proof.Machine.execPllRelocked pll s
  | .pllSpLockLoss p => Sys2Proof.Machine.execPllSpLockLoss p s
  | .pllNLockLoss within1s => Sys2Proof.Machine.execPllNLockLoss within1s s
  | .x32Failure stopped => Sys2Proof.Machine.execX32Failure stopped s
  | .xoReturn tenSecondsGood => Sys2Proof.Machine.execXoReturn tenSecondsGood s
  | .vmainStart => Sys2Proof.Machine.execVmainStart s
  | .vmainLow => Sys2Proof.Machine.execVmainLow s
  | .vmainRecover => Sys2Proof.Machine.execVmainRecover s
  | .rideExpiry => Sys2Proof.Machine.execRideExpiry s
  | .vmainDropout => Sys2Proof.Machine.execVmainDropout s
  | .vmainHigh => Sys2Proof.Machine.execVmainHigh s
  | .vbakLow => Sys2Proof.Machine.execVbakLow s
  | .v33outLow mv => Sys2Proof.Machine.execV33outLow mv s
  | .railOutOfWindow d => Sys2Proof.Machine.execRailOutOfWindow d s
  | .regulatorPhaseFail d => Sys2Proof.Machine.execRegulatorPhaseFail d s
  | .rstNAccepted => Sys2Proof.Machine.execRstNAccepted s
  | .pinStuck => Sys2Proof.Machine.execPinStuck s
  | .rstNRearm => Sys2Proof.Machine.execRstNRearm s
  | .pwrStby v => Sys2Proof.Machine.execPwrStby v s
  | .pwrSysrst v => Sys2Proof.Machine.execPwrSysrst v s
  | .wakePin => Sys2Proof.Machine.execWakePin s
  | .rtcAlarm => Sys2Proof.Machine.execRtcAlarm s
  | .haspSelfTestDone coresOk outs safety sdi jbad corr => Sys2Proof.Machine.execHaspSelfTestDone coresOk outs safety sdi jbad corr s
  | .xoDelayEnd pass strap => Sys2Proof.Machine.execXoDelayEnd pass strap s
  | .fabricUp flintbPass => Sys2Proof.Machine.execFabricUp flintbPass s
  | .imageVerifyDone crcOk img => Sys2Proof.Machine.execImageVerifyDone crcOk img s
  | .domainsUp failedPairs strap pins => Sys2Proof.Machine.execDomainsUp failedPairs strap pins s
  | .ready t01ms partnerAfterTie => Sys2Proof.Machine.execReady t01ms partnerAfterTie s
  | .strataIntervalEnd corr => Sys2Proof.Machine.execStrataIntervalEnd corr s
  | .strataSnap => Sys2Proof.Machine.execStrataSnap s
  | .strataRecordDone => Sys2Proof.Machine.execStrataRecordDone s
  | .nvsDmaRead corr => Sys2Proof.Machine.execNvsDmaRead corr s
  | .nvsDmaWrite data corr => Sys2Proof.Machine.execNvsDmaWrite data corr s
  | .nvsDmaDone pcieErr => Sys2Proof.Machine.execNvsDmaDone pcieErr s
  | .nvsSlotErase v => Sys2Proof.Machine.execNvsSlotErase v s
  | .nvsSlotCommit v => Sys2Proof.Machine.execNvsSlotCommit v s
  | .nvsSlotCommitDone => Sys2Proof.Machine.execNvsSlotCommitDone s
  | .snTabdatAccess n wr => Sys2Proof.Machine.execSnTabdatAccess n wr s
  | .latchingLowWordRead off => Sys2Proof.Machine.execLatchingLowWordRead off s
  | .registerWrite off width v => Sys2Proof.Machine.execRegisterWrite off width v s
  | .feedbackEdge p a b z t => Sys2Proof.Machine.execFeedbackEdge p a b z t s
  | .indexLatch p => Sys2Proof.Machine.execIndexLatch p s
  | .comparePulseEnd p => Sys2Proof.Machine.execComparePulseEnd p s
  | .encoderEmulationEdge p => Sys2Proof.Machine.execEncoderEmulationEdge p s
  | .v33outRecovered => Sys2Proof.Machine.execV33outRecovered s
  | .rstNReleased => Sys2Proof.Machine.execRstNReleased s
  | .perstNDeassert gen width => Sys2Proof.Machine.execPerstNDeassert gen width s
  | .fdbEntryAged mac => Sys2Proof.Machine.execFdbEntryAged mac s
  | .holdoverBoundLost => Sys2Proof.Machine.execHoldoverBoundLost s
  | .vaultPowerOn strap => Sys2Proof.Machine.execVaultPowerOn strap s
  | .vaultLoss => Sys2Proof.Machine.execVaultLoss s
  | .x32DelayEnd => Sys2Proof.Machine.execX32DelayEnd s

end Sys2Proof.Machine
end

