-- ==== Sys2Proof/Safety.lean ====
section
/-! DEFINITION. What counts as a safe run of the block, in the terms the statements use: a run in which every step
answers a next state; and what it means that an event is reported and a completion decided. -/

namespace Sys2Proof

/-- A step from `s` answers a next state: it neither faults nor is refused. -/
def Runs (s : Machine.State) : Prop := ∃ t, Machine.step s = .next t

/-- `n` steps in a row answer a next state. -/
def RunsFor : Nat → Machine.State → Prop
  | 0, _ => True
  | n + 1, s => ∃ t, Machine.step s = .next t ∧ RunsFor n t

/-- The event of `code` and `src` is reported (R424): one of severity 3 stands in the internal queue; a lower one waits
for the ring, or the filter of its class rejects its severity, or the ring has no space and what was dropped for want of it
is counted. -/
def Reported (b : Machine.Blk) (code src : Nat) : Prop :=
  if Machine.severity code = 3 then ∃ e ∈ b.evs.high, e.code = code ∧ e.src = src
  else (∃ e ∈ b.evs.low, e.code = code ∧ e.src = src) ∨
    Machine.severity code < b.rd (Machine.sliceOf Machine.R.HIF_EVFILT_MIN (Machine.evClass code) 2) ∨
    (0 < b.evs.drops ∧ b.ringSpace 10 ≤ b.evs.low.length)

/-- The completion of a command's TAG and OPCODE is decided on its ring with a status and a DETAIL, and with the
FRAME_NO in force (R416, R418): the ring's list of fetched descriptors holds it. -/
def Decided (b : Machine.Blk) (h : Hdr) (op status detail : Nat) : Prop :=
  ∀ l, b.host.slots[h.ring.val]? = some l →
    ∃ x ∈ l, x.tag = h.tag.toNat ∧ x.op = op ∧ x.res = some (status, b.fn, detail)

/-- A command answers a next state of which P holds. -/
def Yields (c : Instr) (s : Machine.State) (P : Machine.State → Prop) : Prop :=
  ∃ t, Machine.exec c s = .next t ∧ P t

/-- Every register word outside some offsets is as before. -/
def SameBut (b b' : Machine.Blk) (touched : Nat → Prop) : Prop := ∀ a, ¬ touched a → b'.word a = b.word a

end Sys2Proof
end

