-- ==== Sys2Proof/Certificates/Slice0/Obligations.lean ====
section
/-! DEFINITION. The statements about the block, for the provers. Each docstring names the rules it formalises; nothing is
proved here. -/

open Sys2Proof Sys2Proof.Machine

/-- R74, R76, R77: a trip at TRIPn_N that the selected path accepts. In BLOCKED, RUN or ASC it latches: all gates off,
or the active short circuit where ACT is 1 and the state was RUN or ASC; TSRC 0, the counter, event 0x3306. In a trip
state it changes nothing but the input's level, in RELEASED it only counts, and an unconfigured channel ignores it; with
the PWM domain off nothing happens (R20). A trip on a channel configured and not selected by FEN, and a trip that
comes in a trip state, are the model's reading (log entries 1, 97). -/
def Obligations.TripAtPin : Prop :=
  ∀ (s : State) (n : Fin 8) (filtered : Bool) (c : Instr),
    c = (if filtered then Instr.filteredTripAccept n else Instr.fastTrip n) →
    (s.blk.powered .pwm = false → Yields c s fun t => t = s) ∧
    (s.blk.on (R.Dn_CFG_EN n) = false ∨ s.blk.on (R.Dn_TRIP_FEN n) ≠ filtered → Yields c s fun t => t = s) ∧
    (s.blk.on (R.Dn_CFG_EN n) = true → s.blk.on (R.Dn_TRIP_FEN n) = filtered → s.blk.powered .pwm = true →
      (s.blk.pstate n ≤ 2 → Yields c s fun t =>
        t.blk.on (R.Dn_STAT_TRIP n) = true ∧ t.blk.on (R.Dn_STAT_TRIPIN n) = true ∧ t.blk.rd (R.Dn_STAT_TSRC n) = 0 ∧
        t.blk.pstate n = (if s.blk.on (R.Dn_TRIP_ACT n) = true ∧ 1 ≤ s.blk.pstate n then 4 else 3) ∧
        t.blk.rd (R.Dn_TRIPCNT_TRIPS n) = min (s.blk.rd (R.Dn_TRIPCNT_TRIPS n) + 1) (R.Dn_TRIPCNT_TRIPS n).top ∧
        Reported t.blk 0x3306 n) ∧
      (s.blk.pstate n = 3 ∨ s.blk.pstate n = 4 → Yields c s fun t =>
        t.blk.on (R.Dn_STAT_TRIPIN n) = true ∧ t.blk.pstate n = s.blk.pstate n ∧
        SameBut s.blk t.blk (fun a => a = (R.Dn_STAT_W n).off) ∧ t.blk.evs = s.blk.evs) ∧
      (s.blk.pstate n = 5 → Yields c s fun t =>
        t.blk.pstate n = 5 ∧ t.blk.evs = s.blk.evs ∧
        t.blk.rd (R.Dn_TRIPCNT_TRIPS n) = min (s.blk.rd (R.Dn_TRIPCNT_TRIPS n) + 1) (R.Dn_TRIPCNT_TRIPS n).top))

/-- R77, R78, R140, R245: a low pulse that the trip filter rejects is only counted; a sinc2 overcurrent verdict trips a
drive with OC_EN with TSRC 1 and event 0x3307, and latches OC and FAULT on a stepper in HOLD or MOVE with event 0x4305;
outputs of which no phase or winding has OCCNT + 1 in a row at OCTH or above reach no verdict. -/
def Obligations.OvercurrentTrips : Prop :=
  (∀ (s : State) (n : Fin 8), s.blk.powered .pwm = true → s.blk.on (R.Dn_CFG_EN n) = true →
    s.blk.on (R.Dn_TRIP_FEN n) = true → Yields (.tripPulseRejected n) s fun t =>
      t.blk.rd (R.Dn_TRIPCNT_REJ n) = min (s.blk.rd (R.Dn_TRIPCNT_REJ n) + 1) (R.Dn_TRIPCNT_REJ n).top ∧
      t.blk.pstate n = s.blk.pstate n ∧
      SameBut s.blk t.blk (fun a => a = (R.Dn_TRIPCNT_REJ n).off ∨ a = R.HIF_EVDROP_COUNT.off)) ∧
  (∀ (s : State) (c : Fin 16) (outs : List (Int × Int)), c.val < 8 → s.blk.on (R.Dn_CFG_EN c) = true →
    s.blk.rd (R.AFE_OCTH_OCTH c) ≠ 0 → s.blk.ocReached c outs ≠ [] →
    s.blk.powered .afe = true → s.blk.powered .pwm = true → s.blk.on (R.Dn_TRIP_OC_EN c) = true → s.blk.pstate c ≤ 2 →
    Yields (.overcurrentVerdict ⟨c, outs⟩) s fun t =>
      t.blk.on (R.Dn_STAT_TRIP c) = true ∧ t.blk.rd (R.Dn_STAT_TSRC c) = 1 ∧
      t.blk.pstate c = (if s.blk.on (R.Dn_TRIP_ACT c) = true ∧ 1 ≤ s.blk.pstate c then 4 else 3) ∧
      Reported t.blk 0x3307 c) ∧
  (∀ (s : State) (c : Fin 16) (outs : List (Int × Int)), 8 ≤ c.val → s.blk.on (R.Sn_CFG_EN (c.val - 8)) = true →
    s.blk.rd (R.AFE_OCTH_OCTH c) ≠ 0 → s.blk.ocReached c outs ≠ [] →
    s.blk.powered .afe = true → (s.blk.stpState (c.val - 8) = 1 ∨ s.blk.stpState (c.val - 8) = 2) →
    Yields (.overcurrentVerdict ⟨c, outs⟩) s fun t =>
      t.blk.on (R.Sn_STAT_OC (c.val - 8)) = true ∧ t.blk.stpState (c.val - 8) = 3 ∧ Reported t.blk 0x4305 c) ∧
  (∀ (s : State) (c : Fin 16) (outs : List (Int × Int)), s.blk.configured c = false ∨ s.blk.rd (R.AFE_OCTH_OCTH c) = 0 ∨
    s.blk.ocReached c outs = [] → Yields (.overcurrentVerdict ⟨c, outs⟩) s fun t => t = s)

/-- R74, R81: a gate-driver ready input. Its level is shown; its loss on a leg that GRDY_EN selects blocks a drive in
RUN or ASC with event 0x3308, and turns TRIP_ASC into TRIP_OFF. -/
def Obligations.GateReadyInput : Prop :=
  (∀ (s : State) (n : Fin 8) (leg : Fin 3) (cyc : Nat), s.blk.powered .pwm = true →
    Yields (.grdyQualifiedChange n leg true cyc) s fun t =>
      t.blk.on (bitOf (R.Dn_STAT_GRDY n) leg) = true ∧ SameBut s.blk t.blk (fun a => a = (R.Dn_STAT_GRDY n).off) ∧
      t.blk.evs = s.blk.evs) ∧
  (∀ (s : State) (n : Fin 8) (leg : Fin 3) (cyc : Nat), s.blk.powered .pwm = true → s.blk.on (R.Dn_CFG_EN n) = true →
    s.blk.on (R.Dn_CFG_GRDY_EN n) = true → (s.blk.pstate n = 1 ∨ s.blk.pstate n = 2) →
    Yields (.grdyQualifiedChange n leg false cyc) s fun t =>
      t.blk.on (bitOf (R.Dn_STAT_GRDY n) leg) = false ∧ t.blk.pstate n = 0 ∧ t.blk.on (R.Dn_STAT_GRDYL n) = true ∧
      Reported t.blk 0x3308 n) ∧
  (∀ (s : State) (n : Fin 8) (leg : Fin 3) (cyc : Nat), s.blk.powered .pwm = true → s.blk.on (R.Dn_CFG_EN n) = true →
    s.blk.on (R.Dn_CFG_GRDY_EN n) = true → s.blk.pstate n = 4 →
    Yields (.grdyQualifiedChange n leg false cyc) s fun t => t.blk.pstate n = 3 ∧ Reported t.blk 0x3308 n)

/-- R97, R98, R99, R100, R111, R115: the soft-step sequencer. A crossing of the floating phase in the sector's
direction, within its window and EBLANK after the last edge is stamped in Dn_ZCTS, once per sector; any other counts in
ZCREJ; a due commutation moves SECTOR on in the running direction; too many sectors without a crossing, or a fallback
that finds none in 12 sectors, lose synchronism: SSTATE IDLE, SYNC 0, event 0x3316. A crossing after the valid one of
its sector changes nothing: the model's choice (log entry 1). -/
def Obligations.SoftStepCommutation : Prop :=
  (∀ (s : State) (n : Fin 8) (ph : Fin 3) (rising : Bool) (tin tout : BitVec 32) (age : Nat) (x : Nat) (at_ soft : Int)
    (good : Prop),
    x = add32 tin.toNat (diff32 tout.toNat tin.toNat / 2) → at_ = s.blk.intoSector n x →
    soft = s.blk.rd (R.Dn_SOFT_SOFT n) →
    good = (ph.val = (legsOf (s.blk.rd (R.Dn_CSTAT_SECTOR n)) 1).2.2 ∧
      rising = risingIn (s.blk.rd (R.Dn_CSTAT_SECTOR n)) ∧
      fromHalfUnits (soft + 2 * s.blk.rd (R.Dn_SOFT_BLANK n)) ≤ at_ ∧ at_ ≤ fromHalfUnits (960 - soft) ∧
      s.blk.rd (R.Dn_ZC_EBLANK n) ≤ age) →
    s.blk.powered .afe = true → s.blk.configured n = true → s.blk.sstate n ≠ 1 → s.blk.sstate n ≠ 2 →
    s.blk.softRuns n = true →
    (good → (s.blk.seq n).seen = false → Yields (.zeroCrossing n ph rising tin tout age) s fun t =>
      t.blk.rd (R.Dn_ZCTS_TS n) = x ∧ ∀ q, t.blk.seqs[n.val]? = some q → q.seen = true ∧ q.missed = 0) ∧
    (good → (s.blk.seq n).seen = true → Yields (.zeroCrossing n ph rising tin tout age) s fun t => t = s) ∧
    (¬ good → Yields (.zeroCrossing n ph rising tin tout age) s fun t =>
      t.blk.rd (R.Dn_CSTAT_ZCREJ n) = min (s.blk.rd (R.Dn_CSTAT_ZCREJ n) + 1) (R.Dn_CSTAT_ZCREJ n).top ∧
      SameBut s.blk t.blk (fun a => a = (R.Dn_CSTAT_ZCREJ n).off))) ∧
  (∀ (s : State) (n : Fin 8) (rising : Bool) (tin tout : BitVec 32) (age : Nat), s.blk.powered .afe = true →
    s.blk.configured n = true →
    (s.blk.sstate n = 1 ∨ s.blk.sstate n = 2) → Yields (.zeroCrossing n 0 rising tin tout age) s fun t =>
      t.blk.regs = s.blk.regs ∧
      t.blk.seqs[n.val]? = (s.blk.seqs[n.val]?).map (fun q =>
        { q with xings := q.xings ++ [add32 tin.toNat (diff32 tout.toNat tin.toNat / 2)] })) ∧
  (∀ (s : State) (n : Fin 8) (st : BitVec 32), s.blk.powered .fabric = true → s.blk.powered .pwm = true →
    s.blk.softRuns n = true → s.blk.commDue n st.toNat = true →
    Yields (.softstepCommutation n st) s fun t =>
      t.blk.rd (R.Dn_CSTAT_SECTOR n) = nextSector (s.blk.rd (R.Dn_CSTAT_SECTOR n)) (s.blk.seq n).dir) ∧
  (∀ (s : State) (n : Fin 8), s.blk.powered .fabric = true → s.blk.softRuns n = true →
    0 < (s.blk.seq n).missed → s.blk.rd (R.Dn_ZC_MISS n) ≤ (s.blk.seq n).missed → Yields (.syncLoss n) s fun t =>
      t.blk.on (R.Dn_CSTAT_SYNC n) = false ∧ t.blk.pstate n = s.blk.pstate n ∧
      (s.blk.pstate n = 1 → t.blk.sstate n = 0 ∧ Reported t.blk 0x3316 n)) ∧
  (∀ (s : State) (n : Fin 8) (k : Nat), s.blk.powered .fabric = true → (∃ x, (s.blk.seq n).acq = some (k, x)) →
    12 ≤ k → s.blk.pstate n = 1 → s.blk.runState n = 1 →
    Yields (.fallbackAcquisitionFail n) s fun t =>
      t.blk.sstate n = 0 ∧ t.blk.on (R.Dn_CSTAT_SYNC n) = false ∧ Reported t.blk 0x3316 n)

/-- R106, R109, R112: the change of commutation source at a handover and the end of its blends; the stop and the restart
of a drive that runs without a sensor below 1.25 times CATCH_MIN. -/
def Obligations.HandoverAndRampStop : Prop :=
  (∀ (s : State) (n : Fin 8), s.blk.powered .fabric = true → s.blk.rd (R.Dn_CMODE_MODE n) = 2 →
    (s.blk.drv n).verdNew = false →
    s.blk.on (R.Dn_SUPSTAT_FALL n) = false → s.blk.cur n = 0 → 8 ≤ (s.blk.drv n).hoUp →
    Yields (.commutationHandover n) s fun t => t.blk.cur n = 2) ∧
  (∀ (s : State) (n : Fin 8), s.blk.powered .fabric = true → s.blk.rd (R.Dn_CMODE_MODE n) = 2 →
    (s.blk.drv n).verdNew = false →
    s.blk.on (R.Dn_SUPSTAT_FALL n) = false → s.blk.cur n = 2 → 8 ≤ (s.blk.drv n).hoDn →
    Yields (.commutationHandover n) s fun t => t.blk.cur n = 0) ∧
  (∀ (s : State) (n : Fin 8), s.blk.powered .fabric = true → Yields (.handoverBlendEnd n) s fun t =>
    (∀ d, t.blk.drvs[n.val]? = some d → (∀ x ∈ d.blends, x.first = true ∨ x.k < s.blk.rd (R.Dn_BUMP_HFRM n)) ∧
      (t.blk.on (R.Dn_CSTAT_HOBL n) = true ↔ ∃ x ∈ d.blends, x.first = false)) ∧
    SameBut s.blk t.blk (fun a => a = (R.Dn_CSTAT_HOBL n).off)) ∧
  (∀ (s : State) (n : Fin 8), s.blk.powered .fabric = true → s.blk.pstate n = 1 → s.blk.sensorlessRun n = true →
    s.blk.sstate n = 6 → s.blk.rampsDown n = true →
    magI (s.blk.drv n).ramp ≤ s.blk.catchFloor n * 512 → Yields (.sensorlessRampStop n) s fun t =>
      t.blk.sstate n = 0 ∧ t.blk.pstate n = s.blk.pstate n ∧
      ∀ d, t.blk.drvs[n.val]? = some d → d.reqBlock = true ∧
        (d.revStart = true ↔ (s.blk.drv n).rampStop = false ∧ (s.blk.drv n).ref * (s.blk.drv n).ramp < 0)) ∧
  (∀ (s : State) (n : Fin 8), s.blk.powered .fabric = true → (s.blk.drv n).revStart = true → s.blk.pstate n ≠ 1 →
    (s.blk.drv n).reqBlock = false →
    ((s.blk.drv n).ref = 0 ∨ 0 < (s.blk.drv n).ref * (s.blk.seq n).dir) →
      Yields (.sensorlessReverseRestart n) s fun t =>
      t.blk.regs = s.blk.regs ∧ t.blk.drvs[n.val]? = (s.blk.drvs[n.val]?).map (fun d => { d with revStart := false })) ∧
  (∀ (s : State) (n : Fin 8), s.blk.powered .fabric = true → (s.blk.drv n).revStart = true → s.blk.pstate n ≠ 1 →
    (s.blk.drv n).reqBlock = false →
    (s.blk.drv n).ref ≠ 0 → (s.blk.drv n).ref * (s.blk.seq n).dir < 0 → s.blk.startRefusal n = none →
    Yields (.sensorlessReverseRestart n) s fun t => t.blk.sstate n = 1 ∧ t.blk.rd (R.Dn_SSTAT_PATH n) = 0)

/-- R115, R117, R123, R124, R125, R128, R130, R131, R220: the start sequence. A catch that is complete reports 0x3020; a
window judged while the drive waits shows its readings; WAITMAX ends the wait as refused with PATH 4 and event 0x3126; a
braked drive goes on or catches again; the alignment ends in IFSTART, the handover closes the loop with SYNC 1, FMAX
aborts with event 0x3316. That SSTATE turns IDLE with the request and the pulses stop at OUTPUT_PHASE is the order of
the model (log entry 2). -/
def Obligations.StartSequence : Prop :=
  (∀ (s : State) (n : Fin 8), s.blk.powered .fabric = true → s.blk.sstate n = 1 → (s.blk.seq n).reopen = false →
    (s.blk.seq n).catchLen ≤ (s.blk.seq n).catchFr → Yields (.catchEnd n) s fun t =>
      Reported t.blk 0x3020 n ∧
      t.blk.rd (R.Dn_CATCHA_AMP n) = min (s.blk.catchSpeed n).2.2.1 (R.Dn_CATCHA_AMP n).top) ∧
  (∀ (s : State) (n : Fin 8), s.blk.powered .fabric = true → s.blk.sstate n = 2 → (s.blk.seq n).reopen = false →
    (s.blk.seq n).catchLen ≤ (s.blk.seq n).catchFr → Yields (.catchWindowDecision n) s fun t =>
      t.blk.rd (R.Dn_CATCHA_AMP n) = min (s.blk.catchSpeed n).2.2.1 (R.Dn_CATCHA_AMP n).top ∧
      t.blk.rd (R.Dn_CATCHA_NXING n) = min ((s.blk.seq n).xings.filter (fun x =>
        decide (diff32 (s.blk.tickStamp n) x ≤ Int.ofNat ((s.blk.seq n).catchLen * s.blk.period / 2)))).length
        (R.Dn_CATCHA_NXING n).top) ∧
  (∀ (s : State) (n : Fin 8), s.blk.powered .fabric = true → s.blk.sstate n = 2 → 0 < s.blk.rd (R.Dn_REVMAX_WAITMAX n) →
    s.blk.msFrames (100 * s.blk.rd (R.Dn_REVMAX_WAITMAX n)) ≤ (s.blk.seq n).waitFr →
      Yields (.waitmaxExpiry n) s fun t =>
      t.blk.sstate n = 0 ∧ t.blk.rd (R.Dn_SSTAT_PATH n) = 4 ∧ Reported t.blk 0x3126 n) ∧
  (∀ (s : State) (n : Fin 8), s.blk.powered .fabric = true → s.blk.sstate n = 3 → s.blk.sensorless n = false →
    0 ≤ (s.blk.drv n).ramp * (s.blk.seq n).fwd → Yields (.brakeRampEnd n) s fun t =>
      t.blk.sstate n = 6 ∧ t.blk.pstate n = s.blk.pstate n) ∧
  (∀ (s : State) (n : Fin 8), s.blk.powered .fabric = true → s.blk.sstate n = 3 → s.blk.sensorless n = true →
    magI (s.blk.drv n).ramp ≤ s.blk.catchFloor n * 512 → Yields (.brakeRampEnd n) s fun t =>
      t.blk.sstate n = 1 ∧ (∀ q, t.blk.seqs[n.val]? = some q → q.reopen = true) ∧
      ∀ d, t.blk.drvs[n.val]? = some d → d.reqBlock = true) ∧
  (∀ (s : State) (n : Fin 8), s.blk.powered .fabric = true → s.blk.sstate n = 4 →
    s.blk.alignFrames n ≤ (s.blk.seq n).alignJ →
    Yields (.alignEnd n) s fun t => t.blk.sstate n = 5 ∧
      SameBut s.blk t.blk (fun a => a = (R.Dn_SSTAT_SSTATE n).off ∨ a = (R.Dn_CSTAT_HOBL n).off)) ∧
  (∀ (s : State) (n : Fin 8), s.blk.powered .fabric = true → s.blk.sstate n = 5 →
    s.blk.ifReached n (s.blk.rd (R.Dn_IFF_FHO n)) = true →
    (s.blk.seq n).seenPrev = true → (s.blk.seq n).seenOld = true → Yields (.ifHandover n) s fun t =>
      t.blk.sstate n = 6 ∧ t.blk.on (R.Dn_CSTAT_SYNC n) = true ∧
      (t.blk.on (R.Dn_SUPSTAT_SUSP n) = true ↔ 0 < s.blk.rd (R.Dn_SUPCFG_SETTLE n))) ∧
  (∀ (s : State) (n : Fin 8), s.blk.powered .fabric = true → s.blk.sstate n = 5 →
    s.blk.ifReached n (s.blk.rd (R.Dn_IFF_FMAX n)) = true →
    Yields (.ifFmaxAbort n) s fun t => t.blk.sstate n = 0 ∧ Reported t.blk 0x3316 n)

/-- R283, R284, R285, R286, R287: the brake chopper of a valid link input. It turns on at BRKON with its count (below,
only the link's peak may change), off below BRKOFF once MINON is over; a check that finds no conduction, or a rise that
has not turned, latches CHF on every link served with event 0x3332 and its count, and one that finds neither latches
nothing; conduction while off latches the stuck flags with event 0x3333; the clear test ends with the output off, each
latch kept where its fault is found again, and event 0x3036, or 0x3137 where one is kept. That the latches show on every
channel served is the model's reading (log entry 100). -/
def Obligations.BrakeChopper : Prop :=
  (∀ (s : State) (n : Fin 8) (v vPast : Int) (idle : Bool), s.blk.powered .pwm = true → s.blk.powered .afe = true → 
    s.blk.ownChopper n = true → s.blk.linkValid n = true → s.blk.on (R.Dn_DCSTAT_BRK n) = false →
      (s.blk.dc n).test = false → Int.ofNat (10 * s.blk.rd (R.Dn_DCTH0_BRKON n)) ≤ v →
    Yields (.chopperOn n v vPast idle) s fun t =>
      t.blk.on (R.Dn_DCSTAT_BRK n) = true ∧
      t.blk.rd (R.Dn_BRKCNT_ON n) = min (s.blk.rd (R.Dn_BRKCNT_ON n) + 1) (R.Dn_BRKCNT_ON n).top ∧
      ∀ d, t.blk.dcl[n.val]? = some d → d.await = true ∧ d.v0 = v) ∧
  (∀ (s : State) (n : Fin 8) (v vPast : Int) (idle : Bool),
    (s.blk.linkValid n = false ∨ v < Int.ofNat (10 * s.blk.rd (R.Dn_DCTH0_BRKON n))) →
    Yields (.chopperOn n v vPast idle) s fun t => SameBut s.blk t.blk (fun a => a = (R.Dn_DCMEAS_VPK n).off)) ∧
  (∀ (s : State) (n : Fin 8) (v : Int) (since : Nat), s.blk.powered .pwm = true → s.blk.powered .afe = true → 
    s.blk.linkValid n = true → s.blk.on (R.Dn_DCSTAT_BRK n) = true →
    (s.blk.dc n).test = false → v < Int.ofNat (10 * s.blk.rd (R.Dn_DCTH0_BRKOFF n)) →
    400 * s.blk.rd (R.Dn_BRK_MINON n) ≤ since →
    Yields (.chopperOff ⟨n, v, since⟩) s fun t => t.blk.on (R.Dn_DCSTAT_BRK n) = false ∧
      SameBut s.blk t.blk (fun a => a = (R.Dn_DCSTAT_BRK n).off)) ∧
  (∀ (s : State) (n : Fin 8) (fb : FbSeen) (v : Int), s.blk.powered .pwm = true → s.blk.powered .afe = true → 
    (s.blk.dc n).await = true →
    Yields (.chopperCheck n fb v) s fun t =>
      t.blk.on (R.Dn_DCSTAT_BRKFB n) = s.blk.conducts n fb ∧ (∀ d, t.blk.dcl[n.val]? = some d → d.await = false) ∧
      (s.blk.on (R.Dn_BRK_FBEN n) = true → s.blk.conducts n fb = false →
        (∀ m ∈ s.blk.served n, t.blk.on (R.Dn_DCSTAT_CHF m) = true) ∧ Reported t.blk 0x3332 n ∧
        t.blk.rd (R.Dn_BRKCNT_NOCOND n) = min (s.blk.rd (R.Dn_BRKCNT_NOCOND n) + 1) (R.Dn_BRKCNT_NOCOND n).top) ∧
      (s.blk.on (R.Dn_BRK_SLPEN n) = true → (s.blk.dc n).slope = true →
        slopeFault v (s.blk.dc n).vPast (s.blk.dc n).v0 (Int.ofNat (s.blk.rd (R.Dn_BRK_SLPTOL n))) = true →
        (∀ m ∈ s.blk.served n, t.blk.on (R.Dn_DCSTAT_CHF m) = true) ∧ Reported t.blk 0x3332 n ∧
        t.blk.rd (R.Dn_BRKCNT_SLOPE n) = min (s.blk.rd (R.Dn_BRKCNT_SLOPE n) + 1) (R.Dn_BRKCNT_SLOPE n).top) ∧
      ((s.blk.on (R.Dn_BRK_FBEN n) = false ∨ s.blk.conducts n fb = true) → s.blk.on (R.Dn_BRK_SLPEN n) = false →
        SameBut s.blk t.blk (fun a => a = (R.Dn_DCSTAT_BRKFB n).off ∨ a = (R.Dn_DCMEAS_VPK n).off) ∧
        t.blk.on (R.Dn_DCSTAT_CHF n) = s.blk.on (R.Dn_DCSTAT_CHF n))) ∧
  (∀ (s : State) (n : Fin 8) (level : Bool), s.blk.powered .pwm = true → s.blk.ownChopper n = true →
    s.blk.on (R.Dn_BRK_FBEN n) = true →
    s.blk.conducts n ⟨level, !level⟩ = true → s.blk.on (R.Dn_DCSTAT_BRK n) = false → (s.blk.dc n).test = false →
    Yields (.chopperStuckOn ⟨n, level⟩) s fun t =>
      t.blk.on (R.Dn_DCSTAT_BRKFB n) = true ∧
      (∀ m ∈ s.blk.served n, t.blk.on (R.Dn_DCSTAT_CHSTK m) = true ∧ t.blk.on (R.Dn_DCSTAT_STKD m) = true) ∧
      Reported t.blk 0x3333 n) ∧
  (∀ (s : State) (n : Fin 8) (fbPulse fbHold : FbSeen) (vPast v0 v : Int) (idle : Bool),
    s.blk.powered .pwm = true → s.blk.powered .afe = true → (s.blk.dc n).test = true →
    Yields (.brkClearTestEnd n fbPulse fbHold vPast v0 v idle) s fun t =>
      t.blk.on (R.Dn_DCSTAT_BRK n) = false ∧ (∀ d, t.blk.dcl[n.val]? = some d → d.test = false) ∧
      ∀ chf stk : Bool,
        chf = (s.blk.on (R.Dn_DCSTAT_CHF n) && (s.blk.on (R.Dn_BRK_FBEN n) && !s.blk.conducts n fbPulse ||
          s.blk.on (R.Dn_BRK_SLPEN n) && idle && slopeFault v vPast v0 (Int.ofNat (s.blk.rd (R.Dn_BRK_SLPTOL n))))) →
        stk = (s.blk.on (R.Dn_DCSTAT_STKD n) && s.blk.conducts n fbHold) →
        (∀ m ∈ s.blk.served n, t.blk.on (R.Dn_DCSTAT_CHF m) = chf ∧ t.blk.on (R.Dn_DCSTAT_STKD m) = stk) ∧
        Reported t.blk (if chf || stk then 0x3137 else 0x3036) n)

/-- R289, R290, R291: the upper link thresholds. OV2 is latched for the next OUTPUT_PHASE, whose request is an active
short circuit above ASC_SPEED or without a valid speed and a pulse block otherwise, with event 0x3334; an active short
circuit that has lasted its hold ends in BLOCKED; OV3 latches OV3F, reports 0x3335 and raises Hasp's line, which falls
at its end. -/
def Obligations.LinkOverVoltage : Prop :=
  (∀ (s : State) (n : Fin 8) (v : Int), s.blk.powered .afe = true → s.blk.configured n = true →
    s.blk.linkValid n = true →
    Int.ofNat (10 * s.blk.rd (R.Dn_DCTH2_OV2 n)) ≤ v →
    Yields (.ov2Reached n v) s fun t => t.blk.on (R.Dn_DCSTAT_OV2F n) = true ∧ t.blk.pstate n = s.blk.pstate n ∧
      ∀ d, t.blk.dcl[n.val]? = some d → d.ov2 = true) ∧
  (∀ (b : Blk) (n : Fin 8), (b.dc n).ov2 = true → b.gatesHeld n = false ∨ b.pstate n ≠ 0 → b.pstate n < 3 →
    ((b.ov2Request n).pstate n =
        (if !b.validSpeed n || decide (b.rd (R.Dn_ASC_ASC_SPEED n) < magI (b.drv n).speed) then 2 else 0) ∧
      Reported (b.ov2Request n) 0x3334 n ∧ ((b.ov2Request n).dc n).ov2 = false)) ∧
  (∀ (s : State) (n : Fin 8), s.blk.powered .fabric = true → s.blk.pstate n = 2 → (s.blk.dc n).ascHold = true →
    (if s.blk.sensorless n = false ∧ s.blk.validSpeed n = true then
      8 * magI (s.blk.drv n).speed ≤ 7 * s.blk.rd (R.Dn_ASC_ASC_SPEED n) else (s.blk.dc n).ascLeft = 0) →
    Yields (.ascHoldEnd n) s fun t => t.blk.pstate n = 0 ∧ ∀ d, t.blk.dcl[n.val]? = some d → d.ascHold = false) ∧
  (∀ (s : State) (n : Fin 8) (v : Nat), s.blk.powered .afe = true → s.blk.configured n = true →
    s.blk.linkValid n = true → s.blk.ov3Steps n ≤ v → s.blk.hasp.ov3.getD n false = false →
    Yields (.ov3Demand ⟨n, v⟩) s fun t => t.blk.on (R.Dn_DCSTAT_OV3F n) = true ∧ Reported t.blk 0x3335 n ∧
      (n.val < s.blk.hasp.ov3.length → t.blk.hasp.ov3.getD n false = true)) ∧
  (∀ (s : State) (n : Fin 8) (v : Nat), s.blk.powered .afe = true → s.blk.linkValid n = true → v < s.blk.ov3Steps n →
    s.blk.hasp.ov3.getD n false = true → Yields (.ov3DemandEnd ⟨n, v⟩) s fun t =>
    t.blk.hasp.ov3.getD n false = false)

/-- R322, R324, R325, R328: the closing, the test and the faults of a safe torque off output. Where the
test slots lie in a TP_PERIOD is the model's choice (log entry 119). -/
def Obligations.StoOutput : Prop :=
  (∀ (s : State) (k : Fin 4) (ma : Nat), s.blk.powered .safe = true → s.blk.stoState k = 1 →
    (s.blk.sto k).hs = false → ma < 5 →
    Yields (.stoClosingLowCheck k ma false) s fun t => t.blk.stoState k = 1 ∧
      (∀ x, t.blk.hasp.stos[k.val]? = some x → x.hs = true) ∧ t.blk.evs = s.blk.evs) ∧
  (∀ (s : State) (k : Fin 4) (ma : Nat), s.blk.powered .safe = true → s.blk.stoState k = 1 →
    (s.blk.sto k).hs = false → 5 ≤ ma →
    Yields (.stoClosingLowCheck k ma false) s fun t => t.blk.on (R.HASP_STOSTAT_HSF k) = true ∧
      Reported t.blk 0x9301 k) ∧
  (∀ (s : State) (k : Fin 4) (ma : Nat), s.blk.powered .safe = true → s.blk.stoState k = 1 → (s.blk.sto k).hs = false →
    Yields (.stoClosingLowCheck k ma true) s fun t =>
      t.blk.stoState k = 5 ∧ t.blk.on (R.HASP_STOSTAT_OPENF k) = true ∧ Reported t.blk 0x9302 k) ∧
  (∀ (s : State) (k : Fin 4) (ma : Nat), s.blk.powered .safe = true → s.blk.stoState k = 1 → (s.blk.sto k).hs = true →
    Yields (.stoClosingHighCheck k ma false) s fun t => Reported t.blk 0x9001 k ∧
      t.blk.on (R.HASP_STOSTAT_OPENF k) = false ∧ t.blk.on (R.HASP_STOSTAT_OCF k) = false ∧
      ∀ x, t.blk.hasp.stos[k.val]? = some x → x.manual = false) ∧
  (∀ (s : State) (k : Fin 4) (ma : Nat), s.blk.powered .safe = true → s.blk.stoState k = 1 → (s.blk.sto k).hs = true →
    Yields (.stoClosingHighCheck k ma true) s fun t => t.blk.stoState k = 5 ∧ Reported t.blk 0x9302 k) ∧
  (∀ (s : State) (k : Fin 4), s.blk.powered .safe = true → s.blk.stoState k = 2 → s.blk.slotDue k = true →
    Yields (.stoTestSlot k) s fun t =>
    t.blk.stoState k = (if (s.blk.sto k).testHs then 3 else 4) ∧
      ∀ x, t.blk.hasp.stos[k.val]? = some x → (if (s.blk.sto k).testHs then x.hs else x.ls) = false) ∧
  (∀ (s : State) (k : Fin 4) (ma : Nat) (during hsPin : Bool), s.blk.powered .safe = true → ma < 5 →
    (s.blk.stoState k = 3 → hsPin = true → s.blk.paired = false) →
    (s.blk.stoState k = 4 ∨ (s.blk.stoState k = 3 ∧ during = false)) →
    Yields (.stoTestEnd k ma during true false hsPin) s fun t => t.blk.stoState k = 2 ∧
      t.blk.rd (R.HASP_TPCNT_PASS k) = min (s.blk.rd (R.HASP_TPCNT_PASS k) + 1) (R.HASP_TPCNT_PASS k).top ∧
      (∀ x, t.blk.hasp.stos[k.val]? = some x → x.hs = true ∧ x.ls = true ∧ x.testHs = decide (s.blk.stoState k ≠ 3)) ∧
      t.blk.evs = s.blk.evs) ∧
  (∀ (s : State) (k : Fin 4) (ma : Nat) (during ende hsPin : Bool), s.blk.powered .safe = true → 5 ≤ ma →
    (s.blk.stoState k = 3 ∨ s.blk.stoState k = 4) → Yields (.stoTestEnd k ma during ende false hsPin) s fun t =>
      t.blk.on (if s.blk.stoState k = 3 then R.HASP_STOSTAT_HSF k else R.HASP_STOSTAT_LSF k) = true ∧
      t.blk.rd (R.HASP_TPCNT_FAIL k) = min (s.blk.rd (R.HASP_TPCNT_FAIL k) + 1) (R.HASP_TPCNT_FAIL k).top ∧
      Reported t.blk 0x9301 k) ∧
  (∀ (s : State) (k : Fin 4), s.blk.powered .safe = true → s.blk.stoState k ≠ 5 → Yields (.stoCurrentLimit k) s fun t =>
    t.blk.stoState k = 5 ∧ t.blk.on (R.HASP_STOSTAT_OCF k) = true ∧ Reported t.blk 0x9303 k)

/-- R323, R324, R330, R331, R332: the safe inputs, the reset pulse of a MANUAL output and the end of SS1T. Times are
counted at ticks (log entries 35, 95: the model's reading). -/
def Obligations.SafeInputs : Prop :=
  (∀ (s : State) (i : Fin 8) (x y : Bool), s.blk.powered .safe = true → s.blk.on (R.HASP_SDICFG_EN i) = true →
    s.blk.on (R.HASP_SDICFG_RSTIN i) = false →
    s.blk.sdiHealthy i x y = false → Yields (.sdiDemand i x y) s fun t => t.blk.on (sdiDem i) = true ∧
      t.blk.on (bitOf R.HASP_SDISTAT_ST (4 * i)) = x ∧ t.blk.on (bitOf R.HASP_SDISTAT_ST (4 * i + 1)) = y) ∧
  (∀ (s : State) (i : Fin 8) (within : Bool), s.blk.powered .safe = true → s.blk.on (R.HASP_SDICFG_EN i) = true →
    s.blk.on (R.HASP_SDICFG_RSTIN i) = false → s.blk.on (sdiDiscf i) = false →
    Yields (.sdiReturnHealthy i within) s fun t => t.blk.on (sdiDem i) = false ∧ t.blk.on (sdiDiscf i) = false) ∧
  (∀ (s : State) (i : Fin 8), s.blk.powered .safe = true → s.blk.on (R.HASP_SDICFG_EN i) = true →
    s.blk.sdiHealthy i (s.blk.sdiX i) (s.blk.sdiY i) = false → s.blk.sdiAway i (s.blk.sdiX i) (s.blk.sdiY i) = false →
    Yields (.sdiDiscrepancy i) s fun t => t.blk.on (sdiDiscf i) = true ∧ Reported t.blk 0x9305 i ∧
      (s.blk.on (R.HASP_SDICFG_RSTIN i) = false → ∀ k ∈ s.blk.sdiOuts i, ∀ x, t.blk.hasp.stos[k]? = some x →
        x.manual = true)) ∧
  (∀ (s : State) (k : Fin 4) (us : Nat), s.blk.powered .safe = true → s.blk.on (R.HASP_STOCFG_EN k) = true →
    s.blk.on (R.HASP_STOCFG_RST k) = true →
    100000 ≤ us → us ≤ 2000000 → s.blk.resetSource k = true →
    s.blk.hasp.sdiVoid.getD (s.blk.rd (R.HASP_STOCFG_RSRC k)) false = false → (s.blk.sto k).riseOk = true →
    s.blk.rd R.HASP_STAT_HSTATE = 1 → s.blk.demandSrc k = none → s.blk.stoState k = 0 →
    Yields (.stoResetPulse k us) s fun t => t.blk.stoState k = 1 ∧
      ∀ x, t.blk.hasp.stos[k.val]? = some x → x.ls = true ∧ x.hs = false) ∧
  (∀ (s : State) (k : Fin 4) (left : Nat), s.blk.powered .safe = true → (s.blk.sto k).ss1 = some left →
    s.blk.ranOut left = true →
    Yields (.ss1Timeout k) s fun t => Reported t.blk 0x9300 k ∧
      ∀ x, t.blk.hasp.stos[k.val]? = some x → x.ss1 = none ∧ x.hs = false)

/-- R312, R315, R335, R336, R337, R338: expiry of Hasp's timers, the faults that demand every output, the thermal
shutdown and its end. With a ready standby the module declares loss instead. Times are counted at ticks (log entry 95:
the model's reading). -/
def Obligations.HaspReactions : Prop :=
  (∀ (s : State) (c : Fin 8) (flintA : Bool), s.blk.powered .safe = true →
    (s.blk.hasp.degs.getD c default).left = some 0 →
    (c.val = 5 → s.blk.on R.THM_OVRD_ACT = false) → Yields (.degTimeExpiry c flintA) s fun t =>
      Reported t.blk 0x9304 c ∧ ∀ d, t.blk.hasp.degs[c.val]? = some d → d.left = none) ∧
  (∀ (s : State) (flintA : Bool), s.blk.powered .safe = true → (s.blk.hasp.degs.getD 5 default).left = some 0 →
    s.blk.on R.THM_OVRD_ACT = true →
    Yields (.degTimeExpiry 5 flintA) s fun t => t.blk.hasp.ntcHeld = true ∧ t.blk.regs = s.blk.regs) ∧
  (∀ (s : State) (c : Fin 16) (left : Nat), s.blk.powered .safe = true → (s.blk.hch c).react = some (some left) →
    s.blk.ranOut left = true →
    Yields (.stopmaxExpiry c) s fun t => Reported t.blk 0x9309 c ∧
      ∀ h, t.blk.hasp.chs[c.val]? = some h → h.gone = true) ∧
  (∀ (s : State), s.blk.powered .safe = true → s.blk.pwr.step = 8 → s.blk.standbyReady = false →
    Yields .tickWatchdogExpiry s fun t =>
    t.blk.rd R.HASP_STAT_HSTATE = 4 ∧ t.blk.hasp.latch.isSome = true ∧ ∀ x ∈ t.blk.hasp.stos, x.manual = true) ∧
  (∀ (s : State), s.blk.powered .safe = true → s.blk.pwr.step = 8 → s.blk.standbyReady = true →
    s.blk.rd R.HASP_STAT_HSTATE ≠ 3 → Yields .tickWatchdogExpiry s fun t => t.blk.rd R.HASP_STAT_HSTATE = 3 ∧
      Reported t.blk 0x9306 0) ∧
  (∀ (s : State) (firmware : Bool), s.blk.powered .safe = true → s.blk.standbyReady = false →
    Yields (.haspInternalFault firmware) s fun t =>
    t.blk.rd R.HASP_STAT_HSTATE = 4 ∧ t.blk.hasp.latch.isSome = true ∧ ∀ x ∈ t.blk.hasp.stos, x.manual = true) ∧
  (∀ (s : State) (firmware : Bool), s.blk.powered .safe = true → s.blk.standbyReady = true →
    s.blk.rd R.HASP_STAT_HSTATE ≠ 3 →
    Yields (.haspInternalFault firmware) s fun t => t.blk.rd R.HASP_STAT_HSTATE = 3 ∧ Reported t.blk 0x9306 0) ∧
  (∀ (s : State) (k : Fin 6), s.blk.powered .safe = true → s.blk.pwr.hot = false → Yields (.tshut k) s fun t =>
    t.blk.pwr.hot = true ∧ t.blk.pwr.step = 0 ∧ t.blk.hasp.tshut = true) ∧
  (∀ (s : State), s.blk.pwr.hot = true → Yields .tshutRecover s fun t =>
    t.blk.pwr.hot = false ∧ (t.blk.pwr.step = 1 ∨ t.blk.pwr.held = true ∨ s.blk.pwr.vmain = false))

/-- R296, R300, R306, R311: the thermal manager's judgements between ticks, and the override input. -/
def Obligations.ThermalJudgements : Prop :=
  (∀ (s : State) (k : Fin 16), s.blk.powered .fabric = true → s.blk.on (R.THM_NTCT_BRK k) = true →
    64 ≤ s.blk.thm.good.getD k 0 →
    Yields (.ntcRecover k) s fun t => t.blk.on (R.THM_NTCT_BRK k) = false ∧
      SameBut s.blk t.blk (fun a => a = (R.THM_NTCT_BRK k).off)) ∧
  (∀ (s : State) (n : Fin 8), s.blk.powered .fabric = true → s.blk.msFrames 1000 ≤ (s.blk.thmd n).xW →
    (s.blk.thmd n).epW = false →
    s.blk.configured n = true → s.blk.on (R.THM_Dn_CFG_EN n) = true → Yields (.thermalXchkFail n true) s fun t =>
      t.blk.on (R.THM_Dn_STAT_XCHK n) = true ∧ Reported t.blk 0x8144 n) ∧
  (∀ (s : State) (n : Fin 8), s.blk.powered .fabric = true → s.blk.msFrames 1000 ≤ (s.blk.thmd n).xJ →
    (s.blk.thmd n).epJ = false →
    s.blk.configured n = true → s.blk.on (R.THM_Dn_CFG_EN n) = true → Yields (.thermalXchkFail n false) s fun t =>
      t.blk.on (R.THM_Dn_STAT_XCHK n) = true ∧ Reported t.blk 0x8144 n) ∧
  (∀ (s : State) (n : Fin 8), s.blk.powered .fabric = true → (s.blk.thmd n).rw.exc = true →
    s.blk.rd (R.THM_Dn_RATE_RWIN n) ≤ (s.blk.thmd n).rw.cool →
    Yields (.thermalRateRecover n true) s fun t => (t.blk.thmd n).rw.exc = false ∧ t.blk.regs = s.blk.regs) ∧
  (∀ (s : State) (n : Fin 8), s.blk.powered .fabric = true → (s.blk.thmd n).rj.exc = true →
    s.blk.rd (R.THM_Dn_RATE_RWIN n) ≤ (s.blk.thmd n).rj.cool →
    Yields (.thermalRateRecover n false) s fun t => (t.blk.thmd n).rj.exc = false ∧ t.blk.regs = s.blk.regs) ∧
  (∀ (s : State), s.blk.powered .safe = true → Yields .ovrdAsserted s fun t => t.blk.thm.ovrd = some true ∧
    t.blk.regs = s.blk.regs) ∧
  (∀ (s : State), s.blk.powered .safe = true → Yields .ovrdReleased s fun t => t.blk.thm.ovrd = some false ∧
    t.blk.regs = s.blk.regs)

/-- R323, R348, R350, R351, R352, R353, R354, R364: Slalu. A frame whose tag fails is counted at its exit; a plain
mistake of address counts as unknown; a session in RUN takes the frame whose SEQ lies within MAXGAP and fails on a
repeated one; a management frame that the module built is accepted by the rules of R364 and reported with event 0xA005;
a session whose watchdog expires fails with cause 5 and event 0xA301. That a failing tag counts in class 2 is the
model's reading (log entry 56); the watchdogs are counted at ticks (log entry 35). -/
def Obligations.SlaluFrames : Prop :=
  (∀ (s : State) (from_ : Carriage) (bytes : List Byte) (tags : List (Nat × Flip)) (us key : Nat),
    s.blk.on R.SLL_CFG_EN = true → s.blk.powered .fabric = true → s.blk.blockGood 3 = true →
    slaluBad from_ bytes tags = some key → Yields (.slaluFrameReceived from_ bytes tags us) s fun t =>
      t.blk.rd R.WARD_LAST_KEY = key % (R.WARD_LAST_KEY.top + 1) ∧
      t.blk.rd (R.WARD_CNT_COUNT 2) = min (s.blk.rd (R.WARD_CNT_COUNT 2) + 1) (R.WARD_CNT_COUNT 2).top ∧
      t.blk.sll = s.blk.sll) ∧
  (∀ (s : State) (port : BitVec 16) (plain : Bool) (bytes : List Byte) (tags : List (Nat × Flip)) (us : Nat),
    s.blk.on R.SLL_CFG_EN = true → s.blk.powered .fabric = true → s.blk.blockGood 3 = true →
    slaluBad (.udp port plain) bytes tags = none →
    (plain = false ∨ port.toNat ≠ s.blk.rd R.SLL_CFG_UDPPORT ∨
      (byteAt bytes 1 ≠ 0 ∧ s.blk.sesBound (byteAt bytes 1) 0 = false)) →
    Yields (.slaluFrameReceived (.udp port plain) bytes tags us) s fun t =>
      t.blk.rd R.SLL_STAT_UNK = min (s.blk.rd R.SLL_STAT_UNK + 1) R.SLL_STAT_UNK.top ∧ t.blk.sll = s.blk.sll) ∧
  (∀ (s : State) (k : Fin 64) (port : BitVec 16) (seq ctrl us : Nat) (pay : List Byte), s.blk.on R.SLL_CFG_EN = true →
    s.blk.powered .fabric = true → s.blk.blockGood 3 = true → port.toNat = s.blk.rd R.SLL_CFG_UDPPORT →
    s.blk.sesBound k 0 = true → s.blk.sesState k = 2 → s.blk.sll.seen.getD k false = true → seq < 65536 → ctrl < 256 →
    pay.length = s.blk.rd (R.SLL_SESs_CFG_LEN k) →
    (1 ≤ (seq + 65536 - s.blk.rd (R.SLL_SESs_ST_SEQ k)) % 65536 →
      (seq + 65536 - s.blk.rd (R.SLL_SESs_ST_SEQ k)) % 65536 ≤ s.blk.rd (R.SLL_SESs_CFG_MAXGAP k) →
      Yields (.slaluFrameReceived (.udp port true)
          (slaluBytes 0x11 k seq ctrl (s.blk.rd (R.SLL_SESs_CID_CID k)) pay) [] us) s fun t =>
        t.blk.sesState k = 2 ∧ t.blk.rd (R.SLL_SESs_ST_SEQ k) = seq ∧ t.blk.on (R.SLL_SESs_ST_PERMIT k) = bitAt ctrl 0 ∧
        t.blk.on (R.SLL_SESs_ST_RSTB k) = bitAt ctrl 1 ∧
        ∀ x, t.blk.sll.pay[k.val]? = some x → x = pay) ∧
    (seq = s.blk.rd (R.SLL_SESs_ST_SEQ k) →
      Yields (.slaluFrameReceived (.udp port true)
          (slaluBytes 0x11 k seq ctrl (s.blk.rd (R.SLL_SESs_CID_CID k)) pay) [] us) s fun t =>
        t.blk.sesState k = 3 ∧ t.blk.rd (R.SLL_SESs_ST_CAUSE k) = 2 ∧ t.blk.on (R.SLL_SESs_ST_PERMIT k) = false ∧
        t.blk.sll = s.blk.sll)) ∧
  (∀ (s : State) (seq : Nat) (pay : List Byte), s.blk.on R.SLL_CFG_EN = true → s.blk.powered .fabric = true →
    s.blk.sll.mSeq = none → seq < 65536 → pay.length ≤ 48 →
    Yields (.mgmtFrameReceived (slaluBytes 0x12 0 seq 0 (s.blk.rd R.SLL_MCID_MCID) pay)) s fun t =>
      t.blk.sll.mSeq = some seq ∧ t.blk.sll.mPay = pay ∧ Reported t.blk 0xA005 0) ∧
  (∀ (s : State) (bytes : List Byte), s.blk.on R.SLL_CFG_EN = true → s.blk.powered .fabric = true →
    byteAt bytes 0 ≠ 0x12 ∨ byteAt bytes 1 ≠ 0 → Yields (.mgmtFrameReceived bytes) s fun t =>
      t.blk.rd R.SLL_STAT_UNK = min (s.blk.rd R.SLL_STAT_UNK + 1) R.SLL_STAT_UNK.top ∧ t.blk.sll = s.blk.sll) ∧
  (∀ (s : State) (bytes : List Byte), s.blk.on R.SLL_CFG_EN = true → s.blk.powered .fabric = true →
    byteAt bytes 0 = 0x12 → byteAt bytes 1 = 0 → 48 < byteAt bytes 4 → Yields (.mgmtFrameReceived bytes) s fun t =>
      t.blk.rd R.SLL_STAT_MGF = min (s.blk.rd R.SLL_STAT_MGF + 1) R.SLL_STAT_MGF.top ∧ t.blk.sll = s.blk.sll) ∧
  (∀ (s : State), s.blk.powered .fabric = true → s.blk.on R.SLL_CFG_EN = true → s.blk.rd R.SLL_CFG_MGMTPER ≠ 0 →
    s.blk.rd R.SLL_CFG_MGMTPER * 10 * cycPerMs ≤ s.blk.sll.mAge + s.blk.period → Yields .mgmtFrameSend s fun t =>
      t.blk.sll.mTx = (s.blk.sll.mTx + 1) % 65536 ∧ t.blk.sll.mAge = 0 ∧
      t.blk.sll.hinge = s.blk.sll.hinge ++ (if s.blk.transOn 2 then
        [slaluBytes 0x12 0 ((s.blk.sll.mTx + 1) % 65536) 0 (s.blk.rd R.SLL_MCID_MCID) s.blk.mgmtPayload] else [])) ∧
  (∀ (s : State) (k : Fin 64), s.blk.powered .fabric = true → s.blk.sesState k = 2 → s.blk.sesOverdue k = true →
    Yields (.slaluWatchdogExpiry k) s fun t =>
    t.blk.sesState k = 3 ∧ t.blk.rd (R.SLL_SESs_ST_CAUSE k) = 5 ∧ Reported t.blk 0xA301 k) ∧
  (∀ (s : State) (k : Fin 64), (List.range 4).any (fun o => s.blk.slMapped k o) = true →
    s.blk.hasp.permit.getD k false = true → s.blk.powered .safe = true →
    (s.blk.ticks = false ∨ s.blk.sesOverdue k = true) → Yields (.haspSessionWatchdog k) s fun t =>
      k.val < s.blk.hasp.wdOut.length → t.blk.hasp.wdOut.getD k false = true)

/-- R414, R416, R417: a command whose target channel is not configured completes as BADTARGET and changes no register
and no event queue. -/
def Obligations.UnconfiguredTarget : Prop :=
  (∀ (s : State) (h : Hdr) (n : Fin 8) (c : Instr) (op : Nat), s.blk.powered .fabric = true →
    s.blk.configured n = false →
    ((c = .start h n ∧ op = 0x02) ∨ (∃ m, c = .drvStop h n m ∧ op = 0x03) ∨ (∃ v, c = .setSpeed h n v ∧ op = 0x04) ∨
      (∃ v, c = .setTorque h n v ∧ op = 0x05) ∨ (∃ v, c = .leverSelect h n v ∧ op = 0x07) ∨
      (c = .bridgeResume h (some n) ∧ op = 0x08) ∨ (c = .brkClear h n ∧ op = 0x25) ∨ (c = .supClear h n ∧ op = 0x24)) →
    Yields c s fun t => Decided t.blk h op 0x06 0 ∧ t.blk.regs = s.blk.regs ∧ t.blk.evs = s.blk.evs ∧
      t.blk.drvs = s.blk.drvs) ∧
  (∀ (s : State) (h : Hdr) (a : Fin 16) (c : Instr) (op : Nat), s.blk.powered .fabric = true →
    s.blk.configured a = false →
    ((∃ i v, c = .coefWrite h a i v ∧ op = 0x06) ∨ (∃ k bl p v x d, c = .move h a k bl p v x d ∧ op = 0x12) ∨
      (c = .axisStop h a ∧ op = 0x13) ∨ (c = .resume h a ∧ op = 0x14) ∨ (c = .moveFlush h a ∧ op = 0x15) ∨
      (c = .home h a ∧ op = 0x16)) →
    Yields c s fun t => Decided t.blk h op 0x06 0 ∧ t.blk.regs = s.blk.regs ∧ t.blk.evs = s.blk.evs ∧
      t.blk.axes = s.blk.axes) ∧
  (∀ (s : State) (h : Hdr) (n : Fin 8) (c : Instr) (op : Nat), s.blk.powered .fabric = true →
    s.blk.on (R.Sn_CFG_EN n) = false →
    ((c = .energize h n ∧ op = 0x10) ∨ (c = .deenergize h n ∧ op = 0x11)) →
    Yields c s fun t => Decided t.blk h op 0x06 0 ∧ t.blk.regs = s.blk.regs ∧ t.blk.stps = s.blk.stps)

/-- R74, R88, R114, R203, R205, R416, R417, R425, R426, R428, R580: the drive commands of the host that take effect:
START opens a catch or is refused by the first check that fails, DRV_STOP asks for a block or a ramp, the references,
the lever and the bridge, a coefficient; without a heartbeat a start is refused. DRV_STOP with MODE 0 keeps the
references: the model's reading (log entry 101). -/
def Obligations.DriveCommands : Prop :=
  (∀ (s : State) (h : Hdr), s.blk.powered .fabric = true → Yields (.nop h) s fun t => Decided t.blk h 0 0 0 ∧
    t.blk.regs = s.blk.regs ∧ t.blk.evs = s.blk.evs) ∧
  (∀ (s : State) (h : Hdr) (n : Fin 8), s.blk.powered .fabric = true → s.blk.configured n = true →
    s.blk.underTable n = false →
    s.blk.noHeartbeat = false → s.blk.startRefusal n = none → Yields (.start h n) s fun t =>
      Decided t.blk h 0x02 0 0 ∧ t.blk.sstate n = 1 ∧ t.blk.rd (R.Dn_SSTAT_PATH n) = 0) ∧
  (∀ (s : State) (h : Hdr) (n : Fin 8) (st d : Nat) (ev : Option (Nat × Nat × List Int)),
    s.blk.powered .fabric = true → s.blk.configured n = true →
    s.blk.underTable n = false → s.blk.noHeartbeat = false → s.blk.startRefusal n = some (st, d, ev) →
    Yields (.start h n) s fun t => Decided t.blk h 0x02 st d ∧ t.blk.sstate n = s.blk.sstate n ∧
      ∀ x, ev = some x → Reported t.blk x.1 x.2.1) ∧
  (∀ (s : State) (h : Hdr) (n : Fin 8), s.blk.powered .fabric = true → s.blk.configured n = true →
    s.blk.underTable n = false →
    s.blk.noHeartbeat = true → Yields (.start h n) s fun t => Decided t.blk h 0x02 0x02 0x0002 ∧
      t.blk.regs = s.blk.regs) ∧
  (∀ (s : State) (h : Hdr) (n : Fin 8) (m : Byte), s.blk.powered .fabric = true → s.blk.configured n = true →
    (m.toNat = 1 ∨ (m.toNat = 0 ∧ s.blk.sstate n ≠ 6)) → Yields (.drvStop h n m) s fun t =>
    Decided t.blk h 0x03 0 0 ∧ t.blk.sstate n = 0 ∧ t.blk.pstate n = s.blk.pstate n ∧
      ∀ d, t.blk.drvs[n.val]? = some d → d.reqBlock = true) ∧
  (∀ (s : State) (h : Hdr) (n : Fin 8), s.blk.powered .fabric = true → s.blk.configured n = true →
    s.blk.sstate n = 6 → Yields (.drvStop h n 0) s fun t =>
    Decided t.blk h 0x03 0 0 ∧ t.blk.regs = s.blk.regs ∧ ∀ d, t.blk.drvs[n.val]? = some d → d.rampStop = true) ∧
  (∀ (s : State) (h : Hdr) (n : Fin 8) (m : Byte), s.blk.powered .fabric = true → s.blk.configured n = true →
    1 < m.toNat → Yields (.drvStop h n m) s fun t =>
    Decided t.blk h 0x03 0x02 0x0004 ∧ t.blk.regs = s.blk.regs ∧ t.blk.drvs = s.blk.drvs) ∧
  (∀ (s : State) (h : Hdr) (n : Fin 8) (v : BitVec 16), s.blk.powered .fabric = true → s.blk.configured n = true →
    s.blk.underTable n = false →
    s.blk.noHeartbeat = false → s.blk.memberOf n = none → Yields (.setSpeed h n v) s fun t =>
      Decided t.blk h 0x04 0 0 ∧ t.blk.regs = s.blk.regs ∧
      t.blk.drvs[n.val]? = (s.blk.drvs[n.val]?).map (fun d => { d with hostRef := v.toInt, ref := v.toInt })) ∧
  (∀ (s : State) (h : Hdr) (n : Fin 8) (v : BitVec 16), s.blk.powered .fabric = true → s.blk.configured n = true →
    s.blk.underTable n = true →
    s.blk.memberOf n = none → Yields (.setSpeed h n v) s fun t => Decided t.blk h 0x04 0x08 0 ∧
      t.blk.drvs[n.val]? = (s.blk.drvs[n.val]?).map (fun d => { d with hostRef := v.toInt })) ∧
  (∀ (s : State) (h : Hdr) (n : Fin 8) (v : BitVec 16), s.blk.powered .fabric = true → s.blk.configured n = true →
    s.blk.underTable n = false →
    s.blk.noHeartbeat = false → s.blk.on (R.Dn_CMODE_CTRL n) = true → Yields (.setTorque h n v) s fun t =>
      Decided t.blk h 0x05 0 0 ∧ t.blk.drvs[n.val]? = (s.blk.drvs[n.val]?).map (fun d => { d with torqRef := v.toInt })) ∧
  (∀ (s : State) (h : Hdr) (n : Fin 8), s.blk.powered .fabric = true → s.blk.configured n = true →
    (s.blk.drv n).bridge = none →
    (s.blk.drv n).leverSel = false → s.blk.noHeartbeat = false → Yields (.leverSelect h n 1) s fun t =>
      Decided t.blk h 0x07 0 0 ∧ ∀ d, t.blk.drvs[n.val]? = some d → d.leverSel = true) ∧
  (∀ (s : State) (h : Hdr) (n : Fin 8), s.blk.powered .fabric = true → s.blk.configured n = true →
    (s.blk.drv n).bridge = none →
    (s.blk.drv n).leverSel = true → Yields (.leverSelect h n 0) s fun t =>
      Decided t.blk h 0x07 0 0 ∧ ∀ d, t.blk.drvs[n.val]? = some d → d.leverSel = false) ∧
  (∀ (s : State) (h : Hdr) (n : Fin 8), s.blk.powered .fabric = true → s.blk.configured n = true →
    s.blk.noHeartbeat = false →
    (s.blk.drv n).bridge.isSome = true → Yields (.bridgeResume h (some n)) s fun t =>
      Decided t.blk h 0x08 0 0 ∧ Reported t.blk 0x2002 n ∧ ∀ d, t.blk.drvs[n.val]? = some d → d.bridge = none) ∧
  (∀ (s : State) (h : Hdr) (c : Fin 16) (i v : BitVec 16), s.blk.powered .fabric = true → s.blk.configured c = true →
    i.toNat < (s.blk.chan c).coefs.length →
    (∀ e ∈ (s.blk.chan c).prog.elems, i.toNat ∉ e.coefs) → Yields (.coefWrite h c i v) s fun t =>
      Decided t.blk h 0x06 0 0 ∧
      t.blk.rd R.LE_CWCNT_APPL = min (s.blk.rd R.LE_CWCNT_APPL + 1) R.LE_CWCNT_APPL.top ∧
      ∀ ch, t.blk.le.chans[c.val]? = some ch → ch.coefs = (s.blk.chan c).coefs.set i.toNat (signed 16 v.toNat)) ∧
  (∀ (s : State) (h : Hdr) (c : Fin 16) (i v : BitVec 16), s.blk.powered .fabric = true → s.blk.configured c = true →
    (s.blk.chan c).coefs.length ≤ i.toNat →
    Yields (.coefWrite h c i v) s fun t => Decided t.blk h 0x06 0x02 0x0301 ∧ Reported t.blk 0x7105 c ∧
      t.blk.rd R.LE_CWCNT_REF = min (s.blk.rd R.LE_CWCNT_REF + 1) R.LE_CWCNT_REF.top ∧ t.blk.le = s.blk.le)

/-- R224, R228, R229, R231, R233, R287, R359, R415: the commands of the chopper, of supervision, of Slalu and of tuning.
How CAP_START begins to count is the model's reading (log entry 34). -/
def Obligations.ServiceCommands : Prop :=
  (∀ (s : State) (h : Hdr) (n : Fin 8), s.blk.powered .fabric = true → s.blk.configured n = true →
    s.blk.rd (R.Dn_BRK_MODE n) = 1 →
    (s.blk.dc n).test = false → s.blk.pstate n = 0 → s.blk.on (R.Dn_DCSTAT_CHF n) = true →
    s.blk.on (R.Dn_DCSTAT_BRK n) = false → Yields (.brkClear h n) s fun t => Decided t.blk h 0x25 0 0 ∧
      t.blk.on (R.Dn_DCSTAT_BRK n) = true ∧ ∀ d, t.blk.dcl[n.val]? = some d → d.test = true) ∧
  (∀ (s : State) (h : Hdr) (n : Fin 8), s.blk.powered .fabric = true → s.blk.configured n = true →
    s.blk.rd (R.Dn_BRK_MODE n) = 1 → (s.blk.dc n).test = false → s.blk.pstate n = 0 →
    s.blk.on (R.Dn_DCSTAT_CHF n) = false → s.blk.on (R.Dn_DCSTAT_STKD n) = true →
    Yields (.brkClear h n) s fun t => Decided t.blk h 0x25 0 0 ∧ t.blk.on (R.Dn_DCSTAT_BRK n) = false ∧
      ∀ d, t.blk.dcl[n.val]? = some d → d.test = true) ∧
  (∀ (s : State) (h : Hdr) (n : Fin 8), s.blk.powered .fabric = true → s.blk.configured n = true →
    s.blk.rd (R.Dn_BRK_MODE n) = 1 → (s.blk.dc n).test = false → s.blk.pstate n ≠ 0 → Yields (.brkClear h n) s fun t =>
      Decided t.blk h 0x25 0x02 0x0001 ∧ t.blk.regs = s.blk.regs) ∧
  (∀ (s : State) (h : Hdr) (n : Fin 8), s.blk.powered .fabric = true → s.blk.configured n = true →
    s.blk.on (R.Dn_SUPSTAT_VERD n) = true →
    s.blk.pstate n = 0 → s.blk.on (R.FBn_STAT_INVAL (s.blk.rd (R.Dn_CMODE_FBSEL n))) = false →
    Yields (.supClear h n) s fun t => Decided t.blk h 0x24 0 0 ∧ t.blk.on (R.Dn_SUPSTAT_VERD n) = false ∧
      t.blk.on (R.Dn_SUPSTAT_FALL n) = false ∧ t.blk.rd (R.Dn_SUPSTAT_CAUSE n) = 0 ∧ Reported t.blk 0x7010 n) ∧
  (∀ (s : State) (h : Hdr) (n : Fin 8), s.blk.powered .fabric = true → s.blk.configured n = true →
    s.blk.on (R.Dn_SUPSTAT_VERD n) = true →
    s.blk.pstate n ≠ 0 → Yields (.supClear h n) s fun t => Decided t.blk h 0x24 0x02 0x0001 ∧ t.blk.regs = s.blk.regs) ∧
  (∀ (s : State) (h : Hdr) (k : Fin 64) (run : Bool) (ofs cnt : Byte) (data : List Byte),
    s.blk.powered .fabric = true → k.val ≠ 0 →
    s.blk.on (R.SLL_SESs_CFG_EN k) = true → s.blk.on (R.SLL_SESs_CFG_DIR k) = true → cnt.toNat ≠ 0 → cnt.toNat ≤ 48 →
    ofs.toNat + cnt.toNat ≤ s.blk.rd (R.SLL_SESs_CFG_LEN k) → s.blk.on (R.SLL_SESs_CFG_STATUS k) = false →
    Yields (.sllTxdata h k run ofs cnt data) s fun t => Decided t.blk h 0x30 0 0 ∧ t.blk.regs = s.blk.regs ∧
      t.blk.sll = { s.blk.sll with
        data := s.blk.sll.data.set k (splice (s.blk.sll.data.getD k []) ofs.toNat (data.take cnt.toNat))
        run := s.blk.sll.run.set k run }) ∧
  (∀ (s : State) (h : Hdr) (k : Fin 5), s.blk.powered .fabric = true → s.blk.injRefusal k = none →
    Yields (.injStart h k) s fun t =>
    t.blk.rd (R.LE_CAPSTAT_INJ k) = 1 ∧ t.blk.host = s.blk.host ∧
      ∀ x, t.blk.tuns[k.val]? = some x → x.j = 0 ∧ x.hdr = some h) ∧
  (∀ (s : State) (h : Hdr) (k : Fin 5) (st d : Nat), s.blk.powered .fabric = true →
    s.blk.injRefusal k = some (st, d) → Yields (.injStart h k) s fun t =>
    Decided t.blk h 0x20 st d ∧ t.blk.regs = s.blk.regs) ∧
  (∀ (s : State) (h : Hdr) (k : Fin 5), s.blk.powered .fabric = true → s.blk.rd (R.LE_CAPSTAT_INJ k) = 1 →
    Yields (.injStop h k) s fun t =>
    Decided t.blk h 0x21 0 0 ∧ t.blk.rd (R.LE_CAPSTAT_INJ k) = 3 ∧ Reported t.blk 0x7116 k) ∧
  (∀ (s : State) (h : Hdr) (k : Fin 5), s.blk.powered .fabric = true → s.blk.provisioned k = true →
    s.blk.rd (R.LE_CAPSTAT_CAP k) = 0 →
    s.blk.rd (R.LE_CAPCFG_TRIG k) ≠ 3 → Yields (.capStart h k) s fun t => Decided t.blk h 0x22 0 0 ∧
      t.blk.rd (R.LE_CAPSTAT_CAP k) = (if s.blk.rd (R.LE_CAPCFG_TRIG k) = 0 then 2 else 1) ∧
      t.blk.rd (R.LE_CAPSTAT_FILL k) = 0 ∧ ∀ x, t.blk.tuns[k.val]? = some x → x.buf = [] ∧ x.taken = 0) ∧
  (∀ (s : State) (h : Hdr) (k : Fin 5), s.blk.powered .fabric = true →
    (s.blk.rd (R.LE_CAPSTAT_CAP k) = 1 ∨ s.blk.rd (R.LE_CAPSTAT_CAP k) = 2) →
    Yields (.capStop h k) s fun t => Decided t.blk h 0x23 0 0 ∧ t.blk.rd (R.LE_CAPSTAT_CAP k) = 3 ∧
      ∀ x, t.blk.tuns[k.val]? = some x → x.final = true)

/-- R244, R247, R252, R254, R258, R425: the commands of the steppers and of the axes. AXIS_STOP and MOVE_FLUSH of an
axis that is off are the model's reading (log entry 118). -/
def Obligations.AxisCommands : Prop :=
  (∀ (s : State) (h : Hdr) (n : Fin 8), s.blk.powered .fabric = true → s.blk.on (R.Sn_CFG_EN n) = true →
    (s.blk.stpState n = 0 ∨ s.blk.stpState n = 3) →
    s.blk.on (R.Sn_STAT_FLTIN n) = false → s.blk.on (R.Sn_STAT_HASP_EN n) = true → s.blk.on (R.Sn_STAT_OWN n) = true →
    Yields (.energize h n) s fun t => Decided t.blk h 0x10 0 0 ∧ t.blk.stpState n = 1 ∧
      (s.blk.stpState n = 3 → Reported t.blk 0x4002 (8 + n.val)) ∧
      ∀ x, t.blk.stps[n.val]? = some x → x.enReq = true) ∧
  (∀ (s : State) (h : Hdr) (n : Fin 8), s.blk.powered .fabric = true → s.blk.on (R.Sn_CFG_EN n) = true →
    (s.blk.stpState n = 0 ∨ s.blk.stpState n = 3) →
    s.blk.on (R.Sn_STAT_HASP_EN n) = false → Yields (.energize h n) s fun t =>
      Decided t.blk h 0x10 0x02 0x0001 ∧ t.blk.stpState n = s.blk.stpState n ∧ Reported t.blk 0x4101 (8 + n.val)) ∧
  (∀ (s : State) (h : Hdr) (n : Fin 8), s.blk.powered .fabric = true → s.blk.on (R.Sn_CFG_EN n) = true →
    (s.blk.stpState n = 1 ∨ s.blk.stpState n = 2) →
    Yields (.deenergize h n) s fun t => Decided t.blk h 0x11 0 0 ∧ t.blk.stpState n = s.blk.stpState n ∧
      ∀ x, t.blk.stps[n.val]? = some x → x.deEn = true ∧ x.homing = 0) ∧
  (∀ (s : State) (h : Hdr) (a : Fin 16) (kind : Byte) (blend : Bool) (p v x d : Word), s.blk.powered .fabric = true →
    s.blk.configured a = true →
    s.blk.noHeartbeat = false → kind.toNat ≤ 2 → s.blk.tooHot a = false →
    s.blk.moveRefusal a (s.blk.queuedMove a kind.toNat blend p.toNat v.toNat x.toNat d.toNat) = none →
    Yields (.move h a kind blend p v x d) s fun t => Decided t.blk h 0x12 0 0 ∧
      ∀ y, t.blk.axes[a.val]? = some y → y.queue = (s.blk.axis a).queue ++
        [s.blk.queuedMove a kind.toNat blend p.toNat v.toNat x.toNat d.toNat]) ∧
  (∀ (s : State) (h : Hdr) (a : Fin 16) (kind : Byte) (blend : Bool) (p v x d : Word) (why : Nat),
    s.blk.powered .fabric = true → s.blk.configured a = true →
    s.blk.noHeartbeat = false → kind.toNat ≤ 2 → s.blk.tooHot a = false →
    s.blk.moveRefusal a (s.blk.queuedMove a kind.toNat blend p.toNat v.toNat x.toNat d.toNat) = some why →
    Yields (.move h a kind blend p v x d) s fun t => Decided t.blk h 0x12 0x02 why ∧ Reported t.blk 0x4101 a ∧
      t.blk.axes = s.blk.axes) ∧
  (∀ (s : State) (h : Hdr) (a : Fin 16), s.blk.powered .fabric = true → s.blk.configured a = true →
    Yields (.axisStop h a) s fun t =>
    Decided t.blk h 0x13 0 0 ∧ ∀ y, t.blk.axes[a.val]? = some y → y.stopNow = true) ∧
  (∀ (s : State) (h : Hdr) (a : Fin 16) (kind : Byte) (blend : Bool) (p v x d : Word), s.blk.powered .fabric = true →
    s.blk.configured a = true → s.blk.noHeartbeat = false → kind.toNat ≤ 2 → s.blk.tooHot a = true →
    Yields (.move h a kind blend p v x d) s fun t => Decided t.blk h 0x12 0x02 1 ∧ Reported t.blk 0x4101 a ∧
      t.blk.axes = s.blk.axes) ∧
  (∀ (s : State) (h : Hdr) (a : Fin 16) (m : Move), s.blk.powered .fabric = true → s.blk.configured a = true →
    (s.blk.axis a).stopNow = false → s.blk.tooHot a = false → (a.val < 8 → s.blk.pstate a = 1) →
    (8 ≤ a.val → s.blk.stpState (a.val - 8) = 1) → (s.blk.axis a).susp = some m →
    Yields (.resume h a) s fun t => Decided t.blk h 0x14 0 0 ∧
      ∀ y, t.blk.axes[a.val]? = some y → y.resume = true ∧ y.susp = some m) ∧
  (∀ (s : State) (h : Hdr) (a : Fin 16), s.blk.powered .fabric = true → s.blk.configured a = true →
    Yields (.moveFlush h a) s fun t =>
    Decided t.blk h 0x15 0 0 ∧ (∀ y, t.blk.axes[a.val]? = some y → y.queue = [] ∧ y.susp = none) ∧
      t.blk.rd (R.MPG_STAT_QLEN a) = 0) ∧
  (∀ (s : State) (h : Hdr) (a : Fin 16), s.blk.powered .fabric = true → 8 ≤ a.val → s.blk.configured a = true →
    s.blk.stpState (a.val - 8) = 1 →
    (s.blk.axis a).queue = [] → (s.blk.axis a).susp = none → (s.blk.axis a).cur = none →
      s.blk.on (R.MPG_CFG_EN a) = true →
    (s.blk.stp (a.val - 8)).homeDue = false → s.blk.tooHot a = false →
    Yields (.home h a) s fun t => Decided t.blk h 0x16 0 0 ∧
      ∀ x, t.blk.stps[a.val - 8]? = some x → x.homeDue = true) ∧
  (∀ (s : State) (h : Hdr) (a : Fin 16), s.blk.powered .fabric = true → a.val < 8 → s.blk.configured a = true →
    Yields (.home h a) s fun t =>
    Decided t.blk h 0x16 0x02 0x0001 ∧ Reported t.blk 0x4101 a)

/-- R394, R395, R434, R435, R438, R459, R460, R463, R465, R466: the commands of transactions, of the CAN controllers and
of the handover of a pair. The order of the checks of CAN_TX is the model's reading (log entry 60). -/
def Obligations.TransactionAndCanCommands : Prop :=
  (∀ (s : State) (h : Hdr), s.blk.powered .fabric = true → s.blk.txnStandby = false → s.blk.txnState h.ring = 0 →
    Yields (.txnBegin h) s fun t =>
    Decided t.blk h 0x40 0 0 ∧ t.blk.txnState h.ring = 1 ∧
      ∀ x, t.blk.txns.open_[h.ring.val]? = some x → x.list = [] ∧ x.bad = false) ∧
  (∀ (s : State) (h : Hdr), s.blk.powered .fabric = true → s.blk.txnStandby = false → s.blk.txnState h.ring ≠ 0 →
    Yields (.txnBegin h) s fun t =>
    Decided t.blk h 0x40 0x03 0 ∧ t.blk.regs = s.blk.regs ∧ t.blk.txns = s.blk.txns) ∧
  (∀ (s : State) (h : Hdr) (off val : Word), s.blk.powered .fabric = true → s.blk.txnStandby = false →
    (s.blk.txnState h.ring = 1 ∨ s.blk.txnState h.ring = 2) → off.toNat % 4 = 0 → off.toNat ≤ 0x3FFFF →
    (s.blk.txn h.ring).list.length < 4096 → ptrReg off.toNat = none → Yields (.txnWrite h off val) s fun t =>
      Decided t.blk h 0x41 0 0 ∧ ∀ x, t.blk.txns.open_[h.ring.val]? = some x →
        x.list = (s.blk.txn h.ring).list ++ [(off.toNat, 0, val.toNat)] ∧
        t.blk.rd (R.TXN_STAT_COUNT h.ring) = x.list.length) ∧
  (∀ (s : State) (h : Hdr) (off val : Word), s.blk.powered .fabric = true → s.blk.txnStandby = false →
    (s.blk.txnState h.ring = 1 ∨ s.blk.txnState h.ring = 2) → off.toNat % 4 ≠ 0 →
      Yields (.txnWrite h off val) s fun t =>
      Decided t.blk h 0x41 0x02 0x0004 ∧ t.blk.txnState h.ring = 2 ∧
      ∀ x, t.blk.txns.open_[h.ring.val]? = some x → x.bad = true ∧ x.list = (s.blk.txn h.ring).list) ∧
  (∀ (s : State) (h : Hdr), s.blk.powered .fabric = true → s.blk.txnStandby = false →
    (s.blk.txnState h.ring = 1 ∨ s.blk.txnState h.ring = 2) →
    Yields (.txnCommit h) s fun t => t.blk.txnState h.ring = 3 ∧ t.blk.host = s.blk.host ∧
      ∀ x, t.blk.txns.open_[h.ring.val]? = some x → x.hdr = some h) ∧
  (∀ (s : State) (h : Hdr), s.blk.powered .fabric = true → s.blk.txnStandby = false →
    (s.blk.txnState h.ring = 1 ∨ s.blk.txnState h.ring = 2) →
    Yields (.txnRollback h) s fun t => Decided t.blk h 0x43 0 0 ∧ t.blk.txnState h.ring = 0 ∧
      Reported t.blk 0x2011 h.ring ∧
      ∀ x, t.blk.txns.open_[h.ring.val]? = some x → x.list = []) ∧
  (∀ (s : State) (h : Hdr) (c : Instr) (op : Nat), s.blk.powered .fabric = true → s.blk.txnStandby = true →
    ((c = .txnBegin h ∧ op = 0x40) ∨ (∃ o v, c = .txnWrite h o v ∧ op = 0x41) ∨ (c = .txnCommit h ∧ op = 0x42) ∨
      (c = .txnRollback h ∧ op = 0x43)) →
    Yields c s fun t => Decided t.blk h op 0x02 0x0001 ∧ t.blk.regs = s.blk.regs ∧ t.blk.txns = s.blk.txns) ∧
  (∀ (s : State) (h : Hdr) (k : Fin 4) (buf flags dlc : Byte) (id : Word) (data : List Byte),
    s.blk.powered .fabric = true → buf.toNat < 3 →
    s.blk.txb k buf.toNat ≠ 1 → s.blk.txb k buf.toNat ≠ 2 → s.blk.canClosed k = false →
    (buf.toNat = 0 → s.blk.slaluOwnsTx k = false) → flags.toNat = 0 → dlc.toNat ≤ 8 → id.toNat < 2 ^ 11 →
    Yields (.canTx h k buf flags dlc id data) s fun t => Decided t.blk h 0x50 0 0 ∧ t.blk.txb k buf.toNat = 1 ∧
      ∀ c x, t.blk.cans[k.val]? = some c → c.bufs[buf.toNat]? = some x → x.f.id = id.toNat ∧ x.f.dlc = dlc.toNat ∧
        x.tag = h.tag.toNat) ∧
  (∀ (s : State) (h : Hdr) (k : Fin 4) (buf flags dlc : Byte) (id : Word) (data : List Byte),
    s.blk.powered .fabric = true → buf.toNat < 3 →
    (s.blk.txb k buf.toNat = 1 ∨ s.blk.txb k buf.toNat = 2) → Yields (.canTx h k buf flags dlc id data) s fun t =>
      Decided t.blk h 0x50 0x03 0 ∧ t.blk.regs = s.blk.regs ∧ t.blk.cans = s.blk.cans) ∧
  (∀ (s : State) (h : Hdr) (k : Fin 4) (buf ofs cnt : Byte) (data : List Byte), s.blk.powered .fabric = true →
    s.blk.canClosed k = false → buf.toNat < 3 →
    (buf.toNat = 0 → s.blk.slaluOwnsTx k = false) → ofs.toNat + cnt.toNat ≤ 64 → cnt.toNat ≠ 0 → cnt.toNat ≤ 48 →
    cnt.toNat ≤ data.length → Yields (.canStage h k buf ofs cnt data) s fun t => Decided t.blk h 0x51 0 0 ∧
      t.blk.regs = s.blk.regs ∧ ∀ c c' x, t.blk.cans[k.val]? = some c → s.blk.cans[k.val]? = some c' →
        c'.bufs[buf.toNat]? = some x → c.bufs[buf.toNat]? = some { x with img := splice x.img ofs.toNat (data.take cnt.toNat) }) ∧
  (∀ (s : State) (h : Hdr) (k : Fin 4) (buf : Byte) (won : Bool), s.blk.powered .fabric = true → buf.toNat < 3 →
    s.blk.txb k buf.toNat = 1 →
    ((s.blk.can k).buf buf.toNat).next = [] →
    Yields (.canCancel h k buf won) s fun t => Decided t.blk h 0x52 0 0 ∧ t.blk.txb k buf.toNat = 4) ∧
  (∀ (s : State) (h : Hdr) (k : Fin 4) (buf : Byte) (won : Bool), s.blk.powered .fabric = true → buf.toNat < 3 →
    s.blk.txb k buf.toNat ≠ 1 → s.blk.txb k buf.toNat ≠ 2 → Yields (.canCancel h k buf won) s fun t =>
      Decided t.blk h 0x52 0x02 0x0001 ∧ t.blk.regs = s.blk.regs) ∧
  (∀ (s : State) (h : Hdr) (k : Fin 4) (buf : Byte) (won : Bool), s.blk.powered .fabric = true → 3 ≤ buf.toNat →
    Yields (.canCancel h k buf won) s fun t =>
    Decided t.blk h 0x52 0x02 0x0004 ∧ t.blk.regs = s.blk.regs) ∧
  (∀ (s : State) (h : Hdr) (k : Fin 4), s.blk.powered .fabric = true → s.blk.on (R.CANn_STAT_RESTR k) = false →
    s.blk.canOn k = true →
    s.blk.slaluBound k = false → (∀ i < 3, s.blk.txb k i ≠ 1 ∧ s.blk.txb k i ≠ 2) → Yields (.canSleep h k) s fun t =>
      Decided t.blk h 0x53 0 0 ∧ ∀ c, t.blk.cans[k.val]? = some c → c.sleepReq = true) ∧
  (∀ (s : State) (h : Hdr) (k : Fin 4), s.blk.powered .fabric = true → s.blk.on (R.CANn_STAT_RESTR k) = false →
    s.blk.powered .comm = true →
    s.blk.canState k = 7 → Yields (.canWake h k) s fun t => Decided t.blk h 0x54 0 0 ∧ t.blk.canState k = 2 ∧
      Reported t.blk 0xD003 k) ∧
  (∀ (s : State) (h : Hdr) (k : Fin 4), s.blk.powered .fabric = true → s.blk.on (R.CANn_STAT_RESTR k) = true →
    Yields (.canWake h k) s fun t =>
    Decided t.blk h 0x54 0x02 0x0001 ∧ t.blk.regs = s.blk.regs) ∧
  (∀ (s : State) (h : Hdr), s.blk.powered .fabric = true → s.blk.standbyReady = true →
    Yields (.pairHandover h) s fun t =>
    Decided t.blk h 0x38 0 0 ∧ t.blk.on R.MIR_STAT_OWNOUT = false ∧ t.blk.rd R.MIR_STAT_ROLE = 1) ∧
  (∀ (s : State) (h : Hdr), s.blk.powered .fabric = true → s.blk.standbyReady = false →
    Yields (.pairHandover h) s fun t =>
    Decided t.blk h 0x38 0x02 0x0501 ∧ Reported t.blk 0xC103 0)

/-- R147, R148, R152, R153, R155, R156, R157, R497: the lanes and converters of the measurement front end and their
trims. What a mismatch finds takes effect at the next tick: the spare of a shadow becomes the live lane, a converter
retires (`retireCv`). A gain check reports what the model's own sums find; the phase-current ratio comes with its row
(log entry 146). That a differing trim count is not stored is the model's reading (log entry 43). -/
def Obligations.FrontEndSpares : Prop :=
  (∀ (s : State) (g : Fin 2) (x : ShadowGrp), s.blk.afe.groups[g.val]? = some x → 256 ≤ x.fr →
    s.blk.powered .afe = true →
    Yields (.shadowRotate g) s fun t => ∃ y, t.blk.afe.groups[g.val]? = some y ∧ y.fr = 0 ∧ y.la = x.la ∧ y.lb = x.lb ∧
      (y.inp = (x.inp + 1) % 40 ∨ y.inp = (x.inp + 2) % 40)) ∧
  (∀ (s : State) (l : Fin 44), s.blk.on (laneBit l) = false → s.blk.powered .afe = true →
    Yields (.laneResidueFail l) s fun t => t.blk.on (laneBit l) = true ∧ Reported t.blk 0x6201 l) ∧
  (∀ (s : State) (g : Fin 2) (x : ShadowGrp), s.blk.afe.groups[g.val]? = some x → x.inp < 40 →
    s.blk.powered .afe = true →
    Yields (.shadowMismatch g 0) s fun t => (x.inp, x.la) ∈ t.blk.afe.nextLane ∧
      t.blk.rd (R.AFE_LMAP_LANE x.inp) = s.blk.rd (R.AFE_LMAP_LANE x.inp) ∧
      Reported t.blk 0x6201 (s.blk.rd (R.AFE_LMAP_LANE x.inp))) ∧
  (∀ (s : State) (g : Fin 2) (x : ShadowGrp), s.blk.afe.groups[g.val]? = some x → s.blk.powered .afe = true →
    Yields (.shadowMismatch g 1) s (fun t => Reported t.blk 0x6201 x.la) ∧
    Yields (.shadowMismatch g 2) s (fun t => Reported t.blk 0x6201 x.lb)) ∧
  (∀ (s : State) (x : Nat) (rest : List Nat), s.blk.rd R.AFE_SARSTAT_ROTC ≠ 3 → s.blk.fn % 4096 = 0 →
    s.blk.powered .afe = true → s.blk.afe.retCv = [] → s.blk.afe.service = x :: rest → x < 3 →
      Yields .sarRotate s fun t =>
      t.blk.rd R.AFE_SARSTAT_ROTC = x ∧ t.blk.afe.service = rest ++ [s.blk.rd R.AFE_SARSTAT_ROTC]) ∧
  (∀ (s : State) (cv : Fin 3), cv.val ∈ s.blk.afe.service → s.blk.powered .afe = true →
    s.blk.rd R.AFE_SARSTAT_ROTC ≠ 3 → Yields (.sarShadowMismatch cv false false) s fun t => Reported t.blk 0x6102 cv ∧
      t.blk.rd R.AFE_SARSTAT_SHMIS = min (s.blk.rd R.AFE_SARSTAT_SHMIS + 1) R.AFE_SARSTAT_SHMIS.top ∧
      t.blk.afe.service = s.blk.afe.service) ∧
  (∀ (s : State) (cv : Fin 3) (rotBad : Bool), cv.val ∈ s.blk.afe.service → s.blk.powered .afe = true →
    s.blk.rd R.AFE_SARSTAT_ROTC ≠ 3 → Yields (.sarShadowMismatch cv true rotBad) s fun t =>
      cv.val ∈ t.blk.afe.retCv ∧ (rotBad = true → s.blk.rd R.AFE_SARSTAT_ROTC ∈ t.blk.afe.retCv) ∧
      t.blk.afe.service = s.blk.afe.service ∧ t.blk.regs = s.blk.regs) ∧
  (∀ (b : Blk) (cv : Fin 3), b.rd R.AFE_SARSTAT_ROTC ≠ cv.val → cv.val ∉ (b.retireCv cv).afe.service ∧
    (b.retireCv cv).on (bitOf R.AFE_SARSTAT_RET cv) = true ∧ Reported (b.retireCv cv) 0x6202 cv ∧
    (b.retireCv cv).rd R.AFE_SARSTAT_ROTC = 3) ∧
  (∀ (s : State) (i : Fin 40) (high : Bool), s.blk.powered .afe = true → s.blk.configured (chanOfInput i) = true →
    Yields (.modulatorStuck i high) s fun t => t.blk.on (stuckBit i) = true ∧ t.blk.on (R.AFE_LMAP_VALID i) = false ∧
      Reported t.blk 0x6303 i) ∧
  (∀ (s : State) (n : Fin 8) (kind : Fin 3) (v : Int), s.blk.powered .afe = true → s.blk.configured n = true →
    (kind.val = 0 → s.blk.rd (R.AFE_PB_CLINK n) ≠ 0) → kind.val ≠ 1 →
    bitAt (s.blk.afe.gainBad.getD n 0) kind = true → Yields (.gainCheckFail n kind v) s fun t =>
      t.blk.on (bitOf R.AFE_WSTAT_GFAIL n) = true ∧ Reported t.blk 0x6101 n) ∧
  (∀ (s : State) (n : Fin 8) (kind : Fin 3) (v : Int), kind.val ≠ 1 → bitAt (s.blk.afe.gainBad.getD n 0) kind = false →
    Yields (.gainCheckFail n kind v) s fun t => t.blk.evs = s.blk.evs ∧ t.blk.regs = s.blk.regs) ∧
  (∀ (s : State) (n : Fin 8) (v : Int), s.blk.powered .afe = true → s.blk.configured n = true →
    n.val < s.blk.afe.gainBad.length → 20 < magI v → Yields (.gainCheckFail n 1 v) s fun t =>
      t.blk.on (bitOf R.AFE_WSTAT_GFAIL n) = true ∧ Reported t.blk 0x6101 n) ∧
  (∀ (s : State) (n : Fin 8) (v : Int), n.val < s.blk.afe.gainBad.length → magI v ≤ 20 →
    Yields (.gainCheckFail n 1 v) s fun t => t.blk.evs = s.blk.evs ∧
      SameBut s.blk t.blk (fun a => a = (R.AFE_GCHK_ABR n).off)) ∧
  (∀ (b : Blk) (n : Fin 8) (kind : Nat) (bad : Bool), n.val < b.afe.gainBad.length →
    bitAt ((b.gainResult n kind bad).afe.gainBad.getD n 0) kind = bad) ∧
  (∀ (s : State) (count : Nat), s.blk.powered .afe = true → s.blk.on R.CLK_STAT_XOOK = true →
    s.blk.trimDiffers count s.blk.flintBin = false → Yields (.flintbTrimCount count true) s fun t => t.blk.clk.drift = false ∧
      t.blk.afe.tabF = putAt s.blk.afe.tabF s.blk.flintBin (some (Int.ofNat count))) ∧
  (∀ (s : State) (count : Nat), s.blk.powered .afe = true → s.blk.on R.CLK_STAT_XOOK = true →
    s.blk.trimDiffers count s.blk.flintBin = true →
    Yields (.flintbTrimCount count true) s fun t => t.blk.clk.drift = true ∧ t.blk.afe = s.blk.afe) ∧
  (∀ (s : State) (count : Nat), Yields (.flintbTrimCount count false) s fun t => t = s) ∧
  (∀ (s : State), s.blk.powered .nvs = true → Yields .trimTableSave s fun t =>
    t.blk.afe.savF = s.blk.afe.tabF ∧ t.blk.afe.savS = s.blk.afe.tabS ∧ t.blk.afe.savO = s.blk.corrections ∧
    t.blk.regs = s.blk.regs)

/-- R159, R162, R164, R165, R170, R181, R182: edges of a feedback port, its index, its compare pulse and its encoder
emulation. -/
def Obligations.FeedbackPorts : Prop :=
  (∀ (s : State) (p : Fin 12) (x y z : Bool) (st : BitVec 32), s.blk.powered .feed = true →
    (s.blk.fbMode p = 1 ∨ s.blk.fbMode p = 2) → Yields (.feedbackEdge p x y z st) s fun t =>
      ∀ o, t.blk.ports[p.val]? = some o → o.a = x ∧ o.b = y ∧ o.z = z ∧ (t.blk.qualIdx p o = false → o.idx = false)) ∧
  (∀ (s : State) (p : Fin 12) (x y z : Bool) (st : BitVec 32), s.blk.powered .feed = true → s.blk.fbMode p = 2 →
    Yields (.feedbackEdge p x y z st) s fun t => t.blk.rd (R.FBn_STAT_HALL p) = hallCode x y z) ∧
  (∀ (s : State) (p : Fin 12), s.blk.powered .feed = true → s.blk.fbMode p = 1 → (s.blk.port p).idx = false →
    s.blk.qualIdx p (s.blk.port p) = true → (s.blk.port p).latched = false → Yields (.indexLatch p) s fun t =>
      t.blk.rd (R.FBn_IDXLAT_LAT p) = (s.blk.port p).pos % 2 ^ 32 ∧
        t.blk.rd (R.FBn_IDXREF_REF p) = (s.blk.port p).pos % 2 ^ 32 ∧
      t.blk.on (R.FBn_STAT_AVALID p) = true ∧ Reported t.blk 0x5001 p) ∧
  (∀ (s : State) (p : Fin 12), s.blk.powered .feed = true → s.blk.fbMode p = 1 → (s.blk.port p).idx = false →
    s.blk.qualIdx p (s.blk.port p) = true → (s.blk.port p).latched = true →
    s.blk.rd (R.FBn_IDXTOL_TOL p) <
      magI (idxResidue (diff32 (s.blk.port p).pos (s.blk.rd (R.FBn_IDXLAT_LAT p))) (s.blk.rd (R.FBn_CPR_CPR p))) →
    Yields (.indexLatch p) s fun t => t.blk.on (R.FBn_STAT_DRIFT p) = true ∧ Reported t.blk 0x5102 p ∧
      t.blk.rd (R.FBn_ERRCNT_DRIFTCNT p) = min (s.blk.rd (R.FBn_ERRCNT_DRIFTCNT p) + 1) (R.FBn_ERRCNT_DRIFTCNT p).top) ∧
  (∀ (s : State) (p : Fin 12), s.blk.powered .feed = true → Yields (.comparePulseEnd p) s fun t => t.blk.regs = s.blk.regs ∧
    t.blk.ports[p.val]? = (s.blk.ports[p.val]?).map (fun x => { x with cmpRun := false })) ∧
  (∀ (s : State) (p : Fin 12), s.blk.powered .feed = true → s.blk.on (R.FBn_EMUCFG_EN p) = true →
    Yields (.encoderEmulationEdge p) s fun t =>
    t.blk.ports[p.val]? = (s.blk.ports[p.val]?).map (fun x => { x with
      emuOut := x.emuOut + sgn (s.blk.backlog p), emuPh := ((Int.ofNat x.emuPh + sgn (s.blk.backlog p)) % 4).toNat }) ∧
    SameBut s.blk t.blk (fun a => a = (R.FBn_EMUSTAT_BACKLOG p).off))

/-- R217, R218, R220, R229, R231, R233: supervision and tuning between host commands. CAUSE of a verdict by CNT, and a
verdict with EN = 0, are the model's reading (log entries 53, 54). -/
def Obligations.SupervisionAndTuning : Prop :=
  (∀ (s : State) (n : Fin 8), s.blk.powered .fabric = true → s.blk.configured n = true →
    s.blk.on (R.Dn_CMODE_SENS n) = true →
    s.blk.on (R.Dn_SUPSTAT_VERD n) = false → s.blk.on (R.Dn_SUPCFG_EN n) = true → 0 < s.blk.rd (R.Dn_SUPCFG_PERSIST n) →
    s.blk.rd (R.Dn_SUPCFG_PERSIST n) ≤ s.blk.rd (R.Dn_SUPSTAT_CNT n) → Yields (.feedbackVerdict n) s fun t =>
      t.blk.on (R.Dn_SUPSTAT_VERD n) = true ∧ t.blk.rd (R.Dn_SUPSTAT_CAUSE n) = (if (s.blk.drv n).lastExc then 1 else 2) ∧
      t.blk.rd (R.Dn_SUPCNT_VERDS n) = min (s.blk.rd (R.Dn_SUPCNT_VERDS n) + 1) (R.Dn_SUPCNT_VERDS n).top ∧
      ∀ d, t.blk.drvs[n.val]? = some d → d.verdNew = true) ∧
  (∀ (s : State) (n : Fin 8), s.blk.powered .fabric = true → s.blk.configured n = true →
    s.blk.on (R.Dn_CMODE_SENS n) = true →
    s.blk.on (R.Dn_SUPSTAT_VERD n) = false → s.blk.on (R.Dn_SUPCFG_EN n) = false →
    s.blk.on (R.FBn_STAT_INVAL (s.blk.rd (R.Dn_CMODE_FBSEL n))) = true → Yields (.feedbackVerdict n) s fun t =>
      t.blk.on (R.Dn_SUPSTAT_VERD n) = true ∧ t.blk.rd (R.Dn_SUPSTAT_CAUSE n) = 3) ∧
  (∀ (s : State) (n : Fin 8), s.blk.powered .fabric = true → (s.blk.drv n).settle = 0 →
    Yields (.supervisionSettleEnd n) s fun t =>
    t.blk.on (R.Dn_SUPSTAT_SUSP n) = false ∧ SameBut s.blk t.blk (fun a => a = (R.Dn_SUPSTAT_SUSP n).off)) ∧
  (∀ (s : State) (k : Fin 5), s.blk.powered .fabric = true → s.blk.rd (R.LE_CAPSTAT_INJ k) = 1 →
    s.blk.injRuns k ≤ (s.blk.tun k).j →
    Yields (.injectionComplete k) s fun t => t.blk.rd (R.LE_CAPSTAT_INJ k) = 2 ∧ Reported t.blk 0x7015 k ∧
      ∀ x, t.blk.tuns[k.val]? = some x → x.v = 0) ∧
  (∀ (s : State) (k : Fin 5), s.blk.powered .fabric = true → s.blk.rd (R.LE_CAPSTAT_CAP k) = 1 →
    (s.blk.tun k).cross = true →
    Yields (.captureLevelTrigger k) s fun t => t.blk.rd (R.LE_CAPSTAT_CAP k) = 2 ∧
      SameBut s.blk t.blk (fun a => a = (R.LE_CAPSTAT_CAP k).off)) ∧
  (∀ (s : State) (k : Fin 5), s.blk.powered .fabric = true → s.blk.rd (R.LE_CAPSTAT_CAP k) = 3 →
    (s.blk.tun k).final = false → (s.blk.tun k).buf = [] →
    Yields (.captureEnd k) s fun t => t.blk.rd (R.LE_CAPSTAT_CAP k) = 0 ∧ Reported t.blk 0x7017 k)

/-- R243, R245, R248, R249, R252, R254, R255, R257, R258, R259: what a stepper and an axis do between commands: a bridge
fault, a move that starts or ends, the standstill, the fall of the current, a stall, a homing that finds no stop, and
the homing and the suspended move that a tick starts once its commits have applied. -/
def Obligations.AxisMotion : Prop :=
  (∀ (s : State) (n : Fin 8), s.blk.on (R.Sn_CFG_EN n) = true → s.blk.on (R.Sn_CFG_FLTEN n) = true →
    s.blk.powered .pwm = true → (s.blk.stpState n = 1 ∨ s.blk.stpState n = 2) →
      Yields (.stepperBridgeFault n) s fun t =>
      t.blk.on (R.Sn_STAT_FLT n) = true ∧ t.blk.stpState n = 3 ∧ Reported t.blk 0x4304 (8 + n.val)) ∧
  (∀ (s : State) (a : Fin 16) (m : Move) (q : List Move), s.blk.powered .fabric = true →
    (s.blk.axis a).queue = m :: q → s.blk.on (R.MPG_CFG_EN a) = true →
    s.blk.axisReady a = true → (s.blk.axis a).susp = none → (s.blk.axis a).cur = none → (s.blk.axis a).stop = false →
    s.blk.tooHot a = false → (8 ≤ a.val → (s.blk.stp (a.val - 8)).homeDue = false) →
    Yields (.moveStart a) s fun t =>
      (∀ x, t.blk.axes[a.val]? = some x → x.queue = q ∧ x.cur = some (s.blk.planMove a m (s.blk.axis a).vEnd q.head?)) ∧
      (8 ≤ a.val → t.blk.stpState (a.val - 8) = 2)) ∧
  (∀ (s : State) (a : Fin 16) (p : MovePlan), s.blk.powered .fabric = true → (s.blk.axis a).cur = some p →
    s.blk.moveEnded a p = true →
    Yields (.moveComplete a) s fun t =>
      (∀ x, t.blk.axes[a.val]? = some x → x.cur = none ∧ x.vEnd = p.endV) ∧
      t.blk.rd (R.MPG_STAT_DONE a) = min (s.blk.rd (R.MPG_STAT_DONE a) + 1) (R.MPG_STAT_DONE a).top ∧
      (8 ≤ a.val → (s.blk.stp (a.val - 8)).homing = 2 →
        t.blk.on (R.Sn_STAT_HOMED (a.val - 8)) = true ∧ t.blk.on (R.Sn_STAT_PUNC (a.val - 8)) = false ∧
          Reported t.blk 0x4001 a)) ∧
  (∀ (s : State) (a : Fin 16), s.blk.powered .fabric = true → (s.blk.axis a).v = 0 → (s.blk.axis a).vRaw = 0 →
    (s.blk.axis a).vEnd = 0 →
    (s.blk.axis a).cur = none → (s.blk.axis a).resume = false → Yields (.axisStandstill a) s fun t =>
      (∀ x, t.blk.axes[a.val]? = some x → x.stop = false) ∧
      (8 ≤ a.val → s.blk.stpState (a.val - 8) = 2 → (s.blk.axis a).queue = [] → t.blk.stpState (a.val - 8) = 1)) ∧
  (∀ (s : State) (n : Fin 8), s.blk.powered .fabric = true → 0 < s.blk.rd (R.Sn_TIM_HOLDT n) →
    s.blk.rd (R.Sn_TIM_HOLDT n) ≤ (s.blk.stp n).zeroFr →
    (s.blk.stp n).fall = none → Yields (.holdCurrentFall n) s fun t => t.blk.regs = s.blk.regs ∧
      t.blk.stps[n.val]? = (s.blk.stps[n.val]?).map (fun x => { x with fall := some 0 })) ∧
  (∀ (s : State) (n : Fin 8), s.blk.powered .fabric = true → s.blk.stpState n = 2 →
    ((s.blk.stp n).homing = 1 → s.blk.rd (R.Sn_STALL_STALLN n) ≤ (s.blk.stp n).homeFr) →
    s.blk.rd (R.Sn_STALL_STVMIN n) * 2 ^ 24 ≤ magI (s.blk.axis (8 + n.val)).v →
    0 < s.blk.rd (R.Sn_STALL_STALLN n) → s.blk.rd (R.Sn_STALL_STALLN n) ≤ (s.blk.stp n).stallN →
    Yields (.stallDetected n) s fun t => t.blk.on (R.Sn_STAT_STALL n) = true ∧
      ∀ x, t.blk.stps[n.val]? = some x → x.stallDue = ((s.blk.stp n).homing == 1 || s.blk.on (R.Sn_CFG_STALLEN n)) ∧
        x.stall.isSome = true) ∧
  (∀ (s : State) (n : Fin 8), s.blk.powered .fabric = true → (s.blk.stp n).homing = 1 →
    s.blk.rd (R.Sn_HOMEX_HOMEMAX n) * 2 ^ 32 ≤ (s.blk.stp n).homeMs →
    Yields (.homingFailed n) s fun t => t.blk.on (R.Sn_STAT_HOMED n) = false ∧ t.blk.on (R.Sn_STAT_PUNC n) = true ∧
      Reported t.blk 0x4306 (8 + n.val) ∧ ∀ x, t.blk.stps[n.val]? = some x → x.homing = 0) ∧
  (∀ (b : Blk) (n : Fin 8), (b.stp n).homeDue = true → b.stpState n = 1 → b.on (R.MPG_CFG_EN (8 + n.val)) = true →
    (b.homeNow n).stpState n = 2 ∧ (∀ x, (b.homeNow n).stps[n.val]? = some x →
      x.homing = 1 ∧ x.homeFr = 0 ∧ x.homeDue = false) ∧
    (∀ y, (b.homeNow n).axes[8 + n.val]? = some y → y.cur.isSome = true)) ∧
  (∀ (b : Blk) (a : Fin 16) (m : Move), (b.axis a).susp = some m → (b.axis a).resume = true → (b.axis a).v = 0 →
    (b.axis a).vRaw = 0 → (∀ y, (b.resumeLate a).axes[a.val]? = some y → y.susp = none ∧ y.cur.isSome = true) ∧
      (8 ≤ a.val → (b.resumeLate a).stpState (a.val - 8) = 2))

/-- R265, R271, R273, R276: members that join, fall out and return to a share group. -/
def Obligations.ShareGroups : Prop :=
  (∀ (s : State) (g k : Fin 4), s.blk.powered .fabric = true → s.blk.slotState g k = 1 →
    s.blk.hfrm g k ≤ (s.blk.grp g).k.getD k 0 →
    Yields (.shareJoinComplete g k) s fun t => t.blk.slotState g k = 2 ∧ Reported t.blk 0x8001 g) ∧
  (∀ (s : State) (g k : Fin 4), s.blk.powered .fabric = true → s.blk.slotActive g k = true →
    0 < s.blk.rd (R.SHR_Gg_CFG_DEVN g) →
    s.blk.rd (R.SHR_Gg_CFG_DEVN g) ≤ (s.blk.grp g).dev.getD k 0 → Yields (.shareSpeedDeviation g k) s fun t =>
      t.blk.slotState g k = 0 ∧ Reported t.blk 0x8306 g ∧
      t.blk.rd (R.SHR_Gg_STAT_LEFT g) = min (s.blk.rd (R.SHR_Gg_STAT_LEFT g) + 1) (R.SHR_Gg_STAT_LEFT g).top) ∧
  (∀ (s : State) (g k : Fin 4), s.blk.powered .fabric = true → k.val ∈ s.blk.slotsOf g →
    s.blk.slotActive g k = true → s.blk.remote g k = true →
    (s.blk.slotsOf g).any (fun j => s.blk.slotOwn g j) = true → 4 ≤ (s.blk.grp g).noEx.getD k 0 →
      Yields (.shareExchangeLost g) s fun t =>
      t.blk.slotState g k = 3 ∧ Reported t.blk 0x8205 g) ∧
  (∀ (s : State) (g k : Fin 4), s.blk.powered .fabric = true → s.blk.slotState g k = 3 →
    64 ≤ (s.blk.grp g).okEx.getD k 0 →
    ((s.blk.member g k).map (·.closed)).getD false = true → Yields (.shareIsolRejoin g k) s fun t =>
      (t.blk.slotState g k = 1 ∨ t.blk.slotState g k = 2) ∧
      (s.blk.rd (R.SHR_Gg_CFG_MODE g) = 2 → t.blk.slotState g k = 2 ∧ Reported t.blk 0x8001 g))

/-- R382, R386, R387, R394, R395, R396, R397, R398: the partner's line, the takeover and Hinge. -/
def Obligations.PairOperation : Prop :=
  (∀ (s : State), s.blk.powered .mir = true → s.blk.rd R.MIR_STAT_PID ≠ 0 → s.blk.on R.MIR_STAT_OWNIN = true →
    Yields .ownInReleased s fun t => t.blk.on R.MIR_STAT_OWNIN = false ∧
      (s.blk.standby = true → s.blk.on R.MIR_STAT_OWNOUT = false → t.blk.mir.rel = some 0) ∧
      (s.blk.standby = true → s.blk.on R.MIR_STAT_OWNOUT = true → t.blk.role = 3 ∧ Reported t.blk 0xC003 0)) ∧
  (∀ (s : State) (k : Nat), s.blk.powered .mir = true → s.blk.mir.rel = some k → k ≠ 0 → s.blk.standby = true →
    s.blk.mayClaim = false →
    Yields .takeoverClaim s fun t => t.blk.mir.rel = none ∧ Reported t.blk 0xC108 0 ∧
      t.blk.on R.MIR_STAT_OWNOUT = s.blk.on R.MIR_STAT_OWNOUT) ∧
  (∀ (s : State) (k : Nat), s.blk.powered .mir = true → s.blk.mir.rel = some k → k ≠ 0 → s.blk.standby = true →
    s.blk.mayClaim = true →
    s.blk.on R.MIR_STAT_OWNIN = false → Yields .takeoverClaim s fun t => Reported t.blk 0xC202 0 ∧
      t.blk.mir.guard = some 0) ∧
  (∀ (s : State) (k : Nat), s.blk.powered .mir = true → s.blk.mir.guard = some k → 4 ≤ k → s.blk.mir.got = none →
    Yields .takeoverResume s fun t =>
    t.blk.mir.guard = none ∧ Reported t.blk 0xC109 0) ∧
  (∀ (s : State) (k : Nat) (f : HingeFrame), s.blk.powered .mir = true → s.blk.mir.guard = some k → 4 ≤ k →
    s.blk.mir.got = some f →
    Yields .takeoverResume s fun t => t.blk.mir.guard = none ∧
      (s.blk.rd R.MIR_CFG_STALE < s.blk.fn - f.fn → Reported t.blk 0xC109 0)) ∧
  (∀ (s : State), s.blk.powered .mir = true → s.blk.rd R.MIR_STAT_PID ≠ 0 → Yields .partnerLineReasserted s fun t =>
    t.blk.on R.MIR_STAT_OWNIN = true ∧
      (s.blk.role = 3 → s.blk.on R.MIR_STAT_OWNOUT = true → Reported t.blk 0xC106 0)) ∧
  (∀ (s : State) (f : HingeFrame) (us : Nat), s.blk.powered .mir = true → s.blk.rd R.MIR_STAT_PID ≠ 0 →
    s.blk.mir.dead.getD 0 true = false → f.crcOk = false → Yields (.hingeFrameReceived 0 f us) s fun t =>
      t.blk.rd R.MIR_CNT_CRC0 = min (s.blk.rd R.MIR_CNT_CRC0 + 1) R.MIR_CNT_CRC0.top ∧ t.blk.mir = s.blk.mir) ∧
  (∀ (s : State) (lane : Fin 2) (f : HingeFrame) (us : Nat), s.blk.powered .mir = true → s.blk.rd R.MIR_STAT_PID ≠ 0 →
    s.blk.mir.dead.getD lane true = false → f.crcOk = true → Yields (.hingeFrameReceived lane f us) s fun t =>
      (s.blk.mir.fresh = false → 400 * us + 2048 ≤ s.blk.frameLen →
        t.blk.mir.fresh = true ∧ t.blk.mir.got = some (f.keepBad s.blk.mir.got)) ∧
      (s.blk.mir.fresh = true ∨ s.blk.frameLen < 400 * us + 2048 → t.blk.mir.got = s.blk.mir.got)) ∧
  (∀ (s : State), s.blk.powered .mir = true → s.blk.rd R.MIR_STAT_PID ≠ 0 → s.blk.mir.fresh = false →
    Yields .hingeFrameMissing s fun t => t.blk.mir.miss = s.blk.mir.miss + 1 ∧ t.blk.mir.good = 0 ∧
      t.blk.rd R.MIR_CNT_MISS = min (s.blk.rd R.MIR_CNT_MISS + 1) R.MIR_CNT_MISS.top) ∧
  (∀ (s : State), s.blk.powered .mir = true → s.blk.rd R.MIR_STAT_PID ≠ 0 → s.blk.mir.miss = 4 →
    Yields .hingeSilent s fun t => Reported t.blk 0xC105 0 ∧ (s.blk.role = 2 →
      t.blk.role = 4 ∧ Reported t.blk 0xC101 0)) ∧
  (∀ (s : State) (lane : Fin 2), s.blk.powered .mir = true → s.blk.mir.dead.getD lane true = false →
    64 ≤ s.blk.mir.lost.getD lane 0 → s.blk.mir.lost.getD (1 - lane.val) 0 = 0 →
      Yields (.hingeLaneRetire lane) s fun t =>
      t.blk.mir.dead = s.blk.mir.dead.set lane true ∧ t.blk.on R.WARD_SPARE_HL = false ∧ Reported t.blk 0xC201 lane) ∧
  (∀ (s : State) (f : HingeFrame), s.blk.powered .mir = true → s.blk.mir.got = some f →
    (s.blk.mir.fresh = true → s.blk.fn = f.fn + 1) → (s.blk.role = 1 ∨ s.blk.role = 4) → s.blk.notReady = 0 →
    Yields .standbyReady s fun t => t.blk.role = 2 ∧ t.blk.rd R.MIR_STAT_NRC = 0 ∧ Reported t.blk 0xC001 0)

/-- R407, R409, R412: a write of a ring's doorbell. On a powered host interface a ring that is not halted takes an index
that lies in the range its kind allows; any other index halts it with CAUSE 1, a doorbell of a disabled ring with CAUSE
3, each with event 0x2103. That bits 12 to 0 are the index, and that a distance beyond SIZE halts, is the model's
reading (log entry 59). -/
def Obligations.RingDoorbells : Prop :=
  ∀ (s : State) (q : Fin 11) (v : Word) (c : Instr),
    ((∃ r : Fin 4, c = .commandDoorbell r v ∧ q.val = r.val) ∨ (∃ r : Fin 4, c = .completionDoorbell r v ∧
      q.val = 4 + r.val) ∨
      (∃ r : Fin 2, c = .telemetryDoorbell r v ∧ q.val = 8 + r.val) ∨ (c = .eventDoorbell v ∧ q.val = 10)) →
    s.blk.powered .host = true → s.blk.rd (R.RING_STAT_STATE q) ≠ 2 →
    (s.blk.on (R.RING_CTL_EN q) = true → v.toNat % 8192 < 2 * s.blk.ringSize q →
      (if q.val < 4 then ringDist (s.blk.ringSize q) (v.toNat % 8192) (s.blk.rd (R.RING_IDX_MOD q))
        else ringDist (s.blk.ringSize q) (s.blk.rd (R.RING_IDX_MOD q)) (v.toNat % 8192)) ≤ s.blk.ringSize q →
      Yields c s fun t => t.blk.rd (R.RING_IDX_HOST q) = v.toNat % 8192 ∧
        t.blk.rd (R.RING_IDX_MOD q) = s.blk.rd (R.RING_IDX_MOD q) ∧
        SameBut s.blk t.blk (fun a => a = (R.RING_IDX_HOST q).off) ∧ t.blk.evs = s.blk.evs ∧ t.blk.host = s.blk.host) ∧
    (s.blk.on (R.RING_CTL_EN q) = true →
      s.blk.ringSize q < (if q.val < 4 then ringDist (s.blk.ringSize q) (v.toNat % 8192) (s.blk.rd (R.RING_IDX_MOD q))
        else ringDist (s.blk.ringSize q) (s.blk.rd (R.RING_IDX_MOD q)) (v.toNat % 8192)) →
      Yields c s fun t => t.blk.rd (R.RING_STAT_STATE q) = 2 ∧ t.blk.rd (R.RING_STAT_CAUSE q) = 1 ∧
        t.blk.rd (R.RING_IDX_HOST q) = s.blk.rd (R.RING_IDX_HOST q) ∧ Reported t.blk 0x2103 q ∧
        t.blk.host = { s.blk.host with vec8 := s.blk.host.vec8 + 1 }) ∧
    (s.blk.on (R.RING_CTL_EN q) = false → Yields c s fun t =>
      t.blk.rd (R.RING_STAT_STATE q) = 2 ∧ t.blk.rd (R.RING_STAT_CAUSE q) = 3 ∧ Reported t.blk 0x2103 q)

/-- R404, R407, R408, R412, R425, R426, R445, R520: the heartbeat and its loss, a stray write to BAR2, an MSI-X vector,
the reset of a ring, and PERST_N: every ring and the heartbeat off, no descriptor outstanding, event 0x2106. What HB
reads after PERST is the model's reading (log entry 108). -/
def Obligations.HostInterface : Prop :=
  (∀ (s : State) (v : Word), s.blk.powered .host = true → Yields (.heartbeatDoorbell v) s fun t =>
    t.blk.rd R.HIF_STAT_HB = 1 ∧ t.blk.host = { s.blk.host with hbAge := 0 } ∧
    (s.blk.rd R.HIF_STAT_HB = 2 → Reported t.blk 0x2001 0) ∧ t.blk.drvs = s.blk.drvs) ∧
  (∀ s : State, s.blk.powered .host = true → s.blk.rd R.HIF_STAT_HB = 1 →
    s.blk.rd R.HIF_HB_TMO * cycPerMs ≤ s.blk.host.hbAge →
    Yields .heartbeatLoss s fun t => t.blk.rd R.HIF_STAT_HB = 2 ∧ Reported t.blk 0x2201 0 ∧
      ∀ (n : Fin 8) (d : Drive), s.blk.configured n = true → (s.blk.drv n).leverSel = false →
        (s.blk.standby = true → s.blk.pairedCh n = false) → t.blk.drvs[n.val]? = some d →
        d.bridge.isSome = true) ∧
  (∀ (s : State) (off : Nat) (v : Word), s.blk.powered .host = true → Yields (.bar2StrayWrite off v) s fun t =>
    t.blk.rd R.HIF_ERRCNT_BAR2 = min (s.blk.rd R.HIF_ERRCNT_BAR2 + 1) R.HIF_ERRCNT_BAR2.top ∧
    SameBut s.blk t.blk (fun a => a = R.HIF_ERRCNT_BAR2.off) ∧ t.blk.host = s.blk.host) ∧
  (∀ (s : State) (v : Fin 32), s.blk.powered .host = true → v.val ≤ 6 → s.blk.msixDue (4 + v) = true →
    Yields (.msixSignal v) s fun t =>
      (∀ x, t.blk.host.rings[4 + v.val]? = some x → x.unsig = 0) ∧
      (if s.blk.on (R.MSIX_CTL_MASK v) then t.blk.on (bitOf R.MSIX_PBA_PEND v) = true ∧ t.blk.out = s.blk.out
        else t.blk.out = .msix v :: s.blk.out ∧ t.blk.regs = s.blk.regs)) ∧
  (∀ (s : State) (q : Fin 11), s.blk.powered .host = true → Yields (.ringReset q) s fun t =>
    t.blk.rd (R.RING_IDX_MOD q) = 0 ∧ t.blk.rd (R.RING_IDX_HOST q) = 0 ∧ t.blk.rd (R.RING_STAT_CAUSE q) = 0 ∧
    t.blk.rd (R.RING_STAT_STATE q) = b2n (s.blk.on (R.RING_CTL_EN q)) ∧
    (∀ x, t.blk.host.rings[q.val]? = some x → x.phase = true ∧ x.unsig = 0) ∧
    (∀ x, q.val < 4 → s.blk.rd (R.TXN_STAT_STATE q) ≠ 0 → t.blk.txns.open_[q.val]? = some x → x.doom = true)) ∧
  (∀ (s : State) (b : Bool), s.blk.powered .host = true → Yields (.perst b) s fun t =>
    t.blk.host.slots = List.replicate 4 [] ∧ t.blk.rd R.HIF_STAT_HB = 0 ∧
      (∀ q : Fin 11, t.blk.on (R.RING_CTL_EN q) = false) ∧
    t.blk.pwr.perst = true ∧ Reported t.blk 0x2106 0 ∧ ∀ n : Fin 8, t.blk.pstate n = s.blk.pstate n) ∧
  (∀ (s : State) (g w : Fin 4), s.blk.powered .host = true → g.val ≠ 0 → (w.val = 1 ∨ w.val = 2) →
    Yields (.perstNDeassert g w) s fun t =>
      t.blk.pwr.perst = false ∧ t.blk.rd R.HIF_STAT_SPEED = g.val ∧ t.blk.rd R.HIF_STAT_WIDTH = w.val)

/-- R42, R411, R412, R414, R415, R418: one fetched descriptor waits for its tick or has its status of checks 1 to 3; a
decided descriptor is written to its completion ring in order. What a row does where its own rule does not let it come
about is the model's choice (log entry 1). -/
def Obligations.DescriptorsAndCompletions : Prop :=
  (∀ (s : State) (r : Fin 4) (d : List Byte) (cyc : Nat), s.blk.powered .host = true → s.blk.mayFetch r = true →
    descStatus d = none →
    Yields (.descriptorFetch r [d] cyc false) s fun t => ∃ won, t.blk.host.wait = s.blk.host.wait ++
      [⟨r, if cyc + 2048 ≤ s.blk.frameLen then 1 else 2, descCmd ⟨r, BitVec.ofNat 16 (leAt d 2 2),
        bitAt (byteAt d 1) 0⟩ d won,
        false⟩]) ∧
  (∀ (s : State) (r : Fin 4) (d : List Byte) (cyc st : Nat), s.blk.powered .host = true → s.blk.mayFetch r = true →
    descStatus d = some st →
    Yields (.descriptorFetch r [d] cyc false) s fun t => t.blk.host.wait = s.blk.host.wait ∧
      (∀ l, t.blk.host.slots[r.val]? = some l → ∃ x ∈ l, x.tag = leAt d 2 2 % 65536 ∧ x.op = byteAt d 0 ∧
        x.res = some (st, s.blk.fn, 0)) ∧ (st = 4 → Reported t.blk 0xB105 r)) ∧
  (∀ (s : State) (r : Fin 4) (l : List (List Byte)) (cyc : Nat), s.blk.powered .host = true → s.blk.ringRuns r = true →
    Yields (.descriptorFetch r l cyc true) s fun t => t.blk.rd (R.RING_STAT_STATE r) = 2 ∧
      t.blk.rd (R.RING_STAT_CAUSE r) = 2 ∧ Reported t.blk 0x2103 r ∧ t.blk.host.wait = s.blk.host.wait) ∧
  (∀ (s : State) (r : Fin 4) (x : Slot) (l : List Slot) (st fn d : Nat), s.blk.powered .host = true →
    s.blk.host.slots.getD r [] = x :: l →
    x.res = some (st, fn, d) → s.blk.ringSpace (4 + r) ≠ 0 → Yields (.completionWrite r ⟨[], []⟩ false) s fun t =>
      t.blk.out = .completion r x.tag x.op st fn (if st = 7 then 0 else d) x.idx (s.blk.phase (4 + r)) :: s.blk.out ∧
      t.blk.host.slots.getD r [] = l ∧ t.blk.evs = s.blk.evs) ∧
  (∀ (s : State) (r : Fin 4) (tag : TagCheck) (x : Slot) (l : List Slot), s.blk.powered .host = true →
    s.blk.host.slots.getD r [] = x :: l →
    (x.res = none ∨ s.blk.ringSpace (4 + r) = 0) → Yields (.completionWrite r tag false) s fun t => t = s)

/-- R419, R420, R421, R422, R424: a record and a capture record are written to their telemetry ring, an event entry to
the event ring: the entry for what was dropped, once there is space for it, severity 3, the rest; a full ring takes
none. That severity 3 goes before what waits, and that a full ring takes nothing, are the model's choices (log entries
1, 9). -/
def Obligations.TelemetryAndEvents : Prop :=
  (∀ (s : State) (c : Fin 16), s.blk.powered .host = true → c.val ∈ s.blk.host.telDue →
    s.blk.ringRuns (8 + s.blk.rd R.HIF_TELCFG_RING) = true →
    s.blk.host.telDrop.getD (s.blk.rd R.HIF_TELCFG_RING) 0 = 0 → s.blk.ringSpace (8 + s.blk.rd R.HIF_TELCFG_RING) ≠ 0 →
    Yields (.telemetryRecord (.chan c) ⟨[], []⟩ false) s fun t => c.val ∉ t.blk.host.telDue ∧ t.blk.evs = s.blk.evs ∧
      ∃ e, t.blk.out = .telemetry (s.blk.rd R.HIF_TELCFG_RING) e :: s.blk.out ∧ e.length = 64 ∧
        byteAt e 0 = (if c.val < 8 then 1 else 2) ∧ byteAt e 10 = c.val) ∧
  (∀ (s : State) (k : Fin 5), s.blk.powered .host = true → (s.blk.rd (R.LE_CAPSTAT_CAP k) = 2 ∨
    s.blk.rd (R.LE_CAPSTAT_CAP k) = 3) →
    24 ≤ (s.blk.tun k).buf.length → s.blk.ringRuns (8 + s.blk.rd (R.LE_CAPCFG_RING k)) = true →
    s.blk.host.telDrop.getD (s.blk.rd (R.LE_CAPCFG_RING k)) 0 = 0 →
    2 ≤ s.blk.ringSpace (8 + s.blk.rd (R.LE_CAPCFG_RING k)) →
    Yields (.telemetryRecord (.capture k) ⟨[], []⟩ false) s fun t => (t.blk.tun k).buf = (s.blk.tun k).buf.drop 24 ∧
      ∃ e f, t.blk.out = .telemetry (s.blk.rd (R.LE_CAPCFG_RING k)) f :: .telemetry (s.blk.rd (R.LE_CAPCFG_RING k)) e :: s.blk.out ∧
        byteAt e 0 = 3 ∧ byteAt f 0 = 3 ∧ e.length = 64 ∧ f.length = 64) ∧
  (∀ (s : State), s.blk.powered .host = true → s.blk.ringSpace 10 ≠ 0 → s.blk.evs.drops ≠ 0 →
    s.blk.evs.low = [] → Yields (.eventEntryWrite ⟨[], []⟩ false) s fun t =>
    t.blk.out = .event ⟨0x2105, 0, s.blk.fn, 1, false, [Int.ofNat s.blk.evs.drops]⟩ (s.blk.phase 10) :: s.blk.out) ∧
  (∀ (s : State) (e : Event) (l : List Event), s.blk.powered .host = true → s.blk.ringSpace 10 ≠ 0 →
    s.blk.evs.drops = 0 → s.blk.evs.high = e :: l → (∀ x m, s.blk.evs.low = x :: m → x.code ≠ 0x2105) →
    Yields (.eventEntryWrite ⟨[], []⟩ false) s fun t => t.blk.out = .event e (s.blk.phase 10) :: s.blk.out ∧
      t.blk.evs = { s.blk.evs with high := l }) ∧
  (∀ (s : State) (e : Event) (l : List Event), s.blk.powered .host = true → s.blk.ringSpace 10 ≠ 0 →
    s.blk.evs.drops = 0 → s.blk.evs.high = [] →
    s.blk.evs.low = e :: l → Yields (.eventEntryWrite ⟨[], []⟩ false) s fun t =>
      t.blk.out = .event e (s.blk.phase 10) :: s.blk.out ∧ t.blk.evs = { s.blk.evs with low := l }) ∧
  (∀ (s : State) (tag : TagCheck) (d : Bool), s.blk.ringSpace 10 = 0 → Yields (.eventEntryWrite tag d) s fun t => t = s)

/-- R406, R427: a lever starts a drive and stops it by a ramp, or by a block outside RUN; an unbroken lever is used
again. What a row does where its own rule does not let it come about is the model's choice (log entry 1). -/
def Obligations.Levers : Prop :=
  (∀ (s : State) (n : Fin 8), s.blk.powered .fabric = true → (s.blk.host.dwell.getD n default).ready = true →
    (s.blk.pstate n = 0 ∨ s.blk.pstate n = 3 ∨ s.blk.pstate n = 4) → s.blk.startRefusal n = none →
    Yields (.leverStart n) s fun t => t.blk.sstate n = 1 ∧
      ∀ x, t.blk.host.dwell[n.val]? = some x → x.ready = false) ∧
  (∀ (s : State) (n : Fin 8), s.blk.powered .fabric = true → (s.blk.host.dwell.getD n default).ready = false →
    Yields (.leverStart n) s fun t => t = s) ∧
  (∀ (s : State) (n : Fin 8), s.blk.powered .fabric = true → s.blk.rd (R.HIF_BLOSS_LSTOP n) ≠ 0 →
    (s.blk.host.dwell.getD n default).inRun ≠ 0 →
    s.blk.rd (R.HIF_BLOSS_LSTOP n) * 1000 * cycPerMs ≤ (s.blk.host.dwell.getD n default).inRun →
    (s.blk.drv n).rampStop = false → Yields (.leverStop n) s fun t =>
      (s.blk.sstate n = 6 → t.blk.regs = s.blk.regs ∧ ∀ d, t.blk.drvs[n.val]? = some d → d.rampStop = true) ∧
      (s.blk.sstate n ≠ 6 → t.blk.sstate n = 0 ∧ ∀ d, t.blk.drvs[n.val]? = some d → d.reqBlock = true)) ∧
  (∀ (s : State) (l : Fin 4), s.blk.powered .fabric = true → (s.blk.host.levers.getD l default).broken = true →
    64 ≤ (s.blk.host.levers.getD l default).good → Yields (.leverRestored l) s fun t =>
      t.blk.regs = s.blk.regs ∧ ∀ x, t.blk.host.levers[l.val]? = some x → x.broken = false)

/-- R438, R439, R440, R441, R444: the end of a commit's validation, the tick that applies it and the timeout of a
transaction. TXN_TIMEOUT is judged at ticks (log entry 95: the model's reading). -/
def Obligations.Transactions : Prop :=
  (∀ (s : State) (r : Fin 4) (cyc : Nat) (h : Hdr) (why : Nat × Nat × Nat × Nat), s.blk.powered .fabric = true →
    (s.blk.txn r).hdr = some h →
    s.blk.judgeList (s.blk.txn r).bad (s.blk.txn r).list = some why → Yields (.txnValidationDone r cyc) s fun t =>
      Decided t.blk h 0x42 why.1 why.2.1 ∧ t.blk.txnState h.ring = 0 ∧
      t.blk.rd R.TXN_CNT_REJ = min (s.blk.rd R.TXN_CNT_REJ + 1) R.TXN_CNT_REJ.top ∧
        t.blk.txns.ready = s.blk.txns.ready ∧
      Reported t.blk (if why.1 = 0x14 then 0x1103 else 0x2113) h.ring) ∧
  (∀ (s : State) (r : Fin 4) (cyc : Nat) (h : Hdr), s.blk.powered .fabric = true → (s.blk.txn r).hdr = some h →
    s.blk.judgeList (s.blk.txn r).bad (s.blk.txn r).list = none → Yields (.txnValidationDone r cyc) s fun t =>
      t.blk.regs = s.blk.regs ∧ t.blk.evs = s.blk.evs ∧
      ∃ c : Commit, t.blk.txns.ready = s.blk.txns.ready ++ [c] ∧ c.ring = r.val ∧ c.hdr = h ∧
        c.list = (s.blk.txn r).list ∧
        c.ticks = (if cyc + 2048 ≤ s.blk.frameLen then 1 else 2)) ∧
  (∀ (s : State) (r : Fin 4) (c : Commit) (l : List Commit), s.blk.powered .fabric = true →
    s.blk.txns.ready = c :: l → c.ring = r.val → c.hdr.ring = r →
    c.ticks ≤ 1 → s.blk.crossed c = true → c.mute = false → Yields (.txnCommitApply r) s fun t => t.blk.txnState r = 0 ∧
      ((Decided t.blk c.hdr 0x42 0 0 ∧ Reported t.blk 0x2010 r) ∨
        (∃ d, Decided t.blk c.hdr 0x42 0x16 d ∧ Reported t.blk 0x2113 r))) ∧
  (∀ (s : State) (r : Fin 4), s.blk.powered .fabric = true → (s.blk.txnState r = 1 ∨ s.blk.txnState r = 2) →
    s.blk.rd R.TXN_CFG_TMO * cycPerMs ≤ (s.blk.txn r).age → Yields (.txnTimeout r) s fun t =>
      t.blk.txnState r = 0 ∧ t.blk.rd (R.TXN_STAT_COUNT r) = 0 ∧ Reported t.blk 0x2112 r ∧
      t.blk.rd R.TXN_CNT_TMO = min (s.blk.rd R.TXN_CNT_TMO + 1) R.TXN_CNT_TMO.top ∧
      ∀ x, t.blk.txns.open_[r.val]? = some x → x.list = [])

/-- R455, R457, R458: a frame received without an error and not for Slalu goes to the FIFO its filter element or NMS
names, or is dropped by a full one; an acknowledge frees the oldest elements; a word whose tag fails marks its element.
What a row does where its own rule does not let it come about is the model's choice (log entry 1). -/
def Obligations.CanReception : Prop :=
  (∀ (s : State) (k : Fin 4) (f : CanFrame) (cyc us q idx : Nat) (l : List RxEl), s.blk.canOn k = true →
    s.blk.on (R.CANn_STAT_RESTR k) = false → s.blk.canRec k ≤ 127 →
    s.blk.sesOfCan k f.xtd f.id = none → s.blk.canMgmt k f = false →
    ((s.blk.canMatch k f = none ∧ s.blk.rd (R.CANn_CFG_NMS k) = q ∧ q ≤ 1 ∧ idx = 255) ∨
      (∃ act, s.blk.canMatch k f = some (idx, act) ∧ (act = 1 ∨ act = 2) ∧ q = act - 1)) →
    (s.blk.can k).fifos[q]? = some l →
    (l.length < 32 → Yields (.canFrameReceived k f cyc us) s fun t =>
      (t.blk.can k).fifos[q]? = some (l ++ [⟨f, false, idx, s.blk.fn, cyc, false⟩]) ∧
      t.blk.rd (R.CANn_RXF_FILL k q) = l.length + 1 ∧ t.blk.canRec k = s.blk.canRec k - 1 ∧
      (l = [] → (s.blk.can k).told.getD q false = false → Reported t.blk 0xD004 k)) ∧
    (32 ≤ l.length → Yields (.canFrameReceived k f cyc us) s fun t => t.blk.cans = s.blk.cans ∧
      t.blk.rd (R.CANn_RXF_DROP k q) = min (s.blk.rd (R.CANn_RXF_DROP k q) + 1) (R.CANn_RXF_DROP k q).top)) ∧
  (∀ (s : State) (k : Fin 4) (q : Fin 2) (cnt : Byte), s.blk.powered .comm = true → cnt.toNat ≠ 0 → cnt.toNat ≤ 32 →
    ((s.blk.can k).fifos.getD q []).length ≤ 32 → Yields (.canRxfAck k q cnt) s fun t =>
      (t.blk.can k).fifos.getD q [] = ((s.blk.can k).fifos.getD q []).drop cnt.toNat ∧
      t.blk.rd (R.CANn_RXF_FILL k q) = ((s.blk.can k).fifos.getD q []).length - cnt.toNat ∧ t.blk.evs = s.blk.evs) ∧
  (∀ (s : State) (k : Fin 4) (q : Fin 2) (w : Fin 21) (x : Flip) (e : RxEl) (l : List RxEl),
    s.blk.powered .comm = true → (s.blk.can k).fifos[q.val]? = some (e :: l) →
    flipPasses x (0x7080 + k.val * 256 + q.val * 32 + w.val) (e.word w) = false →
      Yields (.canRxwRead k q w (some x)) s fun t =>
      (t.blk.can k).fifos[q.val]? = some ({ e with tagf := true } :: l) ∧
      t.blk.rd (R.CANn_CNT_RXTAG k) = min (s.blk.rd (R.CANn_CNT_RXTAG k) + 1) (R.CANn_CNT_RXTAG k).top) ∧
  (∀ (s : State) (k : Fin 4) (q : Fin 2) (w : Fin 21), Yields (.canRxwRead k q w none) s fun t => t = s)

/-- R461, R463, R464: the chosen buffer becomes ACTIVE, or is withdrawn where its tag fails; the frame on the bus is
SENT; a lost arbitration leaves it PENDING, or CANCELLED where a cancel waited. -/
def Obligations.CanTransmission : Prop :=
  (∀ (s : State) (k : Fin 4) (i : Nat), s.blk.canOn k = true → s.blk.on (R.CANn_STAT_RESTR k) = false →
    s.blk.canActive k = none → s.blk.canChoice k = some i →
    (Yields (.canTxAttempt k ⟨[], []⟩) s fun t => t.blk.txb k i = 2 ∧ t.blk.evs = s.blk.evs) ∧
    (∀ (tag : TagCheck) (key : Nat), key = 0x7000 + k.val * 256 + i * 32 →
      (badWord tag.first key 18 (canTxWord ((s.blk.can k).buf i).f)).isSome = true →
      (badWord tag.again key 18 (canTxWord ((s.blk.can k).buf i).f) = none →
        Yields (.canTxAttempt k tag) s fun t => t.blk.txb k i = 2 ∧ Reported t.blk 0xD201 k) ∧
      ((badWord tag.again key 18 (canTxWord ((s.blk.can k).buf i).f)).isSome = true → ((s.blk.can k).buf i).next = [] →
        Yields (.canTxAttempt k tag) s fun t => t.blk.txb k i = 5 ∧ Reported t.blk 0xD202 k))) ∧
  (∀ (s : State) (k : Fin 4) (i : Nat), s.blk.canOn k = true → s.blk.canActive k = some i →
    ((s.blk.can k).buf i).next = [] → Yields (.canFrameSent k) s fun t => t.blk.txb k i = 3 ∧
      t.blk.out = .can k ((s.blk.can k).buf i).f :: s.blk.out ∧
      t.blk.rd (R.CANn_TXSTAT_SENT k) = min (s.blk.rd (R.CANn_TXSTAT_SENT k) + 1) (R.CANn_TXSTAT_SENT k).top ∧
      t.blk.rd (R.CANn_ECNT_TEC k) = s.blk.rd (R.CANn_ECNT_TEC k) - 1 ∧
      (((s.blk.can k).buf i).report = true → Reported t.blk 0xD010 k)) ∧
  (∀ (s : State) (k : Fin 4) (i : Nat), s.blk.canOn k = true → s.blk.canActive k = some i →
    ((s.blk.can k).buf i).next = [] → ((s.blk.can k).buf i).cancel = none → Yields (.canArbitrationLost k) s fun t =>
      t.blk.txb k i = 1 ∧ SameBut s.blk t.blk (fun a => a = (R.CANn_TXSTAT_W k).off) ∧ t.blk.cans = s.blk.cans ∧
      t.blk.evs = s.blk.evs) ∧
  (∀ (s : State) (k : Fin 4) (i : Nat) (h : Hdr) (w : Bool), s.blk.canOn k = true → s.blk.canActive k = some i →
    ((s.blk.can k).buf i).cancel = some (some h, w) → ((s.blk.can k).buf i).next = [] →
      Yields (.canArbitrationLost k) s fun t =>
      t.blk.txb k i = 4 ∧ Decided t.blk h 0x52 0 0)

/-- R452, R465, R466: the states of a CAN controller: integration, errors and bus-off, protocol exception, recovery,
sleep and the two ways to wake. What a row does where its own rule does not let it come about is the model's choice (log
entry 1). -/
def Obligations.CanStates : Prop :=
  (∀ (s : State) (k : Fin 4), s.blk.powered .comm = true → s.blk.canState k = 2 → Yields (.canIntegrated k) s fun t =>
    t.blk.canState k = (if 127 < s.blk.rd (R.CANn_ECNT_TEC k) ∨ 127 < s.blk.canRec k then 4 else 3)) ∧
  (∀ (s : State) (k : Fin 4) (lec : Fin 7) (dT dR : Nat), s.blk.canOn k = true →
    s.blk.on (R.CANn_STAT_RESTR k) = false →
    (s.blk.rd (R.CANn_ECNT_TEC k) + dT ≤ 255 → Yields (.canBusError k lec dT dR) s fun t =>
      t.blk.rd (R.CANn_ECNT_TEC k) = s.blk.rd (R.CANn_ECNT_TEC k) + dT ∧
        t.blk.canRec k = min (s.blk.canRec k + dR) 255 ∧
      t.blk.rd (R.CANn_STAT_LEC k) = lec ∧
      t.blk.rd (R.CANn_CNT_ERR k) = min (s.blk.rd (R.CANn_CNT_ERR k) + 1) (R.CANn_CNT_ERR k).top ∧
      t.blk.canState k = (if 127 < s.blk.rd (R.CANn_ECNT_TEC k) + dT ∨ 127 < s.blk.canRec k + dR then 4 else 3)) ∧
    (255 < s.blk.rd (R.CANn_ECNT_TEC k) + dT → Yields (.canBusError k lec dT dR) s fun t =>
      t.blk.canState k = 5 ∧ t.blk.rd (R.CANn_ECNT_TEC k) = 255 ∧ t.blk.rd (R.CANn_STAT_LEC k) = lec ∧
      t.blk.rd (R.CANn_CNT_BOFF k) = min (s.blk.rd (R.CANn_CNT_BOFF k) + 1) (R.CANn_CNT_BOFF k).top ∧
      Reported t.blk 0xD301 k)) ∧
  (∀ (s : State) (k : Fin 4), s.blk.canOn k = true → Yields (.canProtocolException k) s fun t =>
    t.blk.canState k = 2 ∧ t.blk.on (R.CANn_STAT_PXE k) = true ∧ Reported t.blk 0xD103 k) ∧
  (∀ (s : State) (k : Fin 4), s.blk.powered .comm = true → s.blk.canState k = 5 → Yields (.canRecover k) s fun t =>
    t.blk.canState k = 6 ∧ t.blk.rd (R.CANn_ECNT_RECOVN k) = 0 ∧ t.blk.evs = s.blk.evs) ∧
  (∀ (s : State) (k : Fin 4), s.blk.powered .comm = true → s.blk.canState k = 6 → Yields (.canRecoveryDone k) s fun t =>
    t.blk.canState k = 3 ∧ t.blk.rd (R.CANn_ECNT_TEC k) = 0 ∧ t.blk.canRec k = 0 ∧ Reported t.blk 0xD002 k) ∧
  (∀ (s : State) (k : Fin 4), s.blk.canOn k = true → (s.blk.can k).sleepReq = true →
    Yields (.canSleepEnter k) s fun t =>
    t.blk.canState k = 7 ∧ (t.blk.can k).sleepReq = false ∧ SameBut s.blk t.blk (fun a => a = (R.CANn_STAT_STATE k).off)) ∧
  (∀ (s : State) (k : Fin 4), s.blk.powered .comm = true → s.blk.canState k = 7 → s.blk.on (R.CANn_CFG_ROLE k) = false →
    Yields (.canWakeEdge k) s fun t => t.blk.canState k = 2 ∧ Reported t.blk 0xD003 k ∧ t.blk.cans = s.blk.cans) ∧
  (∀ (s : State) (k : Fin 4) (f : CanFrame), s.blk.powered .comm = true → s.blk.canState k = 7 →
    s.blk.on (R.CANn_CFG_ROLE k) = true → Yields (.canWakeFrame k f) s fun t =>
      (s.blk.isWakeFrame k f = true → t.blk.canState k = 2 ∧ Reported t.blk 0xD003 k) ∧
      (s.blk.isWakeFrame k f = false → t = s))

/-- R436, R454, R478: an access to the filter word or the gate control entry behind a pointer: a read advances the
pointer; a write inside the open transaction of a ring is staged with the pointer in force, which then advances. -/
def Obligations.PointedAccess : Prop :=
  ∀ (s : State) (p : PtrReg) (off : Nat) (c : Option (Fin 4 × Word) → Instr), s.blk.powered .comm = true →
    ((∃ k : Fin 4, p = .flt k ∧ off = (R.CANn_FLTDAT_W k).off ∧ c = .canFltdatAccess k) ∨
      (∃ q : Fin 2, p = .gcl q ∧ off = (R.LODE_Pk_GCLDAT_W q).off ∧ c = .gcldatAccess q)) →
    (Yields (c none) s fun t => t.blk.rd p.sel.2 = (s.blk.rd p.sel.2 + 1) % 2 ^ p.sel.2.w ∧
      SameBut s.blk t.blk (fun a => a = p.sel.2.off) ∧ t.blk.txns = s.blk.txns) ∧
    (∀ (r : Fin 4) (v : Word), s.blk.txnStandby = false → (s.blk.txnState r = 1 ∨ s.blk.txnState r = 2) →
      (s.blk.txn r).list.length < 4096 → Yields (c (some (r, v))) s fun t =>
        t.blk.rd p.sel.2 = (s.blk.rd p.sel.2 + 1) % 2 ^ p.sel.2.w ∧
        (∀ x, t.blk.txns.open_[r.val]? = some x →
          x.list = (s.blk.txn r).list ++ [(off, s.blk.rd p.sel.1, v.toNat)] ∧
            t.blk.rd (R.TXN_STAT_COUNT r) = x.list.length) ∧
        t.blk.cans = s.blk.cans ∧ t.blk.lode = s.blk.lode)

/-- R475, R476, R477, R478, R479: Lode's frames: a bad one is counted; a good one is learned and queued for the ports
its VLAN and address give; the highest queue whose gate is open sends first; a frame of the module goes the same way. -/
def Obligations.LodeFrames : Prop :=
  (∀ (s : State) (p : Fin 2) (q : Fin 3) (f : EthFrame) (us : Nat), q.val = p.val + 1 → s.blk.portUp p = true →
    (f.good = false ∨ f.len < 64 ∨ (if f.rtag.isSome then 1528 else 1522) < f.len) →
      Yields (.lodeFrameReceived q f us) s fun t => t.blk.lode = s.blk.lode ∧
      t.blk.rd (R.LODE_Pk_CNT_RXERR p) = min (s.blk.rd (R.LODE_Pk_CNT_RXERR p) + 1) (R.LODE_Pk_CNT_RXERR p).top ∧
      SameBut s.blk t.blk (fun a => a = (R.LODE_Pk_CNT_RXERR p).off)) ∧
  (∀ (s : State) (p : Fin 2) (q : Fin 3) (f : EthFrame) (us : Nat) (v : Nat × Nat) (m : List Bool) (o : Nat)
    (l : List (EthFrame × Bool)), q.val = p.val + 1 → s.blk.portUp p = true → f.good = true → 64 ≤ f.len →
      f.len ≤ 1522 →
    f.etype ≠ 0x8808 → f.etype ≠ 0x88F7 → f.dmac ≠ gptpMac → f.dmac ≠ s.blk.mac → f.dmac ≠ f.smac →
      isGroup f.dmac = false →
    isGroup f.smac = false → f.vlan = some v → s.blk.vlanMembers v.1 = some m → m.getD (p + 1) false = true →
    s.blk.lode.fdb.length < 1024 → (m.getD 0 false = false ∨ ∃ e ∈ s.blk.lode.fdb, e.1 = f.dmac) →
    o ∈ s.blk.targets f.dmac v.1 (some p.val) → s.blk.portUp o = true →
    (s.blk.lodePort o).queues[s.blk.queueOf f]? = some l → (l.map (fun x => x.1.len)).sum + f.len ≤ 32768 →
    Yields (.lodeFrameReceived q f us) s fun t => (f.smac, p.val, 0) ∈ t.blk.lode.fdb ∧
      (t.blk.lodePort o).queues[s.blk.queueOf f]? = some (l ++ [(f, false)]) ∧ t.blk.regs = s.blk.regs) ∧
  (∀ (s : State) (f : EthFrame) (us o : Nat) (l : List (EthFrame × Bool)), s.blk.lodeOn = true →
    s.blk.streamOf true f.dmac (f.vlan.getD (0, 0)).1 = none → s.blk.targets f.dmac (f.vlan.getD (0, 0)).1 none = [o] →
    s.blk.portUp o = true → (s.blk.lodePort o).queues[s.blk.queueOf f]? = some l →
    (l.map (fun x => x.1.len)).sum + f.len ≤ 32768 → Yields (.lodeFrameReceived 0 f us) s fun t =>
      (t.blk.lodePort o).queues[s.blk.queueOf f]? = some (l ++ [(f, false)]) ∧ t.blk.regs = s.blk.regs) ∧
  (∀ (s : State) (p : Fin 2) (q : Fin 8) (f : EthFrame) (x : Bool) (l : List (EthFrame × Bool)), s.blk.portUp p = true →
    s.blk.on (R.LODE_Pk_GCLCFG_EN p) = false → (s.blk.lodePort p).queues.getD q [] = (f, x) :: l →
    (∀ j, q.val < j → j < 8 → (s.blk.lodePort p).queues.getD j [] = []) → Yields (.lodeFrameTransmit p [] []) s fun t =>
      t.blk.out = .eth p f :: s.blk.out ∧ (t.blk.lodePort p).queues.getD q [] = l ∧ t.blk.regs = s.blk.regs) ∧
  (∀ (s : State) (p : Fin 2) (room : List (Option Nat)) (tags : List (Nat × Flip)), s.blk.gates8 p = 0 →
    Yields (.lodeFrameTransmit p room tags) s fun t => t.blk.out = s.blk.out)

/-- R474, R478, R480, R481, R482: the gate control list, the links, gPTP messages and synchronisation. -/
def Obligations.LodeLinksAndTime : Prop :=
  (∀ (s : State) (p : Fin 2), s.blk.lodeOn = true → s.blk.on (R.LODE_Pk_GCLCFG_EN p) = true →
    Yields (.gclEntryExpiry p) s fun t =>
      (∀ x, t.blk.lode.ports[p.val]? = some x →
        (if (s.blk.lodePort p).ent + 1 < (s.blk.lodePort p).run.length then
          x.ent = (s.blk.lodePort p).ent + 1 ∧ x.run = (s.blk.lodePort p).run
        else x.ent = 0 ∧ x.run = (s.blk.lodePort p).list.take (s.blk.rd (R.LODE_Pk_GCLCFG_LEN p)))) ∧
      (s.blk.on R.LODE_PTPSTAT_SYNC = false → (s.blk.lodePort p).unsync = false → Reported t.blk 0xE105 (p + 1))) ∧
  (∀ (s : State) (p : Fin 2) (sp : Fin 3), s.blk.lodeOn = true → s.blk.on (R.LODE_Pk_CFG_EN p) = true →
    s.blk.on (R.LODE_Pk_STAT_LINK p) = false → Yields (.lodeLinkUp p sp) s fun t => t.blk.on (R.LODE_Pk_STAT_LINK p) = true ∧
      t.blk.rd (R.LODE_Pk_STAT_SPEED p) = (if s.blk.on (R.LODE_Pk_CFG_MODE p) = true then 2
        else if s.blk.on (R.LODE_Pk_CFG_ANEG p) = true then sp.val else s.blk.rd (R.LODE_Pk_CFG_SPEED p)) ∧
      Reported t.blk 0xE001 (p + 1) ∧ t.blk.lode = s.blk.lode) ∧
  (∀ (s : State) (p : Fin 2), s.blk.powered .comm = true → s.blk.on (R.LODE_Pk_STAT_LINK p) = true →
    Yields (.lodeLinkDown p) s fun t =>
    t.blk.on (R.LODE_Pk_STAT_LINK p) = false ∧ Reported t.blk 0xE101 (p + 1) ∧
    ∀ x, t.blk.lode.ports[p.val]? = some x → x.queues = List.replicate 8 []) ∧
  (∀ (s : State) (p : Fin 2) (ofs rate : Int) (now : Nat), s.blk.ptpOn p = true →
    Yields (.gptpMessageReceived p (.sync ofs rate now)) s fun t => t.blk.lode.ns = now ∧ t.blk.lode.rate = rate ∧
      (-(2 ^ 23) ≤ ofs → ofs < 2 ^ 23 → t.blk.rdS R.LODE_PTPSTAT_OFFS = ofs)) ∧
  (∀ (s : State) (p : Fin 2) (a c : Fin 4), s.blk.ptpOn p = true →
    Yields (.gptpMessageReceived p (.announce a c)) s fun t =>
    t.blk.rd R.LODE_PTPSTAT_P1ROLE = (if s.blk.ptpOn 0 then a.val else 0) ∧
    t.blk.rd R.LODE_PTPSTAT_P2ROLE = (if s.blk.ptpOn 1 then c.val else 0) ∧ t.blk.evs = s.blk.evs) ∧
  (∀ (s : State) (p : Fin 2) (ofs : Int), s.blk.ptpOn p = true → s.blk.on R.CLK_STAT_HOLD = true → 10000 < ofs →
    ofs < 32768 →
    Yields (.gptpMessageReceived p (.pdelay ofs)) s fun t => t.blk.rdS (R.LODE_Pk_STAT_OFS p) = ofs ∧
      t.blk.on (R.LODE_Pk_STAT_PPM p) = true ∧ ((s.blk.lodePort p).ppm = false → Reported t.blk 0xE103 (p + 1))) ∧
  (∀ s : State, s.blk.ptpGood = true → s.blk.on R.LODE_PTPSTAT_SYNC = false → Yields .ptpSyncGained s fun t =>
    t.blk.on R.LODE_PTPSTAT_SYNC = true ∧ Reported t.blk 0xE002 0) ∧
  (∀ s : State, s.blk.powered .comm = true → s.blk.on R.LODE_PTPSTAT_SYNC = true → Yields .ptpSyncLost s fun t =>
    t.blk.on R.LODE_PTPSTAT_SYNC = false ∧ Reported t.blk 0xE102 0 ∧
    ∀ p : Fin 2, s.blk.on (R.LODE_Pk_GCLCFG_EN p) = true → (s.blk.lodePort p).run ≠ [] → Reported t.blk 0xE105 (p + 1))

/-- R472, R473, R484, R485, R486: recovery of redundant streams, the telemetry datagram of a channel, MDIO, the release
of a PHY and the ageing of learned addresses. What a row does where its own rule does not let it come about is the
model's choice (log entry 1). -/
def Obligations.LodeServices : Prop :=
  (∀ (s : State) (k : Fin 32), s.blk.powered .comm = true → s.blk.on (R.LODE_CBSTR_EN k) = true →
    s.blk.on (R.LODE_CBSTR_DIR k) = false →
    (s.blk.cb k).last ≠ none → s.blk.rd (R.LODE_CBTIM_RSTTO k) * cycPerMs ≤ (s.blk.cb k).age + s.blk.period →
    Yields (.cbRecoveryReset k) s fun t => (t.blk.cb k).last = none ∧ Reported t.blk 0xE106 k) ∧
  (∀ (s : State) (k : Fin 32) (p : Fin 2) (a : Nat), s.blk.powered .comm = true →
    s.blk.on (R.LODE_CBSTR_EN k) = true → s.blk.on (R.LODE_CBSTR_DIR k) = false →
    (s.blk.cb k).lost = false → k.val < s.blk.lode.cbs.length → (s.blk.cb k).one = some (p.val, a) →
    s.blk.rd (R.LODE_CBTIM_PATHTO k) * cycPerMs ≤ a + s.blk.period →
    (s.blk.cb k).pAge.getD p 0 < s.blk.rd (R.LODE_CBTIM_PATHTO k) * cycPerMs →
    Yields (.cbPathLoss k) s fun t => (t.blk.cb k).lost = true ∧ Reported t.blk 0xE201 k) ∧
  (∀ (s : State) (c : Fin 16) (o : Nat), s.blk.lodeOn = true → s.blk.on R.LODE_CFG_TELEN = true → s.blk.isOwner = true →
    s.blk.fn % (s.blk.rd R.LODE_TELCFG_TDIV + 1) = 0 → s.blk.rd R.LODE_TELCFG_MASK = 2 ^ c.val →
    s.blk.streamOf true (ipMac (s.blk.rd R.LODE_TELADDR_ADDR)) (s.blk.rd R.LODE_TELPORT_VID) = none →
    s.blk.targets (ipMac (s.blk.rd R.LODE_TELADDR_ADDR)) (s.blk.rd R.LODE_TELPORT_VID) none = [o] →
      s.blk.portUp o = true →
    (s.blk.lodePort o).queues[s.blk.rd (sliceOf R.LODE_PCPQ_MAP (s.blk.rd R.LODE_TELPORT_PCP) 3)]? = some [] →
    Yields .lodeTelemetrySend s fun t => ∃ f, (t.blk.lodePort o).queues[s.blk.rd (sliceOf R.LODE_PCPQ_MAP
        (s.blk.rd R.LODE_TELPORT_PCP) 3)]? = some [(f, false)] ∧ f.smac = s.blk.mac ∧ f.etype = 0x0800 ∧
        f.vlan = some (s.blk.rd R.LODE_TELPORT_VID, s.blk.rd R.LODE_TELPORT_PCP) ∧ f.payload.length = 28 + 64) ∧
  (∀ (s : State), s.blk.fn % (s.blk.rd R.LODE_TELCFG_TDIV + 1) ≠ 0 → Yields .lodeTelemetrySend s fun t => t = s) ∧
  (∀ (s : State) (v : Word), s.blk.powered .comm = true → s.blk.on R.LODE_MDIOST_BUSY = false →
    bitAt v.toNat 31 = true →
    Yields (.mdioGo v) s fun t => t.blk.on R.LODE_MDIOST_BUSY = true ∧ t.blk.lode.mdio = some (bitAt v.toNat 29) ∧
      t.blk.out = .mdio (bitAt v.toNat 30) (bitAt v.toNat 29) (v.toNat / 2 ^ 24 % 32) (v.toNat / 2 ^ 16 % 32)
        (v.toNat % 65536) :: s.blk.out) ∧
  (∀ (s : State) (d : BitVec 16) (w : Bool), s.blk.powered .comm = true → s.blk.lode.mdio = some w →
    Yields (.mdioDone d) s fun t =>
    t.blk.on R.LODE_MDIOST_BUSY = false ∧ t.blk.lode.mdio = none ∧
    t.blk.rd R.LODE_MDIOST_RDATA = (if w = true then s.blk.rd R.LODE_MDIOST_RDATA else d.toNat)) ∧
  (∀ (s : State) (p : Fin 2) (a : Nat), s.blk.powered .comm = true → (s.blk.lodePort p).phyAge = some a →
    10 * cycPerMs ≤ a + s.blk.period →
    Yields (.phyResetRelease p) s fun t => (t.blk.lodePort p).phyLow = false ∧ (t.blk.lodePort p).phyAge = none ∧
      t.blk.regs = s.blk.regs) ∧
  (∀ (s : State) (mac : Nat), s.blk.powered .comm = true → Yields (.fdbEntryAged mac) s fun t => t.blk.regs = s.blk.regs ∧
    ∀ e, e ∈ t.blk.lode.fdb ↔ e ∈ s.blk.lode.fdb ∧ ¬ (e.1 = mac ∧ 300000 * cycPerMs ≤ e.2.2 + s.blk.period))

/-- R495, R496, R497, R499, R501, R502, R503: the references of the clocks: loss and return of a PLL's reference, the
failures of XO and of Flint-B, holdover and its bound, the return to XO. That BOUND reads 511 on Flint-A, and that
XO_RETURN without a good streak changes nothing, is the model's reading (log entries 1, 77). -/
def Obligations.ClockReferences : Prop :=
  (∀ (s : State) (p : Fin 3), s.blk.powered .safe = true → s.blk.on (lockFld p) = true →
    Yields (.pllReferenceLost p) s fun t =>
    t.blk.on (lockFld p) = false ∧ (∀ x, t.blk.clk.hold[p.val]? = some x → x = true) ∧ t.blk.evs = s.blk.evs) ∧
  (∀ (s : State) (p : Fin 3), s.blk.powered .safe = true → s.blk.on (lockFld p) = false → 3 ≤ s.blk.pwr.step →
    (p.val = 2 → s.blk.clk.nOff = false) → (p.val < 2 → s.blk.clk.stop = false) →
      Yields (.pllRelocked p) s fun t => t.blk.on (lockFld p) = true ∧
      (∀ x, t.blk.clk.hold[p.val]? = some x → x = false) ∧ t.blk.evs = s.blk.evs) ∧
  (∀ (s : State) (w : ClkWindow), s.blk.powered .fabric = true → s.blk.on R.CLK_STAT_XOOK = true → s.blk.pwr.step ≠ 3 →
    s.blk.rd R.CLK_STAT_REFSEL = 0 → s.blk.on R.CLK_STAT_FBOK = true → s.blk.clk.fbLost = false →
    Yields (.xoFailure true w) s fun t => t.blk.on R.CLK_STAT_XOOK = false ∧ t.blk.rd R.CLK_STAT_REFSEL = 1 ∧
      t.blk.on R.CLK_STAT_HOLD = true ∧ t.blk.on R.CLK_STAT_FORCED = true ∧ t.blk.rd R.CLK_STAT_BOUND = 50 ∧
      t.blk.rd R.CLK_CNT_XOF = min (s.blk.rd R.CLK_CNT_XOF + 1) R.CLK_CNT_XOF.top ∧ Reported t.blk 0x0215 0) ∧
  (∀ (s : State) (w : ClkWindow), s.blk.powered .fabric = true → s.blk.on R.CLK_STAT_XOOK = true → s.blk.pwr.step ≠ 3 →
    s.blk.rd R.CLK_STAT_REFSEL = 0 → (s.blk.on R.CLK_STAT_FBOK = false ∨ s.blk.clk.fbLost = true) →
    s.blk.standbyReady = false → Yields (.xoFailure true w) s fun t => t.blk.rd R.CLK_STAT_REFSEL = 2 ∧
      t.blk.on R.CLK_STAT_XOOK = false ∧ t.blk.rd R.CLK_STAT_BOUND = 511 ∧ Reported t.blk 0x0317 0) ∧
  (∀ (s : State) (w : ClkWindow), s.blk.powered .fabric = true → s.blk.on R.CLK_STAT_XOOK = true → s.blk.pwr.step ≠ 3 →
    xoGood w = false → s.blk.flintAVote w = true → s.blk.standbyReady = false → Yields (.xoFailure false w) s fun t =>
      t.blk.rd R.HASP_STAT_HSTATE = 4 ∧ ∀ x ∈ t.blk.hasp.stos, x.manual = true) ∧
  (∀ (s : State) (n : Nat), s.blk.powered .fabric = true → s.blk.on R.CLK_STAT_XOOK = true →
    s.blk.rd R.CLK_STAT_REFSEL = 0 →
    s.blk.clk.drift = true → s.blk.trimDiffers n (trimBin s.blk.dieB) = true → s.blk.on R.CLK_STAT_FBOK = true →
    s.blk.clk.fbLost = false → Yields (.xoDrift n) s fun t => t.blk.rd R.CLK_STAT_REFSEL = 1 ∧
      t.blk.on R.CLK_STAT_XOOK = false ∧ t.blk.on R.CLK_STAT_FORCED = s.blk.on R.CLK_STAT_FORCED ∧
        Reported t.blk 0x0215 0) ∧
  (∀ (s : State) (x : FlintSeen), s.blk.powered .fabric = true → s.blk.rd R.CLK_STAT_REFSEL = 1 →
    (x.stopped = true ∨ x.count < 485 ∨ 515 < x.count) → s.blk.standbyReady = false →
      Yields (.flintbFailure x) s fun t => t.blk.rd R.CLK_STAT_REFSEL = 2 ∧ t.blk.on R.CLK_STAT_FBOK = false ∧
      t.blk.rd R.CLK_STAT_BOUND = 511 ∧ Reported t.blk 0x0317 0) ∧
  (∀ (s : State), s.blk.powered .fabric = true → s.blk.rd R.CLK_STAT_REFSEL = 0 → s.blk.clk.fbLost = false →
    Yields .flintbSpareLost s fun t => t.blk.clk.fbLost = true ∧ t.blk.on R.WARD_SPARE_XO = false ∧
      Reported t.blk 0x0216 0) ∧
  (∀ (s : State), s.blk.powered .fabric = true → s.blk.on R.CLK_STAT_HOLD = true → Yields (.xoReturn true) s fun t =>
    t.blk.rd R.CLK_STAT_REFSEL = 0 ∧ t.blk.on R.CLK_STAT_HOLD = false ∧ t.blk.on R.CLK_STAT_XOOK = true ∧
    t.blk.rd R.CLK_STAT_BOUND = 0 ∧ t.blk.rd R.CLK_HOLD_SEC = 0 ∧ Reported t.blk 0x0010 0) ∧
  (∀ (s : State), Yields (.xoReturn false) s fun t => t = s) ∧
  (∀ (s : State), s.blk.powered .safe = true → s.blk.on R.CLK_STAT_HOLD = true →
    86400 ≤ s.blk.rd R.CLK_HOLD_SEC → Yields .holdoverBoundLost s fun t =>
    t.blk.rd R.CLK_STAT_BOUND = 511 ∧ (s.blk.clk.told = false → t.blk.clk.told = true ∧ Reported t.blk 0x0114 0))

/-- R490, R504, R505: lost PLL lock and the real-time clock's oscillator. The third loss of PLL-N within 1 s is the one
whose row says so with two losses counted before it (log entry 75: the model's reading). -/
def Obligations.LocksAndRealTime : Prop :=
  (∀ (s : State) (p : Bool), s.blk.powered .safe = true → s.blk.on (if p then R.CLK_STAT_LOCKP else R.CLK_STAT_LOCKS) = true →
    Yields (.pllSpLockLoss p) s fun t => t.blk.clk.stop = true ∧ Reported t.blk 0x0318 0 ∧
      t.blk.on (if p then R.CLK_STAT_LOCKP else R.CLK_STAT_LOCKS) = false ∧ t.blk.drvs = s.blk.drvs) ∧
  (∀ (s : State) (w : Bool), s.blk.powered .safe = true → s.blk.on R.CLK_STAT_LOCKN = true →
    (w = false ∨ s.blk.clk.relocks = []) → Yields (.pllNLockLoss w) s fun t =>
    t.blk.on R.CLK_STAT_LOCKN = false ∧ t.blk.clk.relocks = (0 :: s.blk.clk.relocks).take 2 ∧
      Reported t.blk 0x0113 0 ∧ t.blk.cans = s.blk.cans ∧
    t.blk.rd R.CLK_CNT_RELOCK = min (s.blk.rd R.CLK_CNT_RELOCK + 1) R.CLK_CNT_RELOCK.top) ∧
  (∀ (s : State), s.blk.powered .safe = true → s.blk.on R.CLK_STAT_LOCKN = true →
    2 ≤ (s.blk.clk.relocks.filter (fun x => decide (x ≤ 1000 * cycPerMs + s.blk.period))).length →
    Yields (.pllNLockLoss true) s fun t => t.blk.clk.nOff = true ∧ t.blk.powered .comm = false ∧
      (∀ k : Fin 4, t.blk.canState k = 0) ∧ t.blk.on R.LODE_PTPSTAT_SYNC = false ∧
    ∀ p : Fin 2, t.blk.on (R.LODE_Pk_STAT_LINK p) = false) ∧
  (∀ (s : State) (b : Bool), s.blk.clk.rtcRun = true → s.blk.powered .fabric = true → Yields (.x32Failure b) s fun t =>
    t.blk.clk.rtcRun = false ∧ t.blk.on R.CLK_STAT_X32OK = false ∧ t.blk.on R.CLK_STAT_RTCSRC = true ∧
    Reported t.blk 0x0112 0 ∧ (b = true → t.blk.on R.CLK_STAT_FORCED = true)) ∧
  (∀ (s : State) (b : Bool), s.blk.clk.rtcRun = true → s.blk.powered .fabric = false → Yields (.x32Failure b) s fun t =>
    t.blk.clk.rtcRun = false ∧ t.blk.clk.x32Late = true ∧ t.blk.regs = s.blk.regs) ∧
  (∀ (s : State), s.blk.pwr.vault = true → s.blk.clk.rtcRun = false → s.blk.clk.x32Late = false →
    s.blk.on R.CLK_STAT_RTCSRC = false → Yields .x32DelayEnd s fun t => t.blk.clk.rtcRun = true ∧
      (s.blk.powered .fabric = true → t.blk.on R.CLK_STAT_X32OK = true))

/-- R21, R378, R510, R511, R525, R526, R558: the supplies: ride-through and its end, the drop-out, VBAK, V33OUT and a
failed regulator phase. The range of a supply reading after an event is the model's choice (log entry 46). -/
def Obligations.Supplies : Prop :=
  (∀ (s : State), s.blk.monitored = true → s.blk.pwr.ride = none → Yields .vmainLow s fun t => t.blk.pwr.ride = some 0 ∧
    Reported t.blk 0x0120 0 ∧ t.blk.rd R.PWR_CNT_RIDE = min (s.blk.rd R.PWR_CNT_RIDE + 1) R.PWR_CNT_RIDE.top ∧
    t.blk.rd R.PWR_VMON_VMAIN < 1600) ∧
  (∀ (s : State) (a : Nat), s.blk.monitored = true → s.blk.pwr.ride = some a → Yields .vmainRecover s fun t =>
    t.blk.pwr.ride = none ∧ Reported t.blk 0x0021 0 ∧ 1700 ≤ t.blk.rd R.PWR_VMON_VMAIN) ∧
  (∀ (s : State) (a : Nat), s.blk.monitored = true → s.blk.pwr.ride = some a →
    (s.blk.pwr.step = 8 → s.blk.rd R.PWR_CFG_RIDE * cycPerMs ≤ a + s.blk.period) → Yields .rideExpiry s fun t =>
      t.blk.pwr.vmain = false ∧ t.blk.pwr.step = 0 ∧ t.blk.pwr.v33 = false ∧ t.blk.pwr.auto = true ∧
      bitAt t.blk.pwr.cause 7 = true ∧ ∀ d : Dom, d ≠ .vault → t.blk.powered d = false) ∧
  (∀ (s : State), s.blk.pwr.vmain = true → Yields .vmainDropout s fun t => t.blk.pwr.vmain = false ∧
    t.blk.pwr.step = 0 ∧
    t.blk.pwr.v33 = false ∧ (s.blk.pwr.step ≠ 0 → bitAt t.blk.pwr.cause 2 = true) ∧
    ∀ d : Dom, d ≠ .vault → t.blk.powered d = false) ∧
  (∀ (s : State), s.blk.monitored = true → Yields .vmainHigh s fun t => Reported t.blk 0x0125 0 ∧
    3301 ≤ t.blk.rd R.PWR_VMON_VMAIN ∧ t.blk.pwr = s.blk.pwr) ∧
  (∀ (s : State), s.blk.monitored = true → Yields .vbakLow s fun t => Reported t.blk 0x0123 0 ∧
    t.blk.rd R.PWR_VMON_VBAK < 2400 ∧ t.blk.pwr = s.blk.pwr) ∧
  (∀ (s : State) (mv : Nat), s.blk.powered .safe = true → s.blk.pwr.v33 = true → Yields (.v33outLow mv) s fun t =>
    t.blk.pwr.v33 = false ∧ Reported t.blk 0x0126 0) ∧
  (∀ (s : State), s.blk.powered .safe = true → Yields .v33outRecovered s fun t => t.blk.pwr.v33 = true ∧
    t.blk.regs = s.blk.regs ∧ t.blk.evs = s.blk.evs) ∧
  (∀ (s : State) (d : Fin 12), s.blk.powered (domAt d) = true → twoPhase (domAt d) = true →
    s.blk.on (bitOf R.PWR_DOMSTAT_PHF (domAt d).bit) = false → Yields (.regulatorPhaseFail d) s fun t =>
      t.blk.on (bitOf R.PWR_DOMSTAT_PHF (domAt d).bit) = true ∧ t.blk.powered (domAt d) = true ∧
        Reported t.blk 0x0201 0)

/-- R20, R21, R378, R513: a rail outside its window, or the second failed regulator phase of a domain, takes the domain
out of service. -/
def Obligations.DomainLost : Prop :=
  (∀ (s : State) (d : Fin 12), s.blk.powered (domAt d) = true → domAt d ≠ .vault →
    Yields (.railOutOfWindow d) s fun t =>
    t.blk.powered (domAt d) = false ∧ (domAt d = .nvs → Reported t.blk 0x0302 0)) ∧
  (∀ (s : State) (d : Fin 12), s.blk.powered (domAt d) = true → twoPhase (domAt d) = true →
    s.blk.on (bitOf R.PWR_DOMSTAT_PHF (domAt d).bit) = true → Yields (.regulatorPhaseFail d) s fun t =>
      t.blk.powered (domAt d) = false)

/-- R510, R511, R521, R522, R523, R524, R525, R526, R527: what starts the module and what holds it: VMAIN, RST_N, a
stuck pin, PWR_CTL, the two wakes, VAULT. A start begins at step 2 of R514, shown as 1 with the causes in PWR_RSTCAUSE.
That RST_N reads high at the power-on of VAULT, which causes PWR_RSTCAUSE combines and what STEP shows are the model's
reading (log entries 81, 83, 84). -/
def Obligations.StartsAndResets : Prop :=
  (∀ (s : State), s.blk.pwr.vault = true → s.blk.pwr.vmain = false → s.blk.pwr.auto = true → s.blk.pwr.step = 0 →
    s.blk.pwr.hot = false → s.blk.on R.PWR_RSTPIN_LEVEL = true → Yields .vmainStart s fun t => t.blk.pwr.vmain = true ∧
      t.blk.pwr.step = 1 ∧ t.blk.powered .safe = true ∧ t.blk.powered .nvs = true ∧
        t.blk.powered .fabric = s.blk.powered .fabric ∧
      1700 ≤ t.blk.rd R.PWR_VMON_VMAIN ∧ t.blk.on R.PWR_RSTCAUSE_VMAIN = true) ∧
  (∀ (s : State), s.blk.pwr.vault = true → s.blk.pwr.vmain = false → s.blk.pwr.auto = false →
    Yields .vmainStart s fun t =>
    t.blk.pwr = { s.blk.pwr with vmain := true } ∧ t.blk.regs = s.blk.regs) ∧
  (∀ (s : State), s.blk.pwr.vault = true → s.blk.rstIgnored = false → s.blk.pwr.hot = false → s.blk.pwr.held = false →
    Yields .rstNAccepted s fun t => t.blk.pwr.held = true ∧ t.blk.pwr.step = 0 ∧ bitAt t.blk.pwr.cause 3 = true ∧
      t.blk.on R.PWR_RSTPIN_LEVEL = false ∧ ∀ d : Dom, d ≠ .vault → t.blk.powered d = false) ∧
  (∀ (s : State), s.blk.pwr.vault = true → s.blk.pwr.held = true → s.blk.pwr.vmain = true →
    Yields .rstNReleased s fun t =>
    t.blk.pwr.held = false ∧ t.blk.pwr.step = 1 ∧ t.blk.on R.PWR_RSTPIN_LEVEL = true ∧ t.blk.powered .safe = true) ∧
  (∀ (s : State), s.blk.pwr.held = true → s.blk.on R.PWR_RSTPIN_LEVEL = false → s.blk.pwr.vmain = true →
    Yields .pinStuck s fun t => t.blk.pwr.held = false ∧ t.blk.pwr.step = 1 ∧ t.blk.on R.PWR_RSTCAUSE_PINMASK = true ∧
      t.blk.rstIgnored = true) ∧
  (∀ (s : State), s.blk.on R.PWR_RSTPIN_MASK = true → Yields .rstNRearm s fun t => t.blk.on R.PWR_RSTPIN_MASK = false ∧
    t.blk.on R.PWR_RSTPIN_LEVEL = true ∧ t.blk.rstIgnored = false ∧ Reported t.blk 0x0031 0) ∧
  (∀ (s : State) (v : Word) (c : Instr), (c = .pwrStby v ∨ c = .pwrSysrst v) → s.blk.powered .fabric = true →
    s.blk.pwr.step = 8 →
    ((v.toNat / 256 % 256 ≠ 0xA5 ∨ v.toNat % 4 = 3) → Yields c s fun t => Reported t.blk 0x0124 0 ∧
      t.blk.pwr = s.blk.pwr ∧
      t.mem = s.mem) ∧
    (v.toNat / 256 % 256 = 0xA5 → v.toNat % 4 = 1 →
      (∀ n < 8, (s.blk.pstate n = 0 ∨ s.blk.pstate n = 3 ∨ s.blk.pstate n = 5) ∧
        (s.blk.stpState n = 0 ∨ s.blk.stpState n = 3 ∨ s.blk.stpState n = 4)) → s.blk.rd R.MIR_STAT_ROLE ≠ 3 →
      Yields c s fun t => t.blk.pwr.step = 0 ∧ t.blk.pwr.v33 = false ∧ t.blk.pwr.auto = s.blk.pwr.auto ∧
        ∀ d : Dom, d ≠ .vault → t.blk.powered d = false) ∧
    (v.toNat / 256 % 256 = 0xA5 → v.toNat % 4 = 2 → s.blk.pwr.vmain = true → s.blk.on R.PWR_RSTPIN_LEVEL = true →
      Yields c s fun t => t.blk.pwr.step = 1 ∧ t.blk.on R.PWR_RSTCAUSE_SYSRST = true ∧ t.blk.powered .fabric = false)) ∧
  (∀ (s : State) (c : Instr), s.blk.pwr.vault = true → s.blk.pwr.step = 0 → s.blk.pwr.held = false →
    s.blk.pwr.hot = false →
    s.blk.pwr.vmain = true → s.blk.on R.PWR_RSTPIN_LEVEL = true →
    ((c = .wakePin ∧ s.blk.on R.PWR_WAKE_PINEN = true) ∨ (c = .rtcAlarm ∧ s.blk.on R.PWR_WAKE_RTCEN = true ∧
      s.blk.rd R.PWR_ALARM_SEC ≠ 0 ∧ s.blk.clk.rtcRun = true)) →
    Yields c s fun t => t.blk.pwr.step = 1 ∧ t.blk.powered .safe = true ∧
      t.blk.on (if c = .wakePin then R.PWR_RSTCAUSE_WAKEPIN else R.PWR_RSTCAUSE_WAKERTC) = true) ∧
  (∀ (s : State) (x : Fin 4), s.blk.pwr.vault = false → Yields (.vaultPowerOn x) s fun t => t.blk.pwr.vault = true ∧
    t.blk.powered .vault = true ∧ t.blk.pwr.x32strt = x.val ∧ t.blk.rd R.PWR_RTC_SEC = 0 ∧
    ∀ d : Dom, d ≠ .vault → t.blk.powered d = false) ∧
  (∀ (s : State), s.blk.pwr.vault = true → s.blk.pwr.vmain = false → s.blk.powered .safe = false →
    Yields .vaultLoss s fun t =>
    t.blk.pwr.vault = false ∧ ∀ d : Dom, t.blk.powered d = false)

/-- R341, R491, R500, R502, R514, R516, R517, R518, R519: the steps of start-up, in order; a slot whose image fails is
marked bad. That the decoded image and the safety words come with the rows, when the Hinge size is checked and when a
strap is read, are the model's choices (log entries 84, 85, 86, 90). -/
def Obligations.StartUp : Prop :=
  (∀ (s : State) (ok : Bool) (outs : List StoSelfTest) (l : List (Nat × Word)) (sdi : List (Bool × Bool)) (j c : Nat),
    s.blk.pwr.step = 1 → Yields (.haspSelfTestDone ok outs l sdi j c) s fun t => t.blk.pwr.step = 2 ∧ t.mem = s.mem ∧
      (chooseSlot s.mem = none → t.blk.pwr.noImg = true) ∧
      (∀ k, chooseSlot s.mem = some k → t.blk.rd R.PWR_BOOT_SLOT = k)) ∧
  (∀ (s : State) (pass : Bool) (x : Fin 8), s.blk.pwr.step = 2 → s.blk.pwr.v33 = true →
    Yields (.xoDelayEnd pass x) s fun t =>
    t.blk.pwr.step = 3 ∧ t.blk.pwr.xstrt = x.val ∧ t.blk.rd R.CLK_STAT_REFSEL = (if pass then 0 else 2) ∧
    ∀ p : Fin 3, t.blk.on (lockFld p) = true) ∧
  (∀ (s : State) (b : Bool), s.blk.pwr.step = 3 → s.blk.pwr.xoPass = true → s.blk.clk.xoWait = false →
    s.blk.clk.x32Late = false → Yields (.fabricUp b) s fun t => t.blk.pwr.step = 5 ∧ t.blk.powered .fabric = true ∧
      t.blk.on R.CLK_STAT_FBOK = b ∧ t.blk.on R.CLK_STAT_XOOK = true ∧ (b = false → Reported t.blk 0x0216 0)) ∧
  (∀ (s : State), s.blk.pwr.step = 3 → s.blk.pwr.xoPass = false →
    Yields (.fabricUp true) s fun t => t.blk.pwr.step = 5 ∧
    t.blk.powered .fabric = true ∧ t.blk.rd R.CLK_STAT_REFSEL = 1 ∧ t.blk.on R.CLK_STAT_HOLD = true ∧
      Reported t.blk 0x0215 0) ∧
  (∀ (s : State) (ok : Bool) (img : Image), s.blk.pwr.step = 5 → s.blk.pwr.noImg = true →
    Yields (.imageVerifyDone ok img) s fun t => t.blk.pwr.step = 6 ∧ t.blk.on R.PWR_BOOT_NOIMG = true ∧
      Reported t.blk 0x0341 0 ∧ t.mem = s.mem) ∧
  (∀ (s : State) (img : Image), s.blk.pwr.step = 5 → s.blk.pwr.noImg = false →
    imgOk s.mem (s.blk.rd R.PWR_BOOT_SLOT) = true → s.blk.imagePasses img = true →
    Yields (.imageVerifyDone true img) s fun t => t.blk.pwr.step = 6 ∧ t.blk.pwr.img = some img ∧ t.mem = s.mem ∧
      t.blk.rd R.PWR_GEN_GEN = slotGen s.mem (s.blk.rd R.PWR_BOOT_SLOT) % 2 ^ 32) ∧
  (∀ (s : State) (ok : Bool) (img : Image), s.blk.pwr.step = 5 → s.blk.pwr.noImg = false →
    (ok = false ∨ imgOk s.mem (s.blk.rd R.PWR_BOOT_SLOT) = false ∨ s.blk.imagePasses img = false) →
    s.blk.pwr.vmain = true → s.blk.on R.PWR_RSTPIN_LEVEL = true → Yields (.imageVerifyDone ok img) s fun t =>
      slotState t.mem (s.blk.rd R.PWR_BOOT_SLOT) = 2 ∧ t.blk.pwr.step = 1 ∧ t.blk.on R.PWR_RSTCAUSE_KEYSTONE = true) ∧
  (∀ (s : State) (f : List (Fin 5)) (x : Fin 4) (pins : List Bool), s.blk.pwr.step = 6 → s.blk.pwr.v33 = true →
    (∀ b : Blk, b = (if x.val = 3 then s.blk.raise 0xC107 0 [] else s.blk).wr R.MIR_STAT_PID
        (if x.val = 3 ∨ s.blk.pwr.noImg = true then 0 else x.val) →
      (match s.blk.pwr.img with | some i => b.loadImage i | none => b).hingeFits = true) →
    Yields (.domainsUp f x pins) s fun t => t.blk.pwr.step = 7 ∧ t.blk.pwr.img = none ∧ t.mem = s.mem) ∧
  (∀ (s : State) (ms : Nat) (after : Bool), s.blk.pwr.step = 7 →
    Yields (.ready ms after) s fun t => t.blk.pwr.step = 8 ∧
    t.blk.fn = 0 ∧ t.blk.rd R.PWR_START_T = min ms R.PWR_START_T.top)

/-- R537, R539, R541, R542, R543, R545: the end of an interval takes a place for its record, whose header line goes out
with STATE 0x02, or drops it; a SNAP waits for the next tick; the finished record stands with its bytes. A line of the
journal is whole or not there (log entry 87: the model's reading). What a row does where its own rule does not let it
come about is the model's choice (log entry 1). -/
def Obligations.StrataRecords : Prop :=
  (∀ (s : State) (corr i : Nat), s.blk.strataRuns = true → s.blk.intervalDue = true → s.blk.nvs.rec_ = none →
    recPlace s.mem (s.blk.eccNote corr).nvs.severity = some i → Yields (.strataIntervalEnd corr) s fun t =>
      t.blk.on R.STR_STAT_WR = true ∧ recState t.mem i = 2 ∧
      (∀ a, a < recAt i ∨ recAt i + 64 ≤ a → memGet t.mem a = memGet s.mem a) ∧
      t.blk.nvs.recno = (s.blk.nvs.recno + 1) % 2 ^ 32 ∧ ∃ l no, t.blk.nvs.rec_ = some (i, l,
        (s.blk.eccNote corr).nvs.severity, no)) ∧
  (∀ (s : State) (corr : Nat), s.blk.strataRuns = true → s.blk.intervalDue = true → s.blk.nvs.rec_ = none →
    recPlace s.mem (s.blk.eccNote corr).nvs.severity = none → Yields (.strataIntervalEnd corr) s fun t =>
      t.mem = s.mem ∧ Reported t.blk 0xF101 0 ∧ t.blk.nvs.rec_ = none) ∧
  (∀ (s : State) (corr : Nat), s.blk.intervalDue = false → Yields (.strataIntervalEnd corr) s fun t => t = s) ∧
  (∀ (s : State), s.blk.strataRuns = true → Yields .strataSnap s fun t => t.blk.nvs = { s.blk.nvs with snap := true } ∧
    t.blk.regs = s.blk.regs ∧ t.mem = s.mem ∧ (s.blk.ticks = true → ∀ (x : TickSeen) (l : List (Fin 4)),
      Yields (.frameTick x l) t fun u => u.blk.intervalDue = true)) ∧
  (∀ (s : State), s.blk.strataRuns = false → Yields .strataSnap s fun t => t = s) ∧
  (∀ (s : State) (i sev no : Nat) (l : List Byte), s.blk.nvs.rec_ = some (i, l, sev, no) →
    recAt i + l.length ≤ bedrockSize →
    Yields .strataRecordDone s fun t => (∀ j, j < l.length → memGet t.mem (recAt i + j) = l.getD j 0) ∧
      (∀ a, a < recAt i ∨ recAt i + l.length ≤ a → memGet t.mem a = memGet s.mem a) ∧ t.blk.nvs.rec_ = none ∧
      t.blk.on R.STR_STAT_WR = false ∧ t.blk.rd R.STR_RECNO_RECNO = no % 2 ^ 32 ∧ Reported t.blk 0xF001 0)

/-- R531, R534, R545: transfers between the host and Bedrock: a refused request, one that starts, its end with the bytes
in place or sent to the host. That a slot keeps its STATE and that ERR holds 1 for a transfer outside Bedrock is the
model's reading (log entry 45). A GO while a transfer runs raises no event (log entry 80: the model's reading). -/
def Obligations.BedrockTransfers : Prop :=
  (∀ (s : State) (c : Instr) (w : Bool) (corr : Nat) (data : List Byte), s.blk.powered .nvs = true →
    ((w = false ∧ c = .nvsDmaRead corr) ∨ (w = true ∧ c = .nvsDmaWrite data corr)) →
    (s.blk.on R.NVS_STAT_BUSY = true → Yields c s fun t => t.blk.rd R.NVS_STAT_ERR = 5 ∧ t.mem = s.mem ∧
      t.blk.nvs = s.blk.nvs) ∧
    (s.blk.on R.NVS_STAT_BUSY = false →
      s.dmaWhy w (64 * s.blk.rd R.NVS_OFS_OFS) (64 * s.blk.rd R.NVS_LEN_LEN) ≠ 0 → Yields c s fun t =>
        t.blk.rd R.NVS_STAT_ERR = s.dmaWhy w (64 * s.blk.rd R.NVS_OFS_OFS) (64 * s.blk.rd R.NVS_LEN_LEN) ∧
        t.mem = s.mem ∧ Reported t.blk 0xF104 0 ∧ t.blk.nvs.dma = s.blk.nvs.dma) ∧
    (s.blk.on R.NVS_STAT_BUSY = false →
      s.dmaWhy w (64 * s.blk.rd R.NVS_OFS_OFS) (64 * s.blk.rd R.NVS_LEN_LEN) = 0 → Yields c s fun t =>
        t.blk.on R.NVS_STAT_BUSY = true ∧ t.blk.rd R.NVS_STAT_ERR = 0 ∧ t.mem = s.mem ∧
        t.blk.nvs.dma = some (w, 2 ^ 32 * s.blk.rd R.NVS_DMA_HI_ADDR + 64 * s.blk.rd R.NVS_DMA_LO_ADDR,
          64 * s.blk.rd R.NVS_OFS_OFS, 64 * s.blk.rd R.NVS_LEN_LEN, if w then data else []))) ∧
  (∀ (s : State) (addr ofs : Nat) (data : List Byte), s.blk.nvs.dma = some (true, addr, ofs, data.length, data) →
    ofs + data.length ≤ bedrockSize → Yields (.nvsDmaDone false) s fun t =>
      (∀ j, j < data.length → ofs + j ≠ slotAt 0 + 60 → ofs + j ≠ slotAt 1 + 60 →
        memGet t.mem (ofs + j) = data.getD j 0) ∧
      (∀ a, a < ofs ∨ ofs + data.length ≤ a → memGet t.mem a = memGet s.mem a) ∧
      slotState t.mem 0 = slotState s.mem 0 ∧ slotState t.mem 1 = slotState s.mem 1 ∧
      t.blk.on R.NVS_STAT_BUSY = false ∧ t.blk.nvs.dma = none) ∧
  (∀ (s : State) (addr ofs len : Nat) (data : List Byte), s.blk.nvs.dma = some (false, addr, ofs, len, data) → len ≠ 0 →
    Yields (.nvsDmaDone false) s fun t => t.mem = s.mem ∧ t.blk.on R.NVS_STAT_BUSY = false ∧ t.blk.nvs.dma = none ∧
      ∃ l, t.blk.out = .hostMem addr l :: s.blk.out ∧ l.length = len ∧
        ∀ j, j < len → (ofs + j < 0x1C00000 ∨ 0x1C20000 ≤ ofs + j) → l.getD j 0 = memGet s.mem (ofs + j)) ∧
  (∀ (s : State) (x : Bool × Nat × Nat × Nat × List Byte), s.blk.nvs.dma = some x → Yields (.nvsDmaDone true) s fun t =>
    t.blk.rd R.NVS_STAT_ERR = 3 ∧ t.blk.on R.NVS_STAT_BUSY = false ∧ t.blk.nvs.dma = none)

/-- R515, R516, R517, R535: the two operations on an image slot: refused for the slot in force, ERASE leaves STATE 0,
COMMIT begins its checks and ends with STATE 1 or the first check that failed. A write without its key or operation
changes nothing, and with no slot in force SLOT protects none: the model's reading (log entries 1, 79). -/
def Obligations.ImageSlots : Prop :=
  (∀ (s : State) (v : Word) (c : Instr) (k : Nat), (c = .nvsSlotErase v ∨ c = .nvsSlotCommit v) →
    s.blk.powered .nvs = true →
    k = v.toNat / 16 % 2 → v.toNat / 256 % 256 = 0xA5 → s.blk.nvs.dma = none →
    ((v.toNat % 4 = 1 ∨ v.toNat % 4 = 2) → (s.blk.nvs.slotOp ≠ none ∨ s.blk.slotInForce k = true) → Yields c s fun t =>
      t.blk.rd R.NVS_SLOTST_RES = 1 ∧ Reported t.blk 0xF104 0 ∧ t.mem = s.mem) ∧
    (v.toNat % 4 = 1 → s.blk.nvs.slotOp = none → s.blk.slotInForce k = false → Yields c s fun t =>
      slotState t.mem k = 0 ∧ (∀ a, a ≠ slotAt k + 60 → memGet t.mem a = memGet s.mem a) ∧
      t.blk.rd R.NVS_SLOTST_RES = 0 ∧ t.blk.evs = s.blk.evs) ∧
    (v.toNat % 4 = 2 → s.blk.nvs.slotOp = none → s.blk.slotInForce k = false → Yields c s fun t =>
      t.blk.on R.NVS_SLOTST_BUSY = true ∧ t.blk.nvs.slotOp = some k ∧ t.mem = s.mem)) ∧
  (∀ (s : State) (v : Word) (c : Instr), (c = .nvsSlotErase v ∨ c = .nvsSlotCommit v) →
    (v.toNat / 256 % 256 ≠ 0xA5 ∨ v.toNat % 4 = 0 ∨ v.toNat % 4 = 3) → Yields c s fun t => t = s) ∧
  (∀ (s : State) (k : Nat), s.blk.nvs.slotOp = some k → k < 2 →
    (s.commitRes k = 0 → Yields .nvsSlotCommitDone s fun t => slotState t.mem k = 1 ∧ t.blk.rd R.NVS_SLOTST_RES = 0 ∧
      (∀ a, a ≠ slotAt k + 60 → memGet t.mem a = memGet s.mem a) ∧ Reported t.blk 0xF005 0 ∧ t.blk.nvs.slotOp = none) ∧
    (s.commitRes k ≠ 0 → Yields .nvsSlotCommitDone s fun t => t.mem = s.mem ∧
      t.blk.rd R.NVS_SLOTST_RES = s.commitRes k ∧ Reported t.blk 0xF106 0 ∧ t.blk.on R.NVS_SLOTST_BUSY = false ∧
      t.blk.nvs.slotOp = none))

/-- R9, R10, R11, R12, R13, R320, R436: a write to a register whose write has no effect of its own changes its word by
the access types of its fields and nothing else; one of another width is counted, one to a locked or a safety register
is reported; a latching read keeps the high word; a stepper's table is reached through its pointer. An access to a
domain that is off changes nothing (log entry 7: the model's reading). -/
def Obligations.RegisterAccess : Prop :=
  (∀ (s : State) (off : Nat) (v : Word) (d : RegDesc), s.blk.hostUp = true → off % 4 = 0 → off < 0x40000 →
    findReg off = some d → (off < 0x10000 ∨ 0x11000 ≤ off) → d.locked = false → s.blk.powered d.dom = true →
    d.base ∉ [(R.RING_CTL_W 0).off, R.PWR_CTL_W.off, (R.CANn_CTL_W 0).off, (R.CANn_RXF_W 0 0).off, R.LODE_MDIO_W.off,
      R.STR_CTL_W.off, R.NVS_CTL_W.off, R.NVS_SLOT_W.off, (R.RING_BASE_LO_W 0).off, (R.RING_BASE_HI_W 0).off,
      R.SLL_WINSEL_W.off, (R.MSIX_CTL_MASK 0).off, R.CLK_CTL_W.off] → Yields (.registerWrite off 4 v) s fun t =>
      t.blk.word off = BitVec.ofNat 32 (writeBits d (s.blk.word off).toNat v.toNat) ∧
      SameBut s.blk t.blk (fun a => a = off) ∧ t.mem = s.mem ∧ t.blk.evs = s.blk.evs) ∧
  (∀ (s : State) (off width : Nat) (v : Word), s.blk.hostUp = true → (width ≠ 4 ∨ off % 4 ≠ 0) →
    Yields (.registerWrite off width v) s fun t =>
      t.blk.rd R.HIF_ERRCNT_WIDTH = min (s.blk.rd R.HIF_ERRCNT_WIDTH + 1) R.HIF_ERRCNT_WIDTH.top ∧
      SameBut s.blk t.blk (fun a => a = R.HIF_ERRCNT_WIDTH.off)) ∧
  (∀ (s : State) (off : Nat) (v : Word) (d : RegDesc), s.blk.hostUp = true → off % 4 = 0 → off < 0x40000 →
    findReg off = some d → (off < 0x10000 ∨ 0x11000 ≤ off) → d.locked = true →
      Yields (.registerWrite off 4 v) s fun t =>
      Reported t.blk 0x2102 0 ∧ SameBut s.blk t.blk (fun a => a = R.HIF_EVDROP_COUNT.off)) ∧
  (∀ (s : State) (off : Nat) (v : Word), s.blk.hostUp = true → off % 4 = 0 → 0x10000 ≤ off → off < 0x11000 →
    Yields (.registerWrite off 4 v) s fun t =>
      Reported t.blk 0x9106 0 ∧ SameBut s.blk t.blk (fun a => a = R.HIF_EVDROP_COUNT.off)) ∧
  (∀ (s : State) (off width : Nat) (v : Word), (s.blk.hostUp = false ∨
    (width = 4 ∧ off % 4 = 0 ∧ (0x40000 ≤ off ∨
      (findReg off = none ∧ (off < 0x10000 ∨ 0x11000 ≤ off))))) →
        Yields (.registerWrite off width v) s fun t => t = s) ∧
  (∀ (s : State) (off i : Nat) (d : Dom) (f : Fld), latchOf off = some (i, d, f) → s.blk.hostUp = true →
    s.blk.powered d = true → i < s.blk.latch.length → Yields (.latchingLowWordRead off) s fun t =>
      t.blk.readWord f.off = s.blk.word f.off ∧ t.blk.regs = s.blk.regs) ∧
  (∀ (s : State) (n : Fin 8), s.blk.powered .fabric = true → s.blk.powered .pwm = true →
    (Yields (.snTabdatAccess n none) s fun t => t.blk.txns = s.blk.txns ∧ t.blk.stps = s.blk.stps ∧
      t.blk.rd (PtrReg.tab n).sel.2 = (s.blk.rd (PtrReg.tab n).sel.2 + 1) % 2 ^ (PtrReg.tab n).sel.2.w) ∧
    (∀ (r : Fin 4) (v : Word), s.blk.txnStandby = false → (s.blk.txnState r = 1 ∨ s.blk.txnState r = 2) →
      (s.blk.txn r).list.length < 4096 → Yields (.snTabdatAccess n (some (r, v))) s fun t => t.blk.stps = s.blk.stps ∧
        t.blk.rd (PtrReg.tab n).sel.2 = (s.blk.rd (PtrReg.tab n).sel.2 + 1) % 2 ^ (PtrReg.tab n).sel.2.w ∧
        ∀ x, t.blk.txns.open_[r.val]? = some x → x.list = (s.blk.txn r).list ++
          [((R.Sn_TABDAT_W n).off, s.blk.rd (PtrReg.tab n).sel.1, v.toNat)]))

/-- R42, R48, R51, R375, R504: a tick runs only while FABRIC is powered, the start is complete and SYSCLK runs;
FRAME_NO, a count of 48 bits in two words, rises by one at it on a module that follows no mirror; what is noted for one
frame begins anew; discipline locks after 64 frames within 50 ns. What a row does where its own rule does not let it
come about is the model's choice (log entry 1). -/
def Obligations.FrameTick : Prop :=
  (∀ (b : Blk) (v : Nat), (b.setFn v).fn = v % 2 ^ 48 ∧
    SameBut b (b.setFn v) (fun a => a = R.TICK_FRAME_NO_LO_FN_LO.off ∨ a = R.TICK_FRAME_NO_HI_FN_HI.off)) ∧
  (∀ (s : State) (x : TickSeen) (l : List (Fin 4)), s.blk.ticks = false → Yields (.frameTick x l) s fun t => t = s) ∧
  (∀ (s : State) (x : TickSeen) (l : List (Fin 4)), s.blk.ticks = true → Yields (.frameTick x l) s fun t =>
    (s.blk.standby = false → t.blk.fn = (s.blk.fn + 1) % 2 ^ 48) ∧
    t.blk.le.lostNow = [] ∧ t.blk.mir.fresh = false ∧ (∀ x ∈ t.blk.mir.came, x = false) ∧
    (∀ c ∈ t.blk.le.chans, c.sat = false ∧ c.overran = false) ∧ t.blk.ward.copied = []) ∧
  (∀ (s : State), s.blk.powered .fabric = true → s.blk.dstate = 1 → 64 ≤ s.blk.tick.inBand →
    Yields .disciplineLocked s fun t =>
    t.blk.dstate = 2 ∧ t.blk.tick = s.blk.tick ∧ Reported t.blk 0x1002 0) ∧
  (∀ (s : State), s.blk.dstate ≠ 1 → Yields .disciplineLocked s fun t => t = s)

/-- R36, R65, R68, R206, R239, R504, R519: the phases of a frame: OUTPUT_PHASE puts the words of a stepper into its
shadow registers, the valley of a stepper takes them, or the previous ones within 64 cycles of OUTPUT_PHASE; a drive
whose pulses are blocked takes no word; no phase happens before Ready or while the frame stands still. -/
def Obligations.FramePhases : Prop :=
  (∀ (s : State) (c : Instr), (s.blk.pwr.step ≠ 8 ∨ s.blk.clk.stop = true) →
    ((∃ x y z, c = .samplePhase x y z) ∨ (∃ x, c = .outputPhase x) ∨ (∃ x p cyc v, c = .shadowTransfer x p cyc v) ∨
      (∃ k, c = .checkpointWrite k)) → Yields c s fun t => t = s) ∧
  (∀ (s : State) (n : Fin 8) (w : List Int), s.blk.pwr.step = 8 → s.blk.clk.stop = false →
    s.blk.powered .fabric = true →
    s.blk.powered .pwm = true → s.blk.configured (8 + n) = true → (s.blk.chan (8 + n)).outs = some w →
    Yields (.outputPhase []) s fun t =>
      (∀ x, t.blk.stps[n.val]? = some x → x.shA = iAt w 0 ∧ x.shB = iAt w 1) ∧
      ∀ ch, t.blk.le.chans[8 + n.val]? = some ch → ch.outs = none) ∧
  (∀ (s : State) (n : Fin 8) (c : Fin 16) (cyc : Nat) (v : Word), c.val = 8 + n.val → s.blk.pwr.step = 8 →
    s.blk.clk.stop = false → s.blk.powered .pwm = true → s.blk.configured c = true → s.blk.stpValley n cyc = true →
    (s.blk.stpState n = 1 ∨ s.blk.stpState n = 2) → Yields (.shadowTransfer c false cyc v) s fun t =>
      ∀ x, t.blk.stps[n.val]? = some x → (x.dutyA, x.dutyB) =
        (if 64 ≤ s.blk.sinceOut cyc then ((s.blk.stp n).shA, (s.blk.stp n).shB) else ((s.blk.stp n).pvA,
          (s.blk.stp n).pvB))) ∧
  (∀ (s : State) (c : Fin 16) (p : Bool) (cyc : Nat) (v : Word), c.val < 8 →
    (s.blk.pstate c = 0 ∨ s.blk.pstate c = 2 ∨ s.blk.pstate c = 5) → (s.blk.shadowOf c = none ∨ s.blk.runState c ≠ 1) →
    Yields (.shadowTransfer c p cyc v) s fun t => t.blk.stps = s.blk.stps ∧
      t.blk.drvs.map (fun (x : Drive) => { x with shortCyc := 0 }) = s.blk.drvs.map (fun (x : Drive) => { x with shortCyc := 0 })) ∧
  (∀ (s : State) (k : Fin 5), s.blk.pairRuns k = false → Yields (.checkpointWrite k) s fun t => t = s)

/-- R36, R206, R357: SAMPLE_PHASE latches the payloads of the Slalu sessions for the loops; the end of a pair's work
writes the checkpoint of each channel that computes and has not overrun, in the slot of the frame's parity. -/
def Obligations.FrameWork : Prop :=
  (∀ (s : State) (x : Samples) (y : List InputHit) (z : List (Fin 5 × Nat)), s.blk.pwr.step = 8 →
    s.blk.clk.stop = false →
    s.blk.powered .fabric = true → s.blk.blockGood 3 = true → Yields (.samplePhase x y z) s fun t =>
      t.blk.sll.lat = (List.range 64).map (fun k => s.blk.sesPayload k)) ∧
  (∀ (s : State) (k : Fin 5) (c : Fin 16), s.blk.pwr.step = 8 → s.blk.clk.stop = false → s.blk.powered .fabric = true →
    s.blk.pairRuns k = true → s.blk.pairOf c = k → s.blk.computes c = true → (s.blk.chan c).overran = false →
    Yields (.checkpointWrite k) s fun t => t.blk.rd (R.LE_CKFN_FN c) = s.blk.fn % 2 ^ 32 ∧
      ∀ x, t.blk.le.chans[c.val]? = some x →
        ((if s.blk.fn % 2 = 0 then x.slot0 else x.slot1).map (fun y => y.fn)) = some s.blk.fn)

/-- R209, R212: a pair whose lanes disagree is retired and a free spare takes its channels; a free spare that fails its
own check is lost. What WARD_SPARE.LP4 shows is the model's reading (log entry 103). What a row does where its own rule
does not let it come about is the model's choice (log entry 1). -/
def Obligations.PairsLost : Prop :=
  (∀ (s : State) (k : Fin 5) (post : Bool) (bad : List LoadTags), k.val ≠ 4 → s.blk.pairState k ≠ 0 →
    s.blk.pairState k ≠ 4 →
    s.blk.powered .fabric = true → s.blk.powered (if k.val < 3 then .lpa else .lpb) = true → s.blk.spareFree = true →
    Yields (.laneDisagreement k post bad) s fun t => t.blk.pairState k = 4 ∧ Reported t.blk 0x7201 k ∧
      t.blk.on R.WARD_SPARE_LP4 = false ∧
      (bad = [] → ∀ c : Fin 16, s.blk.configured c = true → s.blk.pairOf c = k → t.blk.pairOf c = 4)) ∧
  (∀ (s : State) (k : Fin 5) (post : Bool) (bad : List LoadTags), (s.blk.pairState k = 0 ∨ s.blk.pairState k = 4) →
    Yields (.laneDisagreement k post bad) s fun t => t.blk.regs = s.blk.regs ∧ t.blk.evs = s.blk.evs) ∧
  (∀ (s : State) (c : Instr), s.blk.spareFree = true → s.blk.on R.LE_CTL_SPARECHK = true →
    s.blk.powered .fabric = true →
    (c = .spareSelfcheckFail ∨ (s.blk.powered .lpb = true ∧ ∃ post, c = .laneDisagreement 4 post [])) →
    Yields c s fun t => t.blk.pairState 4 = 4 ∧ t.blk.on R.WARD_SPARE_LP4 = false ∧ Reported t.blk 0x7204 4 ∧
      t.blk.rd (R.LE_ERR_DIS 4) = min (s.blk.rd (R.LE_ERR_DIS 4) + 1) (R.LE_ERR_DIS 4).top)

/-- R53, R55, R56: an overrun holds the channel's outputs and is counted; two frames in a row move the channel to a free
spare at the tick after; four within a second degrade it at the tick after the fourth. What WARD_SPARE.LP4 shows is the
model's reading (log entry 103). What a row does where its own rule does not let it come about is the model's choice
(log entry 1). -/
def Obligations.Overruns : Prop :=
  (∀ (s : State) (c : Fin 16) (bad : List LoadTags), s.blk.powered .fabric = true → s.blk.configured c = true →
    s.blk.pairOf c ≤ 4 → Yields (.channelOverrun ⟨c, bad⟩) s fun t =>
    t.blk.on R.TICK_STAT_OVR = true ∧ Reported t.blk 0x1102 c ∧
    t.blk.rd R.TICK_OVRCNT_COUNT = min (s.blk.rd R.TICK_OVRCNT_COUNT + 1) R.TICK_OVRCNT_COUNT.top ∧
    ∀ x, t.blk.le.chans[c.val]? = some x → x.outs = none ∧ x.overran = true ∧ x.overruns.head? = some s.blk.fn) ∧
  (∀ (s : State) (c : Fin 16) (bad : List LoadTags) (x y : Nat) (l : List Nat), s.blk.powered .fabric = true →
    (s.blk.chan c).overruns = x :: y :: l → x = y + 1 → (∀ z, l.head? = some z → z + 1 ≠ y) →
      (s.blk.chan c).noMove = false → s.blk.fn = x + 1 → s.blk.spareFree = true → s.blk.configured c = true →
        s.blk.pairOf c < 4 →
    (∀ z ∈ bad, z.c = c → z.coef = []) → Yields (.channelMovedToSpare ⟨c, bad⟩) s fun t => t.blk.pairOf c = 4 ∧
      t.blk.pairState 4 = 1 ∧ Reported t.blk 0x1201 c ∧
      t.blk.on R.WARD_SPARE_LP4 = false) ∧
  (∀ (s : State) (c : Fin 16), s.blk.powered .fabric = true → 4 ≤ (s.blk.chan c).overruns.length →
    (s.blk.chan c).overruns.headD 0 < (s.blk.chan c).overruns.getD 3 0 + s.blk.msFrames 1000 →
      s.blk.configured c = true →
    s.blk.fn = (s.blk.chan c).overruns.headD 0 + 1 → (s.blk.chan c).degraded = false →
      Yields (.channelDegradedOverruns c) s fun t => Reported t.blk 0x1301 c ∧
      (s.blk.standbyReady = false → (∀ x, t.blk.le.chans[c.val]? = some x → x.degraded = true) ∧
        SameBut s.blk t.blk (fun a => a = R.HIF_EVDROP_COUNT.off)) ∧
      (s.blk.standbyReady = true → t.blk.rd R.HASP_STAT_HSTATE = 3)) ∧
  (∀ (s : State) (c : Fin 16), (s.blk.chan c).degraded = true → Yields (.channelDegradedOverruns c) s fun t => t = s)

/-- R371, R374, R375, R376: Ward: an input that keeps failing, a FABRIC block that disagrees for eight frames, an SRAM
bank beyond its threshold, whose spare takes its place in Ward's part of the tick that follows the copy. What a row does
where its own rule does not let it come about is the model's choice (log entry 1). -/
def Obligations.WardReactions : Prop :=
  (∀ (s : State) (c : Fin 16) (w n : Nat), c.val < 8 → (w = 3 ∨ w = 4) → s.blk.powered .fabric = true →
    s.blk.configured c = true →
    (s.blk.chan c).inFails.find? (fun x => x.1 == w) = some (w, n) → 4 ≤ n → s.blk.on (R.Dn_CMODE_SENS c) = true →
    s.blk.on (R.FBn_STAT_INVAL (s.blk.rd (R.Dn_CMODE_FBSEL c))) = false → s.blk.rd (R.Dn_CMODE_FBSEL c) < 12 →
    Yields (.inputInvalidByTags c w) s fun t => t.blk.on (R.FBn_STAT_INVAL (s.blk.rd (R.Dn_CMODE_FBSEL c))) = true ∧
      Reported t.blk 0x5106 (s.blk.rd (R.Dn_CMODE_FBSEL c))) ∧
  (∀ (s : State) (c : Fin 16) (w i n : Nat), frontInput c w = some i → s.blk.powered .fabric = true →
    s.blk.configured c = true →
    (s.blk.chan c).inFails.find? (fun x => x.1 == w) = some (w, n) → 4 ≤ n → s.blk.on (R.AFE_LMAP_VALID i) = true →
    s.blk.standbyReady = false → Yields (.inputInvalidByTags c w) s fun t => t.blk.on (R.AFE_LMAP_VALID i) = false ∧
      Reported t.blk 0x6301 i) ∧
  (∀ (s : State) (i : Fin 4), s.blk.powered .fabric = true → 8 ≤ s.blk.ward.run.getD i 0 →
    s.blk.ward.dead.contains i.val = false →
    Yields (.fabricBlockFailed i) s fun t => i.val ∈ t.blk.ward.dead ∧ Reported t.blk 0xB303 i ∧
      (s.blk.standbyReady = false → ∀ c : Fin 16, s.blk.dependsOn i c = true → c.val ∈ t.blk.ward.due)) ∧
  (∀ (s : State) (i : Fin 4), s.blk.ward.run.getD i 0 < 8 → Yields (.fabricBlockFailed i) s fun t => t = s) ∧
  (∀ (s : State) (k : Fin 64) (l : List (Fin 16)), s.blk.ward.copy.contains k.val = false →
    s.blk.ward.copied.contains k.val = false → s.blk.powered .fabric = true →
    (s.blk.ward.copy.length + s.blk.ward.copied.length < s.blk.rd R.WARD_SPARE_BANKS →
      Yields (.sramBankThreshold k l) s fun t =>
      t.blk.ward = { s.blk.ward with copy := s.blk.ward.copy ++ [k.val] } ∧ t.blk.regs = s.blk.regs ∧
        t.blk.evs = s.blk.evs) ∧
    (s.blk.rd R.WARD_SPARE_BANKS ≤ s.blk.ward.copy.length + s.blk.ward.copied.length → s.blk.standbyReady = false →
      Yields (.sramBankThreshold k l) s fun t =>
      Reported t.blk 0xB302 k ∧ t.blk.ward = s.blk.ward)) ∧
  (∀ (s : State) (k : Fin 64), s.blk.powered .fabric = true → s.blk.ward.copy.contains k.val = true →
    Yields (.sramBankCopyDone k) s fun t => k.val ∈ t.blk.ward.copied ∧ k.val ∉ t.blk.ward.copy ∧
      t.blk.regs = s.blk.regs ∧ t.blk.evs = s.blk.evs) ∧
  (∀ (b : Blk) (k : Nat), b.ward.copied = [k] → k < 64 → b.ward.due = [] → b.rd R.WARD_SPARE_BANKS ≠ 0 →
    b.wardTick.rd R.WARD_SPARE_BANKS = b.rd R.WARD_SPARE_BANKS - 1 ∧
    b.wardTick.rd R.WARD_BANK_RETIRED = min (b.rd R.WARD_BANK_RETIRED + 1) R.WARD_BANK_RETIRED.top ∧
    b.wardTick.rd R.WARD_BANK_BANK = k ∧ Reported b.wardTick 0xB202 k ∧ b.wardTick.ward.copied = [])

/-- R439, R441: a commit that is rejected: status ADMIT leaves residue and excess in TXN_REJ and raises 0x1103 in place
of 0x2113; every other rejection raises 0x2113, whose record gives the status, the DETAIL and the staged count. -/
def Obligations.RejectedCommit : Prop :=
  ∀ (s : State) (c : Instr) (r : Fin 4) (h : Hdr) (n : Nat) (why : Nat × Nat × Nat × Nat), h.ring = r →
    s.blk.powered .fabric = true →
    ((∃ cyc, c = .txnValidationDone r cyc ∧ (s.blk.txn r).hdr = some h ∧ n = (s.blk.txn r).list.length ∧
        s.blk.judgeList (s.blk.txn r).bad (s.blk.txn r).list = some why) ∨
      (∃ x l d, c = .txnCommitApply r ∧ s.blk.crossed x = true ∧ s.blk.txns.ready = x :: l ∧ x.ring = r.val ∧
        x.hdr = h ∧ x.ticks ≤ 1 ∧
        n = x.list.length ∧ (∀ b : Blk, b = { s.blk with txns := { s.blk.txns with ready := s.blk.txns.ready.filter (fun y => y.ring != x.ring) } } →
          detailOf ((b.withList x.list).condRun b) (x.list.map (·.1)) = some d) ∧ why = (0x16, d, 0, 0))) →
    Yields c s fun t =>
      (why.1 = 0x14 → t.blk.rd (R.TXN_REJ_RESID r) = min why.2.2.1 (R.TXN_REJ_RESID r).top ∧
        t.blk.rd (R.TXN_REJ_EXCESS r) = min why.2.2.2 (R.TXN_REJ_EXCESS r).top ∧ Reported t.blk 0x1103 r ∧
        ∀ e ∈ t.blk.evs.low, e.code = 0x2113 → e ∈ s.blk.evs.low) ∧
      (why.1 ≠ 0x14 → Reported t.blk 0x2113 r ∧ (1 < t.blk.rd (sliceOf R.HIF_EVFILT_MIN 2 2) ∨ 0 < t.blk.evs.drops ∨
        ∃ e ∈ t.blk.evs.low, e.code = 0x2113 ∧ e.src = r.val ∧
          e.info = [Int.ofNat why.1, Int.ofNat why.2.1, Int.ofNat n]))

/-- R9: a write to BAR0 of another width than 32 bits or out of alignment is discarded and counted in HIF_ERRCNT. -/
def Obligations.WrongWidthWrite : Prop :=
  ∀ (s : State) (off width : Nat) (v : Word), s.blk.hostUp = true → (width ≠ 4 ∨ off % 4 ≠ 0) →
    Yields (.registerWrite off width v) s fun t =>
      t.blk.rd R.HIF_ERRCNT_WIDTH = min (s.blk.rd R.HIF_ERRCNT_WIDTH + 1) R.HIF_ERRCNT_WIDTH.top ∧
      SameBut s.blk t.blk (fun a => a = R.HIF_ERRCNT_WIDTH.off) ∧ t.mem = s.mem ∧ t.blk.evs = s.blk.evs ∧
      t.blk.out = s.blk.out ∧ t.blk.drvs = s.blk.drvs

/-- What commands leave unchanged: each of those listed changes no register word but those given with it, no byte of
Bedrock and no drive's state; a trip changes registers of its drive, of its axis and of the captures only. -/
def Obligations.RegisterFrames : Prop :=
  (∀ (s : State) (c : Instr) (T : List Nat),
    ((∃ h, c = .nop h ∧ T = []) ∨ (∃ x, c = .latchingLowWordRead x ∧ T = []) ∨ (∃ p, c = .phyResetRelease p ∧ T = []) ∨
      (∃ m, c = .fdbEntryAged m ∧ T = []) ∨ (c = .v33outRecovered ∧ T = []) ∨ (c = .strataSnap ∧ T = []) ∨
      (∃ k, c = .cbRecoveryReset k ∧ T = [R.HIF_EVDROP_COUNT.off]) ∨ (∃ k, c = .cbPathLoss k ∧
        T = [R.HIF_EVDROP_COUNT.off]) ∨
      (∃ p, c = .gclEntryExpiry p ∧ T = [R.HIF_EVDROP_COUNT.off]) ∨ (∃ mv, c = .v33outLow mv ∧
        T = [R.HIF_EVDROP_COUNT.off]) ∨
      (∃ n, c = .tripPulseRejected n ∧ T = [(R.Dn_TRIPCNT_REJ n).off, R.HIF_EVDROP_COUNT.off]) ∨
      (∃ x v, c = .bar2StrayWrite x v ∧ T = [R.HIF_ERRCNT_BAR2.off]) ∨
      (∃ v, c = .heartbeatDoorbell v ∧ T = [R.HIF_STAT_HB.off, R.HIF_EVDROP_COUNT.off]) ∨
      (∃ r v, c = .commandDoorbell r v ∧ T = [(R.RING_IDX_HOST r).off, (R.RING_STAT_STATE r).off,
        R.HIF_EVDROP_COUNT.off]) ∨
      (∃ q, c = .ringReset q ∧ T = [(R.RING_IDX_HOST q).off, (R.RING_STAT_STATE q).off]) ∨
      (∃ v, c = .msixSignal v ∧ T = [R.MSIX_PBA_PEND.off]) ∨
      (∃ r, c = .txnTimeout r ∧ T = [(R.TXN_STAT_STATE r).off, R.TXN_CNT_TMO.off, R.HIF_EVDROP_COUNT.off]) ∨
      (∃ k, c = .canIntegrated k ∧ T = [(R.CANn_STAT_STATE k).off, R.HIF_EVDROP_COUNT.off]) ∨
      (∃ k, c = .canRecover k ∧ T = [(R.CANn_STAT_STATE k).off, (R.CANn_ECNT_TEC k).off]) ∨
      (∃ k, c = .canRecoveryDone k ∧ T = [(R.CANn_STAT_STATE k).off, (R.CANn_ECNT_TEC k).off, R.HIF_EVDROP_COUNT.off]) ∨
      (∃ k, c = .canWakeEdge k ∧ T = [(R.CANn_STAT_STATE k).off, R.HIF_EVDROP_COUNT.off]) ∨
      (∃ k f, c = .canWakeFrame k f ∧ T = [(R.CANn_STAT_STATE k).off, R.HIF_EVDROP_COUNT.off]) ∨
      (∃ k, c = .canArbitrationLost k ∧ T = [(R.CANn_TXSTAT_W k).off]) ∨
      (∃ p x, c = .lodeLinkUp p x ∧ T = [(R.LODE_Pk_STAT_LINK p).off, R.HIF_EVDROP_COUNT.off]) ∨
      (∃ p, c = .lodeLinkDown p ∧ T = [(R.LODE_Pk_STAT_LINK p).off, R.HIF_EVDROP_COUNT.off]) ∨
      (∃ v, c = .mdioGo v ∧ T = [R.LODE_MDIO_W.off, R.LODE_MDIOST_BUSY.off]) ∨
      (∃ d, c = .mdioDone d ∧ T = [R.LODE_MDIOST_BUSY.off]) ∨
      (∃ p, c = .pllReferenceLost p ∧ T = [R.CLK_STAT_LOCKS.off]) ∨ (∃ p, c = .pllRelocked p ∧
        T = [R.CLK_STAT_LOCKS.off]) ∨
      (∃ p, c = .pllSpLockLoss p ∧ T = [R.CLK_STAT_LOCKS.off, R.HIF_EVDROP_COUNT.off]) ∨
      (c = .vmainLow ∧ T = [R.PWR_VMON_W.off, R.PWR_CNT_W.off, R.HIF_EVDROP_COUNT.off]) ∨
      ((c = .vmainRecover ∨ c = .vmainHigh ∨ c = .vbakLow) ∧ T = [R.PWR_VMON_W.off, R.HIF_EVDROP_COUNT.off]) ∨
      (c = .rstNRearm ∧ T = [R.PWR_RSTPIN_MASK.off, R.HIF_EVDROP_COUNT.off]) ∨
      (c = .disciplineLocked ∧ T = [R.TICK_STAT_OVR.off, R.HIF_EVDROP_COUNT.off]) ∨
      (∃ n, c = .channelOverrun ⟨n, []⟩ ∧ T = [R.TICK_STAT_OVR.off, R.TICK_OVRCNT_W.off, (R.WARD_CNT_COUNT 2).off,
        R.WARD_LAST_KEY.off,
        R.WARD_LAST_FN.off, (R.LE_ERR_CKF (s.blk.pairOf n)).off, R.WARD_SPARE_CKS.off, R.HIF_EVDROP_COUNT.off]) ∨
      (c = .spareSelfcheckFail ∧ T = [R.LE_PSTAT_ST.off, (R.LE_ERR_DIS 4).off, R.WARD_SPARE_LP4.off,
        R.HIF_EVDROP_COUNT.off]) ∨
      (∃ k, c = .sramBankCopyDone k ∧ T = [])) →
    Yields c s fun t => SameBut s.blk t.blk (fun a => a ∈ T) ∧ t.mem = s.mem ∧ t.blk.drvs = s.blk.drvs) ∧
  (∀ (s : State) (n : Fin 8) (c : Instr), (c = .filteredTripAccept n ∨ c = .fastTrip n) → Yields c s fun t =>
    SameBut s.blk t.blk (fun a => (0x8000 + 0x400 * n.val ≤ a ∧ a < 0x8400 + 0x400 * n.val) ∨
      (0xD400 + 0x40 * n.val ≤ a ∧ a < 0xD440 + 0x40 * n.val) ∨ (∃ k < 5, a = (R.LE_CAPSTAT_CAP k).off) ∨
      a = R.HIF_EVDROP_COUNT.off) ∧ t.mem = s.mem ∧ ∀ m, m ≠ n.val → t.blk.drvs[m]? = s.blk.drvs[m]?)

/-- A step takes the command at the front of the queue and runs it with the queue's rest; on an empty queue the block
idles (log entry 39, the model's choice). The table gives its rows no bits, so no word spells a command. -/
def Obligations.StepRunsFront : Prop :=
  (∀ (s : State) (c : Instr) (rest : List Instr), step { s with pending := c :: rest } = exec c { s with pending := rest }) ∧
  (∀ s : State, s.pending = [] → step s = .next s) ∧
  (∀ (s : State) (nbits w : Nat), decodeTableWord nbits w = none ∧ s.withFetchWord nbits w = s)

/-- R531, R534, R535, R537, R543, R545: every command answers a next state and leaves the queue to the step; Bedrock
changes only by Strata's records, the ends of transfers, the slot operations and what ends or begins a run of the
module. That every command answers a next state rests on log entry 1, the model's choice. -/
def Obligations.WritersOfBedrock : Prop :=
  (∀ (c : Instr) (s : State), Yields c s fun t => t.pending = s.pending) ∧
  ∀ (s t : State) (c : Instr), exec c s = .next t →
    match c with
    | .strataIntervalEnd _ | .strataRecordDone | .nvsDmaDone _ | .nvsSlotErase _ | .nvsSlotCommit _ | .nvsSlotCommitDone
    | .registerWrite _ _ _ | .imageVerifyDone _ _ | .domainsUp _ _ _ | .vmainStart | .vmainDropout | .rideExpiry
    | .railOutOfWindow _ | .rstNAccepted | .rstNReleased | .pinStuck | .pwrStby _ | .pwrSysrst _ | .wakePin | .rtcAlarm
    | .tshut _ | .tshutRecover => True
    | _ => t.mem = s.mem

/-- The store keeps its canonical form: addresses strictly rising, inside Bedrock, no byte equal to what an unlisted
address reads as. Every step keeps it, from every state that has it. The form is the model's, over the bytes of R531
(log entry 5). -/
def Obligations.MemoryKeepsForm : Prop :=
  ∀ s t : State, Memory.wf s.mem = true → step s = .next t → Memory.wf t.mem = true

/-- R14, R20, R33, R48, R510: the machine at reset: no supply, no domain powered, every register at its reset word, the
frame period at its default, nothing stored, nothing waiting. That the machine begins before its first supply is the
model's choice (log entry 38). -/
def Obligations.ResetState : Prop :=
  State.reset.pending = [] ∧ Memory.wf State.reset.mem = true ∧ State.reset.mem = [] ∧ State.reset.blk.pwr.step = 0 ∧
  (∀ a, State.reset.blk.word a = resetWord a) ∧ (∀ d : Dom, State.reset.blk.powered d = false) ∧
  State.reset.blk.rd R.TICK_PERIOD_PERIOD = 25000 ∧ State.reset.blk.fn = 0 ∧
  (∀ n : Fin 8, State.reset.blk.pstate n = 5) ∧ State.reset.blk.out = [] ∧ State.reset.blk.evs = default
end

