-- ==== Sys2Proof/Laws/Regs.lean ====
section
/-! SUPPORT. What the register file answers: a word written is read back, another word is as before, and so for the
fields; every register write leaves the rest of the block alone. -/

namespace Sys2Proof.Machine

theorem regFind_drop_self (m : List (Nat × Word)) (a : Nat) : regFind (regDrop m a) a = none := by
  induction m with
  | nil => rfl
  | cons e m ih =>
    by_cases h : e.1 = a
    · have : (e.1 != a) = false := by simp [h]
      simpa [regDrop, this] using ih
    · have : (e.1 != a) = true := by simpa using h
      simpa [regDrop, this, regFind, h] using ih

theorem regFind_drop_ne (m : List (Nat × Word)) {a c : Nat} (h : c ≠ a) : regFind (regDrop m a) c = regFind m c := by
  induction m with
  | nil => rfl
  | cons e m ih =>
    by_cases he : e.1 = a
    · have h1 : (e.1 != a) = false := by simp [he]
      have h2 : e.1 ≠ c := by omega
      simpa [regDrop, h1, regFind, h2] using ih
    · have h1 : (e.1 != a) = true := by simpa using he
      by_cases hc : e.1 = c
      · unfold regDrop
        rw [List.filter_cons_of_pos (by simpa using he)]
        simp [regFind, hc]
      · simpa [regDrop, h1, regFind, hc] using ih

theorem regFind_ins_self (m : List (Nat × Word)) (a : Nat) (w : Word) (h : regFind m a = none) :
    regFind (regIns a w m) a = some w := by
  induction m with
  | nil => simp [regIns, regFind]
  | cons e m ih =>
    by_cases he : e.1 = a
    · simp [regFind, he] at h
    · have hm : regFind m a = none := by simpa [regFind, he] using h
      by_cases hl : a < e.1
      · simp [regIns, hl, regFind]
      · simpa [regIns, hl, regFind, he] using ih hm

theorem regFind_ins_ne (m : List (Nat × Word)) {a c : Nat} (w : Word) (h : c ≠ a) :
    regFind (regIns a w m) c = regFind m c := by
  have h' : a ≠ c := fun x => h x.symm
  induction m with
  | nil => simp [regIns, regFind, h']
  | cons e m ih =>
    by_cases hl : a < e.1
    · simp [regIns, hl, regFind, h']
    · by_cases hc : e.1 = c
      · rw [regIns, if_neg hl]
        simp [regFind, hc]
      · simpa [regIns, hl, regFind, hc] using ih

/-- A word written is read back. -/
@[simp] theorem Blk.word_setWord_self (b : Blk) (a : Nat) (w : Word) : (b.setWord a w).word a = w := by
  unfold Blk.word Blk.setWord regSet
  split
  · simp [regFind_drop_self, *]
  · simp [regFind_ins_self _ _ _ (regFind_drop_self _ _)]

/-- Another word is as before. -/
theorem Blk.word_setWord_ne (b : Blk) {a c : Nat} (w : Word) (h : c ≠ a) : (b.setWord a w).word c = b.word c := by
  unfold Blk.word Blk.setWord regSet
  split
  · simp [regFind_drop_ne _ h]
  · simp [regFind_ins_ne _ _ h, regFind_drop_ne _ h]

/-- A field stands inside its word. -/
def Fld.inWord (f : Fld) : Prop := f.lo + f.w ≤ 32

theorem split_nat (x lo w : Nat) : x = x % 2 ^ lo + x / 2 ^ lo % 2 ^ w * 2 ^ lo + x / 2 ^ (lo + w) * 2 ^ (lo + w) := by
  have h1 := Nat.mod_add_div x (2 ^ lo)
  have h2 := Nat.mod_add_div (x / 2 ^ lo) (2 ^ w)
  rw [Nat.div_div_eq_div_mul, ← Nat.pow_add] at h2
  generalize x / 2 ^ (lo + w) = q at *
  generalize hd : x / 2 ^ lo = d at *
  generalize d % 2 ^ w = r at *
  rw [Nat.pow_add]
  subst h2
  calc x = x % 2 ^ lo + 2 ^ lo * (r + 2 ^ w * q) := h1.symm
    _ = _ := by ring

theorem Fld.put_toNat (f : Fld) (x : Word) (v : Nat) (h : f.inWord) :
    (f.put x v).toNat = x.toNat % 2 ^ f.lo + v % 2 ^ f.w * 2 ^ f.lo + x.toNat / 2 ^ (f.lo + f.w) * 2 ^ (f.lo + f.w) := by
  have hx := split_nat x.toNat f.lo f.w
  have e : x.toNat - x.toNat / 2 ^ f.lo % 2 ^ f.w * 2 ^ f.lo + v % 2 ^ f.w * 2 ^ f.lo =
      x.toNat % 2 ^ f.lo + v % 2 ^ f.w * 2 ^ f.lo + x.toNat / 2 ^ (f.lo + f.w) * 2 ^ (f.lo + f.w) := by omega
  have hlt : x.toNat < 2 ^ 32 := x.isLt
  unfold Fld.put
  rw [BitVec.toNat_ofNat, e]
  apply Nat.mod_eq_of_lt
  have a1 : x.toNat % 2 ^ f.lo < 2 ^ f.lo := Nat.mod_lt _ (Nat.two_pow_pos _)
  have a2 : v % 2 ^ f.w + 1 ≤ 2 ^ f.w := Nat.mod_lt _ (Nat.two_pow_pos _)
  have a3 : x.toNat / 2 ^ (f.lo + f.w) + 1 ≤ 2 ^ (32 - (f.lo + f.w)) := by
    have : x.toNat / 2 ^ (f.lo + f.w) < 2 ^ (32 - (f.lo + f.w)) := by
      rw [Nat.div_lt_iff_lt_mul (Nat.two_pow_pos _), ← Nat.pow_add]
      have : 32 - (f.lo + f.w) + (f.lo + f.w) = 32 := by unfold Fld.inWord at h; omega
      rw [this]; exact hlt
    omega
  have a4 : (v % 2 ^ f.w + 1) * 2 ^ f.lo ≤ 2 ^ (f.lo + f.w) := by
    rw [Nat.pow_add, Nat.mul_comm (2 ^ f.lo)]; exact Nat.mul_le_mul_right _ a2
  have a5 : (x.toNat / 2 ^ (f.lo + f.w) + 1) * 2 ^ (f.lo + f.w) ≤ 2 ^ 32 := by
    have := Nat.mul_le_mul_right (2 ^ (f.lo + f.w)) a3
    rw [← Nat.pow_add] at this
    have e2 : 32 - (f.lo + f.w) + (f.lo + f.w) = 32 := by unfold Fld.inWord at h; omega
    rwa [e2] at this
  rw [Nat.add_mul] at a4 a5
  omega

/-- A field written is read back, cut to its width. -/
theorem Fld.get_put (f : Fld) (x : Word) (v : Nat) (h : f.inWord) : f.get (f.put x v) = v % 2 ^ f.w := by
  unfold Fld.get
  rw [Fld.put_toNat f x v h]
  have e : x.toNat % 2 ^ f.lo + v % 2 ^ f.w * 2 ^ f.lo + x.toNat / 2 ^ (f.lo + f.w) * 2 ^ (f.lo + f.w) =
      x.toNat % 2 ^ f.lo + 2 ^ f.lo * (v % 2 ^ f.w + 2 ^ f.w * (x.toNat / 2 ^ (f.lo + f.w))) := by
    rw [Nat.pow_add]; ring
  rw [e, Nat.add_mul_div_left _ _ (Nat.two_pow_pos _), Nat.div_eq_of_lt (Nat.mod_lt _ (Nat.two_pow_pos _)), Nat.zero_add,
    Nat.add_mul_mod_self_left, Nat.mod_mod]

/-- Two fields of one word that do not overlap. -/
def Fld.apart (f g : Fld) : Prop := f.lo + f.w ≤ g.lo ∨ g.lo + g.w ≤ f.lo

/-- A field that does not overlap the one written is as before. -/
theorem Fld.get_put_apart (f g : Fld) (x : Word) (v : Nat) (h : f.inWord) (ha : f.apart g) :
    g.get (f.put x v) = g.get x := by
  unfold Fld.get
  rw [Fld.put_toNat f x v h]
  have hx := split_nat x.toNat f.lo f.w
  generalize hL : x.toNat % 2 ^ f.lo = L at *
  generalize hM : x.toNat / 2 ^ f.lo % 2 ^ f.w = M at *
  generalize hH : x.toNat / 2 ^ (f.lo + f.w) = H at *
  have hLlt : L < 2 ^ f.lo := hL ▸ Nat.mod_lt _ (Nat.two_pow_pos _)
  have hMlt : M < 2 ^ f.w := hM ▸ Nat.mod_lt _ (Nat.two_pow_pos _)
  have hVlt : v % 2 ^ f.w < 2 ^ f.w := Nat.mod_lt _ (Nat.two_pow_pos _)
  rw [hx]
  rcases ha with ha | ha
  · have key : ∀ m, m < 2 ^ f.w → (L + m * 2 ^ f.lo + H * 2 ^ (f.lo + f.w)) / 2 ^ g.lo = H / 2 ^ (g.lo - (f.lo + f.w)) := by
      intro m hm
      have e : 2 ^ g.lo = 2 ^ (f.lo + f.w) * 2 ^ (g.lo - (f.lo + f.w)) := by rw [← Nat.pow_add]; congr 1; omega
      rw [e, ← Nat.div_div_eq_div_mul]
      congr 1
      have : L + m * 2 ^ f.lo < 2 ^ (f.lo + f.w) := by
        have := Nat.mul_le_mul_right (2 ^ f.lo) (Nat.succ_le_of_lt hm)
        rw [Nat.pow_add, Nat.mul_comm (2 ^ f.lo)]
        rw [Nat.succ_mul] at this; omega
      rw [Nat.add_mul_div_right _ _ (Nat.two_pow_pos _), Nat.div_eq_of_lt this, Nat.zero_add]
    rw [key _ hVlt, key _ hMlt]
  · have key : ∀ m, (L + m * 2 ^ f.lo + H * 2 ^ (f.lo + f.w)) / 2 ^ g.lo % 2 ^ g.w = L / 2 ^ g.lo % 2 ^ g.w := by
      intro m
      obtain ⟨k, hk⟩ : ∃ k, f.lo = g.lo + g.w + k := ⟨f.lo - (g.lo + g.w), by omega⟩
      have e : L + m * 2 ^ f.lo + H * 2 ^ (f.lo + f.w) = L + (2 ^ g.w * (2 ^ k * (m + H * 2 ^ f.w))) * 2 ^ g.lo := by
        rw [hk, Nat.pow_add, Nat.pow_add, Nat.pow_add, Nat.pow_add]; ring
      rw [e, Nat.add_mul_div_right _ _ (Nat.two_pow_pos _), Nat.add_mul_mod_self_left]
    rw [key, key]

/-- A field written is read back. -/
theorem Blk.rd_wr_self (b : Blk) (f : Fld) (v : Nat) (h : f.inWord) : (b.wr f v).rd f = v % 2 ^ f.w := by
  simp [Blk.rd, Blk.wr, Fld.get_put f _ _ h]

/-- A field of another word is as before. -/
theorem Blk.rd_wr_off (b : Blk) (f g : Fld) (v : Nat) (h : g.off ≠ f.off) : (b.wr f v).rd g = b.rd g := by
  simp [Blk.rd, Blk.wr, Blk.word_setWord_ne _ _ h]

/-- Another field of the word is as before. -/
theorem Blk.rd_wr_apart (b : Blk) (f g : Fld) (v : Nat) (h : f.inWord) (ha : f.apart g) : (b.wr f v).rd g = b.rd g := by
  by_cases ho : g.off = f.off
  · simp [Blk.rd, Blk.wr, ho, Fld.get_put_apart f g _ _ h ha]
  · exact b.rd_wr_off f g v ho

/-- A one-bit field written is read back. -/
theorem Blk.on_flag_self (b : Blk) (f : Fld) (v : Bool) (h : f.inWord) (hw : f.w = 1) : (b.flag f v).on f = v := by
  unfold Blk.on Blk.flag
  rw [Blk.rd_wr_self b f _ h, hw]
  cases v <;> rfl

end Sys2Proof.Machine
end

