-- ==== Sys2Proof/Laws/State.lean ====
section
/-! SUPPORT. What each update of the state leaves and sets: one lemma per field and update, each true by definition. -/

namespace Sys2Proof.Machine

variable (b : Blk)

@[simp] theorem Blk.onDrv_regs (n : Nat) (f : Drive → Drive) : (b.onDrv n f).regs = b.regs := rfl
@[simp] theorem Blk.onDrv_latch (n : Nat) (f : Drive → Drive) : (b.onDrv n f).latch = b.latch := rfl
@[simp] theorem Blk.onDrv_tick (n : Nat) (f : Drive → Drive) : (b.onDrv n f).tick = b.tick := rfl
@[simp] theorem Blk.onDrv_evs (n : Nat) (f : Drive → Drive) : (b.onDrv n f).evs = b.evs := rfl
@[simp] theorem Blk.onDrv_out (n : Nat) (f : Drive → Drive) : (b.onDrv n f).out = b.out := rfl
@[simp] theorem Blk.onDrv_host (n : Nat) (f : Drive → Drive) : (b.onDrv n f).host = b.host := rfl
@[simp] theorem Blk.onDrv_txns (n : Nat) (f : Drive → Drive) : (b.onDrv n f).txns = b.txns := rfl
@[simp] theorem Blk.onDrv_drvs (n : Nat) (f : Drive → Drive) : (b.onDrv n f).drvs = b.drvs.modify n f := rfl
@[simp] theorem Blk.onDrv_seqs (n : Nat) (f : Drive → Drive) : (b.onDrv n f).seqs = b.seqs := rfl
@[simp] theorem Blk.onDrv_dcl (n : Nat) (f : Drive → Drive) : (b.onDrv n f).dcl = b.dcl := rfl
@[simp] theorem Blk.onDrv_thm (n : Nat) (f : Drive → Drive) : (b.onDrv n f).thm = b.thm := rfl
@[simp] theorem Blk.onDrv_stps (n : Nat) (f : Drive → Drive) : (b.onDrv n f).stps = b.stps := rfl
@[simp] theorem Blk.onDrv_axes (n : Nat) (f : Drive → Drive) : (b.onDrv n f).axes = b.axes := rfl
@[simp] theorem Blk.onDrv_ports (n : Nat) (f : Drive → Drive) : (b.onDrv n f).ports = b.ports := rfl
@[simp] theorem Blk.onDrv_afe (n : Nat) (f : Drive → Drive) : (b.onDrv n f).afe = b.afe := rfl
@[simp] theorem Blk.onDrv_le (n : Nat) (f : Drive → Drive) : (b.onDrv n f).le = b.le := rfl
@[simp] theorem Blk.onDrv_tuns (n : Nat) (f : Drive → Drive) : (b.onDrv n f).tuns = b.tuns := rfl
@[simp] theorem Blk.onDrv_shr (n : Nat) (f : Drive → Drive) : (b.onDrv n f).shr = b.shr := rfl
@[simp] theorem Blk.onDrv_hasp (n : Nat) (f : Drive → Drive) : (b.onDrv n f).hasp = b.hasp := rfl
@[simp] theorem Blk.onDrv_sll (n : Nat) (f : Drive → Drive) : (b.onDrv n f).sll = b.sll := rfl
@[simp] theorem Blk.onDrv_ward (n : Nat) (f : Drive → Drive) : (b.onDrv n f).ward = b.ward := rfl
@[simp] theorem Blk.onDrv_mir (n : Nat) (f : Drive → Drive) : (b.onDrv n f).mir = b.mir := rfl
@[simp] theorem Blk.onDrv_cans (n : Nat) (f : Drive → Drive) : (b.onDrv n f).cans = b.cans := rfl
@[simp] theorem Blk.onDrv_lode (n : Nat) (f : Drive → Drive) : (b.onDrv n f).lode = b.lode := rfl
@[simp] theorem Blk.onDrv_clk (n : Nat) (f : Drive → Drive) : (b.onDrv n f).clk = b.clk := rfl
@[simp] theorem Blk.onDrv_pwr (n : Nat) (f : Drive → Drive) : (b.onDrv n f).pwr = b.pwr := rfl
@[simp] theorem Blk.onDrv_nvs (n : Nat) (f : Drive → Drive) : (b.onDrv n f).nvs = b.nvs := rfl
@[simp] theorem Blk.onDrv_freeCtr (n : Nat) (f : Drive → Drive) : (b.onDrv n f).freeCtr = b.freeCtr := rfl
@[simp] theorem Blk.onDrv_word (n : Nat) (f : Drive → Drive) (a : Nat) : (b.onDrv n f).word a = b.word a := rfl
@[simp] theorem Blk.onDrv_rd (n : Nat) (f : Drive → Drive) (g : Fld) : (b.onDrv n f).rd g = b.rd g := rfl
@[simp] theorem Blk.onDrv_on (n : Nat) (f : Drive → Drive) (g : Fld) : (b.onDrv n f).on g = b.on g := rfl

@[simp] theorem Blk.onSeq_regs (n : Nat) (f : Seq → Seq) : (b.onSeq n f).regs = b.regs := rfl
@[simp] theorem Blk.onSeq_latch (n : Nat) (f : Seq → Seq) : (b.onSeq n f).latch = b.latch := rfl
@[simp] theorem Blk.onSeq_tick (n : Nat) (f : Seq → Seq) : (b.onSeq n f).tick = b.tick := rfl
@[simp] theorem Blk.onSeq_evs (n : Nat) (f : Seq → Seq) : (b.onSeq n f).evs = b.evs := rfl
@[simp] theorem Blk.onSeq_out (n : Nat) (f : Seq → Seq) : (b.onSeq n f).out = b.out := rfl
@[simp] theorem Blk.onSeq_host (n : Nat) (f : Seq → Seq) : (b.onSeq n f).host = b.host := rfl
@[simp] theorem Blk.onSeq_txns (n : Nat) (f : Seq → Seq) : (b.onSeq n f).txns = b.txns := rfl
@[simp] theorem Blk.onSeq_drvs (n : Nat) (f : Seq → Seq) : (b.onSeq n f).drvs = b.drvs := rfl
@[simp] theorem Blk.onSeq_seqs (n : Nat) (f : Seq → Seq) : (b.onSeq n f).seqs = b.seqs.modify n f := rfl
@[simp] theorem Blk.onSeq_dcl (n : Nat) (f : Seq → Seq) : (b.onSeq n f).dcl = b.dcl := rfl
@[simp] theorem Blk.onSeq_thm (n : Nat) (f : Seq → Seq) : (b.onSeq n f).thm = b.thm := rfl
@[simp] theorem Blk.onSeq_stps (n : Nat) (f : Seq → Seq) : (b.onSeq n f).stps = b.stps := rfl
@[simp] theorem Blk.onSeq_axes (n : Nat) (f : Seq → Seq) : (b.onSeq n f).axes = b.axes := rfl
@[simp] theorem Blk.onSeq_ports (n : Nat) (f : Seq → Seq) : (b.onSeq n f).ports = b.ports := rfl
@[simp] theorem Blk.onSeq_afe (n : Nat) (f : Seq → Seq) : (b.onSeq n f).afe = b.afe := rfl
@[simp] theorem Blk.onSeq_le (n : Nat) (f : Seq → Seq) : (b.onSeq n f).le = b.le := rfl
@[simp] theorem Blk.onSeq_tuns (n : Nat) (f : Seq → Seq) : (b.onSeq n f).tuns = b.tuns := rfl
@[simp] theorem Blk.onSeq_shr (n : Nat) (f : Seq → Seq) : (b.onSeq n f).shr = b.shr := rfl
@[simp] theorem Blk.onSeq_hasp (n : Nat) (f : Seq → Seq) : (b.onSeq n f).hasp = b.hasp := rfl
@[simp] theorem Blk.onSeq_sll (n : Nat) (f : Seq → Seq) : (b.onSeq n f).sll = b.sll := rfl
@[simp] theorem Blk.onSeq_ward (n : Nat) (f : Seq → Seq) : (b.onSeq n f).ward = b.ward := rfl
@[simp] theorem Blk.onSeq_mir (n : Nat) (f : Seq → Seq) : (b.onSeq n f).mir = b.mir := rfl
@[simp] theorem Blk.onSeq_cans (n : Nat) (f : Seq → Seq) : (b.onSeq n f).cans = b.cans := rfl
@[simp] theorem Blk.onSeq_lode (n : Nat) (f : Seq → Seq) : (b.onSeq n f).lode = b.lode := rfl
@[simp] theorem Blk.onSeq_clk (n : Nat) (f : Seq → Seq) : (b.onSeq n f).clk = b.clk := rfl
@[simp] theorem Blk.onSeq_pwr (n : Nat) (f : Seq → Seq) : (b.onSeq n f).pwr = b.pwr := rfl
@[simp] theorem Blk.onSeq_nvs (n : Nat) (f : Seq → Seq) : (b.onSeq n f).nvs = b.nvs := rfl
@[simp] theorem Blk.onSeq_freeCtr (n : Nat) (f : Seq → Seq) : (b.onSeq n f).freeCtr = b.freeCtr := rfl
@[simp] theorem Blk.onSeq_word (n : Nat) (f : Seq → Seq) (a : Nat) : (b.onSeq n f).word a = b.word a := rfl
@[simp] theorem Blk.onSeq_rd (n : Nat) (f : Seq → Seq) (g : Fld) : (b.onSeq n f).rd g = b.rd g := rfl
@[simp] theorem Blk.onSeq_on (n : Nat) (f : Seq → Seq) (g : Fld) : (b.onSeq n f).on g = b.on g := rfl

@[simp] theorem Blk.onDc_regs (n : Nat) (f : DcLink → DcLink) : (b.onDc n f).regs = b.regs := rfl
@[simp] theorem Blk.onDc_latch (n : Nat) (f : DcLink → DcLink) : (b.onDc n f).latch = b.latch := rfl
@[simp] theorem Blk.onDc_tick (n : Nat) (f : DcLink → DcLink) : (b.onDc n f).tick = b.tick := rfl
@[simp] theorem Blk.onDc_evs (n : Nat) (f : DcLink → DcLink) : (b.onDc n f).evs = b.evs := rfl
@[simp] theorem Blk.onDc_out (n : Nat) (f : DcLink → DcLink) : (b.onDc n f).out = b.out := rfl
@[simp] theorem Blk.onDc_host (n : Nat) (f : DcLink → DcLink) : (b.onDc n f).host = b.host := rfl
@[simp] theorem Blk.onDc_txns (n : Nat) (f : DcLink → DcLink) : (b.onDc n f).txns = b.txns := rfl
@[simp] theorem Blk.onDc_drvs (n : Nat) (f : DcLink → DcLink) : (b.onDc n f).drvs = b.drvs := rfl
@[simp] theorem Blk.onDc_seqs (n : Nat) (f : DcLink → DcLink) : (b.onDc n f).seqs = b.seqs := rfl
@[simp] theorem Blk.onDc_dcl (n : Nat) (f : DcLink → DcLink) : (b.onDc n f).dcl = b.dcl.modify n f := rfl
@[simp] theorem Blk.onDc_thm (n : Nat) (f : DcLink → DcLink) : (b.onDc n f).thm = b.thm := rfl
@[simp] theorem Blk.onDc_stps (n : Nat) (f : DcLink → DcLink) : (b.onDc n f).stps = b.stps := rfl
@[simp] theorem Blk.onDc_axes (n : Nat) (f : DcLink → DcLink) : (b.onDc n f).axes = b.axes := rfl
@[simp] theorem Blk.onDc_ports (n : Nat) (f : DcLink → DcLink) : (b.onDc n f).ports = b.ports := rfl
@[simp] theorem Blk.onDc_afe (n : Nat) (f : DcLink → DcLink) : (b.onDc n f).afe = b.afe := rfl
@[simp] theorem Blk.onDc_le (n : Nat) (f : DcLink → DcLink) : (b.onDc n f).le = b.le := rfl
@[simp] theorem Blk.onDc_tuns (n : Nat) (f : DcLink → DcLink) : (b.onDc n f).tuns = b.tuns := rfl
@[simp] theorem Blk.onDc_shr (n : Nat) (f : DcLink → DcLink) : (b.onDc n f).shr = b.shr := rfl
@[simp] theorem Blk.onDc_hasp (n : Nat) (f : DcLink → DcLink) : (b.onDc n f).hasp = b.hasp := rfl
@[simp] theorem Blk.onDc_sll (n : Nat) (f : DcLink → DcLink) : (b.onDc n f).sll = b.sll := rfl
@[simp] theorem Blk.onDc_ward (n : Nat) (f : DcLink → DcLink) : (b.onDc n f).ward = b.ward := rfl
@[simp] theorem Blk.onDc_mir (n : Nat) (f : DcLink → DcLink) : (b.onDc n f).mir = b.mir := rfl
@[simp] theorem Blk.onDc_cans (n : Nat) (f : DcLink → DcLink) : (b.onDc n f).cans = b.cans := rfl
@[simp] theorem Blk.onDc_lode (n : Nat) (f : DcLink → DcLink) : (b.onDc n f).lode = b.lode := rfl
@[simp] theorem Blk.onDc_clk (n : Nat) (f : DcLink → DcLink) : (b.onDc n f).clk = b.clk := rfl
@[simp] theorem Blk.onDc_pwr (n : Nat) (f : DcLink → DcLink) : (b.onDc n f).pwr = b.pwr := rfl
@[simp] theorem Blk.onDc_nvs (n : Nat) (f : DcLink → DcLink) : (b.onDc n f).nvs = b.nvs := rfl
@[simp] theorem Blk.onDc_freeCtr (n : Nat) (f : DcLink → DcLink) : (b.onDc n f).freeCtr = b.freeCtr := rfl
@[simp] theorem Blk.onDc_word (n : Nat) (f : DcLink → DcLink) (a : Nat) : (b.onDc n f).word a = b.word a := rfl
@[simp] theorem Blk.onDc_rd (n : Nat) (f : DcLink → DcLink) (g : Fld) : (b.onDc n f).rd g = b.rd g := rfl
@[simp] theorem Blk.onDc_on (n : Nat) (f : DcLink → DcLink) (g : Fld) : (b.onDc n f).on g = b.on g := rfl

@[simp] theorem Blk.onStp_regs (n : Nat) (f : Stepper → Stepper) : (b.onStp n f).regs = b.regs := rfl
@[simp] theorem Blk.onStp_latch (n : Nat) (f : Stepper → Stepper) : (b.onStp n f).latch = b.latch := rfl
@[simp] theorem Blk.onStp_tick (n : Nat) (f : Stepper → Stepper) : (b.onStp n f).tick = b.tick := rfl
@[simp] theorem Blk.onStp_evs (n : Nat) (f : Stepper → Stepper) : (b.onStp n f).evs = b.evs := rfl
@[simp] theorem Blk.onStp_out (n : Nat) (f : Stepper → Stepper) : (b.onStp n f).out = b.out := rfl
@[simp] theorem Blk.onStp_host (n : Nat) (f : Stepper → Stepper) : (b.onStp n f).host = b.host := rfl
@[simp] theorem Blk.onStp_txns (n : Nat) (f : Stepper → Stepper) : (b.onStp n f).txns = b.txns := rfl
@[simp] theorem Blk.onStp_drvs (n : Nat) (f : Stepper → Stepper) : (b.onStp n f).drvs = b.drvs := rfl
@[simp] theorem Blk.onStp_seqs (n : Nat) (f : Stepper → Stepper) : (b.onStp n f).seqs = b.seqs := rfl
@[simp] theorem Blk.onStp_dcl (n : Nat) (f : Stepper → Stepper) : (b.onStp n f).dcl = b.dcl := rfl
@[simp] theorem Blk.onStp_thm (n : Nat) (f : Stepper → Stepper) : (b.onStp n f).thm = b.thm := rfl
@[simp] theorem Blk.onStp_stps (n : Nat) (f : Stepper → Stepper) : (b.onStp n f).stps = b.stps.modify n f := rfl
@[simp] theorem Blk.onStp_axes (n : Nat) (f : Stepper → Stepper) : (b.onStp n f).axes = b.axes := rfl
@[simp] theorem Blk.onStp_ports (n : Nat) (f : Stepper → Stepper) : (b.onStp n f).ports = b.ports := rfl
@[simp] theorem Blk.onStp_afe (n : Nat) (f : Stepper → Stepper) : (b.onStp n f).afe = b.afe := rfl
@[simp] theorem Blk.onStp_le (n : Nat) (f : Stepper → Stepper) : (b.onStp n f).le = b.le := rfl
@[simp] theorem Blk.onStp_tuns (n : Nat) (f : Stepper → Stepper) : (b.onStp n f).tuns = b.tuns := rfl
@[simp] theorem Blk.onStp_shr (n : Nat) (f : Stepper → Stepper) : (b.onStp n f).shr = b.shr := rfl
@[simp] theorem Blk.onStp_hasp (n : Nat) (f : Stepper → Stepper) : (b.onStp n f).hasp = b.hasp := rfl
@[simp] theorem Blk.onStp_sll (n : Nat) (f : Stepper → Stepper) : (b.onStp n f).sll = b.sll := rfl
@[simp] theorem Blk.onStp_ward (n : Nat) (f : Stepper → Stepper) : (b.onStp n f).ward = b.ward := rfl
@[simp] theorem Blk.onStp_mir (n : Nat) (f : Stepper → Stepper) : (b.onStp n f).mir = b.mir := rfl
@[simp] theorem Blk.onStp_cans (n : Nat) (f : Stepper → Stepper) : (b.onStp n f).cans = b.cans := rfl
@[simp] theorem Blk.onStp_lode (n : Nat) (f : Stepper → Stepper) : (b.onStp n f).lode = b.lode := rfl
@[simp] theorem Blk.onStp_clk (n : Nat) (f : Stepper → Stepper) : (b.onStp n f).clk = b.clk := rfl
@[simp] theorem Blk.onStp_pwr (n : Nat) (f : Stepper → Stepper) : (b.onStp n f).pwr = b.pwr := rfl
@[simp] theorem Blk.onStp_nvs (n : Nat) (f : Stepper → Stepper) : (b.onStp n f).nvs = b.nvs := rfl
@[simp] theorem Blk.onStp_freeCtr (n : Nat) (f : Stepper → Stepper) : (b.onStp n f).freeCtr = b.freeCtr := rfl
@[simp] theorem Blk.onStp_word (n : Nat) (f : Stepper → Stepper) (a : Nat) : (b.onStp n f).word a = b.word a := rfl
@[simp] theorem Blk.onStp_rd (n : Nat) (f : Stepper → Stepper) (g : Fld) : (b.onStp n f).rd g = b.rd g := rfl
@[simp] theorem Blk.onStp_on (n : Nat) (f : Stepper → Stepper) (g : Fld) : (b.onStp n f).on g = b.on g := rfl

@[simp] theorem Blk.onAxis_regs (n : Nat) (f : Axis → Axis) : (b.onAxis n f).regs = b.regs := rfl
@[simp] theorem Blk.onAxis_latch (n : Nat) (f : Axis → Axis) : (b.onAxis n f).latch = b.latch := rfl
@[simp] theorem Blk.onAxis_tick (n : Nat) (f : Axis → Axis) : (b.onAxis n f).tick = b.tick := rfl
@[simp] theorem Blk.onAxis_evs (n : Nat) (f : Axis → Axis) : (b.onAxis n f).evs = b.evs := rfl
@[simp] theorem Blk.onAxis_out (n : Nat) (f : Axis → Axis) : (b.onAxis n f).out = b.out := rfl
@[simp] theorem Blk.onAxis_host (n : Nat) (f : Axis → Axis) : (b.onAxis n f).host = b.host := rfl
@[simp] theorem Blk.onAxis_txns (n : Nat) (f : Axis → Axis) : (b.onAxis n f).txns = b.txns := rfl
@[simp] theorem Blk.onAxis_drvs (n : Nat) (f : Axis → Axis) : (b.onAxis n f).drvs = b.drvs := rfl
@[simp] theorem Blk.onAxis_seqs (n : Nat) (f : Axis → Axis) : (b.onAxis n f).seqs = b.seqs := rfl
@[simp] theorem Blk.onAxis_dcl (n : Nat) (f : Axis → Axis) : (b.onAxis n f).dcl = b.dcl := rfl
@[simp] theorem Blk.onAxis_thm (n : Nat) (f : Axis → Axis) : (b.onAxis n f).thm = b.thm := rfl
@[simp] theorem Blk.onAxis_stps (n : Nat) (f : Axis → Axis) : (b.onAxis n f).stps = b.stps := rfl
@[simp] theorem Blk.onAxis_axes (n : Nat) (f : Axis → Axis) : (b.onAxis n f).axes = b.axes.modify n f := rfl
@[simp] theorem Blk.onAxis_ports (n : Nat) (f : Axis → Axis) : (b.onAxis n f).ports = b.ports := rfl
@[simp] theorem Blk.onAxis_afe (n : Nat) (f : Axis → Axis) : (b.onAxis n f).afe = b.afe := rfl
@[simp] theorem Blk.onAxis_le (n : Nat) (f : Axis → Axis) : (b.onAxis n f).le = b.le := rfl
@[simp] theorem Blk.onAxis_tuns (n : Nat) (f : Axis → Axis) : (b.onAxis n f).tuns = b.tuns := rfl
@[simp] theorem Blk.onAxis_shr (n : Nat) (f : Axis → Axis) : (b.onAxis n f).shr = b.shr := rfl
@[simp] theorem Blk.onAxis_hasp (n : Nat) (f : Axis → Axis) : (b.onAxis n f).hasp = b.hasp := rfl
@[simp] theorem Blk.onAxis_sll (n : Nat) (f : Axis → Axis) : (b.onAxis n f).sll = b.sll := rfl
@[simp] theorem Blk.onAxis_ward (n : Nat) (f : Axis → Axis) : (b.onAxis n f).ward = b.ward := rfl
@[simp] theorem Blk.onAxis_mir (n : Nat) (f : Axis → Axis) : (b.onAxis n f).mir = b.mir := rfl
@[simp] theorem Blk.onAxis_cans (n : Nat) (f : Axis → Axis) : (b.onAxis n f).cans = b.cans := rfl
@[simp] theorem Blk.onAxis_lode (n : Nat) (f : Axis → Axis) : (b.onAxis n f).lode = b.lode := rfl
@[simp] theorem Blk.onAxis_clk (n : Nat) (f : Axis → Axis) : (b.onAxis n f).clk = b.clk := rfl
@[simp] theorem Blk.onAxis_pwr (n : Nat) (f : Axis → Axis) : (b.onAxis n f).pwr = b.pwr := rfl
@[simp] theorem Blk.onAxis_nvs (n : Nat) (f : Axis → Axis) : (b.onAxis n f).nvs = b.nvs := rfl
@[simp] theorem Blk.onAxis_freeCtr (n : Nat) (f : Axis → Axis) : (b.onAxis n f).freeCtr = b.freeCtr := rfl
@[simp] theorem Blk.onAxis_word (n : Nat) (f : Axis → Axis) (a : Nat) : (b.onAxis n f).word a = b.word a := rfl
@[simp] theorem Blk.onAxis_rd (n : Nat) (f : Axis → Axis) (g : Fld) : (b.onAxis n f).rd g = b.rd g := rfl
@[simp] theorem Blk.onAxis_on (n : Nat) (f : Axis → Axis) (g : Fld) : (b.onAxis n f).on g = b.on g := rfl

@[simp] theorem Blk.onPort_regs (n : Nat) (f : Port → Port) : (b.onPort n f).regs = b.regs := rfl
@[simp] theorem Blk.onPort_latch (n : Nat) (f : Port → Port) : (b.onPort n f).latch = b.latch := rfl
@[simp] theorem Blk.onPort_tick (n : Nat) (f : Port → Port) : (b.onPort n f).tick = b.tick := rfl
@[simp] theorem Blk.onPort_evs (n : Nat) (f : Port → Port) : (b.onPort n f).evs = b.evs := rfl
@[simp] theorem Blk.onPort_out (n : Nat) (f : Port → Port) : (b.onPort n f).out = b.out := rfl
@[simp] theorem Blk.onPort_host (n : Nat) (f : Port → Port) : (b.onPort n f).host = b.host := rfl
@[simp] theorem Blk.onPort_txns (n : Nat) (f : Port → Port) : (b.onPort n f).txns = b.txns := rfl
@[simp] theorem Blk.onPort_drvs (n : Nat) (f : Port → Port) : (b.onPort n f).drvs = b.drvs := rfl
@[simp] theorem Blk.onPort_seqs (n : Nat) (f : Port → Port) : (b.onPort n f).seqs = b.seqs := rfl
@[simp] theorem Blk.onPort_dcl (n : Nat) (f : Port → Port) : (b.onPort n f).dcl = b.dcl := rfl
@[simp] theorem Blk.onPort_thm (n : Nat) (f : Port → Port) : (b.onPort n f).thm = b.thm := rfl
@[simp] theorem Blk.onPort_stps (n : Nat) (f : Port → Port) : (b.onPort n f).stps = b.stps := rfl
@[simp] theorem Blk.onPort_axes (n : Nat) (f : Port → Port) : (b.onPort n f).axes = b.axes := rfl
@[simp] theorem Blk.onPort_ports (n : Nat) (f : Port → Port) : (b.onPort n f).ports = b.ports.modify n f := rfl
@[simp] theorem Blk.onPort_afe (n : Nat) (f : Port → Port) : (b.onPort n f).afe = b.afe := rfl
@[simp] theorem Blk.onPort_le (n : Nat) (f : Port → Port) : (b.onPort n f).le = b.le := rfl
@[simp] theorem Blk.onPort_tuns (n : Nat) (f : Port → Port) : (b.onPort n f).tuns = b.tuns := rfl
@[simp] theorem Blk.onPort_shr (n : Nat) (f : Port → Port) : (b.onPort n f).shr = b.shr := rfl
@[simp] theorem Blk.onPort_hasp (n : Nat) (f : Port → Port) : (b.onPort n f).hasp = b.hasp := rfl
@[simp] theorem Blk.onPort_sll (n : Nat) (f : Port → Port) : (b.onPort n f).sll = b.sll := rfl
@[simp] theorem Blk.onPort_ward (n : Nat) (f : Port → Port) : (b.onPort n f).ward = b.ward := rfl
@[simp] theorem Blk.onPort_mir (n : Nat) (f : Port → Port) : (b.onPort n f).mir = b.mir := rfl
@[simp] theorem Blk.onPort_cans (n : Nat) (f : Port → Port) : (b.onPort n f).cans = b.cans := rfl
@[simp] theorem Blk.onPort_lode (n : Nat) (f : Port → Port) : (b.onPort n f).lode = b.lode := rfl
@[simp] theorem Blk.onPort_clk (n : Nat) (f : Port → Port) : (b.onPort n f).clk = b.clk := rfl
@[simp] theorem Blk.onPort_pwr (n : Nat) (f : Port → Port) : (b.onPort n f).pwr = b.pwr := rfl
@[simp] theorem Blk.onPort_nvs (n : Nat) (f : Port → Port) : (b.onPort n f).nvs = b.nvs := rfl
@[simp] theorem Blk.onPort_freeCtr (n : Nat) (f : Port → Port) : (b.onPort n f).freeCtr = b.freeCtr := rfl
@[simp] theorem Blk.onPort_word (n : Nat) (f : Port → Port) (a : Nat) : (b.onPort n f).word a = b.word a := rfl
@[simp] theorem Blk.onPort_rd (n : Nat) (f : Port → Port) (g : Fld) : (b.onPort n f).rd g = b.rd g := rfl
@[simp] theorem Blk.onPort_on (n : Nat) (f : Port → Port) (g : Fld) : (b.onPort n f).on g = b.on g := rfl

@[simp] theorem Blk.onChan_regs (n : Nat) (f : Chan → Chan) : (b.onChan n f).regs = b.regs := rfl
@[simp] theorem Blk.onChan_latch (n : Nat) (f : Chan → Chan) : (b.onChan n f).latch = b.latch := rfl
@[simp] theorem Blk.onChan_tick (n : Nat) (f : Chan → Chan) : (b.onChan n f).tick = b.tick := rfl
@[simp] theorem Blk.onChan_evs (n : Nat) (f : Chan → Chan) : (b.onChan n f).evs = b.evs := rfl
@[simp] theorem Blk.onChan_out (n : Nat) (f : Chan → Chan) : (b.onChan n f).out = b.out := rfl
@[simp] theorem Blk.onChan_host (n : Nat) (f : Chan → Chan) : (b.onChan n f).host = b.host := rfl
@[simp] theorem Blk.onChan_txns (n : Nat) (f : Chan → Chan) : (b.onChan n f).txns = b.txns := rfl
@[simp] theorem Blk.onChan_drvs (n : Nat) (f : Chan → Chan) : (b.onChan n f).drvs = b.drvs := rfl
@[simp] theorem Blk.onChan_seqs (n : Nat) (f : Chan → Chan) : (b.onChan n f).seqs = b.seqs := rfl
@[simp] theorem Blk.onChan_dcl (n : Nat) (f : Chan → Chan) : (b.onChan n f).dcl = b.dcl := rfl
@[simp] theorem Blk.onChan_thm (n : Nat) (f : Chan → Chan) : (b.onChan n f).thm = b.thm := rfl
@[simp] theorem Blk.onChan_stps (n : Nat) (f : Chan → Chan) : (b.onChan n f).stps = b.stps := rfl
@[simp] theorem Blk.onChan_axes (n : Nat) (f : Chan → Chan) : (b.onChan n f).axes = b.axes := rfl
@[simp] theorem Blk.onChan_ports (n : Nat) (f : Chan → Chan) : (b.onChan n f).ports = b.ports := rfl
@[simp] theorem Blk.onChan_afe (n : Nat) (f : Chan → Chan) : (b.onChan n f).afe = b.afe := rfl
@[simp] theorem Blk.onChan_le (n : Nat) (f : Chan → Chan) : (b.onChan n f).le = { b.le with chans := b.le.chans.modify n f } := rfl
@[simp] theorem Blk.onChan_tuns (n : Nat) (f : Chan → Chan) : (b.onChan n f).tuns = b.tuns := rfl
@[simp] theorem Blk.onChan_shr (n : Nat) (f : Chan → Chan) : (b.onChan n f).shr = b.shr := rfl
@[simp] theorem Blk.onChan_hasp (n : Nat) (f : Chan → Chan) : (b.onChan n f).hasp = b.hasp := rfl
@[simp] theorem Blk.onChan_sll (n : Nat) (f : Chan → Chan) : (b.onChan n f).sll = b.sll := rfl
@[simp] theorem Blk.onChan_ward (n : Nat) (f : Chan → Chan) : (b.onChan n f).ward = b.ward := rfl
@[simp] theorem Blk.onChan_mir (n : Nat) (f : Chan → Chan) : (b.onChan n f).mir = b.mir := rfl
@[simp] theorem Blk.onChan_cans (n : Nat) (f : Chan → Chan) : (b.onChan n f).cans = b.cans := rfl
@[simp] theorem Blk.onChan_lode (n : Nat) (f : Chan → Chan) : (b.onChan n f).lode = b.lode := rfl
@[simp] theorem Blk.onChan_clk (n : Nat) (f : Chan → Chan) : (b.onChan n f).clk = b.clk := rfl
@[simp] theorem Blk.onChan_pwr (n : Nat) (f : Chan → Chan) : (b.onChan n f).pwr = b.pwr := rfl
@[simp] theorem Blk.onChan_nvs (n : Nat) (f : Chan → Chan) : (b.onChan n f).nvs = b.nvs := rfl
@[simp] theorem Blk.onChan_freeCtr (n : Nat) (f : Chan → Chan) : (b.onChan n f).freeCtr = b.freeCtr := rfl
@[simp] theorem Blk.onChan_word (n : Nat) (f : Chan → Chan) (a : Nat) : (b.onChan n f).word a = b.word a := rfl
@[simp] theorem Blk.onChan_rd (n : Nat) (f : Chan → Chan) (g : Fld) : (b.onChan n f).rd g = b.rd g := rfl
@[simp] theorem Blk.onChan_on (n : Nat) (f : Chan → Chan) (g : Fld) : (b.onChan n f).on g = b.on g := rfl

@[simp] theorem Blk.onTun_regs (n : Nat) (f : Tuner → Tuner) : (b.onTun n f).regs = b.regs := rfl
@[simp] theorem Blk.onTun_latch (n : Nat) (f : Tuner → Tuner) : (b.onTun n f).latch = b.latch := rfl
@[simp] theorem Blk.onTun_tick (n : Nat) (f : Tuner → Tuner) : (b.onTun n f).tick = b.tick := rfl
@[simp] theorem Blk.onTun_evs (n : Nat) (f : Tuner → Tuner) : (b.onTun n f).evs = b.evs := rfl
@[simp] theorem Blk.onTun_out (n : Nat) (f : Tuner → Tuner) : (b.onTun n f).out = b.out := rfl
@[simp] theorem Blk.onTun_host (n : Nat) (f : Tuner → Tuner) : (b.onTun n f).host = b.host := rfl
@[simp] theorem Blk.onTun_txns (n : Nat) (f : Tuner → Tuner) : (b.onTun n f).txns = b.txns := rfl
@[simp] theorem Blk.onTun_drvs (n : Nat) (f : Tuner → Tuner) : (b.onTun n f).drvs = b.drvs := rfl
@[simp] theorem Blk.onTun_seqs (n : Nat) (f : Tuner → Tuner) : (b.onTun n f).seqs = b.seqs := rfl
@[simp] theorem Blk.onTun_dcl (n : Nat) (f : Tuner → Tuner) : (b.onTun n f).dcl = b.dcl := rfl
@[simp] theorem Blk.onTun_thm (n : Nat) (f : Tuner → Tuner) : (b.onTun n f).thm = b.thm := rfl
@[simp] theorem Blk.onTun_stps (n : Nat) (f : Tuner → Tuner) : (b.onTun n f).stps = b.stps := rfl
@[simp] theorem Blk.onTun_axes (n : Nat) (f : Tuner → Tuner) : (b.onTun n f).axes = b.axes := rfl
@[simp] theorem Blk.onTun_ports (n : Nat) (f : Tuner → Tuner) : (b.onTun n f).ports = b.ports := rfl
@[simp] theorem Blk.onTun_afe (n : Nat) (f : Tuner → Tuner) : (b.onTun n f).afe = b.afe := rfl
@[simp] theorem Blk.onTun_le (n : Nat) (f : Tuner → Tuner) : (b.onTun n f).le = b.le := rfl
@[simp] theorem Blk.onTun_tuns (n : Nat) (f : Tuner → Tuner) : (b.onTun n f).tuns = b.tuns.modify n f := rfl
@[simp] theorem Blk.onTun_shr (n : Nat) (f : Tuner → Tuner) : (b.onTun n f).shr = b.shr := rfl
@[simp] theorem Blk.onTun_hasp (n : Nat) (f : Tuner → Tuner) : (b.onTun n f).hasp = b.hasp := rfl
@[simp] theorem Blk.onTun_sll (n : Nat) (f : Tuner → Tuner) : (b.onTun n f).sll = b.sll := rfl
@[simp] theorem Blk.onTun_ward (n : Nat) (f : Tuner → Tuner) : (b.onTun n f).ward = b.ward := rfl
@[simp] theorem Blk.onTun_mir (n : Nat) (f : Tuner → Tuner) : (b.onTun n f).mir = b.mir := rfl
@[simp] theorem Blk.onTun_cans (n : Nat) (f : Tuner → Tuner) : (b.onTun n f).cans = b.cans := rfl
@[simp] theorem Blk.onTun_lode (n : Nat) (f : Tuner → Tuner) : (b.onTun n f).lode = b.lode := rfl
@[simp] theorem Blk.onTun_clk (n : Nat) (f : Tuner → Tuner) : (b.onTun n f).clk = b.clk := rfl
@[simp] theorem Blk.onTun_pwr (n : Nat) (f : Tuner → Tuner) : (b.onTun n f).pwr = b.pwr := rfl
@[simp] theorem Blk.onTun_nvs (n : Nat) (f : Tuner → Tuner) : (b.onTun n f).nvs = b.nvs := rfl
@[simp] theorem Blk.onTun_freeCtr (n : Nat) (f : Tuner → Tuner) : (b.onTun n f).freeCtr = b.freeCtr := rfl
@[simp] theorem Blk.onTun_word (n : Nat) (f : Tuner → Tuner) (a : Nat) : (b.onTun n f).word a = b.word a := rfl
@[simp] theorem Blk.onTun_rd (n : Nat) (f : Tuner → Tuner) (g : Fld) : (b.onTun n f).rd g = b.rd g := rfl
@[simp] theorem Blk.onTun_on (n : Nat) (f : Tuner → Tuner) (g : Fld) : (b.onTun n f).on g = b.on g := rfl

@[simp] theorem Blk.onGrp_regs (n : Nat) (f : ShrGrp → ShrGrp) : (b.onGrp n f).regs = b.regs := rfl
@[simp] theorem Blk.onGrp_latch (n : Nat) (f : ShrGrp → ShrGrp) : (b.onGrp n f).latch = b.latch := rfl
@[simp] theorem Blk.onGrp_tick (n : Nat) (f : ShrGrp → ShrGrp) : (b.onGrp n f).tick = b.tick := rfl
@[simp] theorem Blk.onGrp_evs (n : Nat) (f : ShrGrp → ShrGrp) : (b.onGrp n f).evs = b.evs := rfl
@[simp] theorem Blk.onGrp_out (n : Nat) (f : ShrGrp → ShrGrp) : (b.onGrp n f).out = b.out := rfl
@[simp] theorem Blk.onGrp_host (n : Nat) (f : ShrGrp → ShrGrp) : (b.onGrp n f).host = b.host := rfl
@[simp] theorem Blk.onGrp_txns (n : Nat) (f : ShrGrp → ShrGrp) : (b.onGrp n f).txns = b.txns := rfl
@[simp] theorem Blk.onGrp_drvs (n : Nat) (f : ShrGrp → ShrGrp) : (b.onGrp n f).drvs = b.drvs := rfl
@[simp] theorem Blk.onGrp_seqs (n : Nat) (f : ShrGrp → ShrGrp) : (b.onGrp n f).seqs = b.seqs := rfl
@[simp] theorem Blk.onGrp_dcl (n : Nat) (f : ShrGrp → ShrGrp) : (b.onGrp n f).dcl = b.dcl := rfl
@[simp] theorem Blk.onGrp_thm (n : Nat) (f : ShrGrp → ShrGrp) : (b.onGrp n f).thm = b.thm := rfl
@[simp] theorem Blk.onGrp_stps (n : Nat) (f : ShrGrp → ShrGrp) : (b.onGrp n f).stps = b.stps := rfl
@[simp] theorem Blk.onGrp_axes (n : Nat) (f : ShrGrp → ShrGrp) : (b.onGrp n f).axes = b.axes := rfl
@[simp] theorem Blk.onGrp_ports (n : Nat) (f : ShrGrp → ShrGrp) : (b.onGrp n f).ports = b.ports := rfl
@[simp] theorem Blk.onGrp_afe (n : Nat) (f : ShrGrp → ShrGrp) : (b.onGrp n f).afe = b.afe := rfl
@[simp] theorem Blk.onGrp_le (n : Nat) (f : ShrGrp → ShrGrp) : (b.onGrp n f).le = b.le := rfl
@[simp] theorem Blk.onGrp_tuns (n : Nat) (f : ShrGrp → ShrGrp) : (b.onGrp n f).tuns = b.tuns := rfl
@[simp] theorem Blk.onGrp_shr (n : Nat) (f : ShrGrp → ShrGrp) : (b.onGrp n f).shr = b.shr.modify n f := rfl
@[simp] theorem Blk.onGrp_hasp (n : Nat) (f : ShrGrp → ShrGrp) : (b.onGrp n f).hasp = b.hasp := rfl
@[simp] theorem Blk.onGrp_sll (n : Nat) (f : ShrGrp → ShrGrp) : (b.onGrp n f).sll = b.sll := rfl
@[simp] theorem Blk.onGrp_ward (n : Nat) (f : ShrGrp → ShrGrp) : (b.onGrp n f).ward = b.ward := rfl
@[simp] theorem Blk.onGrp_mir (n : Nat) (f : ShrGrp → ShrGrp) : (b.onGrp n f).mir = b.mir := rfl
@[simp] theorem Blk.onGrp_cans (n : Nat) (f : ShrGrp → ShrGrp) : (b.onGrp n f).cans = b.cans := rfl
@[simp] theorem Blk.onGrp_lode (n : Nat) (f : ShrGrp → ShrGrp) : (b.onGrp n f).lode = b.lode := rfl
@[simp] theorem Blk.onGrp_clk (n : Nat) (f : ShrGrp → ShrGrp) : (b.onGrp n f).clk = b.clk := rfl
@[simp] theorem Blk.onGrp_pwr (n : Nat) (f : ShrGrp → ShrGrp) : (b.onGrp n f).pwr = b.pwr := rfl
@[simp] theorem Blk.onGrp_nvs (n : Nat) (f : ShrGrp → ShrGrp) : (b.onGrp n f).nvs = b.nvs := rfl
@[simp] theorem Blk.onGrp_freeCtr (n : Nat) (f : ShrGrp → ShrGrp) : (b.onGrp n f).freeCtr = b.freeCtr := rfl
@[simp] theorem Blk.onGrp_word (n : Nat) (f : ShrGrp → ShrGrp) (a : Nat) : (b.onGrp n f).word a = b.word a := rfl
@[simp] theorem Blk.onGrp_rd (n : Nat) (f : ShrGrp → ShrGrp) (g : Fld) : (b.onGrp n f).rd g = b.rd g := rfl
@[simp] theorem Blk.onGrp_on (n : Nat) (f : ShrGrp → ShrGrp) (g : Fld) : (b.onGrp n f).on g = b.on g := rfl

@[simp] theorem Blk.onSto_regs (n : Nat) (f : Sto → Sto) : (b.onSto n f).regs = b.regs := rfl
@[simp] theorem Blk.onSto_latch (n : Nat) (f : Sto → Sto) : (b.onSto n f).latch = b.latch := rfl
@[simp] theorem Blk.onSto_tick (n : Nat) (f : Sto → Sto) : (b.onSto n f).tick = b.tick := rfl
@[simp] theorem Blk.onSto_evs (n : Nat) (f : Sto → Sto) : (b.onSto n f).evs = b.evs := rfl
@[simp] theorem Blk.onSto_out (n : Nat) (f : Sto → Sto) : (b.onSto n f).out = b.out := rfl
@[simp] theorem Blk.onSto_host (n : Nat) (f : Sto → Sto) : (b.onSto n f).host = b.host := rfl
@[simp] theorem Blk.onSto_txns (n : Nat) (f : Sto → Sto) : (b.onSto n f).txns = b.txns := rfl
@[simp] theorem Blk.onSto_drvs (n : Nat) (f : Sto → Sto) : (b.onSto n f).drvs = b.drvs := rfl
@[simp] theorem Blk.onSto_seqs (n : Nat) (f : Sto → Sto) : (b.onSto n f).seqs = b.seqs := rfl
@[simp] theorem Blk.onSto_dcl (n : Nat) (f : Sto → Sto) : (b.onSto n f).dcl = b.dcl := rfl
@[simp] theorem Blk.onSto_thm (n : Nat) (f : Sto → Sto) : (b.onSto n f).thm = b.thm := rfl
@[simp] theorem Blk.onSto_stps (n : Nat) (f : Sto → Sto) : (b.onSto n f).stps = b.stps := rfl
@[simp] theorem Blk.onSto_axes (n : Nat) (f : Sto → Sto) : (b.onSto n f).axes = b.axes := rfl
@[simp] theorem Blk.onSto_ports (n : Nat) (f : Sto → Sto) : (b.onSto n f).ports = b.ports := rfl
@[simp] theorem Blk.onSto_afe (n : Nat) (f : Sto → Sto) : (b.onSto n f).afe = b.afe := rfl
@[simp] theorem Blk.onSto_le (n : Nat) (f : Sto → Sto) : (b.onSto n f).le = b.le := rfl
@[simp] theorem Blk.onSto_tuns (n : Nat) (f : Sto → Sto) : (b.onSto n f).tuns = b.tuns := rfl
@[simp] theorem Blk.onSto_shr (n : Nat) (f : Sto → Sto) : (b.onSto n f).shr = b.shr := rfl
@[simp] theorem Blk.onSto_hasp (n : Nat) (f : Sto → Sto) : (b.onSto n f).hasp = { b.hasp with stos := b.hasp.stos.modify n f } := rfl
@[simp] theorem Blk.onSto_sll (n : Nat) (f : Sto → Sto) : (b.onSto n f).sll = b.sll := rfl
@[simp] theorem Blk.onSto_ward (n : Nat) (f : Sto → Sto) : (b.onSto n f).ward = b.ward := rfl
@[simp] theorem Blk.onSto_mir (n : Nat) (f : Sto → Sto) : (b.onSto n f).mir = b.mir := rfl
@[simp] theorem Blk.onSto_cans (n : Nat) (f : Sto → Sto) : (b.onSto n f).cans = b.cans := rfl
@[simp] theorem Blk.onSto_lode (n : Nat) (f : Sto → Sto) : (b.onSto n f).lode = b.lode := rfl
@[simp] theorem Blk.onSto_clk (n : Nat) (f : Sto → Sto) : (b.onSto n f).clk = b.clk := rfl
@[simp] theorem Blk.onSto_pwr (n : Nat) (f : Sto → Sto) : (b.onSto n f).pwr = b.pwr := rfl
@[simp] theorem Blk.onSto_nvs (n : Nat) (f : Sto → Sto) : (b.onSto n f).nvs = b.nvs := rfl
@[simp] theorem Blk.onSto_freeCtr (n : Nat) (f : Sto → Sto) : (b.onSto n f).freeCtr = b.freeCtr := rfl
@[simp] theorem Blk.onSto_word (n : Nat) (f : Sto → Sto) (a : Nat) : (b.onSto n f).word a = b.word a := rfl
@[simp] theorem Blk.onSto_rd (n : Nat) (f : Sto → Sto) (g : Fld) : (b.onSto n f).rd g = b.rd g := rfl
@[simp] theorem Blk.onSto_on (n : Nat) (f : Sto → Sto) (g : Fld) : (b.onSto n f).on g = b.on g := rfl

@[simp] theorem Blk.onHch_regs (n : Nat) (f : HaspCh → HaspCh) : (b.onHch n f).regs = b.regs := rfl
@[simp] theorem Blk.onHch_latch (n : Nat) (f : HaspCh → HaspCh) : (b.onHch n f).latch = b.latch := rfl
@[simp] theorem Blk.onHch_tick (n : Nat) (f : HaspCh → HaspCh) : (b.onHch n f).tick = b.tick := rfl
@[simp] theorem Blk.onHch_evs (n : Nat) (f : HaspCh → HaspCh) : (b.onHch n f).evs = b.evs := rfl
@[simp] theorem Blk.onHch_out (n : Nat) (f : HaspCh → HaspCh) : (b.onHch n f).out = b.out := rfl
@[simp] theorem Blk.onHch_host (n : Nat) (f : HaspCh → HaspCh) : (b.onHch n f).host = b.host := rfl
@[simp] theorem Blk.onHch_txns (n : Nat) (f : HaspCh → HaspCh) : (b.onHch n f).txns = b.txns := rfl
@[simp] theorem Blk.onHch_drvs (n : Nat) (f : HaspCh → HaspCh) : (b.onHch n f).drvs = b.drvs := rfl
@[simp] theorem Blk.onHch_seqs (n : Nat) (f : HaspCh → HaspCh) : (b.onHch n f).seqs = b.seqs := rfl
@[simp] theorem Blk.onHch_dcl (n : Nat) (f : HaspCh → HaspCh) : (b.onHch n f).dcl = b.dcl := rfl
@[simp] theorem Blk.onHch_thm (n : Nat) (f : HaspCh → HaspCh) : (b.onHch n f).thm = b.thm := rfl
@[simp] theorem Blk.onHch_stps (n : Nat) (f : HaspCh → HaspCh) : (b.onHch n f).stps = b.stps := rfl
@[simp] theorem Blk.onHch_axes (n : Nat) (f : HaspCh → HaspCh) : (b.onHch n f).axes = b.axes := rfl
@[simp] theorem Blk.onHch_ports (n : Nat) (f : HaspCh → HaspCh) : (b.onHch n f).ports = b.ports := rfl
@[simp] theorem Blk.onHch_afe (n : Nat) (f : HaspCh → HaspCh) : (b.onHch n f).afe = b.afe := rfl
@[simp] theorem Blk.onHch_le (n : Nat) (f : HaspCh → HaspCh) : (b.onHch n f).le = b.le := rfl
@[simp] theorem Blk.onHch_tuns (n : Nat) (f : HaspCh → HaspCh) : (b.onHch n f).tuns = b.tuns := rfl
@[simp] theorem Blk.onHch_shr (n : Nat) (f : HaspCh → HaspCh) : (b.onHch n f).shr = b.shr := rfl
@[simp] theorem Blk.onHch_hasp (n : Nat) (f : HaspCh → HaspCh) : (b.onHch n f).hasp = { b.hasp with chs := b.hasp.chs.modify n f } := rfl
@[simp] theorem Blk.onHch_sll (n : Nat) (f : HaspCh → HaspCh) : (b.onHch n f).sll = b.sll := rfl
@[simp] theorem Blk.onHch_ward (n : Nat) (f : HaspCh → HaspCh) : (b.onHch n f).ward = b.ward := rfl
@[simp] theorem Blk.onHch_mir (n : Nat) (f : HaspCh → HaspCh) : (b.onHch n f).mir = b.mir := rfl
@[simp] theorem Blk.onHch_cans (n : Nat) (f : HaspCh → HaspCh) : (b.onHch n f).cans = b.cans := rfl
@[simp] theorem Blk.onHch_lode (n : Nat) (f : HaspCh → HaspCh) : (b.onHch n f).lode = b.lode := rfl
@[simp] theorem Blk.onHch_clk (n : Nat) (f : HaspCh → HaspCh) : (b.onHch n f).clk = b.clk := rfl
@[simp] theorem Blk.onHch_pwr (n : Nat) (f : HaspCh → HaspCh) : (b.onHch n f).pwr = b.pwr := rfl
@[simp] theorem Blk.onHch_nvs (n : Nat) (f : HaspCh → HaspCh) : (b.onHch n f).nvs = b.nvs := rfl
@[simp] theorem Blk.onHch_freeCtr (n : Nat) (f : HaspCh → HaspCh) : (b.onHch n f).freeCtr = b.freeCtr := rfl
@[simp] theorem Blk.onHch_word (n : Nat) (f : HaspCh → HaspCh) (a : Nat) : (b.onHch n f).word a = b.word a := rfl
@[simp] theorem Blk.onHch_rd (n : Nat) (f : HaspCh → HaspCh) (g : Fld) : (b.onHch n f).rd g = b.rd g := rfl
@[simp] theorem Blk.onHch_on (n : Nat) (f : HaspCh → HaspCh) (g : Fld) : (b.onHch n f).on g = b.on g := rfl

@[simp] theorem Blk.onHasp_regs (f : Hasp → Hasp) : (b.onHasp f).regs = b.regs := rfl
@[simp] theorem Blk.onHasp_latch (f : Hasp → Hasp) : (b.onHasp f).latch = b.latch := rfl
@[simp] theorem Blk.onHasp_tick (f : Hasp → Hasp) : (b.onHasp f).tick = b.tick := rfl
@[simp] theorem Blk.onHasp_evs (f : Hasp → Hasp) : (b.onHasp f).evs = b.evs := rfl
@[simp] theorem Blk.onHasp_out (f : Hasp → Hasp) : (b.onHasp f).out = b.out := rfl
@[simp] theorem Blk.onHasp_host (f : Hasp → Hasp) : (b.onHasp f).host = b.host := rfl
@[simp] theorem Blk.onHasp_txns (f : Hasp → Hasp) : (b.onHasp f).txns = b.txns := rfl
@[simp] theorem Blk.onHasp_drvs (f : Hasp → Hasp) : (b.onHasp f).drvs = b.drvs := rfl
@[simp] theorem Blk.onHasp_seqs (f : Hasp → Hasp) : (b.onHasp f).seqs = b.seqs := rfl
@[simp] theorem Blk.onHasp_dcl (f : Hasp → Hasp) : (b.onHasp f).dcl = b.dcl := rfl
@[simp] theorem Blk.onHasp_thm (f : Hasp → Hasp) : (b.onHasp f).thm = b.thm := rfl
@[simp] theorem Blk.onHasp_stps (f : Hasp → Hasp) : (b.onHasp f).stps = b.stps := rfl
@[simp] theorem Blk.onHasp_axes (f : Hasp → Hasp) : (b.onHasp f).axes = b.axes := rfl
@[simp] theorem Blk.onHasp_ports (f : Hasp → Hasp) : (b.onHasp f).ports = b.ports := rfl
@[simp] theorem Blk.onHasp_afe (f : Hasp → Hasp) : (b.onHasp f).afe = b.afe := rfl
@[simp] theorem Blk.onHasp_le (f : Hasp → Hasp) : (b.onHasp f).le = b.le := rfl
@[simp] theorem Blk.onHasp_tuns (f : Hasp → Hasp) : (b.onHasp f).tuns = b.tuns := rfl
@[simp] theorem Blk.onHasp_shr (f : Hasp → Hasp) : (b.onHasp f).shr = b.shr := rfl
@[simp] theorem Blk.onHasp_hasp (f : Hasp → Hasp) : (b.onHasp f).hasp = f b.hasp := rfl
@[simp] theorem Blk.onHasp_sll (f : Hasp → Hasp) : (b.onHasp f).sll = b.sll := rfl
@[simp] theorem Blk.onHasp_ward (f : Hasp → Hasp) : (b.onHasp f).ward = b.ward := rfl
@[simp] theorem Blk.onHasp_mir (f : Hasp → Hasp) : (b.onHasp f).mir = b.mir := rfl
@[simp] theorem Blk.onHasp_cans (f : Hasp → Hasp) : (b.onHasp f).cans = b.cans := rfl
@[simp] theorem Blk.onHasp_lode (f : Hasp → Hasp) : (b.onHasp f).lode = b.lode := rfl
@[simp] theorem Blk.onHasp_clk (f : Hasp → Hasp) : (b.onHasp f).clk = b.clk := rfl
@[simp] theorem Blk.onHasp_pwr (f : Hasp → Hasp) : (b.onHasp f).pwr = b.pwr := rfl
@[simp] theorem Blk.onHasp_nvs (f : Hasp → Hasp) : (b.onHasp f).nvs = b.nvs := rfl
@[simp] theorem Blk.onHasp_freeCtr (f : Hasp → Hasp) : (b.onHasp f).freeCtr = b.freeCtr := rfl
@[simp] theorem Blk.onHasp_word (f : Hasp → Hasp) (a : Nat) : (b.onHasp f).word a = b.word a := rfl
@[simp] theorem Blk.onHasp_rd (f : Hasp → Hasp) (g : Fld) : (b.onHasp f).rd g = b.rd g := rfl
@[simp] theorem Blk.onHasp_on (f : Hasp → Hasp) (g : Fld) : (b.onHasp f).on g = b.on g := rfl

@[simp] theorem Blk.onAfe_regs (f : Afe → Afe) : (b.onAfe f).regs = b.regs := rfl
@[simp] theorem Blk.onAfe_latch (f : Afe → Afe) : (b.onAfe f).latch = b.latch := rfl
@[simp] theorem Blk.onAfe_tick (f : Afe → Afe) : (b.onAfe f).tick = b.tick := rfl
@[simp] theorem Blk.onAfe_evs (f : Afe → Afe) : (b.onAfe f).evs = b.evs := rfl
@[simp] theorem Blk.onAfe_out (f : Afe → Afe) : (b.onAfe f).out = b.out := rfl
@[simp] theorem Blk.onAfe_host (f : Afe → Afe) : (b.onAfe f).host = b.host := rfl
@[simp] theorem Blk.onAfe_txns (f : Afe → Afe) : (b.onAfe f).txns = b.txns := rfl
@[simp] theorem Blk.onAfe_drvs (f : Afe → Afe) : (b.onAfe f).drvs = b.drvs := rfl
@[simp] theorem Blk.onAfe_seqs (f : Afe → Afe) : (b.onAfe f).seqs = b.seqs := rfl
@[simp] theorem Blk.onAfe_dcl (f : Afe → Afe) : (b.onAfe f).dcl = b.dcl := rfl
@[simp] theorem Blk.onAfe_thm (f : Afe → Afe) : (b.onAfe f).thm = b.thm := rfl
@[simp] theorem Blk.onAfe_stps (f : Afe → Afe) : (b.onAfe f).stps = b.stps := rfl
@[simp] theorem Blk.onAfe_axes (f : Afe → Afe) : (b.onAfe f).axes = b.axes := rfl
@[simp] theorem Blk.onAfe_ports (f : Afe → Afe) : (b.onAfe f).ports = b.ports := rfl
@[simp] theorem Blk.onAfe_afe (f : Afe → Afe) : (b.onAfe f).afe = f b.afe := rfl
@[simp] theorem Blk.onAfe_le (f : Afe → Afe) : (b.onAfe f).le = b.le := rfl
@[simp] theorem Blk.onAfe_tuns (f : Afe → Afe) : (b.onAfe f).tuns = b.tuns := rfl
@[simp] theorem Blk.onAfe_shr (f : Afe → Afe) : (b.onAfe f).shr = b.shr := rfl
@[simp] theorem Blk.onAfe_hasp (f : Afe → Afe) : (b.onAfe f).hasp = b.hasp := rfl
@[simp] theorem Blk.onAfe_sll (f : Afe → Afe) : (b.onAfe f).sll = b.sll := rfl
@[simp] theorem Blk.onAfe_ward (f : Afe → Afe) : (b.onAfe f).ward = b.ward := rfl
@[simp] theorem Blk.onAfe_mir (f : Afe → Afe) : (b.onAfe f).mir = b.mir := rfl
@[simp] theorem Blk.onAfe_cans (f : Afe → Afe) : (b.onAfe f).cans = b.cans := rfl
@[simp] theorem Blk.onAfe_lode (f : Afe → Afe) : (b.onAfe f).lode = b.lode := rfl
@[simp] theorem Blk.onAfe_clk (f : Afe → Afe) : (b.onAfe f).clk = b.clk := rfl
@[simp] theorem Blk.onAfe_pwr (f : Afe → Afe) : (b.onAfe f).pwr = b.pwr := rfl
@[simp] theorem Blk.onAfe_nvs (f : Afe → Afe) : (b.onAfe f).nvs = b.nvs := rfl
@[simp] theorem Blk.onAfe_freeCtr (f : Afe → Afe) : (b.onAfe f).freeCtr = b.freeCtr := rfl
@[simp] theorem Blk.onAfe_word (f : Afe → Afe) (a : Nat) : (b.onAfe f).word a = b.word a := rfl
@[simp] theorem Blk.onAfe_rd (f : Afe → Afe) (g : Fld) : (b.onAfe f).rd g = b.rd g := rfl
@[simp] theorem Blk.onAfe_on (f : Afe → Afe) (g : Fld) : (b.onAfe f).on g = b.on g := rfl

@[simp] theorem Blk.onHost_regs (f : HostIf → HostIf) : (b.onHost f).regs = b.regs := rfl
@[simp] theorem Blk.onHost_latch (f : HostIf → HostIf) : (b.onHost f).latch = b.latch := rfl
@[simp] theorem Blk.onHost_tick (f : HostIf → HostIf) : (b.onHost f).tick = b.tick := rfl
@[simp] theorem Blk.onHost_evs (f : HostIf → HostIf) : (b.onHost f).evs = b.evs := rfl
@[simp] theorem Blk.onHost_out (f : HostIf → HostIf) : (b.onHost f).out = b.out := rfl
@[simp] theorem Blk.onHost_host (f : HostIf → HostIf) : (b.onHost f).host = f b.host := rfl
@[simp] theorem Blk.onHost_txns (f : HostIf → HostIf) : (b.onHost f).txns = b.txns := rfl
@[simp] theorem Blk.onHost_drvs (f : HostIf → HostIf) : (b.onHost f).drvs = b.drvs := rfl
@[simp] theorem Blk.onHost_seqs (f : HostIf → HostIf) : (b.onHost f).seqs = b.seqs := rfl
@[simp] theorem Blk.onHost_dcl (f : HostIf → HostIf) : (b.onHost f).dcl = b.dcl := rfl
@[simp] theorem Blk.onHost_thm (f : HostIf → HostIf) : (b.onHost f).thm = b.thm := rfl
@[simp] theorem Blk.onHost_stps (f : HostIf → HostIf) : (b.onHost f).stps = b.stps := rfl
@[simp] theorem Blk.onHost_axes (f : HostIf → HostIf) : (b.onHost f).axes = b.axes := rfl
@[simp] theorem Blk.onHost_ports (f : HostIf → HostIf) : (b.onHost f).ports = b.ports := rfl
@[simp] theorem Blk.onHost_afe (f : HostIf → HostIf) : (b.onHost f).afe = b.afe := rfl
@[simp] theorem Blk.onHost_le (f : HostIf → HostIf) : (b.onHost f).le = b.le := rfl
@[simp] theorem Blk.onHost_tuns (f : HostIf → HostIf) : (b.onHost f).tuns = b.tuns := rfl
@[simp] theorem Blk.onHost_shr (f : HostIf → HostIf) : (b.onHost f).shr = b.shr := rfl
@[simp] theorem Blk.onHost_hasp (f : HostIf → HostIf) : (b.onHost f).hasp = b.hasp := rfl
@[simp] theorem Blk.onHost_sll (f : HostIf → HostIf) : (b.onHost f).sll = b.sll := rfl
@[simp] theorem Blk.onHost_ward (f : HostIf → HostIf) : (b.onHost f).ward = b.ward := rfl
@[simp] theorem Blk.onHost_mir (f : HostIf → HostIf) : (b.onHost f).mir = b.mir := rfl
@[simp] theorem Blk.onHost_cans (f : HostIf → HostIf) : (b.onHost f).cans = b.cans := rfl
@[simp] theorem Blk.onHost_lode (f : HostIf → HostIf) : (b.onHost f).lode = b.lode := rfl
@[simp] theorem Blk.onHost_clk (f : HostIf → HostIf) : (b.onHost f).clk = b.clk := rfl
@[simp] theorem Blk.onHost_pwr (f : HostIf → HostIf) : (b.onHost f).pwr = b.pwr := rfl
@[simp] theorem Blk.onHost_nvs (f : HostIf → HostIf) : (b.onHost f).nvs = b.nvs := rfl
@[simp] theorem Blk.onHost_freeCtr (f : HostIf → HostIf) : (b.onHost f).freeCtr = b.freeCtr := rfl
@[simp] theorem Blk.onHost_word (f : HostIf → HostIf) (a : Nat) : (b.onHost f).word a = b.word a := rfl
@[simp] theorem Blk.onHost_rd (f : HostIf → HostIf) (g : Fld) : (b.onHost f).rd g = b.rd g := rfl
@[simp] theorem Blk.onHost_on (f : HostIf → HostIf) (g : Fld) : (b.onHost f).on g = b.on g := rfl

@[simp] theorem Blk.onWard_regs (f : Ward → Ward) : (b.onWard f).regs = b.regs := rfl
@[simp] theorem Blk.onWard_latch (f : Ward → Ward) : (b.onWard f).latch = b.latch := rfl
@[simp] theorem Blk.onWard_tick (f : Ward → Ward) : (b.onWard f).tick = b.tick := rfl
@[simp] theorem Blk.onWard_evs (f : Ward → Ward) : (b.onWard f).evs = b.evs := rfl
@[simp] theorem Blk.onWard_out (f : Ward → Ward) : (b.onWard f).out = b.out := rfl
@[simp] theorem Blk.onWard_host (f : Ward → Ward) : (b.onWard f).host = b.host := rfl
@[simp] theorem Blk.onWard_txns (f : Ward → Ward) : (b.onWard f).txns = b.txns := rfl
@[simp] theorem Blk.onWard_drvs (f : Ward → Ward) : (b.onWard f).drvs = b.drvs := rfl
@[simp] theorem Blk.onWard_seqs (f : Ward → Ward) : (b.onWard f).seqs = b.seqs := rfl
@[simp] theorem Blk.onWard_dcl (f : Ward → Ward) : (b.onWard f).dcl = b.dcl := rfl
@[simp] theorem Blk.onWard_thm (f : Ward → Ward) : (b.onWard f).thm = b.thm := rfl
@[simp] theorem Blk.onWard_stps (f : Ward → Ward) : (b.onWard f).stps = b.stps := rfl
@[simp] theorem Blk.onWard_axes (f : Ward → Ward) : (b.onWard f).axes = b.axes := rfl
@[simp] theorem Blk.onWard_ports (f : Ward → Ward) : (b.onWard f).ports = b.ports := rfl
@[simp] theorem Blk.onWard_afe (f : Ward → Ward) : (b.onWard f).afe = b.afe := rfl
@[simp] theorem Blk.onWard_le (f : Ward → Ward) : (b.onWard f).le = b.le := rfl
@[simp] theorem Blk.onWard_tuns (f : Ward → Ward) : (b.onWard f).tuns = b.tuns := rfl
@[simp] theorem Blk.onWard_shr (f : Ward → Ward) : (b.onWard f).shr = b.shr := rfl
@[simp] theorem Blk.onWard_hasp (f : Ward → Ward) : (b.onWard f).hasp = b.hasp := rfl
@[simp] theorem Blk.onWard_sll (f : Ward → Ward) : (b.onWard f).sll = b.sll := rfl
@[simp] theorem Blk.onWard_ward (f : Ward → Ward) : (b.onWard f).ward = f b.ward := rfl
@[simp] theorem Blk.onWard_mir (f : Ward → Ward) : (b.onWard f).mir = b.mir := rfl
@[simp] theorem Blk.onWard_cans (f : Ward → Ward) : (b.onWard f).cans = b.cans := rfl
@[simp] theorem Blk.onWard_lode (f : Ward → Ward) : (b.onWard f).lode = b.lode := rfl
@[simp] theorem Blk.onWard_clk (f : Ward → Ward) : (b.onWard f).clk = b.clk := rfl
@[simp] theorem Blk.onWard_pwr (f : Ward → Ward) : (b.onWard f).pwr = b.pwr := rfl
@[simp] theorem Blk.onWard_nvs (f : Ward → Ward) : (b.onWard f).nvs = b.nvs := rfl
@[simp] theorem Blk.onWard_freeCtr (f : Ward → Ward) : (b.onWard f).freeCtr = b.freeCtr := rfl
@[simp] theorem Blk.onWard_word (f : Ward → Ward) (a : Nat) : (b.onWard f).word a = b.word a := rfl
@[simp] theorem Blk.onWard_rd (f : Ward → Ward) (g : Fld) : (b.onWard f).rd g = b.rd g := rfl
@[simp] theorem Blk.onWard_on (f : Ward → Ward) (g : Fld) : (b.onWard f).on g = b.on g := rfl

@[simp] theorem Blk.onMir_regs (f : Mir → Mir) : (b.onMir f).regs = b.regs := rfl
@[simp] theorem Blk.onMir_latch (f : Mir → Mir) : (b.onMir f).latch = b.latch := rfl
@[simp] theorem Blk.onMir_tick (f : Mir → Mir) : (b.onMir f).tick = b.tick := rfl
@[simp] theorem Blk.onMir_evs (f : Mir → Mir) : (b.onMir f).evs = b.evs := rfl
@[simp] theorem Blk.onMir_out (f : Mir → Mir) : (b.onMir f).out = b.out := rfl
@[simp] theorem Blk.onMir_host (f : Mir → Mir) : (b.onMir f).host = b.host := rfl
@[simp] theorem Blk.onMir_txns (f : Mir → Mir) : (b.onMir f).txns = b.txns := rfl
@[simp] theorem Blk.onMir_drvs (f : Mir → Mir) : (b.onMir f).drvs = b.drvs := rfl
@[simp] theorem Blk.onMir_seqs (f : Mir → Mir) : (b.onMir f).seqs = b.seqs := rfl
@[simp] theorem Blk.onMir_dcl (f : Mir → Mir) : (b.onMir f).dcl = b.dcl := rfl
@[simp] theorem Blk.onMir_thm (f : Mir → Mir) : (b.onMir f).thm = b.thm := rfl
@[simp] theorem Blk.onMir_stps (f : Mir → Mir) : (b.onMir f).stps = b.stps := rfl
@[simp] theorem Blk.onMir_axes (f : Mir → Mir) : (b.onMir f).axes = b.axes := rfl
@[simp] theorem Blk.onMir_ports (f : Mir → Mir) : (b.onMir f).ports = b.ports := rfl
@[simp] theorem Blk.onMir_afe (f : Mir → Mir) : (b.onMir f).afe = b.afe := rfl
@[simp] theorem Blk.onMir_le (f : Mir → Mir) : (b.onMir f).le = b.le := rfl
@[simp] theorem Blk.onMir_tuns (f : Mir → Mir) : (b.onMir f).tuns = b.tuns := rfl
@[simp] theorem Blk.onMir_shr (f : Mir → Mir) : (b.onMir f).shr = b.shr := rfl
@[simp] theorem Blk.onMir_hasp (f : Mir → Mir) : (b.onMir f).hasp = b.hasp := rfl
@[simp] theorem Blk.onMir_sll (f : Mir → Mir) : (b.onMir f).sll = b.sll := rfl
@[simp] theorem Blk.onMir_ward (f : Mir → Mir) : (b.onMir f).ward = b.ward := rfl
@[simp] theorem Blk.onMir_mir (f : Mir → Mir) : (b.onMir f).mir = f b.mir := rfl
@[simp] theorem Blk.onMir_cans (f : Mir → Mir) : (b.onMir f).cans = b.cans := rfl
@[simp] theorem Blk.onMir_lode (f : Mir → Mir) : (b.onMir f).lode = b.lode := rfl
@[simp] theorem Blk.onMir_clk (f : Mir → Mir) : (b.onMir f).clk = b.clk := rfl
@[simp] theorem Blk.onMir_pwr (f : Mir → Mir) : (b.onMir f).pwr = b.pwr := rfl
@[simp] theorem Blk.onMir_nvs (f : Mir → Mir) : (b.onMir f).nvs = b.nvs := rfl
@[simp] theorem Blk.onMir_freeCtr (f : Mir → Mir) : (b.onMir f).freeCtr = b.freeCtr := rfl
@[simp] theorem Blk.onMir_word (f : Mir → Mir) (a : Nat) : (b.onMir f).word a = b.word a := rfl
@[simp] theorem Blk.onMir_rd (f : Mir → Mir) (g : Fld) : (b.onMir f).rd g = b.rd g := rfl
@[simp] theorem Blk.onMir_on (f : Mir → Mir) (g : Fld) : (b.onMir f).on g = b.on g := rfl

@[simp] theorem Blk.onThm_regs (f : Thm → Thm) : (b.onThm f).regs = b.regs := rfl
@[simp] theorem Blk.onThm_latch (f : Thm → Thm) : (b.onThm f).latch = b.latch := rfl
@[simp] theorem Blk.onThm_tick (f : Thm → Thm) : (b.onThm f).tick = b.tick := rfl
@[simp] theorem Blk.onThm_evs (f : Thm → Thm) : (b.onThm f).evs = b.evs := rfl
@[simp] theorem Blk.onThm_out (f : Thm → Thm) : (b.onThm f).out = b.out := rfl
@[simp] theorem Blk.onThm_host (f : Thm → Thm) : (b.onThm f).host = b.host := rfl
@[simp] theorem Blk.onThm_txns (f : Thm → Thm) : (b.onThm f).txns = b.txns := rfl
@[simp] theorem Blk.onThm_drvs (f : Thm → Thm) : (b.onThm f).drvs = b.drvs := rfl
@[simp] theorem Blk.onThm_seqs (f : Thm → Thm) : (b.onThm f).seqs = b.seqs := rfl
@[simp] theorem Blk.onThm_dcl (f : Thm → Thm) : (b.onThm f).dcl = b.dcl := rfl
@[simp] theorem Blk.onThm_thm (f : Thm → Thm) : (b.onThm f).thm = f b.thm := rfl
@[simp] theorem Blk.onThm_stps (f : Thm → Thm) : (b.onThm f).stps = b.stps := rfl
@[simp] theorem Blk.onThm_axes (f : Thm → Thm) : (b.onThm f).axes = b.axes := rfl
@[simp] theorem Blk.onThm_ports (f : Thm → Thm) : (b.onThm f).ports = b.ports := rfl
@[simp] theorem Blk.onThm_afe (f : Thm → Thm) : (b.onThm f).afe = b.afe := rfl
@[simp] theorem Blk.onThm_le (f : Thm → Thm) : (b.onThm f).le = b.le := rfl
@[simp] theorem Blk.onThm_tuns (f : Thm → Thm) : (b.onThm f).tuns = b.tuns := rfl
@[simp] theorem Blk.onThm_shr (f : Thm → Thm) : (b.onThm f).shr = b.shr := rfl
@[simp] theorem Blk.onThm_hasp (f : Thm → Thm) : (b.onThm f).hasp = b.hasp := rfl
@[simp] theorem Blk.onThm_sll (f : Thm → Thm) : (b.onThm f).sll = b.sll := rfl
@[simp] theorem Blk.onThm_ward (f : Thm → Thm) : (b.onThm f).ward = b.ward := rfl
@[simp] theorem Blk.onThm_mir (f : Thm → Thm) : (b.onThm f).mir = b.mir := rfl
@[simp] theorem Blk.onThm_cans (f : Thm → Thm) : (b.onThm f).cans = b.cans := rfl
@[simp] theorem Blk.onThm_lode (f : Thm → Thm) : (b.onThm f).lode = b.lode := rfl
@[simp] theorem Blk.onThm_clk (f : Thm → Thm) : (b.onThm f).clk = b.clk := rfl
@[simp] theorem Blk.onThm_pwr (f : Thm → Thm) : (b.onThm f).pwr = b.pwr := rfl
@[simp] theorem Blk.onThm_nvs (f : Thm → Thm) : (b.onThm f).nvs = b.nvs := rfl
@[simp] theorem Blk.onThm_freeCtr (f : Thm → Thm) : (b.onThm f).freeCtr = b.freeCtr := rfl
@[simp] theorem Blk.onThm_word (f : Thm → Thm) (a : Nat) : (b.onThm f).word a = b.word a := rfl
@[simp] theorem Blk.onThm_rd (f : Thm → Thm) (g : Fld) : (b.onThm f).rd g = b.rd g := rfl
@[simp] theorem Blk.onThm_on (f : Thm → Thm) (g : Fld) : (b.onThm f).on g = b.on g := rfl

@[simp] theorem Blk.onSll_regs (f : Sll → Sll) : (b.onSll f).regs = b.regs := rfl
@[simp] theorem Blk.onSll_latch (f : Sll → Sll) : (b.onSll f).latch = b.latch := rfl
@[simp] theorem Blk.onSll_tick (f : Sll → Sll) : (b.onSll f).tick = b.tick := rfl
@[simp] theorem Blk.onSll_evs (f : Sll → Sll) : (b.onSll f).evs = b.evs := rfl
@[simp] theorem Blk.onSll_out (f : Sll → Sll) : (b.onSll f).out = b.out := rfl
@[simp] theorem Blk.onSll_host (f : Sll → Sll) : (b.onSll f).host = b.host := rfl
@[simp] theorem Blk.onSll_txns (f : Sll → Sll) : (b.onSll f).txns = b.txns := rfl
@[simp] theorem Blk.onSll_drvs (f : Sll → Sll) : (b.onSll f).drvs = b.drvs := rfl
@[simp] theorem Blk.onSll_seqs (f : Sll → Sll) : (b.onSll f).seqs = b.seqs := rfl
@[simp] theorem Blk.onSll_dcl (f : Sll → Sll) : (b.onSll f).dcl = b.dcl := rfl
@[simp] theorem Blk.onSll_thm (f : Sll → Sll) : (b.onSll f).thm = b.thm := rfl
@[simp] theorem Blk.onSll_stps (f : Sll → Sll) : (b.onSll f).stps = b.stps := rfl
@[simp] theorem Blk.onSll_axes (f : Sll → Sll) : (b.onSll f).axes = b.axes := rfl
@[simp] theorem Blk.onSll_ports (f : Sll → Sll) : (b.onSll f).ports = b.ports := rfl
@[simp] theorem Blk.onSll_afe (f : Sll → Sll) : (b.onSll f).afe = b.afe := rfl
@[simp] theorem Blk.onSll_le (f : Sll → Sll) : (b.onSll f).le = b.le := rfl
@[simp] theorem Blk.onSll_tuns (f : Sll → Sll) : (b.onSll f).tuns = b.tuns := rfl
@[simp] theorem Blk.onSll_shr (f : Sll → Sll) : (b.onSll f).shr = b.shr := rfl
@[simp] theorem Blk.onSll_hasp (f : Sll → Sll) : (b.onSll f).hasp = b.hasp := rfl
@[simp] theorem Blk.onSll_sll (f : Sll → Sll) : (b.onSll f).sll = f b.sll := rfl
@[simp] theorem Blk.onSll_ward (f : Sll → Sll) : (b.onSll f).ward = b.ward := rfl
@[simp] theorem Blk.onSll_mir (f : Sll → Sll) : (b.onSll f).mir = b.mir := rfl
@[simp] theorem Blk.onSll_cans (f : Sll → Sll) : (b.onSll f).cans = b.cans := rfl
@[simp] theorem Blk.onSll_lode (f : Sll → Sll) : (b.onSll f).lode = b.lode := rfl
@[simp] theorem Blk.onSll_clk (f : Sll → Sll) : (b.onSll f).clk = b.clk := rfl
@[simp] theorem Blk.onSll_pwr (f : Sll → Sll) : (b.onSll f).pwr = b.pwr := rfl
@[simp] theorem Blk.onSll_nvs (f : Sll → Sll) : (b.onSll f).nvs = b.nvs := rfl
@[simp] theorem Blk.onSll_freeCtr (f : Sll → Sll) : (b.onSll f).freeCtr = b.freeCtr := rfl
@[simp] theorem Blk.onSll_word (f : Sll → Sll) (a : Nat) : (b.onSll f).word a = b.word a := rfl
@[simp] theorem Blk.onSll_rd (f : Sll → Sll) (g : Fld) : (b.onSll f).rd g = b.rd g := rfl
@[simp] theorem Blk.onSll_on (f : Sll → Sll) (g : Fld) : (b.onSll f).on g = b.on g := rfl

@[simp] theorem Blk.onLe_regs (f : Le → Le) : (b.onLe f).regs = b.regs := rfl
@[simp] theorem Blk.onLe_latch (f : Le → Le) : (b.onLe f).latch = b.latch := rfl
@[simp] theorem Blk.onLe_tick (f : Le → Le) : (b.onLe f).tick = b.tick := rfl
@[simp] theorem Blk.onLe_evs (f : Le → Le) : (b.onLe f).evs = b.evs := rfl
@[simp] theorem Blk.onLe_out (f : Le → Le) : (b.onLe f).out = b.out := rfl
@[simp] theorem Blk.onLe_host (f : Le → Le) : (b.onLe f).host = b.host := rfl
@[simp] theorem Blk.onLe_txns (f : Le → Le) : (b.onLe f).txns = b.txns := rfl
@[simp] theorem Blk.onLe_drvs (f : Le → Le) : (b.onLe f).drvs = b.drvs := rfl
@[simp] theorem Blk.onLe_seqs (f : Le → Le) : (b.onLe f).seqs = b.seqs := rfl
@[simp] theorem Blk.onLe_dcl (f : Le → Le) : (b.onLe f).dcl = b.dcl := rfl
@[simp] theorem Blk.onLe_thm (f : Le → Le) : (b.onLe f).thm = b.thm := rfl
@[simp] theorem Blk.onLe_stps (f : Le → Le) : (b.onLe f).stps = b.stps := rfl
@[simp] theorem Blk.onLe_axes (f : Le → Le) : (b.onLe f).axes = b.axes := rfl
@[simp] theorem Blk.onLe_ports (f : Le → Le) : (b.onLe f).ports = b.ports := rfl
@[simp] theorem Blk.onLe_afe (f : Le → Le) : (b.onLe f).afe = b.afe := rfl
@[simp] theorem Blk.onLe_le (f : Le → Le) : (b.onLe f).le = f b.le := rfl
@[simp] theorem Blk.onLe_tuns (f : Le → Le) : (b.onLe f).tuns = b.tuns := rfl
@[simp] theorem Blk.onLe_shr (f : Le → Le) : (b.onLe f).shr = b.shr := rfl
@[simp] theorem Blk.onLe_hasp (f : Le → Le) : (b.onLe f).hasp = b.hasp := rfl
@[simp] theorem Blk.onLe_sll (f : Le → Le) : (b.onLe f).sll = b.sll := rfl
@[simp] theorem Blk.onLe_ward (f : Le → Le) : (b.onLe f).ward = b.ward := rfl
@[simp] theorem Blk.onLe_mir (f : Le → Le) : (b.onLe f).mir = b.mir := rfl
@[simp] theorem Blk.onLe_cans (f : Le → Le) : (b.onLe f).cans = b.cans := rfl
@[simp] theorem Blk.onLe_lode (f : Le → Le) : (b.onLe f).lode = b.lode := rfl
@[simp] theorem Blk.onLe_clk (f : Le → Le) : (b.onLe f).clk = b.clk := rfl
@[simp] theorem Blk.onLe_pwr (f : Le → Le) : (b.onLe f).pwr = b.pwr := rfl
@[simp] theorem Blk.onLe_nvs (f : Le → Le) : (b.onLe f).nvs = b.nvs := rfl
@[simp] theorem Blk.onLe_freeCtr (f : Le → Le) : (b.onLe f).freeCtr = b.freeCtr := rfl
@[simp] theorem Blk.onLe_word (f : Le → Le) (a : Nat) : (b.onLe f).word a = b.word a := rfl
@[simp] theorem Blk.onLe_rd (f : Le → Le) (g : Fld) : (b.onLe f).rd g = b.rd g := rfl
@[simp] theorem Blk.onLe_on (f : Le → Le) (g : Fld) : (b.onLe f).on g = b.on g := rfl

@[simp] theorem Blk.onLode_regs (f : Lode → Lode) : (b.onLode f).regs = b.regs := rfl
@[simp] theorem Blk.onLode_latch (f : Lode → Lode) : (b.onLode f).latch = b.latch := rfl
@[simp] theorem Blk.onLode_tick (f : Lode → Lode) : (b.onLode f).tick = b.tick := rfl
@[simp] theorem Blk.onLode_evs (f : Lode → Lode) : (b.onLode f).evs = b.evs := rfl
@[simp] theorem Blk.onLode_out (f : Lode → Lode) : (b.onLode f).out = b.out := rfl
@[simp] theorem Blk.onLode_host (f : Lode → Lode) : (b.onLode f).host = b.host := rfl
@[simp] theorem Blk.onLode_txns (f : Lode → Lode) : (b.onLode f).txns = b.txns := rfl
@[simp] theorem Blk.onLode_drvs (f : Lode → Lode) : (b.onLode f).drvs = b.drvs := rfl
@[simp] theorem Blk.onLode_seqs (f : Lode → Lode) : (b.onLode f).seqs = b.seqs := rfl
@[simp] theorem Blk.onLode_dcl (f : Lode → Lode) : (b.onLode f).dcl = b.dcl := rfl
@[simp] theorem Blk.onLode_thm (f : Lode → Lode) : (b.onLode f).thm = b.thm := rfl
@[simp] theorem Blk.onLode_stps (f : Lode → Lode) : (b.onLode f).stps = b.stps := rfl
@[simp] theorem Blk.onLode_axes (f : Lode → Lode) : (b.onLode f).axes = b.axes := rfl
@[simp] theorem Blk.onLode_ports (f : Lode → Lode) : (b.onLode f).ports = b.ports := rfl
@[simp] theorem Blk.onLode_afe (f : Lode → Lode) : (b.onLode f).afe = b.afe := rfl
@[simp] theorem Blk.onLode_le (f : Lode → Lode) : (b.onLode f).le = b.le := rfl
@[simp] theorem Blk.onLode_tuns (f : Lode → Lode) : (b.onLode f).tuns = b.tuns := rfl
@[simp] theorem Blk.onLode_shr (f : Lode → Lode) : (b.onLode f).shr = b.shr := rfl
@[simp] theorem Blk.onLode_hasp (f : Lode → Lode) : (b.onLode f).hasp = b.hasp := rfl
@[simp] theorem Blk.onLode_sll (f : Lode → Lode) : (b.onLode f).sll = b.sll := rfl
@[simp] theorem Blk.onLode_ward (f : Lode → Lode) : (b.onLode f).ward = b.ward := rfl
@[simp] theorem Blk.onLode_mir (f : Lode → Lode) : (b.onLode f).mir = b.mir := rfl
@[simp] theorem Blk.onLode_cans (f : Lode → Lode) : (b.onLode f).cans = b.cans := rfl
@[simp] theorem Blk.onLode_lode (f : Lode → Lode) : (b.onLode f).lode = f b.lode := rfl
@[simp] theorem Blk.onLode_clk (f : Lode → Lode) : (b.onLode f).clk = b.clk := rfl
@[simp] theorem Blk.onLode_pwr (f : Lode → Lode) : (b.onLode f).pwr = b.pwr := rfl
@[simp] theorem Blk.onLode_nvs (f : Lode → Lode) : (b.onLode f).nvs = b.nvs := rfl
@[simp] theorem Blk.onLode_freeCtr (f : Lode → Lode) : (b.onLode f).freeCtr = b.freeCtr := rfl
@[simp] theorem Blk.onLode_word (f : Lode → Lode) (a : Nat) : (b.onLode f).word a = b.word a := rfl
@[simp] theorem Blk.onLode_rd (f : Lode → Lode) (g : Fld) : (b.onLode f).rd g = b.rd g := rfl
@[simp] theorem Blk.onLode_on (f : Lode → Lode) (g : Fld) : (b.onLode f).on g = b.on g := rfl

@[simp] theorem Blk.onNvs_regs (f : Nvs → Nvs) : (b.onNvs f).regs = b.regs := rfl
@[simp] theorem Blk.onNvs_latch (f : Nvs → Nvs) : (b.onNvs f).latch = b.latch := rfl
@[simp] theorem Blk.onNvs_tick (f : Nvs → Nvs) : (b.onNvs f).tick = b.tick := rfl
@[simp] theorem Blk.onNvs_evs (f : Nvs → Nvs) : (b.onNvs f).evs = b.evs := rfl
@[simp] theorem Blk.onNvs_out (f : Nvs → Nvs) : (b.onNvs f).out = b.out := rfl
@[simp] theorem Blk.onNvs_host (f : Nvs → Nvs) : (b.onNvs f).host = b.host := rfl
@[simp] theorem Blk.onNvs_txns (f : Nvs → Nvs) : (b.onNvs f).txns = b.txns := rfl
@[simp] theorem Blk.onNvs_drvs (f : Nvs → Nvs) : (b.onNvs f).drvs = b.drvs := rfl
@[simp] theorem Blk.onNvs_seqs (f : Nvs → Nvs) : (b.onNvs f).seqs = b.seqs := rfl
@[simp] theorem Blk.onNvs_dcl (f : Nvs → Nvs) : (b.onNvs f).dcl = b.dcl := rfl
@[simp] theorem Blk.onNvs_thm (f : Nvs → Nvs) : (b.onNvs f).thm = b.thm := rfl
@[simp] theorem Blk.onNvs_stps (f : Nvs → Nvs) : (b.onNvs f).stps = b.stps := rfl
@[simp] theorem Blk.onNvs_axes (f : Nvs → Nvs) : (b.onNvs f).axes = b.axes := rfl
@[simp] theorem Blk.onNvs_ports (f : Nvs → Nvs) : (b.onNvs f).ports = b.ports := rfl
@[simp] theorem Blk.onNvs_afe (f : Nvs → Nvs) : (b.onNvs f).afe = b.afe := rfl
@[simp] theorem Blk.onNvs_le (f : Nvs → Nvs) : (b.onNvs f).le = b.le := rfl
@[simp] theorem Blk.onNvs_tuns (f : Nvs → Nvs) : (b.onNvs f).tuns = b.tuns := rfl
@[simp] theorem Blk.onNvs_shr (f : Nvs → Nvs) : (b.onNvs f).shr = b.shr := rfl
@[simp] theorem Blk.onNvs_hasp (f : Nvs → Nvs) : (b.onNvs f).hasp = b.hasp := rfl
@[simp] theorem Blk.onNvs_sll (f : Nvs → Nvs) : (b.onNvs f).sll = b.sll := rfl
@[simp] theorem Blk.onNvs_ward (f : Nvs → Nvs) : (b.onNvs f).ward = b.ward := rfl
@[simp] theorem Blk.onNvs_mir (f : Nvs → Nvs) : (b.onNvs f).mir = b.mir := rfl
@[simp] theorem Blk.onNvs_cans (f : Nvs → Nvs) : (b.onNvs f).cans = b.cans := rfl
@[simp] theorem Blk.onNvs_lode (f : Nvs → Nvs) : (b.onNvs f).lode = b.lode := rfl
@[simp] theorem Blk.onNvs_clk (f : Nvs → Nvs) : (b.onNvs f).clk = b.clk := rfl
@[simp] theorem Blk.onNvs_pwr (f : Nvs → Nvs) : (b.onNvs f).pwr = b.pwr := rfl
@[simp] theorem Blk.onNvs_nvs (f : Nvs → Nvs) : (b.onNvs f).nvs = f b.nvs := rfl
@[simp] theorem Blk.onNvs_freeCtr (f : Nvs → Nvs) : (b.onNvs f).freeCtr = b.freeCtr := rfl
@[simp] theorem Blk.onNvs_word (f : Nvs → Nvs) (a : Nat) : (b.onNvs f).word a = b.word a := rfl
@[simp] theorem Blk.onNvs_rd (f : Nvs → Nvs) (g : Fld) : (b.onNvs f).rd g = b.rd g := rfl
@[simp] theorem Blk.onNvs_on (f : Nvs → Nvs) (g : Fld) : (b.onNvs f).on g = b.on g := rfl

@[simp] theorem Blk.onClk_regs (f : Clk → Clk) : (b.onClk f).regs = b.regs := rfl
@[simp] theorem Blk.onClk_latch (f : Clk → Clk) : (b.onClk f).latch = b.latch := rfl
@[simp] theorem Blk.onClk_tick (f : Clk → Clk) : (b.onClk f).tick = b.tick := rfl
@[simp] theorem Blk.onClk_evs (f : Clk → Clk) : (b.onClk f).evs = b.evs := rfl
@[simp] theorem Blk.onClk_out (f : Clk → Clk) : (b.onClk f).out = b.out := rfl
@[simp] theorem Blk.onClk_host (f : Clk → Clk) : (b.onClk f).host = b.host := rfl
@[simp] theorem Blk.onClk_txns (f : Clk → Clk) : (b.onClk f).txns = b.txns := rfl
@[simp] theorem Blk.onClk_drvs (f : Clk → Clk) : (b.onClk f).drvs = b.drvs := rfl
@[simp] theorem Blk.onClk_seqs (f : Clk → Clk) : (b.onClk f).seqs = b.seqs := rfl
@[simp] theorem Blk.onClk_dcl (f : Clk → Clk) : (b.onClk f).dcl = b.dcl := rfl
@[simp] theorem Blk.onClk_thm (f : Clk → Clk) : (b.onClk f).thm = b.thm := rfl
@[simp] theorem Blk.onClk_stps (f : Clk → Clk) : (b.onClk f).stps = b.stps := rfl
@[simp] theorem Blk.onClk_axes (f : Clk → Clk) : (b.onClk f).axes = b.axes := rfl
@[simp] theorem Blk.onClk_ports (f : Clk → Clk) : (b.onClk f).ports = b.ports := rfl
@[simp] theorem Blk.onClk_afe (f : Clk → Clk) : (b.onClk f).afe = b.afe := rfl
@[simp] theorem Blk.onClk_le (f : Clk → Clk) : (b.onClk f).le = b.le := rfl
@[simp] theorem Blk.onClk_tuns (f : Clk → Clk) : (b.onClk f).tuns = b.tuns := rfl
@[simp] theorem Blk.onClk_shr (f : Clk → Clk) : (b.onClk f).shr = b.shr := rfl
@[simp] theorem Blk.onClk_hasp (f : Clk → Clk) : (b.onClk f).hasp = b.hasp := rfl
@[simp] theorem Blk.onClk_sll (f : Clk → Clk) : (b.onClk f).sll = b.sll := rfl
@[simp] theorem Blk.onClk_ward (f : Clk → Clk) : (b.onClk f).ward = b.ward := rfl
@[simp] theorem Blk.onClk_mir (f : Clk → Clk) : (b.onClk f).mir = b.mir := rfl
@[simp] theorem Blk.onClk_cans (f : Clk → Clk) : (b.onClk f).cans = b.cans := rfl
@[simp] theorem Blk.onClk_lode (f : Clk → Clk) : (b.onClk f).lode = b.lode := rfl
@[simp] theorem Blk.onClk_clk (f : Clk → Clk) : (b.onClk f).clk = f b.clk := rfl
@[simp] theorem Blk.onClk_pwr (f : Clk → Clk) : (b.onClk f).pwr = b.pwr := rfl
@[simp] theorem Blk.onClk_nvs (f : Clk → Clk) : (b.onClk f).nvs = b.nvs := rfl
@[simp] theorem Blk.onClk_freeCtr (f : Clk → Clk) : (b.onClk f).freeCtr = b.freeCtr := rfl
@[simp] theorem Blk.onClk_word (f : Clk → Clk) (a : Nat) : (b.onClk f).word a = b.word a := rfl
@[simp] theorem Blk.onClk_rd (f : Clk → Clk) (g : Fld) : (b.onClk f).rd g = b.rd g := rfl
@[simp] theorem Blk.onClk_on (f : Clk → Clk) (g : Fld) : (b.onClk f).on g = b.on g := rfl

@[simp] theorem Blk.onPwr_regs (f : Pwr → Pwr) : (b.onPwr f).regs = b.regs := rfl
@[simp] theorem Blk.onPwr_latch (f : Pwr → Pwr) : (b.onPwr f).latch = b.latch := rfl
@[simp] theorem Blk.onPwr_tick (f : Pwr → Pwr) : (b.onPwr f).tick = b.tick := rfl
@[simp] theorem Blk.onPwr_evs (f : Pwr → Pwr) : (b.onPwr f).evs = b.evs := rfl
@[simp] theorem Blk.onPwr_out (f : Pwr → Pwr) : (b.onPwr f).out = b.out := rfl
@[simp] theorem Blk.onPwr_host (f : Pwr → Pwr) : (b.onPwr f).host = b.host := rfl
@[simp] theorem Blk.onPwr_txns (f : Pwr → Pwr) : (b.onPwr f).txns = b.txns := rfl
@[simp] theorem Blk.onPwr_drvs (f : Pwr → Pwr) : (b.onPwr f).drvs = b.drvs := rfl
@[simp] theorem Blk.onPwr_seqs (f : Pwr → Pwr) : (b.onPwr f).seqs = b.seqs := rfl
@[simp] theorem Blk.onPwr_dcl (f : Pwr → Pwr) : (b.onPwr f).dcl = b.dcl := rfl
@[simp] theorem Blk.onPwr_thm (f : Pwr → Pwr) : (b.onPwr f).thm = b.thm := rfl
@[simp] theorem Blk.onPwr_stps (f : Pwr → Pwr) : (b.onPwr f).stps = b.stps := rfl
@[simp] theorem Blk.onPwr_axes (f : Pwr → Pwr) : (b.onPwr f).axes = b.axes := rfl
@[simp] theorem Blk.onPwr_ports (f : Pwr → Pwr) : (b.onPwr f).ports = b.ports := rfl
@[simp] theorem Blk.onPwr_afe (f : Pwr → Pwr) : (b.onPwr f).afe = b.afe := rfl
@[simp] theorem Blk.onPwr_le (f : Pwr → Pwr) : (b.onPwr f).le = b.le := rfl
@[simp] theorem Blk.onPwr_tuns (f : Pwr → Pwr) : (b.onPwr f).tuns = b.tuns := rfl
@[simp] theorem Blk.onPwr_shr (f : Pwr → Pwr) : (b.onPwr f).shr = b.shr := rfl
@[simp] theorem Blk.onPwr_hasp (f : Pwr → Pwr) : (b.onPwr f).hasp = b.hasp := rfl
@[simp] theorem Blk.onPwr_sll (f : Pwr → Pwr) : (b.onPwr f).sll = b.sll := rfl
@[simp] theorem Blk.onPwr_ward (f : Pwr → Pwr) : (b.onPwr f).ward = b.ward := rfl
@[simp] theorem Blk.onPwr_mir (f : Pwr → Pwr) : (b.onPwr f).mir = b.mir := rfl
@[simp] theorem Blk.onPwr_cans (f : Pwr → Pwr) : (b.onPwr f).cans = b.cans := rfl
@[simp] theorem Blk.onPwr_lode (f : Pwr → Pwr) : (b.onPwr f).lode = b.lode := rfl
@[simp] theorem Blk.onPwr_clk (f : Pwr → Pwr) : (b.onPwr f).clk = b.clk := rfl
@[simp] theorem Blk.onPwr_pwr (f : Pwr → Pwr) : (b.onPwr f).pwr = f b.pwr := rfl
@[simp] theorem Blk.onPwr_nvs (f : Pwr → Pwr) : (b.onPwr f).nvs = b.nvs := rfl
@[simp] theorem Blk.onPwr_freeCtr (f : Pwr → Pwr) : (b.onPwr f).freeCtr = b.freeCtr := rfl
@[simp] theorem Blk.onPwr_word (f : Pwr → Pwr) (a : Nat) : (b.onPwr f).word a = b.word a := rfl
@[simp] theorem Blk.onPwr_rd (f : Pwr → Pwr) (g : Fld) : (b.onPwr f).rd g = b.rd g := rfl
@[simp] theorem Blk.onPwr_on (f : Pwr → Pwr) (g : Fld) : (b.onPwr f).on g = b.on g := rfl

@[simp] theorem Blk.onTick_regs (f : Tick → Tick) : (b.onTick f).regs = b.regs := rfl
@[simp] theorem Blk.onTick_latch (f : Tick → Tick) : (b.onTick f).latch = b.latch := rfl
@[simp] theorem Blk.onTick_tick (f : Tick → Tick) : (b.onTick f).tick = f b.tick := rfl
@[simp] theorem Blk.onTick_evs (f : Tick → Tick) : (b.onTick f).evs = b.evs := rfl
@[simp] theorem Blk.onTick_out (f : Tick → Tick) : (b.onTick f).out = b.out := rfl
@[simp] theorem Blk.onTick_host (f : Tick → Tick) : (b.onTick f).host = b.host := rfl
@[simp] theorem Blk.onTick_txns (f : Tick → Tick) : (b.onTick f).txns = b.txns := rfl
@[simp] theorem Blk.onTick_drvs (f : Tick → Tick) : (b.onTick f).drvs = b.drvs := rfl
@[simp] theorem Blk.onTick_seqs (f : Tick → Tick) : (b.onTick f).seqs = b.seqs := rfl
@[simp] theorem Blk.onTick_dcl (f : Tick → Tick) : (b.onTick f).dcl = b.dcl := rfl
@[simp] theorem Blk.onTick_thm (f : Tick → Tick) : (b.onTick f).thm = b.thm := rfl
@[simp] theorem Blk.onTick_stps (f : Tick → Tick) : (b.onTick f).stps = b.stps := rfl
@[simp] theorem Blk.onTick_axes (f : Tick → Tick) : (b.onTick f).axes = b.axes := rfl
@[simp] theorem Blk.onTick_ports (f : Tick → Tick) : (b.onTick f).ports = b.ports := rfl
@[simp] theorem Blk.onTick_afe (f : Tick → Tick) : (b.onTick f).afe = b.afe := rfl
@[simp] theorem Blk.onTick_le (f : Tick → Tick) : (b.onTick f).le = b.le := rfl
@[simp] theorem Blk.onTick_tuns (f : Tick → Tick) : (b.onTick f).tuns = b.tuns := rfl
@[simp] theorem Blk.onTick_shr (f : Tick → Tick) : (b.onTick f).shr = b.shr := rfl
@[simp] theorem Blk.onTick_hasp (f : Tick → Tick) : (b.onTick f).hasp = b.hasp := rfl
@[simp] theorem Blk.onTick_sll (f : Tick → Tick) : (b.onTick f).sll = b.sll := rfl
@[simp] theorem Blk.onTick_ward (f : Tick → Tick) : (b.onTick f).ward = b.ward := rfl
@[simp] theorem Blk.onTick_mir (f : Tick → Tick) : (b.onTick f).mir = b.mir := rfl
@[simp] theorem Blk.onTick_cans (f : Tick → Tick) : (b.onTick f).cans = b.cans := rfl
@[simp] theorem Blk.onTick_lode (f : Tick → Tick) : (b.onTick f).lode = b.lode := rfl
@[simp] theorem Blk.onTick_clk (f : Tick → Tick) : (b.onTick f).clk = b.clk := rfl
@[simp] theorem Blk.onTick_pwr (f : Tick → Tick) : (b.onTick f).pwr = b.pwr := rfl
@[simp] theorem Blk.onTick_nvs (f : Tick → Tick) : (b.onTick f).nvs = b.nvs := rfl
@[simp] theorem Blk.onTick_freeCtr (f : Tick → Tick) : (b.onTick f).freeCtr = b.freeCtr := rfl
@[simp] theorem Blk.onTick_word (f : Tick → Tick) (a : Nat) : (b.onTick f).word a = b.word a := rfl
@[simp] theorem Blk.onTick_rd (f : Tick → Tick) (g : Fld) : (b.onTick f).rd g = b.rd g := rfl
@[simp] theorem Blk.onTick_on (f : Tick → Tick) (g : Fld) : (b.onTick f).on g = b.on g := rfl

@[simp] theorem Blk.onCan_regs (n : Nat) (f : Can → Can) : (b.onCan n f).regs = b.regs := rfl
@[simp] theorem Blk.onCan_latch (n : Nat) (f : Can → Can) : (b.onCan n f).latch = b.latch := rfl
@[simp] theorem Blk.onCan_tick (n : Nat) (f : Can → Can) : (b.onCan n f).tick = b.tick := rfl
@[simp] theorem Blk.onCan_evs (n : Nat) (f : Can → Can) : (b.onCan n f).evs = b.evs := rfl
@[simp] theorem Blk.onCan_out (n : Nat) (f : Can → Can) : (b.onCan n f).out = b.out := rfl
@[simp] theorem Blk.onCan_host (n : Nat) (f : Can → Can) : (b.onCan n f).host = b.host := rfl
@[simp] theorem Blk.onCan_txns (n : Nat) (f : Can → Can) : (b.onCan n f).txns = b.txns := rfl
@[simp] theorem Blk.onCan_drvs (n : Nat) (f : Can → Can) : (b.onCan n f).drvs = b.drvs := rfl
@[simp] theorem Blk.onCan_seqs (n : Nat) (f : Can → Can) : (b.onCan n f).seqs = b.seqs := rfl
@[simp] theorem Blk.onCan_dcl (n : Nat) (f : Can → Can) : (b.onCan n f).dcl = b.dcl := rfl
@[simp] theorem Blk.onCan_thm (n : Nat) (f : Can → Can) : (b.onCan n f).thm = b.thm := rfl
@[simp] theorem Blk.onCan_stps (n : Nat) (f : Can → Can) : (b.onCan n f).stps = b.stps := rfl
@[simp] theorem Blk.onCan_axes (n : Nat) (f : Can → Can) : (b.onCan n f).axes = b.axes := rfl
@[simp] theorem Blk.onCan_ports (n : Nat) (f : Can → Can) : (b.onCan n f).ports = b.ports := rfl
@[simp] theorem Blk.onCan_afe (n : Nat) (f : Can → Can) : (b.onCan n f).afe = b.afe := rfl
@[simp] theorem Blk.onCan_le (n : Nat) (f : Can → Can) : (b.onCan n f).le = b.le := rfl
@[simp] theorem Blk.onCan_tuns (n : Nat) (f : Can → Can) : (b.onCan n f).tuns = b.tuns := rfl
@[simp] theorem Blk.onCan_shr (n : Nat) (f : Can → Can) : (b.onCan n f).shr = b.shr := rfl
@[simp] theorem Blk.onCan_hasp (n : Nat) (f : Can → Can) : (b.onCan n f).hasp = b.hasp := rfl
@[simp] theorem Blk.onCan_sll (n : Nat) (f : Can → Can) : (b.onCan n f).sll = b.sll := rfl
@[simp] theorem Blk.onCan_ward (n : Nat) (f : Can → Can) : (b.onCan n f).ward = b.ward := rfl
@[simp] theorem Blk.onCan_mir (n : Nat) (f : Can → Can) : (b.onCan n f).mir = b.mir := rfl
@[simp] theorem Blk.onCan_cans (n : Nat) (f : Can → Can) : (b.onCan n f).cans = b.cans.modify n f := rfl
@[simp] theorem Blk.onCan_lode (n : Nat) (f : Can → Can) : (b.onCan n f).lode = b.lode := rfl
@[simp] theorem Blk.onCan_clk (n : Nat) (f : Can → Can) : (b.onCan n f).clk = b.clk := rfl
@[simp] theorem Blk.onCan_pwr (n : Nat) (f : Can → Can) : (b.onCan n f).pwr = b.pwr := rfl
@[simp] theorem Blk.onCan_nvs (n : Nat) (f : Can → Can) : (b.onCan n f).nvs = b.nvs := rfl
@[simp] theorem Blk.onCan_freeCtr (n : Nat) (f : Can → Can) : (b.onCan n f).freeCtr = b.freeCtr := rfl
@[simp] theorem Blk.onCan_word (n : Nat) (f : Can → Can) (a : Nat) : (b.onCan n f).word a = b.word a := rfl
@[simp] theorem Blk.onCan_rd (n : Nat) (f : Can → Can) (g : Fld) : (b.onCan n f).rd g = b.rd g := rfl
@[simp] theorem Blk.onCan_on (n : Nat) (f : Can → Can) (g : Fld) : (b.onCan n f).on g = b.on g := rfl

@[simp] theorem Blk.onTxn_regs (n : Nat) (f : Txn → Txn) : (b.onTxn n f).regs = b.regs := rfl
@[simp] theorem Blk.onTxn_latch (n : Nat) (f : Txn → Txn) : (b.onTxn n f).latch = b.latch := rfl
@[simp] theorem Blk.onTxn_tick (n : Nat) (f : Txn → Txn) : (b.onTxn n f).tick = b.tick := rfl
@[simp] theorem Blk.onTxn_evs (n : Nat) (f : Txn → Txn) : (b.onTxn n f).evs = b.evs := rfl
@[simp] theorem Blk.onTxn_out (n : Nat) (f : Txn → Txn) : (b.onTxn n f).out = b.out := rfl
@[simp] theorem Blk.onTxn_host (n : Nat) (f : Txn → Txn) : (b.onTxn n f).host = b.host := rfl
@[simp] theorem Blk.onTxn_txns (n : Nat) (f : Txn → Txn) : (b.onTxn n f).txns = { b.txns with open_ := b.txns.open_.modify n f } := rfl
@[simp] theorem Blk.onTxn_drvs (n : Nat) (f : Txn → Txn) : (b.onTxn n f).drvs = b.drvs := rfl
@[simp] theorem Blk.onTxn_seqs (n : Nat) (f : Txn → Txn) : (b.onTxn n f).seqs = b.seqs := rfl
@[simp] theorem Blk.onTxn_dcl (n : Nat) (f : Txn → Txn) : (b.onTxn n f).dcl = b.dcl := rfl
@[simp] theorem Blk.onTxn_thm (n : Nat) (f : Txn → Txn) : (b.onTxn n f).thm = b.thm := rfl
@[simp] theorem Blk.onTxn_stps (n : Nat) (f : Txn → Txn) : (b.onTxn n f).stps = b.stps := rfl
@[simp] theorem Blk.onTxn_axes (n : Nat) (f : Txn → Txn) : (b.onTxn n f).axes = b.axes := rfl
@[simp] theorem Blk.onTxn_ports (n : Nat) (f : Txn → Txn) : (b.onTxn n f).ports = b.ports := rfl
@[simp] theorem Blk.onTxn_afe (n : Nat) (f : Txn → Txn) : (b.onTxn n f).afe = b.afe := rfl
@[simp] theorem Blk.onTxn_le (n : Nat) (f : Txn → Txn) : (b.onTxn n f).le = b.le := rfl
@[simp] theorem Blk.onTxn_tuns (n : Nat) (f : Txn → Txn) : (b.onTxn n f).tuns = b.tuns := rfl
@[simp] theorem Blk.onTxn_shr (n : Nat) (f : Txn → Txn) : (b.onTxn n f).shr = b.shr := rfl
@[simp] theorem Blk.onTxn_hasp (n : Nat) (f : Txn → Txn) : (b.onTxn n f).hasp = b.hasp := rfl
@[simp] theorem Blk.onTxn_sll (n : Nat) (f : Txn → Txn) : (b.onTxn n f).sll = b.sll := rfl
@[simp] theorem Blk.onTxn_ward (n : Nat) (f : Txn → Txn) : (b.onTxn n f).ward = b.ward := rfl
@[simp] theorem Blk.onTxn_mir (n : Nat) (f : Txn → Txn) : (b.onTxn n f).mir = b.mir := rfl
@[simp] theorem Blk.onTxn_cans (n : Nat) (f : Txn → Txn) : (b.onTxn n f).cans = b.cans := rfl
@[simp] theorem Blk.onTxn_lode (n : Nat) (f : Txn → Txn) : (b.onTxn n f).lode = b.lode := rfl
@[simp] theorem Blk.onTxn_clk (n : Nat) (f : Txn → Txn) : (b.onTxn n f).clk = b.clk := rfl
@[simp] theorem Blk.onTxn_pwr (n : Nat) (f : Txn → Txn) : (b.onTxn n f).pwr = b.pwr := rfl
@[simp] theorem Blk.onTxn_nvs (n : Nat) (f : Txn → Txn) : (b.onTxn n f).nvs = b.nvs := rfl
@[simp] theorem Blk.onTxn_freeCtr (n : Nat) (f : Txn → Txn) : (b.onTxn n f).freeCtr = b.freeCtr := rfl
@[simp] theorem Blk.onTxn_word (n : Nat) (f : Txn → Txn) (a : Nat) : (b.onTxn n f).word a = b.word a := rfl
@[simp] theorem Blk.onTxn_rd (n : Nat) (f : Txn → Txn) (g : Fld) : (b.onTxn n f).rd g = b.rd g := rfl
@[simp] theorem Blk.onTxn_on (n : Nat) (f : Txn → Txn) (g : Fld) : (b.onTxn n f).on g = b.on g := rfl

@[simp] theorem Blk.send_regs (o : Output) : (b.send o).regs = b.regs := rfl
@[simp] theorem Blk.send_latch (o : Output) : (b.send o).latch = b.latch := rfl
@[simp] theorem Blk.send_tick (o : Output) : (b.send o).tick = b.tick := rfl
@[simp] theorem Blk.send_evs (o : Output) : (b.send o).evs = b.evs := rfl
@[simp] theorem Blk.send_out (o : Output) : (b.send o).out = o :: b.out := rfl
@[simp] theorem Blk.send_host (o : Output) : (b.send o).host = b.host := rfl
@[simp] theorem Blk.send_txns (o : Output) : (b.send o).txns = b.txns := rfl
@[simp] theorem Blk.send_drvs (o : Output) : (b.send o).drvs = b.drvs := rfl
@[simp] theorem Blk.send_seqs (o : Output) : (b.send o).seqs = b.seqs := rfl
@[simp] theorem Blk.send_dcl (o : Output) : (b.send o).dcl = b.dcl := rfl
@[simp] theorem Blk.send_thm (o : Output) : (b.send o).thm = b.thm := rfl
@[simp] theorem Blk.send_stps (o : Output) : (b.send o).stps = b.stps := rfl
@[simp] theorem Blk.send_axes (o : Output) : (b.send o).axes = b.axes := rfl
@[simp] theorem Blk.send_ports (o : Output) : (b.send o).ports = b.ports := rfl
@[simp] theorem Blk.send_afe (o : Output) : (b.send o).afe = b.afe := rfl
@[simp] theorem Blk.send_le (o : Output) : (b.send o).le = b.le := rfl
@[simp] theorem Blk.send_tuns (o : Output) : (b.send o).tuns = b.tuns := rfl
@[simp] theorem Blk.send_shr (o : Output) : (b.send o).shr = b.shr := rfl
@[simp] theorem Blk.send_hasp (o : Output) : (b.send o).hasp = b.hasp := rfl
@[simp] theorem Blk.send_sll (o : Output) : (b.send o).sll = b.sll := rfl
@[simp] theorem Blk.send_ward (o : Output) : (b.send o).ward = b.ward := rfl
@[simp] theorem Blk.send_mir (o : Output) : (b.send o).mir = b.mir := rfl
@[simp] theorem Blk.send_cans (o : Output) : (b.send o).cans = b.cans := rfl
@[simp] theorem Blk.send_lode (o : Output) : (b.send o).lode = b.lode := rfl
@[simp] theorem Blk.send_clk (o : Output) : (b.send o).clk = b.clk := rfl
@[simp] theorem Blk.send_pwr (o : Output) : (b.send o).pwr = b.pwr := rfl
@[simp] theorem Blk.send_nvs (o : Output) : (b.send o).nvs = b.nvs := rfl
@[simp] theorem Blk.send_freeCtr (o : Output) : (b.send o).freeCtr = b.freeCtr := rfl
@[simp] theorem Blk.send_word (o : Output) (a : Nat) : (b.send o).word a = b.word a := rfl
@[simp] theorem Blk.send_rd (o : Output) (g : Fld) : (b.send o).rd g = b.rd g := rfl
@[simp] theorem Blk.send_on (o : Output) (g : Fld) : (b.send o).on g = b.on g := rfl

@[simp] theorem Blk.setWord_regs (a : Nat) (w : Word) : (b.setWord a w).regs = regSet b.regs a w := rfl
@[simp] theorem Blk.setWord_latch (a : Nat) (w : Word) : (b.setWord a w).latch = b.latch := rfl
@[simp] theorem Blk.setWord_tick (a : Nat) (w : Word) : (b.setWord a w).tick = b.tick := rfl
@[simp] theorem Blk.setWord_evs (a : Nat) (w : Word) : (b.setWord a w).evs = b.evs := rfl
@[simp] theorem Blk.setWord_out (a : Nat) (w : Word) : (b.setWord a w).out = b.out := rfl
@[simp] theorem Blk.setWord_host (a : Nat) (w : Word) : (b.setWord a w).host = b.host := rfl
@[simp] theorem Blk.setWord_txns (a : Nat) (w : Word) : (b.setWord a w).txns = b.txns := rfl
@[simp] theorem Blk.setWord_drvs (a : Nat) (w : Word) : (b.setWord a w).drvs = b.drvs := rfl
@[simp] theorem Blk.setWord_seqs (a : Nat) (w : Word) : (b.setWord a w).seqs = b.seqs := rfl
@[simp] theorem Blk.setWord_dcl (a : Nat) (w : Word) : (b.setWord a w).dcl = b.dcl := rfl
@[simp] theorem Blk.setWord_thm (a : Nat) (w : Word) : (b.setWord a w).thm = b.thm := rfl
@[simp] theorem Blk.setWord_stps (a : Nat) (w : Word) : (b.setWord a w).stps = b.stps := rfl
@[simp] theorem Blk.setWord_axes (a : Nat) (w : Word) : (b.setWord a w).axes = b.axes := rfl
@[simp] theorem Blk.setWord_ports (a : Nat) (w : Word) : (b.setWord a w).ports = b.ports := rfl
@[simp] theorem Blk.setWord_afe (a : Nat) (w : Word) : (b.setWord a w).afe = b.afe := rfl
@[simp] theorem Blk.setWord_le (a : Nat) (w : Word) : (b.setWord a w).le = b.le := rfl
@[simp] theorem Blk.setWord_tuns (a : Nat) (w : Word) : (b.setWord a w).tuns = b.tuns := rfl
@[simp] theorem Blk.setWord_shr (a : Nat) (w : Word) : (b.setWord a w).shr = b.shr := rfl
@[simp] theorem Blk.setWord_hasp (a : Nat) (w : Word) : (b.setWord a w).hasp = b.hasp := rfl
@[simp] theorem Blk.setWord_sll (a : Nat) (w : Word) : (b.setWord a w).sll = b.sll := rfl
@[simp] theorem Blk.setWord_ward (a : Nat) (w : Word) : (b.setWord a w).ward = b.ward := rfl
@[simp] theorem Blk.setWord_mir (a : Nat) (w : Word) : (b.setWord a w).mir = b.mir := rfl
@[simp] theorem Blk.setWord_cans (a : Nat) (w : Word) : (b.setWord a w).cans = b.cans := rfl
@[simp] theorem Blk.setWord_lode (a : Nat) (w : Word) : (b.setWord a w).lode = b.lode := rfl
@[simp] theorem Blk.setWord_clk (a : Nat) (w : Word) : (b.setWord a w).clk = b.clk := rfl
@[simp] theorem Blk.setWord_pwr (a : Nat) (w : Word) : (b.setWord a w).pwr = b.pwr := rfl
@[simp] theorem Blk.setWord_nvs (a : Nat) (w : Word) : (b.setWord a w).nvs = b.nvs := rfl
@[simp] theorem Blk.setWord_freeCtr (a : Nat) (w : Word) : (b.setWord a w).freeCtr = b.freeCtr := rfl

@[simp] theorem Blk.wr_latch (g : Fld) (v : Nat) : (b.wr g v).latch = b.latch := rfl
@[simp] theorem Blk.wr_tick (g : Fld) (v : Nat) : (b.wr g v).tick = b.tick := rfl
@[simp] theorem Blk.wr_evs (g : Fld) (v : Nat) : (b.wr g v).evs = b.evs := rfl
@[simp] theorem Blk.wr_out (g : Fld) (v : Nat) : (b.wr g v).out = b.out := rfl
@[simp] theorem Blk.wr_host (g : Fld) (v : Nat) : (b.wr g v).host = b.host := rfl
@[simp] theorem Blk.wr_txns (g : Fld) (v : Nat) : (b.wr g v).txns = b.txns := rfl
@[simp] theorem Blk.wr_drvs (g : Fld) (v : Nat) : (b.wr g v).drvs = b.drvs := rfl
@[simp] theorem Blk.wr_seqs (g : Fld) (v : Nat) : (b.wr g v).seqs = b.seqs := rfl
@[simp] theorem Blk.wr_dcl (g : Fld) (v : Nat) : (b.wr g v).dcl = b.dcl := rfl
@[simp] theorem Blk.wr_thm (g : Fld) (v : Nat) : (b.wr g v).thm = b.thm := rfl
@[simp] theorem Blk.wr_stps (g : Fld) (v : Nat) : (b.wr g v).stps = b.stps := rfl
@[simp] theorem Blk.wr_axes (g : Fld) (v : Nat) : (b.wr g v).axes = b.axes := rfl
@[simp] theorem Blk.wr_ports (g : Fld) (v : Nat) : (b.wr g v).ports = b.ports := rfl
@[simp] theorem Blk.wr_afe (g : Fld) (v : Nat) : (b.wr g v).afe = b.afe := rfl
@[simp] theorem Blk.wr_le (g : Fld) (v : Nat) : (b.wr g v).le = b.le := rfl
@[simp] theorem Blk.wr_tuns (g : Fld) (v : Nat) : (b.wr g v).tuns = b.tuns := rfl
@[simp] theorem Blk.wr_shr (g : Fld) (v : Nat) : (b.wr g v).shr = b.shr := rfl
@[simp] theorem Blk.wr_hasp (g : Fld) (v : Nat) : (b.wr g v).hasp = b.hasp := rfl
@[simp] theorem Blk.wr_sll (g : Fld) (v : Nat) : (b.wr g v).sll = b.sll := rfl
@[simp] theorem Blk.wr_ward (g : Fld) (v : Nat) : (b.wr g v).ward = b.ward := rfl
@[simp] theorem Blk.wr_mir (g : Fld) (v : Nat) : (b.wr g v).mir = b.mir := rfl
@[simp] theorem Blk.wr_cans (g : Fld) (v : Nat) : (b.wr g v).cans = b.cans := rfl
@[simp] theorem Blk.wr_lode (g : Fld) (v : Nat) : (b.wr g v).lode = b.lode := rfl
@[simp] theorem Blk.wr_clk (g : Fld) (v : Nat) : (b.wr g v).clk = b.clk := rfl
@[simp] theorem Blk.wr_pwr (g : Fld) (v : Nat) : (b.wr g v).pwr = b.pwr := rfl
@[simp] theorem Blk.wr_nvs (g : Fld) (v : Nat) : (b.wr g v).nvs = b.nvs := rfl
@[simp] theorem Blk.wr_freeCtr (g : Fld) (v : Nat) : (b.wr g v).freeCtr = b.freeCtr := rfl

@[simp] theorem Blk.flag_latch (g : Fld) (v : Bool) : (b.flag g v).latch = b.latch := rfl
@[simp] theorem Blk.flag_tick (g : Fld) (v : Bool) : (b.flag g v).tick = b.tick := rfl
@[simp] theorem Blk.flag_evs (g : Fld) (v : Bool) : (b.flag g v).evs = b.evs := rfl
@[simp] theorem Blk.flag_out (g : Fld) (v : Bool) : (b.flag g v).out = b.out := rfl
@[simp] theorem Blk.flag_host (g : Fld) (v : Bool) : (b.flag g v).host = b.host := rfl
@[simp] theorem Blk.flag_txns (g : Fld) (v : Bool) : (b.flag g v).txns = b.txns := rfl
@[simp] theorem Blk.flag_drvs (g : Fld) (v : Bool) : (b.flag g v).drvs = b.drvs := rfl
@[simp] theorem Blk.flag_seqs (g : Fld) (v : Bool) : (b.flag g v).seqs = b.seqs := rfl
@[simp] theorem Blk.flag_dcl (g : Fld) (v : Bool) : (b.flag g v).dcl = b.dcl := rfl
@[simp] theorem Blk.flag_thm (g : Fld) (v : Bool) : (b.flag g v).thm = b.thm := rfl
@[simp] theorem Blk.flag_stps (g : Fld) (v : Bool) : (b.flag g v).stps = b.stps := rfl
@[simp] theorem Blk.flag_axes (g : Fld) (v : Bool) : (b.flag g v).axes = b.axes := rfl
@[simp] theorem Blk.flag_ports (g : Fld) (v : Bool) : (b.flag g v).ports = b.ports := rfl
@[simp] theorem Blk.flag_afe (g : Fld) (v : Bool) : (b.flag g v).afe = b.afe := rfl
@[simp] theorem Blk.flag_le (g : Fld) (v : Bool) : (b.flag g v).le = b.le := rfl
@[simp] theorem Blk.flag_tuns (g : Fld) (v : Bool) : (b.flag g v).tuns = b.tuns := rfl
@[simp] theorem Blk.flag_shr (g : Fld) (v : Bool) : (b.flag g v).shr = b.shr := rfl
@[simp] theorem Blk.flag_hasp (g : Fld) (v : Bool) : (b.flag g v).hasp = b.hasp := rfl
@[simp] theorem Blk.flag_sll (g : Fld) (v : Bool) : (b.flag g v).sll = b.sll := rfl
@[simp] theorem Blk.flag_ward (g : Fld) (v : Bool) : (b.flag g v).ward = b.ward := rfl
@[simp] theorem Blk.flag_mir (g : Fld) (v : Bool) : (b.flag g v).mir = b.mir := rfl
@[simp] theorem Blk.flag_cans (g : Fld) (v : Bool) : (b.flag g v).cans = b.cans := rfl
@[simp] theorem Blk.flag_lode (g : Fld) (v : Bool) : (b.flag g v).lode = b.lode := rfl
@[simp] theorem Blk.flag_clk (g : Fld) (v : Bool) : (b.flag g v).clk = b.clk := rfl
@[simp] theorem Blk.flag_pwr (g : Fld) (v : Bool) : (b.flag g v).pwr = b.pwr := rfl
@[simp] theorem Blk.flag_nvs (g : Fld) (v : Bool) : (b.flag g v).nvs = b.nvs := rfl
@[simp] theorem Blk.flag_freeCtr (g : Fld) (v : Bool) : (b.flag g v).freeCtr = b.freeCtr := rfl

@[simp] theorem Blk.wrS_latch (g : Fld) (v : Int) : (b.wrS g v).latch = b.latch := rfl
@[simp] theorem Blk.wrS_tick (g : Fld) (v : Int) : (b.wrS g v).tick = b.tick := rfl
@[simp] theorem Blk.wrS_evs (g : Fld) (v : Int) : (b.wrS g v).evs = b.evs := rfl
@[simp] theorem Blk.wrS_out (g : Fld) (v : Int) : (b.wrS g v).out = b.out := rfl
@[simp] theorem Blk.wrS_host (g : Fld) (v : Int) : (b.wrS g v).host = b.host := rfl
@[simp] theorem Blk.wrS_txns (g : Fld) (v : Int) : (b.wrS g v).txns = b.txns := rfl
@[simp] theorem Blk.wrS_drvs (g : Fld) (v : Int) : (b.wrS g v).drvs = b.drvs := rfl
@[simp] theorem Blk.wrS_seqs (g : Fld) (v : Int) : (b.wrS g v).seqs = b.seqs := rfl
@[simp] theorem Blk.wrS_dcl (g : Fld) (v : Int) : (b.wrS g v).dcl = b.dcl := rfl
@[simp] theorem Blk.wrS_thm (g : Fld) (v : Int) : (b.wrS g v).thm = b.thm := rfl
@[simp] theorem Blk.wrS_stps (g : Fld) (v : Int) : (b.wrS g v).stps = b.stps := rfl
@[simp] theorem Blk.wrS_axes (g : Fld) (v : Int) : (b.wrS g v).axes = b.axes := rfl
@[simp] theorem Blk.wrS_ports (g : Fld) (v : Int) : (b.wrS g v).ports = b.ports := rfl
@[simp] theorem Blk.wrS_afe (g : Fld) (v : Int) : (b.wrS g v).afe = b.afe := rfl
@[simp] theorem Blk.wrS_le (g : Fld) (v : Int) : (b.wrS g v).le = b.le := rfl
@[simp] theorem Blk.wrS_tuns (g : Fld) (v : Int) : (b.wrS g v).tuns = b.tuns := rfl
@[simp] theorem Blk.wrS_shr (g : Fld) (v : Int) : (b.wrS g v).shr = b.shr := rfl
@[simp] theorem Blk.wrS_hasp (g : Fld) (v : Int) : (b.wrS g v).hasp = b.hasp := rfl
@[simp] theorem Blk.wrS_sll (g : Fld) (v : Int) : (b.wrS g v).sll = b.sll := rfl
@[simp] theorem Blk.wrS_ward (g : Fld) (v : Int) : (b.wrS g v).ward = b.ward := rfl
@[simp] theorem Blk.wrS_mir (g : Fld) (v : Int) : (b.wrS g v).mir = b.mir := rfl
@[simp] theorem Blk.wrS_cans (g : Fld) (v : Int) : (b.wrS g v).cans = b.cans := rfl
@[simp] theorem Blk.wrS_lode (g : Fld) (v : Int) : (b.wrS g v).lode = b.lode := rfl
@[simp] theorem Blk.wrS_clk (g : Fld) (v : Int) : (b.wrS g v).clk = b.clk := rfl
@[simp] theorem Blk.wrS_pwr (g : Fld) (v : Int) : (b.wrS g v).pwr = b.pwr := rfl
@[simp] theorem Blk.wrS_nvs (g : Fld) (v : Int) : (b.wrS g v).nvs = b.nvs := rfl
@[simp] theorem Blk.wrS_freeCtr (g : Fld) (v : Int) : (b.wrS g v).freeCtr = b.freeCtr := rfl

@[simp] theorem Blk.wrSat_latch (g : Fld) (v : Nat) : (b.wrSat g v).latch = b.latch := rfl
@[simp] theorem Blk.wrSat_tick (g : Fld) (v : Nat) : (b.wrSat g v).tick = b.tick := rfl
@[simp] theorem Blk.wrSat_evs (g : Fld) (v : Nat) : (b.wrSat g v).evs = b.evs := rfl
@[simp] theorem Blk.wrSat_out (g : Fld) (v : Nat) : (b.wrSat g v).out = b.out := rfl
@[simp] theorem Blk.wrSat_host (g : Fld) (v : Nat) : (b.wrSat g v).host = b.host := rfl
@[simp] theorem Blk.wrSat_txns (g : Fld) (v : Nat) : (b.wrSat g v).txns = b.txns := rfl
@[simp] theorem Blk.wrSat_drvs (g : Fld) (v : Nat) : (b.wrSat g v).drvs = b.drvs := rfl
@[simp] theorem Blk.wrSat_seqs (g : Fld) (v : Nat) : (b.wrSat g v).seqs = b.seqs := rfl
@[simp] theorem Blk.wrSat_dcl (g : Fld) (v : Nat) : (b.wrSat g v).dcl = b.dcl := rfl
@[simp] theorem Blk.wrSat_thm (g : Fld) (v : Nat) : (b.wrSat g v).thm = b.thm := rfl
@[simp] theorem Blk.wrSat_stps (g : Fld) (v : Nat) : (b.wrSat g v).stps = b.stps := rfl
@[simp] theorem Blk.wrSat_axes (g : Fld) (v : Nat) : (b.wrSat g v).axes = b.axes := rfl
@[simp] theorem Blk.wrSat_ports (g : Fld) (v : Nat) : (b.wrSat g v).ports = b.ports := rfl
@[simp] theorem Blk.wrSat_afe (g : Fld) (v : Nat) : (b.wrSat g v).afe = b.afe := rfl
@[simp] theorem Blk.wrSat_le (g : Fld) (v : Nat) : (b.wrSat g v).le = b.le := rfl
@[simp] theorem Blk.wrSat_tuns (g : Fld) (v : Nat) : (b.wrSat g v).tuns = b.tuns := rfl
@[simp] theorem Blk.wrSat_shr (g : Fld) (v : Nat) : (b.wrSat g v).shr = b.shr := rfl
@[simp] theorem Blk.wrSat_hasp (g : Fld) (v : Nat) : (b.wrSat g v).hasp = b.hasp := rfl
@[simp] theorem Blk.wrSat_sll (g : Fld) (v : Nat) : (b.wrSat g v).sll = b.sll := rfl
@[simp] theorem Blk.wrSat_ward (g : Fld) (v : Nat) : (b.wrSat g v).ward = b.ward := rfl
@[simp] theorem Blk.wrSat_mir (g : Fld) (v : Nat) : (b.wrSat g v).mir = b.mir := rfl
@[simp] theorem Blk.wrSat_cans (g : Fld) (v : Nat) : (b.wrSat g v).cans = b.cans := rfl
@[simp] theorem Blk.wrSat_lode (g : Fld) (v : Nat) : (b.wrSat g v).lode = b.lode := rfl
@[simp] theorem Blk.wrSat_clk (g : Fld) (v : Nat) : (b.wrSat g v).clk = b.clk := rfl
@[simp] theorem Blk.wrSat_pwr (g : Fld) (v : Nat) : (b.wrSat g v).pwr = b.pwr := rfl
@[simp] theorem Blk.wrSat_nvs (g : Fld) (v : Nat) : (b.wrSat g v).nvs = b.nvs := rfl
@[simp] theorem Blk.wrSat_freeCtr (g : Fld) (v : Nat) : (b.wrSat g v).freeCtr = b.freeCtr := rfl

@[simp] theorem Blk.inc_latch (g : Fld) : (b.inc g).latch = b.latch := rfl
@[simp] theorem Blk.inc_tick (g : Fld) : (b.inc g).tick = b.tick := rfl
@[simp] theorem Blk.inc_evs (g : Fld) : (b.inc g).evs = b.evs := rfl
@[simp] theorem Blk.inc_out (g : Fld) : (b.inc g).out = b.out := rfl
@[simp] theorem Blk.inc_host (g : Fld) : (b.inc g).host = b.host := rfl
@[simp] theorem Blk.inc_txns (g : Fld) : (b.inc g).txns = b.txns := rfl
@[simp] theorem Blk.inc_drvs (g : Fld) : (b.inc g).drvs = b.drvs := rfl
@[simp] theorem Blk.inc_seqs (g : Fld) : (b.inc g).seqs = b.seqs := rfl
@[simp] theorem Blk.inc_dcl (g : Fld) : (b.inc g).dcl = b.dcl := rfl
@[simp] theorem Blk.inc_thm (g : Fld) : (b.inc g).thm = b.thm := rfl
@[simp] theorem Blk.inc_stps (g : Fld) : (b.inc g).stps = b.stps := rfl
@[simp] theorem Blk.inc_axes (g : Fld) : (b.inc g).axes = b.axes := rfl
@[simp] theorem Blk.inc_ports (g : Fld) : (b.inc g).ports = b.ports := rfl
@[simp] theorem Blk.inc_afe (g : Fld) : (b.inc g).afe = b.afe := rfl
@[simp] theorem Blk.inc_le (g : Fld) : (b.inc g).le = b.le := rfl
@[simp] theorem Blk.inc_tuns (g : Fld) : (b.inc g).tuns = b.tuns := rfl
@[simp] theorem Blk.inc_shr (g : Fld) : (b.inc g).shr = b.shr := rfl
@[simp] theorem Blk.inc_hasp (g : Fld) : (b.inc g).hasp = b.hasp := rfl
@[simp] theorem Blk.inc_sll (g : Fld) : (b.inc g).sll = b.sll := rfl
@[simp] theorem Blk.inc_ward (g : Fld) : (b.inc g).ward = b.ward := rfl
@[simp] theorem Blk.inc_mir (g : Fld) : (b.inc g).mir = b.mir := rfl
@[simp] theorem Blk.inc_cans (g : Fld) : (b.inc g).cans = b.cans := rfl
@[simp] theorem Blk.inc_lode (g : Fld) : (b.inc g).lode = b.lode := rfl
@[simp] theorem Blk.inc_clk (g : Fld) : (b.inc g).clk = b.clk := rfl
@[simp] theorem Blk.inc_pwr (g : Fld) : (b.inc g).pwr = b.pwr := rfl
@[simp] theorem Blk.inc_nvs (g : Fld) : (b.inc g).nvs = b.nvs := rfl
@[simp] theorem Blk.inc_freeCtr (g : Fld) : (b.inc g).freeCtr = b.freeCtr := rfl

@[simp] theorem Blk.add_latch (g : Fld) (v : Nat) : (b.add g v).latch = b.latch := rfl
@[simp] theorem Blk.add_tick (g : Fld) (v : Nat) : (b.add g v).tick = b.tick := rfl
@[simp] theorem Blk.add_evs (g : Fld) (v : Nat) : (b.add g v).evs = b.evs := rfl
@[simp] theorem Blk.add_out (g : Fld) (v : Nat) : (b.add g v).out = b.out := rfl
@[simp] theorem Blk.add_host (g : Fld) (v : Nat) : (b.add g v).host = b.host := rfl
@[simp] theorem Blk.add_txns (g : Fld) (v : Nat) : (b.add g v).txns = b.txns := rfl
@[simp] theorem Blk.add_drvs (g : Fld) (v : Nat) : (b.add g v).drvs = b.drvs := rfl
@[simp] theorem Blk.add_seqs (g : Fld) (v : Nat) : (b.add g v).seqs = b.seqs := rfl
@[simp] theorem Blk.add_dcl (g : Fld) (v : Nat) : (b.add g v).dcl = b.dcl := rfl
@[simp] theorem Blk.add_thm (g : Fld) (v : Nat) : (b.add g v).thm = b.thm := rfl
@[simp] theorem Blk.add_stps (g : Fld) (v : Nat) : (b.add g v).stps = b.stps := rfl
@[simp] theorem Blk.add_axes (g : Fld) (v : Nat) : (b.add g v).axes = b.axes := rfl
@[simp] theorem Blk.add_ports (g : Fld) (v : Nat) : (b.add g v).ports = b.ports := rfl
@[simp] theorem Blk.add_afe (g : Fld) (v : Nat) : (b.add g v).afe = b.afe := rfl
@[simp] theorem Blk.add_le (g : Fld) (v : Nat) : (b.add g v).le = b.le := rfl
@[simp] theorem Blk.add_tuns (g : Fld) (v : Nat) : (b.add g v).tuns = b.tuns := rfl
@[simp] theorem Blk.add_shr (g : Fld) (v : Nat) : (b.add g v).shr = b.shr := rfl
@[simp] theorem Blk.add_hasp (g : Fld) (v : Nat) : (b.add g v).hasp = b.hasp := rfl
@[simp] theorem Blk.add_sll (g : Fld) (v : Nat) : (b.add g v).sll = b.sll := rfl
@[simp] theorem Blk.add_ward (g : Fld) (v : Nat) : (b.add g v).ward = b.ward := rfl
@[simp] theorem Blk.add_mir (g : Fld) (v : Nat) : (b.add g v).mir = b.mir := rfl
@[simp] theorem Blk.add_cans (g : Fld) (v : Nat) : (b.add g v).cans = b.cans := rfl
@[simp] theorem Blk.add_lode (g : Fld) (v : Nat) : (b.add g v).lode = b.lode := rfl
@[simp] theorem Blk.add_clk (g : Fld) (v : Nat) : (b.add g v).clk = b.clk := rfl
@[simp] theorem Blk.add_pwr (g : Fld) (v : Nat) : (b.add g v).pwr = b.pwr := rfl
@[simp] theorem Blk.add_nvs (g : Fld) (v : Nat) : (b.add g v).nvs = b.nvs := rfl
@[simp] theorem Blk.add_freeCtr (g : Fld) (v : Nat) : (b.add g v).freeCtr = b.freeCtr := rfl

@[simp] theorem State.onBlk_blk (s : State) (f : Blk → Blk) : (s.onBlk f).blk = f s.blk := rfl
@[simp] theorem State.onBlk_mem (s : State) (f : Blk → Blk) : (s.onBlk f).mem = s.mem := rfl
@[simp] theorem State.onBlk_pending (s : State) (f : Blk → Blk) : (s.onBlk f).pending = s.pending := rfl

end Sys2Proof.Machine
end

