-- ==== Sys2Proof/Laws/Events.lean ====
section
/-! SUPPORT. What raising an event and deciding a completion do (R15 to R19, R416, R424): which parts of the block they
leave, that an event raised is reported, and that a report stays. -/

namespace Sys2Proof.Machine

variable (b : Blk)

@[simp] theorem Blk.noteDrops_tick : b.noteDrops.tick = b.tick := by
  unfold Blk.noteDrops; split_ifs <;> rfl
@[simp] theorem Blk.noteDrops_out : b.noteDrops.out = b.out := by
  unfold Blk.noteDrops; split_ifs <;> rfl
@[simp] theorem Blk.noteDrops_host : b.noteDrops.host = b.host := by
  unfold Blk.noteDrops; split_ifs <;> rfl
@[simp] theorem Blk.noteDrops_txns : b.noteDrops.txns = b.txns := by
  unfold Blk.noteDrops; split_ifs <;> rfl
@[simp] theorem Blk.noteDrops_drvs : b.noteDrops.drvs = b.drvs := by
  unfold Blk.noteDrops; split_ifs <;> rfl
@[simp] theorem Blk.noteDrops_seqs : b.noteDrops.seqs = b.seqs := by
  unfold Blk.noteDrops; split_ifs <;> rfl
@[simp] theorem Blk.noteDrops_dcl : b.noteDrops.dcl = b.dcl := by
  unfold Blk.noteDrops; split_ifs <;> rfl
@[simp] theorem Blk.noteDrops_thm : b.noteDrops.thm = b.thm := by
  unfold Blk.noteDrops; split_ifs <;> rfl
@[simp] theorem Blk.noteDrops_stps : b.noteDrops.stps = b.stps := by
  unfold Blk.noteDrops; split_ifs <;> rfl
@[simp] theorem Blk.noteDrops_axes : b.noteDrops.axes = b.axes := by
  unfold Blk.noteDrops; split_ifs <;> rfl
@[simp] theorem Blk.noteDrops_ports : b.noteDrops.ports = b.ports := by
  unfold Blk.noteDrops; split_ifs <;> rfl
@[simp] theorem Blk.noteDrops_afe : b.noteDrops.afe = b.afe := by
  unfold Blk.noteDrops; split_ifs <;> rfl
@[simp] theorem Blk.noteDrops_le : b.noteDrops.le = b.le := by
  unfold Blk.noteDrops; split_ifs <;> rfl
@[simp] theorem Blk.noteDrops_tuns : b.noteDrops.tuns = b.tuns := by
  unfold Blk.noteDrops; split_ifs <;> rfl
@[simp] theorem Blk.noteDrops_shr : b.noteDrops.shr = b.shr := by
  unfold Blk.noteDrops; split_ifs <;> rfl
@[simp] theorem Blk.noteDrops_hasp : b.noteDrops.hasp = b.hasp := by
  unfold Blk.noteDrops; split_ifs <;> rfl
@[simp] theorem Blk.noteDrops_sll : b.noteDrops.sll = b.sll := by
  unfold Blk.noteDrops; split_ifs <;> rfl
@[simp] theorem Blk.noteDrops_ward : b.noteDrops.ward = b.ward := by
  unfold Blk.noteDrops; split_ifs <;> rfl
@[simp] theorem Blk.noteDrops_mir : b.noteDrops.mir = b.mir := by
  unfold Blk.noteDrops; split_ifs <;> rfl
@[simp] theorem Blk.noteDrops_cans : b.noteDrops.cans = b.cans := by
  unfold Blk.noteDrops; split_ifs <;> rfl
@[simp] theorem Blk.noteDrops_lode : b.noteDrops.lode = b.lode := by
  unfold Blk.noteDrops; split_ifs <;> rfl
@[simp] theorem Blk.noteDrops_clk : b.noteDrops.clk = b.clk := by
  unfold Blk.noteDrops; split_ifs <;> rfl
@[simp] theorem Blk.noteDrops_pwr : b.noteDrops.pwr = b.pwr := by
  unfold Blk.noteDrops; split_ifs <;> rfl
@[simp] theorem Blk.noteDrops_freeCtr : b.noteDrops.freeCtr = b.freeCtr := by
  unfold Blk.noteDrops; split_ifs <;> rfl
@[simp] theorem Blk.noteDrops_latch : b.noteDrops.latch = b.latch := by
  unfold Blk.noteDrops; split_ifs <;> rfl
@[simp] theorem Blk.queueLow_tick (e : Event) : (b.queueLow e).tick = b.tick := by
  unfold Blk.queueLow; split_ifs <;> rfl
@[simp] theorem Blk.queueLow_out (e : Event) : (b.queueLow e).out = b.out := by
  unfold Blk.queueLow; split_ifs <;> rfl
@[simp] theorem Blk.queueLow_host (e : Event) : (b.queueLow e).host = b.host := by
  unfold Blk.queueLow; split_ifs <;> rfl
@[simp] theorem Blk.queueLow_txns (e : Event) : (b.queueLow e).txns = b.txns := by
  unfold Blk.queueLow; split_ifs <;> rfl
@[simp] theorem Blk.queueLow_drvs (e : Event) : (b.queueLow e).drvs = b.drvs := by
  unfold Blk.queueLow; split_ifs <;> rfl
@[simp] theorem Blk.queueLow_seqs (e : Event) : (b.queueLow e).seqs = b.seqs := by
  unfold Blk.queueLow; split_ifs <;> rfl
@[simp] theorem Blk.queueLow_dcl (e : Event) : (b.queueLow e).dcl = b.dcl := by
  unfold Blk.queueLow; split_ifs <;> rfl
@[simp] theorem Blk.queueLow_thm (e : Event) : (b.queueLow e).thm = b.thm := by
  unfold Blk.queueLow; split_ifs <;> rfl
@[simp] theorem Blk.queueLow_stps (e : Event) : (b.queueLow e).stps = b.stps := by
  unfold Blk.queueLow; split_ifs <;> rfl
@[simp] theorem Blk.queueLow_axes (e : Event) : (b.queueLow e).axes = b.axes := by
  unfold Blk.queueLow; split_ifs <;> rfl
@[simp] theorem Blk.queueLow_ports (e : Event) : (b.queueLow e).ports = b.ports := by
  unfold Blk.queueLow; split_ifs <;> rfl
@[simp] theorem Blk.queueLow_afe (e : Event) : (b.queueLow e).afe = b.afe := by
  unfold Blk.queueLow; split_ifs <;> rfl
@[simp] theorem Blk.queueLow_le (e : Event) : (b.queueLow e).le = b.le := by
  unfold Blk.queueLow; split_ifs <;> rfl
@[simp] theorem Blk.queueLow_tuns (e : Event) : (b.queueLow e).tuns = b.tuns := by
  unfold Blk.queueLow; split_ifs <;> rfl
@[simp] theorem Blk.queueLow_shr (e : Event) : (b.queueLow e).shr = b.shr := by
  unfold Blk.queueLow; split_ifs <;> rfl
@[simp] theorem Blk.queueLow_hasp (e : Event) : (b.queueLow e).hasp = b.hasp := by
  unfold Blk.queueLow; split_ifs <;> rfl
@[simp] theorem Blk.queueLow_sll (e : Event) : (b.queueLow e).sll = b.sll := by
  unfold Blk.queueLow; split_ifs <;> rfl
@[simp] theorem Blk.queueLow_ward (e : Event) : (b.queueLow e).ward = b.ward := by
  unfold Blk.queueLow; split_ifs <;> rfl
@[simp] theorem Blk.queueLow_mir (e : Event) : (b.queueLow e).mir = b.mir := by
  unfold Blk.queueLow; split_ifs <;> rfl
@[simp] theorem Blk.queueLow_cans (e : Event) : (b.queueLow e).cans = b.cans := by
  unfold Blk.queueLow; split_ifs <;> rfl
@[simp] theorem Blk.queueLow_lode (e : Event) : (b.queueLow e).lode = b.lode := by
  unfold Blk.queueLow; split_ifs <;> rfl
@[simp] theorem Blk.queueLow_clk (e : Event) : (b.queueLow e).clk = b.clk := by
  unfold Blk.queueLow; split_ifs <;> rfl
@[simp] theorem Blk.queueLow_pwr (e : Event) : (b.queueLow e).pwr = b.pwr := by
  unfold Blk.queueLow; split_ifs <;> rfl
@[simp] theorem Blk.queueLow_freeCtr (e : Event) : (b.queueLow e).freeCtr = b.freeCtr := by
  unfold Blk.queueLow; split_ifs <;> rfl
@[simp] theorem Blk.queueLow_latch (e : Event) : (b.queueLow e).latch = b.latch := by
  unfold Blk.queueLow; split_ifs <;> rfl
@[simp] theorem Blk.queueEvent_tick (e : Event) : (b.queueEvent e).tick = b.tick := by
  unfold Blk.queueEvent; split_ifs <;> first | rfl | simp
@[simp] theorem Blk.queueEvent_out (e : Event) : (b.queueEvent e).out = b.out := by
  unfold Blk.queueEvent; split_ifs <;> first | rfl | simp
@[simp] theorem Blk.queueEvent_host (e : Event) : (b.queueEvent e).host = b.host := by
  unfold Blk.queueEvent; split_ifs <;> first | rfl | simp
@[simp] theorem Blk.queueEvent_txns (e : Event) : (b.queueEvent e).txns = b.txns := by
  unfold Blk.queueEvent; split_ifs <;> first | rfl | simp
@[simp] theorem Blk.queueEvent_drvs (e : Event) : (b.queueEvent e).drvs = b.drvs := by
  unfold Blk.queueEvent; split_ifs <;> first | rfl | simp
@[simp] theorem Blk.queueEvent_seqs (e : Event) : (b.queueEvent e).seqs = b.seqs := by
  unfold Blk.queueEvent; split_ifs <;> first | rfl | simp
@[simp] theorem Blk.queueEvent_dcl (e : Event) : (b.queueEvent e).dcl = b.dcl := by
  unfold Blk.queueEvent; split_ifs <;> first | rfl | simp
@[simp] theorem Blk.queueEvent_thm (e : Event) : (b.queueEvent e).thm = b.thm := by
  unfold Blk.queueEvent; split_ifs <;> first | rfl | simp
@[simp] theorem Blk.queueEvent_stps (e : Event) : (b.queueEvent e).stps = b.stps := by
  unfold Blk.queueEvent; split_ifs <;> first | rfl | simp
@[simp] theorem Blk.queueEvent_axes (e : Event) : (b.queueEvent e).axes = b.axes := by
  unfold Blk.queueEvent; split_ifs <;> first | rfl | simp
@[simp] theorem Blk.queueEvent_ports (e : Event) : (b.queueEvent e).ports = b.ports := by
  unfold Blk.queueEvent; split_ifs <;> first | rfl | simp
@[simp] theorem Blk.queueEvent_afe (e : Event) : (b.queueEvent e).afe = b.afe := by
  unfold Blk.queueEvent; split_ifs <;> first | rfl | simp
@[simp] theorem Blk.queueEvent_le (e : Event) : (b.queueEvent e).le = b.le := by
  unfold Blk.queueEvent; split_ifs <;> first | rfl | simp
@[simp] theorem Blk.queueEvent_tuns (e : Event) : (b.queueEvent e).tuns = b.tuns := by
  unfold Blk.queueEvent; split_ifs <;> first | rfl | simp
@[simp] theorem Blk.queueEvent_shr (e : Event) : (b.queueEvent e).shr = b.shr := by
  unfold Blk.queueEvent; split_ifs <;> first | rfl | simp
@[simp] theorem Blk.queueEvent_hasp (e : Event) : (b.queueEvent e).hasp = b.hasp := by
  unfold Blk.queueEvent; split_ifs <;> first | rfl | simp
@[simp] theorem Blk.queueEvent_sll (e : Event) : (b.queueEvent e).sll = b.sll := by
  unfold Blk.queueEvent; split_ifs <;> first | rfl | simp
@[simp] theorem Blk.queueEvent_ward (e : Event) : (b.queueEvent e).ward = b.ward := by
  unfold Blk.queueEvent; split_ifs <;> first | rfl | simp
@[simp] theorem Blk.queueEvent_mir (e : Event) : (b.queueEvent e).mir = b.mir := by
  unfold Blk.queueEvent; split_ifs <;> first | rfl | simp
@[simp] theorem Blk.queueEvent_cans (e : Event) : (b.queueEvent e).cans = b.cans := by
  unfold Blk.queueEvent; split_ifs <;> first | rfl | simp
@[simp] theorem Blk.queueEvent_lode (e : Event) : (b.queueEvent e).lode = b.lode := by
  unfold Blk.queueEvent; split_ifs <;> first | rfl | simp
@[simp] theorem Blk.queueEvent_clk (e : Event) : (b.queueEvent e).clk = b.clk := by
  unfold Blk.queueEvent; split_ifs <;> first | rfl | simp
@[simp] theorem Blk.queueEvent_pwr (e : Event) : (b.queueEvent e).pwr = b.pwr := by
  unfold Blk.queueEvent; split_ifs <;> first | rfl | simp
@[simp] theorem Blk.queueEvent_freeCtr (e : Event) : (b.queueEvent e).freeCtr = b.freeCtr := by
  unfold Blk.queueEvent; split_ifs <;> first | rfl | simp
@[simp] theorem Blk.queueEvent_latch (e : Event) : (b.queueEvent e).latch = b.latch := by
  unfold Blk.queueEvent; split_ifs <;> first | rfl | simp

@[simp] theorem Blk.strataEvent_tick (c n : Nat) : (b.strataEvent c n).tick = b.tick := by
  unfold Blk.strataEvent; dsimp only; split_ifs <;> simp
@[simp] theorem Blk.strataEvent_out (c n : Nat) : (b.strataEvent c n).out = b.out := by
  unfold Blk.strataEvent; dsimp only; split_ifs <;> simp
@[simp] theorem Blk.strataEvent_host (c n : Nat) : (b.strataEvent c n).host = b.host := by
  unfold Blk.strataEvent; dsimp only; split_ifs <;> simp
@[simp] theorem Blk.strataEvent_txns (c n : Nat) : (b.strataEvent c n).txns = b.txns := by
  unfold Blk.strataEvent; dsimp only; split_ifs <;> simp
@[simp] theorem Blk.strataEvent_drvs (c n : Nat) : (b.strataEvent c n).drvs = b.drvs := by
  unfold Blk.strataEvent; dsimp only; split_ifs <;> simp
@[simp] theorem Blk.strataEvent_seqs (c n : Nat) : (b.strataEvent c n).seqs = b.seqs := by
  unfold Blk.strataEvent; dsimp only; split_ifs <;> simp
@[simp] theorem Blk.strataEvent_dcl (c n : Nat) : (b.strataEvent c n).dcl = b.dcl := by
  unfold Blk.strataEvent; dsimp only; split_ifs <;> simp
@[simp] theorem Blk.strataEvent_thm (c n : Nat) : (b.strataEvent c n).thm = b.thm := by
  unfold Blk.strataEvent; dsimp only; split_ifs <;> simp
@[simp] theorem Blk.strataEvent_stps (c n : Nat) : (b.strataEvent c n).stps = b.stps := by
  unfold Blk.strataEvent; dsimp only; split_ifs <;> simp
@[simp] theorem Blk.strataEvent_axes (c n : Nat) : (b.strataEvent c n).axes = b.axes := by
  unfold Blk.strataEvent; dsimp only; split_ifs <;> simp
@[simp] theorem Blk.strataEvent_ports (c n : Nat) : (b.strataEvent c n).ports = b.ports := by
  unfold Blk.strataEvent; dsimp only; split_ifs <;> simp
@[simp] theorem Blk.strataEvent_afe (c n : Nat) : (b.strataEvent c n).afe = b.afe := by
  unfold Blk.strataEvent; dsimp only; split_ifs <;> simp
@[simp] theorem Blk.strataEvent_le (c n : Nat) : (b.strataEvent c n).le = b.le := by
  unfold Blk.strataEvent; dsimp only; split_ifs <;> simp
@[simp] theorem Blk.strataEvent_tuns (c n : Nat) : (b.strataEvent c n).tuns = b.tuns := by
  unfold Blk.strataEvent; dsimp only; split_ifs <;> simp
@[simp] theorem Blk.strataEvent_shr (c n : Nat) : (b.strataEvent c n).shr = b.shr := by
  unfold Blk.strataEvent; dsimp only; split_ifs <;> simp
@[simp] theorem Blk.strataEvent_hasp (c n : Nat) : (b.strataEvent c n).hasp = b.hasp := by
  unfold Blk.strataEvent; dsimp only; split_ifs <;> simp
@[simp] theorem Blk.strataEvent_sll (c n : Nat) : (b.strataEvent c n).sll = b.sll := by
  unfold Blk.strataEvent; dsimp only; split_ifs <;> simp
@[simp] theorem Blk.strataEvent_ward (c n : Nat) : (b.strataEvent c n).ward = b.ward := by
  unfold Blk.strataEvent; dsimp only; split_ifs <;> simp
@[simp] theorem Blk.strataEvent_mir (c n : Nat) : (b.strataEvent c n).mir = b.mir := by
  unfold Blk.strataEvent; dsimp only; split_ifs <;> simp
@[simp] theorem Blk.strataEvent_cans (c n : Nat) : (b.strataEvent c n).cans = b.cans := by
  unfold Blk.strataEvent; dsimp only; split_ifs <;> simp
@[simp] theorem Blk.strataEvent_lode (c n : Nat) : (b.strataEvent c n).lode = b.lode := by
  unfold Blk.strataEvent; dsimp only; split_ifs <;> simp
@[simp] theorem Blk.strataEvent_clk (c n : Nat) : (b.strataEvent c n).clk = b.clk := by
  unfold Blk.strataEvent; dsimp only; split_ifs <;> simp
@[simp] theorem Blk.strataEvent_pwr (c n : Nat) : (b.strataEvent c n).pwr = b.pwr := by
  unfold Blk.strataEvent; dsimp only; split_ifs <;> simp
@[simp] theorem Blk.strataEvent_freeCtr (c n : Nat) : (b.strataEvent c n).freeCtr = b.freeCtr := by
  unfold Blk.strataEvent; dsimp only; split_ifs <;> simp
@[simp] theorem Blk.strataEvent_latch (c n : Nat) : (b.strataEvent c n).latch = b.latch := by
  unfold Blk.strataEvent; dsimp only; split_ifs <;> simp

@[simp] theorem Blk.raise_tick (c s : Nat) (i : List Int) : (b.raise c s i).tick = b.tick := by simp [Blk.raise]
@[simp] theorem Blk.raise_out (c s : Nat) (i : List Int) : (b.raise c s i).out = b.out := by simp [Blk.raise]
@[simp] theorem Blk.raise_host (c s : Nat) (i : List Int) : (b.raise c s i).host = b.host := by simp [Blk.raise]
@[simp] theorem Blk.raise_txns (c s : Nat) (i : List Int) : (b.raise c s i).txns = b.txns := by simp [Blk.raise]
@[simp] theorem Blk.raise_drvs (c s : Nat) (i : List Int) : (b.raise c s i).drvs = b.drvs := by simp [Blk.raise]
@[simp] theorem Blk.raise_seqs (c s : Nat) (i : List Int) : (b.raise c s i).seqs = b.seqs := by simp [Blk.raise]
@[simp] theorem Blk.raise_dcl (c s : Nat) (i : List Int) : (b.raise c s i).dcl = b.dcl := by simp [Blk.raise]
@[simp] theorem Blk.raise_thm (c s : Nat) (i : List Int) : (b.raise c s i).thm = b.thm := by simp [Blk.raise]
@[simp] theorem Blk.raise_stps (c s : Nat) (i : List Int) : (b.raise c s i).stps = b.stps := by simp [Blk.raise]
@[simp] theorem Blk.raise_axes (c s : Nat) (i : List Int) : (b.raise c s i).axes = b.axes := by simp [Blk.raise]
@[simp] theorem Blk.raise_ports (c s : Nat) (i : List Int) : (b.raise c s i).ports = b.ports := by simp [Blk.raise]
@[simp] theorem Blk.raise_afe (c s : Nat) (i : List Int) : (b.raise c s i).afe = b.afe := by simp [Blk.raise]
@[simp] theorem Blk.raise_le (c s : Nat) (i : List Int) : (b.raise c s i).le = b.le := by simp [Blk.raise]
@[simp] theorem Blk.raise_tuns (c s : Nat) (i : List Int) : (b.raise c s i).tuns = b.tuns := by simp [Blk.raise]
@[simp] theorem Blk.raise_shr (c s : Nat) (i : List Int) : (b.raise c s i).shr = b.shr := by simp [Blk.raise]
@[simp] theorem Blk.raise_hasp (c s : Nat) (i : List Int) : (b.raise c s i).hasp = b.hasp := by simp [Blk.raise]
@[simp] theorem Blk.raise_sll (c s : Nat) (i : List Int) : (b.raise c s i).sll = b.sll := by simp [Blk.raise]
@[simp] theorem Blk.raise_ward (c s : Nat) (i : List Int) : (b.raise c s i).ward = b.ward := by simp [Blk.raise]
@[simp] theorem Blk.raise_mir (c s : Nat) (i : List Int) : (b.raise c s i).mir = b.mir := by simp [Blk.raise]
@[simp] theorem Blk.raise_cans (c s : Nat) (i : List Int) : (b.raise c s i).cans = b.cans := by simp [Blk.raise]
@[simp] theorem Blk.raise_lode (c s : Nat) (i : List Int) : (b.raise c s i).lode = b.lode := by simp [Blk.raise]
@[simp] theorem Blk.raise_clk (c s : Nat) (i : List Int) : (b.raise c s i).clk = b.clk := by simp [Blk.raise]
@[simp] theorem Blk.raise_pwr (c s : Nat) (i : List Int) : (b.raise c s i).pwr = b.pwr := by simp [Blk.raise]
@[simp] theorem Blk.raise_freeCtr (c s : Nat) (i : List Int) : (b.raise c s i).freeCtr = b.freeCtr := by simp [Blk.raise]
@[simp] theorem Blk.raise_latch (c s : Nat) (i : List Int) : (b.raise c s i).latch = b.latch := by simp [Blk.raise]

@[simp] theorem Blk.raiseLim_tick (k c s : Nat) (i : List Int) : (b.raiseLim k c s i).tick = b.tick := by
  unfold Blk.raiseLim Blk.raiseKey; split <;> (try split) <;> simp [Blk.noteLim]
@[simp] theorem Blk.raiseLim_out (k c s : Nat) (i : List Int) : (b.raiseLim k c s i).out = b.out := by
  unfold Blk.raiseLim Blk.raiseKey; split <;> (try split) <;> simp [Blk.noteLim]
@[simp] theorem Blk.raiseLim_host (k c s : Nat) (i : List Int) : (b.raiseLim k c s i).host = b.host := by
  unfold Blk.raiseLim Blk.raiseKey; split <;> (try split) <;> simp [Blk.noteLim]
@[simp] theorem Blk.raiseLim_txns (k c s : Nat) (i : List Int) : (b.raiseLim k c s i).txns = b.txns := by
  unfold Blk.raiseLim Blk.raiseKey; split <;> (try split) <;> simp [Blk.noteLim]
@[simp] theorem Blk.raiseLim_drvs (k c s : Nat) (i : List Int) : (b.raiseLim k c s i).drvs = b.drvs := by
  unfold Blk.raiseLim Blk.raiseKey; split <;> (try split) <;> simp [Blk.noteLim]
@[simp] theorem Blk.raiseLim_seqs (k c s : Nat) (i : List Int) : (b.raiseLim k c s i).seqs = b.seqs := by
  unfold Blk.raiseLim Blk.raiseKey; split <;> (try split) <;> simp [Blk.noteLim]
@[simp] theorem Blk.raiseLim_dcl (k c s : Nat) (i : List Int) : (b.raiseLim k c s i).dcl = b.dcl := by
  unfold Blk.raiseLim Blk.raiseKey; split <;> (try split) <;> simp [Blk.noteLim]
@[simp] theorem Blk.raiseLim_thm (k c s : Nat) (i : List Int) : (b.raiseLim k c s i).thm = b.thm := by
  unfold Blk.raiseLim Blk.raiseKey; split <;> (try split) <;> simp [Blk.noteLim]
@[simp] theorem Blk.raiseLim_stps (k c s : Nat) (i : List Int) : (b.raiseLim k c s i).stps = b.stps := by
  unfold Blk.raiseLim Blk.raiseKey; split <;> (try split) <;> simp [Blk.noteLim]
@[simp] theorem Blk.raiseLim_axes (k c s : Nat) (i : List Int) : (b.raiseLim k c s i).axes = b.axes := by
  unfold Blk.raiseLim Blk.raiseKey; split <;> (try split) <;> simp [Blk.noteLim]
@[simp] theorem Blk.raiseLim_ports (k c s : Nat) (i : List Int) : (b.raiseLim k c s i).ports = b.ports := by
  unfold Blk.raiseLim Blk.raiseKey; split <;> (try split) <;> simp [Blk.noteLim]
@[simp] theorem Blk.raiseLim_afe (k c s : Nat) (i : List Int) : (b.raiseLim k c s i).afe = b.afe := by
  unfold Blk.raiseLim Blk.raiseKey; split <;> (try split) <;> simp [Blk.noteLim]
@[simp] theorem Blk.raiseLim_le (k c s : Nat) (i : List Int) : (b.raiseLim k c s i).le = b.le := by
  unfold Blk.raiseLim Blk.raiseKey; split <;> (try split) <;> simp [Blk.noteLim]
@[simp] theorem Blk.raiseLim_tuns (k c s : Nat) (i : List Int) : (b.raiseLim k c s i).tuns = b.tuns := by
  unfold Blk.raiseLim Blk.raiseKey; split <;> (try split) <;> simp [Blk.noteLim]
@[simp] theorem Blk.raiseLim_shr (k c s : Nat) (i : List Int) : (b.raiseLim k c s i).shr = b.shr := by
  unfold Blk.raiseLim Blk.raiseKey; split <;> (try split) <;> simp [Blk.noteLim]
@[simp] theorem Blk.raiseLim_hasp (k c s : Nat) (i : List Int) : (b.raiseLim k c s i).hasp = b.hasp := by
  unfold Blk.raiseLim Blk.raiseKey; split <;> (try split) <;> simp [Blk.noteLim]
@[simp] theorem Blk.raiseLim_sll (k c s : Nat) (i : List Int) : (b.raiseLim k c s i).sll = b.sll := by
  unfold Blk.raiseLim Blk.raiseKey; split <;> (try split) <;> simp [Blk.noteLim]
@[simp] theorem Blk.raiseLim_ward (k c s : Nat) (i : List Int) : (b.raiseLim k c s i).ward = b.ward := by
  unfold Blk.raiseLim Blk.raiseKey; split <;> (try split) <;> simp [Blk.noteLim]
@[simp] theorem Blk.raiseLim_mir (k c s : Nat) (i : List Int) : (b.raiseLim k c s i).mir = b.mir := by
  unfold Blk.raiseLim Blk.raiseKey; split <;> (try split) <;> simp [Blk.noteLim]
@[simp] theorem Blk.raiseLim_cans (k c s : Nat) (i : List Int) : (b.raiseLim k c s i).cans = b.cans := by
  unfold Blk.raiseLim Blk.raiseKey; split <;> (try split) <;> simp [Blk.noteLim]
@[simp] theorem Blk.raiseLim_lode (k c s : Nat) (i : List Int) : (b.raiseLim k c s i).lode = b.lode := by
  unfold Blk.raiseLim Blk.raiseKey; split <;> (try split) <;> simp [Blk.noteLim]
@[simp] theorem Blk.raiseLim_clk (k c s : Nat) (i : List Int) : (b.raiseLim k c s i).clk = b.clk := by
  unfold Blk.raiseLim Blk.raiseKey; split <;> (try split) <;> simp [Blk.noteLim]
@[simp] theorem Blk.raiseLim_pwr (k c s : Nat) (i : List Int) : (b.raiseLim k c s i).pwr = b.pwr := by
  unfold Blk.raiseLim Blk.raiseKey; split <;> (try split) <;> simp [Blk.noteLim]
@[simp] theorem Blk.raiseLim_freeCtr (k c s : Nat) (i : List Int) : (b.raiseLim k c s i).freeCtr = b.freeCtr := by
  unfold Blk.raiseLim Blk.raiseKey; split <;> (try split) <;> simp [Blk.noteLim]
@[simp] theorem Blk.raiseLim_latch (k c s : Nat) (i : List Int) : (b.raiseLim k c s i).latch = b.latch := by
  unfold Blk.raiseLim Blk.raiseKey; split <;> (try split) <;> simp [Blk.noteLim]

/-- The event for what was dropped changes no register word. -/
@[simp] theorem Blk.noteDrops_word (a : Nat) : b.noteDrops.word a = b.word a := by
  unfold Blk.noteDrops; split_ifs <;> rfl

theorem Blk.queueLow_word (e : Event) {a : Nat} (h : a ≠ R.HIF_EVDROP_COUNT.off) : (b.queueLow e).word a = b.word a := by
  unfold Blk.queueLow
  split_ifs <;> first | rfl | exact Blk.word_setWord_ne _ _ h

/-- Queueing an event changes no register word but HIF_EVDROP. -/
theorem Blk.queueEvent_word (e : Event) {a : Nat} (h : a ≠ R.HIF_EVDROP_COUNT.off) :
    (b.queueEvent e).word a = b.word a := by
  unfold Blk.queueEvent
  split_ifs <;> first | rfl | exact (Blk.queueLow_word _ _ h).trans (Blk.noteDrops_word _ _)

/-- The free entries of a ring stay where no register word but HIF_EVDROP changes. -/
theorem ringSpace_keep {b b' : Blk} (q : Nat) (h : ∀ a, a ≠ R.HIF_EVDROP_COUNT.off → b'.word a = b.word a) :
    b'.ringSpace q = b.ringSpace q := by
  have hr : ∀ f : Fld, f.off ≠ R.HIF_EVDROP_COUNT.off → b'.rd f = b.rd f := fun f hf => by simp [Blk.rd, h _ hf]
  have h1 : b'.powered .host = b.powered .host := by
    simp only [Blk.powered, Blk.on]; rw [hr _ (by decide)]
  have h2 : b'.rd (R.RING_CTL_EN q) = b.rd (R.RING_CTL_EN q) :=
    hr _ (by simp only [R.RING_CTL_EN, R.HIF_EVDROP_COUNT]; omega)
  have h3 : b'.rd (R.RING_STAT_STATE q) = b.rd (R.RING_STAT_STATE q) :=
    hr _ (by simp only [R.RING_STAT_STATE, R.HIF_EVDROP_COUNT]; omega)
  have h4 : b'.rd (R.RING_CTL_LOG2SIZE q) = b.rd (R.RING_CTL_LOG2SIZE q) :=
    hr _ (by simp only [R.RING_CTL_LOG2SIZE, R.HIF_EVDROP_COUNT]; omega)
  have h5 : b'.rd (R.RING_IDX_MOD q) = b.rd (R.RING_IDX_MOD q) :=
    hr _ (by simp only [R.RING_IDX_MOD, R.HIF_EVDROP_COUNT]; omega)
  have h6 : b'.rd (R.RING_IDX_HOST q) = b.rd (R.RING_IDX_HOST q) :=
    hr _ (by simp only [R.RING_IDX_HOST, R.HIF_EVDROP_COUNT]; omega)
  have hq : b'.ringRuns q = b.ringRuns q := by simp only [Blk.ringRuns, Blk.on, h1, h2, h3]
  have hs : b'.ringSize q = b.ringSize q := by simp only [Blk.ringSize, h4]
  unfold Blk.ringSpace
  rw [hq, hs, h5, h6]

@[simp] theorem Blk.noteDrops_space (q : Nat) : b.noteDrops.ringSpace q = b.ringSpace q :=
  ringSpace_keep q (fun _ _ => Blk.noteDrops_word _ _)

/-- Strata's event list changes no register word but HIF_EVDROP. -/
theorem Blk.strataEvent_word (c n : Nat) {a : Nat} (h : a ≠ R.HIF_EVDROP_COUNT.off) :
    (b.strataEvent c n).word a = b.word a := by
  unfold Blk.strataEvent
  dsimp only
  split_ifs
  · exact Blk.queueEvent_word _ _ h
  · rfl

/-- Raising an event changes no register word but HIF_EVDROP. -/
theorem Blk.raise_word (c s : Nat) (i : List Int) {a : Nat} (h : a ≠ R.HIF_EVDROP_COUNT.off) :
    (b.raise c s i).word a = b.word a := by
  rw [Blk.raise, Blk.queueEvent_word _ _ h, Blk.strataEvent_word _ _ _ h]

/-- Raising an event leaves every field of another word. -/
theorem Blk.raise_rd (c s : Nat) (i : List Int) (f : Fld) (h : f.off ≠ R.HIF_EVDROP_COUNT.off) :
    (b.raise c s i).rd f = b.rd f := by
  simp [Blk.rd, Blk.raise_word _ _ _ _ h]

theorem Blk.raise_on (c s : Nat) (i : List Int) (f : Fld) (h : f.off ≠ R.HIF_EVDROP_COUNT.off) :
    (b.raise c s i).on f = b.on f := by
  simp [Blk.on, Blk.raise_rd _ _ _ _ _ h]

theorem Blk.raiseLim_word (k c s : Nat) (i : List Int) {a : Nat} (h : a ≠ R.HIF_EVDROP_COUNT.off) :
    (b.raiseLim k c s i).word a = b.word a := by
  unfold Blk.raiseLim Blk.raiseKey
  split
  · split
    · rfl
    · exact Blk.raise_word _ _ _ _ h
  · exact Blk.raise_word _ _ _ _ h

theorem Blk.raiseLim_rd (k c s : Nat) (i : List Int) (f : Fld) (h : f.off ≠ R.HIF_EVDROP_COUNT.off) :
    (b.raiseLim k c s i).rd f = b.rd f := by
  simp [Blk.rd, Blk.raiseLim_word _ _ _ _ _ h]

/-- An event that the queue takes stands in it, or is counted as dropped with no space left. -/
theorem Blk.queueLow_self (e : Event) : (∃ x ∈ (b.queueLow e).evs.low, x = e) ∨
    (0 < (b.queueLow e).evs.drops ∧ (b.queueLow e).ringSpace 10 ≤ (b.queueLow e).evs.low.length) := by
  rw [ringSpace_keep (b := b) 10 (fun _ h => Blk.queueLow_word _ _ h)]
  unfold Blk.queueLow
  split_ifs with h
  · exact .inr ⟨Nat.succ_pos _, h⟩
  · exact .inl ⟨e, by simp, rfl⟩

/-- What stands in the queue stays when an event of severity 0 to 2 is queued. -/
theorem Blk.queueLow_mem {e x : Event} (h : x ∈ b.evs.low) : x ∈ (b.queueLow e).evs.low := by
  unfold Blk.queueLow
  split_ifs
  · exact h
  · exact List.mem_append_left _ h

theorem Blk.noteDrops_mem {x : Event} (h : x ∈ b.evs.low) : x ∈ b.noteDrops.evs.low := by
  unfold Blk.noteDrops
  split_ifs <;> first | exact h | exact List.mem_append_left _ h

@[simp] theorem Blk.noteDrops_high : b.noteDrops.evs.high = b.evs.high := by unfold Blk.noteDrops; split_ifs <;> rfl
@[simp] theorem Blk.queueLow_high (e : Event) : (b.queueLow e).evs.high = b.evs.high := by
  unfold Blk.queueLow; split_ifs <;> rfl

/-- With no space left nothing but the count of drops changes when the event for what was dropped is due. -/
theorem Blk.noteDrops_full (h : b.ringSpace 10 ≤ b.evs.low.length) : b.noteDrops = b := by
  unfold Blk.noteDrops
  rw [if_neg (by omega)]

/-- An event queued is reported. -/
theorem Blk.queueEvent_self (e : Event) : Reported (b.queueEvent e) e.code e.src := by
  unfold Blk.queueEvent Reported
  by_cases h : severity e.code = 3
  · simp only [if_pos h]
    split_ifs with hx
    · obtain ⟨x, hm, hc⟩ := List.any_eq_true.mp hx
      simp at hc
      refine ⟨_, List.mem_map.mpr ⟨x, hm, rfl⟩, ?_⟩
      simp [hc]
    · exact ⟨e, by simp, rfl, rfl⟩
  · simp only [if_neg h]
    split_ifs with h1 h2
    · exact .inr (.inl h1)
    · exact .inl ⟨e, by simp, rfl, rfl⟩
    · rcases Blk.queueLow_self b.noteDrops e with ⟨x, hm, hx⟩ | hd
      · exact .inl ⟨x, hm, by rw [hx], by rw [hx]⟩
      · exact .inr (.inr hd)

/-- A report stays when the registers of HIF_EVFILT, the event queues and the space of the event ring stay. -/
theorem reported_keep {b b' : Blk} {c s : Nat} (h : Reported b c s) (he : b'.evs = b.evs)
    (hf : b'.rd R.HIF_EVFILT_MIN = b.rd R.HIF_EVFILT_MIN) (hr : b'.ringSpace 10 = b.ringSpace 10) : Reported b' c s := by
  have hw : ∀ i, b'.rd (sliceOf R.HIF_EVFILT_MIN i 2) = b.rd (sliceOf R.HIF_EVFILT_MIN i 2) := by
    intro i
    have h32 : (b'.word 0x4010).toNat = (b.word 0x4010).toNat := by
      have := hf
      simpa [Blk.rd, Fld.get, R.HIF_EVFILT_MIN, Nat.mod_eq_of_lt (BitVec.isLt _)] using this
    simp [Blk.rd, Fld.get, sliceOf, R.HIF_EVFILT_MIN, h32]
  unfold Reported at *
  rw [he, hw, hr]
  exact h

/-- A report stays when another event is queued. -/
theorem Blk.queueEvent_mono (e : Event) {c s : Nat} (h : Reported b c s) : Reported (b.queueEvent e) c s := by
  have hf : (b.queueEvent e).rd (sliceOf R.HIF_EVFILT_MIN (evClass c) 2) = b.rd (sliceOf R.HIF_EVFILT_MIN (evClass c) 2) := by
    simp only [Blk.rd]
    rw [Blk.queueEvent_word]
    exact (by decide : (0x4010 : Nat) ≠ 0x4020)
  have hr : (b.queueEvent e).ringSpace 10 = b.ringSpace 10 := ringSpace_keep 10 (fun _ h => Blk.queueEvent_word _ _ h)
  unfold Reported at h ⊢
  rw [hf, hr]
  split at h
  · rename_i hs
    simp only [if_pos hs]
    obtain ⟨x, hm, hc, hx⟩ := h
    unfold Blk.queueEvent
    split_ifs
    · refine ⟨_, List.mem_map.mpr ⟨x, hm, rfl⟩, ?_⟩
      split <;> simp [hc, hx]
    all_goals exact ⟨x, by simp [hm], hc, hx⟩
  · rename_i hs
    simp only [if_neg hs]
    rcases h with ⟨x, hm, hc, hx⟩ | h | ⟨h, hl⟩
    · left
      refine ⟨x, ?_, hc, hx⟩
      unfold Blk.queueEvent
      split_ifs
      all_goals first
        | exact hm
        | exact List.mem_append_left _ hm
        | exact Blk.queueLow_mem _ (Blk.noteDrops_mem _ hm)
    · exact .inr (.inl h)
    · right; right
      unfold Blk.queueEvent
      rw [Blk.noteDrops_full _ hl]
      unfold Blk.queueLow
      split_ifs
      all_goals first
        | exact ⟨h, hl⟩
        | exact ⟨h, by simp; omega⟩
        | exact ⟨Nat.succ_pos _, hl⟩

theorem Blk.strataEvent_mono (k n : Nat) {c s : Nat} (h : Reported b c s) : Reported (b.strataEvent k n) c s := by
  unfold Blk.strataEvent
  dsimp only
  split_ifs
  · exact Blk.queueEvent_mono _ _ (reported_keep h rfl rfl rfl)
  · exact reported_keep h rfl rfl rfl

/-- An event raised is reported (R424). -/
theorem Blk.raise_self (code src : Nat) (i : List Int) : Reported (b.raise code src i) code src :=
  Blk.queueEvent_self _ ⟨code, src, b.fn, 1, false, i⟩

/-- A report stays when another event is raised. -/
theorem Blk.raise_mono (code src : Nat) (i : List Int) {c s : Nat} (h : Reported b c s) :
    Reported (b.raise code src i) c s :=
  Blk.queueEvent_mono _ _ (Blk.strataEvent_mono _ _ _ h)

/-- A report stays when a register other than HIF_EVFILT is written that the space of the event ring does not depend on. -/
theorem reported_wr {b : Blk} {c s : Nat} (h : Reported b c s) (f : Fld) (v : Nat) (hf : f.off ≠ R.HIF_EVFILT_MIN.off)
    (hr : (b.wr f v).ringSpace 10 = b.ringSpace 10) : Reported (b.wr f v) c s :=
  reported_keep h rfl (Blk.rd_wr_off b f _ v (Ne.symm hf)) hr

/-- That space stays when a word outside the ring's registers and PWR_DOMSTAT is written. -/
theorem ringSpace_wr (b : Blk) (f : Fld) (v : Nat) (q : Nat) (h1 : f.off < 0x4100 ∨ 0x4260 ≤ f.off) (h7 : q < 11)
    (h2 : f.off ≠ R.PWR_DOMSTAT_ON.off) : (b.wr f v).ringSpace q = b.ringSpace q := by
  have hr : ∀ g : Fld, g.off ≠ f.off → (b.wr f v).rd g = b.rd g := fun g hg => Blk.rd_wr_off b f g v hg
  have e1 := hr (bitOf R.PWR_DOMSTAT_ON Dom.host.bit) (fun e => h2 e.symm)
  have e2 := hr (R.RING_CTL_EN q) (by simp only [R.RING_CTL_EN]; omega)
  have e3 := hr (R.RING_STAT_STATE q) (by simp only [R.RING_STAT_STATE]; omega)
  have e4 := hr (R.RING_CTL_LOG2SIZE q) (by simp only [R.RING_CTL_LOG2SIZE]; omega)
  have e5 := hr (R.RING_IDX_MOD q) (by simp only [R.RING_IDX_MOD]; omega)
  have e6 := hr (R.RING_IDX_HOST q) (by simp only [R.RING_IDX_HOST]; omega)
  have hq : (b.wr f v).ringRuns q = b.ringRuns q := by simp only [Blk.ringRuns, Blk.powered, Blk.on, e1, e2, e3]
  have hs : (b.wr f v).ringSize q = b.ringSize q := by simp only [Blk.ringSize, e4]
  unfold Blk.ringSpace
  rw [hq, hs, e5, e6]

/-- The slot list of a ring decides the completion of TAG and OPCODE. -/
theorem decideSlot_mem (tag op : Nat) (silent : Bool) (idx : Nat) (r : Nat × Nat × Nat) (l : List Slot) :
    ∃ x ∈ decideSlot tag op silent idx r l, x.tag = tag ∧ x.op = op ∧ x.res = some r := by
  induction l with
  | nil => exact ⟨_, List.mem_singleton.mpr rfl, rfl, rfl, rfl⟩
  | cons s l ih =>
    unfold decideSlot
    split
    · rename_i h
      exact ⟨_, List.mem_cons_self, h.1, h.2.1, rfl⟩
    · obtain ⟨x, hm, hx⟩ := ih
      exact ⟨x, List.mem_cons_of_mem _ hm, hx⟩

@[simp] theorem Blk.complete_regs (h : Hdr) (op st d : Nat) : (b.complete h op st d).regs = b.regs := rfl
@[simp] theorem Blk.complete_rd (h : Hdr) (op st d : Nat) (f : Fld) : (b.complete h op st d).rd f = b.rd f := rfl
@[simp] theorem Blk.complete_on (h : Hdr) (op st d : Nat) (f : Fld) : (b.complete h op st d).on f = b.on f := rfl
@[simp] theorem Blk.complete_evs (h : Hdr) (op st d : Nat) : (b.complete h op st d).evs = b.evs := rfl

/-- A completion decided stands in its ring's list (R416, R418). -/
theorem Blk.complete_decided (h : Hdr) (op st d : Nat) : Decided (b.complete h op st d) h op st d := by
  intro l hl
  simp only [Blk.complete, Blk.completeAt, Blk.onHost] at hl
  rw [List.getElem?_modify] at hl
  cases hs : b.host.slots[h.ring.val]? with
  | none => simp [hs] at hl
  | some l0 =>
    simp [hs] at hl
    obtain ⟨x, hm, h1, h2, h3⟩ := decideSlot_mem h.tag.toNat op h.silent (b.rd (R.RING_IDX_MOD h.ring.val)) (st, b.fn, d) l0
    subst hl
    exact ⟨x, by simpa using hm, h1, h2, h3⟩

/-- A decided completion stays while the host interface and FRAME_NO stay. -/
theorem decided_keep {b b' : Blk} {h : Hdr} {op st d : Nat} (hd : Decided b h op st d) (hh : b'.host = b.host)
    (hf : b'.fn = b.fn) : Decided b' h op st d := by
  intro l hl
  rw [hh] at hl
  rw [hf]
  exact hd l hl

end Sys2Proof.Machine
end

