-- ==== Sys2Proof/Laws/Same.lean ====
section
/-! SUPPORT. How the set of register words that an operation may change composes: `SameBut b b' T` says that every word
outside T is as before. -/

namespace Sys2Proof.Machine

theorem same_refl (b : Blk) (T : Nat → Prop) : SameBut b b T := fun _ _ => rfl

theorem same_trans {b c d : Blk} {T : Nat → Prop} (h1 : SameBut b c T) (h2 : SameBut c d T) : SameBut b d T :=
  fun a ha => (h2 a ha).trans (h1 a ha)

theorem same_mono {b c : Blk} {T U : Nat → Prop} (h : SameBut b c T) (hu : ∀ a, T a → U a) : SameBut b c U :=
  fun a ha => h a (fun x => ha (hu a x))

/-- An update that leaves the register file leaves every word. -/
theorem same_regs {b c : Blk} {T : Nat → Prop} (h : c.regs = b.regs) : SameBut b c T :=
  fun a _ => by simp [Blk.word, h]

theorem same_setWord {b c : Blk} {T : Nat → Prop} (h : SameBut b c T) (a : Nat) (w : Word) (ha : T a) :
    SameBut b (c.setWord a w) T :=
  fun x hx => (Blk.word_setWord_ne c w (fun e : x = a => hx (e.symm ▸ ha))).trans (h x hx)

theorem same_wr {b c : Blk} {T : Nat → Prop} (h : SameBut b c T) (f : Fld) (v : Nat) (hf : T f.off) :
    SameBut b (c.wr f v) T := same_setWord h _ _ hf

theorem same_flag {b c : Blk} {T : Nat → Prop} (h : SameBut b c T) (f : Fld) (v : Bool) (hf : T f.off) :
    SameBut b (c.flag f v) T := same_setWord h _ _ hf

theorem same_wrS {b c : Blk} {T : Nat → Prop} (h : SameBut b c T) (f : Fld) (v : Int) (hf : T f.off) :
    SameBut b (c.wrS f v) T := same_setWord h _ _ hf

theorem same_wrSat {b c : Blk} {T : Nat → Prop} (h : SameBut b c T) (f : Fld) (v : Nat) (hf : T f.off) :
    SameBut b (c.wrSat f v) T := same_setWord h _ _ hf

theorem same_add {b c : Blk} {T : Nat → Prop} (h : SameBut b c T) (f : Fld) (v : Nat) (hf : T f.off) :
    SameBut b (c.add f v) T := same_setWord h _ _ hf

theorem same_inc {b c : Blk} {T : Nat → Prop} (h : SameBut b c T) (f : Fld) (hf : T f.off) :
    SameBut b (c.inc f) T := same_setWord h _ _ hf

theorem same_raise {b c : Blk} {T : Nat → Prop} (h : SameBut b c T) (code src : Nat) (i : List Int)
    (hf : T R.HIF_EVDROP_COUNT.off) : SameBut b (c.raise code src i) T :=
  fun x hx => (Blk.raise_word c code src i (fun e : x = R.HIF_EVDROP_COUNT.off => hx (e.symm ▸ hf))).trans (h x hx)

theorem same_raiseLim {b c : Blk} {T : Nat → Prop} (h : SameBut b c T) (k code src : Nat) (i : List Int)
    (hf : T R.HIF_EVDROP_COUNT.off) : SameBut b (c.raiseLim k code src i) T :=
  fun x hx => (Blk.raiseLim_word c k code src i (fun e : x = R.HIF_EVDROP_COUNT.off => hx (e.symm ▸ hf))).trans (h x hx)

theorem same_onDrv {b c : Blk} {T : Nat → Prop} (h : SameBut b c T) (n : Nat) (f : Drive → Drive) :
    SameBut b (c.onDrv n f) T := fun a ha => h a ha
theorem same_onSeq {b c : Blk} {T : Nat → Prop} (h : SameBut b c T) (n : Nat) (f : Seq → Seq) :
    SameBut b (c.onSeq n f) T := fun a ha => h a ha
theorem same_onDc {b c : Blk} {T : Nat → Prop} (h : SameBut b c T) (n : Nat) (f : DcLink → DcLink) :
    SameBut b (c.onDc n f) T := fun a ha => h a ha
theorem same_onStp {b c : Blk} {T : Nat → Prop} (h : SameBut b c T) (n : Nat) (f : Stepper → Stepper) :
    SameBut b (c.onStp n f) T := fun a ha => h a ha
theorem same_onAxis {b c : Blk} {T : Nat → Prop} (h : SameBut b c T) (n : Nat) (f : Axis → Axis) :
    SameBut b (c.onAxis n f) T := fun a ha => h a ha
theorem same_onPort {b c : Blk} {T : Nat → Prop} (h : SameBut b c T) (n : Nat) (f : Port → Port) :
    SameBut b (c.onPort n f) T := fun a ha => h a ha
theorem same_onChan {b c : Blk} {T : Nat → Prop} (h : SameBut b c T) (n : Nat) (f : Chan → Chan) :
    SameBut b (c.onChan n f) T := fun a ha => h a ha
theorem same_onTun {b c : Blk} {T : Nat → Prop} (h : SameBut b c T) (n : Nat) (f : Tuner → Tuner) :
    SameBut b (c.onTun n f) T := fun a ha => h a ha
theorem same_onGrp {b c : Blk} {T : Nat → Prop} (h : SameBut b c T) (n : Nat) (f : ShrGrp → ShrGrp) :
    SameBut b (c.onGrp n f) T := fun a ha => h a ha
theorem same_onSto {b c : Blk} {T : Nat → Prop} (h : SameBut b c T) (n : Nat) (f : Sto → Sto) :
    SameBut b (c.onSto n f) T := fun a ha => h a ha
theorem same_onHch {b c : Blk} {T : Nat → Prop} (h : SameBut b c T) (n : Nat) (f : HaspCh → HaspCh) :
    SameBut b (c.onHch n f) T := fun a ha => h a ha
theorem same_onAfe {b c : Blk} {T : Nat → Prop} (h : SameBut b c T) (f : Afe → Afe) :
    SameBut b (c.onAfe f) T := fun a ha => h a ha
theorem same_onHost {b c : Blk} {T : Nat → Prop} (h : SameBut b c T) (f : HostIf → HostIf) :
    SameBut b (c.onHost f) T := fun a ha => h a ha

/-- A completion decided leaves every word. -/
theorem same_complete {b c : Blk} {T : Nat → Prop} (h : SameBut b c T) (hd : Hdr) (op st d : Nat) :
    SameBut b (c.complete hd op st d) T := fun a ha => h a ha

/-- A fold over units changes what its steps may change. -/
theorem same_foldl {α : Type} {T : Nat → Prop} (l : List α) (f : Blk → α → Blk)
    (h : ∀ b x, x ∈ l → SameBut b (f b x) T) (b : Blk) : SameBut b (l.foldl f b) T := by
  induction l generalizing b with
  | nil => exact same_refl b T
  | cons x l ih =>
    exact same_trans (h b x List.mem_cons_self) (ih (fun b y hy => h b y (List.mem_cons_of_mem _ hy)) _)

theorem same_each {T : Nat → Prop} (n : Nat) (f : Nat → Blk → Blk) (h : ∀ i, i < n → ∀ b, SameBut b (f i b) T) (b : Blk) :
    SameBut b (b.each n f) T :=
  same_foldl _ _ (fun b x hx => h x (List.mem_range.mp hx) b) b

theorem same_eachOf {T : Nat → Prop} (l : List Nat) (f : Nat → Blk → Blk) (h : ∀ i, i ∈ l → ∀ b, SameBut b (f i b) T)
    (b : Blk) : SameBut b (b.eachOf l f) T :=
  same_foldl _ _ (fun b x hx => h x hx b) b

/-- A field outside the touched words is as before. -/
theorem same_rd {b c : Blk} {T : Nat → Prop} (h : SameBut b c T) (f : Fld) (hf : ¬ T f.off) : c.rd f = b.rd f := by
  simp [Blk.rd, h _ hf]

theorem same_on {b c : Blk} {T : Nat → Prop} (h : SameBut b c T) (f : Fld) (hf : ¬ T f.off) : c.on f = b.on f := by
  simp [Blk.on, same_rd h f hf]

end Sys2Proof.Machine
end

