-- ==== Sys2Proof/Laws/Gate.lean ====
section
/-! SUPPORT. Which register words the end of pulses may change (R74, R131, R229, R253). -/

namespace Sys2Proof.Machine

/-- The words of MPG axis a. -/
def axisWords (a x : Nat) : Prop := 0xD400 + 0x40 * a ≤ x ∧ x < 0xD440 + 0x40 * a

/-- HIF_EVDROP, which every event may count in. -/
def dropWord (x : Nat) : Prop := x = R.HIF_EVDROP_COUNT.off

/-- The LE_CAPSTAT words. -/
def capWords (x : Nat) : Prop := ∃ k, k < 5 ∧ x = (R.LE_CAPSTAT_CAP k).off

/-- What an abrupt stop of axis a may change. -/
def stopWords (a x : Nat) : Prop := axisWords a x ∨ dropWord x ∨ (8 ≤ a ∧ x = (R.Sn_STAT_PUNC (a - 8)).off)

/-- What a block of drive n may change: Dn_STAT, Dn_SSTAT, Dn_CSTAT, Dn_PINS, the captures, axis n, HIF_EVDROP. -/
def blockWords (n x : Nat) : Prop :=
  x = (R.Dn_STAT_PSTATE n).off ∨ x = (R.Dn_SSTAT_SSTATE n).off ∨ x = (R.Dn_CSTAT_SECTOR n).off ∨
    x = (R.Dn_PINS_DRV n).off ∨ capWords x ∨ axisWords n x ∨ dropWord x

theorem showAxis_same (b : Blk) (a : Nat) : SameBut b (b.showAxis a) (axisWords a) := by
  unfold Blk.showAxis
  dsimp only
  have h : ∀ o, 0 ≤ o → o < 0x40 → axisWords a (0xD400 + 0x40 * a + o) := fun o _ _ => ⟨by omega, by omega⟩
  refine same_wrS (same_wrS (same_wrS (same_wr (same_wrSat (same_wr (same_refl _ _) _ _ ?_) _ _ ?_) _ _ ?_) _ _ ?_) _ _ ?_) _ _ ?_
  all_goals
    show 0xD400 + 0x40 * a ≤ _ ∧ _ < 0xD440 + 0x40 * a
    simp only [R.MPG_STAT_STATE, R.MPG_STAT_QLEN, R.MPG_PREF_PINT, R.MPG_REM_REM, R.MPG_VREF_V, R.MPG_AREF_A]
    omega

theorem suspendMove_same (b : Blk) (a : Nat) : SameBut b (b.suspendMove a) (axisWords a) := by
  have hd : axisWords a (R.MPG_STAT_DONE a).off := by
    show 0xD400 + 0x40 * a ≤ _ ∧ _ < 0xD440 + 0x40 * a
    simp only [R.MPG_STAT_DONE]
    omega
  unfold Blk.suspendMove Blk.endMove
  repeat' split
  all_goals first
    | exact same_refl _ _
    | exact same_onAxis (same_refl _ _) _ _
    | exact same_inc (same_onAxis (same_refl _ _) _ _) _ hd

theorem abruptStop_same (b : Blk) (a : Nat) : SameBut b (b.abruptStop a) (stopWords a) := by
  have hs : ∀ c : Blk, SameBut b c (stopWords a) → SameBut b (c.showAxis a) (stopWords a) :=
    fun c h => same_trans h (same_mono (showAxis_same c a) (fun _ => .inl))
  have hm : ∀ f, SameBut b ((b.suspendMove a).onAxis a f) (stopWords a) :=
    fun f => same_onAxis (same_mono (suspendMove_same b a) (fun _ => .inl)) a f
  unfold Blk.abruptStop
  split
  · refine same_raise (hs _ ?_) _ _ _ (.inr (.inl rfl))
    split
    · exact hm _
    · exact same_flag (hm _) _ _ (.inr (.inr ⟨by omega, rfl⟩))
  · exact same_refl _ _

theorem capWithInj_same (b : Blk) (k : Nat) (T : Nat → Prop) (hT : T (R.LE_CAPSTAT_CAP k).off) :
    SameBut b (b.capWithInj k) T := by
  unfold Blk.capWithInj
  split
  · exact same_onTun (same_wr (same_refl b T) _ _ hT) _ _
  · exact same_refl _ _

theorem abortInjOn_same (b : Blk) (k c r : Nat) (hk : k < 5) :
    SameBut b (b.abortInjOn k c r) (fun x => capWords x ∨ dropWord x) := by
  unfold Blk.abortInjOn
  split
  · dsimp only
    refine same_trans ?_ (capWithInj_same _ _ _ (.inl ⟨k, hk, rfl⟩))
    refine same_raise ?_ _ _ _ (.inr rfl)
    split
    · exact same_complete (same_onTun (same_wr (same_refl b _) _ _ (.inl ⟨k, hk, rfl⟩)) _ _) _ _ _ _
    · exact same_onTun (same_wr (same_refl b _) _ _ (.inl ⟨k, hk, rfl⟩)) _ _
  · exact same_refl _ _

theorem abortInj_same (b : Blk) (c r : Nat) : SameBut b (b.abortInj c r) (fun x => capWords x ∨ dropWord x) :=
  same_each 5 _ (fun k hk b => abortInjOn_same b k c r hk) b

/-- What the end of a start sequence may change. -/
theorem seqIdle_same (b : Blk) (n : Nat) :
    SameBut b (b.seqIdle n) (fun x => x = (R.Dn_SSTAT_SSTATE n).off ∨ x = (R.Dn_CSTAT_SECTOR n).off) := by
  unfold Blk.seqIdle
  dsimp only
  exact same_onSeq (same_flag (same_wr (same_wr (same_refl b _) _ _ (.inl rfl)) _ _ (.inr rfl)) _ _ (.inr rfl)) _ _

/-- What a block changes beside Dn_STAT. -/
def blockRest (n x : Nat) : Prop :=
  x = (R.Dn_SSTAT_SSTATE n).off ∨ x = (R.Dn_CSTAT_SECTOR n).off ∨ x = (R.Dn_PINS_DRV n).off ∨ capWords x ∨
    axisWords n x ∨ dropWord x

/-- The end of a drive's pulses: PSTATE is written, and nothing more of Dn_STAT. -/
theorem blockTo_rest (b : Blk) (n ps : Nat) (hn : n < 8) :
    SameBut (b.wr (R.Dn_STAT_PSTATE n) ps) (b.blockTo n ps) (blockRest n) := by
  have h0 : SameBut (b.wr (R.Dn_STAT_PSTATE n) ps)
      (((b.wr (R.Dn_STAT_PSTATE n) ps).seqIdle n).flag (R.Dn_CSTAT_HOBL n) false) (blockRest n) :=
    same_flag (same_mono (seqIdle_same _ n) (fun a h => by
      rcases h with h | h
      · exact .inl h
      · exact .inr (.inl h))) _ _ (.inr (.inl rfl))
  have h1 : ∀ c : Blk, SameBut (b.wr (R.Dn_STAT_PSTATE n) ps) c (blockRest n) →
      SameBut (b.wr (R.Dn_STAT_PSTATE n) ps) (c.pinsOff n) (blockRest n) := fun c h =>
    same_wr (same_wr h _ _ (.inr (.inr (.inl rfl)))) _ _ (.inr (.inr (.inl rfl)))
  unfold Blk.blockTo
  dsimp only
  split
  · refine same_trans (same_trans (h1 _ (same_onDrv h0 _ _)) (same_mono (abortInj_same _ n 2) (fun a h => ?_)))
      (same_mono (abruptStop_same _ n) (fun a h => ?_))
    · rcases h with h | h
      · exact .inr (.inr (.inr (.inl h)))
      · exact .inr (.inr (.inr (.inr (.inr h))))
    · rcases h with h | h | ⟨h, _⟩
      · exact .inr (.inr (.inr (.inr (.inl h))))
      · exact .inr (.inr (.inr (.inr (.inr h))))
      · omega
  · exact h1 _ (same_onDrv h0 _ _)

/-- What the end of a drive's pulses may change. -/
theorem blockTo_same (b : Blk) (n ps : Nat) (hn : n < 8) : SameBut b (b.blockTo n ps) (blockWords n) :=
  same_trans (same_wr (same_refl b _) _ _ (.inl rfl)) (same_mono (blockTo_rest b n ps hn) (fun _ h => .inr h))

/-- A drive's window lies apart from the words that a block changes elsewhere. -/
theorem stat_not_rest {n : Nat} (hn : n < 8) : ¬ blockRest n (R.Dn_STAT_PSTATE n).off := by
  rintro (h | h | h | ⟨k, hk, h⟩ | h | h)
  all_goals
    simp only [R.Dn_STAT_PSTATE, R.Dn_SSTAT_SSTATE, R.Dn_CSTAT_SECTOR, R.Dn_PINS_DRV, R.LE_CAPSTAT_CAP, dropWord, axisWords,
      R.HIF_EVDROP_COUNT] at h
    omega

/-- PSTATE after the end of pulses. -/
theorem blockTo_pstate (b : Blk) (n ps : Nat) (hn : n < 8) (hp : ps < 8) : (b.blockTo n ps).pstate n = ps := by
  unfold Blk.pstate
  rw [same_rd (blockTo_rest b n ps hn) _ (stat_not_rest hn), Blk.rd_wr_self _ _ _ (by simp [Fld.inWord, R.Dn_STAT_PSTATE])]
  simp only [R.Dn_STAT_PSTATE]
  omega

/-- Switching the gates of drive n changes Dn_PINS alone. -/
theorem gatesTo_same (b : Blk) (n new wait : Nat) :
    SameBut b (b.gatesTo n new wait) (fun x => x = (R.Dn_PINS_DRV n).off) := by
  unfold Blk.gatesTo
  refine same_onDrv (same_wr (same_wr (same_refl _ _) _ _ ?_) _ _ ?_) n _ <;>
    simp only [R.Dn_PINS_DRV, R.Dn_PINS_ACTV]

/-- The end of the dead times of drive n changes Dn_PINS alone. -/
theorem deadEnd_same (b : Blk) (n : Nat) : SameBut b (b.deadEnd n) (fun x => x = (R.Dn_PINS_DRV n).off) := by
  unfold Blk.deadEnd
  dsimp only
  split
  · exact same_refl _ _
  · refine same_onDrv (same_wr (same_refl _ _) _ _ ?_) n _
    simp only [R.Dn_PINS_DRV, R.Dn_PINS_ACTV]

/-- The pins of an active short circuit of drive n change Dn_PINS alone. -/
theorem pinsAsc_same (b : Blk) (n on : Nat) : SameBut b (b.pinsAsc n on) (fun x => x = (R.Dn_PINS_DRV n).off) :=
  gatesTo_same b n _ _

/-- An active short circuit leaves PSTATE. -/
theorem pinsAsc_pstate (b : Blk) (n on : Nat) : (b.pinsAsc n on).pstate n = b.pstate n := by
  refine same_rd (pinsAsc_same b n on) (R.Dn_STAT_PSTATE n) ?_
  show ¬ (_ : Nat) = _
  simp only [R.Dn_STAT_PSTATE, R.Dn_PINS_DRV]
  omega

end Sys2Proof.Machine
end

