-- ==== Sys2Proof/Laws/Memory.lean ====
section
/-! SUPPORT. What the Bedrock store answers: a byte written is read back, another byte is as before, and every operation
on the store keeps its canonical form. -/

namespace Sys2Proof.Machine

theorem memGet_drop_self (m : List Host.Cell) (a : Nat) : memGet (memDrop m a) a = 0 := by
  induction m with
  | nil => rfl
  | cons e m ih =>
    by_cases h : e.1 = a
    · have : (e.1 != a) = false := by simp [h]
      simpa [memDrop, this] using ih
    · have : (e.1 != a) = true := by simpa using h
      simpa [memDrop, this, memGet, h] using ih

theorem memGet_drop_ne (m : List Host.Cell) {a c : Nat} (h : c ≠ a) : memGet (memDrop m a) c = memGet m c := by
  induction m with
  | nil => rfl
  | cons e m ih =>
    by_cases he : e.1 = a
    · have h1 : (e.1 != a) = false := by simp [he]
      have h2 : e.1 ≠ c := by omega
      simpa [memDrop, h1, memGet, h2] using ih
    · by_cases hc : e.1 = c
      · unfold memDrop
        rw [List.filter_cons_of_pos (by simpa using he)]
        simp [memGet, hc]
      · have h1 : (e.1 != a) = true := by simpa using he
        simpa [memDrop, h1, memGet, hc] using ih

theorem memGet_ins_ne (m : List Host.Cell) {a c : Nat} (v : Byte) (h : c ≠ a) : memGet (memIns a v m) c = memGet m c := by
  have h' : a ≠ c := fun x => h x.symm
  induction m with
  | nil => simp [memIns, memGet, h']
  | cons e m ih =>
    by_cases hl : a < e.1
    · simp [memIns, hl, memGet, h']
    · by_cases hc : e.1 = c
      · rw [memIns, if_neg hl]
        simp [memGet, hc]
      · simpa [memIns, hl, memGet, hc] using ih

theorem memGet_ins_self (m : List Host.Cell) (a : Nat) (v : Byte) (h : ∀ e ∈ m, e.1 ≠ a) : memGet (memIns a v m) a = v := by
  induction m with
  | nil => simp [memIns, memGet]
  | cons e m ih =>
    have he := h e List.mem_cons_self
    by_cases hl : a < e.1
    · simp [memIns, hl, memGet]
    · simpa [memIns, hl, memGet, he] using ih (fun x hx => h x (List.mem_cons_of_mem _ hx))

/-- A byte written inside Bedrock is read back. -/
theorem memGet_memPut_self (m : List Host.Cell) {a : Nat} (v : Byte) (h : a < bedrockSize) : memGet (memPut m a v) a = v := by
  unfold memPut
  rw [if_neg (by omega)]
  split
  · rename_i hv
    rw [memGet_drop_self, hv]
  · exact memGet_ins_self _ _ _ (fun e he => by simpa [memDrop] using (List.mem_filter.mp he).2)

/-- Another byte is as before. -/
theorem memGet_memPut_ne (m : List Host.Cell) {a c : Nat} (v : Byte) (h : c ≠ a) : memGet (memPut m a v) c = memGet m c := by
  unfold memPut
  split
  · rfl
  · split
    · exact memGet_drop_ne m h
    · rw [memGet_ins_ne _ _ h, memGet_drop_ne m h]

/-- Bytes outside those written are as before. -/
theorem memGet_memPuts_out (l : List Byte) (m : List Host.Cell) {a c : Nat} (h : c < a ∨ a + l.length ≤ c) :
    memGet (memPuts m a l) c = memGet m c := by
  induction l generalizing m a with
  | nil => rfl
  | cons v l ih =>
    simp only [List.length_cons] at h
    rw [memPuts, ih _ (by omega), memGet_memPut_ne _ _ (by omega)]

/-- Bytes written are read back. -/
theorem memGet_memPuts_in (l : List Byte) (m : List Host.Cell) {a i : Nat} (h : i < l.length)
    (hb : a + l.length ≤ bedrockSize) : memGet (memPuts m a l) (a + i) = l.getD i 0 := by
  induction l generalizing m a i with
  | nil => simp at h
  | cons v l ih =>
    simp only [List.length_cons] at h hb
    rw [memPuts]
    cases i with
    | zero =>
      rw [memGet_memPuts_out _ _ (by omega)]
      simpa using memGet_memPut_self m v (a := a) (by omega)
    | succ i =>
      have := ih (m := memPut m a v) (a := a + 1) (i := i) (by omega) (by omega)
      rw [show a + 1 + i = a + (i + 1) by omega] at this
      simpa using this

theorem memRises_mono {lo lo' : Nat} (m : List Host.Cell) (h : lo' ≤ lo) (hm : memRises lo m = true) : memRises lo' m = true := by
  cases m with
  | nil => rfl
  | cons e m => simp [memRises] at hm ⊢; exact ⟨⟨⟨by omega, hm.1.1.2⟩, hm.1.2⟩, hm.2⟩

theorem memRises_drop (m : List Host.Cell) (lo a : Nat) (h : memRises lo m = true) : memRises lo (memDrop m a) = true := by
  induction m generalizing lo with
  | nil => rfl
  | cons e m ih =>
    simp [memRises] at h
    by_cases he : e.1 = a
    · have h1 : (e.1 != a) = false := by simp [he]
      have := ih _ (memRises_mono m (lo := e.1 + 1) (lo' := lo) (by omega) h.2)
      simpa [memDrop, h1] using this
    · have h1 : (e.1 != a) = true := by simpa using he
      have := ih _ h.2
      simp only [memDrop] at this
      simp [memDrop, h1, memRises, h, this]

theorem memRises_ins (m : List Host.Cell) (lo a : Nat) (v : Byte) (hv : v ≠ 0) (ha : a < bedrockSize) (hl : lo ≤ a)
    (hn : ∀ e ∈ m, e.1 ≠ a) (h : memRises lo m = true) : memRises lo (memIns a v m) = true := by
  induction m generalizing lo with
  | nil => simpa [memIns, memRises, ha, hl] using hv
  | cons e m ih =>
    simp [memRises] at h
    have he := hn e List.mem_cons_self
    by_cases hlt : a < e.1
    · have : a + 1 ≤ e.1 := hlt
      simp [memIns, hlt, memRises, hl, ha, this, h]
      simpa using hv
    · have := ih (e.1 + 1) (by omega) (fun x hx => hn x (List.mem_cons_of_mem _ hx)) h.2
      simp [memIns, hlt, memRises, h, this]

/-- Writing a byte keeps the canonical form. -/
theorem memPut_wf (m : List Host.Cell) (a : Nat) (v : Byte) (h : Memory.wf m = true) : Memory.wf (memPut m a v) = true := by
  unfold memPut
  split
  · exact h
  · split
    · exact memRises_drop _ _ _ h
    · exact memRises_ins _ _ _ _ (by assumption) (by omega) (by omega)
        (fun e he => by simpa [memDrop] using (List.mem_filter.mp he).2) (memRises_drop _ _ _ h)

/-- Writing bytes keeps the canonical form. -/
theorem memPuts_wf (l : List Byte) (m : List Host.Cell) (a : Nat) (h : Memory.wf m = true) :
    Memory.wf (memPuts m a l) = true := by
  induction l generalizing m a with
  | nil => exact h
  | cons v l ih => exact ih _ _ (memPut_wf _ _ _ h)

/-- A transfer into a slot keeps the canonical form. -/
theorem slotPuts_wf (m : List Host.Cell) (ofs : Nat) (data : List Byte) (h : Memory.wf m = true) :
    Memory.wf (slotPuts m ofs data) = true :=
  memPut_wf _ _ _ (memPut_wf _ _ _ (memPuts_wf _ _ _ h))

/-- The store at reset has the canonical form. -/
theorem reset_mem_wf : Memory.wf State.reset.mem = true := rfl

end Sys2Proof.Machine
end

