-- ==== Sys2Proof/Laws/Step.lean ====
section
/-! SUPPORT. What one step does: it takes the front of the queue, and idles on an empty queue. -/

namespace Sys2Proof.Machine

/-- With no command waiting the block idles. -/
theorem step_idle {s : State} (h : s.pending = []) : step s = .next s := by simp [step, h]

/-- The command at the front runs with the queue's rest. -/
theorem step_front {s : State} {c : Instr} {rest : List Instr} (h : s.pending = c :: rest) :
    step s = exec c { s with pending := rest } := by simp [step, h]

/-- Every command answers a next state. -/
theorem exec_next (c : Instr) (s : State) : ∃ t, exec c s = .next t := by
  cases c <;> exact ⟨_, rfl⟩

end Sys2Proof.Machine
end

