-- ==== Sys2Proof/Tests/Slice0.lean ====
section
/-! SUPPORT. Tests: ill-formed commands that the check refuses, values the manual works out, single steps, and for every
obligation states and operands that meet the hypotheses of each of its clauses together. -/

open Sys2Proof.Machine

namespace Sys2Proof.Tests

set_option Elab.async false

/-- Reset with every domain powered, register fields written and the rest of the block changed. -/
def st (l : List (Fld × Nat)) (f : Blk → Blk := id) : State :=
  { State.reset with blk := f (l.foldl (fun b x => b.wr x.1 x.2) (Blk.cold.wr R.PWR_DOMSTAT_ON 0xFFF)) }

/-- A domain powered. -/
def pw (d : Dom) : Fld × Nat := (bitOf R.PWR_DOMSTAT_ON d.bit, 1)

/-! Ill-formed commands, one for each check of `Instr.wf`, and well-formed ones. -/

/-- Samples of the right shape, with every value 0. -/
def quietSamples : Samples :=
  ⟨0, List.replicate 8 default, List.replicate 8 default, List.replicate 24 [], List.replicate 6 0, List.replicate 12 default, [], []⟩

/-- A CAN frame of 8 bytes; an Ethernet frame without a tag. -/
def canFrame8 : CanFrame := ⟨false, false, false, false, false, 0x7FF, 8, List.replicate 8 0⟩
def plainFrame : EthFrame := ⟨2, 4, none, none, 0x800, 64, [], true⟩

theorem test_wf_accepts :
    [Instr.samplePhase quietSamples [] [], .canFrameReceived 0 canFrame8 0 0, .lodeFrameReceived 1 plainFrame 0,
      .registerWrite 0x7FFFC 4 0, .nvsDmaWrite (List.replicate 64 0) 0, .descriptorFetch 0 [List.replicate 64 0] 0 false,
      .sllTxdata default 1 true 0 48 (List.replicate 48 0), .sramBankThreshold 0 [3], .fdbEntryAged (2 ^ 48 - 1),
      .latchingLowWordRead 0x1004, .canTx default 0 0 0 0 0 (List.replicate 64 0), .nop default].all Instr.wf = true := by
  decide +kernel

theorem test_wf_refuses_samples :
    [Instr.samplePhase { quietSamples with ain := [] } [] [],
      .samplePhase { quietSamples with drives := List.replicate 8 { (default : DriveSample) with iA := ⟨2 ^ 24 + 1, false⟩ } } [] [],
      .samplePhase { quietSamples with drives := List.replicate 8 { (default : DriveSample) with pvC := 65536 } } [] [],
      .samplePhase { quietSamples with steps := List.replicate 8 { (default : StepSample) with iB := ⟨2 ^ 24 + 1, false⟩ } } [] [],
      .samplePhase { quietSamples with ain := List.replicate 24 [65536] } [] [],
      .samplePhase { quietSamples with refs := [(0, [1])] } [] [], .samplePhase { quietSamples with again := [0, 0, 0, 0, 0] } [] [],
      .samplePhase { quietSamples with die := [] } [] [], .samplePhase { quietSamples with ssi := [] } [] []].all
      (fun c => !c.wf) = true := by
  decide +kernel

theorem test_wf_refuses_can_frames :
    [{ canFrame8 with id := 0x800 }, { canFrame8 with dlc := 16 }, { canFrame8 with data := [] },
      { canFrame8 with rtr := true }, { canFrame8 with rtr := true, fdf := true, data := [] },
      { canFrame8 with xtd := true, id := 2 ^ 29 }].all
      (fun f => !(Instr.canFrameReceived 0 f 0 0).wf && !(Instr.canWakeFrame 0 f).wf) = true := by
  decide +kernel

theorem test_wf_refuses_ethernet_frames :
    [{ plainFrame with dmac := 2 ^ 48 }, { plainFrame with smac := 2 ^ 48 }, { plainFrame with etype := 65536 },
      { plainFrame with vlan := some (4096, 0) }, { plainFrame with vlan := some (0, 8) },
      { plainFrame with rtag := some 65536 }].all (fun f => !(Instr.lodeFrameReceived 1 f 0).wf) = true := by
  decide +kernel

theorem test_wf_refuses_the_rest :
    [Instr.sllTxdata default 1 true 0 48 [], .descriptorFetch 0 [[]] 0 false,
      .canTx default 0 0 0 0 0 (List.replicate 65 0), .canStage default 0 0 0 0 (List.replicate 65 0),
      .haspSelfTestDone true [] [] [] 0 0, .domainsUp [] 0 [], .nvsDmaWrite [0] 0, .latchingLowWordRead 2,
      .registerWrite (2 ^ 19) 4 0, .registerWrite 0 16 0, .fdbEntryAged (2 ^ 48)].all (fun c => !c.wf) = true := by
  decide +kernel

/-! Values the manual works out. -/

/-- R348: the CRC-32C of "123456789". -/
theorem test_crc32c : crc32c [0x31, 0x32, 0x33, 0x34, 0x35, 0x36, 0x37, 0x38, 0x39] = 0xE3069283 := by decide +kernel

/-- The chapter Drive Channels: N_on at d = 0x2000 and at d = −32,000 with P_f = 800,000. -/
theorem test_conduction_time : Blk.cold.nOn 0 800000 0x2000 = 500000 ∧ Blk.cold.nOn 0 800000 (-32000) = 9375 := by
  decide +kernel

/-- The chapter Feedback Ports: θ_e of POS − IDXREF = 20,000 with CPR = 16,384, POLEP = 4, EOFS = 45°. -/
theorem test_electrical_angle :
    (st [(R.FBn_CPR_CPR 0, 16384), (R.FBn_ANG_EOFS 0, 0x2000), (R.Dn_CFG_EN 0, 1), (R.Dn_CMODE_SENS 0, 1),
      (R.Dn_SPDFS_POLEP 0, 4)]).blk.quadAngle 0 20000 = 512 := by
  decide +kernel

/-- The chapter Steppers and Profiles: the ballast valve move, with AMAX = DMAX at the first register value not below 0.005
(the example's 83,886 is below it, and na, nd would be 3,201). -/
theorem test_move_plan :
    (let p := planPhases (100003 * 2 ^ 32) 0 0 (0x100000 * 2 ^ 16) (0x147AF * 2 ^ 8) (0x147AF * 2 ^ 8)
     (p.1, p.2.1, p.2.2.1)) = (3200, 3051, 3200) ∧
    (st [(R.MPG_AMAX_AMAX 10, 0x147AE), (R.MPG_JMAX_JMAX 10, 0x68DC)]).blk.nJ 10 = 800 := by
  decide +kernel

/-- The chapter Host Interface: the lever at 49,807 gives r = 21,005 and a reference of 16,804. -/
theorem test_lever_reference :
    (let b := (st [(R.AFE_AIN_VAL 16, 49807), (R.AFE_AIN_VALID 16, 1), (R.HIF_LEVA_LMIN 0, 6554),
       (R.HIF_LEVA_LMAX 0, 58982), (R.HIF_LEVB_LMID 0, 32768), (R.HIF_LEVB_DB 0, 655), (R.HIF_LEVC_LBRK 0, 1311),
       (R.HIF_LSCL_LSCL 1, 0x6666)]).blk
     (b.leverR 0, b.leverRef 1)) = (21005, 16804) := by
  decide +kernel

/-- The chapter Strata: the exponent and the stored bins of 30,000,000, 4,000,000 and 5 frames. -/
theorem test_histogram_bins :
    binExp [30000000, 4000000, 5] = 17 ∧ binAt 17 30000000 = 229 ∧ binAt 17 4000000 = 31 ∧ binAt 17 5 = 1 := by
  decide +kernel

/-- The chapter Slalu: bytes 0 to 9 of the lever frame, and its 16-byte CAN data field. -/
theorem test_slalu_frame :
    (slaluBytes 0x11 5 0x1F3 1 0x5A170C05 [0x00, 0x20, 0x00, 0x40]).take 10 =
      [0x11, 0x05, 0xF3, 0x01, 0x04, 0x01, 0x00, 0x20, 0x00, 0x40] ∧ (canFieldFor 14).1 = 16 := by
  decide +kernel

/-- R138: a one-density of 9/16 gives 4,096 at an OSR of 64 (150 A with IFS = 1,200 A), and full scale saturates. -/
theorem test_sinc3 : sinc3Q15 1 147456 = 4096 ∧ sinc3Q15 1 262144 = 32767 ∧ sinc3Q15 0 0 = -32768 := by decide +kernel

/-! One step. -/

/-- What a step's next state shows; false where the step stops. -/
def shows (o : Host.Outcome State Fault Refusal) (f : Blk → Bool) : Bool :=
  match o with
  | .next t => f t.blk
  | _ => false

/-- R14: SYS_ID and TICK_PERIOD at reset. -/
theorem test_reset_words : Blk.cold.word R.SYS_ID_W.off = 0x01010860 ∧ Blk.cold.period = 25000 := by decide +kernel

/-- The idle block, and the command in front. -/
theorem test_step_takes_the_front :
    step State.reset = .next State.reset ∧ shows (step { st [pw .host] with pending := [.heartbeatDoorbell 0, .nop default] })
      (fun b => b.rd R.HIF_STAT_HB == 1) = true :=
  ⟨rfl, by decide +kernel⟩

/-- R33: FRAME_NO carries from its low to its high word at a tick. -/
theorem test_frame_number_carries :
    shows (step { st [(R.PWR_DOMSTAT_ON, 0), pw .fabric, (R.TICK_FRAME_NO_LO_FN_LO, 2 ^ 32 - 1)] (fun b => { b with pwr := { b.pwr with step := 8 } })
      with pending := [.frameTick ⟨0, [], []⟩ []] }) (fun b => b.fn == 2 ^ 32) = true := by
  decide +kernel

/-- The chapter Host Interface: SET_SPEED 13,107. -/
theorem test_set_speed :
    shows (exec (.setSpeed default 1 13107) (st [(R.Dn_CFG_EN 1, 1), (R.HIF_STAT_HB, 1)]))
      (fun b => (b.drv 1).ref == 13107) = true := by
  decide +kernel

/-- R79: a trip in RUN ends in TRIP_OFF, or in TRIP_ASC where the channel is set so. -/
theorem test_trip :
    shows (exec (.fastTrip 2) (st [pw .pwm, (R.Dn_CFG_EN 2, 1), (R.Dn_STAT_PSTATE 2, 1)])) (fun b => b.pstate 2 == 3) = true := by
  decide +kernel

/-- R9: a write of two bytes changes no register but counts as an error. -/
theorem test_narrow_write :
    shows (exec (.registerWrite 0x4010 2 5) (st [pw .host])) (fun b => b.word 0x4010 == Blk.cold.word 0x4010) = true := by
  decide +kernel

/-- R459: a transmit buffer that is requested wins the bus and is sent. -/
theorem test_can_sent :
    shows (exec (.canFrameSent 3) (st [pw .comm, (R.CANn_STAT_STATE 3, 3), (txbFld 3 1, 2)])) (fun b => b.txb 3 1 == 3) = true := by
  decide +kernel

/-! Witnesses: the hypotheses of every clause of every obligation can be met together. -/

/-- Record slots `k` to `k + n − 1`, each with a valid record of severity 3. -/
def fullFrom (k : Nat) : Nat → List Host.Cell
  | 0 => []
  | n + 1 => (recAt k + 3, 3) :: (recAt k + 60, 1) :: fullFrom (k + 1) n

/-- Bedrock with a record of severity 3 in every slot. -/
def fullStore : List Host.Cell := fullFrom 0 1024

/-- What those slots read as. -/
theorem fullFrom_get (n k i : Nat) (h : k ≤ i) (h2 : i < k + n) :
    memGet (fullFrom k n) (recAt i + 3) = 3 ∧ memGet (fullFrom k n) (recAt i + 60) = 1 := by
  induction n generalizing k with
  | zero => omega
  | succ n ih =>
    rcases Nat.eq_or_lt_of_le h with e | e
    · subst e
      simp [fullFrom, memGet]
    · have := ih (k + 1) e (by omega)
      unfold fullFrom memGet memGet recAt
      unfold recAt at this
      rw [if_neg (by omega), if_neg (by omega), if_neg (by omega), if_neg (by omega)]
      exact this

/-- No slot is left for a record of severity 0 where every slot holds one of severity 3. -/
theorem recPlace_full (m : List Host.Cell) (hg : ∀ i, i < 1024 → recSev m i = 3 ∧ recState m i = 1) (x : Nat) (hx : x = 0) :
    recPlace m x = none := by
  have hf : (List.range 1024).find? (fun i => recState m i == 0) = none := by
    rw [List.find?_eq_none]
    intro i hi
    rw [(hg i (List.mem_range.1 hi)).2]
    decide
  have hm : ∀ (l : List Nat) (a : Nat), (∀ i ∈ l, recSev m i = 3) → 3 ≤ a →
      3 ≤ l.foldl (fun s i => min s (recSev m i)) a := by
    intro l
    induction l with
    | nil => exact fun a _ ha => ha
    | cons y l ih =>
      intro a hl ha
      refine ih _ (fun i hi => hl i (List.mem_cons_of_mem _ hi)) ?_
      have := hl y (List.mem_cons_self ..)
      show 3 ≤ min a (recSev m y)
      omega
  have h3 := hm (List.range 1024) 255 (fun i hi => (hg i (List.mem_range.1 hi)).1) (by omega)
  unfold recPlace
  rw [hf]
  dsimp only
  rw [if_neg (by omega)]

/-- The full store is so. -/
theorem fullStore_full (i : Nat) (hi : i < 1024) : recSev fullStore i = 3 ∧ recState fullStore i = 1 := by
  have h := fullFrom_get 1024 0 i (by omega) (by omega)
  exact ⟨congrArg BitVec.toNat h.1, congrArg BitVec.toNat h.2⟩

/-- With 5 in every bin of the table, a count of 100,000 differs, whatever the bin. -/
theorem trim_differs (b : Blk) (h : b.afe.tabF = List.replicate 64 (some 5)) (hp : b.rd R.CLK_CFG_PLAUS = 1) (t : Int) :
    b.trimDiffers 100000 (trimBin t) = true := by
  have h1 : trimBin t < 64 := by unfold trimBin satI; split <;> [skip; split] <;> omega
  have h2 : b.afe.tabF.getD (trimBin t) none = some 5 := by
    rw [h, List.getD_eq_getElem?_getD, List.getElem?_replicate, if_pos h1]
    rfl
  unfold Blk.trimDiffers
  rw [h2]
  simp only [hp]
  decide

/-- With an empty table no count differs. -/
theorem trim_agrees (b : Blk) (h : b.afe.tabF = List.replicate 64 none) (n : Nat) (t : Int) :
    b.trimDiffers n (trimBin t) = false := by
  have h2 : b.afe.tabF.getD (trimBin t) none = none := by
    rw [h, List.getD_eq_getElem?_getD, List.getElem?_replicate]
    split <;> rfl
  unfold Blk.trimDiffers
  rw [h2]

/-- The hypotheses of `Obligations.TripAtPin` can be met. -/
theorem wit_TripAtPin :
    (∃ (s : State) (n : Fin 8) (filtered : Bool) (c : Instr),
      c = (if filtered then Instr.filteredTripAccept n else Instr.fastTrip n) ∧ s.blk.powered .pwm = false) ∧
    (∃ (s : State) (n : Fin 8) (filtered : Bool) (c : Instr),
      c = (if filtered then Instr.filteredTripAccept n else Instr.fastTrip n) ∧ (s.blk.on (R.Dn_CFG_EN n) = false ∨ s.blk.on (R.Dn_TRIP_FEN n) ≠ filtered)) ∧
    (∃ (s : State) (n : Fin 8) (filtered : Bool) (c : Instr),
      c = (if filtered then Instr.filteredTripAccept n else Instr.fastTrip n) ∧ s.blk.on (R.Dn_CFG_EN n) = true ∧ s.blk.on (R.Dn_TRIP_FEN n) = filtered ∧ s.blk.powered .pwm = true ∧ s.blk.pstate n ≤ 2) ∧
    (∃ (s : State) (n : Fin 8) (filtered : Bool) (c : Instr),
      c = (if filtered then Instr.filteredTripAccept n else Instr.fastTrip n) ∧ s.blk.on (R.Dn_CFG_EN n) = true ∧ s.blk.on (R.Dn_TRIP_FEN n) = filtered ∧ s.blk.powered .pwm = true ∧ (s.blk.pstate n = 3 ∨ s.blk.pstate n = 4)) ∧
    (∃ (s : State) (n : Fin 8) (filtered : Bool) (c : Instr),
      c = (if filtered then Instr.filteredTripAccept n else Instr.fastTrip n) ∧ s.blk.on (R.Dn_CFG_EN n) = true ∧ s.blk.on (R.Dn_TRIP_FEN n) = filtered ∧ s.blk.powered .pwm = true ∧ s.blk.pstate n = 5) :=
  ⟨⟨(st [(R.PWR_DOMSTAT_ON, 0)]), 0, true, _, rfl, by decide +kernel⟩,
    ⟨(st [(R.Dn_CFG_EN 0, 1), (R.Dn_TRIP_FEN 0, 1)]), 0, false, _, rfl, by decide +kernel⟩,
    ⟨(st [pw .pwm, (R.Dn_CFG_EN 0, 1), (R.Dn_TRIP_FEN 0, 1), (R.Dn_STAT_PSTATE 0, 2)]), 0, true, _, rfl, by decide +kernel⟩,
    ⟨(st [pw .pwm, (R.Dn_CFG_EN 0, 1), (R.Dn_STAT_PSTATE 0, 3)]), 0, false, _, rfl, by decide +kernel⟩,
    ⟨(st [pw .pwm, (R.Dn_CFG_EN 7, 1), (R.Dn_STAT_PSTATE 7, 5)]), 7, false, _, rfl, by decide +kernel⟩⟩

/-- The hypotheses of `Obligations.OvercurrentTrips` can be met. -/
theorem wit_OvercurrentTrips :
    (∃ (s : State) (n : Fin 8),
      s.blk.powered .pwm = true ∧ s.blk.on (R.Dn_CFG_EN n) = true ∧ s.blk.on (R.Dn_TRIP_FEN n) = true) ∧
    (∃ (s : State) (c : Fin 16) (outs : List (Int × Int)),
      c.val < 8 ∧ s.blk.on (R.Dn_CFG_EN c) = true ∧ s.blk.rd (R.AFE_OCTH_OCTH c) ≠ 0 ∧ s.blk.ocReached c outs ≠ [] ∧ s.blk.powered .afe = true ∧ s.blk.powered .pwm = true ∧ s.blk.on (R.Dn_TRIP_OC_EN c) = true ∧ s.blk.pstate c ≤ 2) ∧
    (∃ (s : State) (c : Fin 16) (outs : List (Int × Int)),
      8 ≤ c.val ∧ s.blk.on (R.Sn_CFG_EN (c.val - 8)) = true ∧ s.blk.rd (R.AFE_OCTH_OCTH c) ≠ 0 ∧ s.blk.ocReached c outs ≠ [] ∧ s.blk.powered .afe = true ∧ (s.blk.stpState (c.val - 8) = 1 ∨ s.blk.stpState (c.val - 8) = 2)) ∧
    (∃ (s : State) (c : Fin 16) (outs : List (Int × Int)),
      (s.blk.configured c = false ∨ s.blk.rd (R.AFE_OCTH_OCTH c) = 0 ∨ s.blk.ocReached c outs = [])) :=
  ⟨⟨(st [(R.Dn_CFG_EN 7, 1), (R.Dn_TRIP_FEN 7, 1)]), 7, by decide +kernel⟩,
    ⟨(st [pw .pwm, pw .afe, (R.Dn_CFG_EN 7, 1), (R.AFE_OCTH_OCTH 7, 1000), (R.Dn_TRIP_OC_EN 7, 1), (R.Dn_STAT_PSTATE 7, 2)]), 7, ([(2000, 0), (2000, 0), (2000, 0), (2000, 0), (2000, 0), (2000, 0), (2000, 0), (2000, 0)]), by decide +kernel⟩,
    ⟨(st [pw .afe, (R.Sn_CFG_EN 0, 1), (R.AFE_OCTH_OCTH 8, 1000), (R.Sn_STAT_SSTATE 0, 1)]), 8, ([(2000, 0), (2000, 0), (2000, 0), (2000, 0), (2000, 0), (2000, 0), (2000, 0), (2000, 0)]), by decide +kernel⟩,
    ⟨(st [(R.Sn_CFG_EN 7, 1), (R.AFE_OCTH_OCTH 15, 1000)]), 15, ([]), by decide +kernel⟩⟩

/-- The hypotheses of `Obligations.GateReadyInput` can be met. -/
theorem wit_GateReadyInput :
    (∃ (s : State),
      s.blk.powered .pwm = true) ∧
    (∃ (s : State) (n : Fin 8),
      s.blk.powered .pwm = true ∧ s.blk.on (R.Dn_CFG_EN n) = true ∧ s.blk.on (R.Dn_CFG_GRDY_EN n) = true ∧ (s.blk.pstate n = 1 ∨ s.blk.pstate n = 2)) ∧
    (∃ (s : State) (n : Fin 8),
      s.blk.powered .pwm = true ∧ s.blk.on (R.Dn_CFG_EN n) = true ∧ s.blk.on (R.Dn_CFG_GRDY_EN n) = true ∧ s.blk.pstate n = 4) :=
  ⟨⟨(st []), by decide +kernel⟩,
    ⟨(st [(R.Dn_CFG_EN 0, 1), (R.Dn_CFG_GRDY_EN 0, 1), (R.Dn_STAT_PSTATE 0, 1)]), 0, by decide +kernel⟩,
    ⟨(st [(R.Dn_CFG_EN 0, 1), (R.Dn_CFG_GRDY_EN 0, 1), (R.Dn_STAT_PSTATE 0, 4)]), 0, by decide +kernel⟩⟩

/-- The hypotheses of `Obligations.SoftStepCommutation` can be met. -/
theorem wit_SoftStepCommutation :
    (∃ (s : State) (n : Fin 8) (ph : Fin 3) (rising : Bool) (tin tout : BitVec 32) (age x : Nat) (at_ soft : Int) (good : Prop),
      x = add32 tin.toNat (diff32 tout.toNat tin.toNat / 2) ∧ at_ = s.blk.intoSector n x ∧ soft = s.blk.rd (R.Dn_SOFT_SOFT n) ∧ (good = (ph.val = (legsOf (s.blk.rd (R.Dn_CSTAT_SECTOR n)) 1).2.2 ∧ rising = risingIn (s.blk.rd (R.Dn_CSTAT_SECTOR n)) ∧ fromHalfUnits (soft + 2 * s.blk.rd (R.Dn_SOFT_BLANK n)) ≤ at_ ∧ at_ ≤ fromHalfUnits (960 - soft) ∧ s.blk.rd (R.Dn_ZC_EBLANK n) ≤ age)) ∧ good ∧ s.blk.powered .afe = true ∧ s.blk.configured n = true ∧ s.blk.sstate n ≠ 1 ∧ s.blk.sstate n ≠ 2 ∧ s.blk.softRuns n = true ∧ (s.blk.seq n).seen = false) ∧
    (∃ (s : State) (n : Fin 8) (ph : Fin 3) (rising : Bool) (tin tout : BitVec 32) (age x : Nat) (at_ soft : Int) (good : Prop),
      x = add32 tin.toNat (diff32 tout.toNat tin.toNat / 2) ∧ at_ = s.blk.intoSector n x ∧ soft = s.blk.rd (R.Dn_SOFT_SOFT n) ∧ (good = (ph.val = (legsOf (s.blk.rd (R.Dn_CSTAT_SECTOR n)) 1).2.2 ∧ rising = risingIn (s.blk.rd (R.Dn_CSTAT_SECTOR n)) ∧ fromHalfUnits (soft + 2 * s.blk.rd (R.Dn_SOFT_BLANK n)) ≤ at_ ∧ at_ ≤ fromHalfUnits (960 - soft) ∧ s.blk.rd (R.Dn_ZC_EBLANK n) ≤ age)) ∧ good ∧ s.blk.powered .afe = true ∧ s.blk.configured n = true ∧ s.blk.sstate n ≠ 1 ∧ s.blk.sstate n ≠ 2 ∧ s.blk.softRuns n = true ∧ (s.blk.seq n).seen = true) ∧
    (∃ (s : State) (n : Fin 8) (ph : Fin 3) (rising : Bool) (tin tout : BitVec 32) (age x : Nat) (at_ soft : Int) (good : Prop),
      x = add32 tin.toNat (diff32 tout.toNat tin.toNat / 2) ∧ at_ = s.blk.intoSector n x ∧ soft = s.blk.rd (R.Dn_SOFT_SOFT n) ∧ (good = (ph.val = (legsOf (s.blk.rd (R.Dn_CSTAT_SECTOR n)) 1).2.2 ∧ rising = risingIn (s.blk.rd (R.Dn_CSTAT_SECTOR n)) ∧ fromHalfUnits (soft + 2 * s.blk.rd (R.Dn_SOFT_BLANK n)) ≤ at_ ∧ at_ ≤ fromHalfUnits (960 - soft) ∧ s.blk.rd (R.Dn_ZC_EBLANK n) ≤ age)) ∧ ¬ good ∧ s.blk.powered .afe = true ∧ s.blk.configured n = true ∧ s.blk.sstate n ≠ 1 ∧ s.blk.sstate n ≠ 2 ∧ s.blk.softRuns n = true) ∧
    (∃ (s : State) (n : Fin 8),
      s.blk.powered .afe = true ∧ s.blk.configured n = true ∧ (s.blk.sstate n = 1 ∨ s.blk.sstate n = 2)) ∧
    (∃ (s : State) (n : Fin 8) (st : BitVec 32),
      s.blk.powered .fabric = true ∧ s.blk.powered .pwm = true ∧ s.blk.softRuns n = true ∧ s.blk.commDue n st.toNat = true) ∧
    (∃ (s : State) (n : Fin 8),
      s.blk.powered .fabric = true ∧ s.blk.softRuns n = true ∧ 0 < (s.blk.seq n).missed ∧ s.blk.rd (R.Dn_ZC_MISS n) ≤ (s.blk.seq n).missed) ∧
    (∃ (s : State) (n : Fin 8) (k : Nat),
      (∃ x, (s.blk.seq n).acq = some (k, x)) ∧ s.blk.powered .fabric = true ∧ 12 ≤ k ∧ s.blk.pstate n = 1 ∧ s.blk.runState n = 1) :=
  ⟨⟨(st [(R.Dn_CSTAT_CUR 0, 1), (R.Dn_CFG_EN 0, 1), (R.Dn_STAT_PSTATE 0, 1), (R.Dn_CSTAT_SECTOR 0, 1), (R.Dn_CSTAT_SYNC 0, 1), (R.Dn_TSEC_TS 0, 1000), (R.Dn_CMODE_SENS 0, 0)] fun b => { b with seqs := [{ (default : Seq) with dir := 1, seen := false }] }), 0, 1, true, 500, 500, 4000, _, _, _, _, rfl, rfl, rfl, rfl, by decide +kernel, by decide +kernel⟩,
    ⟨(st [(R.Dn_CSTAT_CUR 0, 1), (R.Dn_CFG_EN 0, 1), (R.Dn_STAT_PSTATE 0, 1), (R.Dn_CSTAT_SECTOR 0, 1), (R.Dn_CSTAT_SYNC 0, 1), (R.Dn_TSEC_TS 0, 1000), (R.Dn_CMODE_SENS 0, 0)] fun b => { b with seqs := [{ (default : Seq) with dir := 1, seen := true }] }), 0, 1, true, 500, 500, 4000, _, _, _, _, rfl, rfl, rfl, rfl, by decide +kernel, by decide +kernel⟩,
    ⟨(st [(R.Dn_CSTAT_CUR 0, 1), (R.Dn_CFG_EN 0, 1), (R.Dn_STAT_PSTATE 0, 1), (R.Dn_CSTAT_SECTOR 0, 1), (R.Dn_CSTAT_SYNC 0, 1), (R.Dn_TSEC_TS 0, 1000), (R.Dn_CMODE_SENS 0, 0)] fun b => { b with seqs := [{ (default : Seq) with dir := 1, seen := false }] }), 0, 2, true, 500, 500, 4000, _, _, _, _, rfl, rfl, rfl, rfl, by decide +kernel, by decide +kernel⟩,
    ⟨(st [(R.Dn_CFG_EN 0, 1), (R.Dn_SSTAT_SSTATE 0, 2)]), 0, by decide +kernel⟩,
    ⟨(st [(R.Dn_STAT_PSTATE 0, 1), (R.Dn_CSTAT_SECTOR 0, 1), (R.Dn_SSTAT_SSTATE 0, 5)] fun b => { b with seqs := [{ (default : Seq) with dir := 1, thCmd := 0 }] }), 0, 0, by decide +kernel⟩,
    ⟨(st [(R.Dn_CFG_EN 0, 1), (R.Dn_STAT_PSTATE 0, 1), (R.Dn_CSTAT_SECTOR 0, 6), (R.Dn_ZC_MISS 0, 3)] fun b => { b with seqs := [{ (default : Seq) with missed := 3 }] }), 0, by decide +kernel⟩,
    ⟨(st [(R.Dn_STAT_PSTATE 0, 1)] fun b => { b with seqs := [{ (default : Seq) with acq := some (12, 1) }] }), 0, 12, ⟨1, by decide +kernel⟩, by decide +kernel⟩⟩

/-- The hypotheses of `Obligations.HandoverAndRampStop` can be met. -/
theorem wit_HandoverAndRampStop :
    (∃ (s : State) (n : Fin 8),
      s.blk.powered .fabric = true ∧ s.blk.rd (R.Dn_CMODE_MODE n) = 2 ∧ (s.blk.drv n).verdNew = false ∧ s.blk.on (R.Dn_SUPSTAT_FALL n) = false ∧ s.blk.cur n = 0 ∧ 8 ≤ (s.blk.drv n).hoUp) ∧
    (∃ (s : State) (n : Fin 8),
      s.blk.powered .fabric = true ∧ s.blk.rd (R.Dn_CMODE_MODE n) = 2 ∧ (s.blk.drv n).verdNew = false ∧ s.blk.on (R.Dn_SUPSTAT_FALL n) = false ∧ s.blk.cur n = 2 ∧ 8 ≤ (s.blk.drv n).hoDn) ∧
    (∃ (s : State),
      s.blk.powered .fabric = true) ∧
    (∃ (s : State) (n : Fin 8),
      s.blk.powered .fabric = true ∧ s.blk.pstate n = 1 ∧ s.blk.sensorlessRun n = true ∧ s.blk.sstate n = 6 ∧ s.blk.rampsDown n = true ∧ magI (s.blk.drv n).ramp ≤ s.blk.catchFloor n * 512) ∧
    (∃ (s : State) (n : Fin 8),
      s.blk.powered .fabric = true ∧ (s.blk.drv n).revStart = true ∧ s.blk.pstate n ≠ 1 ∧ (s.blk.drv n).reqBlock = false ∧ ((s.blk.drv n).ref = 0 ∨ 0 < (s.blk.drv n).ref * (s.blk.seq n).dir)) ∧
    (∃ (s : State) (n : Fin 8),
      s.blk.powered .fabric = true ∧ (s.blk.drv n).revStart = true ∧ s.blk.pstate n ≠ 1 ∧ (s.blk.drv n).reqBlock = false ∧ (s.blk.drv n).ref ≠ 0 ∧ (s.blk.drv n).ref * (s.blk.seq n).dir < 0 ∧ s.blk.startRefusal n = none) :=
  ⟨⟨(st [(R.Dn_CMODE_MODE 0, 2)] fun b => { b with drvs := [{ Drive.cold with hoUp := 8 }] }), 0, by decide +kernel⟩,
    ⟨(st [(R.Dn_CMODE_MODE 0, 2), (R.Dn_CSTAT_CUR 0, 2)] fun b => { b with drvs := [{ Drive.cold with hoDn := 8 }] }), 0, by decide +kernel⟩,
    ⟨(st []), by decide +kernel⟩,
    ⟨(st [(R.Dn_STAT_PSTATE 0, 1), (R.Dn_STAT_PSTATE 0, 1), (R.Dn_SSTAT_SSTATE 0, 6)]), 0, by decide +kernel⟩,
    ⟨(st [(R.Dn_STAT_PSTATE 0, 0)] fun b => { b with drvs := [{ Drive.cold with revStart := true }] }), 0, by decide +kernel⟩,
    ⟨(st [(R.Dn_STAT_PSTATE 0, 0), (R.Dn_CMODE_SENS 0, 1), (R.Dn_CMODE_FALLBK 0, 1), (R.Dn_CFG_GRDY_EN 0, 0), (R.Dn_STAT_HASP_EN 0, 1), (R.Dn_STAT_OWN 0, 1)] fun b => { b with drvs := [{ Drive.cold with revStart := true, ref := -32768 }], seqs := [{ (default : Seq) with dir := 1 }] }), 0, by decide +kernel⟩⟩

/-- The hypotheses of `Obligations.StartSequence` can be met. -/
theorem wit_StartSequence :
    (∃ (s : State) (n : Fin 8),
      s.blk.powered .fabric = true ∧ s.blk.sstate n = 1 ∧ (s.blk.seq n).reopen = false ∧ (s.blk.seq n).catchLen ≤ (s.blk.seq n).catchFr) ∧
    (∃ (s : State) (n : Fin 8),
      s.blk.powered .fabric = true ∧ s.blk.sstate n = 2 ∧ (s.blk.seq n).reopen = false ∧ (s.blk.seq n).catchLen ≤ (s.blk.seq n).catchFr) ∧
    (∃ (s : State) (n : Fin 8),
      s.blk.powered .fabric = true ∧ s.blk.sstate n = 2 ∧ 0 < s.blk.rd (R.Dn_REVMAX_WAITMAX n) ∧ s.blk.msFrames (100 * s.blk.rd (R.Dn_REVMAX_WAITMAX n)) ≤ (s.blk.seq n).waitFr) ∧
    (∃ (s : State) (n : Fin 8),
      s.blk.powered .fabric = true ∧ s.blk.sstate n = 3 ∧ s.blk.sensorless n = false ∧ 0 ≤ (s.blk.drv n).ramp * (s.blk.seq n).fwd) ∧
    (∃ (s : State) (n : Fin 8),
      s.blk.powered .fabric = true ∧ s.blk.sstate n = 3 ∧ s.blk.sensorless n = true ∧ magI (s.blk.drv n).ramp ≤ s.blk.catchFloor n * 512) ∧
    (∃ (s : State) (n : Fin 8),
      s.blk.powered .fabric = true ∧ s.blk.sstate n = 4 ∧ s.blk.alignFrames n ≤ (s.blk.seq n).alignJ) ∧
    (∃ (s : State) (n : Fin 8),
      s.blk.powered .fabric = true ∧ s.blk.sstate n = 5 ∧ s.blk.ifReached n (s.blk.rd (R.Dn_IFF_FHO n)) = true ∧ (s.blk.seq n).seenPrev = true ∧ (s.blk.seq n).seenOld = true) ∧
    (∃ (s : State) (n : Fin 8),
      s.blk.powered .fabric = true ∧ s.blk.sstate n = 5 ∧ s.blk.ifReached n (s.blk.rd (R.Dn_IFF_FMAX n)) = true) :=
  ⟨⟨(st [(R.Dn_SSTAT_SSTATE 0, 1)] fun b => { b with seqs := [{ (default : Seq) with catchLen := 3, catchFr := 3 }] }), 0, by decide +kernel⟩,
    ⟨(st [(R.Dn_SSTAT_SSTATE 0, 2)] fun b => { b with seqs := [{ (default : Seq) with catchLen := 3, catchFr := 3 }] }), 0, by decide +kernel⟩,
    ⟨(st [(R.Dn_SSTAT_SSTATE 0, 2), (R.Dn_REVMAX_WAITMAX 0, 1), (R.TICK_PERIOD_PERIOD, 40000)] fun b => { b with seqs := [{ (default : Seq) with waitFr := 1000 }] }), 0, by decide +kernel⟩,
    ⟨(st [(R.Dn_SSTAT_SSTATE 0, 3), (R.Dn_CMODE_SENS 0, 1)] fun b => { b with seqs := [{ (default : Seq) with fwd := 1 }] }), 0, by decide +kernel⟩,
    ⟨(st [(R.Dn_SSTAT_SSTATE 0, 3), (R.Dn_CMODE_SENS 0, 0), (R.Dn_START_CATCH_MIN 0, 4)] fun b => { b with drvs := [{ Drive.cold with ramp := -2560 }] }), 0, by decide +kernel⟩,
    ⟨(st [(R.Dn_SSTAT_SSTATE 0, 4), (R.Dn_ALIGN_ALIGNT 0, 1), (R.TICK_PERIOD_PERIOD, 40000)] fun b => { b with seqs := [{ (default : Seq) with alignJ := 10 }] }), 0, by decide +kernel⟩,
    ⟨(st [(R.Dn_SSTAT_SSTATE 0, 5), (R.Dn_IFF_FHO 0, 1), (R.Dn_IF_IFACC 0, 1), (R.TICK_PERIOD_PERIOD, 40000)] fun b => { b with seqs := [{ (default : Seq) with ifK := 10000, seenPrev := true, seenOld := true }] }), 0, by decide +kernel⟩,
    ⟨(st [(R.Dn_SSTAT_SSTATE 0, 5), (R.Dn_IFF_FMAX 0, 1), (R.Dn_IF_IFACC 0, 1), (R.TICK_PERIOD_PERIOD, 40000)] fun b => { b with seqs := [{ (default : Seq) with ifK := 10000 }] }), 0, by decide +kernel⟩⟩

/-- The hypotheses of `Obligations.BrakeChopper` can be met. -/
theorem wit_BrakeChopper :
    (∃ (s : State) (n : Fin 8) (v : Int),
      s.blk.powered .pwm = true ∧ s.blk.powered .afe = true ∧ s.blk.ownChopper n = true ∧ s.blk.linkValid n = true ∧ s.blk.on (R.Dn_DCSTAT_BRK n) = false ∧ (s.blk.dc n).test = false ∧ Int.ofNat (10 * s.blk.rd (R.Dn_DCTH0_BRKON n)) ≤ v) ∧
    (∃ (s : State) (n : Fin 8) (v : Int),
      (s.blk.linkValid n = false ∨ v < Int.ofNat (10 * s.blk.rd (R.Dn_DCTH0_BRKON n)))) ∧
    (∃ (s : State) (n : Fin 8) (v : Int) (since : Nat),
      s.blk.powered .pwm = true ∧ s.blk.powered .afe = true ∧ s.blk.linkValid n = true ∧ s.blk.on (R.Dn_DCSTAT_BRK n) = true ∧ (s.blk.dc n).test = false ∧ v < Int.ofNat (10 * s.blk.rd (R.Dn_DCTH0_BRKOFF n)) ∧ 400 * s.blk.rd (R.Dn_BRK_MINON n) ≤ since) ∧
    (∃ (s : State) (n : Fin 8),
      s.blk.powered .pwm = true ∧ s.blk.powered .afe = true ∧ (s.blk.dc n).await = true) ∧
    (∃ (s : State) (n : Fin 8) (level : Bool),
      s.blk.powered .pwm = true ∧ s.blk.ownChopper n = true ∧ s.blk.on (R.Dn_BRK_FBEN n) = true ∧ s.blk.conducts n ⟨level, !level⟩ = true ∧ s.blk.on (R.Dn_DCSTAT_BRK n) = false ∧ (s.blk.dc n).test = false) ∧
    (∃ (s : State) (n : Fin 8),
      s.blk.powered .pwm = true ∧ s.blk.powered .afe = true ∧ (s.blk.dc n).test = true) :=
  ⟨⟨(st [(R.AFE_LMAP_VALID 2, 1), (R.Dn_CFG_EN 0, 1), (R.Dn_BRK_MODE 0, 1), (R.Dn_STAT_OWN 0, 1), (R.Dn_DCTH0_BRKON 0, 700)]), 0, 7000, by decide +kernel⟩,
    ⟨(st [(R.AFE_LMAP_VALID 2, 1), (R.Dn_DCTH0_BRKON 0, 700)]), 0, 6999, by decide +kernel⟩,
    ⟨(st [(R.AFE_LMAP_VALID 2, 1), (R.Dn_DCSTAT_BRK 0, 1), (R.Dn_DCTH0_BRKOFF 0, 1), (R.Dn_BRK_MINON 0, 1)]), 0, 9, 400, by decide +kernel⟩,
    ⟨(st [] fun b => { b with dcl := [{ (default : DcLink) with await := true }] }), 0, by decide +kernel⟩,
    ⟨(st [(R.Dn_CFG_EN 0, 1), (R.Dn_BRK_MODE 0, 1), (R.Dn_STAT_OWN 0, 1), (R.Dn_BRK_FBEN 0, 1)]), 0, true, by decide +kernel⟩,
    ⟨(st [] fun b => { b with dcl := [{ (default : DcLink) with test := true }] }), 0, by decide +kernel⟩⟩

/-- The hypotheses of `Obligations.LinkOverVoltage` can be met. -/
theorem wit_LinkOverVoltage :
    (∃ (s : State) (n : Fin 8) (v : Int),
      s.blk.powered .afe = true ∧ s.blk.configured n = true ∧ s.blk.linkValid n = true ∧ Int.ofNat (10 * s.blk.rd (R.Dn_DCTH2_OV2 n)) ≤ v) ∧
    (∃ (b : Blk) (n : Fin 8),
      (b.dc n).ov2 = true ∧ (b.gatesHeld n = false ∨ b.pstate n ≠ 0) ∧ b.pstate n < 3) ∧
    (∃ (s : State) (n : Fin 8),
      s.blk.powered .fabric = true ∧ s.blk.pstate n = 2 ∧ (s.blk.dc n).ascHold = true ∧ (if s.blk.sensorless n = false ∧ s.blk.validSpeed n = true then 8 * magI (s.blk.drv n).speed ≤ 7 * s.blk.rd (R.Dn_ASC_ASC_SPEED n) else (s.blk.dc n).ascLeft = 0)) ∧
    (∃ (s : State) (n : Fin 8) (v : Nat),
      s.blk.powered .afe = true ∧ s.blk.configured n = true ∧ s.blk.linkValid n = true ∧ s.blk.ov3Steps n ≤ v ∧ s.blk.hasp.ov3.getD n false = false) ∧
    (∃ (s : State) (n : Fin 8) (v : Nat),
      s.blk.powered .afe = true ∧ s.blk.linkValid n = true ∧ v < s.blk.ov3Steps n ∧ s.blk.hasp.ov3.getD n false = true) :=
  ⟨⟨(st [(R.AFE_LMAP_VALID 2, 1), (R.Dn_CFG_EN 0, 1), (R.Dn_DCTH2_OV2 0, 800)]), 0, 8000, by decide +kernel⟩,
    ⟨((st [(R.Dn_STAT_GRDY 0, 7), (bitOf R.HASP_GEN_EN 0, 1), (R.Dn_STAT_PSTATE 0, 1)] fun b => { b with dcl := [{ (default : DcLink) with ov2 := true }] }).blk), 0, by decide +kernel⟩,
    ⟨(st [(R.Dn_STAT_PSTATE 0, 2)] fun b => { b with dcl := [{ (default : DcLink) with ascHold := true, ascLeft := 0 }] }), 0, by decide +kernel⟩,
    ⟨(st [(R.AFE_LMAP_VALID 2, 1), (R.Dn_DCTH2_OV3 0, 100), (R.AFE_VSC_DCFS 0, 256), (R.Dn_CFG_EN 0, 1)]), 0, 100, by decide +kernel⟩,
    ⟨(st [(R.AFE_LMAP_VALID 2, 1), (R.Dn_DCTH2_OV3 0, 100), (R.AFE_VSC_DCFS 0, 256)] fun b => { b with hasp := { b.hasp with ov3 := [true] } }), 0, 99, by decide +kernel⟩⟩

/-- The hypotheses of `Obligations.StoOutput` can be met. -/
theorem wit_StoOutput :
    (∃ (s : State) (k : Fin 4) (ma : Nat),
      s.blk.powered .safe = true ∧ s.blk.stoState k = 1 ∧ (s.blk.sto k).hs = false ∧ ma < 5) ∧
    (∃ (s : State) (k : Fin 4) (ma : Nat),
      s.blk.powered .safe = true ∧ s.blk.stoState k = 1 ∧ (s.blk.sto k).hs = false ∧ 5 ≤ ma) ∧
    (∃ (s : State) (k : Fin 4),
      s.blk.powered .safe = true ∧ s.blk.stoState k = 1 ∧ (s.blk.sto k).hs = false) ∧
    (∃ (s : State) (k : Fin 4),
      s.blk.powered .safe = true ∧ s.blk.stoState k = 1 ∧ (s.blk.sto k).hs = true) ∧
    (∃ (s : State) (k : Fin 4),
      s.blk.powered .safe = true ∧ s.blk.stoState k = 1 ∧ (s.blk.sto k).hs = true) ∧
    (∃ (s : State) (k : Fin 4),
      s.blk.powered .safe = true ∧ s.blk.stoState k = 2 ∧ s.blk.slotDue k = true) ∧
    (∃ (s : State) (k : Fin 4) (ma : Nat) (during hsPin : Bool),
      s.blk.powered .safe = true ∧ ma < 5 ∧ (s.blk.stoState k = 3 → hsPin = true → s.blk.paired = false) ∧ (s.blk.stoState k = 4 ∨ (s.blk.stoState k = 3 ∧ during = false))) ∧
    (∃ (s : State) (k : Fin 4) (ma : Nat),
      s.blk.powered .safe = true ∧ 5 ≤ ma ∧ (s.blk.stoState k = 3 ∨ s.blk.stoState k = 4)) ∧
    (∃ (s : State) (k : Fin 4),
      s.blk.powered .safe = true ∧ s.blk.stoState k ≠ 5) :=
  ⟨⟨(st [(R.HASP_STOSTAT_STATE 0, 1)]), 0, 4, by decide +kernel⟩,
    ⟨(st [(R.HASP_STOSTAT_STATE 0, 1)]), 0, 5, by decide +kernel⟩,
    ⟨(st [(R.HASP_STOSTAT_STATE 0, 1)]), 0, by decide +kernel⟩,
    ⟨(st [(R.HASP_STOSTAT_STATE 0, 1)] fun b => { b with hasp := { b.hasp with stos := [{ (default : Sto) with hs := true }] } }), 0, by decide +kernel⟩,
    ⟨(st [(R.HASP_STOSTAT_STATE 0, 1)] fun b => { b with hasp := { b.hasp with stos := [{ (default : Sto) with hs := true }] } }), 0, by decide +kernel⟩,
    ⟨(st [(R.HASP_STOSTAT_STATE 0, 2)]), 0, by decide +kernel⟩,
    ⟨(st [(R.HASP_STOSTAT_STATE 0, 3)]), 0, 4, false, false, by decide +kernel⟩,
    ⟨(st [(R.HASP_STOSTAT_STATE 3, 4)]), 3, 5, by decide +kernel⟩,
    ⟨(st [(R.HASP_STOSTAT_STATE 3, 1)]), 3, by decide +kernel⟩⟩

/-- The hypotheses of `Obligations.SafeInputs` can be met. -/
theorem wit_SafeInputs :
    (∃ (s : State) (i : Fin 8) (x y : Bool),
      s.blk.powered .safe = true ∧ s.blk.on (R.HASP_SDICFG_EN i) = true ∧ s.blk.on (R.HASP_SDICFG_RSTIN i) = false ∧ s.blk.sdiHealthy i x y = false) ∧
    (∃ (s : State) (i : Fin 8),
      s.blk.powered .safe = true ∧ s.blk.on (R.HASP_SDICFG_EN i) = true ∧ s.blk.on (R.HASP_SDICFG_RSTIN i) = false ∧ s.blk.on (sdiDiscf i) = false) ∧
    (∃ (s : State) (i : Fin 8),
      s.blk.powered .safe = true ∧ s.blk.on (R.HASP_SDICFG_EN i) = true ∧ s.blk.sdiHealthy i (s.blk.sdiX i) (s.blk.sdiY i) = false ∧ s.blk.sdiAway i (s.blk.sdiX i) (s.blk.sdiY i) = false) ∧
    (∃ (s : State) (k : Fin 4) (us : Nat),
      s.blk.powered .safe = true ∧ s.blk.on (R.HASP_STOCFG_EN k) = true ∧ s.blk.on (R.HASP_STOCFG_RST k) = true ∧ 100000 ≤ us ∧ us ≤ 2000000 ∧ s.blk.resetSource k = true ∧ s.blk.hasp.sdiVoid.getD (s.blk.rd (R.HASP_STOCFG_RSRC k)) false = false ∧ (s.blk.sto k).riseOk = true ∧ s.blk.rd R.HASP_STAT_HSTATE = 1 ∧ s.blk.demandSrc k = none ∧ s.blk.stoState k = 0) ∧
    (∃ (s : State) (k : Fin 4) (left : Nat),
      s.blk.powered .safe = true ∧ (s.blk.sto k).ss1 = some left ∧ s.blk.ranOut left = true) :=
  ⟨⟨(st [pw .safe, (R.HASP_SDICFG_EN 7, 1)]), 7, false, false, by decide +kernel⟩,
    ⟨(st [pw .safe, (R.HASP_SDICFG_EN 0, 1)]), 0, by decide +kernel⟩,
    ⟨(st [pw .safe, (R.HASP_SDICFG_EN 0, 1), (R.HASP_SDICFG_ANTIV 0, 1), (bitOf R.HASP_SDISTAT_ST 0, 1), (bitOf R.HASP_SDISTAT_ST 1, 1)]), 0, by decide +kernel⟩,
    ⟨(st [(R.HASP_STOCFG_EN 0, 1), (R.HASP_STOCFG_RST 0, 1), (R.HASP_STOCFG_RSRC 0, 2), (R.HASP_SDICFG_EN 2, 1), (R.HASP_SDICFG_RSTIN 2, 1), (R.HASP_STAT_HSTATE, 1)] fun b => { b with hasp := { b.hasp with stos := [{ (default : Sto) with riseOk := true }] } }), 0, 100000, by decide +kernel⟩,
    ⟨(st [(R.TICK_PERIOD_PERIOD, 40000)] fun b => { b with hasp := { b.hasp with stos := [{ (default : Sto) with ss1 := some 40000 }] } }), 0, 40000, by decide +kernel⟩⟩

/-- The hypotheses of `Obligations.HaspReactions` can be met. -/
theorem wit_HaspReactions :
    (∃ (s : State) (c : Fin 8),
      s.blk.powered .safe = true ∧ (s.blk.hasp.degs.getD c default).left = some 0 ∧ (c.val = 5 → s.blk.on R.THM_OVRD_ACT = false)) ∧
    (∃ (s : State),
      s.blk.powered .safe = true ∧ (s.blk.hasp.degs.getD 5 default).left = some 0 ∧ s.blk.on R.THM_OVRD_ACT = true) ∧
    (∃ (s : State) (c : Fin 16) (left : Nat),
      s.blk.powered .safe = true ∧ (s.blk.hch c).react = some (some left) ∧ s.blk.ranOut left = true) ∧
    (∃ (s : State),
      s.blk.powered .safe = true ∧ s.blk.pwr.step = 8 ∧ s.blk.standbyReady = false) ∧
    (∃ (s : State),
      s.blk.powered .safe = true ∧ s.blk.pwr.step = 8 ∧ s.blk.standbyReady = true ∧ s.blk.rd R.HASP_STAT_HSTATE ≠ 3) ∧
    (∃ (s : State),
      s.blk.powered .safe = true ∧ s.blk.standbyReady = false) ∧
    (∃ (s : State),
      s.blk.powered .safe = true ∧ s.blk.standbyReady = true ∧ s.blk.rd R.HASP_STAT_HSTATE ≠ 3) ∧
    (∃ (s : State),
      s.blk.powered .safe = true ∧ s.blk.pwr.hot = false) ∧
    (∃ (s : State),
      s.blk.pwr.hot = true) :=
  ⟨⟨(st [pw .safe] fun b => { b with hasp := { b.hasp with degs := [default, default, default, default, default, { (default : Deg) with left := some 0 }] } }), 5, by decide +kernel⟩,
    ⟨(st [pw .safe, (R.THM_OVRD_ACT, 1)] fun b => { b with hasp := { b.hasp with degs := [default, default, default, default, default, { (default : Deg) with left := some 0 }] } }), by decide +kernel⟩,
    ⟨(st [(R.TICK_PERIOD_PERIOD, 40000)] fun b => { b with hasp := { b.hasp with chs := [{ (default : HaspCh) with react := some (some 40000) }] } }), 0, 40000, by decide +kernel⟩,
    ⟨(st [pw .safe] fun b => { b with pwr := { b.pwr with step := 8 } }), by decide +kernel⟩,
    ⟨(st [pw .safe, (R.HASP_STAT_HSTATE, 1), (R.MIR_STAT_ROLE, 3), (R.MIR_STAT_PROLE, 2)] fun b => { b with mir := { b.mir with good := 64 }, pwr := { b.pwr with step := 8 } }), by decide +kernel⟩,
    ⟨(st [pw .safe]), by decide +kernel⟩,
    ⟨(st [pw .safe, (R.HASP_STAT_HSTATE, 1), (R.MIR_STAT_ROLE, 3), (R.MIR_STAT_PROLE, 2)] fun b => { b with mir := { b.mir with good := 64 } }), by decide +kernel⟩,
    ⟨(st [pw .safe]), by decide +kernel⟩,
    ⟨(st [] fun b => { b with pwr := { b.pwr with hot := true } }), by decide +kernel⟩⟩

/-- The hypotheses of `Obligations.ThermalJudgements` can be met. -/
theorem wit_ThermalJudgements :
    (∃ (s : State) (k : Fin 16),
      s.blk.powered .fabric = true ∧ s.blk.on (R.THM_NTCT_BRK k) = true ∧ 64 ≤ s.blk.thm.good.getD k 0) ∧
    (∃ (s : State) (n : Fin 8),
      s.blk.powered .fabric = true ∧ s.blk.msFrames 1000 ≤ (s.blk.thmd n).xW ∧ (s.blk.thmd n).epW = false ∧ s.blk.configured n = true ∧ s.blk.on (R.THM_Dn_CFG_EN n) = true) ∧
    (∃ (s : State) (n : Fin 8),
      s.blk.powered .fabric = true ∧ s.blk.msFrames 1000 ≤ (s.blk.thmd n).xJ ∧ (s.blk.thmd n).epJ = false ∧ s.blk.configured n = true ∧ s.blk.on (R.THM_Dn_CFG_EN n) = true) ∧
    (∃ (s : State) (n : Fin 8),
      s.blk.powered .fabric = true ∧ (s.blk.thmd n).rw.exc = true ∧ s.blk.rd (R.THM_Dn_RATE_RWIN n) ≤ (s.blk.thmd n).rw.cool) ∧
    (∃ (s : State) (n : Fin 8),
      s.blk.powered .fabric = true ∧ (s.blk.thmd n).rj.exc = true ∧ s.blk.rd (R.THM_Dn_RATE_RWIN n) ≤ (s.blk.thmd n).rj.cool) ∧
    (∃ (s : State),
      s.blk.powered .safe = true) ∧
    (∃ (s : State),
      s.blk.powered .safe = true) :=
  ⟨⟨(st [(R.THM_NTCT_BRK 0, 1)] fun b => { b with thm := { b.thm with good := [64] } }), 0, by decide +kernel⟩,
    ⟨(st [(R.Dn_CFG_EN 0, 1), (R.THM_Dn_CFG_EN 0, 1), (R.TICK_PERIOD_PERIOD, 40000)] fun b => { b with thm := { b.thm with drvs := [{ ThmDrv.cold with xW := 10000 }] } }), 0, by decide +kernel⟩,
    ⟨(st [(R.Dn_CFG_EN 0, 1), (R.THM_Dn_CFG_EN 0, 1), (R.TICK_PERIOD_PERIOD, 40000)] fun b => { b with thm := { b.thm with drvs := [{ ThmDrv.cold with xJ := 10000 }] } }), 0, by decide +kernel⟩,
    ⟨(st [(R.THM_Dn_RATE_RWIN 0, 2)] fun b => { b with thm := { b.thm with drvs := [{ ThmDrv.cold with rw := { (default : ThmRate) with exc := true, cool := 2 } }] } }), 0, by decide +kernel⟩,
    ⟨(st [(R.THM_Dn_RATE_RWIN 0, 2)] fun b => { b with thm := { b.thm with drvs := [{ ThmDrv.cold with rj := { (default : ThmRate) with exc := true, cool := 2 } }] } }), 0, by decide +kernel⟩,
    ⟨(st []), by decide +kernel⟩,
    ⟨(st []), by decide +kernel⟩⟩

/-- The hypotheses of `Obligations.SlaluFrames` can be met. -/
theorem wit_SlaluFrames :
    (∃ (s : State) (from_ : Carriage) (bytes : List Byte) (tags : List (Nat × Flip)) (key : Nat),
      s.blk.on R.SLL_CFG_EN = true ∧ s.blk.powered .fabric = true ∧ s.blk.blockGood 3 = true ∧ slaluBad from_ bytes tags = some key) ∧
    (∃ (s : State) (port : BitVec 16) (plain : Bool) (bytes : List Byte) (tags : List (Nat × Flip)),
      s.blk.on R.SLL_CFG_EN = true ∧ s.blk.powered .fabric = true ∧ s.blk.blockGood 3 = true ∧ slaluBad (.udp port plain) bytes tags = none ∧ (plain = false ∨ port.toNat ≠ s.blk.rd R.SLL_CFG_UDPPORT ∨ (byteAt bytes 1 ≠ 0 ∧ s.blk.sesBound (byteAt bytes 1) 0 = false))) ∧
    (∃ (s : State) (k : Fin 64) (port : BitVec 16) (seq ctrl : Nat) (pay : List Byte),
      s.blk.on R.SLL_CFG_EN = true ∧ s.blk.powered .fabric = true ∧ s.blk.blockGood 3 = true ∧ port.toNat = s.blk.rd R.SLL_CFG_UDPPORT ∧ s.blk.sesBound k 0 = true ∧ s.blk.sesState k = 2 ∧ s.blk.sll.seen.getD k false = true ∧ seq < 65536 ∧ ctrl < 256 ∧ pay.length = s.blk.rd (R.SLL_SESs_CFG_LEN k) ∧ 1 ≤ (seq + 65536 - s.blk.rd (R.SLL_SESs_ST_SEQ k)) % 65536 ∧ (seq + 65536 - s.blk.rd (R.SLL_SESs_ST_SEQ k)) % 65536 ≤ s.blk.rd (R.SLL_SESs_CFG_MAXGAP k)) ∧
    (∃ (s : State) (k : Fin 64) (port : BitVec 16) (seq ctrl : Nat) (pay : List Byte),
      s.blk.on R.SLL_CFG_EN = true ∧ s.blk.powered .fabric = true ∧ s.blk.blockGood 3 = true ∧ port.toNat = s.blk.rd R.SLL_CFG_UDPPORT ∧ s.blk.sesBound k 0 = true ∧ s.blk.sesState k = 2 ∧ s.blk.sll.seen.getD k false = true ∧ seq < 65536 ∧ ctrl < 256 ∧ pay.length = s.blk.rd (R.SLL_SESs_CFG_LEN k) ∧ seq = s.blk.rd (R.SLL_SESs_ST_SEQ k)) ∧
    (∃ (s : State) (seq : Nat) (pay : List Byte),
      s.blk.on R.SLL_CFG_EN = true ∧ s.blk.powered .fabric = true ∧ s.blk.sll.mSeq = none ∧ seq < 65536 ∧ pay.length ≤ 48) ∧
    (∃ (s : State) (bytes : List Byte),
      s.blk.on R.SLL_CFG_EN = true ∧ s.blk.powered .fabric = true ∧ (byteAt bytes 0 ≠ 0x12 ∨ byteAt bytes 1 ≠ 0)) ∧
    (∃ (s : State) (bytes : List Byte),
      s.blk.on R.SLL_CFG_EN = true ∧ s.blk.powered .fabric = true ∧ byteAt bytes 0 = 0x12 ∧ byteAt bytes 1 = 0 ∧ 48 < byteAt bytes 4) ∧
    (∃ (s : State),
      s.blk.powered .fabric = true ∧ s.blk.on R.SLL_CFG_EN = true ∧ s.blk.rd R.SLL_CFG_MGMTPER ≠ 0 ∧ s.blk.rd R.SLL_CFG_MGMTPER * 10 * cycPerMs ≤ s.blk.sll.mAge + s.blk.period) ∧
    (∃ (s : State) (k : Fin 64),
      s.blk.powered .fabric = true ∧ s.blk.sesState k = 2 ∧ s.blk.sesOverdue k = true) ∧
    (∃ (s : State) (k : Fin 64),
      (List.range 4).any (fun o => s.blk.slMapped k o) = true ∧ s.blk.hasp.permit.getD k false = true ∧ s.blk.powered .safe = true ∧ (s.blk.ticks = false ∨ s.blk.sesOverdue k = true)) :=
  ⟨⟨(st [(R.SLL_CFG_EN, 1)]), .hinge, ([1, 2, 3, 4]), ([(0, ⟨1, 0, none⟩)]), 36992, by decide +kernel⟩,
    ⟨(st [pw .fabric, (R.SLL_CFG_EN, 1), (R.SLL_CFG_UDPPORT, 5)]), 6, false, ([]), ([]), by decide +kernel⟩,
    ⟨(st [pw .fabric, (R.SLL_CFG_EN, 1), (R.SLL_CFG_UDPPORT, 5), (R.SLL_SESs_CFG_EN 1, 1), (R.SLL_SESs_CFG_DIR 1, 0), (R.SLL_SESs_CFG_TRANS 1, 0), (R.SLL_SESs_ST_STATE 1, 2), (R.SLL_SESs_CFG_LEN 1, 2), (R.SLL_SESs_CFG_MAXGAP 1, 1), (R.SLL_SESs_ST_SEQ 1, 65535)] fun b => { b with sll := { b.sll with seen := [false, true] } }), 1, 5, 0, 0, ([1, 2]), by decide +kernel⟩,
    ⟨(st [pw .fabric, (R.SLL_CFG_EN, 1), (R.SLL_CFG_UDPPORT, 5), (R.SLL_SESs_CFG_EN 1, 1), (R.SLL_SESs_CFG_DIR 1, 0), (R.SLL_SESs_CFG_TRANS 1, 0), (R.SLL_SESs_ST_STATE 1, 2), (R.SLL_SESs_CFG_LEN 1, 2), (R.SLL_SESs_CFG_MAXGAP 1, 1), (R.SLL_SESs_ST_SEQ 1, 65535)] fun b => { b with sll := { b.sll with seen := [false, true] } }), 1, 5, 65535, 0, ([1, 2]), by decide +kernel⟩,
    ⟨(st [pw .fabric, (R.SLL_CFG_EN, 1)]), 0, ([1]), by decide +kernel⟩,
    ⟨(st [pw .fabric, (R.SLL_CFG_EN, 1)]), ([]), by decide +kernel⟩,
    ⟨(st [(R.SLL_CFG_EN, 1)]), ([0x12, 0, 0, 0, 49]), by decide +kernel⟩,
    ⟨(st [pw .fabric, (R.SLL_CFG_EN, 1), (R.SLL_CFG_MGMTPER, 1), (R.TICK_PERIOD_PERIOD, 40000)] fun b => { b with sll := { b.sll with mAge := 3960000 } }), by decide +kernel⟩,
    ⟨(st [(R.SLL_SESs_ST_STATE 63, 2), (R.SLL_SESs_WD_WD 63, 1), (R.TICK_PERIOD_PERIOD, 40000)]), 63, by decide +kernel⟩,
    ⟨(st [pw .safe, (⟨(R.HASP_SLMAP_MAP 0).off, 4, 1⟩, 1), (R.SLL_SESs_WD_WD 1, 1), (R.TICK_PERIOD_PERIOD, 40000)] fun b => { b with hasp := { b.hasp with permit := [false, true] } }), 1, by decide +kernel⟩⟩

/-- The hypotheses of `Obligations.UnconfiguredTarget` can be met. -/
theorem wit_UnconfiguredTarget :
    (∃ (s : State) (h : Hdr) (n : Fin 8) (c : Instr) (op : Nat),
      ((c = .start h n ∧ op = 0x02) ∨ (∃ m, c = .drvStop h n m ∧ op = 0x03) ∨ (∃ v, c = .setSpeed h n v ∧ op = 0x04) ∨ (∃ v, c = .setTorque h n v ∧ op = 0x05) ∨ (∃ v, c = .leverSelect h n v ∧ op = 0x07) ∨ (c = .bridgeResume h (some n) ∧ op = 0x08) ∨ (c = .brkClear h n ∧ op = 0x25) ∨ (c = .supClear h n ∧ op = 0x24)) ∧ s.blk.powered .fabric = true ∧ s.blk.configured n = false) ∧
    (∃ (s : State) (h : Hdr) (a : Fin 16) (c : Instr) (op : Nat),
      ((∃ i v, c = .coefWrite h a i v ∧ op = 0x06) ∨ (∃ k bl p v x d, c = .move h a k bl p v x d ∧ op = 0x12) ∨ (c = .axisStop h a ∧ op = 0x13) ∨ (c = .resume h a ∧ op = 0x14) ∨ (c = .moveFlush h a ∧ op = 0x15) ∨ (c = .home h a ∧ op = 0x16)) ∧ s.blk.powered .fabric = true ∧ s.blk.configured a = false) ∧
    (∃ (s : State) (h : Hdr) (n : Fin 8) (c : Instr) (op : Nat),
      ((c = .energize h n ∧ op = 0x10) ∨ (c = .deenergize h n ∧ op = 0x11)) ∧ s.blk.powered .fabric = true ∧ s.blk.on (R.Sn_CFG_EN n) = false) :=
  ⟨⟨(st []), default, 7, _, 0x02, Or.inl ⟨rfl, rfl⟩, by decide +kernel⟩,
    ⟨(st []), default, 15, _, 0x13, Or.inr (Or.inr (Or.inl ⟨rfl, rfl⟩)), by decide +kernel⟩,
    ⟨(st []), default, 7, _, 0x11, Or.inr ⟨rfl, rfl⟩, by decide +kernel⟩⟩

/-- The hypotheses of `Obligations.DriveCommands` can be met. -/
theorem wit_DriveCommands :
    (∃ (s : State),
      s.blk.powered .fabric = true) ∧
    (∃ (s : State) (n : Fin 8),
      s.blk.powered .fabric = true ∧ s.blk.configured n = true ∧ s.blk.underTable n = false ∧ s.blk.noHeartbeat = false ∧ s.blk.startRefusal n = none) ∧
    (∃ (s : State) (n : Fin 8) (st d : Nat) (ev : Option (Nat × Nat × List Int)),
      s.blk.startRefusal n = some (st, d, ev) ∧ s.blk.powered .fabric = true ∧ s.blk.configured n = true ∧ s.blk.underTable n = false ∧ s.blk.noHeartbeat = false) ∧
    (∃ (s : State) (n : Fin 8),
      s.blk.powered .fabric = true ∧ s.blk.configured n = true ∧ s.blk.underTable n = false ∧ s.blk.noHeartbeat = true) ∧
    (∃ (s : State) (n : Fin 8) (m : Byte),
      s.blk.powered .fabric = true ∧ s.blk.configured n = true ∧ (m.toNat = 1 ∨ (m.toNat = 0 ∧ s.blk.sstate n ≠ 6))) ∧
    (∃ (s : State) (n : Fin 8),
      s.blk.powered .fabric = true ∧ s.blk.configured n = true ∧ s.blk.sstate n = 6) ∧
    (∃ (s : State) (n : Fin 8) (m : Byte),
      s.blk.powered .fabric = true ∧ s.blk.configured n = true ∧ 1 < m.toNat) ∧
    (∃ (s : State) (n : Fin 8),
      s.blk.powered .fabric = true ∧ s.blk.configured n = true ∧ s.blk.underTable n = false ∧ s.blk.noHeartbeat = false ∧ s.blk.memberOf n = none) ∧
    (∃ (s : State) (n : Fin 8),
      s.blk.powered .fabric = true ∧ s.blk.configured n = true ∧ s.blk.underTable n = true ∧ s.blk.memberOf n = none) ∧
    (∃ (s : State) (n : Fin 8),
      s.blk.powered .fabric = true ∧ s.blk.configured n = true ∧ s.blk.underTable n = false ∧ s.blk.noHeartbeat = false ∧ s.blk.on (R.Dn_CMODE_CTRL n) = true) ∧
    (∃ (s : State) (n : Fin 8),
      s.blk.powered .fabric = true ∧ s.blk.configured n = true ∧ (s.blk.drv n).bridge = none ∧ (s.blk.drv n).leverSel = false ∧ s.blk.noHeartbeat = false) ∧
    (∃ (s : State) (n : Fin 8),
      s.blk.powered .fabric = true ∧ s.blk.configured n = true ∧ (s.blk.drv n).bridge = none ∧ (s.blk.drv n).leverSel = true) ∧
    (∃ (s : State) (n : Fin 8),
      s.blk.powered .fabric = true ∧ s.blk.configured n = true ∧ s.blk.noHeartbeat = false ∧ (s.blk.drv n).bridge.isSome = true) ∧
    (∃ (s : State) (c : Fin 16) (i : BitVec 16),
      (∀ e ∈ (s.blk.chan c).prog.elems, i.toNat ∉ e.coefs) ∧ s.blk.powered .fabric = true ∧ s.blk.configured c = true ∧ i.toNat < (s.blk.chan c).coefs.length) ∧
    (∃ (s : State) (c : Fin 16) (i : BitVec 16),
      s.blk.powered .fabric = true ∧ s.blk.configured c = true ∧ (s.blk.chan c).coefs.length ≤ i.toNat) :=
  ⟨⟨(st []), by decide +kernel⟩,
    ⟨(st [(R.Dn_CFG_EN 0, 1), (R.HIF_STAT_HB, 1), (R.Dn_STAT_PSTATE 0, 0), (R.Dn_CMODE_SENS 0, 1), (R.Dn_CMODE_FALLBK 0, 1), (R.Dn_CFG_GRDY_EN 0, 0), (R.Dn_STAT_HASP_EN 0, 1), (R.Dn_STAT_OWN 0, 1)] fun b => { b with drvs := [{ Drive.cold with ref := 32767 }] }), 0, by decide +kernel⟩,
    ⟨(st [(R.Dn_CFG_EN 0, 1), (R.HIF_STAT_HB, 1)]), 0, 2, 1, (some (0x3102, 0, [1, 5])), rfl, by decide +kernel⟩,
    ⟨(st [(R.Dn_CFG_EN 0, 1)]), 0, by decide +kernel⟩,
    ⟨(st [(R.Dn_CFG_EN 0, 1)]), 0, 0, by decide +kernel⟩,
    ⟨(st [(R.Dn_CFG_EN 0, 1), (R.Dn_SSTAT_SSTATE 0, 6)]), 0, by decide +kernel⟩,
    ⟨(st [(R.Dn_CFG_EN 0, 1)]), 0, 2, by decide +kernel⟩,
    ⟨(st [(R.Dn_CFG_EN 0, 1), (R.HIF_STAT_HB, 1)]), 0, by decide +kernel⟩,
    ⟨(st [(R.Dn_CFG_EN 0, 1)] fun b => { b with drvs := [{ Drive.cold with leverSel := true }] }), 0, by decide +kernel⟩,
    ⟨(st [(R.Dn_CFG_EN 0, 1), (R.HIF_STAT_HB, 1), (R.Dn_CMODE_CTRL 0, 1)]), 0, by decide +kernel⟩,
    ⟨(st [(R.Dn_CFG_EN 0, 1), (R.HIF_STAT_HB, 1)]), 0, by decide +kernel⟩,
    ⟨(st [(R.Dn_CFG_EN 0, 1)] fun b => { b with drvs := [{ Drive.cold with leverSel := true }] }), 0, by decide +kernel⟩,
    ⟨(st [(R.Dn_CFG_EN 0, 1), (R.HIF_STAT_HB, 1)] fun b => { b with drvs := [{ Drive.cold with bridge := some 2 }] }), 0, by decide +kernel⟩,
    ⟨(st [(R.Dn_CFG_EN 0, 1)] fun b => { b with le := { b.le with chans := [{ (default : Chan) with coefs := [0, 5] }] } }), 0, 1, (by intro e he; cases he), by decide +kernel⟩,
    ⟨(st [(R.Dn_CFG_EN 0, 1)]), 0, 0, by decide +kernel⟩⟩

/-- The hypotheses of `Obligations.ServiceCommands` can be met. -/
theorem wit_ServiceCommands :
    (∃ (s : State) (n : Fin 8),
      s.blk.powered .fabric = true ∧ s.blk.configured n = true ∧ s.blk.rd (R.Dn_BRK_MODE n) = 1 ∧ (s.blk.dc n).test = false ∧ s.blk.pstate n = 0 ∧ s.blk.on (R.Dn_DCSTAT_CHF n) = true ∧ s.blk.on (R.Dn_DCSTAT_BRK n) = false) ∧
    (∃ (s : State) (n : Fin 8),
      s.blk.powered .fabric = true ∧ s.blk.configured n = true ∧ s.blk.rd (R.Dn_BRK_MODE n) = 1 ∧ (s.blk.dc n).test = false ∧ s.blk.pstate n = 0 ∧ s.blk.on (R.Dn_DCSTAT_CHF n) = false ∧ s.blk.on (R.Dn_DCSTAT_STKD n) = true) ∧
    (∃ (s : State) (n : Fin 8),
      s.blk.powered .fabric = true ∧ s.blk.configured n = true ∧ s.blk.rd (R.Dn_BRK_MODE n) = 1 ∧ (s.blk.dc n).test = false ∧ s.blk.pstate n ≠ 0) ∧
    (∃ (s : State) (n : Fin 8),
      s.blk.powered .fabric = true ∧ s.blk.configured n = true ∧ s.blk.on (R.Dn_SUPSTAT_VERD n) = true ∧ s.blk.pstate n = 0 ∧ s.blk.on (R.FBn_STAT_INVAL (s.blk.rd (R.Dn_CMODE_FBSEL n))) = false) ∧
    (∃ (s : State) (n : Fin 8),
      s.blk.powered .fabric = true ∧ s.blk.configured n = true ∧ s.blk.on (R.Dn_SUPSTAT_VERD n) = true ∧ s.blk.pstate n ≠ 0) ∧
    (∃ (s : State) (k : Fin 64) (ofs cnt : Byte),
      s.blk.powered .fabric = true ∧ k.val ≠ 0 ∧ s.blk.on (R.SLL_SESs_CFG_EN k) = true ∧ s.blk.on (R.SLL_SESs_CFG_DIR k) = true ∧ cnt.toNat ≠ 0 ∧ cnt.toNat ≤ 48 ∧ ofs.toNat + cnt.toNat ≤ s.blk.rd (R.SLL_SESs_CFG_LEN k) ∧ s.blk.on (R.SLL_SESs_CFG_STATUS k) = false) ∧
    (∃ (s : State) (k : Fin 5),
      s.blk.powered .fabric = true ∧ s.blk.injRefusal k = none) ∧
    (∃ (s : State) (k : Fin 5) (st d : Nat),
      s.blk.powered .fabric = true ∧ s.blk.injRefusal k = some (st, d)) ∧
    (∃ (s : State) (k : Fin 5),
      s.blk.powered .fabric = true ∧ s.blk.rd (R.LE_CAPSTAT_INJ k) = 1) ∧
    (∃ (s : State) (k : Fin 5),
      s.blk.powered .fabric = true ∧ s.blk.provisioned k = true ∧ s.blk.rd (R.LE_CAPSTAT_CAP k) = 0 ∧ s.blk.rd (R.LE_CAPCFG_TRIG k) ≠ 3) ∧
    (∃ (s : State) (k : Fin 5),
      s.blk.powered .fabric = true ∧ (s.blk.rd (R.LE_CAPSTAT_CAP k) = 1 ∨ s.blk.rd (R.LE_CAPSTAT_CAP k) = 2)) :=
  ⟨⟨(st [(R.Dn_CFG_EN 0, 1), (R.Dn_STAT_PSTATE 0, 0), (R.Dn_BRK_MODE 0, 1), (R.Dn_DCSTAT_CHF 0, 1)]), 0, by decide +kernel⟩,
    ⟨(st [(R.Dn_CFG_EN 0, 1), (R.Dn_STAT_PSTATE 0, 0), (R.Dn_BRK_MODE 0, 1), (R.Dn_DCSTAT_STKD 0, 1)]), 0, by decide +kernel⟩,
    ⟨(st [(R.Dn_CFG_EN 0, 1), (R.Dn_BRK_MODE 0, 1)]), 0, by decide +kernel⟩,
    ⟨(st [(R.Dn_CFG_EN 0, 1), (R.Dn_STAT_PSTATE 0, 0), (R.Dn_SUPSTAT_VERD 0, 1)]), 0, by decide +kernel⟩,
    ⟨(st [(R.Dn_CFG_EN 0, 1), (R.Dn_SUPSTAT_VERD 0, 1)]), 0, by decide +kernel⟩,
    ⟨(st [(R.SLL_SESs_CFG_EN 63, 1), (R.SLL_SESs_CFG_DIR 63, 1), (R.SLL_SESs_CFG_LEN 63, 48)]), 63, 0, 48, by decide +kernel⟩,
    ⟨(st [(sliceOf R.LE_DMAP_MAP 0 4, 0), (R.Dn_STAT_PSTATE 0, 1), (R.LE_INJCFG_TYPE 0, 2), (R.LE_INJDUR_DUR 0, 1), (R.LE_INJCFG_REPS 0, 1)] fun b => { b with le := { b.le with tuned := [0], chans := [{ (default : Chan) with prog := { (default : Program) with elems := [{ (default : Elem) with point := some 0 }] } }] } }), 0, by decide +kernel⟩,
    ⟨(st []), 0, 2, 0x0201, by decide +kernel⟩,
    ⟨(st [(R.LE_CAPSTAT_INJ 4, 1)]), 4, by decide +kernel⟩,
    ⟨(st [] fun b => { b with le := { b.le with tuned := [4] } }), 4, by decide +kernel⟩,
    ⟨(st [(R.LE_CAPSTAT_CAP 4, 2)]), 4, by decide +kernel⟩⟩

/-- The hypotheses of `Obligations.AxisCommands` can be met. -/
theorem wit_AxisCommands :
    (∃ (s : State) (n : Fin 8),
      s.blk.powered .fabric = true ∧ s.blk.on (R.Sn_CFG_EN n) = true ∧ (s.blk.stpState n = 0 ∨ s.blk.stpState n = 3) ∧ s.blk.on (R.Sn_STAT_FLTIN n) = false ∧ s.blk.on (R.Sn_STAT_HASP_EN n) = true ∧ s.blk.on (R.Sn_STAT_OWN n) = true) ∧
    (∃ (s : State) (n : Fin 8),
      s.blk.powered .fabric = true ∧ s.blk.on (R.Sn_CFG_EN n) = true ∧ (s.blk.stpState n = 0 ∨ s.blk.stpState n = 3) ∧ s.blk.on (R.Sn_STAT_HASP_EN n) = false) ∧
    (∃ (s : State) (n : Fin 8),
      s.blk.powered .fabric = true ∧ s.blk.on (R.Sn_CFG_EN n) = true ∧ (s.blk.stpState n = 1 ∨ s.blk.stpState n = 2)) ∧
    (∃ (s : State) (a : Fin 16) (kind : Byte) (blend : Bool) (p v x d : Word),
      s.blk.powered .fabric = true ∧ s.blk.configured a = true ∧ s.blk.noHeartbeat = false ∧ kind.toNat ≤ 2 ∧ s.blk.tooHot a = false ∧ s.blk.moveRefusal a (s.blk.queuedMove a kind.toNat blend p.toNat v.toNat x.toNat d.toNat) = none) ∧
    (∃ (s : State) (a : Fin 16) (kind : Byte) (blend : Bool) (p v x d : Word) (why : Nat),
      s.blk.powered .fabric = true ∧ s.blk.configured a = true ∧ s.blk.noHeartbeat = false ∧ kind.toNat ≤ 2 ∧ s.blk.tooHot a = false ∧ s.blk.moveRefusal a (s.blk.queuedMove a kind.toNat blend p.toNat v.toNat x.toNat d.toNat) = some why) ∧
    (∃ (s : State) (a : Fin 16),
      s.blk.powered .fabric = true ∧ s.blk.configured a = true) ∧
    (∃ (s : State) (a : Fin 16) (kind : Byte),
      s.blk.powered .fabric = true ∧ s.blk.configured a = true ∧ s.blk.noHeartbeat = false ∧ kind.toNat ≤ 2 ∧ s.blk.tooHot a = true) ∧
    (∃ (s : State) (a : Fin 16) (m : Move),
      s.blk.powered .fabric = true ∧ s.blk.configured a = true ∧ (s.blk.axis a).stopNow = false ∧ s.blk.tooHot a = false ∧ (a.val < 8 → s.blk.pstate a = 1) ∧ (8 ≤ a.val → s.blk.stpState (a.val - 8) = 1) ∧ (s.blk.axis a).susp = some m) ∧
    (∃ (s : State) (a : Fin 16),
      s.blk.powered .fabric = true ∧ s.blk.configured a = true) ∧
    (∃ (s : State) (a : Fin 16),
      s.blk.powered .fabric = true ∧ 8 ≤ a.val ∧ s.blk.configured a = true ∧ s.blk.stpState (a.val - 8) = 1 ∧ (s.blk.axis a).queue = [] ∧ (s.blk.axis a).susp = none ∧ (s.blk.axis a).cur = none ∧ s.blk.on (R.MPG_CFG_EN a) = true ∧ (s.blk.stp (a.val - 8)).homeDue = false ∧ s.blk.tooHot a = false) ∧
    (∃ (s : State) (a : Fin 16),
      s.blk.powered .fabric = true ∧ a.val < 8 ∧ s.blk.configured a = true) :=
  ⟨⟨(st [(R.Sn_CFG_EN 0, 1), (R.Sn_STAT_SSTATE 0, 0), (R.Sn_STAT_HASP_EN 0, 1), (R.Sn_STAT_OWN 0, 1)]), 0, by decide +kernel⟩,
    ⟨(st [(R.Sn_CFG_EN 0, 1), (R.Sn_STAT_SSTATE 0, 3)]), 0, by decide +kernel⟩,
    ⟨(st [(R.Sn_CFG_EN 0, 1), (R.Sn_STAT_SSTATE 0, 2)]), 0, by decide +kernel⟩,
    ⟨(st [(R.Sn_CFG_EN 0, 1), (R.HIF_STAT_HB, 1), (R.MPG_CFG_EN 8, 1)]), 8, 2, false, 0, 0, 0, 0, by decide +kernel⟩,
    ⟨(st [(R.Dn_CFG_EN 0, 1), (R.HIF_STAT_HB, 1)]), 0, 2, false, 0, 0, 0, 0, 0x0012, by decide +kernel⟩,
    ⟨(st [(R.Dn_CFG_EN 0, 1)]), 0, by decide +kernel⟩,
    ⟨(st [(R.Sn_CFG_EN 7, 1), (R.HIF_STAT_HB, 1)] fun b => { b with thm := { b.thm with stop := List.replicate 8 true } }), 15, 2, by decide +kernel⟩,
    ⟨(st [(R.Dn_CFG_EN 0, 1), (R.Dn_STAT_PSTATE 0, 1)] fun b => { b with axes := [{ (default : Axis) with susp := some default }] }), 0, default, by decide +kernel⟩,
    ⟨(st [(R.Sn_CFG_EN 7, 1)]), 15, by decide +kernel⟩,
    ⟨(st [(R.Sn_CFG_EN 0, 1), (R.Sn_STAT_SSTATE 0, 1), (R.MPG_CFG_EN 8, 1)]), 8, by decide +kernel⟩,
    ⟨(st [(R.Dn_CFG_EN 7, 1)]), 7, by decide +kernel⟩⟩

/-- The hypotheses of `Obligations.TransactionAndCanCommands` can be met. -/
theorem wit_TransactionAndCanCommands :
    (∃ (s : State) (h : Hdr),
      s.blk.powered .fabric = true ∧ s.blk.txnStandby = false ∧ s.blk.txnState h.ring = 0) ∧
    (∃ (s : State) (h : Hdr),
      s.blk.powered .fabric = true ∧ s.blk.txnStandby = false ∧ s.blk.txnState h.ring ≠ 0) ∧
    (∃ (s : State) (h : Hdr) (off : Word),
      s.blk.powered .fabric = true ∧ s.blk.txnStandby = false ∧ (s.blk.txnState h.ring = 1 ∨ s.blk.txnState h.ring = 2) ∧ off.toNat % 4 = 0 ∧ off.toNat ≤ 0x3FFFF ∧ (s.blk.txn h.ring).list.length < 4096 ∧ ptrReg off.toNat = none) ∧
    (∃ (s : State) (h : Hdr) (off : Word),
      s.blk.powered .fabric = true ∧ s.blk.txnStandby = false ∧ (s.blk.txnState h.ring = 1 ∨ s.blk.txnState h.ring = 2) ∧ off.toNat % 4 ≠ 0) ∧
    (∃ (s : State) (h : Hdr),
      s.blk.powered .fabric = true ∧ s.blk.txnStandby = false ∧ (s.blk.txnState h.ring = 1 ∨ s.blk.txnState h.ring = 2)) ∧
    (∃ (s : State) (h : Hdr),
      s.blk.powered .fabric = true ∧ s.blk.txnStandby = false ∧ (s.blk.txnState h.ring = 1 ∨ s.blk.txnState h.ring = 2)) ∧
    (∃ (s : State) (h : Hdr) (c : Instr) (op : Nat),
      ((c = .txnBegin h ∧ op = 0x40) ∨ (∃ o v, c = .txnWrite h o v ∧ op = 0x41) ∨ (c = .txnCommit h ∧ op = 0x42) ∨ (c = .txnRollback h ∧ op = 0x43)) ∧ s.blk.powered .fabric = true ∧ s.blk.txnStandby = true) ∧
    (∃ (s : State) (k : Fin 4) (buf flags dlc : Byte) (id : Word),
      s.blk.powered .fabric = true ∧ buf.toNat < 3 ∧ s.blk.txb k buf.toNat ≠ 1 ∧ s.blk.txb k buf.toNat ≠ 2 ∧ s.blk.canClosed k = false ∧ (buf.toNat = 0 → s.blk.slaluOwnsTx k = false) ∧ flags.toNat = 0 ∧ dlc.toNat ≤ 8 ∧ id.toNat < 2 ^ 11) ∧
    (∃ (s : State) (k : Fin 4) (buf : Byte),
      s.blk.powered .fabric = true ∧ buf.toNat < 3 ∧ (s.blk.txb k buf.toNat = 1 ∨ s.blk.txb k buf.toNat = 2)) ∧
    (∃ (s : State) (k : Fin 4) (buf ofs cnt : Byte) (data : List Byte),
      s.blk.powered .fabric = true ∧ s.blk.canClosed k = false ∧ buf.toNat < 3 ∧ (buf.toNat = 0 → s.blk.slaluOwnsTx k = false) ∧ ofs.toNat + cnt.toNat ≤ 64 ∧ cnt.toNat ≠ 0 ∧ cnt.toNat ≤ 48 ∧ cnt.toNat ≤ data.length) ∧
    (∃ (s : State) (k : Fin 4) (buf : Byte),
      s.blk.powered .fabric = true ∧ buf.toNat < 3 ∧ s.blk.txb k buf.toNat = 1 ∧ ((s.blk.can k).buf buf.toNat).next = []) ∧
    (∃ (s : State) (k : Fin 4) (buf : Byte),
      s.blk.powered .fabric = true ∧ buf.toNat < 3 ∧ s.blk.txb k buf.toNat ≠ 1 ∧ s.blk.txb k buf.toNat ≠ 2) ∧
    (∃ (s : State) (buf : Byte),
      s.blk.powered .fabric = true ∧ 3 ≤ buf.toNat) ∧
    (∃ (s : State) (k : Fin 4),
      s.blk.powered .fabric = true ∧ s.blk.on (R.CANn_STAT_RESTR k) = false ∧ s.blk.canOn k = true ∧ s.blk.slaluBound k = false ∧ (∀ i < 3, s.blk.txb k i ≠ 1 ∧ s.blk.txb k i ≠ 2)) ∧
    (∃ (s : State) (k : Fin 4),
      s.blk.powered .fabric = true ∧ s.blk.on (R.CANn_STAT_RESTR k) = false ∧ s.blk.powered .comm = true ∧ s.blk.canState k = 7) ∧
    (∃ (s : State) (k : Fin 4),
      s.blk.powered .fabric = true ∧ s.blk.on (R.CANn_STAT_RESTR k) = true) ∧
    (∃ (s : State),
      s.blk.powered .fabric = true ∧ s.blk.standbyReady = true) ∧
    (∃ (s : State),
      s.blk.powered .fabric = true ∧ s.blk.standbyReady = false) :=
  ⟨⟨(st []), default, by decide +kernel⟩,
    ⟨(st [(R.TXN_STAT_STATE 0, 1)]), default, by decide +kernel⟩,
    ⟨(st [(R.TXN_STAT_STATE 0, 1)]), default, 0x3FFFC, by decide +kernel⟩,
    ⟨(st [(R.TXN_STAT_STATE 0, 1)]), default, 0x3FFFD, by decide +kernel⟩,
    ⟨(st [(R.TXN_STAT_STATE 0, 2)]), default, by decide +kernel⟩,
    ⟨(st [(R.TXN_STAT_STATE 0, 1)]), default, by decide +kernel⟩,
    ⟨(st [(R.MIR_STAT_ROLE, 4)]), default, _, 0x43, Or.inr (Or.inr (Or.inr ⟨rfl, rfl⟩)), by decide +kernel⟩,
    ⟨(st [pw .comm, (R.CANn_STAT_STATE 3, 3)]), 3, 2, 0, 8, 2047, by decide +kernel⟩,
    ⟨(st [(txbFld 3 2, 2)]), 3, 2, by decide +kernel⟩,
    ⟨(st [pw .comm, (R.CANn_STAT_STATE 0, 3)]), 0, 0, 16, 48, (List.replicate 48 0), by decide +kernel⟩,
    ⟨(st [(txbFld 0 2, 1)]), 0, 2, by decide +kernel⟩,
    ⟨(st []), 0, 2, by decide +kernel⟩,
    ⟨(st []), 3, by decide +kernel⟩,
    ⟨(st [pw .comm, (R.CANn_STAT_STATE 0, 3)]), 0, by decide +kernel⟩,
    ⟨(st [pw .comm, (R.CANn_STAT_STATE 0, 7)]), 0, by decide +kernel⟩,
    ⟨(st [(R.CANn_STAT_RESTR 0, 1)]), 0, by decide +kernel⟩,
    ⟨(st [(R.MIR_STAT_ROLE, 3), (R.MIR_STAT_PROLE, 2)] fun b => { b with mir := { b.mir with good := 64 } }), by decide +kernel⟩,
    ⟨(st []), by decide +kernel⟩⟩

/-- The hypotheses of `Obligations.FrontEndSpares` can be met. -/
theorem wit_FrontEndSpares :
    (∃ (s : State) (g : Fin 2) (x : ShadowGrp),
      s.blk.afe.groups[g.val]? = some x ∧ 256 ≤ x.fr ∧ s.blk.powered .afe = true) ∧
    (∃ (s : State) (l : Fin 44),
      s.blk.on (laneBit l) = false ∧ s.blk.powered .afe = true) ∧
    (∃ (s : State) (g : Fin 2) (x : ShadowGrp),
      s.blk.afe.groups[g.val]? = some x ∧ x.inp < 40 ∧ s.blk.powered .afe = true) ∧
    (∃ (s : State) (g : Fin 2) (x : ShadowGrp),
      s.blk.afe.groups[g.val]? = some x ∧ s.blk.powered .afe = true) ∧
    (∃ (s : State) (x : Nat) (rest : List Nat),
      s.blk.rd R.AFE_SARSTAT_ROTC ≠ 3 ∧ s.blk.fn % 4096 = 0 ∧ s.blk.powered .afe = true ∧ s.blk.afe.retCv = [] ∧ s.blk.afe.service = x :: rest ∧ x < 3) ∧
    (∃ (s : State) (cv : Fin 3),
      cv.val ∈ s.blk.afe.service ∧ s.blk.powered .afe = true ∧ s.blk.rd R.AFE_SARSTAT_ROTC ≠ 3) ∧
    (∃ (s : State) (cv : Fin 3),
      cv.val ∈ s.blk.afe.service ∧ s.blk.powered .afe = true ∧ s.blk.rd R.AFE_SARSTAT_ROTC ≠ 3) ∧
    (∃ (b : Blk) (cv : Fin 3),
      b.rd R.AFE_SARSTAT_ROTC ≠ cv.val) ∧
    (∃ (s : State) (i : Fin 40),
      s.blk.powered .afe = true ∧ s.blk.configured (chanOfInput i) = true) ∧
    (∃ (s : State) (n : Fin 8) (kind : Fin 3),
      s.blk.powered .afe = true ∧ s.blk.configured n = true ∧ (kind.val = 0 → s.blk.rd (R.AFE_PB_CLINK n) ≠ 0) ∧ kind.val ≠ 1 ∧ bitAt (s.blk.afe.gainBad.getD n 0) kind = true) ∧
    (∃ (s : State) (n : Fin 8) (kind : Fin 3),
      kind.val ≠ 1 ∧ bitAt (s.blk.afe.gainBad.getD n 0) kind = false) ∧
    (∃ (s : State) (n : Fin 8) (v : Int),
      s.blk.powered .afe = true ∧ s.blk.configured n = true ∧ n.val < s.blk.afe.gainBad.length ∧ 20 < magI v) ∧
    (∃ (s : State) (n : Fin 8) (v : Int),
      n.val < s.blk.afe.gainBad.length ∧ magI v ≤ 20) ∧
    (∃ (b : Blk) (n : Fin 8),
      n.val < b.afe.gainBad.length) ∧
    (∃ (s : State) (count : Nat),
      s.blk.trimDiffers count s.blk.flintBin = false ∧ s.blk.powered .afe = true ∧ s.blk.on R.CLK_STAT_XOOK = true) ∧
    (∃ (s : State) (count : Nat),
      s.blk.trimDiffers count s.blk.flintBin = true ∧ s.blk.powered .afe = true ∧ s.blk.on R.CLK_STAT_XOOK = true) ∧
    (∃ (s : State),
      s.blk.powered .nvs = true) :=
  ⟨⟨(st [pw .afe] fun b => { b with afe := { b.afe with groups := [default, ⟨40, 41, 0, 256⟩] } }), 1, (⟨40, 41, 0, 256⟩), by decide +kernel⟩,
    ⟨(st [pw .afe] fun b => { b with afe := { b.afe with reserve := [43] } }), 43, by decide +kernel⟩,
    ⟨(st [pw .afe] fun b => { b with afe := { b.afe with groups := [default, ⟨40, 41, 39, 0⟩] } }), 1, (⟨40, 41, 39, 0⟩), by decide +kernel⟩,
    ⟨(st [pw .afe] fun b => { b with afe := { b.afe with groups := [⟨40, 41, 0, 0⟩] } }), 0, (⟨40, 41, 0, 0⟩), by decide +kernel⟩,
    ⟨(st [pw .afe, (R.AFE_SARSTAT_ROTC, 2)] fun b => { b with afe := { b.afe with service := [0, 1] } }), 0, ([1]), by decide +kernel⟩,
    ⟨(st [(R.AFE_SARSTAT_ROTC, 1), pw .afe] fun b => { b with afe := { b.afe with service := [2] } }), 2, by decide +kernel⟩,
    ⟨(st [pw .afe, (R.AFE_SARSTAT_ROTC, 1)] fun b => { b with afe := { b.afe with service := [2] } }), 2, by decide +kernel⟩,
    ⟨((st [(R.AFE_SARSTAT_ROTC, 1)]).blk), 2, by decide +kernel⟩,
    ⟨(st [pw .afe, (R.Sn_CFG_EN 7, 1)]), 39, by decide +kernel⟩,
    ⟨(st [pw .afe, (R.Dn_CFG_EN 0, 1)] fun b => { b with afe := { b.afe with gainBad := [4] } }), 0, 2, by decide +kernel⟩,
    ⟨(st []), 0, 2, by decide +kernel⟩,
    ⟨(st [pw .afe, (R.Dn_CFG_EN 0, 1)]), 0, 40000, by decide +kernel⟩,
    ⟨(st [(R.Dn_CFG_EN 0, 1)]), 0, 0, by decide +kernel⟩,
    ⟨Blk.cold, 7, by decide +kernel⟩,
    ⟨(st [pw .afe, (R.CLK_STAT_XOOK, 1)]), 0, trim_agrees _ rfl _ _, by decide +kernel⟩,
    ⟨(st [pw .afe, (R.CLK_STAT_XOOK, 1), (R.CLK_CFG_PLAUS, 1)] fun b => { b with afe := { b.afe with tabF := List.replicate 64 (some 5) } }), 100000, trim_differs _ rfl (by decide +kernel) _, by decide +kernel⟩,
    ⟨(st [pw .nvs]), by decide +kernel⟩⟩

/-- The hypotheses of `Obligations.FeedbackPorts` can be met. -/
theorem wit_FeedbackPorts :
    (∃ (s : State) (p : Fin 12),
      s.blk.powered .feed = true ∧ (s.blk.fbMode p = 1 ∨ s.blk.fbMode p = 2)) ∧
    (∃ (s : State) (p : Fin 12),
      s.blk.powered .feed = true ∧ s.blk.fbMode p = 2) ∧
    (∃ (s : State) (p : Fin 12),
      s.blk.powered .feed = true ∧ s.blk.fbMode p = 1 ∧ (s.blk.port p).idx = false ∧ s.blk.qualIdx p (s.blk.port p) = true ∧ (s.blk.port p).latched = false) ∧
    (∃ (s : State) (p : Fin 12),
      s.blk.powered .feed = true ∧ s.blk.fbMode p = 1 ∧ (s.blk.port p).idx = false ∧ s.blk.qualIdx p (s.blk.port p) = true ∧ (s.blk.port p).latched = true ∧ s.blk.rd (R.FBn_IDXTOL_TOL p) < magI (idxResidue (diff32 (s.blk.port p).pos (s.blk.rd (R.FBn_IDXLAT_LAT p))) (s.blk.rd (R.FBn_CPR_CPR p)))) ∧
    (∃ (s : State),
      s.blk.powered .feed = true) ∧
    (∃ (s : State) (p : Fin 12),
      s.blk.powered .feed = true ∧ s.blk.on (R.FBn_EMUCFG_EN p) = true) :=
  ⟨⟨(st [pw .feed, (R.FBn_CFG_MODE 11, 1)]), 11, by decide +kernel⟩,
    ⟨(st [pw .feed, (R.FBn_CFG_MODE 0, 2)]), 0, by decide +kernel⟩,
    ⟨(st [pw .feed, (R.FBn_CFG_MODE 0, 1)] fun b => { b with ports := [{ (default : Port) with z := true }] }), 0, by decide +kernel⟩,
    ⟨(st [pw .feed, (R.FBn_CFG_MODE 0, 1), (R.FBn_CPR_CPR 0, 4000), (R.FBn_IDXTOL_TOL 0, 2)] fun b => { b with ports := [{ (default : Port) with z := true, latched := true, pos := 4003 }] }), 0, by decide +kernel⟩,
    ⟨(st []), by decide +kernel⟩,
    ⟨(st [(R.FBn_EMUCFG_EN 0, 1)]), 0, by decide +kernel⟩⟩

/-- The hypotheses of `Obligations.SupervisionAndTuning` can be met. -/
theorem wit_SupervisionAndTuning :
    (∃ (s : State) (n : Fin 8),
      s.blk.powered .fabric = true ∧ s.blk.configured n = true ∧ s.blk.on (R.Dn_CMODE_SENS n) = true ∧ s.blk.on (R.Dn_SUPSTAT_VERD n) = false ∧ s.blk.on (R.Dn_SUPCFG_EN n) = true ∧ 0 < s.blk.rd (R.Dn_SUPCFG_PERSIST n) ∧ s.blk.rd (R.Dn_SUPCFG_PERSIST n) ≤ s.blk.rd (R.Dn_SUPSTAT_CNT n)) ∧
    (∃ (s : State) (n : Fin 8),
      s.blk.powered .fabric = true ∧ s.blk.configured n = true ∧ s.blk.on (R.Dn_CMODE_SENS n) = true ∧ s.blk.on (R.Dn_SUPSTAT_VERD n) = false ∧ s.blk.on (R.Dn_SUPCFG_EN n) = false ∧ s.blk.on (R.FBn_STAT_INVAL (s.blk.rd (R.Dn_CMODE_FBSEL n))) = true) ∧
    (∃ (s : State) (n : Fin 8),
      s.blk.powered .fabric = true ∧ (s.blk.drv n).settle = 0) ∧
    (∃ (s : State) (k : Fin 5),
      s.blk.powered .fabric = true ∧ s.blk.rd (R.LE_CAPSTAT_INJ k) = 1 ∧ s.blk.injRuns k ≤ (s.blk.tun k).j) ∧
    (∃ (s : State) (k : Fin 5),
      s.blk.powered .fabric = true ∧ s.blk.rd (R.LE_CAPSTAT_CAP k) = 1 ∧ (s.blk.tun k).cross = true) ∧
    (∃ (s : State) (k : Fin 5),
      s.blk.powered .fabric = true ∧ s.blk.rd (R.LE_CAPSTAT_CAP k) = 3 ∧ (s.blk.tun k).final = false ∧ (s.blk.tun k).buf = []) :=
  ⟨⟨(st [(R.Dn_CFG_EN 0, 1), (R.Dn_CMODE_SENS 0, 1), (R.Dn_SUPCFG_EN 0, 1), (R.Dn_SUPCFG_PERSIST 0, 1), (R.Dn_SUPSTAT_CNT 0, 1)]), 0, by decide +kernel⟩,
    ⟨(st [(R.Dn_CFG_EN 0, 1), (R.Dn_CMODE_SENS 0, 1), (R.Dn_SUPCFG_EN 0, 0), (R.FBn_STAT_INVAL 0, 1)]), 0, by decide +kernel⟩,
    ⟨(st []), 0, by decide +kernel⟩,
    ⟨(st [(R.LE_CAPSTAT_INJ 0, 1), (R.LE_INJCFG_TYPE 0, 0), (R.LE_INJDUR_DUR 0, 7)] fun b => { b with tuns := [{ (default : Tuner) with j := 7 }] }), 0, by decide +kernel⟩,
    ⟨(st [(R.LE_CAPSTAT_CAP 0, 1)] fun b => { b with tuns := [{ (default : Tuner) with cross := true }] }), 0, by decide +kernel⟩,
    ⟨(st [(R.LE_CAPSTAT_CAP 0, 3)]), 0, by decide +kernel⟩⟩

/-- The hypotheses of `Obligations.AxisMotion` can be met. -/
theorem wit_AxisMotion :
    (∃ (s : State) (n : Fin 8),
      s.blk.on (R.Sn_CFG_EN n) = true ∧ s.blk.on (R.Sn_CFG_FLTEN n) = true ∧ s.blk.powered .pwm = true ∧ (s.blk.stpState n = 1 ∨ s.blk.stpState n = 2)) ∧
    (∃ (s : State) (a : Fin 16) (m : Move) (q : List Move),
      s.blk.powered .fabric = true ∧ (s.blk.axis a).queue = m :: q ∧ s.blk.on (R.MPG_CFG_EN a) = true ∧ s.blk.axisReady a = true ∧ (s.blk.axis a).susp = none ∧ (s.blk.axis a).cur = none ∧ (s.blk.axis a).stop = false ∧ s.blk.tooHot a = false ∧ (8 ≤ a.val → (s.blk.stp (a.val - 8)).homeDue = false)) ∧
    (∃ (s : State) (a : Fin 16) (p : MovePlan),
      s.blk.powered .fabric = true ∧ (s.blk.axis a).cur = some p ∧ s.blk.moveEnded a p = true) ∧
    (∃ (s : State) (a : Fin 16),
      s.blk.powered .fabric = true ∧ (s.blk.axis a).v = 0 ∧ (s.blk.axis a).vRaw = 0 ∧ (s.blk.axis a).vEnd = 0 ∧ (s.blk.axis a).cur = none ∧ (s.blk.axis a).resume = false) ∧
    (∃ (s : State) (n : Fin 8),
      s.blk.powered .fabric = true ∧ 0 < s.blk.rd (R.Sn_TIM_HOLDT n) ∧ s.blk.rd (R.Sn_TIM_HOLDT n) ≤ (s.blk.stp n).zeroFr ∧ (s.blk.stp n).fall = none) ∧
    (∃ (s : State) (n : Fin 8),
      s.blk.powered .fabric = true ∧ s.blk.stpState n = 2 ∧ ((s.blk.stp n).homing = 1 → s.blk.rd (R.Sn_STALL_STALLN n) ≤ (s.blk.stp n).homeFr) ∧ s.blk.rd (R.Sn_STALL_STVMIN n) * 2 ^ 24 ≤ magI (s.blk.axis (8 + n.val)).v ∧ 0 < s.blk.rd (R.Sn_STALL_STALLN n) ∧ s.blk.rd (R.Sn_STALL_STALLN n) ≤ (s.blk.stp n).stallN) ∧
    (∃ (s : State) (n : Fin 8),
      s.blk.powered .fabric = true ∧ (s.blk.stp n).homing = 1 ∧ s.blk.rd (R.Sn_HOMEX_HOMEMAX n) * 2 ^ 32 ≤ (s.blk.stp n).homeMs) ∧
    (∃ (b : Blk) (n : Fin 8),
      (b.stp n).homeDue = true ∧ b.stpState n = 1 ∧ b.on (R.MPG_CFG_EN (8 + n.val)) = true) ∧
    (∃ (b : Blk) (a : Fin 16) (m : Move),
      (b.axis a).susp = some m ∧ (b.axis a).resume = true ∧ (b.axis a).v = 0 ∧ (b.axis a).vRaw = 0) :=
  ⟨⟨(st [pw .pwm, (R.Sn_CFG_EN 0, 1), (R.Sn_CFG_FLTEN 0, 1), (R.Sn_STAT_SSTATE 0, 1)]), 0, by decide +kernel⟩,
    ⟨(st [(R.MPG_CFG_EN 0, 1), (R.Dn_STAT_PSTATE 0, 1)] fun b => { b with axes := [{ (default : Axis) with queue := [default] }] }), 0, default, ([]), by decide +kernel⟩,
    ⟨(st [] fun b => { b with axes := [{ (default : Axis) with cur := some { (default : MovePlan) with na := 0, j := 5 } }] }), 0, ({ (default : MovePlan) with na := 0, j := 5 }), by decide +kernel⟩,
    ⟨(st []), 0, by decide +kernel⟩,
    ⟨(st [(R.Sn_TIM_HOLDT 0, 9)] fun b => { b with stps := [{ (default : Stepper) with zeroFr := 9 }] }), 0, by decide +kernel⟩,
    ⟨(st [(R.Sn_STALL_STVMIN 0, 0), (R.Sn_STAT_SSTATE 0, 2), (R.Sn_CFG_STALLEN 0, 1), (R.Sn_STALL_STALLN 0, 3)] fun b => { b with stps := [{ (default : Stepper) with stallN := 3 }] }), 0, by decide +kernel⟩,
    ⟨(st [(R.Sn_HOMEX_HOMEMAX 0, 1)] fun b => { b with stps := [{ (default : Stepper) with homing := 1, homeMs := 4294967296 }] }), 0, by decide +kernel⟩,
    ⟨((st [(R.Sn_STAT_SSTATE 7, 1), (R.MPG_CFG_EN 15, 1)] fun b => { b with stps := List.replicate 7 default ++ [{ (default : Stepper) with homeDue := true }] }).blk), 7, by decide +kernel⟩,
    ⟨((st [] fun b => { b with axes := List.replicate 15 default ++ [{ (default : Axis) with susp := some default, resume := true }] }).blk), 15, default, by decide +kernel⟩⟩

/-- The hypotheses of `Obligations.ShareGroups` can be met. -/
theorem wit_ShareGroups :
    (∃ (s : State) (g k : Fin 4),
      s.blk.powered .fabric = true ∧ s.blk.slotState g k = 1 ∧ s.blk.hfrm g k ≤ (s.blk.grp g).k.getD k 0) ∧
    (∃ (s : State) (g k : Fin 4),
      s.blk.powered .fabric = true ∧ s.blk.slotActive g k = true ∧ 0 < s.blk.rd (R.SHR_Gg_CFG_DEVN g) ∧ s.blk.rd (R.SHR_Gg_CFG_DEVN g) ≤ (s.blk.grp g).dev.getD k 0) ∧
    (∃ (s : State) (g k : Fin 4),
      s.blk.powered .fabric = true ∧ k.val ∈ s.blk.slotsOf g ∧ s.blk.slotActive g k = true ∧ s.blk.remote g k = true ∧ (s.blk.slotsOf g).any (fun j => s.blk.slotOwn g j) = true ∧ 4 ≤ (s.blk.grp g).noEx.getD k 0) ∧
    (∃ (s : State) (g k : Fin 4),
      s.blk.powered .fabric = true ∧ s.blk.slotState g k = 3 ∧ 64 ≤ (s.blk.grp g).okEx.getD k 0 ∧ ((s.blk.member g k).map (·.closed)).getD false = true) :=
  ⟨⟨(st [(sliceOf (R.SHR_Gg_STAT_ST 3) 3 2, 1), (R.Dn_BUMP_HFRM 0, 1)] fun b => { b with shr := [default, default, default, { ShrGrp.cold with k := [0, 0, 0, 1] }] }), 3, 3, by decide +kernel⟩,
    ⟨(st [(sliceOf (R.SHR_Gg_STAT_ST 0) 0 2, 2), (R.SHR_Gg_CFG_DEVN 0, 4)] fun b => { b with shr := [{ ShrGrp.cold with dev := [4] }] }), 0, 0, by decide +kernel⟩,
    ⟨(st [(sliceOf (R.SHR_Gg_STAT_ST 0) 1 2, 2), (sliceOf (R.SHR_Gg_STAT_ST 0) 0 2, 2), (sliceOf (R.SHR_Gg_MEM_SLOT 0) 0 8, 128), (sliceOf (R.SHR_Gg_MEM_SLOT 0) 1 8, 137)] fun b => { b with shr := [{ ShrGrp.cold with noEx := [0, 4] }] }), 0, 1, by decide +kernel⟩,
    ⟨(st [(sliceOf (R.SHR_Gg_STAT_ST 0) 0 2, 3), (R.Dn_SSTAT_SSTATE 0, 6), (sliceOf (R.SHR_Gg_MEM_SLOT 0) 0 8, 128)] fun b => { b with shr := [{ ShrGrp.cold with okEx := [64] }] }), 0, 0, by decide +kernel⟩⟩

/-- The hypotheses of `Obligations.PairOperation` can be met. -/
theorem wit_PairOperation :
    (∃ (s : State),
      s.blk.powered .mir = true ∧ s.blk.rd R.MIR_STAT_PID ≠ 0 ∧ s.blk.on R.MIR_STAT_OWNIN = true) ∧
    (∃ (s : State) (k : Nat),
      s.blk.powered .mir = true ∧ s.blk.mir.rel = some k ∧ k ≠ 0 ∧ s.blk.standby = true ∧ s.blk.mayClaim = false) ∧
    (∃ (s : State) (k : Nat),
      s.blk.powered .mir = true ∧ s.blk.mir.rel = some k ∧ k ≠ 0 ∧ s.blk.standby = true ∧ s.blk.mayClaim = true ∧ s.blk.on R.MIR_STAT_OWNIN = false) ∧
    (∃ (s : State) (k : Nat),
      s.blk.powered .mir = true ∧ s.blk.mir.guard = some k ∧ 4 ≤ k ∧ s.blk.mir.got = none) ∧
    (∃ (s : State) (k : Nat) (f : HingeFrame),
      s.blk.powered .mir = true ∧ s.blk.mir.guard = some k ∧ 4 ≤ k ∧ s.blk.mir.got = some f) ∧
    (∃ (s : State),
      s.blk.powered .mir = true ∧ s.blk.rd R.MIR_STAT_PID ≠ 0) ∧
    (∃ (s : State) (f : HingeFrame),
      s.blk.powered .mir = true ∧ s.blk.rd R.MIR_STAT_PID ≠ 0 ∧ s.blk.mir.dead.getD 0 true = false ∧ f.crcOk = false) ∧
    (∃ (s : State) (lane : Fin 2) (f : HingeFrame),
      s.blk.powered .mir = true ∧ s.blk.rd R.MIR_STAT_PID ≠ 0 ∧ s.blk.mir.dead.getD lane true = false ∧ f.crcOk = true) ∧
    (∃ (s : State),
      s.blk.powered .mir = true ∧ s.blk.rd R.MIR_STAT_PID ≠ 0 ∧ s.blk.mir.fresh = false) ∧
    (∃ (s : State),
      s.blk.powered .mir = true ∧ s.blk.rd R.MIR_STAT_PID ≠ 0 ∧ s.blk.mir.miss = 4) ∧
    (∃ (s : State) (lane : Fin 2),
      s.blk.powered .mir = true ∧ s.blk.mir.dead.getD lane true = false ∧ 64 ≤ s.blk.mir.lost.getD lane 0 ∧ s.blk.mir.lost.getD (1 - lane.val) 0 = 0) ∧
    (∃ (s : State) (f : HingeFrame),
      s.blk.powered .mir = true ∧ s.blk.mir.got = some f ∧ (s.blk.mir.fresh = true → s.blk.fn = f.fn + 1) ∧ (s.blk.role = 1 ∨ s.blk.role = 4) ∧ s.blk.notReady = 0) :=
  ⟨⟨(st [pw .mir, (R.MIR_STAT_PID, 1), (R.MIR_STAT_OWNIN, 1)]), by decide +kernel⟩,
    ⟨(st [(R.MIR_STAT_ROLE, 1)] fun b => { b with mir := { b.mir with rel := some 1 } }), 1, by decide +kernel⟩,
    ⟨(st [(R.MIR_STAT_ROLE, 2)] fun b => { b with mir := { b.mir with rel := some 1 } }), 1, by decide +kernel⟩,
    ⟨(st [] fun b => { b with mir := { b.mir with guard := some 4 } }), 4, by decide +kernel⟩,
    ⟨(st [] fun b => { b with mir := { b.mir with guard := some 4, got := some default } }), 4, default, by decide +kernel⟩,
    ⟨(st [pw .mir, (R.MIR_STAT_PID, 1)]), by decide +kernel⟩,
    ⟨(st [pw .mir, (R.MIR_STAT_PID, 1)]), ({ (default : HingeFrame) with crcOk := false }), by decide +kernel⟩,
    ⟨(st [pw .mir, (R.MIR_STAT_PID, 2)]), 1, ({ (default : HingeFrame) with crcOk := true }), by decide +kernel⟩,
    ⟨(st [pw .mir, (R.MIR_STAT_PID, 1)]), by decide +kernel⟩,
    ⟨(st [pw .mir, (R.MIR_STAT_PID, 1)] fun b => { b with mir := { b.mir with miss := 4 } }), by decide +kernel⟩,
    ⟨(st [pw .mir] fun b => { b with mir := { b.mir with lost := [0, 64] } }), 1, by decide +kernel⟩,
    ⟨(st [(R.MIR_STAT_ROLE, 1), (R.MIR_STAT_PID, 1), (R.TICK_STAT_DSTATE, 2), (R.TICK_CTL_SRC, 1), (R.HASP_STAT_HSTATE, 1)] fun b => { b with mir := { b.mir with good := 64, got := some { (default : HingeFrame) with isB := true } } }), ({ (default : HingeFrame) with isB := true }), by decide +kernel⟩⟩

/-- The hypotheses of `Obligations.RingDoorbells` can be met. -/
theorem wit_RingDoorbells :
    (∃ (s : State) (q : Fin 11) (v : Word) (c : Instr),
      ((∃ r : Fin 4, c = .commandDoorbell r v ∧ q.val = r.val) ∨ (∃ r : Fin 4, c = .completionDoorbell r v ∧ q.val = 4 + r.val) ∨ (∃ r : Fin 2, c = .telemetryDoorbell r v ∧ q.val = 8 + r.val) ∨ (c = .eventDoorbell v ∧ q.val = 10)) ∧ s.blk.powered .host = true ∧ s.blk.rd (R.RING_STAT_STATE q) ≠ 2 ∧ s.blk.on (R.RING_CTL_EN q) = true ∧ v.toNat % 8192 < 2 * s.blk.ringSize q ∧ (if q.val < 4 then ringDist (s.blk.ringSize q) (v.toNat % 8192) (s.blk.rd (R.RING_IDX_MOD q)) else ringDist (s.blk.ringSize q) (s.blk.rd (R.RING_IDX_MOD q)) (v.toNat % 8192)) ≤ s.blk.ringSize q) ∧
    (∃ (s : State) (q : Fin 11) (v : Word) (c : Instr),
      ((∃ r : Fin 4, c = .commandDoorbell r v ∧ q.val = r.val) ∨ (∃ r : Fin 4, c = .completionDoorbell r v ∧ q.val = 4 + r.val) ∨ (∃ r : Fin 2, c = .telemetryDoorbell r v ∧ q.val = 8 + r.val) ∨ (c = .eventDoorbell v ∧ q.val = 10)) ∧ s.blk.powered .host = true ∧ s.blk.rd (R.RING_STAT_STATE q) ≠ 2 ∧ s.blk.on (R.RING_CTL_EN q) = true ∧ s.blk.ringSize q < (if q.val < 4 then ringDist (s.blk.ringSize q) (v.toNat % 8192) (s.blk.rd (R.RING_IDX_MOD q)) else ringDist (s.blk.ringSize q) (s.blk.rd (R.RING_IDX_MOD q)) (v.toNat % 8192))) ∧
    (∃ (s : State) (q : Fin 11) (v : Word) (c : Instr),
      ((∃ r : Fin 4, c = .commandDoorbell r v ∧ q.val = r.val) ∨ (∃ r : Fin 4, c = .completionDoorbell r v ∧ q.val = 4 + r.val) ∨ (∃ r : Fin 2, c = .telemetryDoorbell r v ∧ q.val = 8 + r.val) ∨ (c = .eventDoorbell v ∧ q.val = 10)) ∧ s.blk.powered .host = true ∧ s.blk.rd (R.RING_STAT_STATE q) ≠ 2 ∧ s.blk.on (R.RING_CTL_EN q) = false) :=
  ⟨⟨(st [pw .host, (R.RING_CTL_EN 10, 1), (R.RING_CTL_LOG2SIZE 10, 4), (R.RING_STAT_STATE 10, 1)]), 10, 16, _, Or.inr (Or.inr (Or.inr ⟨rfl, rfl⟩)), by decide +kernel⟩,
    ⟨(st [pw .host, (R.RING_CTL_EN 10, 1), (R.RING_CTL_LOG2SIZE 10, 4), (R.RING_STAT_STATE 10, 1)]), 10, 1, _, Or.inr (Or.inr (Or.inr ⟨rfl, rfl⟩)), by decide +kernel⟩,
    ⟨(st [pw .host, (R.RING_CTL_EN 0, 0), (R.RING_STAT_STATE 0, 0)]), 0, 1, _, Or.inl ⟨0, rfl, rfl⟩, by decide +kernel⟩⟩

/-- The hypotheses of `Obligations.HostInterface` can be met. -/
theorem wit_HostInterface :
    (∃ (s : State),
      s.blk.powered .host = true) ∧
    (∃ (s : State),
      s.blk.powered .host = true ∧ s.blk.rd R.HIF_STAT_HB = 1 ∧ s.blk.rd R.HIF_HB_TMO * cycPerMs ≤ s.blk.host.hbAge) ∧
    (∃ (s : State),
      s.blk.powered .host = true) ∧
    (∃ (s : State) (v : Fin 32),
      s.blk.powered .host = true ∧ v.val ≤ 6 ∧ s.blk.msixDue (4 + v) = true) ∧
    (∃ (s : State),
      s.blk.powered .host = true) ∧
    (∃ (s : State),
      s.blk.powered .host = true) ∧
    (∃ (s : State) (g w : Fin 4),
      s.blk.powered .host = true ∧ g.val ≠ 0 ∧ (w.val = 1 ∨ w.val = 2)) :=
  ⟨⟨(st [pw .host]), by decide +kernel⟩,
    ⟨(st [(R.HIF_STAT_HB, 1), (R.HIF_HB_TMO, 1)] fun b => { b with host := { b.host with hbAge := 400000 } }), by decide +kernel⟩,
    ⟨(st [pw .host]), by decide +kernel⟩,
    ⟨(st [pw .host] fun b => { b with host := { b.host with rings := List.replicate 11 ⟨true, 1, 0⟩ } }), 6, by decide +kernel⟩,
    ⟨(st [pw .host]), by decide +kernel⟩,
    ⟨(st [pw .host]), by decide +kernel⟩,
    ⟨(st [pw .host]), 1, 2, by decide +kernel⟩⟩

/-- The hypotheses of `Obligations.DescriptorsAndCompletions` can be met. -/
theorem wit_DescriptorsAndCompletions :
    (∃ (s : State) (r : Fin 4) (d : List Byte),
      s.blk.powered .host = true ∧ s.blk.mayFetch r = true ∧ descStatus d = none) ∧
    (∃ (s : State) (r : Fin 4) (d : List Byte) (st : Nat),
      s.blk.powered .host = true ∧ s.blk.mayFetch r = true ∧ descStatus d = some st) ∧
    (∃ (s : State) (r : Fin 4),
      s.blk.powered .host = true ∧ s.blk.ringRuns r = true) ∧
    (∃ (s : State) (r : Fin 4) (x : Slot) (l : List Slot) (st fn d : Nat),
      s.blk.powered .host = true ∧ s.blk.host.slots.getD r [] = x :: l ∧ x.res = some (st, fn, d) ∧ s.blk.ringSpace (4 + r) ≠ 0) ∧
    (∃ (s : State) (r : Fin 4) (x : Slot) (l : List Slot),
      s.blk.powered .host = true ∧ s.blk.host.slots.getD r [] = x :: l ∧ (x.res = none ∨ s.blk.ringSpace (4 + r) = 0)) :=
  ⟨⟨(st [pw .host, (R.RING_CTL_EN 0, 1), (R.RING_CTL_LOG2SIZE 0, 4), (R.RING_STAT_STATE 0, 1), (R.RING_IDX_HOST 0, 1), (R.RING_CTL_EN 4, 1), (R.RING_CTL_LOG2SIZE 4, 4), (R.RING_STAT_STATE 4, 1)]), 0, (List.replicate 4 0 ++ 255 :: List.replicate 55 0 ++ [45, 207, 99, 102]), by decide +kernel⟩,
    ⟨(st [pw .host, (R.RING_CTL_EN 0, 1), (R.RING_CTL_LOG2SIZE 0, 4), (R.RING_STAT_STATE 0, 1), (R.RING_IDX_HOST 0, 1), (R.RING_CTL_EN 4, 1), (R.RING_CTL_LOG2SIZE 4, 4), (R.RING_STAT_STATE 4, 1)]), 0, (List.replicate 64 1), 4, by decide +kernel⟩,
    ⟨(st [pw .host, (R.RING_CTL_EN 0, 1), (R.RING_CTL_LOG2SIZE 0, 4), (R.RING_STAT_STATE 0, 1), (R.RING_IDX_HOST 0, 1)]), 0, by decide +kernel⟩,
    ⟨(st [pw .host, (R.RING_CTL_EN 4, 1), (R.RING_CTL_LOG2SIZE 4, 4), (R.RING_STAT_STATE 4, 1)] fun b => { b with host := { b.host with slots := [[{ (default : Slot) with res := some (0, 0, 0) }]] } }), 0, ({ (default : Slot) with res := some (0, 0, 0) }), ([]), 0, 0, 0, by decide +kernel⟩,
    ⟨(st [] fun b => { b with host := { b.host with slots := [[{ (default : Slot) with res := some (0, 0, 0) }]] } }), 0, ({ (default : Slot) with res := some (0, 0, 0) }), ([]), by decide +kernel⟩⟩

/-- The hypotheses of `Obligations.TelemetryAndEvents` can be met. -/
theorem wit_TelemetryAndEvents :
    (∃ (s : State) (c : Fin 16),
      s.blk.powered .host = true ∧ c.val ∈ s.blk.host.telDue ∧ s.blk.ringRuns (8 + s.blk.rd R.HIF_TELCFG_RING) = true ∧ s.blk.host.telDrop.getD (s.blk.rd R.HIF_TELCFG_RING) 0 = 0 ∧ s.blk.ringSpace (8 + s.blk.rd R.HIF_TELCFG_RING) ≠ 0) ∧
    (∃ (s : State) (k : Fin 5),
      s.blk.powered .host = true ∧ (s.blk.rd (R.LE_CAPSTAT_CAP k) = 2 ∨ s.blk.rd (R.LE_CAPSTAT_CAP k) = 3) ∧ 24 ≤ (s.blk.tun k).buf.length ∧ s.blk.ringRuns (8 + s.blk.rd (R.LE_CAPCFG_RING k)) = true ∧ s.blk.host.telDrop.getD (s.blk.rd (R.LE_CAPCFG_RING k)) 0 = 0 ∧ 2 ≤ s.blk.ringSpace (8 + s.blk.rd (R.LE_CAPCFG_RING k))) ∧
    (∃ (s : State),
      s.blk.powered .host = true ∧ s.blk.ringSpace 10 ≠ 0 ∧ s.blk.evs.drops ≠ 0 ∧ s.blk.evs.low = []) ∧
    (∃ (s : State) (e : Event) (l : List Event),
      (∀ x m, s.blk.evs.low = x :: m → x.code ≠ 0x2105) ∧ s.blk.powered .host = true ∧ s.blk.ringSpace 10 ≠ 0 ∧ s.blk.evs.drops = 0 ∧ s.blk.evs.high = e :: l) ∧
    (∃ (s : State) (e : Event) (l : List Event),
      s.blk.powered .host = true ∧ s.blk.ringSpace 10 ≠ 0 ∧ s.blk.evs.drops = 0 ∧ s.blk.evs.high = [] ∧ s.blk.evs.low = e :: l) ∧
    (∃ (s : State),
      s.blk.ringSpace 10 = 0) :=
  ⟨⟨(st [pw .host, (R.RING_CTL_EN 8, 1), (R.RING_CTL_LOG2SIZE 8, 4), (R.RING_STAT_STATE 8, 1), (R.HIF_TELCFG_RING, 0)] fun b => { b with host := { b.host with telDue := [15] } }), 15, by decide +kernel⟩,
    ⟨(st [pw .host, (R.RING_CTL_EN 8, 1), (R.RING_CTL_LOG2SIZE 8, 4), (R.RING_STAT_STATE 8, 1), (R.LE_CAPSTAT_CAP 0, 2), (R.LE_CAPCFG_RING 0, 0)] fun b => { b with tuns := [{ (default : Tuner) with buf := List.replicate 24 (0, 0, 0) }] }), 0, by decide +kernel⟩,
    ⟨(st [pw .host, (R.RING_CTL_EN 10, 1), (R.RING_CTL_LOG2SIZE 10, 4), (R.RING_STAT_STATE 10, 1)] fun b => { b with evs := { b.evs with drops := 1 } }), by decide +kernel⟩,
    ⟨(st [pw .host, (R.RING_CTL_EN 10, 1), (R.RING_CTL_LOG2SIZE 10, 4), (R.RING_STAT_STATE 10, 1)] fun b => { b with evs := { b.evs with high := [(default : Event)] } }), ((default : Event)), ([]), (fun _ _ h => nomatch (show ([] : List Event) = _ from h)), by decide +kernel⟩,
    ⟨(st [pw .host, (R.RING_CTL_EN 10, 1), (R.RING_CTL_LOG2SIZE 10, 4), (R.RING_STAT_STATE 10, 1)] fun b => { b with evs := { b.evs with low := [(default : Event)] } }), ((default : Event)), ([]), by decide +kernel⟩,
    ⟨(st []), by decide +kernel⟩⟩

/-- The hypotheses of `Obligations.Levers` can be met. -/
theorem wit_Levers :
    (∃ (s : State) (n : Fin 8),
      s.blk.powered .fabric = true ∧ (s.blk.host.dwell.getD n default).ready = true ∧ (s.blk.pstate n = 0 ∨ s.blk.pstate n = 3 ∨ s.blk.pstate n = 4) ∧ s.blk.startRefusal n = none) ∧
    (∃ (s : State) (n : Fin 8),
      s.blk.powered .fabric = true ∧ (s.blk.host.dwell.getD n default).ready = false) ∧
    (∃ (s : State) (n : Fin 8),
      s.blk.powered .fabric = true ∧ s.blk.rd (R.HIF_BLOSS_LSTOP n) ≠ 0 ∧ (s.blk.host.dwell.getD n default).inRun ≠ 0 ∧ s.blk.rd (R.HIF_BLOSS_LSTOP n) * 1000 * cycPerMs ≤ (s.blk.host.dwell.getD n default).inRun ∧ (s.blk.drv n).rampStop = false) ∧
    (∃ (s : State) (l : Fin 4),
      s.blk.powered .fabric = true ∧ (s.blk.host.levers.getD l default).broken = true ∧ 64 ≤ (s.blk.host.levers.getD l default).good) :=
  ⟨⟨(st [(R.Dn_STAT_PSTATE 0, 0), (R.Dn_CMODE_SENS 0, 1), (R.Dn_CMODE_FALLBK 0, 1), (R.Dn_CFG_GRDY_EN 0, 0), (R.Dn_STAT_HASP_EN 0, 1), (R.Dn_STAT_OWN 0, 1)] fun b => { b with drvs := [{ Drive.cold with ref := 32767 }], host := { b.host with dwell := [{ (default : LevDwell) with ready := true }] } }), 0, by decide +kernel⟩,
    ⟨(st []), 0, by decide +kernel⟩,
    ⟨(st [(R.HIF_BLOSS_LSTOP 0, 1), (R.TICK_PERIOD_PERIOD, 40000)] fun b => { b with host := { b.host with dwell := [{ (default : LevDwell) with inRun := 400000000 }] } }), 0, by decide +kernel⟩,
    ⟨(st [] fun b => { b with host := { b.host with levers := [⟨true, 64⟩] } }), 0, by decide +kernel⟩⟩

/-- The hypotheses of `Obligations.Transactions` can be met. -/
theorem wit_Transactions :
    (∃ (s : State) (r : Fin 4) (h : Hdr) (why : Nat × Nat × Nat × Nat),
      s.blk.powered .fabric = true ∧ (s.blk.txn r).hdr = some h ∧ s.blk.judgeList (s.blk.txn r).bad (s.blk.txn r).list = some why) ∧
    (∃ (s : State) (r : Fin 4) (h : Hdr),
      s.blk.powered .fabric = true ∧ (s.blk.txn r).hdr = some h ∧ s.blk.judgeList (s.blk.txn r).bad (s.blk.txn r).list = none) ∧
    (∃ (s : State) (r : Fin 4) (c : Commit) (l : List Commit),
      s.blk.powered .fabric = true ∧ s.blk.txns.ready = c :: l ∧ c.ring = r.val ∧ c.hdr.ring = r ∧ c.ticks ≤ 1 ∧ s.blk.crossed c = true ∧ c.mute = false) ∧
    (∃ (s : State) (r : Fin 4),
      s.blk.powered .fabric = true ∧ (s.blk.txnState r = 1 ∨ s.blk.txnState r = 2) ∧ s.blk.rd R.TXN_CFG_TMO * cycPerMs ≤ (s.blk.txn r).age) :=
  ⟨⟨(st [] fun b => { b with txns := { b.txns with open_ := [{ (default : Txn) with hdr := some default, bad := true }] } }), 0, default, ((0x10, 0, 0, 0)), by decide +kernel⟩,
    ⟨(st [] fun b => { b with txns := { b.txns with open_ := [{ (default : Txn) with hdr := some default }] } }), 0, default, by decide +kernel⟩,
    ⟨(st [] fun b => { b with txns := { b.txns with ready := [{ (default : Commit) with ticks := 1 }] } }), 0, ({ (default : Commit) with ticks := 1 }), ([]), by decide +kernel⟩,
    ⟨(st [(R.TXN_STAT_STATE 0, 1), (R.TXN_CFG_TMO, 1), (R.TICK_PERIOD_PERIOD, 40000)] fun b => { b with txns := { b.txns with open_ := [{ (default : Txn) with age := 400000 }] } }), 0, by decide +kernel⟩⟩

/-- The hypotheses of `Obligations.CanReception` can be met. -/
theorem wit_CanReception :
    (∃ (s : State) (k : Fin 4) (f : CanFrame) (q idx : Nat) (l : List RxEl),
      ((s.blk.canMatch k f = none ∧ s.blk.rd (R.CANn_CFG_NMS k) = q ∧ q ≤ 1 ∧ idx = 255) ∨ (∃ act, s.blk.canMatch k f = some (idx, act) ∧ (act = 1 ∨ act = 2) ∧ q = act - 1)) ∧ s.blk.canOn k = true ∧ s.blk.on (R.CANn_STAT_RESTR k) = false ∧ s.blk.canRec k ≤ 127 ∧ s.blk.sesOfCan k f.xtd f.id = none ∧ s.blk.canMgmt k f = false ∧ (s.blk.can k).fifos[q]? = some l ∧ l.length < 32) ∧
    (∃ (s : State) (k : Fin 4) (f : CanFrame) (q idx : Nat) (l : List RxEl),
      ((s.blk.canMatch k f = none ∧ s.blk.rd (R.CANn_CFG_NMS k) = q ∧ q ≤ 1 ∧ idx = 255) ∨ (∃ act, s.blk.canMatch k f = some (idx, act) ∧ (act = 1 ∨ act = 2) ∧ q = act - 1)) ∧ s.blk.canOn k = true ∧ s.blk.on (R.CANn_STAT_RESTR k) = false ∧ s.blk.canRec k ≤ 127 ∧ s.blk.sesOfCan k f.xtd f.id = none ∧ s.blk.canMgmt k f = false ∧ (s.blk.can k).fifos[q]? = some l ∧ 32 ≤ l.length) ∧
    (∃ (s : State) (k : Fin 4) (q : Fin 2) (cnt : Byte),
      s.blk.powered .comm = true ∧ cnt.toNat ≠ 0 ∧ cnt.toNat ≤ 32 ∧ ((s.blk.can k).fifos.getD q []).length ≤ 32) ∧
    (∃ (s : State) (k : Fin 4) (q : Fin 2) (w : Fin 21) (x : Flip) (e : RxEl) (l : List RxEl),
      s.blk.powered .comm = true ∧ (s.blk.can k).fifos[q.val]? = some (e :: l) ∧ flipPasses x (0x7080 + k.val * 256 + q.val * 32 + w.val) (e.word w) = false) :=
  ⟨⟨(st [pw .comm, (R.CANn_STAT_STATE 0, 3), (R.CANn_CFG_NMS 0, 1)]), 0, default, 1, 255, ([]), Or.inl (by decide +kernel), by decide +kernel⟩,
    ⟨(st [pw .comm, (R.CANn_STAT_STATE 0, 3), (R.CANn_CFG_FLSTD 0, 1)] fun b => { b with cans := [{ Can.cold with std := [0x10000000, 0], fifos := [[], List.replicate 32 default] }] }), 0, default, 1, 0, (List.replicate 32 default), Or.inr ⟨2, by decide +kernel⟩, by decide +kernel⟩,
    ⟨(st [pw .comm] fun b => { b with cans := [{ Can.cold with fifos := [[], List.replicate 32 default] }] }), 0, 1, 32, by decide +kernel⟩,
    ⟨(st [pw .comm] fun b => { b with cans := [{ Can.cold with fifos := [[], [default]] }] }), 0, 1, 0, (⟨1, 0, none⟩), default, ([]), by decide +kernel⟩⟩

/-- The hypotheses of `Obligations.CanTransmission` can be met. -/
theorem wit_CanTransmission :
    (∃ (s : State) (k : Fin 4) (i : Nat),
      s.blk.canOn k = true ∧ s.blk.on (R.CANn_STAT_RESTR k) = false ∧ s.blk.canActive k = none ∧ s.blk.canChoice k = some i) ∧
    (∃ (s : State) (k : Fin 4) (i : Nat) (tag : TagCheck) (key : Nat),
      s.blk.canOn k = true ∧ s.blk.on (R.CANn_STAT_RESTR k) = false ∧ s.blk.canActive k = none ∧ s.blk.canChoice k = some i ∧ key = 0x7000 + k.val * 256 + i * 32 ∧ (badWord tag.first key 18 (canTxWord ((s.blk.can k).buf i).f)).isSome = true ∧ badWord tag.again key 18 (canTxWord ((s.blk.can k).buf i).f) = none) ∧
    (∃ (s : State) (k : Fin 4) (i : Nat) (tag : TagCheck) (key : Nat),
      s.blk.canOn k = true ∧ s.blk.on (R.CANn_STAT_RESTR k) = false ∧ s.blk.canActive k = none ∧ s.blk.canChoice k = some i ∧ key = 0x7000 + k.val * 256 + i * 32 ∧ (badWord tag.first key 18 (canTxWord ((s.blk.can k).buf i).f)).isSome = true ∧ (badWord tag.again key 18 (canTxWord ((s.blk.can k).buf i).f)).isSome = true ∧ ((s.blk.can k).buf i).next = []) ∧
    (∃ (s : State) (k : Fin 4) (i : Nat),
      s.blk.canOn k = true ∧ s.blk.canActive k = some i ∧ ((s.blk.can k).buf i).next = []) ∧
    (∃ (s : State) (k : Fin 4) (i : Nat),
      s.blk.canOn k = true ∧ s.blk.canActive k = some i ∧ ((s.blk.can k).buf i).next = [] ∧ ((s.blk.can k).buf i).cancel = none) ∧
    (∃ (s : State) (k : Fin 4) (i : Nat) (h : Hdr) (w : Bool),
      s.blk.canOn k = true ∧ s.blk.canActive k = some i ∧ ((s.blk.can k).buf i).cancel = some (some h, w) ∧ ((s.blk.can k).buf i).next = []) :=
  ⟨⟨(st [pw .comm, (R.CANn_STAT_STATE 0, 3), (txbFld 0 2, 1)]), 0, 2, by decide +kernel⟩,
    ⟨(st [pw .comm, (R.CANn_STAT_STATE 0, 3), (txbFld 0 2, 1)]), 0, 2, (⟨[(1, ⟨1, 0, none⟩)], []⟩), 0x7040, by decide +kernel⟩,
    ⟨(st [pw .comm, (R.CANn_STAT_STATE 0, 3), (txbFld 0 2, 1)]), 0, 2, (⟨[(1, ⟨1, 0, none⟩)], [(1, ⟨1, 0, none⟩)]⟩), 0x7040, by decide +kernel⟩,
    ⟨(st [pw .comm, (R.CANn_STAT_STATE 0, 3), (txbFld 0 2, 2)]), 0, 2, by decide +kernel⟩,
    ⟨(st [pw .comm, (R.CANn_STAT_STATE 0, 3), (txbFld 0 2, 2)]), 0, 2, by decide +kernel⟩,
    ⟨(st [pw .comm, (R.CANn_STAT_STATE 0, 3), (txbFld 0 2, 2)] fun b => { b with cans := [{ Can.cold with bufs := [TxBuf.cold, TxBuf.cold, { TxBuf.cold with cancel := some (some default, true) }] }] }), 0, 2, default, true, by decide +kernel⟩⟩

/-- The hypotheses of `Obligations.CanStates` can be met. -/
theorem wit_CanStates :
    (∃ (s : State) (k : Fin 4),
      s.blk.powered .comm = true ∧ s.blk.canState k = 2) ∧
    (∃ (s : State) (k : Fin 4) (dT : Nat),
      s.blk.canOn k = true ∧ s.blk.on (R.CANn_STAT_RESTR k) = false ∧ s.blk.rd (R.CANn_ECNT_TEC k) + dT ≤ 255) ∧
    (∃ (s : State) (k : Fin 4) (dT : Nat),
      s.blk.canOn k = true ∧ s.blk.on (R.CANn_STAT_RESTR k) = false ∧ 255 < s.blk.rd (R.CANn_ECNT_TEC k) + dT) ∧
    (∃ (s : State) (k : Fin 4),
      s.blk.canOn k = true) ∧
    (∃ (s : State) (k : Fin 4),
      s.blk.powered .comm = true ∧ s.blk.canState k = 5) ∧
    (∃ (s : State) (k : Fin 4),
      s.blk.powered .comm = true ∧ s.blk.canState k = 6) ∧
    (∃ (s : State) (k : Fin 4),
      s.blk.canOn k = true ∧ (s.blk.can k).sleepReq = true) ∧
    (∃ (s : State) (k : Fin 4),
      s.blk.powered .comm = true ∧ s.blk.canState k = 7 ∧ s.blk.on (R.CANn_CFG_ROLE k) = false) ∧
    (∃ (s : State) (k : Fin 4),
      s.blk.powered .comm = true ∧ s.blk.canState k = 7 ∧ s.blk.on (R.CANn_CFG_ROLE k) = true) :=
  ⟨⟨(st [pw .comm, (R.CANn_STAT_STATE 3, 2)]), 3, by decide +kernel⟩,
    ⟨(st [pw .comm, (R.CANn_STAT_STATE 0, 3), (R.CANn_ECNT_TEC 0, 247)]), 0, 8, by decide +kernel⟩,
    ⟨(st [pw .comm, (R.CANn_STAT_STATE 0, 3), (R.CANn_ECNT_TEC 0, 248)]), 0, 8, by decide +kernel⟩,
    ⟨(st [pw .comm, (R.CANn_STAT_STATE 0, 3)]), 0, by decide +kernel⟩,
    ⟨(st [pw .comm, (R.CANn_STAT_STATE 0, 5)]), 0, by decide +kernel⟩,
    ⟨(st [pw .comm, (R.CANn_STAT_STATE 0, 6)]), 0, by decide +kernel⟩,
    ⟨(st [pw .comm, (R.CANn_STAT_STATE 0, 3)] fun b => { b with cans := [{ Can.cold with sleepReq := true }] }), 0, by decide +kernel⟩,
    ⟨(st [pw .comm, (R.CANn_STAT_STATE 0, 7)]), 0, by decide +kernel⟩,
    ⟨(st [pw .comm, (R.CANn_STAT_STATE 0, 7), (R.CANn_CFG_ROLE 0, 1)]), 0, by decide +kernel⟩⟩

/-- The hypotheses of `Obligations.PointedAccess` can be met. -/
theorem wit_PointedAccess :
    (∃ (s : State) (p : PtrReg) (off : Nat) (c : Option (Fin 4 × Word) → Instr),
      ((∃ k : Fin 4, p = .flt k ∧ off = (R.CANn_FLTDAT_W k).off ∧ c = .canFltdatAccess k) ∨ (∃ q : Fin 2, p = .gcl q ∧ off = (R.LODE_Pk_GCLDAT_W q).off ∧ c = .gcldatAccess q)) ∧ s.blk.powered .comm = true) ∧
    (∃ (s : State) (p : PtrReg) (off : Nat) (c : Option (Fin 4 × Word) → Instr) (r : Fin 4),
      ((∃ k : Fin 4, p = .flt k ∧ off = (R.CANn_FLTDAT_W k).off ∧ c = .canFltdatAccess k) ∨ (∃ q : Fin 2, p = .gcl q ∧ off = (R.LODE_Pk_GCLDAT_W q).off ∧ c = .gcldatAccess q)) ∧ s.blk.powered .comm = true ∧ s.blk.txnStandby = false ∧ (s.blk.txnState r = 1 ∨ s.blk.txnState r = 2) ∧ (s.blk.txn r).list.length < 4096) :=
  ⟨⟨(st [pw .comm]), (.flt 3), ((R.CANn_FLTDAT_W 3).off), (.canFltdatAccess 3), Or.inl ⟨3, rfl, rfl, rfl⟩, by decide +kernel⟩,
    ⟨(st [pw .comm, (R.TXN_STAT_STATE 0, 1)]), (.gcl 1), ((R.LODE_Pk_GCLDAT_W 1).off), (.gcldatAccess 1), 0, Or.inr ⟨1, rfl, rfl, rfl⟩, by decide +kernel⟩⟩

/-- The hypotheses of `Obligations.LodeFrames` can be met. -/
theorem wit_LodeFrames :
    (∃ (s : State) (p : Fin 2) (q : Fin 3) (f : EthFrame),
      q.val = p.val + 1 ∧ s.blk.portUp p = true ∧ (f.good = false ∨ f.len < 64 ∨ (if f.rtag.isSome then 1528 else 1522) < f.len)) ∧
    (∃ (s : State) (p : Fin 2) (q : Fin 3) (f : EthFrame) (v : Nat × Nat) (m : List Bool) (o : Nat) (l : List (EthFrame × Bool)),
      q.val = p.val + 1 ∧ s.blk.portUp p = true ∧ f.good = true ∧ 64 ≤ f.len ∧ f.len ≤ 1522 ∧ f.etype ≠ 0x8808 ∧ f.etype ≠ 0x88F7 ∧ f.dmac ≠ gptpMac ∧ f.dmac ≠ s.blk.mac ∧ f.dmac ≠ f.smac ∧ isGroup f.dmac = false ∧ isGroup f.smac = false ∧ f.vlan = some v ∧ s.blk.vlanMembers v.1 = some m ∧ m.getD (p + 1) false = true ∧ s.blk.lode.fdb.length < 1024 ∧ (m.getD 0 false = false ∨ ∃ e ∈ s.blk.lode.fdb, e.1 = f.dmac) ∧ o ∈ s.blk.targets f.dmac v.1 (some p.val) ∧ s.blk.portUp o = true ∧ (s.blk.lodePort o).queues[s.blk.queueOf f]? = some l ∧ (l.map (fun x => x.1.len)).sum + f.len ≤ 32768) ∧
    (∃ (s : State) (f : EthFrame) (o : Nat) (l : List (EthFrame × Bool)),
      s.blk.lodeOn = true ∧ s.blk.streamOf true f.dmac (f.vlan.getD (0, 0)).1 = none ∧ s.blk.targets f.dmac (f.vlan.getD (0, 0)).1 none = [o] ∧ s.blk.portUp o = true ∧ (s.blk.lodePort o).queues[s.blk.queueOf f]? = some l ∧ (l.map (fun x => x.1.len)).sum + f.len ≤ 32768) ∧
    (∃ (s : State) (p : Fin 2) (q : Fin 8) (f : EthFrame) (x : Bool) (l : List (EthFrame × Bool)),
      (∀ j, q.val < j → j < 8 → (s.blk.lodePort p).queues.getD j [] = []) ∧ s.blk.portUp p = true ∧ s.blk.on (R.LODE_Pk_GCLCFG_EN p) = false ∧ (s.blk.lodePort p).queues.getD q [] = (f, x) :: l) ∧
    (∃ (s : State) (p : Fin 2),
      s.blk.gates8 p = 0) :=
  ⟨⟨(st [pw .comm, (R.LODE_CFG_EN, 1), (R.LODE_Pk_CFG_EN 1, 1), (R.LODE_Pk_STAT_LINK 1, 1)]), 1, 2, ({ (default : EthFrame) with good := true, len := 1529 }), by decide +kernel⟩,
    ⟨(st [pw .comm, (R.LODE_CFG_EN, 1), (R.LODE_Pk_CFG_EN 0, 1), (R.LODE_Pk_STAT_LINK 0, 1), (R.LODE_CFG_EN, 1), (R.LODE_Pk_CFG_EN 1, 1), (R.LODE_Pk_STAT_LINK 1, 1), (R.LODE_VLAN_EN 0, 1), (R.LODE_VLAN_VID 0, 1), (R.LODE_VLAN_MEMB 0, 6), (R.LODE_MAC_LO_MAC, 6)]), 0, 1, ({ (default : EthFrame) with good := true, len := 1522, dmac := 2, smac := 4, etype := 0x800, vlan := some (1, 0) }), ((1, 0)), ([false, true, true]), 1, ([]), by decide +kernel⟩,
    ⟨(st [pw .comm, (R.LODE_CFG_EN, 1), (R.LODE_Pk_CFG_EN 0, 1), (R.LODE_Pk_STAT_LINK 0, 1), (R.LODE_VLAN_EN 0, 1), (R.LODE_VLAN_VID 0, 1), (R.LODE_VLAN_MEMB 0, 2)]), ({ (default : EthFrame) with good := true, len := 64, dmac := 2, smac := 4, etype := 0x800, vlan := some (1, 0) }), 0, ([]), by decide +kernel⟩,
    ⟨(st [pw .comm, (R.LODE_CFG_EN, 1), (R.LODE_Pk_CFG_EN 0, 1), (R.LODE_Pk_STAT_LINK 0, 1)] fun b => { b with lode := { b.lode with ports := [{ LodePort.cold with queues := [[], [], [], [], [], [], [], [(default, false)]] }] } }), 0, 7, default, false, ([]), (by intro j h1 h2; have : (7 : Fin 8).val = 7 := rfl; omega), by decide +kernel⟩,
    ⟨(st [(R.LODE_Pk_GCLCFG_EN 0, 1)] fun b => { b with lode := { b.lode with ports := [{ LodePort.cold with run := [5] }] } }), 0, by decide +kernel⟩⟩

/-- The hypotheses of `Obligations.LodeLinksAndTime` can be met. -/
theorem wit_LodeLinksAndTime :
    (∃ (s : State) (p : Fin 2),
      s.blk.lodeOn = true ∧ s.blk.on (R.LODE_Pk_GCLCFG_EN p) = true) ∧
    (∃ (s : State) (p : Fin 2),
      s.blk.lodeOn = true ∧ s.blk.on (R.LODE_Pk_CFG_EN p) = true ∧ s.blk.on (R.LODE_Pk_STAT_LINK p) = false) ∧
    (∃ (s : State) (p : Fin 2),
      s.blk.powered .comm = true ∧ s.blk.on (R.LODE_Pk_STAT_LINK p) = true) ∧
    (∃ (s : State) (p : Fin 2),
      s.blk.ptpOn p = true) ∧
    (∃ (s : State) (p : Fin 2),
      s.blk.ptpOn p = true) ∧
    (∃ (s : State) (p : Fin 2) (ofs : Int),
      s.blk.ptpOn p = true ∧ s.blk.on R.CLK_STAT_HOLD = true ∧ 10000 < ofs ∧ ofs < 32768) ∧
    (∃ (s : State),
      s.blk.ptpGood = true ∧ s.blk.on R.LODE_PTPSTAT_SYNC = false) ∧
    (∃ (s : State),
      s.blk.powered .comm = true ∧ s.blk.on R.LODE_PTPSTAT_SYNC = true) :=
  ⟨⟨(st [pw .comm, (R.LODE_CFG_EN, 1), (R.LODE_Pk_GCLCFG_EN 1, 1)]), 1, by decide +kernel⟩,
    ⟨(st [pw .comm, (R.LODE_CFG_EN, 1), (R.LODE_Pk_CFG_EN 0, 1)]), 0, by decide +kernel⟩,
    ⟨(st [(R.LODE_Pk_STAT_LINK 0, 1)]), 0, by decide +kernel⟩,
    ⟨(st [pw .comm, (R.LODE_CFG_EN, 1), (R.LODE_CFG_PTPEN, 1), (R.LODE_PTPCFG_P1EN, 1), (R.LODE_PTPCFG_P2EN, 1)]), 1, by decide +kernel⟩,
    ⟨(st [pw .comm, (R.LODE_CFG_EN, 1), (R.LODE_CFG_PTPEN, 1), (R.LODE_PTPCFG_P1EN, 1), (R.LODE_PTPCFG_P2EN, 1)]), 0, by decide +kernel⟩,
    ⟨(st [pw .comm, (R.LODE_CFG_EN, 1), (R.LODE_CFG_PTPEN, 1), (R.LODE_PTPCFG_P1EN, 1), (R.LODE_PTPCFG_P2EN, 1), (R.CLK_STAT_HOLD, 1)]), 0, 10001, by decide +kernel⟩,
    ⟨(st [pw .comm, (R.LODE_CFG_EN, 1), (R.LODE_CFG_PTPEN, 1), (R.LODE_PTPCFG_P1EN, 1), (R.LODE_PTPCFG_P2EN, 1), (R.LODE_PTPSTAT_P1ROLE, 2), (R.LODE_PTPSTAT_OFFS, 1000)]), by decide +kernel⟩,
    ⟨(st [(R.LODE_PTPSTAT_SYNC, 1)]), by decide +kernel⟩⟩

/-- The hypotheses of `Obligations.LodeServices` can be met. -/
theorem wit_LodeServices :
    (∃ (s : State) (k : Fin 32),
      s.blk.powered .comm = true ∧ s.blk.on (R.LODE_CBSTR_EN k) = true ∧ s.blk.on (R.LODE_CBSTR_DIR k) = false ∧ (s.blk.cb k).last ≠ none ∧ s.blk.rd (R.LODE_CBTIM_RSTTO k) * cycPerMs ≤ (s.blk.cb k).age + s.blk.period) ∧
    (∃ (s : State) (k : Fin 32) (p : Fin 2) (a : Nat),
      s.blk.powered .comm = true ∧ s.blk.on (R.LODE_CBSTR_EN k) = true ∧ s.blk.on (R.LODE_CBSTR_DIR k) = false ∧ (s.blk.cb k).lost = false ∧ k.val < s.blk.lode.cbs.length ∧ (s.blk.cb k).one = some (p.val, a) ∧ s.blk.rd (R.LODE_CBTIM_PATHTO k) * cycPerMs ≤ a + s.blk.period ∧ (s.blk.cb k).pAge.getD p 0 < s.blk.rd (R.LODE_CBTIM_PATHTO k) * cycPerMs) ∧
    (∃ (s : State) (c : Fin 16) (o : Nat),
      s.blk.lodeOn = true ∧ s.blk.on R.LODE_CFG_TELEN = true ∧ s.blk.isOwner = true ∧ s.blk.fn % (s.blk.rd R.LODE_TELCFG_TDIV + 1) = 0 ∧ s.blk.rd R.LODE_TELCFG_MASK = 2 ^ c.val ∧ s.blk.streamOf true (ipMac (s.blk.rd R.LODE_TELADDR_ADDR)) (s.blk.rd R.LODE_TELPORT_VID) = none ∧ s.blk.targets (ipMac (s.blk.rd R.LODE_TELADDR_ADDR)) (s.blk.rd R.LODE_TELPORT_VID) none = [o] ∧ s.blk.portUp o = true ∧ (s.blk.lodePort o).queues[s.blk.rd (sliceOf R.LODE_PCPQ_MAP (s.blk.rd R.LODE_TELPORT_PCP) 3)]? = some []) ∧
    (∃ (s : State),
      s.blk.fn % (s.blk.rd R.LODE_TELCFG_TDIV + 1) ≠ 0) ∧
    (∃ (s : State) (v : Word),
      s.blk.powered .comm = true ∧ s.blk.on R.LODE_MDIOST_BUSY = false ∧ bitAt v.toNat 31 = true) ∧
    (∃ (s : State) (w : Bool),
      s.blk.powered .comm = true ∧ s.blk.lode.mdio = some w) ∧
    (∃ (s : State) (p : Fin 2) (a : Nat),
      s.blk.powered .comm = true ∧ (s.blk.lodePort p).phyAge = some a ∧ 10 * cycPerMs ≤ a + s.blk.period) ∧
    (∃ (s : State),
      s.blk.powered .comm = true) :=
  ⟨⟨(st [(R.LODE_CBSTR_EN 0, 1), (R.LODE_CBTIM_RSTTO 0, 1), (R.TICK_PERIOD_PERIOD, 40000)] fun b => { b with lode := { b.lode with cbs := [{ (default : CbStream) with last := some 5, age := 360000 }] } }), 0, by decide +kernel⟩,
    ⟨(st [(R.LODE_CBSTR_EN 0, 1), (R.LODE_CBTIM_PATHTO 0, 2), (R.TICK_PERIOD_PERIOD, 40000)] fun b => { b with lode := { b.lode with cbs := [{ (default : CbStream) with pAge := [0, 0], one := some (1, 800000) }] } }), 0, 1, 800000, by decide +kernel⟩,
    ⟨(st [pw .comm, (R.LODE_CFG_EN, 1), (R.LODE_Pk_CFG_EN 0, 1), (R.LODE_Pk_STAT_LINK 0, 1), (R.LODE_CFG_TELEN, 1), (R.LODE_TELCFG_MASK, 32768), (R.LODE_TELADDR_ADDR, 0xE0000001), (R.LODE_VLAN_EN 0, 1), (R.LODE_VLAN_MEMB 0, 2)]), 15, 0, by decide +kernel⟩,
    ⟨(st [(R.LODE_TELCFG_TDIV, 1), (R.TICK_FRAME_NO_LO_FN_LO, 1)]), by decide +kernel⟩,
    ⟨(st [pw .comm]), 0x80000000, by decide +kernel⟩,
    ⟨(st [] fun b => { b with lode := { b.lode with mdio := some true } }), true, by decide +kernel⟩,
    ⟨(st [(R.TICK_PERIOD_PERIOD, 40000)] fun b => { b with lode := { b.lode with ports := [{ LodePort.cold with phyAge := some 3960000 }] } }), 0, 3960000, by decide +kernel⟩,
    ⟨(st []), by decide +kernel⟩⟩

/-- The hypotheses of `Obligations.ClockReferences` can be met. -/
theorem wit_ClockReferences :
    (∃ (s : State) (p : Fin 3),
      s.blk.powered .safe = true ∧ s.blk.on (lockFld p) = true) ∧
    (∃ (s : State) (p : Fin 3),
      s.blk.powered .safe = true ∧ s.blk.on (lockFld p) = false ∧ 3 ≤ s.blk.pwr.step ∧ (p.val = 2 → s.blk.clk.nOff = false) ∧ (p.val < 2 → s.blk.clk.stop = false)) ∧
    (∃ (s : State),
      s.blk.powered .fabric = true ∧ s.blk.on R.CLK_STAT_XOOK = true ∧ s.blk.pwr.step ≠ 3 ∧ s.blk.rd R.CLK_STAT_REFSEL = 0 ∧ s.blk.on R.CLK_STAT_FBOK = true ∧ s.blk.clk.fbLost = false) ∧
    (∃ (s : State),
      s.blk.powered .fabric = true ∧ s.blk.on R.CLK_STAT_XOOK = true ∧ s.blk.pwr.step ≠ 3 ∧ s.blk.rd R.CLK_STAT_REFSEL = 0 ∧ (s.blk.on R.CLK_STAT_FBOK = false ∨ s.blk.clk.fbLost = true) ∧ s.blk.standbyReady = false) ∧
    (∃ (s : State) (w : ClkWindow),
      s.blk.powered .fabric = true ∧ s.blk.on R.CLK_STAT_XOOK = true ∧ s.blk.pwr.step ≠ 3 ∧ xoGood w = false ∧ s.blk.flintAVote w = true ∧ s.blk.standbyReady = false) ∧
    (∃ (s : State) (n : Nat),
      s.blk.trimDiffers n (trimBin s.blk.dieB) = true ∧ s.blk.powered .fabric = true ∧ s.blk.on R.CLK_STAT_XOOK = true ∧ s.blk.rd R.CLK_STAT_REFSEL = 0 ∧ s.blk.clk.drift = true ∧ s.blk.on R.CLK_STAT_FBOK = true ∧ s.blk.clk.fbLost = false) ∧
    (∃ (s : State) (x : FlintSeen),
      s.blk.powered .fabric = true ∧ s.blk.rd R.CLK_STAT_REFSEL = 1 ∧ (x.stopped = true ∨ x.count < 485 ∨ 515 < x.count) ∧ s.blk.standbyReady = false) ∧
    (∃ (s : State),
      s.blk.powered .fabric = true ∧ s.blk.rd R.CLK_STAT_REFSEL = 0 ∧ s.blk.clk.fbLost = false) ∧
    (∃ (s : State),
      s.blk.powered .fabric = true ∧ s.blk.on R.CLK_STAT_HOLD = true) ∧
    (∃ (s : State),
      s.blk.powered .safe = true ∧ s.blk.on R.CLK_STAT_HOLD = true ∧ 86400 ≤ s.blk.rd R.CLK_HOLD_SEC) :=
  ⟨⟨(st [(lockFld 2, 1)]), 2, by decide +kernel⟩,
    ⟨(st [] fun b => { b with pwr := { b.pwr with step := 3 } }), 2, by decide +kernel⟩,
    ⟨(st [pw .fabric, (R.CLK_STAT_XOOK, 1), (R.CLK_STAT_REFSEL, 0), (R.CLK_STAT_FBOK, 1)]), by decide +kernel⟩,
    ⟨(st [pw .fabric, (R.CLK_STAT_XOOK, 1), (R.CLK_STAT_REFSEL, 0)]), by decide +kernel⟩,
    ⟨(st [pw .fabric, (R.CLK_STAT_XOOK, 1), (R.CLK_STAT_REFSEL, 0), (R.CLK_STAT_FBOK, 1), (R.CLK_MON_FBDEV, 200)]), (⟨240, 485⟩), by decide +kernel⟩,
    ⟨(st [pw .fabric, (R.CLK_STAT_XOOK, 1), (R.CLK_STAT_REFSEL, 0), (R.CLK_STAT_FBOK, 1), (R.CLK_CFG_PLAUS, 1)] fun b => { b with afe := { b.afe with tabF := List.replicate 64 (some 5) }, clk := { b.clk with drift := true } }), 100000, trim_differs _ rfl (by decide +kernel) _, by decide +kernel⟩,
    ⟨(st [pw .fabric, (R.CLK_STAT_REFSEL, 1)]), (⟨true, 500⟩), by decide +kernel⟩,
    ⟨(st [pw .fabric, (R.CLK_STAT_XOOK, 1), (R.CLK_STAT_REFSEL, 0)]), by decide +kernel⟩,
    ⟨(st [pw .fabric, (R.CLK_STAT_HOLD, 1)]), by decide +kernel⟩,
    ⟨(st [(R.CLK_STAT_HOLD, 1), (R.CLK_HOLD_SEC, 86400)]), by decide +kernel⟩⟩

/-- The hypotheses of `Obligations.LocksAndRealTime` can be met. -/
theorem wit_LocksAndRealTime :
    (∃ (s : State) (p : Bool),
      s.blk.powered .safe = true ∧ s.blk.on (if p then R.CLK_STAT_LOCKP else R.CLK_STAT_LOCKS) = true) ∧
    (∃ (s : State) (w : Bool),
      s.blk.powered .safe = true ∧ s.blk.on R.CLK_STAT_LOCKN = true ∧ (w = false ∨ s.blk.clk.relocks = [])) ∧
    (∃ (s : State),
      s.blk.powered .safe = true ∧ s.blk.on R.CLK_STAT_LOCKN = true ∧ 2 ≤ (s.blk.clk.relocks.filter (fun x => decide (x ≤ 1000 * cycPerMs + s.blk.period))).length) ∧
    (∃ (s : State),
      s.blk.clk.rtcRun = true ∧ s.blk.powered .fabric = true) ∧
    (∃ (s : State),
      s.blk.clk.rtcRun = true ∧ s.blk.powered .fabric = false) ∧
    (∃ (s : State),
      s.blk.pwr.vault = true ∧ s.blk.clk.rtcRun = false ∧ s.blk.clk.x32Late = false ∧ s.blk.on R.CLK_STAT_RTCSRC = false) :=
  ⟨⟨(st [(R.CLK_STAT_LOCKP, 1)]), true, by decide +kernel⟩,
    ⟨(st [(R.CLK_STAT_LOCKN, 1)]), false, by decide +kernel⟩,
    ⟨(st [(R.CLK_STAT_LOCKN, 1)] fun b => { b with clk := { b.clk with relocks := [0, 5] } }), by decide +kernel⟩,
    ⟨(st [pw .fabric] fun b => { b with clk := { b.clk with rtcRun := true } }), by decide +kernel⟩,
    ⟨(st [(R.PWR_DOMSTAT_ON, 0)] fun b => { b with clk := { b.clk with rtcRun := true } }), by decide +kernel⟩,
    ⟨(st [(R.CLK_STAT_RTCSRC, 0)] fun b => { b with pwr := { b.pwr with vault := true } }), by decide +kernel⟩⟩

/-- The hypotheses of `Obligations.Supplies` can be met. -/
theorem wit_Supplies :
    (∃ (s : State),
      s.blk.monitored = true ∧ s.blk.pwr.ride = none) ∧
    (∃ (s : State) (a : Nat),
      s.blk.monitored = true ∧ s.blk.pwr.ride = some a) ∧
    (∃ (s : State) (a : Nat),
      s.blk.monitored = true ∧ s.blk.pwr.ride = some a ∧ (s.blk.pwr.step = 8 → s.blk.rd R.PWR_CFG_RIDE * cycPerMs ≤ a + s.blk.period)) ∧
    (∃ (s : State),
      s.blk.pwr.vmain = true) ∧
    (∃ (s : State),
      s.blk.monitored = true) ∧
    (∃ (s : State),
      s.blk.monitored = true) ∧
    (∃ (s : State),
      s.blk.powered .safe = true ∧ s.blk.pwr.v33 = true) ∧
    (∃ (s : State),
      s.blk.powered .safe = true) ∧
    (∃ (s : State) (d : Fin 12),
      s.blk.powered (domAt d) = true ∧ twoPhase (domAt d) = true ∧ s.blk.on (bitOf R.PWR_DOMSTAT_PHF (domAt d).bit) = false) :=
  ⟨⟨(st [pw .safe] fun b => { b with pwr := { b.pwr with vmain := true } }), by decide +kernel⟩,
    ⟨(st [pw .safe] fun b => { b with pwr := { b.pwr with vmain := true, ride := some 0 } }), 0, by decide +kernel⟩,
    ⟨(st [pw .safe, (R.PWR_CFG_RIDE, 1), (R.TICK_PERIOD_PERIOD, 40000)] fun b => { b with pwr := { b.pwr with vmain := true, ride := some 360000, step := 8 } }), 360000, by decide +kernel⟩,
    ⟨(st [] fun b => { b with pwr := { b.pwr with vmain := true } }), by decide +kernel⟩,
    ⟨(st [pw .safe] fun b => { b with pwr := { b.pwr with vmain := true } }), by decide +kernel⟩,
    ⟨(st [pw .safe] fun b => { b with pwr := { b.pwr with vmain := true } }), by decide +kernel⟩,
    ⟨(st [pw .safe] fun b => { b with pwr := { b.pwr with v33 := true } }), by decide +kernel⟩,
    ⟨(st [pw .safe]), by decide +kernel⟩,
    ⟨(st [pw .lpa]), 3, by decide +kernel⟩⟩

/-- The hypotheses of `Obligations.DomainLost` can be met. -/
theorem wit_DomainLost :
    (∃ (s : State) (d : Fin 12),
      s.blk.powered (domAt d) = true ∧ domAt d ≠ .vault) ∧
    (∃ (s : State) (d : Fin 12),
      s.blk.powered (domAt d) = true ∧ twoPhase (domAt d) = true ∧ s.blk.on (bitOf R.PWR_DOMSTAT_PHF (domAt d).bit) = true) :=
  ⟨⟨(st [pw .nvs]), 11, by decide +kernel⟩,
    ⟨(st [pw .fabric, (bitOf R.PWR_DOMSTAT_PHF Dom.fabric.bit, 1)]), 2, by decide +kernel⟩⟩

/-- The hypotheses of `Obligations.StartsAndResets` can be met. -/
theorem wit_StartsAndResets :
    (∃ (s : State),
      s.blk.pwr.vault = true ∧ s.blk.pwr.vmain = false ∧ s.blk.pwr.auto = true ∧ s.blk.pwr.step = 0 ∧ s.blk.pwr.hot = false ∧ s.blk.on R.PWR_RSTPIN_LEVEL = true) ∧
    (∃ (s : State),
      s.blk.pwr.vault = true ∧ s.blk.pwr.vmain = false ∧ s.blk.pwr.auto = false) ∧
    (∃ (s : State),
      s.blk.pwr.vault = true ∧ s.blk.rstIgnored = false ∧ s.blk.pwr.hot = false ∧ s.blk.pwr.held = false) ∧
    (∃ (s : State),
      s.blk.pwr.vault = true ∧ s.blk.pwr.held = true ∧ s.blk.pwr.vmain = true) ∧
    (∃ (s : State),
      s.blk.pwr.held = true ∧ s.blk.on R.PWR_RSTPIN_LEVEL = false ∧ s.blk.pwr.vmain = true) ∧
    (∃ (s : State),
      s.blk.on R.PWR_RSTPIN_MASK = true) ∧
    (∃ (s : State) (v : Word) (c : Instr),
      (c = .pwrStby v ∨ c = .pwrSysrst v) ∧ s.blk.powered .fabric = true ∧ s.blk.pwr.step = 8 ∧ (v.toNat / 256 % 256 ≠ 0xA5 ∨ v.toNat % 4 = 3)) ∧
    (∃ (s : State) (v : Word) (c : Instr),
      (c = .pwrStby v ∨ c = .pwrSysrst v) ∧ s.blk.powered .fabric = true ∧ s.blk.pwr.step = 8 ∧ v.toNat / 256 % 256 = 0xA5 ∧ v.toNat % 4 = 1 ∧ (∀ n < 8, (s.blk.pstate n = 0 ∨ s.blk.pstate n = 3 ∨ s.blk.pstate n = 5) ∧ (s.blk.stpState n = 0 ∨ s.blk.stpState n = 3 ∨ s.blk.stpState n = 4)) ∧ s.blk.rd R.MIR_STAT_ROLE ≠ 3) ∧
    (∃ (s : State) (v : Word) (c : Instr),
      (c = .pwrStby v ∨ c = .pwrSysrst v) ∧ s.blk.powered .fabric = true ∧ s.blk.pwr.step = 8 ∧ v.toNat / 256 % 256 = 0xA5 ∧ v.toNat % 4 = 2 ∧ s.blk.pwr.vmain = true ∧ s.blk.on R.PWR_RSTPIN_LEVEL = true) ∧
    (∃ (s : State) (c : Instr),
      ((c = .wakePin ∧ s.blk.on R.PWR_WAKE_PINEN = true) ∨ (c = .rtcAlarm ∧ s.blk.on R.PWR_WAKE_RTCEN = true ∧ s.blk.rd R.PWR_ALARM_SEC ≠ 0 ∧ s.blk.clk.rtcRun = true)) ∧ s.blk.pwr.vault = true ∧ s.blk.pwr.step = 0 ∧ s.blk.pwr.held = false ∧ s.blk.pwr.hot = false ∧ s.blk.pwr.vmain = true ∧ s.blk.on R.PWR_RSTPIN_LEVEL = true) ∧
    (∃ (s : State),
      s.blk.pwr.vault = false) ∧
    (∃ (s : State),
      s.blk.pwr.vault = true ∧ s.blk.pwr.vmain = false ∧ s.blk.powered .safe = false) :=
  ⟨⟨(st [(R.PWR_RSTPIN_LEVEL, 1)] fun b => { b with pwr := { b.pwr with vault := true, auto := true } }), by decide +kernel⟩,
    ⟨(st [] fun b => { b with pwr := { b.pwr with vault := true } }), by decide +kernel⟩,
    ⟨(st [] fun b => { b with pwr := { b.pwr with vault := true } }), by decide +kernel⟩,
    ⟨(st [] fun b => { b with pwr := { b.pwr with vault := true, held := true, vmain := true } }), by decide +kernel⟩,
    ⟨(st [(R.PWR_RSTPIN_LEVEL, 0)] fun b => { b with pwr := { b.pwr with held := true, vmain := true } }), by decide +kernel⟩,
    ⟨(st [(R.PWR_RSTPIN_MASK, 1)]), by decide +kernel⟩,
    ⟨(st [pw .fabric] fun b => { b with pwr := { b.pwr with step := 8 } }), 0xA503, _, Or.inl rfl, by decide +kernel⟩,
    ⟨(st [pw .fabric] fun b => { b with pwr := { b.pwr with step := 8 } }), 0xA501, _, Or.inl rfl, by decide +kernel⟩,
    ⟨(st [pw .fabric, (R.PWR_RSTPIN_LEVEL, 1)] fun b => { b with pwr := { b.pwr with step := 8, vmain := true } }), 0xA502, _, Or.inr rfl, by decide +kernel⟩,
    ⟨(st [(R.PWR_RSTPIN_LEVEL, 1), (R.PWR_WAKE_PINEN, 1)] fun b => { b with pwr := { b.pwr with vault := true, vmain := true } }), _, Or.inl ⟨rfl, by decide +kernel⟩, by decide +kernel⟩,
    ⟨(st []), by decide +kernel⟩,
    ⟨(st [(R.PWR_DOMSTAT_ON, 0)] fun b => { b with pwr := { b.pwr with vault := true } }), by decide +kernel⟩⟩

/-- The hypotheses of `Obligations.StartUp` can be met. -/
theorem wit_StartUp :
    (∃ (s : State),
      s.blk.pwr.step = 1) ∧
    (∃ (s : State),
      s.blk.pwr.step = 2 ∧ s.blk.pwr.v33 = true) ∧
    (∃ (s : State),
      s.blk.pwr.step = 3 ∧ s.blk.pwr.xoPass = true ∧ s.blk.clk.xoWait = false ∧ s.blk.clk.x32Late = false) ∧
    (∃ (s : State),
      s.blk.pwr.step = 3 ∧ s.blk.pwr.xoPass = false) ∧
    (∃ (s : State),
      s.blk.pwr.step = 5 ∧ s.blk.pwr.noImg = true) ∧
    (∃ (s : State) (img : Image),
      s.blk.pwr.step = 5 ∧ s.blk.pwr.noImg = false ∧ imgOk s.mem (s.blk.rd R.PWR_BOOT_SLOT) = true ∧ s.blk.imagePasses img = true) ∧
    (∃ (s : State) (ok : Bool) (img : Image),
      s.blk.pwr.step = 5 ∧ s.blk.pwr.noImg = false ∧ (ok = false ∨ imgOk s.mem (s.blk.rd R.PWR_BOOT_SLOT) = false ∨ s.blk.imagePasses img = false) ∧ s.blk.pwr.vmain = true ∧ s.blk.on R.PWR_RSTPIN_LEVEL = true) ∧
    (∃ (s : State) (x : Fin 4),
      (∀ b : Blk, b = (if x.val = 3 then s.blk.raise 0xC107 0 [] else s.blk).wr R.MIR_STAT_PID (if x.val = 3 ∨ s.blk.pwr.noImg = true then 0 else x.val) → (match s.blk.pwr.img with | some i => b.loadImage i | none => b).hingeFits = true) ∧ s.blk.pwr.step = 6 ∧ s.blk.pwr.v33 = true) ∧
    (∃ (s : State),
      s.blk.pwr.step = 7) :=
  ⟨⟨(st [] fun b => { b with pwr := { b.pwr with step := 1 } }), by decide +kernel⟩,
    ⟨(st [] fun b => { b with pwr := { b.pwr with step := 2, v33 := true } }), by decide +kernel⟩,
    ⟨(st [] fun b => { b with pwr := { b.pwr with step := 3, xoPass := true } }), by decide +kernel⟩,
    ⟨(st [] fun b => { b with pwr := { b.pwr with step := 3 } }), by decide +kernel⟩,
    ⟨(st [] fun b => { b with pwr := { b.pwr with step := 5, noImg := true } }), by decide +kernel⟩,
    ⟨({ st [] fun b => { b with pwr := { b.pwr with step := 5 } } with mem := [(0, 1), (2, 96), (3, 8), (4, 1), (8, 64), (56, 30), (57, 171), (58, 72), (59, 128)] }), default, by decide +kernel⟩,
    ⟨(st [(R.PWR_RSTPIN_LEVEL, 1)] fun b => { b with pwr := { b.pwr with step := 5, vmain := true } }), false, default, by decide +kernel⟩,
    ⟨(st [] fun b => { b with pwr := { b.pwr with step := 6, v33 := true } }), 0, (by intro b hb; subst hb; decide +kernel), by decide +kernel⟩,
    ⟨(st [] fun b => { b with pwr := { b.pwr with step := 7 } }), by decide +kernel⟩⟩

/-- The hypotheses of `Obligations.StrataRecords` can be met. -/
theorem wit_StrataRecords :
    (∃ (s : State) (corr i : Nat),
      s.blk.strataRuns = true ∧ s.blk.intervalDue = true ∧ s.blk.nvs.rec_ = none ∧ recPlace s.mem (s.blk.eccNote corr).nvs.severity = some i) ∧
    (∃ (s : State) (corr : Nat),
      recPlace s.mem (s.blk.eccNote corr).nvs.severity = none ∧ s.blk.strataRuns = true ∧ s.blk.intervalDue = true ∧ s.blk.nvs.rec_ = none) ∧
    (∃ (s : State),
      s.blk.intervalDue = false) ∧
    (∃ (s : State),
      s.blk.strataRuns = true) ∧
    (∃ (s : State),
      s.blk.strataRuns = false) ∧
    (∃ (s : State) (i sev no : Nat) (l : List Byte),
      s.blk.nvs.rec_ = some (i, l, sev, no) ∧ recAt i + l.length ≤ bedrockSize) :=
  ⟨⟨(st [pw .fabric, pw .nvs] fun b => { b with pwr := { b.pwr with step := 8 }, nvs := { b.nvs with snapNow := true } }), 0, 0, by decide +kernel⟩,
    ⟨({ st [pw .fabric, pw .nvs] fun b => { b with pwr := { b.pwr with step := 8 }, nvs := { b.nvs with snapNow := true } } with mem := fullStore }), 0, recPlace_full _ fullStore_full _ (by decide +kernel), by decide +kernel⟩,
    ⟨(st [(R.STR_CFG_PERIOD, 1)]), by decide +kernel⟩,
    ⟨(st [pw .fabric, pw .nvs] fun b => { b with pwr := { b.pwr with step := 8 } }), by decide +kernel⟩,
    ⟨(st [(R.PWR_DOMSTAT_ON, 0)]), by decide +kernel⟩,
    ⟨(st [] fun b => { b with nvs := { b.nvs with rec_ := some (1023, List.replicate 64 1, 0, 0) } }), 1023, 0, 0, (List.replicate 64 1), by decide +kernel⟩⟩

/-- The hypotheses of `Obligations.BedrockTransfers` can be met. -/
theorem wit_BedrockTransfers :
    (∃ (s : State) (c : Instr) (w : Bool) (corr : Nat) (data : List Byte),
      ((w = false ∧ c = .nvsDmaRead corr) ∨ (w = true ∧ c = .nvsDmaWrite data corr)) ∧ s.blk.powered .nvs = true ∧ s.blk.on R.NVS_STAT_BUSY = true) ∧
    (∃ (s : State) (c : Instr) (w : Bool) (corr : Nat) (data : List Byte),
      ((w = false ∧ c = .nvsDmaRead corr) ∨ (w = true ∧ c = .nvsDmaWrite data corr)) ∧ s.blk.powered .nvs = true ∧ s.blk.on R.NVS_STAT_BUSY = false ∧ s.dmaWhy w (64 * s.blk.rd R.NVS_OFS_OFS) (64 * s.blk.rd R.NVS_LEN_LEN) ≠ 0) ∧
    (∃ (s : State) (c : Instr) (w : Bool) (corr : Nat) (data : List Byte),
      ((w = false ∧ c = .nvsDmaRead corr) ∨ (w = true ∧ c = .nvsDmaWrite data corr)) ∧ s.blk.powered .nvs = true ∧ s.blk.on R.NVS_STAT_BUSY = false ∧ s.dmaWhy w (64 * s.blk.rd R.NVS_OFS_OFS) (64 * s.blk.rd R.NVS_LEN_LEN) = 0) ∧
    (∃ (s : State) (addr ofs : Nat) (data : List Byte),
      s.blk.nvs.dma = some (true, addr, ofs, data.length, data) ∧ ofs + data.length ≤ bedrockSize) ∧
    (∃ (s : State) (addr ofs len : Nat) (data : List Byte),
      s.blk.nvs.dma = some (false, addr, ofs, len, data) ∧ len ≠ 0) ∧
    (∃ (s : State) (x : Bool × Nat × Nat × Nat × List Byte),
      s.blk.nvs.dma = some x) :=
  ⟨⟨(st [pw .nvs, (R.NVS_STAT_BUSY, 1)]), _, false, 0, ([]), Or.inl ⟨rfl, rfl⟩, by decide +kernel⟩,
    ⟨(st [pw .nvs, (R.NVS_LEN_LEN, 0)]), _, false, 0, ([]), Or.inl ⟨rfl, rfl⟩, by decide +kernel⟩,
    ⟨(st [pw .nvs, (R.NVS_LEN_LEN, 0x30000), (R.PWR_BOOT_SLOT, 1)]), _, true, 0, ([]), Or.inr ⟨rfl, rfl⟩, by decide +kernel⟩,
    ⟨(st [] fun b => { b with nvs := { b.nvs with dma := some (true, 0, bedrockSize - 64, 64, List.replicate 64 1) } }), 0, (bedrockSize - 64), (List.replicate 64 1), by decide +kernel⟩,
    ⟨(st [] fun b => { b with nvs := { b.nvs with dma := some (false, 0, 0, 64, []) } }), 0, 0, 64, ([]), by decide +kernel⟩,
    ⟨(st [] fun b => { b with nvs := { b.nvs with dma := some (false, 0, 0, 64, []) } }), ((false, 0, 0, 64, [])), by decide +kernel⟩⟩

/-- The hypotheses of `Obligations.ImageSlots` can be met. -/
theorem wit_ImageSlots :
    (∃ (s : State) (v : Word) (c : Instr) (k : Nat),
      (c = .nvsSlotErase v ∨ c = .nvsSlotCommit v) ∧ s.blk.powered .nvs = true ∧ k = v.toNat / 16 % 2 ∧ v.toNat / 256 % 256 = 0xA5 ∧ s.blk.nvs.dma = none ∧ (v.toNat % 4 = 1 ∨ v.toNat % 4 = 2) ∧ (s.blk.nvs.slotOp ≠ none ∨ s.blk.slotInForce k = true)) ∧
    (∃ (s : State) (v : Word) (c : Instr) (k : Nat),
      (c = .nvsSlotErase v ∨ c = .nvsSlotCommit v) ∧ s.blk.powered .nvs = true ∧ k = v.toNat / 16 % 2 ∧ v.toNat / 256 % 256 = 0xA5 ∧ s.blk.nvs.dma = none ∧ v.toNat % 4 = 1 ∧ s.blk.nvs.slotOp = none ∧ s.blk.slotInForce k = false) ∧
    (∃ (s : State) (v : Word) (c : Instr) (k : Nat),
      (c = .nvsSlotErase v ∨ c = .nvsSlotCommit v) ∧ s.blk.powered .nvs = true ∧ k = v.toNat / 16 % 2 ∧ v.toNat / 256 % 256 = 0xA5 ∧ s.blk.nvs.dma = none ∧ v.toNat % 4 = 2 ∧ s.blk.nvs.slotOp = none ∧ s.blk.slotInForce k = false) ∧
    (∃ (v : Word) (c : Instr),
      (c = .nvsSlotErase v ∨ c = .nvsSlotCommit v) ∧ (v.toNat / 256 % 256 ≠ 0xA5 ∨ v.toNat % 4 = 0 ∨ v.toNat % 4 = 3)) ∧
    (∃ (s : State) (k : Nat),
      s.blk.nvs.slotOp = some k ∧ k < 2 ∧ s.commitRes k = 0) ∧
    (∃ (s : State) (k : Nat),
      s.blk.nvs.slotOp = some k ∧ k < 2 ∧ s.commitRes k ≠ 0) :=
  ⟨⟨(st [pw .nvs, (R.PWR_BOOT_SLOT, 1)]), 0xA511, _, 1, Or.inl rfl, by decide +kernel⟩,
    ⟨(st [pw .nvs, (R.PWR_BOOT_SLOT, 1)]), 0xA501, _, 0, Or.inl rfl, by decide +kernel⟩,
    ⟨(st [pw .nvs, (R.PWR_BOOT_SLOT, 1)]), 0xA502, _, 0, Or.inr rfl, by decide +kernel⟩,
    ⟨0xA503, _, Or.inr rfl, by decide +kernel⟩,
    ⟨({ st [] fun b => { b with nvs := { b.nvs with slotOp := some 0 } } with mem := [(0, 1), (2, 96), (3, 8), (4, 1), (8, 64), (56, 30), (57, 171), (58, 72), (59, 128)] }), 0, by decide +kernel⟩,
    ⟨(st [] fun b => { b with nvs := { b.nvs with slotOp := some 1 } }), 1, by decide +kernel⟩⟩

/-- The hypotheses of `Obligations.RegisterAccess` can be met. -/
theorem wit_RegisterAccess :
    (∃ (s : State) (off : Nat) (d : RegDesc),
      s.blk.hostUp = true ∧ off % 4 = 0 ∧ off < 0x40000 ∧ findReg off = some d ∧ (off < 0x10000 ∨ 0x11000 ≤ off) ∧ d.locked = false ∧ s.blk.powered d.dom = true ∧ d.base ∉ [(R.RING_CTL_W 0).off, R.PWR_CTL_W.off, (R.CANn_CTL_W 0).off, (R.CANn_RXF_W 0 0).off, R.LODE_MDIO_W.off, R.STR_CTL_W.off, R.NVS_CTL_W.off, R.NVS_SLOT_W.off, (R.RING_BASE_LO_W 0).off, (R.RING_BASE_HI_W 0).off, R.SLL_WINSEL_W.off, (R.MSIX_CTL_MASK 0).off, R.CLK_CTL_W.off]) ∧
    (∃ (s : State) (off width : Nat),
      s.blk.hostUp = true ∧ (width ≠ 4 ∨ off % 4 ≠ 0)) ∧
    (∃ (s : State) (off : Nat) (d : RegDesc),
      s.blk.hostUp = true ∧ off % 4 = 0 ∧ off < 0x40000 ∧ findReg off = some d ∧ (off < 0x10000 ∨ 0x11000 ≤ off) ∧ d.locked = true) ∧
    (∃ (s : State) (off : Nat),
      s.blk.hostUp = true ∧ off % 4 = 0 ∧ 0x10000 ≤ off ∧ off < 0x11000) ∧
    (∃ (s : State) (off width : Nat),
      (s.blk.hostUp = false ∨ (width = 4 ∧ off % 4 = 0 ∧ (0x40000 ≤ off ∨ (findReg off = none ∧ (off < 0x10000 ∨ 0x11000 ≤ off)))))) ∧
    (∃ (s : State) (off i : Nat) (d : Dom) (f : Fld),
      latchOf off = some (i, d, f) ∧ s.blk.hostUp = true ∧ s.blk.powered d = true ∧ i < s.blk.latch.length) ∧
    (∃ (s : State),
      s.blk.powered .fabric = true ∧ s.blk.powered .pwm = true) ∧
    (∃ (s : State) (r : Fin 4),
      s.blk.powered .fabric = true ∧ s.blk.powered .pwm = true ∧ s.blk.txnStandby = false ∧ (s.blk.txnState r = 1 ∨ s.blk.txnState r = 2) ∧ (s.blk.txn r).list.length < 4096) :=
  ⟨⟨(st [pw .host, pw .pwm, pw .fabric]), ((R.LE_CAPTRIG_W 4).off), ((findReg (R.LE_CAPTRIG_W 4).off).getD default), by decide +kernel⟩,
    ⟨(st [pw .host]), 2, 4, by decide +kernel⟩,
    ⟨(st [pw .host, pw .pwm]), ((R.Dn_CFG_EN 0).off), ((findReg (R.Dn_CFG_EN 0).off).getD default), by decide +kernel⟩,
    ⟨(st [pw .host, pw .pwm]), ((R.HASP_STOCFG_EN 0).off), by decide +kernel⟩,
    ⟨(st [pw .host, pw .pwm]), 0x40000, 4, by decide +kernel⟩,
    ⟨(st [pw .host, pw .comm]), R.LODE_PTPNS_LO_W.off, 4, .comm, R.LODE_PTPNS_HI_W, by decide +kernel⟩,
    ⟨(st [pw .pwm]), by decide +kernel⟩,
    ⟨(st [pw .pwm, (R.TXN_STAT_STATE 0, 1)]), 0, by decide +kernel⟩⟩

/-- The hypotheses of `Obligations.FrameTick` can be met. -/
theorem wit_FrameTick :
    (∃ (s : State),
      s.blk.ticks = false) ∧
    (∃ (s : State),
      s.blk.ticks = true) ∧
    (∃ (s : State),
      s.blk.powered .fabric = true ∧ s.blk.dstate = 1 ∧ 64 ≤ s.blk.tick.inBand) ∧
    (∃ (s : State),
      s.blk.dstate ≠ 1) :=
  ⟨⟨(st []), by decide +kernel⟩,
    ⟨(st [pw .fabric] fun b => { b with pwr := { b.pwr with step := 8 } }), by decide +kernel⟩,
    ⟨(st [(R.TICK_STAT_DSTATE, 1)] fun b => { b with tick := { b.tick with inBand := 64 } }), by decide +kernel⟩,
    ⟨(st [(R.TICK_STAT_DSTATE, 2)]), by decide +kernel⟩⟩

/-- The hypotheses of `Obligations.FramePhases` can be met. -/
theorem wit_FramePhases :
    (∃ (s : State) (c : Instr),
      ((∃ x y z, c = .samplePhase x y z) ∨ (∃ x, c = .outputPhase x) ∨ (∃ x p cyc v, c = .shadowTransfer x p cyc v) ∨ (∃ k, c = .checkpointWrite k)) ∧ (s.blk.pwr.step ≠ 8 ∨ s.blk.clk.stop = true)) ∧
    (∃ (s : State) (n : Fin 8) (w : List Int),
      s.blk.pwr.step = 8 ∧ s.blk.clk.stop = false ∧ s.blk.powered .fabric = true ∧ s.blk.powered .pwm = true ∧ s.blk.configured (8 + n) = true ∧ (s.blk.chan (8 + n)).outs = some w) ∧
    (∃ (s : State) (n : Fin 8) (c : Fin 16) (cyc : Nat),
      c.val = 8 + n.val ∧ s.blk.pwr.step = 8 ∧ s.blk.clk.stop = false ∧ s.blk.powered .pwm = true ∧ s.blk.configured c = true ∧ s.blk.stpValley n cyc = true ∧ (s.blk.stpState n = 1 ∨ s.blk.stpState n = 2)) ∧
    (∃ (s : State) (c : Fin 16),
      c.val < 8 ∧ (s.blk.pstate c = 0 ∨ s.blk.pstate c = 2 ∨ s.blk.pstate c = 5) ∧ (s.blk.shadowOf c = none ∨ s.blk.runState c ≠ 1)) ∧
    (∃ (s : State) (k : Fin 5),
      s.blk.pairRuns k = false) :=
  ⟨⟨(st []), (.outputPhase []), Or.inr (Or.inl ⟨_, rfl⟩), by decide +kernel⟩,
    ⟨(st [pw .fabric, pw .pwm, (R.Sn_CFG_EN 7, 1)] fun b => { b with pwr := { b.pwr with step := 8 }, le := { b.le with chans := List.replicate 16 { (default : Chan) with outs := some [5] } } }), 7, ([5]), by decide +kernel⟩,
    ⟨(st [pw .pwm, (R.Sn_CFG_EN 7, 1), (R.Sn_STAT_SSTATE 7, 2)] fun b => { b with pwr := { b.pwr with step := 8 } }), 7, 15, 0, by decide +kernel⟩,
    ⟨(st []), 7, by decide +kernel⟩,
    ⟨(st []), 0, by decide +kernel⟩⟩

/-- The hypotheses of `Obligations.FrameWork` can be met. -/
theorem wit_FrameWork :
    (∃ (s : State),
      s.blk.pwr.step = 8 ∧ s.blk.clk.stop = false ∧ s.blk.powered .fabric = true ∧ s.blk.blockGood 3 = true) ∧
    (∃ (s : State) (k : Fin 5) (c : Fin 16),
      s.blk.pwr.step = 8 ∧ s.blk.clk.stop = false ∧ s.blk.powered .fabric = true ∧ s.blk.pairRuns k = true ∧ s.blk.pairOf c = k ∧ s.blk.computes c = true ∧ (s.blk.chan c).overran = false) :=
  ⟨⟨(st [pw .fabric] fun b => { b with pwr := { b.pwr with step := 8 } }), by decide +kernel⟩,
    ⟨(st [(sliceOf R.LE_PSTAT_ST 0 3, 1), (sliceOf R.LE_DMAP_MAP 0 4, 0), pw .fabric, pw .lpa, (R.Dn_CFG_EN 0, 1)] fun b => { b with pwr := { b.pwr with step := 8 } }), 0, 0, by decide +kernel⟩⟩

/-- The hypotheses of `Obligations.PairsLost` can be met. -/
theorem wit_PairsLost :
    (∃ (s : State) (k : Fin 5),
      k.val ≠ 4 ∧ s.blk.pairState k ≠ 0 ∧ s.blk.pairState k ≠ 4 ∧ s.blk.powered .fabric = true ∧ s.blk.powered (if k.val < 3 then .lpa else .lpb) = true ∧ s.blk.spareFree = true) ∧
    (∃ (s : State) (k : Fin 5),
      (s.blk.pairState k = 0 ∨ s.blk.pairState k = 4)) ∧
    (∃ (s : State) (c : Instr),
      (c = .spareSelfcheckFail ∨ (s.blk.powered .lpb = true ∧ ∃ post, c = .laneDisagreement 4 post [])) ∧ s.blk.spareFree = true ∧ s.blk.on R.LE_CTL_SPARECHK = true ∧ s.blk.powered .fabric = true) :=
  ⟨⟨(st [pw .lpb, (sliceOf R.LE_PSTAT_ST 3 3, 1), (sliceOf R.LE_PSTAT_ST 4 3, 2)]), 3, by decide +kernel⟩,
    ⟨(st [(sliceOf R.LE_PSTAT_ST 4 3, 4)]), 4, by decide +kernel⟩,
    ⟨(st [(sliceOf R.LE_PSTAT_ST 4 3, 2), (R.LE_CTL_SPARECHK, 1)]), _, Or.inl rfl, by decide +kernel⟩⟩

/-- The hypotheses of `Obligations.Overruns` can be met. -/
theorem wit_Overruns :
    (∃ (s : State) (c : Fin 16),
      s.blk.powered .fabric = true ∧ s.blk.configured c = true ∧ s.blk.pairOf c ≤ 4) ∧
    (∃ (s : State) (c : Fin 16) (bad : List LoadTags) (x y : Nat) (l : List Nat),
      s.blk.powered .fabric = true ∧ (s.blk.chan c).overruns = x :: y :: l ∧ x = y + 1 ∧ (∀ z, l.head? = some z → z + 1 ≠ y) ∧ (s.blk.chan c).noMove = false ∧ s.blk.fn = x + 1 ∧ s.blk.spareFree = true ∧ s.blk.configured c = true ∧ s.blk.pairOf c < 4 ∧ (∀ z ∈ bad, z.c = c → z.coef = [])) ∧
    (∃ (s : State) (c : Fin 16),
      s.blk.powered .fabric = true ∧ 4 ≤ (s.blk.chan c).overruns.length ∧ (s.blk.chan c).overruns.headD 0 < (s.blk.chan c).overruns.getD 3 0 + s.blk.msFrames 1000 ∧ s.blk.configured c = true ∧ s.blk.fn = (s.blk.chan c).overruns.headD 0 + 1 ∧ (s.blk.chan c).degraded = false) ∧
    (∃ (s : State) (c : Fin 16),
      (s.blk.chan c).degraded = true) :=
  ⟨⟨(st [(R.Dn_CFG_EN 0, 1), (sliceOf R.LE_DMAP_MAP 0 4, 4)]), 0, by decide +kernel⟩,
    ⟨(st [(R.TICK_FRAME_NO_LO_FN_LO, 9), (R.Dn_CFG_EN 0, 1), (sliceOf R.LE_DMAP_MAP 0 4, 3), (sliceOf R.LE_PSTAT_ST 4 3, 2)] fun b => { b with le := { b.le with chans := [{ (default : Chan) with overruns := [8, 7] }] } }), 0, ([]), 8, 7, ([]), by decide +kernel⟩,
    ⟨(st [(R.TICK_FRAME_NO_LO_FN_LO, 10000), (R.Dn_CFG_EN 0, 1), (R.TICK_PERIOD_PERIOD, 40000)] fun b => { b with le := { b.le with chans := [{ (default : Chan) with overruns := [9999, 8, 5, 0] }] } }), 0, by decide +kernel⟩,
    ⟨(st [] fun b => { b with le := { b.le with chans := [{ (default : Chan) with degraded := true }] } }), 0, by decide +kernel⟩⟩

/-- The hypotheses of `Obligations.WardReactions` can be met. -/
theorem wit_WardReactions :
    (∃ (s : State) (c : Fin 16) (w n : Nat),
      c.val < 8 ∧ (w = 3 ∨ w = 4) ∧ s.blk.powered .fabric = true ∧ s.blk.configured c = true ∧ (s.blk.chan c).inFails.find? (fun x => x.1 == w) = some (w, n) ∧ 4 ≤ n ∧ s.blk.on (R.Dn_CMODE_SENS c) = true ∧ s.blk.on (R.FBn_STAT_INVAL (s.blk.rd (R.Dn_CMODE_FBSEL c))) = false ∧ s.blk.rd (R.Dn_CMODE_FBSEL c) < 12) ∧
    (∃ (s : State) (c : Fin 16) (w i n : Nat),
      frontInput c w = some i ∧ s.blk.powered .fabric = true ∧ s.blk.configured c = true ∧ (s.blk.chan c).inFails.find? (fun x => x.1 == w) = some (w, n) ∧ 4 ≤ n ∧ s.blk.on (R.AFE_LMAP_VALID i) = true ∧ s.blk.standbyReady = false) ∧
    (∃ (s : State) (i : Fin 4),
      s.blk.powered .fabric = true ∧ 8 ≤ s.blk.ward.run.getD i 0 ∧ s.blk.ward.dead.contains i.val = false) ∧
    (∃ (s : State) (i : Fin 4),
      s.blk.ward.run.getD i 0 < 8) ∧
    (∃ (s : State) (k : Fin 64),
      s.blk.ward.copy.contains k.val = false ∧ s.blk.ward.copied.contains k.val = false ∧ s.blk.powered .fabric = true ∧ s.blk.ward.copy.length + s.blk.ward.copied.length < s.blk.rd R.WARD_SPARE_BANKS) ∧
    (∃ (s : State) (k : Fin 64),
      s.blk.ward.copy.contains k.val = false ∧ s.blk.ward.copied.contains k.val = false ∧ s.blk.powered .fabric = true ∧ s.blk.rd R.WARD_SPARE_BANKS ≤ s.blk.ward.copy.length + s.blk.ward.copied.length ∧ s.blk.standbyReady = false) ∧
    (∃ (s : State) (k : Fin 64),
      s.blk.powered .fabric = true ∧ s.blk.ward.copy.contains k.val = true) ∧
    (∃ (b : Blk) (k : Nat),
      b.ward.copied = [k] ∧ k < 64 ∧ b.ward.due = [] ∧ b.rd R.WARD_SPARE_BANKS ≠ 0) :=
  ⟨⟨(st [(R.Dn_CFG_EN 7, 1), (R.Dn_CMODE_SENS 7, 1), (R.Dn_CMODE_FBSEL 7, 11)] fun b => { b with le := { b.le with chans := List.replicate 16 { (default : Chan) with inFails := [(4, 4)] } } }), 7, 4, 4, by decide +kernel⟩,
    ⟨(st [(R.Dn_CFG_EN 7, 1), (R.AFE_LMAP_VALID 23, 1)] fun b => { b with le := { b.le with chans := List.replicate 16 { (default : Chan) with inFails := [(2, 4)] } } }), 7, 2, 23, 4, by decide +kernel⟩,
    ⟨(st [] fun b => { b with ward := { b.ward with run := [0, 0, 0, 8] } }), 3, by decide +kernel⟩,
    ⟨(st [] fun b => { b with ward := { b.ward with run := [7] } }), 0, by decide +kernel⟩,
    ⟨(st [pw .fabric, (R.WARD_SPARE_BANKS, 1)]), 63, by decide +kernel⟩,
    ⟨(st [pw .fabric, (R.WARD_SPARE_BANKS, 0)]), 63, by decide +kernel⟩,
    ⟨(st [] fun b => { b with ward := { b.ward with copy := [63] } }), 63, by decide +kernel⟩,
    ⟨((st [(R.WARD_SPARE_BANKS, 2)] fun b => { b with ward := { b.ward with copied := [63] } }).blk), 63, by decide +kernel⟩⟩

/-- The hypotheses of `Obligations.RejectedCommit` can be met. -/
theorem wit_RejectedCommit :
    (∃ (s : State) (c : Instr) (r : Fin 4) (h : Hdr) (n : Nat) (why : Nat × Nat × Nat × Nat),
      ((∃ cyc, c = .txnValidationDone r cyc ∧ (s.blk.txn r).hdr = some h ∧ n = (s.blk.txn r).list.length ∧ s.blk.judgeList (s.blk.txn r).bad (s.blk.txn r).list = some why) ∨ (∃ x l d, c = .txnCommitApply r ∧ s.blk.crossed x = true ∧ s.blk.txns.ready = x :: l ∧ x.ring = r.val ∧ x.hdr = h ∧ x.ticks ≤ 1 ∧ n = x.list.length ∧ (∀ b : Blk, b = { s.blk with txns := { s.blk.txns with ready := s.blk.txns.ready.filter (fun y => y.ring != x.ring) } } → detailOf ((b.withList x.list).condRun b) (x.list.map (·.1)) = some d) ∧ why = (0x16, d, 0, 0))) ∧ h.ring = r ∧ s.blk.powered .fabric = true) :=
  ⟨(st [] fun b => { b with txns := { b.txns with open_ := [{ (default : Txn) with hdr := some default, bad := true }] } }), _, 0, default, 0, ((0x10, 0, 0, 0)), Or.inl ⟨0, rfl, rfl, rfl, by decide +kernel⟩, by decide +kernel⟩

/-- The hypotheses of `Obligations.WrongWidthWrite` can be met. -/
theorem wit_WrongWidthWrite :
    (∃ (s : State) (off width : Nat),
      s.blk.hostUp = true ∧ (width ≠ 4 ∨ off % 4 ≠ 0)) :=
  ⟨(st [pw .host]), 2, 4, by decide +kernel⟩

/-- The hypotheses of `Obligations.RegisterFrames` can be met. -/
theorem wit_RegisterFrames :
    (∃ (s : State) (c : Instr) (T : List Nat),
      ((∃ h, c = .nop h ∧ T = []) ∨ (∃ x, c = .latchingLowWordRead x ∧ T = []) ∨ (∃ p, c = .phyResetRelease p ∧ T = []) ∨ (∃ m, c = .fdbEntryAged m ∧ T = []) ∨ (c = .v33outRecovered ∧ T = []) ∨ (c = .strataSnap ∧ T = []) ∨ (∃ k, c = .cbRecoveryReset k ∧ T = [R.HIF_EVDROP_COUNT.off]) ∨ (∃ k, c = .cbPathLoss k ∧ T = [R.HIF_EVDROP_COUNT.off]) ∨ (∃ p, c = .gclEntryExpiry p ∧ T = [R.HIF_EVDROP_COUNT.off]) ∨ (∃ mv, c = .v33outLow mv ∧ T = [R.HIF_EVDROP_COUNT.off]) ∨ (∃ n, c = .tripPulseRejected n ∧ T = [(R.Dn_TRIPCNT_REJ n).off, R.HIF_EVDROP_COUNT.off]) ∨ (∃ x v, c = .bar2StrayWrite x v ∧ T = [R.HIF_ERRCNT_BAR2.off]) ∨ (∃ v, c = .heartbeatDoorbell v ∧ T = [R.HIF_STAT_HB.off, R.HIF_EVDROP_COUNT.off]) ∨ (∃ r v, c = .commandDoorbell r v ∧ T = [(R.RING_IDX_HOST r).off, (R.RING_STAT_STATE r).off, R.HIF_EVDROP_COUNT.off]) ∨ (∃ q, c = .ringReset q ∧ T = [(R.RING_IDX_HOST q).off, (R.RING_STAT_STATE q).off]) ∨ (∃ v, c = .msixSignal v ∧ T = [R.MSIX_PBA_PEND.off]) ∨ (∃ r, c = .txnTimeout r ∧ T = [(R.TXN_STAT_STATE r).off, R.TXN_CNT_TMO.off, R.HIF_EVDROP_COUNT.off]) ∨ (∃ k, c = .canIntegrated k ∧ T = [(R.CANn_STAT_STATE k).off, R.HIF_EVDROP_COUNT.off]) ∨ (∃ k, c = .canRecover k ∧ T = [(R.CANn_STAT_STATE k).off, (R.CANn_ECNT_TEC k).off]) ∨ (∃ k, c = .canRecoveryDone k ∧ T = [(R.CANn_STAT_STATE k).off, (R.CANn_ECNT_TEC k).off, R.HIF_EVDROP_COUNT.off]) ∨ (∃ k, c = .canWakeEdge k ∧ T = [(R.CANn_STAT_STATE k).off, R.HIF_EVDROP_COUNT.off]) ∨ (∃ k f, c = .canWakeFrame k f ∧ T = [(R.CANn_STAT_STATE k).off, R.HIF_EVDROP_COUNT.off]) ∨ (∃ k, c = .canArbitrationLost k ∧ T = [(R.CANn_TXSTAT_W k).off]) ∨ (∃ p x, c = .lodeLinkUp p x ∧ T = [(R.LODE_Pk_STAT_LINK p).off, R.HIF_EVDROP_COUNT.off]) ∨ (∃ p, c = .lodeLinkDown p ∧ T = [(R.LODE_Pk_STAT_LINK p).off, R.HIF_EVDROP_COUNT.off]) ∨ (∃ v, c = .mdioGo v ∧ T = [R.LODE_MDIO_W.off, R.LODE_MDIOST_BUSY.off]) ∨ (∃ d, c = .mdioDone d ∧ T = [R.LODE_MDIOST_BUSY.off]) ∨ (∃ p, c = .pllReferenceLost p ∧ T = [R.CLK_STAT_LOCKS.off]) ∨ (∃ p, c = .pllRelocked p ∧ T = [R.CLK_STAT_LOCKS.off]) ∨ (∃ p, c = .pllSpLockLoss p ∧ T = [R.CLK_STAT_LOCKS.off, R.HIF_EVDROP_COUNT.off]) ∨ (c = .vmainLow ∧ T = [R.PWR_VMON_W.off, R.PWR_CNT_W.off, R.HIF_EVDROP_COUNT.off]) ∨ ((c = .vmainRecover ∨ c = .vmainHigh ∨ c = .vbakLow) ∧ T = [R.PWR_VMON_W.off, R.HIF_EVDROP_COUNT.off]) ∨ (c = .rstNRearm ∧ T = [R.PWR_RSTPIN_MASK.off, R.HIF_EVDROP_COUNT.off]) ∨ (c = .disciplineLocked ∧ T = [R.TICK_STAT_OVR.off, R.HIF_EVDROP_COUNT.off]) ∨ (∃ n, c = .channelOverrun ⟨n, []⟩ ∧ T = [R.TICK_STAT_OVR.off, R.TICK_OVRCNT_W.off, (R.WARD_CNT_COUNT 2).off, R.WARD_LAST_KEY.off, R.WARD_LAST_FN.off, (R.LE_ERR_CKF (s.blk.pairOf n)).off, R.WARD_SPARE_CKS.off, R.HIF_EVDROP_COUNT.off]) ∨ (c = .spareSelfcheckFail ∧ T = [R.LE_PSTAT_ST.off, (R.LE_ERR_DIS 4).off, R.WARD_SPARE_LP4.off, R.HIF_EVDROP_COUNT.off]) ∨ (∃ k, c = .sramBankCopyDone k ∧ T = []))) ∧
    (∃ (n : Fin 8) (c : Instr),
      (c = .filteredTripAccept n ∨ c = .fastTrip n)) :=
  ⟨⟨(st []), _, ([]), Or.inl ⟨default, rfl, rfl⟩⟩,
    ⟨7, _, Or.inr rfl⟩⟩

/-- The hypotheses of `Obligations.StepRunsFront` can be met. -/
theorem wit_StepRunsFront :
    (∃ (s : State),
      s.pending = []) :=
  ⟨(st []), by decide +kernel⟩

/-- The hypotheses of `Obligations.WritersOfBedrock` can be met. -/
theorem wit_WritersOfBedrock : ∃ (s t : State) (c : Instr), exec c s = .next t := ⟨State.reset, _, .nop default, rfl⟩

/-- The hypotheses of `Obligations.MemoryKeepsForm` can be met. -/
theorem wit_MemoryKeepsForm : ∃ (s t : State), Memory.wf s.mem = true ∧ step s = .next t :=
  ⟨{ State.reset with mem := [(5, 1)] }, _, by decide +kernel, rfl⟩

end Sys2Proof.Tests
end

section
/-! What a write, a latching read and an access through a pointer do to the register file (R9 to R13, R320, R436): one
equation per case of `State.registerWrite`, `Blk.latchRead` and `Blk.doPtrAccess`, from which the obligations on register
accesses follow. -/

namespace Sys2Proof.Machine

/-! Counters of the register file. -/

/-- A saturating counter after one more count. -/
theorem Blk.rd_inc_self (b : Blk) (f : Fld) (h : f.inWord) : (b.inc f).rd f = min (b.rd f + 1) f.top := by
  have hpos : 0 < 2 ^ f.w := Nat.two_pow_pos f.w
  have hfit : min (b.rd f + 1) f.top < 2 ^ f.w := by unfold Fld.top; omega
  exact (Blk.rd_wr_self b f _ h).trans (Nat.mod_eq_of_lt hfit)

/-! The cases of a write to BAR0. -/

variable {s : State} {off width : Nat} {v : Word}

/-- The host does not reach the registers: nothing happens. -/
theorem registerWrite_hostDown (hu : s.blk.hostUp = false) : s.registerWrite off width v = s := by
  simp [State.registerWrite, hu]

/-- R9: another width or alignment is counted and nothing more. -/
theorem registerWrite_wrongWidth (hu : s.blk.hostUp = true) (hw : width ≠ 4 ∨ off % 4 ≠ 0) :
    s.registerWrite off width v = { s with blk := s.blk.inc R.HIF_ERRCNT_WIDTH } := by
  simp only [State.registerWrite, hu, Bool.true_eq_false, if_false, if_pos hw]

/-- An aligned write beyond BAR0 has no effect. -/
theorem registerWrite_beyond (hu : s.blk.hostUp = true) (ha : off % 4 = 0) (hb : 0x40000 ≤ off) :
    s.registerWrite off 4 v = s := by
  simp [State.registerWrite, hu, ha, hb]

/-- R13: an offset with no register, outside the HASP block, takes no write. -/
theorem registerWrite_unassigned (hu : s.blk.hostUp = true) (ha : off % 4 = 0) (hf : findReg off = none)
    (ho : off < 0x10000 ∨ 0x11000 ≤ off) : s.registerWrite off 4 v = s := by
  have hh : ¬ (0x10000 ≤ off ∧ off < 0x11000) := by omega
  simp only [State.registerWrite, hu, ha, hf, if_neg hh]
  simp

/-- An aligned write to a register goes by its row of the register table. -/
theorem registerWrite_assigned {d : RegDesc} (hu : s.blk.hostUp = true) (ha : off % 4 = 0) (hb : off < 0x40000)
    (hf : findReg off = some d) : s.registerWrite off 4 v = s.writeReg d off v.toNat := by
  simp [State.registerWrite, hu, ha, hf, Nat.not_le.mpr hb]

/-- R320: every offset of the HASP block discards the write with event 0x9106. -/
theorem registerWrite_safety (hu : s.blk.hostUp = true) (ha : off % 4 = 0) (hl : 0x10000 ≤ off) (hh : off < 0x11000) :
    s.registerWrite off 4 v = { s with blk := s.blk.raise 0x9106 0 [Int.ofNat off] } := by
  cases hf : findReg off with
  | some d =>
    rw [registerWrite_assigned hu ha (by omega) hf]
    simp only [State.writeReg, if_pos (And.intro hl hh)]
  | none =>
    have hb : ¬ 0x40000 ≤ off := by omega
    simp [State.registerWrite, hu, ha, hf, hl, hh, hb]

/-- R11: a direct write to a register of RWL fields alone is discarded with event 0x2102. -/
theorem writeReg_locked {d : RegDesc} (v : Nat) (ho : off < 0x10000 ∨ 0x11000 ≤ off) (hl : d.locked = true) :
    s.writeReg d off v = { s with blk := s.blk.raise 0x2102 0 [Int.ofNat off] } := by
  have hh : ¬ (0x10000 ≤ off ∧ off < 0x11000) := by omega
  simp only [State.writeReg, if_neg hh, hl, if_true]

/-- The registers whose write has an effect of its own or is followed by one. -/
def actingRegs : List Nat :=
  [(R.RING_CTL_W 0).off, R.PWR_CTL_W.off, (R.CANn_CTL_W 0).off, (R.CANn_RXF_W 0 0).off, R.LODE_MDIO_W.off,
    R.STR_CTL_W.off, R.NVS_CTL_W.off, R.NVS_SLOT_W.off, (R.RING_BASE_LO_W 0).off, (R.RING_BASE_HI_W 0).off,
    R.SLL_WINSEL_W.off, (R.MSIX_CTL_MASK 0).off, R.CLK_CTL_W.off]

/-- R11: a write to any other register changes its word by the access types and nothing else. -/
theorem writeReg_plain {d : RegDesc} (v : Nat) (ho : off < 0x10000 ∨ 0x11000 ≤ off) (hl : d.locked = false)
    (hp : s.blk.powered d.dom = true) (hd : d.base ∉ actingRegs) :
    s.writeReg d off v = { s with blk := s.blk.setWord off (BitVec.ofNat 32 (writeBits d (s.blk.word off).toNat v)) } := by
  have hh : ¬ (0x10000 ≤ off ∧ off < 0x11000) := by omega
  simp only [actingRegs, List.mem_cons, List.not_mem_nil, or_false, not_or] at hd
  obtain ⟨hRing, hPwr, hCan, hRxf, hMdio, hStr, hNvs, hSlot, hLo, hHi, hWin, hMsix, hClk⟩ := hd
  simp only [State.writeReg, Blk.writePlain, if_neg hh, hl, hp, Bool.false_eq_true, Bool.true_eq_false, hRing, hPwr, hCan,
    hRxf, hMdio, hStr, hNvs, hSlot, hLo, hHi, hWin, hMsix, hClk, if_false, or_self]

/-- What holds of the state after a write holds of what REGISTER_WRITE answers. -/
theorem yields_registerWrite {t : State} {P : State → Prop} (h : s.registerWrite off width v = t) (hP : P t) :
    Yields (.registerWrite off width v) s P :=
  ⟨t, congrArg Host.Outcome.next h, hP⟩

/-! The latching reads of R10. -/

/-- A read of a latching low word keeps the high word. -/
theorem latchRead_eq {b : Blk} {i : Nat} {d : Dom} {f : Fld} (hf : latchOf off = some (i, d, f)) (hu : b.hostUp = true)
    (hp : b.powered d = true) : b.latchRead off = { b with latch := b.latch.set i (some (b.word f.off)) } := by
  simp [Blk.latchRead, hf, hu, hp]

/-- A read of a high word answers what its latch keeps. -/
theorem readWord_latched (b : Blk) {i : Nat} {d : Dom} {f : Fld} (hf : latchOf off = some (i, d, f)) :
    b.readWord f.off = (b.latch.getD i none).getD (resetWord f.off) := by
  unfold latchOf at hf
  split_ifs at hf
  all_goals
    simp only [Option.some.injEq, Prod.mk.injEq] at hf
    obtain ⟨rfl, -, rfl⟩ := hf
    rfl

/-! Access through a pointer (R436). -/

/-- A read of the data register advances the pointer. -/
theorem doPtrAccess_read {b : Blk} {dom : Dom} (p : PtrReg) (off : Nat) (hp : b.powered dom = true) :
    b.doPtrAccess dom p off none = b.wr p.sel.2 (b.rd p.sel.2 + 1) := by
  simp [Blk.doPtrAccess, Blk.ptrRead, Blk.takePtr, hp]

/-- A write to the data register on an open transaction stages the word with its pointer, and advances the pointer. -/
theorem doPtrAccess_staged {b : Blk} {dom : Dom} (p : PtrReg) (off : Nat) {r : Nat} (v : Nat) (hp : b.powered dom = true)
    (hs : b.txnStandby = false) (ho : b.txnState r = 1 ∨ b.txnState r = 2) (hl : (b.txn r).list.length < 4096) :
    ∃ n, b.doPtrAccess dom p off (some (r, v)) = ((b.wr p.sel.2 (b.rd p.sel.2 + 1)).onTxn r fun t =>
      { t with list := t.list ++ [(off, b.rd p.sel.1, v)] }).wr (R.TXN_STAT_COUNT r) n := by
  have hc : ¬ (b.txnStandby = true ∨ (b.txnState r ≠ 1 ∧ b.txnState r ≠ 2)) := by
    simp only [hs, Bool.false_eq_true, false_or]
    omega
  simp only [Blk.doPtrAccess, Blk.takePtr, hp, Bool.true_eq_false, if_false, if_neg hc, if_neg (Nat.not_le.mpr hl)]
  exact ⟨_, rfl⟩

end Sys2Proof.Machine
end

section
/-! The obligations on BAR0 accesses, from the cases of a write, a latching read and an access through a pointer. -/

namespace Sys2Proof.Machine

/-- A write of another width or alignment changes the counter HIF_ERRCNT.WIDTH alone. -/
theorem wrongWidth_counts (b : Blk) :
    (b.inc R.HIF_ERRCNT_WIDTH).rd R.HIF_ERRCNT_WIDTH = min (b.rd R.HIF_ERRCNT_WIDTH + 1) R.HIF_ERRCNT_WIDTH.top ∧
      SameBut b (b.inc R.HIF_ERRCNT_WIDTH) (fun a => a = R.HIF_ERRCNT_WIDTH.off) :=
  ⟨Blk.rd_inc_self b _ (by simp [Fld.inWord, R.HIF_ERRCNT_WIDTH]), same_inc (same_refl _ _) _ rfl⟩

/-- Settles O55: the write is counted in HIF_ERRCNT.WIDTH, which is no part of memory, events, outputs or drives. -/
theorem wrongWidthWrite : Obligations.WrongWidthWrite := by
  intro s off width v hu hw
  obtain ⟨hcount, hsame⟩ := wrongWidth_counts s.blk
  exact yields_registerWrite (registerWrite_wrongWidth hu hw) ⟨hcount, hsame, rfl, rfl, rfl, rfl⟩

/-- An event raised changes no register word but HIF_EVDROP, and is reported. -/
theorem raise_reports (b : Blk) (code src : Nat) (i : List Int) :
    Reported (b.raise code src i) code src ∧ SameBut b (b.raise code src i) (fun a => a = R.HIF_EVDROP_COUNT.off) :=
  ⟨Blk.raise_self b code src i, same_raise (same_refl _ _) _ _ _ rfl⟩

/-- After the read of a latching low word the high word reads as it stood then, and every register is as before. -/
theorem latchRead_keeps {b : Blk} {off i : Nat} {d : Dom} {f : Fld} (hf : latchOf off = some (i, d, f))
    (hu : b.hostUp = true) (hp : b.powered d = true) (hi : i < b.latch.length) :
    (b.latchRead off).readWord f.off = b.word f.off ∧ (b.latchRead off).regs = b.regs := by
  rw [latchRead_eq hf hu hp]
  exact ⟨by simp [readWord_latched _ hf, hi], rfl⟩

/-- SN_TABDAT_ACCESS runs where FABRIC is powered. -/
theorem exec_snTabdatAccess {s : State} (n : Fin 8) (wr : Option (Fin 4 × Word)) (hp : s.blk.powered .fabric = true) :
    exec (.snTabdatAccess n wr) s =
      .next (s.onBlk fun b =>
        b.doPtrAccess .pwm (.tab n.val) (R.Sn_TABDAT_W n.val).off (wr.map fun x => (x.1.val, x.2.toNat))) := by
  have hall : [Dom.fabric].all s.blk.powered = true := by simp [hp]
  show Host.Outcome.next (s.within _ _) = _
  simp only [State.within, State.onBlk, hall, if_true]
  rfl

/-- The advanced pointer of a stepper's table reads back, modulo its width. -/
theorem tabPtr_advanced (b : Blk) (n : Fin 8) :
    (b.wr (PtrReg.tab n).sel.2 (b.rd (PtrReg.tab n).sel.2 + 1)).rd (PtrReg.tab n).sel.2 =
      (b.rd (PtrReg.tab n).sel.2 + 1) % 2 ^ (PtrReg.tab n).sel.2.w :=
  Blk.rd_wr_self b _ _ (by simp [Fld.inWord, PtrReg.sel, R.Sn_TABADR_ADR])

/-- A read of a stepper's table advances the pointer and changes neither the table nor a transaction. -/
theorem snTabdatAccess_read {s : State} (n : Fin 8) (hfab : s.blk.powered .fabric = true)
    (hpwm : s.blk.powered .pwm = true) : Yields (.snTabdatAccess n none) s fun t =>
      t.blk.txns = s.blk.txns ∧ t.blk.stps = s.blk.stps ∧
      t.blk.rd (PtrReg.tab n).sel.2 = (s.blk.rd (PtrReg.tab n).sel.2 + 1) % 2 ^ (PtrReg.tab n).sel.2.w := by
  refine ⟨_, exec_snTabdatAccess n none hfab, ?_⟩
  simp only [State.onBlk, Option.map_none, doPtrAccess_read _ _ hpwm]
  exact ⟨rfl, rfl, tabPtr_advanced s.blk n⟩

/-- A write to a stepper's table on an open transaction is staged with the pointer in force, which advances; the table
stays. -/
theorem snTabdatAccess_staged {s : State} (n : Fin 8) (r : Fin 4) (v : Word) (hfab : s.blk.powered .fabric = true)
    (hpwm : s.blk.powered .pwm = true) (hs : s.blk.txnStandby = false)
    (ho : s.blk.txnState r = 1 ∨ s.blk.txnState r = 2) (hl : (s.blk.txn r).list.length < 4096) :
    Yields (.snTabdatAccess n (some (r, v))) s fun t => t.blk.stps = s.blk.stps ∧
      t.blk.rd (PtrReg.tab n).sel.2 = (s.blk.rd (PtrReg.tab n).sel.2 + 1) % 2 ^ (PtrReg.tab n).sel.2.w ∧
      ∀ x, t.blk.txns.open_[r.val]? = some x → x.list = (s.blk.txn r).list ++
        [((R.Sn_TABDAT_W n).off, s.blk.rd (PtrReg.tab n).sel.1, v.toNat)] := by
  refine ⟨_, exec_snTabdatAccess n _ hfab, ?_⟩
  obtain ⟨count, hblk⟩ := doPtrAccess_staged (.tab n) (R.Sn_TABDAT_W n).off v.toNat hpwm hs ho hl
  simp only [State.onBlk, Option.map_some, hblk]
  refine ⟨rfl, ?_, fun x hx => ?_⟩
  · have hoff : (PtrReg.tab n).sel.2.off ≠ (R.TXN_STAT_COUNT r).off := by
      simp only [PtrReg.sel, R.Sn_TABADR_ADR, R.TXN_STAT_COUNT]
      omega
    exact (Blk.rd_wr_off _ _ _ _ hoff).trans (tabPtr_advanced s.blk n)
  · simp only [Blk.wr_txns, Blk.onTxn_txns, List.getElem?_modify, if_true, Option.map_eq_map, Option.map_eq_some_iff] at hx
    obtain ⟨y, hy, rfl⟩ := hx
    simp [Blk.txn, hy]

/-- Settles O47: each clause is one case of `State.registerWrite`, `Blk.latchRead` or `Blk.doPtrAccess`. -/
theorem registerAccess : Obligations.RegisterAccess := by
  refine ⟨?plain, ?width, ?locked, ?safety, ?nothing, ?latching, ?table⟩
  case plain =>
    intro s off v d hu ha hb hf ho hl hp hd
    refine yields_registerWrite ((registerWrite_assigned hu ha hb hf).trans (writeReg_plain v.toNat ho hl hp hd)) ?_
    exact ⟨Blk.word_setWord_self _ _ _, same_setWord (same_refl _ _) _ _ rfl, rfl, rfl⟩
  case width =>
    intro s off width v hu hw
    exact yields_registerWrite (registerWrite_wrongWidth hu hw) (wrongWidth_counts s.blk)
  case locked =>
    intro s off v d hu ha hb hf ho hl
    exact yields_registerWrite ((registerWrite_assigned hu ha hb hf).trans (writeReg_locked v.toNat ho hl))
      (raise_reports _ _ _ _)
  case safety =>
    intro s off v hu ha hlo hhi
    exact yields_registerWrite (registerWrite_safety hu ha hlo hhi) (raise_reports _ _ _ _)
  case nothing =>
    rintro s off width v h
    refine yields_registerWrite rfl ?_
    cases hu : s.blk.hostUp with
    | false => exact registerWrite_hostDown hu
    | true =>
      obtain ⟨rfl, ha, hb | ⟨hf, ho⟩⟩ := h.resolve_left (by simp [hu])
      · exact registerWrite_beyond hu ha hb
      · exact registerWrite_unassigned hu ha hf ho
  case latching =>
    intro s off i d f hf hu hp hi
    exact ⟨_, rfl, latchRead_keeps hf hu hp hi⟩
  case table =>
    intro s n hfab hpwm
    exact ⟨snTabdatAccess_read n hfab hpwm, fun r v hs ho hl => snTabdatAccess_staged n r v hfab hpwm hs ho hl⟩

end Sys2Proof.Machine
end

section
/-! The machine at reset (R14, R20, R33, R48, R510): every register at its reset word, hence every field that the
obligation names at the value its register table gives. -/

namespace Sys2Proof.Machine

/-- R14: at reset every register holds its reset word. -/
theorem reset_word (a : Nat) : State.reset.blk.word a = resetWord a := rfl

/-- R14: at reset every field reads from its register's reset word. -/
theorem reset_rd (f : Fld) : State.reset.blk.rd f = f.get (resetWord f.off) := rfl

/-- R20: PWR_DOMSTAT resets to 0, so no domain is powered. -/
theorem reset_powered (d : Dom) : State.reset.blk.powered d = false := by
  have hoff : resetWord R.PWR_DOMSTAT_ON.off = 0 := by decide
  simp [Blk.powered, Blk.on, reset_rd, bitOf, hoff, Fld.get]

/-- R48: FRAME_NO starts from 0, both of its words resetting to 0. -/
theorem reset_fn : State.reset.blk.fn = 0 := by
  have hlo : resetWord R.TICK_FRAME_NO_LO_FN_LO.off = 0 := by decide
  have hhi : resetWord R.TICK_FRAME_NO_HI_FN_HI.off = 0 := by decide
  simp [Blk.fn, reset_rd, hlo, hhi, Fld.get]

/-- R33: the frame period resets to 25,000 SYSCLK cycles. -/
theorem reset_period : State.reset.blk.rd R.TICK_PERIOD_PERIOD = 25000 := by
  rw [reset_rd]
  decide

/-- Dn_STAT resets to PSTATE 5, RELEASED, for every drive. -/
theorem reset_pstate (n : Fin 8) : State.reset.blk.pstate n = 5 := by
  have hall : ∀ n : Fin 8, (R.Dn_STAT_PSTATE n).get (resetWord (R.Dn_STAT_PSTATE n).off) = 5 := by decide
  exact (reset_rd _).trans (hall n)

/-- Settles O60. -/
theorem resetState : Obligations.ResetState :=
  ⟨rfl, reset_mem_wf, rfl, rfl, reset_word, reset_powered, reset_period, reset_fn, reset_pstate, rfl, rfl⟩

end Sys2Proof.Machine
end

section
/-! What CAN_ARBITRATION_LOST changes beside CANn_TXSTAT. By R362 a Slalu frame that waits in TXB0 is replaced by its
session's next; the model does so when the attempt of the waiting frame ends, and counts it in SLL_SESs_CNT.REPL. -/

namespace Sys2Proof.Machine

/-- A CAN frame that carries a Slalu frame of session 1. -/
def session1Frame : CanFrame := ⟨false, false, false, false, false, 0x100, 8, [0, 1, 0, 0, 0, 0, 0, 0]⟩

/-- Controller 0 with a frame of session 1 in TXB0 and the session's next waiting behind it. -/
def session1Waits : Can :=
  { Can.cold with bufs := [{ TxBuf.cold with f := session1Frame, next := [session1Frame] }, TxBuf.cold, TxBuf.cold] }

/-- Every domain powered, controller 0 ACTIVE, TXB0 in its attempt, and the next frame of its session waiting. -/
def slaluInAttempt : State :=
  let b := ((Blk.cold.wr R.PWR_DOMSTAT_ON 0xFFF).wr (R.CANn_STAT_STATE 0) 3).setTxb 0 0 2
  { State.reset with blk := { b with cans := session1Waits :: List.replicate 3 Can.cold } }

/-- No frame of session 1 has been replaced yet. -/
theorem slaluInAttempt_repl : slaluInAttempt.blk.rd (R.SLL_SESs_CNT_REPL 1) = 0 := by decide +kernel

/-- The lost arbitration replaces the waiting frame, and SLL_SESs_CNT.REPL of session 1 counts it (R362). -/
theorem slaluInAttempt_lost_repl :
    (slaluInAttempt.within [.comm] fun b => b.doCanLost 0).blk.rd (R.SLL_SESs_CNT_REPL 1) = 1 := by decide +kernel

/-- Refutes O56: its frame for CAN_ARBITRATION_LOST is CANn_TXSTAT alone, but where the session's next Slalu frame waits
the command also counts in SLL_SESs_CNT.REPL (R362), as from `slaluInAttempt`. -/
theorem not_registerFrames : ¬ Obligations.RegisterFrames := by
  rintro ⟨hframe, -⟩
  obtain ⟨t, hexec, hsame, -, -⟩ :=
    hframe slaluInAttempt (.canArbitrationLost 0) [(R.CANn_TXSTAT_W 0).off] (by simp)
  have ht : t = slaluInAttempt.within [.comm] fun b => b.doCanLost 0 := by
    injection hexec with h
    exact h.symm
  have hkept : t.blk.rd (R.SLL_SESs_CNT_REPL 1) = slaluInAttempt.blk.rd (R.SLL_SESs_CNT_REPL 1) :=
    same_rd hsame _ (by decide)
  rw [ht, slaluInAttempt_repl, slaluInAttempt_lost_repl] at hkept
  exact absurd hkept (by decide)

end Sys2Proof.Machine
end

section
/-! What the reactions of the machine may change of the register file: gates, STO outputs, ownership, a loss, and the
loop-engine pairs write words of the units alone, from 0x4000 up, and leave SYS, CLK, PWR and TICK, hence every power
domain, as they are. -/

namespace Sys2Proof.Machine

/-- The words of the units: every word above those of SYS, CLK, PWR and TICK. -/
abbrev unitWords (a : Nat) : Prop := 0x4000 ≤ a

/-- A word of a unit that stands once. -/
theorem unit_const {a : Nat} (h : Nat.ble 0x4000 a = true) : unitWords a := Nat.le_of_ble_eq_true h

/-- A word of an indexed unit. -/
theorem unit_at {base k : Nat} (h : Nat.ble 0x4000 base = true := by decide) : unitWords (base + k) :=
  Nat.le_add_right_of_le (Nat.le_of_ble_eq_true h)

/-- An operation that changes words of the units alone leaves every power domain. -/
theorem powered_of_units {b c : Blk} (h : SameBut b c unitWords) (d : Dom) : c.powered d = b.powered d :=
  same_on h _ (by decide : ¬ unitWords R.PWR_DOMSTAT_ON.off)

/-- A conditional changes what its branches may change. -/
theorem same_ite {b c d : Blk} {T : Nat → Prop} {p : Prop} [Decidable p] (hc : p → SameBut b c T)
    (hd : ¬ p → SameBut b d T) : SameBut b (if p then c else d) T := by
  split_ifs with h
  · exact hc h
  · exact hd h

/-! The end of pulses and the gate-enables. -/

theorem abortInj_units (b : Blk) (c r : Nat) : SameBut b (b.abortInj c r) unitWords := by
  refine same_mono (abortInj_same b c r) ?_
  rintro a (⟨k, -, rfl⟩ | rfl)
  · exact unit_at
  · exact unit_const rfl

theorem abruptStop_units (b : Blk) (a : Nat) : SameBut b (b.abruptStop a) unitWords := by
  refine same_mono (abruptStop_same b a) ?_
  rintro x (⟨hx, -⟩ | rfl | ⟨-, rfl⟩)
  · exact le_trans (by omega) hx
  · exact unit_const rfl
  · exact unit_at

theorem seqIdle_units (b : Blk) (n : Nat) : SameBut b (b.seqIdle n) unitWords := by
  refine same_mono (seqIdle_same b n) ?_
  rintro a (rfl | rfl) <;> exact unit_at

theorem blockTo_units (b : Blk) {n : Nat} (ps : Nat) (hn : n < 8) : SameBut b (b.blockTo n ps) unitWords := by
  refine same_mono (blockTo_same b n ps hn) ?_
  rintro a (rfl | rfl | rfl | rfl | ⟨k, -, rfl⟩ | ⟨ha, -⟩ | rfl)
  · exact unit_at
  · exact unit_at
  · exact unit_at
  · exact unit_at
  · exact unit_at
  · exact le_trans (by omega) ha
  · exact unit_const rfl

theorem because_regs (b : Blk) (n why : Nat) : (b.because n why).regs = b.regs := by
  unfold Blk.because
  split_ifs <;> rfl

/-- Pulses end for a cause that the drive keeps. -/
theorem because_blockTo_units (b : Blk) {n : Nat} (why ps : Nat) (hn : n < 8) :
    SameBut b ((b.because n why).blockTo n ps) unitWords :=
  same_trans (same_regs (because_regs b n why)) (blockTo_units _ ps hn)

theorem acceptTrip_units (b : Blk) {n : Nat} (src : Nat) (hn : n < 8) : SameBut b (b.acceptTrip n src) unitWords := by
  have hcut : ∀ ps f, SameBut b (((b.because n 1).blockTo n ps).onDrv n f) unitWords := fun ps f =>
    same_onDrv (because_blockTo_units b 1 ps hn) n f
  refine same_ite (fun _ => same_refl b _) fun _ => same_ite (fun _ => same_inc (same_refl b _) _ unit_at) fun _ => ?_
  refine same_raise (same_inc (same_wr (same_flag ?_ _ _ unit_at) _ _ unit_at) _ unit_at) _ _ _ (unit_const rfl)
  refine same_ite (fun _ => same_trans (hcut _ _) (same_mono (pinsAsc_same _ n _) ?_)) fun _ => hcut _ _
  rintro a rfl
  exact unit_at

theorem bridgesOff_units (b : Blk) (n st : Nat) : SameBut b (b.bridgesOff n st) unitWords :=
  same_ite (fun _ => same_trans (same_onStp (same_wr (abortInj_units b _ 2) _ _ unit_at) n _) (abruptStop_units _ _))
    fun _ => same_refl b _

theorem gateLost_units (b : Blk) (c : Nat) : SameBut b (b.gateLost c) unitWords := by
  refine same_ite (fun hc => ?_) fun _ => same_trans (same_flag (same_refl b _) _ _ unit_at) (bridgesOff_units _ _ 3)
  refine same_trans (same_flag (same_refl b _) (R.Dn_STAT_HASP_EN c) false unit_at) ?_
  refine same_ite (fun _ => because_blockTo_units _ 3 0 hc) fun _ => same_ite (fun _ => blockTo_units _ 3 hc) fun _ => ?_
  exact same_ite (fun _ => seqIdle_units _ c) fun _ => same_refl _ _

theorem gateGained_units (b : Blk) (c : Nat) : SameBut b (b.gateGained c) unitWords :=
  same_ite (fun _ => same_flag (same_refl b _) _ _ unit_at) fun _ => same_flag (same_refl b _) _ _ unit_at

theorem gates_units (b : Blk) : SameBut b b.gates unitWords := by
  refine same_each 16 _ (fun c _ b => ?_) b
  refine same_ite (fun _ => same_refl b _) fun _ => ?_
  refine same_trans (same_flag (same_refl b _) (bitOf R.HASP_GEN_EN c) (b.gateDue c) (unit_const rfl)) ?_
  exact same_ite (fun _ => gateGained_units _ c) fun _ => gateLost_units _ c

/-! The STO outputs (R322, R323). -/

theorem openSto_units (b : Blk) (k : Nat) : SameBut b (b.openSto k) unitWords := by
  refine same_trans ?_ (same_eachOf _ _ (fun c _ b => same_onHch (same_refl b _) c _) _)
  refine same_onSto (same_flag (same_wr ?_ _ _ unit_at) _ _ unit_at) k _
  exact same_ite (fun _ => same_raise (same_inc (same_refl b _) _ unit_at) _ _ _ (unit_const rfl)) fun _ => same_refl b _

theorem judgeSto_units (b : Blk) (k : Nat) : SameBut b (b.judgeSto k) unitWords := by
  refine same_ite (fun _ => same_refl b _) fun _ => ?_
  split
  · have hdem : ∀ (d : Nat) (p : Prop) [Decidable p] (f : Sto → Sto), SameBut b
        (((if p then b.wr (R.HASP_STOSTAT_DSRC k) d else b).flag (R.HASP_STOSTAT_DEM k) true).onSto k f) unitWords :=
      fun d p _ f => same_onSto (same_flag (same_ite (fun _ => same_wr (same_refl b _) _ _ unit_at) fun _ =>
        same_refl b _) _ _ unit_at) k f
    dsimp only
    split
    · refine same_ite (fun _ => ?_) fun _ => hdem _ _ _
      exact same_raise (same_trans (hdem _ _ _) (openSto_units _ k)) _ _ _ (unit_const rfl)
    · exact hdem _ _ _
  · have hclear : SameBut b (b.flag (R.HASP_STOSTAT_DEM k) false) unitWords := same_flag (same_refl b _) _ _ unit_at
    exact same_ite (fun _ => same_onSto (same_wr hclear _ _ unit_at) k _) fun _ => hclear

/-- What Hasp does when it settles. -/
theorem settle_units (b : Blk) : SameBut b b.settle unitWords := by
  have hreact : ∀ b : Blk, SameBut b (b.each 16 fun c b => b.endReact c) unitWords :=
    same_each 16 _ fun c _ b => same_ite (fun _ => same_onHch (same_refl b _) c _) fun _ => same_refl b _
  have hpass : ∀ b : Blk,
      SameBut b ((b.each 16 fun c b => b.endReact c).each 4 fun k b => b.judgeSto k).gates unitWords := fun b =>
    same_trans (same_trans (hreact b) (same_each 4 _ (fun k _ b => judgeSto_units b k) _)) (gates_units _)
  exact same_trans (hpass b) (hpass _)

/-! Ownership and the loss of R338. -/

theorem ownLost_units (b : Blk) (c : Nat) : SameBut b (b.ownLost c) unitWords := by
  refine same_ite (fun hc => ?drive) fun _ => ?stepper
  case drive =>
    exact same_onDc (same_flag (same_trans (same_flag (same_refl b _) _ _ unit_at) (blockTo_units _ 5 hc)) _ _ unit_at) c _
  case stepper =>
    refine same_onStp (same_wr (same_flag ?_ _ _ unit_at) _ _ unit_at) _ _
    exact same_ite (fun _ => abortInj_units b c 2) fun _ => same_refl b _

theorem ownGained_units (b : Blk) (c : Nat) : SameBut b (b.ownGained c) unitWords := by
  refine same_ite (fun hc => ?drive) fun _ => same_wr (same_flag (same_refl b _) _ _ unit_at) _ _ unit_at
  case drive =>
    have hpins : SameBut b (((b.flag (R.Dn_STAT_OWN c) true).wr (R.Dn_STAT_PSTATE c) 0).pinsOff c) unitWords :=
      same_onDrv (same_wr (same_wr (same_wr (same_flag (same_refl b _) _ _ unit_at) _ _ unit_at) _ _ unit_at) _ _ unit_at) c _
    refine same_ite (fun _ => same_trans hpins (acceptTrip_units _ 0 hc)) fun _ => ?_
    exact same_ite (fun _ => same_trans hpins (acceptTrip_units _ 1 hc)) fun _ => hpins

theorem ownSettle_units (b : Blk) : SameBut b b.ownSettle unitWords :=
  same_each 16 _ (fun c _ b => same_ite (fun _ => same_refl b _) fun _ =>
    same_ite (fun _ => ownGained_units b c) fun _ => ownLost_units b c) b

theorem setRole_units (b : Blk) (r : Nat) : SameBut b (b.setRole r) unitWords :=
  same_trans (same_wr (same_refl b _) R.MIR_STAT_ROLE r (unit_const rfl))
    (same_each 4 _ (fun _ _ b => same_flag (same_refl b _) _ _ unit_at) _)

theorem dropInFlight_units (b : Blk) : SameBut b b.dropInFlight unitWords := by
  refine same_trans (same_onHost (same_refl b _) _) (same_foldl _ _ (fun b w _ => ?_) _)
  split
  · exact same_ite (fun _ => same_refl b _) fun _ => same_complete (same_refl b _) _ _ _ _
  · exact same_refl b _

/-- What a declared loss may change (R338). -/
theorem loss_units (b : Blk) (cause : Nat) : SameBut b (b.loss cause) unitWords := by
  refine same_ite (fun _ => same_refl b _) fun _ => ?_
  have hhold : ∀ (p : Prop) [Decidable p], SameBut b (if p then b.ntcHold else b) unitWords := fun p _ =>
    same_ite (fun _ => same_regs rfl) fun _ => same_refl b _
  refine same_trans ?_ (dropInFlight_units _)
  refine same_trans ?_ (settle_units _)
  refine same_trans ?_ (ownSettle_units _)
  refine same_trans (same_flag ?_ _ _ (unit_const rfl)) (setRole_units _ 5)
  exact same_trans (same_raise (same_wr (hhold _) _ _ (unit_const rfl)) _ _ _ (unit_const rfl)) (gates_units _)

end Sys2Proof.Machine
end

section
/-! The loop-engine pairs lost with a power domain (R208 to R211, R378): retiring them, moving their channels and loading
them elsewhere writes words of the units alone. -/

namespace Sys2Proof.Machine

theorem onLe_units (b : Blk) (f : Le → Le) : SameBut b (b.onLe f) unitWords := same_regs rfl

theorem setPair_units (b : Blk) (k v : Nat) : SameBut b (b.setPair k v) unitWords :=
  same_wr (same_refl b _) _ _ (unit_const rfl)

theorem setMap_units (b : Blk) (c v : Nat) : SameBut b (b.setMap c v) unitWords :=
  same_ite (fun _ => same_wr (same_refl b _) _ _ (unit_const rfl)) fun _ => same_wr (same_refl b _) _ _ (unit_const rfl)

theorem shed_units (b : Blk) (c : Nat) : SameBut b (b.shed c) unitWords :=
  same_ite (fun _ => same_onDrv (same_refl b _) c _) fun _ => same_onStp (same_refl b _) _ _

theorem moveCapture_units (b : Blk) (k : Nat) (c : Option Nat) : SameBut b (b.moveCapture k c) unitWords :=
  same_ite (fun _ => same_onTun (same_wr (same_refl b _) _ _ unit_at) k _) fun _ => same_refl b _

theorem startBlend_units (b : Blk) (n what kind : Nat) (yLast vq vd : Int) :
    SameBut b (b.startBlend n what kind yLast vq vd) unitWords :=
  same_flag (same_onDrv (same_refl b _) n _) _ _ unit_at

/-! Loading a channel (R208, R373). -/

theorem wardFail_units (b : Blk) (cls key : Nat) : SameBut b (b.wardFail cls key) unitWords := by
  have hcount : SameBut b (((b.inc (R.WARD_CNT_COUNT cls)).wr R.WARD_LAST_KEY key).wr R.WARD_LAST_FN b.fn) unitWords :=
    same_wr (same_wr (same_inc (same_refl b _) _ unit_at) _ _ (unit_const rfl)) _ _ (unit_const rfl)
  exact same_ite (fun _ => same_raiseLim hcount _ _ _ _ (unit_const rfl)) fun _ => hcount

theorem ckFails_units (b : Blk) (c w : Nat) : SameBut b (b.ckFails c w) unitWords :=
  same_flag (same_inc (wardFail_units b _ _) _ unit_at) _ _ (unit_const rfl)

theorem pickCk_units (b : Blk) (c : Nat) : SameBut b (b.pickCk c).2 unitWords := by
  have hmark : ∀ (b : Blk) (w : Nat) (f : Chan → Chan), SameBut b ((b.ckFails c w).onChan c f) unitWords := fun b w f =>
    same_onChan (ckFails_units b c w) c f
  unfold Blk.pickCk
  dsimp only
  split
  · split
    · exact same_trans (hmark _ _ _) (hmark _ _ _)
    · exact same_raise (hmark _ _ _) _ _ _ (unit_const rfl)
    · exact hmark _ _ _
  · exact same_refl b _

theorem resumeFrom_units (b : Blk) (c : Nat) (ck : Option Ckpt) : SameBut b (b.resumeFrom c ck) unitWords := by
  cases ck with
  | some k => exact same_ite (fun _ => same_onDrv (same_onChan (same_refl b _) c _) c _) fun _ =>
      same_onChan (same_refl b _) c _
  | none =>
    have hraise : ∀ f, SameBut b ((b.raise 0x7104 c []).onChan c f) unitWords := fun f =>
      same_onChan (same_raise (same_refl b _) _ _ _ (unit_const rfl)) c f
    refine same_ite (fun _ => ?_) fun _ => same_onChan (hraise _) c _
    exact same_trans (same_trans (same_onChan (hraise _) c _) (startBlend_units _ c 0 9 _ _ _)) (startBlend_units _ c 1 9 _ _ _)

theorem restoreCk_units (b : Blk) (c : Nat) : SameBut b (b.restoreCk c) unitWords :=
  same_trans (pickCk_units b c) (resumeFrom_units _ c _)

/-- A fold that carries an answer beside the block changes what its steps may change. -/
theorem same_foldl_snd {α β : Type} {T : Nat → Prop} (l : List α) (f : β × Blk → α → β × Blk)
    (h : ∀ r x, SameBut r.2 (f r x).2 T) (r : β × Blk) : SameBut r.2 (l.foldl f r).2 T := by
  induction l generalizing r with
  | nil => exact same_refl r.2 T
  | cons x l ih => exact same_trans (h r x) (ih _)

theorem loadCoefs_units (b : Blk) (c : Nat) : SameBut b (b.loadCoefs c).2 unitWords := by
  refine same_foldl_snd _ _ (fun r x => ?_) (false, b)
  split_ifs
  · exact same_refl r.2 _
  · exact wardFail_units r.2 _ _

theorem cannotLoad_units (b : Blk) (c : Nat) : SameBut b (b.cannotLoad c) unitWords := by
  have hraise : SameBut b (b.raise 0xB304 c []) unitWords := same_raise (same_refl b _) _ _ _ (unit_const rfl)
  refine same_trans hraise (same_ite (fun _ => loss_units _ 0) fun _ => ?_)
  exact same_trans (setMap_units _ c 0xE) (shed_units _ c)

theorem moveChan_units (b : Blk) (c k : Nat) : SameBut b (b.moveChan c k) unitWords := by
  have hload : SameBut b (((b.moveCapture (b.pairOf c) (some c)).abortInj c 5).loadCoefs c).2 unitWords :=
    same_trans (same_trans (moveCapture_units b _ _) (abortInj_units _ c 5)) (loadCoefs_units _ c)
  exact same_ite (fun _ => same_trans hload (cannotLoad_units _ c)) fun _ =>
    same_trans (same_trans hload (setMap_units _ c k)) (restoreCk_units _ c)

theorem startLoading_units (b : Blk) (k : Nat) (chs : List Nat) (post : Bool) :
    SameBut b (b.startLoading k chs post) unitWords :=
  same_ite (fun _ => same_refl b _) fun _ => same_trans (setPair_units b k 3) (onLe_units _ _)

/-! Retiring pairs and placing their channels (R209, R210). -/

theorem applyAssign_units (b : Blk) (l : List (Nat × Nat)) (post : Bool) : SameBut b (b.applyAssign l post) unitWords :=
  same_trans (same_foldl _ _ (fun b x _ => moveChan_units b x.1 x.2) b)
    (same_foldl _ _ (fun b k _ => startLoading_units b k _ post) _)

theorem lossNoSpare_units (b : Blk) (post : Bool) : SameBut b (b.lossNoSpare post) unitWords := by
  unfold Blk.lossNoSpare
  split
  · exact same_raise (applyAssign_units b _ post) _ _ _ (unit_const rfl)
  · refine same_ite (fun _ => loss_units b 0) fun _ => ?_
    refine same_trans (same_raise (same_trans (applyAssign_units b b.placement.1 post) ?_) _ _ _ (unit_const rfl))
      (same_regs rfl)
    exact same_eachOf _ _ (fun c _ b => same_trans (same_trans (same_trans (moveCapture_units b _ _)
      (abortInj_units _ c 5)) (setMap_units _ c 0xE)) (shed_units _ c)) _

theorem retirePair_units (b : Blk) (k : Nat) (post : Bool) : SameBut b (b.retirePair k post) unitWords := by
  have houts : ∀ chs : List Nat, SameBut b
      (if post then b else b.eachOf chs fun c b => b.onChan c fun x => { x with outs := none }) unitWords := fun chs =>
    same_ite (fun _ => same_refl b _) fun _ => same_eachOf chs _ (fun c _ b => same_onChan (same_refl b _) c _) b
  have hretire : ∀ chs f, SameBut b (((((((if post then b else b.eachOf chs fun c b => b.onChan c fun x =>
      { x with outs := none }).setPair k 4).inc (R.LE_ERR_DIS k)).moveCapture k none).eachOf chs
        fun c b => b.abortInj c 5)).onLe f) unitWords := fun chs f =>
    same_trans (same_trans (same_trans (same_inc (same_trans (houts chs) (setPair_units _ k 4)) _ unit_at)
      (moveCapture_units _ k none)) (same_eachOf chs _ (fun c _ b => abortInj_units b c 5) _)) (onLe_units _ f)
  exact same_ite (fun _ => same_flag (hretire _ _) _ _ (unit_const rfl)) fun _ => hretire _ _

theorem spareTakes_units (b : Blk) (chs : List Nat) (post : Bool) : SameBut b (b.spareTakes chs post) unitWords :=
  same_trans (same_trans (same_flag (onLe_units b _) _ _ (unit_const rfl))
    (same_eachOf chs _ (fun c _ b => moveChan_units b c 4) _)) (startLoading_units _ 4 _ post)

/-- The pairs that a lost LPA or LPB takes with it (R378). -/
theorem pairsLost_units (b : Blk) (ks : List Nat) : SameBut b (b.pairsLost ks) unitWords := by
  have hspare : ∀ p : Bool, SameBut b (if p then (b.setPair 4 4).flag R.WARD_SPARE_LP4 false else b) unitWords := fun p =>
    same_ite (fun _ => same_flag (setPair_units b 4 4) _ _ (unit_const rfl)) fun _ => same_refl b _
  have hretired : ∀ (p : Bool) (l : List Nat), SameBut b
      ((if p then (b.setPair 4 4).flag R.WARD_SPARE_LP4 false else b).eachOf l fun k b =>
        ((b.retirePair k false).raise 0x7201 k []).onLe fun x => { x with lostNow := k :: x.lostNow }) unitWords :=
    fun p l => same_trans (hspare p) (same_eachOf l _ (fun k _ b =>
      same_trans (same_raise (retirePair_units b k false) _ _ _ (unit_const rfl)) (onLe_units _ _)) _)
  have hlost : ∀ c : Blk, SameBut c (if c.orphans.isEmpty then c else c.lossNoSpare false) unitWords := fun c =>
    same_ite (fun _ => same_refl c _) fun _ => lossNoSpare_units c false
  refine same_trans ?_ (hlost _)
  split
  · exact same_ite (fun _ => same_trans (hretired _ _) (spareTakes_units _ _ false)) fun _ => hretired _ _
  · exact hretired _ _

end Sys2Proof.Machine
end

section
/-! The power domains of R20: what PWR_DOMSTAT shows after a domain goes on or off, and after the domains of the module
are removed (R523, R525, R526). -/

namespace Sys2Proof.Machine

/-- PWR_DOMSTAT numbers the domains in the order of R20. -/
theorem domAt_bit (d : Dom) : domAt d.bit = d := by cases d <;> rfl

theorem Dom.bit_lt (d : Dom) : d.bit < 12 := by cases d <;> decide

/-- The ON and the PHF bit of a domain lie within PWR_DOMSTAT. -/
theorem onBit_inWord (d : Dom) : (bitOf R.PWR_DOMSTAT_ON d.bit).inWord := by
  have := d.bit_lt
  simp only [Fld.inWord, bitOf, R.PWR_DOMSTAT_ON]
  omega

theorem phfBit_inWord (d : Dom) : (bitOf R.PWR_DOMSTAT_PHF d.bit).inWord := by
  have := d.bit_lt
  simp only [Fld.inWord, bitOf, R.PWR_DOMSTAT_PHF]
  omega

/-- Another domain's bit lies apart. -/
theorem onBit_apart {d e : Dom} (h : e ≠ d) : (bitOf R.PWR_DOMSTAT_ON d.bit).apart (bitOf R.PWR_DOMSTAT_ON e.bit) := by
  have hbit : e.bit ≠ d.bit := fun hb => h ((domAt_bit e).symm.trans ((congrArg domAt hb).trans (domAt_bit d)))
  simp only [Fld.apart, bitOf, R.PWR_DOMSTAT_ON]
  omega

theorem phfBit_apart (d e : Dom) : (bitOf R.PWR_DOMSTAT_PHF d.bit).apart (bitOf R.PWR_DOMSTAT_ON e.bit) := by
  have := e.bit_lt
  simp only [Fld.apart, bitOf, R.PWR_DOMSTAT_ON, R.PWR_DOMSTAT_PHF]
  omega

theorem Blk.powered_setDom_self (b : Blk) (d : Dom) (v : Bool) : (b.setDom d v).powered d = v :=
  Blk.on_flag_self b _ v (onBit_inWord d) rfl

theorem Blk.powered_setDom_ne (b : Blk) {d e : Dom} (v : Bool) (h : e ≠ d) : (b.setDom d v).powered e = b.powered e :=
  congrArg (· != 0) (Blk.rd_wr_apart b _ _ _ (onBit_inWord d) (onBit_apart h))

/-- A failed regulator phase shown leaves the domains as they are. -/
theorem Blk.powered_phf (b : Blk) (d e : Dom) (v : Bool) :
    (b.flag (bitOf R.PWR_DOMSTAT_PHF d.bit) v).powered e = b.powered e :=
  congrArg (· != 0) (Blk.rd_wr_apart b _ _ _ (phfBit_inWord d) (phfBit_apart d e))

/-! The removal of domains. -/

theorem regFind_filter (m : List (Nat × Word)) (p : Nat → Bool) (a : Nat) :
    regFind (m.filter fun e => p e.1) a = if p a then regFind m a else none := by
  induction m with
  | nil => simp [regFind]
  | cons e m ih =>
    by_cases he : e.1 = a
    · cases hp : p a <;> simp [he, hp, regFind, ih]
    · cases hp : p e.1 <;> simp [he, hp, regFind, ih]

/-- What the removal of domains leaves of the register at an offset: VAULT's reset source keeps it, or its domain does. -/
def survives (keep : Dom → Bool) (a : Nat) : Bool :=
  match findReg a with
  | some d => d.src == .por || keep d.dom
  | none => false

/-- The removal of domains, as far as the registers go: those that survive stay, and VAULT shows as it stands. -/
theorem reduced_eq (b : Blk) (keep : Dom → Bool) (lost : Bool) : ∃ c : Blk,
    b.reduced keep lost = c.setDom .vault b.pwr.vault ∧ c.regs = b.regs.filter (fun e => survives keep e.1) :=
  ⟨_, rfl, rfl⟩

/-- PWR_DOMSTAT goes with FABRIC. -/
theorem survives_domstat (keep : Dom → Bool) : survives keep R.PWR_DOMSTAT_ON.off = keep .fabric := by
  have hreg : (findReg R.PWR_DOMSTAT_ON.off).map (fun d => (d.src, d.dom)) = some (.sys, .fabric) := by decide
  obtain ⟨d, hfind, hd⟩ := Option.map_eq_some_iff.mp hreg
  obtain ⟨hsrc, hdom⟩ := Prod.mk.inj hd
  simp [survives, hfind, hsrc, hdom]

/-- Without FABRIC no domain but VAULT is powered after the removal. -/
theorem reduced_powered (b : Blk) {keep : Dom → Bool} (lost : Bool) (hk : keep .fabric = false) {d : Dom}
    (hd : d ≠ .vault) : (b.reduced keep lost).powered d = false := by
  obtain ⟨c, hc, hregs⟩ := reduced_eq b keep lost
  have hreset : resetWord R.PWR_DOMSTAT_ON.off = 0 := by decide
  have hword : c.word R.PWR_DOMSTAT_ON.off = 0 := by
    simp [Blk.word, hregs, regFind_filter, survives_domstat, hk, hreset]
  rw [hc, Blk.powered_setDom_ne c _ hd]
  simp [Blk.powered, Blk.on, Blk.rd, bitOf, hword, Fld.get]

/-- A cause noted is in PWR_RSTCAUSE at the start-up to come. -/
theorem bitAt_lor_self (c i : Nat) : bitAt (Nat.lor c (2 ^ i)) i = true := by
  have h : (c ||| 2 ^ i).testBit i = true := by simp
  rw [Nat.testBit_eq_decide_div_mod_eq] at h
  simpa [bitAt] using h

end Sys2Proof.Machine
end

section
/-! Domains lost while the module runs (R378, R513). -/

namespace Sys2Proof.Machine

/-- A lost domain is off, whatever its loss brings about. VAULT is fed by no rail that could fail. -/
theorem domainLost_powered (b : Blk) {d : Dom} (hd : d ≠ .vault) : (b.domainLost d).powered d = false := by
  cases d with
  | vault => exact absurd rfl hd
  | pwm => exact (powered_of_units (ownSettle_units _) _).trans (Blk.powered_setDom_self _ _ false)
  | lpa | lpb => exact (powered_of_units (pairsLost_units _ _) _).trans (Blk.powered_setDom_self _ _ false)
  | safe | fabric | afe | feed | comm | host | mir | nvs => exact Blk.powered_setDom_self _ _ false

/-- The space of an event ring does not depend on the other domains. -/
theorem ringSpace_setDom (b : Blk) {d : Dom} (v : Bool) (q : Nat) (hd : Dom.host ≠ d) :
    (b.setDom d v).ringSpace q = b.ringSpace q := by
  have hrd : ∀ f : Fld, unitWords f.off → (b.setDom d v).rd f = b.rd f := fun f hf =>
    Blk.rd_wr_off b (bitOf R.PWR_DOMSTAT_ON d.bit) f _ fun (h : f.off = R.PWR_DOMSTAT_ON.off) =>
      absurd (h ▸ hf) (by decide : ¬ unitWords R.PWR_DOMSTAT_ON.off)
  have hruns : (b.setDom d v).ringRuns q = b.ringRuns q := by
    simp only [Blk.ringRuns, Blk.on, Blk.powered_setDom_ne b v hd, hrd (R.RING_CTL_EN q) unit_at,
      hrd (R.RING_STAT_STATE q) unit_at]
  unfold Blk.ringSpace Blk.ringSize
  rw [hruns, hrd (R.RING_CTL_LOG2SIZE q) unit_at, hrd (R.RING_IDX_MOD q) unit_at, hrd (R.RING_IDX_HOST q) unit_at]

/-- The loss of NVS is reported, and the event ring has the space it had. -/
theorem domainLost_nvs_reported (b : Blk) : Reported (b.domainLost .nvs) 0x0302 0 := by
  have hraised := Blk.raise_self b 0x0302 0 [Int.ofNat Dom.nvs.bit]
  exact reported_wr hraised _ _ (by decide) (ringSpace_setDom _ false 10 (by decide))

/-- A rail outside its window loses its domain (R513); what NVS loses besides changes neither a domain nor a report. -/
theorem doRail_loses (s : State) {d : Dom} (hp : s.blk.powered d = true) (hd : d ≠ .vault) :
    (∀ e, (s.doRail d).blk.powered e = (s.blk.domainLost d).powered e) ∧
    (∀ c n, Reported (s.blk.domainLost d) c n → Reported (s.doRail d).blk c n) := by
  have hon : ¬ (s.blk.powered d = false ∨ d = .vault) := by simp [hp, hd]
  rw [State.doRail, if_neg hon]
  dsimp only
  split_ifs
  · exact ⟨fun e => rfl, fun c n h => reported_keep h rfl rfl rfl⟩
  · exact ⟨fun e => rfl, fun c n h => h⟩

/-- The second failed phase of a domain loses it (R378). -/
theorem doPhase_second (b : Blk) {d : Dom} (hp : b.powered d = true) (h2 : twoPhase d = true)
    (hf : b.on (bitOf R.PWR_DOMSTAT_PHF d.bit) = true) : b.doPhase d = b.domainLost d := by
  simp [Blk.doPhase, hp, h2, hf]

/-- A command whose meaning updates the block yields what holds of the block updated. -/
theorem yields_onBlk {c : Instr} {s : State} {f : Blk → Blk} {b : Blk} {P : State → Prop}
    (he : exec c s = .next (s.onBlk f)) (hb : f s.blk = b) (hP : P { s with blk := b }) : Yields c s P :=
  ⟨_, he, by subst hb; exact hP⟩

/-- Settles O41: every arm of `Blk.domainLost` ends with the domain off, and for LPA, LPB and PWM what follows writes words
of the units alone. -/
theorem domainLost : Obligations.DomainLost := by
  refine ⟨fun s d hp hd => ?rail, fun s d hp h2 hf => ?phase⟩
  case rail =>
    obtain ⟨hpow, hrep⟩ := doRail_loses s hp hd
    exact ⟨_, rfl, (hpow _).trans (domainLost_powered s.blk hd), fun hn => hrep _ _ (hn ▸ domainLost_nvs_reported s.blk)⟩
  case phase =>
    have hd : domAt d ≠ .vault := fun h => by simp [h, twoPhase] at h2
    exact yields_onBlk rfl (doPhase_second s.blk hp h2 hf) (domainLost_powered s.blk hd)

end Sys2Proof.Machine
end

section
/-! The supplies (R510, R511, R525, R526, R558): what each supply event changes, from the state in which it acts. -/

namespace Sys2Proof.Machine

/-! A supply reading of which the range alone is known (log entry 46). -/

/-- A reading lies in its range. -/
theorem reading_bounds (b : Blk) (f : Fld) {lo hi : Nat} (hf : f.inWord) (h : lo < hi) (hw : hi ≤ 2 ^ f.w) :
    lo ≤ (b.reading f lo hi).rd f ∧ (b.reading f lo hi).rd f < hi := by
  have hrd : (b.reading f lo hi).rd f = (lo + Config.freeNat b.freeCtr % (hi - lo)) % 2 ^ f.w :=
    Blk.rd_wr_self { b with freeCtr := b.freeCtr + 1 } f _ hf
  have hlt : Config.freeNat b.freeCtr % (hi - lo) < hi - lo := Nat.mod_lt _ (by omega)
  rw [hrd, Nat.mod_eq_of_lt (by omega)]
  omega

theorem reading_rd_off (b : Blk) (f g : Fld) (lo hi : Nat) (h : g.off ≠ f.off) : (b.reading f lo hi).rd g = b.rd g :=
  Blk.rd_wr_off { b with freeCtr := b.freeCtr + 1 } f g _ h

/-- A report stays when PWR_VMON takes a reading. -/
theorem reported_reading {b : Blk} {c n : Nat} (h : Reported b c n) (f : Fld) (lo hi : Nat)
    (hf : f.off = R.PWR_VMON_W.off) : Reported (b.reading f lo hi) c n := by
  have hoff : f.off = 0x2000 := hf
  have hfree : Reported { b with freeCtr := b.freeCtr + 1 } c n := reported_keep h rfl rfl rfl
  refine reported_wr hfree f _ (by rw [hoff]; decide) (ringSpace_wr _ f _ 10 (by omega) (by decide) ?_)
  rw [hoff]
  decide

/-! Events of a monitored supply that raise an event and take a reading. -/

/-- VMAIN_LOW begins ride-through. -/
theorem doVmainLow_eq {b : Blk} (hm : b.monitored = true) (hr : b.pwr.ride = none) : b.doVmainLow =
    (((b.onPwr (fun p => { p with ride := some 0 })).inc R.PWR_CNT_RIDE).raise 0x0120 0 []).reading
      R.PWR_VMON_VMAIN 1200 1600 := by
  simp [Blk.doVmainLow, hm, hr]

theorem doVmainRecover_eq {b : Blk} {a : Nat} (hm : b.monitored = true) (hr : b.pwr.ride = some a) : b.doVmainRecover =
    ((b.onPwr (fun p => { p with ride := none })).raise 0x0021 0 []).reading R.PWR_VMON_VMAIN 1700 65536 := by
  simp [Blk.doVmainRecover, hm, hr]

theorem doVmainHigh_eq {b : Blk} (hm : b.monitored = true) :
    b.doVmainHigh = (b.raise 0x0125 0 []).reading R.PWR_VMON_VMAIN 3301 65536 := if_pos hm

theorem doVbakLow_eq {b : Blk} (hm : b.monitored = true) :
    b.doVbakLow = (b.raise 0x0123 0 []).reading R.PWR_VMON_VBAK 0 2400 := if_pos hm

/-- An event raised before a reading of VMAIN or VBAK is reported, the supply state is as it was, and the reading lies in
its range. -/
theorem raise_reading (b : Blk) (code : Nat) {f : Fld} {lo hi : Nat} (hf : f = R.PWR_VMON_VMAIN ∨ f = R.PWR_VMON_VBAK)
    (h : lo < hi) (hw : hi ≤ 65536) :
    Reported ((b.raise code 0 []).reading f lo hi) code 0 ∧ ((b.raise code 0 []).reading f lo hi).pwr = b.pwr ∧
      lo ≤ ((b.raise code 0 []).reading f lo hi).rd f ∧ ((b.raise code 0 []).reading f lo hi).rd f < hi := by
  have hfld : f.off = R.PWR_VMON_W.off ∧ f.inWord ∧ f.w = 16 := by
    rcases hf with rfl | rfl <;> exact ⟨rfl, Nat.le_of_ble_eq_true rfl, rfl⟩
  obtain ⟨hoff, hin, h16⟩ := hfld
  exact ⟨reported_reading (Blk.raise_self b code 0 []) f lo hi hoff, Blk.raise_pwr b code 0 [],
    reading_bounds _ f hin h (by rw [h16]; exact hw)⟩

/-! The ends of a run: what was powered goes (R525, R526). -/

/-- An orderly shutdown ends with the domains but VAULT removed and V33OUT off. -/
theorem orderly_blk (s : State) (pfail : Bool) : ∃ b : Blk,
    (s.orderly pfail).blk = (b.reduced onlyVault false).onPwr fun p => { p with v33 := false } :=
  ⟨_, rfl⟩

/-- RIDE_EXPIRY, once ride-through has lasted its time: an orderly shutdown with the power failure as its cause, from
which the return of VMAIN starts the module. -/
theorem doRideExpiry_blk {s : State} {a : Nat} (hm : s.blk.monitored = true) (hr : s.blk.pwr.ride = some a)
    (ht : s.blk.pwr.step = 8 → s.blk.rd R.PWR_CFG_RIDE * cycPerMs ≤ a + s.blk.period) : ∃ b : Blk,
    s.doRideExpiry.blk = (((b.reduced onlyVault false).onPwr fun p => { p with v33 := false }).addCause 7).onPwr fun p =>
      { p with vmain := false, auto := true } := by
  have hdue : ¬ (s.blk.monitored = false ∨
      (s.blk.pwr.step = 8 ∧ a + s.blk.period < s.blk.rd R.PWR_CFG_RIDE * cycPerMs)) := by
    rintro (h | ⟨hstep, hlt⟩)
    · simp [hm] at h
    · exact absurd hlt (Nat.not_lt.mpr (ht hstep))
  obtain ⟨b, hb⟩ := orderly_blk { s with blk := s.blk.inc R.PWR_CNT_PFAIL } true
  refine ⟨b, ?_⟩
  simp only [State.doRideExpiry, hr, if_neg hdue, hb]

/-- VMAIN_DROPOUT: the domains but VAULT are removed, and the abrupt loss is a cause where the module ran. -/
theorem doDropout_off {s : State} (hv : s.blk.pwr.vmain = true) :
    s.doDropout.blk.pwr.vmain = false ∧ s.doDropout.blk.pwr.step = 0 ∧ s.doDropout.blk.pwr.v33 = false ∧
    (s.blk.pwr.step ≠ 0 → bitAt s.doDropout.blk.pwr.cause 2 = true) ∧
    ∀ d : Dom, d ≠ .vault → s.doDropout.blk.powered d = false := by
  have hon : ¬ (s.blk.pwr.vmain = false ∧ s.blk.powered .safe = false) := by simp [hv]
  rw [State.doDropout, if_neg hon]
  dsimp only
  split_ifs with hran
  · exact ⟨rfl, rfl, rfl, fun _ => bitAt_lor_self _ 2, fun d hd => reduced_powered _ _ rfl hd⟩
  · exact ⟨rfl, rfl, rfl, fun h => absurd (decide_eq_true h) hran, fun d hd => reduced_powered _ _ rfl hd⟩

/-! V33OUT (R558) and the first failed phase of a regulator (R21, R378). -/

theorem doV33Low_eq {b : Blk} (mv : Nat) (hs : b.powered .safe = true) (hv : b.pwr.v33 = true) :
    b.doV33Low mv = (b.onPwr fun p => { p with v33 := false }).raise 0x0126 0 [Int.ofNat mv] :=
  if_pos ⟨hs, hv⟩

theorem doV33Back_eq {b : Blk} (hs : b.powered .safe = true) : b.doV33Back = b.onPwr fun p => { p with v33 := true } :=
  if_pos hs

/-- The first failed phase of a domain is shown, and the other carries the domain. -/
theorem doPhase_first {b : Blk} {d : Dom} (hp : b.powered d = true) (h2 : twoPhase d = true)
    (hf : b.on (bitOf R.PWR_DOMSTAT_PHF d.bit) = false) : ∃ n, b.doPhase d =
      ((b.flag (bitOf R.PWR_DOMSTAT_PHF d.bit) true).wr R.WARD_SPARE_REGPH n).raise 0x0201 0 [Int.ofNat d.bit] := by
  have hon : ¬ (b.powered d = false ∨ twoPhase d = false) := by simp [hp, h2]
  simp only [Blk.doPhase, if_neg hon, hf]
  exact ⟨_, rfl⟩

theorem doPhase_first_shown {b : Blk} {d : Dom} (hp : b.powered d = true) (h2 : twoPhase d = true)
    (hf : b.on (bitOf R.PWR_DOMSTAT_PHF d.bit) = false) :
    (b.doPhase d).on (bitOf R.PWR_DOMSTAT_PHF d.bit) = true ∧ (b.doPhase d).powered d = true ∧
      Reported (b.doPhase d) 0x0201 0 := by
  obtain ⟨n, hn⟩ := doPhase_first hp h2 hf
  have hunits : SameBut (b.flag (bitOf R.PWR_DOMSTAT_PHF d.bit) true) (b.doPhase d) unitWords := by
    rw [hn]
    exact same_raise (same_wr (same_refl _ _) _ _ (unit_const rfl)) _ _ _ (unit_const rfl)
  have hshown := same_on hunits (bitOf R.PWR_DOMSTAT_PHF d.bit) (by decide : ¬ unitWords R.PWR_DOMSTAT_PHF.off)
  refine ⟨hshown.trans (Blk.on_flag_self b _ true (phfBit_inWord d) rfl), ?_, hn ▸ Blk.raise_self _ _ _ _⟩
  exact (powered_of_units hunits d).trans ((Blk.powered_phf b d d true).trans hp)

/-- Settles O40: each clause follows from the equation of its supply event. -/
theorem supplies : Obligations.Supplies := by
  refine ⟨?low, ?recover, ?expiry, ?dropout, ?high, ?vbak, ?v33low, ?v33back, ?phase⟩
  case low =>
    intro s hm hr
    obtain ⟨hrep, hpwr, -, hlt⟩ := raise_reading ((s.blk.onPwr fun p => { p with ride := some 0 }).inc R.PWR_CNT_RIDE)
      0x0120 (.inl rfl) (by decide : 1200 < 1600) (by decide)
    refine yields_onBlk rfl (doVmainLow_eq hm hr) ⟨congrArg Pwr.ride hpwr, hrep, ?_, hlt⟩
    rw [reading_rd_off _ _ _ _ _ (by decide), Blk.raise_rd _ _ _ _ _ (by decide)]
    exact Blk.rd_inc_self (s.blk.onPwr _) R.PWR_CNT_RIDE (Nat.le_of_ble_eq_true rfl)
  case recover =>
    intro s a hm hr
    obtain ⟨hrep, hpwr, hge, -⟩ := raise_reading (s.blk.onPwr fun p => { p with ride := none }) 0x0021 (.inl rfl)
      (by decide : 1700 < 65536) (by decide)
    exact yields_onBlk rfl (doVmainRecover_eq hm hr) ⟨congrArg Pwr.ride hpwr, hrep, hge⟩
  case expiry =>
    intro s a hm hr ht
    obtain ⟨b, hb⟩ := doRideExpiry_blk hm hr ht
    refine ⟨_, rfl, ?_⟩
    dsimp only
    rw [hb]
    exact ⟨rfl, rfl, rfl, rfl, bitAt_lor_self _ 7, fun d hd => reduced_powered b false rfl hd⟩
  case dropout =>
    intro s hv
    exact ⟨_, rfl, doDropout_off hv⟩
  case high =>
    intro s hm
    obtain ⟨hrep, hpwr, hge, -⟩ := raise_reading s.blk 0x0125 (.inl rfl) (by decide : 3301 < 65536) (by decide)
    exact yields_onBlk rfl (doVmainHigh_eq hm) ⟨hrep, hge, hpwr⟩
  case vbak =>
    intro s hm
    obtain ⟨hrep, hpwr, -, hlt⟩ := raise_reading s.blk 0x0123 (.inr rfl) (by decide : 0 < 2400) (by decide)
    exact yields_onBlk rfl (doVbakLow_eq hm) ⟨hrep, hlt, hpwr⟩
  case v33low =>
    intro s mv hs hv
    exact yields_onBlk rfl (doV33Low_eq mv hs hv) ⟨congrArg Pwr.v33 (Blk.raise_pwr _ _ _ _), Blk.raise_self _ _ _ _⟩
  case v33back =>
    intro s hs
    exact yields_onBlk rfl (doV33Back_eq hs) ⟨rfl, rfl, rfl⟩
  case phase =>
    intro s d hp h2 hf
    exact yields_onBlk rfl rfl (doPhase_first_shown hp h2 hf)

end Sys2Proof.Machine
end

section
/-! SUPPORT. A command's meaning where its domains are powered, and while the frame runs. -/

namespace Sys2Proof.Machine

/-- A command that runs where its domains are powered yields what holds of the block updated. -/
theorem yields_within {c : Instr} {s : State} {d : Dom} {f : Blk → Blk} {P : State → Prop}
    (he : exec c s = .next (s.within [d] f)) (hd : s.blk.powered d = true) (hP : P { s with blk := f s.blk }) :
    Yields c s P := by
  refine yields_onBlk he (if_pos ?_) hP
  simp [hd]

/-- A command that leaves the block yields the state as it was, powered or not. -/
theorem yields_within_same {c : Instr} {s : State} {d : Dom} {f : Blk → Blk}
    (he : exec c s = .next (s.within [d] f)) (hf : f s.blk = s.blk) : Yields c s fun t => t = s :=
  yields_onBlk he ((ite_congr rfl (fun _ => hf) fun _ => rfl).trans (ite_self _)) rfl

/-- A command whose meaning belongs to the frame yields what holds of the block updated, while the frame runs. -/
theorem yields_inFrame {c : Instr} {s : State} {f : Blk → Blk} {P : State → Prop}
    (he : exec c s = .next (s.onBlk fun b => b.inFrame f)) (h8 : s.blk.pwr.step = 8) (hr : s.blk.clk.stop = false)
    (hP : P { s with blk := f s.blk }) : Yields c s P :=
  yields_onBlk he (if_pos ⟨h8, hr⟩) hP

theorem yields_notInFrame {c : Instr} {s : State} {f : Blk → Blk}
    (he : exec c s = .next (s.onBlk fun b => b.inFrame f)) (h : s.blk.pwr.step ≠ 8 ∨ s.blk.clk.stop = true) :
    Yields c s fun t => t = s := by
  refine yields_onBlk he (if_neg ?_) rfl
  rintro ⟨h8, hr⟩
  simp [h8, hr] at h

theorem yields_inFrame_either {c : Instr} {s : State} {f : Blk → Blk} {P : State → Prop}
    (he : exec c s = .next (s.onBlk fun b => b.inFrame f)) (hP : P { s with blk := f s.blk }) (hs : P s) :
    Yields c s P := by
  by_cases h : s.blk.pwr.step = 8 ∧ s.blk.clk.stop = false
  · exact yields_inFrame he h.1 h.2 hP
  · exact yields_onBlk he (if_neg h) hs

theorem fn_of_units {b c : Blk} (h : SameBut b c unitWords) : c.fn = b.fn := by
  unfold Blk.fn
  rw [same_rd h _ (by decide), same_rd h _ (by decide)]

/-- What a failing word writes. -/
theorem wardFail_same (b : Blk) (cls key : Nat) : SameBut b (b.wardFail cls key) fun a =>
    a = (R.WARD_CNT_COUNT cls).off ∨ a = R.WARD_LAST_KEY.off ∨ a = R.HIF_EVDROP_COUNT.off := by
  have hcount : SameBut b (((b.inc (R.WARD_CNT_COUNT cls)).wr R.WARD_LAST_KEY key).wr R.WARD_LAST_FN b.fn) fun a =>
      a = (R.WARD_CNT_COUNT cls).off ∨ a = R.WARD_LAST_KEY.off ∨ a = R.HIF_EVDROP_COUNT.off :=
    same_wr (same_wr (same_inc (same_refl b _) _ (.inl rfl)) _ _ (.inr (.inl rfl))) _ _ (.inr (.inl rfl))
  exact same_ite (fun _ => same_raiseLim hcount _ _ _ _ (.inr (.inr rfl))) fun _ => hcount

end Sys2Proof.Machine
end

section
/-! PROOFS. What a step runs. -/

namespace Sys2Proof.Machine

/-- No table word spells a command, and a fetch of one leaves the queue. -/
theorem tableWord_spells_none (s : State) (nbits w : Nat) :
    decodeTableWord nbits w = none ∧ s.withFetchWord nbits w = s := ⟨rfl, rfl⟩

/-- Settles O57: the two cases of a step, on the queue's front and on an empty queue. -/
theorem stepRunsFront : Obligations.StepRunsFront :=
  ⟨fun _ _ _ => step_front rfl, fun _ => step_idle, tableWord_spells_none⟩

end Sys2Proof.Machine
end

section
/-! PROOFS. Descriptors fetched and completions written (R411 to R418). -/

namespace Sys2Proof.Machine

section
variable (b : Blk)

/-! A ring's index. -/

theorem onHost_rings_self : (b.onHost fun x => { x with rings := b.host.rings }) = b := rfl

/-- A register written and the rings' state changed leave the descriptors, what waits, the events and what has left. -/
theorem wr_rings_kept (f : Fld) (v : Nat) (rings : List RingSt) :
    ((b.wr f v).onHost fun x => { x with rings := rings }).host.slots = b.host.slots ∧
    ((b.wr f v).onHost fun x => { x with rings := rings }).host.wait = b.host.wait ∧
    ((b.wr f v).onHost fun x => { x with rings := rings }).evs = b.evs ∧
    ((b.wr f v).onHost fun x => { x with rings := rings }).out = b.out ∧
    ((b.wr f v).onHost fun x => { x with rings := rings }).tick = b.tick := ⟨rfl, rfl, rfl, rfl, rfl⟩

/-- Advancing a ring's index writes the index and the ring's phase bit. -/
theorem advance1_eq (q : Nat) : ∃ v rings,
    b.advance1 q = (b.wr (R.RING_IDX_MOD q) v).onHost fun x => { x with rings := rings } := by
  unfold Blk.advance1
  dsimp only
  split_ifs
  · exact ⟨_, _, rfl⟩
  · exact ⟨_, _, (onHost_rings_self _).symm⟩

theorem advance1_units (q : Nat) : SameBut b (b.advance1 q) unitWords := by
  obtain ⟨v, rings, h⟩ := advance1_eq b q
  rw [h]
  exact same_onHost (same_wr (same_refl b _) _ _ unit_at) _

/-- Advancing a ring's index leaves the descriptors, what waits, the events and what has left the module. -/
theorem advance1_kept (q : Nat) : (b.advance1 q).host.slots = b.host.slots ∧ (b.advance1 q).host.wait = b.host.wait ∧
    (b.advance1 q).evs = b.evs ∧ (b.advance1 q).out = b.out ∧ (b.advance1 q).tick = b.tick := by
  obtain ⟨v, rings, h⟩ := advance1_eq b q
  rw [h]
  exact wr_rings_kept b _ v rings

theorem advance1_frameLen (q : Nat) : (b.advance1 q).frameLen = b.frameLen := by
  obtain ⟨-, -, -, -, htick⟩ := advance1_kept b q
  have hperiod : (b.advance1 q).period = b.period := same_rd (advance1_units b q) R.TICK_PERIOD_PERIOD (by decide)
  rw [Blk.frameLen, Blk.frameLen, hperiod, htick]

theorem wrote_kept (q : Nat) (silent : Bool) : (b.wrote q silent).host.slots = b.host.slots ∧
    (b.wrote q silent).evs = b.evs ∧ (b.wrote q silent).out = b.out := by
  obtain ⟨hslots, -, hevs, hout, -⟩ := advance1_kept b q
  unfold Blk.wrote
  dsimp only
  split_ifs <;> exact ⟨hslots, hevs, hout⟩

/-- A ring halts for a cause and says so. -/
theorem haltRing_halts (q cause : Nat) (hc : cause < 256) : (b.haltRing q cause).rd (R.RING_STAT_STATE q) = 2 ∧
    (b.haltRing q cause).rd (R.RING_STAT_CAUSE q) = cause ∧ Reported (b.haltRing q cause) 0x2103 q ∧
    (b.haltRing q cause).host.wait = b.host.wait := by
  have hstat : (0x4110 + 0x20 * q) ≠ R.HIF_EVDROP_COUNT.off := by
    simp only [R.HIF_EVDROP_COUNT]
    omega
  have hstate : ((b.wr (R.RING_STAT_STATE q) 2).wr (R.RING_STAT_CAUSE q) cause).rd (R.RING_STAT_STATE q) = 2 := by
    rw [Blk.rd_wr_apart _ _ _ _ (by simp [Fld.inWord, R.RING_STAT_CAUSE])
      (.inr (by simp [R.RING_STAT_STATE, R.RING_STAT_CAUSE])),
      Blk.rd_wr_self _ _ _ (by simp [Fld.inWord, R.RING_STAT_STATE])]
    rfl
  have hcause : ((b.wr (R.RING_STAT_STATE q) 2).wr (R.RING_STAT_CAUSE q) cause).rd (R.RING_STAT_CAUSE q) = cause :=
    (Blk.rd_wr_self _ _ _ (by simp [Fld.inWord, R.RING_STAT_CAUSE])).trans (Nat.mod_eq_of_lt hc)
  unfold Blk.haltRing
  dsimp only
  refine ⟨(Blk.raise_rd _ _ _ _ _ hstat).trans hstate, (Blk.raise_rd _ _ _ _ _ hstat).trans hcause,
    Blk.raise_self _ _ _ _, ?_⟩
  rw [Blk.raise_host]
  rfl

/-! One descriptor. -/

theorem doFetch_one (r : Fin 4) (d : List Byte) (cyc : Nat) : b.doFetch r [d] cyc false = b.fetchOne r cyc d := rfl

/-- The block once the ring's index has passed the descriptor and the ring's list holds it, with its status if that is
decided. -/
def Blk.fetched (b : Blk) (r : Fin 4) (d : List Byte) (res : Option (Nat × Nat × Nat)) : Blk :=
  (b.advance1 r).onHost fun x => { x with slots := x.slots.modify r.val fun l =>
    l ++ [⟨(BitVec.ofNat 16 (leAt d 2 2)).toNat, byteAt d 0, (b.advance1 r).rd (R.RING_IDX_MOD r),
      bitAt (byteAt d 1) 0, res⟩] }

theorem fetched_wait (r : Fin 4) (d : List Byte) (res : Option (Nat × Nat × Nat)) :
    (b.fetched r d res).host.wait = b.host.wait := by
  obtain ⟨-, hwait, -⟩ := advance1_kept b r
  exact hwait

theorem fetched_slot (r : Fin 4) (d : List Byte) (res : Option (Nat × Nat × Nat)) {l : List Slot}
    (hl : (b.fetched r d res).host.slots[r.val]? = some l) :
    ∃ x ∈ l, x.tag = leAt d 2 2 % 65536 ∧ x.op = byteAt d 0 ∧ x.res = res := by
  simp only [Blk.fetched, Blk.onHost, List.getElem?_modify, if_true] at hl
  obtain ⟨l', -, rfl⟩ := Option.map_eq_some_iff.mp hl
  exact ⟨_, List.mem_append_right _ (List.mem_singleton_self _), BitVec.toNat_ofNat _ _, rfl, rfl⟩

variable {b}

/-- A descriptor that passes checks 1 to 3 waits for its tick. -/
theorem fetchOne_waits {r : Fin 4} {cyc : Nat} {d : List Byte} (hm : b.mayFetch r = true) (hd : descStatus d = none) :
    (b.fetchOne r cyc d).host.wait = b.host.wait ++ [⟨r, if cyc + 2048 ≤ b.frameLen then 1 else 2,
      descCmd ⟨r, BitVec.ofNat 16 (leAt d 2 2), bitAt (byteAt d 1) 0⟩ d
        (Config.freeNat (b.advance1 r).freeCtr % 2 == 1), false⟩] := by
  rw [← fetched_wait b r d none, ← advance1_frameLen b r]
  unfold Blk.fetchOne
  simp only [hm, hd, Bool.true_eq_false, if_false]
  rfl

/-- A descriptor that fails one of checks 1 to 3 has its status; status 4 is reported. -/
theorem fetchOne_decided {r : Fin 4} (cyc : Nat) {st : Nat} {d : List Byte} (hm : b.mayFetch r = true)
    (hd : descStatus d = some st) : b.fetchOne r cyc d =
      if st = 4 then (b.fetched r d (some (st, b.fn, 0))).raise 0xB105 r [Int.ofNat r.val]
      else b.fetched r d (some (st, b.fn, 0)) := by
  rw [← fn_of_units (advance1_units b r)]
  unfold Blk.fetchOne
  simp only [hm, hd, Bool.true_eq_false, if_false]
  rfl

theorem fetchOne_decided_host {r : Fin 4} (cyc : Nat) {st : Nat} {d : List Byte} (hm : b.mayFetch r = true)
    (hd : descStatus d = some st) : (b.fetchOne r cyc d).host = (b.fetched r d (some (st, b.fn, 0))).host := by
  rw [fetchOne_decided cyc hm hd]
  split_ifs
  · exact Blk.raise_host _ _ _ _
  · rfl

/-! One completion. -/

theorem writeBack_clean (r : Nat) (e : List Byte) : b.writeBack r ⟨[], []⟩ e = (false, b) := rfl

/-- The oldest descriptor of a ring, decided, goes to the completion ring, and the ring's list goes on with the rest. -/
theorem doCompletion_writes {r : Nat} {x : Slot} {l : List Slot} {st fn d : Nat} (hs : b.host.slots.getD r [] = x :: l)
    (hres : x.res = some (st, fn, d)) (hspace : b.ringSpace (4 + r) ≠ 0) : b.doCompletion r ⟨[], []⟩ false =
      ((b.send (.completion r x.tag x.op st fn (if st = 7 then 0 else d) x.idx (b.phase (4 + r)))).onHost fun y =>
        { y with slots := y.slots.set r l }).wrote (4 + r) x.silent := by
  unfold Blk.doCompletion
  simp only [hs, hres, hspace, writeBack_clean, if_false, Bool.false_eq_true]

/-- A ring whose oldest descriptor is not decided, or whose completion ring is full, stays as it is. -/
theorem doCompletion_stays {r : Nat} {x : Slot} {l : List Slot} (tag : TagCheck) (hs : b.host.slots.getD r [] = x :: l)
    (h : x.res = none ∨ b.ringSpace (4 + r) = 0) : b.doCompletion r tag false = b := by
  unfold Blk.doCompletion
  dsimp only
  rw [hs]
  dsimp only
  cases hres : x.res with
  | none => rfl
  | some y => exact if_pos (h.resolve_left (by simp [hres]))

theorem set_getD_of_cons {α : Type} {ls : List (List α)} {r : Nat} {x : α} {l : List α} (h : ls.getD r [] = x :: l) :
    (ls.set r l).getD r [] = l := by
  have hr : r < ls.length := by
    by_contra hr
    rw [List.getD_eq_default _ _ (Nat.le_of_not_lt hr)] at h
    exact List.cons_ne_nil _ _ h.symm
  simp [List.getD_eq_getElem?_getD, hr]

end

/-- Settles O27, by the equation of one fetched descriptor and of one completion. -/
theorem descriptorsAndCompletions : Obligations.DescriptorsAndCompletions := by
  unfold Obligations.DescriptorsAndCompletions
  refine ⟨?waits, ?decided, ?dma, ?writes, ?stays⟩
  case waits => exact fun s r d cyc hp hm hd => yields_within rfl hp ⟨_, fetchOne_waits hm hd⟩
  case decided =>
    intro s r d cyc st hp hm hd
    refine yields_within rfl hp ⟨?wait, fun l hl => ?slot, fun hst => ?report⟩
    case wait => exact (congrArg HostIf.wait (fetchOne_decided_host cyc hm hd)).trans (fetched_wait _ _ _ _)
    case slot =>
      refine fetched_slot s.blk r d _ ?_
      rw [← fetchOne_decided_host cyc hm hd]
      exact hl
    case report =>
      dsimp only
      rw [doFetch_one, fetchOne_decided cyc hm hd, if_pos hst]
      exact Blk.raise_self _ _ _ _
  case dma =>
    intro s r l cyc hp hr
    have hhalt : s.blk.doFetch r l cyc true = s.blk.haltRing r 2 := by
      unfold Blk.doFetch
      rw [if_pos rfl, if_pos hr]
    refine yields_within rfl hp ?_
    dsimp only
    rw [hhalt]
    exact haltRing_halts s.blk r 2 (by decide)
  case writes =>
    intro s r x l st fn d hp hs hres hspace
    refine yields_within rfl hp ?_
    dsimp only
    rw [doCompletion_writes hs hres hspace]
    obtain ⟨hslots, hevs, hout⟩ := wrote_kept ((s.blk.send (.completion r x.tag x.op st fn (if st = 7 then 0 else d)
      x.idx (s.blk.phase (4 + r)))).onHost fun y => { y with slots := y.slots.set r l }) (4 + r) x.silent
    rw [hslots, hevs, hout]
    exact ⟨rfl, set_getD_of_cons hs, rfl⟩
  case stays => exact fun s r tag x l _ hs h => yields_within_same rfl (doCompletion_stays tag hs h)

end Sys2Proof.Machine
end

section
/-! SUPPORT. What the frame's work leaves. -/

namespace Sys2Proof.Machine

section
variable (b : Blk)

/-! Which sources the internal queue names under event 0x1301. -/

/-- An event's code and source. -/
def Event.key (e : Event) : Nat × Nat := (e.code, e.src)

/-- The sources of which the internal queue holds event 0x1301 (R56). -/
def Blk.told (b : Blk) (src : Nat) : Prop := (0x1301, src) ∈ b.evs.high.map Event.key

theorem reported_iff_told (src : Nat) : Reported b 0x1301 src ↔ b.told src := by
  unfold Reported Blk.told
  rw [if_pos (by decide), List.mem_map]
  simp only [Event.key, Prod.mk.injEq]

/-- Queueing an event names at most its own code and source anew. -/
theorem queueEvent_keys (e : Event) : (b.queueEvent e).evs.high.map Event.key = b.evs.high.map Event.key ∨
    (b.queueEvent e).evs.high.map Event.key = b.evs.high.map Event.key ++ [e.key] := by
  have hcount : ∀ x : Event, (if x.code = e.code ∧ x.src = e.src then
      { x with cnt := min (x.cnt + 1) 65535, coal := true } else x).key = x.key := fun x => by
    split_ifs
    · rfl
    · rfl
  unfold Blk.queueEvent
  split_ifs
  · exact .inl ((List.map_map).trans (List.map_congr_left fun x _ => hcount x))
  · exact .inr List.map_append
  · exact .inl rfl
  · exact .inl rfl
  · exact .inl (by rw [Blk.queueLow_high, Blk.noteDrops_high])

theorem queueEvent_told {e : Event} (h : e.code ≠ 0x1301) : (b.queueEvent e).told = b.told := by
  funext src
  unfold Blk.told
  rcases queueEvent_keys b e with hk | hk
  · rw [hk]
  · rw [hk, List.mem_append, List.mem_singleton, or_iff_left]
    exact fun he => h (Prod.mk.inj he).1.symm

theorem strataEvent_told (code fn : Nat) : (b.strataEvent code fn).told = b.told := by
  unfold Blk.strataEvent
  dsimp only
  split_ifs
  · exact queueEvent_told _ (by decide : (0xF107 : Nat) ≠ 0x1301)
  · rfl

/-- Another event names none of them. -/
theorem raise_told {code : Nat} (src : Nat) (i : List Int) (h : code ≠ 0x1301) : (b.raise code src i).told = b.told :=
  (queueEvent_told _ h).trans (strataEvent_told b code b.fn)

end

/-! Each operation of a frame leaves a part of the block. The lemmas are equations for `simp`, one per operation, named
after the part; those of the state's own updates are proved by `(rfl)`, so that `simp` rewrites with them and does not
unfold the update. -/

/-- What most operations of a frame leave: Ward, the payloads that Slalu has latched, and which channels have
overrun. -/
def Blk.aside (b : Blk) : Ward × List (List Byte) × List Bool :=
  (b.ward, b.sll.lat, b.le.chans.map (·.overran))

section
variable (b : Blk)

@[simp] theorem Blk.wr_aside (f : Fld) (v : Nat) : (b.wr f v).aside = b.aside := (rfl)
@[simp] theorem Blk.flag_aside (f : Fld) (v : Bool) : (b.flag f v).aside = b.aside := (rfl)
@[simp] theorem Blk.wrS_aside (f : Fld) (v : Int) : (b.wrS f v).aside = b.aside := (rfl)
@[simp] theorem Blk.wrSat_aside (f : Fld) (v : Nat) : (b.wrSat f v).aside = b.aside := (rfl)
@[simp] theorem Blk.add_aside (f : Fld) (v : Nat) : (b.add f v).aside = b.aside := (rfl)
@[simp] theorem Blk.inc_aside (f : Fld) : (b.inc f).aside = b.aside := (rfl)
@[simp] theorem Blk.onDrv_aside (n : Nat) (f : Drive → Drive) : (b.onDrv n f).aside = b.aside := (rfl)
@[simp] theorem Blk.onSeq_aside (n : Nat) (f : Seq → Seq) : (b.onSeq n f).aside = b.aside := (rfl)
@[simp] theorem Blk.onDc_aside (n : Nat) (f : DcLink → DcLink) : (b.onDc n f).aside = b.aside := (rfl)
@[simp] theorem Blk.onStp_aside (n : Nat) (f : Stepper → Stepper) : (b.onStp n f).aside = b.aside := (rfl)
@[simp] theorem Blk.onAxis_aside (n : Nat) (f : Axis → Axis) : (b.onAxis n f).aside = b.aside := (rfl)
@[simp] theorem Blk.onPort_aside (n : Nat) (f : Port → Port) : (b.onPort n f).aside = b.aside := (rfl)
@[simp] theorem Blk.onTun_aside (n : Nat) (f : Tuner → Tuner) : (b.onTun n f).aside = b.aside := (rfl)
@[simp] theorem Blk.onGrp_aside (n : Nat) (f : ShrGrp → ShrGrp) : (b.onGrp n f).aside = b.aside := (rfl)
@[simp] theorem Blk.onSto_aside (n : Nat) (f : Sto → Sto) : (b.onSto n f).aside = b.aside := (rfl)
@[simp] theorem Blk.onHch_aside (n : Nat) (f : HaspCh → HaspCh) : (b.onHch n f).aside = b.aside := (rfl)
@[simp] theorem Blk.onHasp_aside (f : Hasp → Hasp) : (b.onHasp f).aside = b.aside := (rfl)
@[simp] theorem Blk.onAfe_aside (f : Afe → Afe) : (b.onAfe f).aside = b.aside := (rfl)
@[simp] theorem Blk.onHost_aside (f : HostIf → HostIf) : (b.onHost f).aside = b.aside := (rfl)
@[simp] theorem Blk.onMir_aside (f : Mir → Mir) : (b.onMir f).aside = b.aside := (rfl)
@[simp] theorem Blk.onThm_aside (f : Thm → Thm) : (b.onThm f).aside = b.aside := (rfl)
@[simp] theorem Blk.onLode_aside (f : Lode → Lode) : (b.onLode f).aside = b.aside := (rfl)
@[simp] theorem Blk.onCan_aside (n : Nat) (f : Can → Can) : (b.onCan n f).aside = b.aside := (rfl)
@[simp] theorem Blk.complete_aside (h : Hdr) (op st d : Nat) : (b.complete h op st d).aside = b.aside := (rfl)
@[simp] theorem Blk.raise_aside (c n : Nat) (i : List Int) : (b.raise c n i).aside = b.aside := by
  simp [Blk.aside]

@[simp] theorem Blk.onSll_aside (f : Sll → Sll) (h : ∀ x, (f x).lat = x.lat) : (b.onSll f).aside = b.aside := by
  simp [Blk.aside, h]

@[simp] theorem Blk.onLe_aside (f : Le → Le) (h : ∀ x, (f x).chans = x.chans) : (b.onLe f).aside = b.aside := by
  simp [Blk.aside, h]

theorem map_modify_of_eq {α β : Type} (l : List α) (n : Nat) (f : α → α) (g : α → β) (h : ∀ x, g (f x) = g x) :
    (l.modify n f).map g = l.map g := by
  refine List.ext_getElem? fun i => ?_
  rw [List.getElem?_map, List.getElem?_map, List.getElem?_modify]
  split_ifs
  · cases l[i]? <;> simp [h]
  · simp

@[simp] theorem Blk.onChan_aside (c : Nat) (f : Chan → Chan) (h : ∀ x, (f x).overran = x.overran) :
    (b.onChan c f).aside = b.aside := by
  simp [Blk.aside, map_modify_of_eq _ _ _ _ h]

@[simp] theorem aside_ite (p : Prop) [Decidable p] (x y : Blk) :
    (if p then x else y).aside = if p then x.aside else y.aside := apply_ite Blk.aside p x y

theorem foldl_aside {α : Type} (l : List α) (f : Blk → α → Blk) (h : ∀ b x, (f b x).aside = b.aside) :
    (l.foldl f b).aside = b.aside := by
  induction l generalizing b with
  | nil => rfl
  | cons x l ih => exact (ih (f b x)).trans (h b x)

@[simp] theorem Blk.each_aside (n : Nat) (f : Nat → Blk → Blk) (h : ∀ i b, (f i b).aside = b.aside) :
    (b.each n f).aside = b.aside := foldl_aside b _ _ fun b i => h i b

@[simp] theorem Blk.eachOf_aside (l : List Nat) (f : Nat → Blk → Blk) (h : ∀ i b, (f i b).aside = b.aside) :
    (b.eachOf l f).aside = b.aside := foldl_aside b _ _ fun b i => h i b

@[simp] theorem Blk.when_aside (c : Bool) (f : Blk → Blk) (h : ∀ b, (f b).aside = b.aside) :
    (b.when c f).aside = b.aside := by simp [Blk.when, h]

@[simp] theorem Blk.degrade_aside (cls : Nat) (chs : List Nat) (outer : Bool) :
    (b.degrade cls chs outer).aside = b.aside := (rfl)
@[simp] theorem Blk.undegrade_aside (cls c : Nat) : (b.undegrade cls c).aside = b.aside := (rfl)
@[simp] theorem Blk.ov3Line_aside (n : Nat) (on : Bool) : (b.ov3Line n on).aside = b.aside := (rfl)
@[simp] theorem Blk.dropMirror_aside (n : Nat) : (b.dropMirror n).aside = b.aside := by
  unfold Blk.dropMirror
  split
  · rfl
  · rfl

end

end Sys2Proof.Machine
end

section
/-! SUPPORT. What the gates and the requests at OUTPUT_PHASE leave. -/

namespace Sys2Proof.Machine

section
variable (b : Blk)

/-- What the gates and the requests at OUTPUT_PHASE leave: Ward, Slalu, the loop engines, the words in the steppers'
shadow registers, the channels that event 0x1301 names, and Hasp's state. -/
def Blk.calm (b : Blk) : (Ward × Sll × Le × List (Int × Int) × (Nat → Prop)) × Nat :=
  ((b.ward, b.sll, b.le, b.stps.map fun s => (s.shA, s.shB), b.told), b.rd R.HASP_STAT_HSTATE)

@[simp] theorem Blk.wr_calm (f : Fld) (v : Nat) (h : R.HASP_STAT_HSTATE.off ≠ f.off) : (b.wr f v).calm = b.calm :=
  Prod.ext (by rfl) (Blk.rd_wr_off b f _ v h)
@[simp] theorem Blk.flag_calm (f : Fld) (v : Bool) (h : R.HASP_STAT_HSTATE.off ≠ f.off) : (b.flag f v).calm = b.calm :=
  b.wr_calm f _ h
@[simp] theorem Blk.wrS_calm (f : Fld) (v : Int) (h : R.HASP_STAT_HSTATE.off ≠ f.off) : (b.wrS f v).calm = b.calm :=
  b.wr_calm f _ h
@[simp] theorem Blk.wrSat_calm (f : Fld) (v : Nat) (h : R.HASP_STAT_HSTATE.off ≠ f.off) : (b.wrSat f v).calm = b.calm :=
  b.wr_calm f _ h
@[simp] theorem Blk.inc_calm (f : Fld) (h : R.HASP_STAT_HSTATE.off ≠ f.off) : (b.inc f).calm = b.calm := b.wr_calm f _ h
@[simp] theorem Blk.onDrv_calm (n : Nat) (f : Drive → Drive) : (b.onDrv n f).calm = b.calm := (rfl)
@[simp] theorem Blk.onSeq_calm (n : Nat) (f : Seq → Seq) : (b.onSeq n f).calm = b.calm := (rfl)
@[simp] theorem Blk.onDc_calm (n : Nat) (f : DcLink → DcLink) : (b.onDc n f).calm = b.calm := (rfl)
@[simp] theorem Blk.onAxis_calm (n : Nat) (f : Axis → Axis) : (b.onAxis n f).calm = b.calm := (rfl)
@[simp] theorem Blk.onTun_calm (n : Nat) (f : Tuner → Tuner) : (b.onTun n f).calm = b.calm := (rfl)
@[simp] theorem Blk.onSto_calm (n : Nat) (f : Sto → Sto) : (b.onSto n f).calm = b.calm := (rfl)
@[simp] theorem Blk.onHch_calm (n : Nat) (f : HaspCh → HaspCh) : (b.onHch n f).calm = b.calm := (rfl)
@[simp] theorem Blk.onAfe_calm (f : Afe → Afe) : (b.onAfe f).calm = b.calm := (rfl)
@[simp] theorem Blk.onHost_calm (f : HostIf → HostIf) : (b.onHost f).calm = b.calm := (rfl)
@[simp] theorem Blk.ntcHold_calm : b.ntcHold.calm = b.calm := (rfl)
@[simp] theorem Blk.complete_calm (h : Hdr) (op st d : Nat) : (b.complete h op st d).calm = b.calm := (rfl)
@[simp] theorem Blk.raise_calm (c n : Nat) (i : List Int) (h : c ≠ 0x1301) : (b.raise c n i).calm = b.calm := by
  rw [Blk.calm, Blk.raise_rd _ _ _ _ _ (by decide), raise_told b n i h]
  simp [Blk.calm]

@[simp] theorem Blk.onStp_calm (n : Nat) (f : Stepper → Stepper) (h : ∀ x, ((f x).shA, (f x).shB) = (x.shA, x.shB)) :
    (b.onStp n f).calm = b.calm := by
  have hstps : (b.onStp n f).stps.map (fun s => (s.shA, s.shB)) = b.stps.map fun s => (s.shA, s.shB) :=
    map_modify_of_eq b.stps n f (fun s => (s.shA, s.shB)) h
  rw [Blk.calm, hstps]
  rfl

@[simp] theorem calm_ite (p : Prop) [Decidable p] (x y : Blk) :
    (if p then x else y).calm = if p then x.calm else y.calm := apply_ite Blk.calm p x y

theorem foldl_calm {α : Type} (l : List α) (f : Blk → α → Blk) (h : ∀ b x, (f b x).calm = b.calm) :
    (l.foldl f b).calm = b.calm := by
  induction l generalizing b with
  | nil => rfl
  | cons x l ih => exact (ih (f b x)).trans (h b x)

@[simp] theorem Blk.each_calm (n : Nat) (f : Nat → Blk → Blk) (h : ∀ i b, (f i b).calm = b.calm) :
    (b.each n f).calm = b.calm := foldl_calm b _ _ fun b i => h i b

@[simp] theorem Blk.eachOf_calm (l : List Nat) (f : Nat → Blk → Blk) (h : ∀ i b, (f i b).calm = b.calm) :
    (b.eachOf l f).calm = b.calm := foldl_calm b _ _ fun b i => h i b

/-! The state of Hasp stands apart from the words that these operations write. -/

@[simp] theorem driveFields_off (n : Nat) :
    R.HASP_STAT_HSTATE.off ≠ (R.Dn_CSTAT_HOBL n).off ∧ R.HASP_STAT_HSTATE.off ≠ (R.Dn_CSTAT_SECTOR n).off ∧
    R.HASP_STAT_HSTATE.off ≠ (R.Dn_CSTAT_SYNC n).off ∧ R.HASP_STAT_HSTATE.off ≠ (R.Dn_DCSTAT_BRK n).off ∧
    R.HASP_STAT_HSTATE.off ≠ (R.Dn_PINS_ACTV n).off ∧ R.HASP_STAT_HSTATE.off ≠ (R.Dn_PINS_DRV n).off ∧
    R.HASP_STAT_HSTATE.off ≠ (R.Dn_SSTAT_SSTATE n).off ∧ R.HASP_STAT_HSTATE.off ≠ (R.Dn_STAT_HASP_EN n).off ∧
    R.HASP_STAT_HSTATE.off ≠ (R.Dn_STAT_OWN n).off ∧ R.HASP_STAT_HSTATE.off ≠ (R.Dn_STAT_PSTATE n).off ∧
    R.HASP_STAT_HSTATE.off ≠ (R.Dn_STAT_TRIP n).off ∧ R.HASP_STAT_HSTATE.off ≠ (R.Dn_STAT_TSRC n).off ∧
    R.HASP_STAT_HSTATE.off ≠ (R.Dn_TRIPCNT_TRIPS n).off := by
  simp only [R.HASP_STAT_HSTATE, R.Dn_CSTAT_HOBL, R.Dn_CSTAT_SECTOR, R.Dn_CSTAT_SYNC, R.Dn_DCSTAT_BRK, R.Dn_PINS_ACTV,
    R.Dn_PINS_DRV, R.Dn_SSTAT_SSTATE, R.Dn_STAT_HASP_EN, R.Dn_STAT_OWN, R.Dn_STAT_PSTATE, R.Dn_STAT_TRIP,
    R.Dn_STAT_TSRC, R.Dn_TRIPCNT_TRIPS]
  omega

@[simp] theorem stepperFields_off (n : Nat) :
    R.HASP_STAT_HSTATE.off ≠ (R.Sn_STAT_HASP_EN n).off ∧ R.HASP_STAT_HSTATE.off ≠ (R.Sn_STAT_OWN n).off ∧
    R.HASP_STAT_HSTATE.off ≠ (R.Sn_STAT_PUNC n).off ∧ R.HASP_STAT_HSTATE.off ≠ (R.Sn_STAT_SSTATE n).off := by
  simp only [R.HASP_STAT_HSTATE, R.Sn_STAT_HASP_EN, R.Sn_STAT_OWN, R.Sn_STAT_PUNC, R.Sn_STAT_SSTATE]
  omega

@[simp] theorem stoFields_off (n : Nat) :
    R.HASP_STAT_HSTATE.off ≠ (R.HASP_STOSTAT_DEM n).off ∧ R.HASP_STAT_HSTATE.off ≠ (R.HASP_STOSTAT_DSRC n).off ∧
    R.HASP_STAT_HSTATE.off ≠ (R.HASP_STOSTAT_SS1 n).off ∧ R.HASP_STAT_HSTATE.off ≠ (R.HASP_STOSTAT_STATE n).off ∧
    R.HASP_STAT_HSTATE.off ≠ (R.HASP_TPCNT_ABAND n).off := by
  simp only [R.HASP_STAT_HSTATE, R.HASP_STOSTAT_DEM, R.HASP_STOSTAT_DSRC, R.HASP_STOSTAT_SS1, R.HASP_STOSTAT_STATE,
    R.HASP_TPCNT_ABAND]
  omega

@[simp] theorem axisFields_off (n : Nat) :
    R.HASP_STAT_HSTATE.off ≠ (R.MPG_AREF_A n).off ∧ R.HASP_STAT_HSTATE.off ≠ (R.MPG_PREF_PINT n).off ∧
    R.HASP_STAT_HSTATE.off ≠ (R.MPG_REM_REM n).off ∧ R.HASP_STAT_HSTATE.off ≠ (R.MPG_STAT_DONE n).off ∧
    R.HASP_STAT_HSTATE.off ≠ (R.MPG_STAT_QLEN n).off ∧ R.HASP_STAT_HSTATE.off ≠ (R.MPG_STAT_STATE n).off ∧
    R.HASP_STAT_HSTATE.off ≠ (R.MPG_VREF_V n).off := by
  simp only [R.HASP_STAT_HSTATE, R.MPG_AREF_A, R.MPG_PREF_PINT, R.MPG_REM_REM, R.MPG_STAT_DONE, R.MPG_STAT_QLEN,
    R.MPG_STAT_STATE, R.MPG_VREF_V]
  omega

@[simp] theorem unitFields_off (n : Nat) :
    R.HASP_STAT_HSTATE.off ≠ (R.LE_CAPSTAT_CAP n).off ∧ R.HASP_STAT_HSTATE.off ≠ (R.LE_CAPSTAT_INJ n).off ∧
    R.HASP_STAT_HSTATE.off ≠ (R.CANn_STAT_RESTR n).off := by
  simp only [R.HASP_STAT_HSTATE, R.LE_CAPSTAT_CAP, R.LE_CAPSTAT_INJ, R.CANn_STAT_RESTR]
  omega

@[simp] theorem bitOf_off (f : Fld) (i : Nat) : (bitOf f i).off = f.off := (rfl)

@[simp] theorem mirrorFields_off : R.HASP_STAT_HSTATE.off ≠ R.HASP_GEN_EN.off ∧
    R.HASP_STAT_HSTATE.off ≠ R.MIR_STAT_OWNOUT.off ∧ R.HASP_STAT_HSTATE.off ≠ R.MIR_STAT_ROLE.off := by decide

@[simp] theorem Blk.refuse_calm (h : Hdr) (op detail : Nat) : (b.refuse h op detail).calm = b.calm := by
  simp [Blk.refuse]
@[simp] theorem Blk.dropInFlight_calm : b.dropInFlight.calm = b.calm := by
  refine (foldl_calm _ _ _ fun c w => ?_).trans (b.onHost_calm _)
  split
  · simp
  · rfl
@[simp] theorem Blk.showAxis_calm (a : Nat) : (b.showAxis a).calm = b.calm := by simp [Blk.showAxis]
@[simp] theorem Blk.endMove_calm (a : Nat) (p : MovePlan) : (b.endMove a p).calm = b.calm := by simp [Blk.endMove]
@[simp] theorem Blk.suspendMove_calm (a : Nat) : (b.suspendMove a).calm = b.calm := by
  unfold Blk.suspendMove
  repeat' split
  all_goals simp
@[simp] theorem Blk.abruptStop_calm (a : Nat) : (b.abruptStop a).calm = b.calm := by simp [Blk.abruptStop]
@[simp] theorem Blk.pinsOff_calm (n : Nat) : (b.pinsOff n).calm = b.calm := by simp [Blk.pinsOff]
@[simp] theorem Blk.gatesTo_calm (n new wait : Nat) : (b.gatesTo n new wait).calm = b.calm := by
  simp [Blk.gatesTo]
@[simp] theorem Blk.pinsAsc_calm (n on : Nat) : (b.pinsAsc n on).calm = b.calm := by simp [Blk.pinsAsc]
@[simp] theorem Blk.capWithInj_calm (k : Nat) : (b.capWithInj k).calm = b.calm := by simp [Blk.capWithInj]
@[simp] theorem Blk.abortInjOn_calm (k c reason : Nat) : (b.abortInjOn k c reason).calm = b.calm := by
  unfold Blk.abortInjOn
  dsimp only
  repeat' split
  all_goals simp
@[simp] theorem Blk.abortInj_calm (c reason : Nat) : (b.abortInj c reason).calm = b.calm := by simp [Blk.abortInj]
@[simp] theorem Blk.seqIdle_calm (n : Nat) : (b.seqIdle n).calm = b.calm := by simp [Blk.seqIdle]
@[simp] theorem Blk.because_calm (n why : Nat) : (b.because n why).calm = b.calm := by simp [Blk.because]
@[simp] theorem Blk.blockTo_calm (n ps : Nat) : (b.blockTo n ps).calm = b.calm := by simp [Blk.blockTo]
@[simp] theorem Blk.acceptTrip_calm (n src : Nat) : (b.acceptTrip n src).calm = b.calm := by
  have hcode : (if src = 0 then 0x3306 else 0x3307) ≠ 0x1301 := by split_ifs <;> decide
  simp [Blk.acceptTrip, hcode]
@[simp] theorem Blk.bridgesOff_calm (n st : Nat) : (b.bridgesOff n st).calm = b.calm := by simp [Blk.bridgesOff]
@[simp] theorem Blk.stpFault_calm (n : Nat) : (b.stpFault n).calm = b.calm := by simp [Blk.stpFault]
@[simp] theorem Blk.gateLost_calm (c : Nat) : (b.gateLost c).calm = b.calm := by simp [Blk.gateLost]
@[simp] theorem Blk.gateGained_calm (c : Nat) : (b.gateGained c).calm = b.calm := by simp [Blk.gateGained]
@[simp] theorem Blk.openSto_calm (k : Nat) : (b.openSto k).calm = b.calm := by simp [Blk.openSto]
@[simp] theorem Blk.beginClosing_calm (k : Nat) : (b.beginClosing k).calm = b.calm := by simp [Blk.beginClosing]
@[simp] theorem Blk.judgeSto_calm (k : Nat) : (b.judgeSto k).calm = b.calm := by
  unfold Blk.judgeSto
  dsimp only
  repeat' split
  all_goals simp
@[simp] theorem Blk.gateFollow_calm (c : Nat) : (b.gateFollow c).calm = b.calm := by simp [Blk.gateFollow]
@[simp] theorem Blk.gates_calm : b.gates.calm = b.calm := by simp [Blk.gates]
@[simp] theorem Blk.endReact_calm (c : Nat) : (b.endReact c).calm = b.calm := by simp [Blk.endReact]
@[simp] theorem Blk.settle_calm : b.settle.calm = b.calm := by simp [Blk.settle]
@[simp] theorem Blk.brakeOff_calm (n : Nat) : (b.brakeOff n).calm = b.calm := by simp [Blk.brakeOff]
@[simp] theorem Blk.ownLost_calm (c : Nat) : (b.ownLost c).calm = b.calm := by simp [Blk.ownLost]
@[simp] theorem Blk.ownGained_calm (c : Nat) : (b.ownGained c).calm = b.calm := by simp [Blk.ownGained]
@[simp] theorem Blk.ownSettle_calm : b.ownSettle.calm = b.calm := by simp [Blk.ownSettle]
@[simp] theorem Blk.setRole_calm (r : Nat) : (b.setRole r).calm = b.calm := by simp [Blk.setRole]
theorem wr_hstate_calm (v : Nat) : (b.wr R.HASP_STAT_HSTATE v).calm = (b.calm.1, v % 8) :=
  Prod.ext (by rfl) (Blk.rd_wr_self b _ v (by simp [Fld.inWord, R.HASP_STAT_HSTATE]))

/-- A loss puts Hasp's state to LOST and leaves the rest of it. -/
theorem loss_calm (cause : Nat) : (b.loss cause).calm = (b.calm.1, 3) := by
  unfold Blk.loss
  split_ifs with h
  · exact Prod.ext rfl h
  all_goals simp [wr_hstate_calm]

@[simp] theorem Blk.ov2Request_calm (n : Nat) : (b.ov2Request n).calm = b.calm := by simp [Blk.ov2Request]
@[simp] theorem Blk.ascCount_calm (n : Nat) : (b.ascCount n).calm = b.calm := by simp [Blk.ascCount]
@[simp] theorem Blk.offNote_calm (cyc : Nat) : (b.offNote cyc).calm = b.calm := by simp [Blk.offNote]
@[simp] theorem Blk.blockKeeping_calm (n : Nat) : (b.blockKeeping n).calm = b.calm := by simp [Blk.blockKeeping]
@[simp] theorem Blk.driveRequests_calm (n : Nat) : (b.driveRequests n).calm = b.calm := by simp [Blk.driveRequests]
@[simp] theorem Blk.stepRequests_calm (n : Nat) : (b.stepRequests n).calm = b.calm := by simp [Blk.stepRequests]

theorem aside_of_calm {b c : Blk} (h : c.calm.1 = b.calm.1) : c.aside = b.aside := by
  simp only [Blk.calm, Prod.mk.injEq] at h
  obtain ⟨hward, hsll, hle, -⟩ := h
  simp only [Blk.aside, hward, hsll, hle]

@[simp] theorem Blk.abortInj_aside (c reason : Nat) : (b.abortInj c reason).aside = b.aside :=
  aside_of_calm (congrArg Prod.fst (b.abortInj_calm c reason))
@[simp] theorem Blk.abruptStop_aside (a : Nat) : (b.abruptStop a).aside = b.aside :=
  aside_of_calm (congrArg Prod.fst (b.abruptStop_calm a))
@[simp] theorem Blk.loss_aside (cause : Nat) : (b.loss cause).aside = b.aside :=
  aside_of_calm ((congrArg Prod.fst (loss_calm b cause)).trans rfl)
@[simp] theorem Blk.offNote_aside (cyc : Nat) : (b.offNote cyc).aside = b.aside :=
  aside_of_calm (congrArg Prod.fst (b.offNote_calm cyc))
@[simp] theorem Blk.setRole_aside (r : Nat) : (b.setRole r).aside = b.aside :=
  aside_of_calm (congrArg Prod.fst (b.setRole_calm r))
@[simp] theorem Blk.settle_aside : b.settle.aside = b.aside := aside_of_calm (congrArg Prod.fst (b.settle_calm))
@[simp] theorem Blk.showAxis_aside (a : Nat) : (b.showAxis a).aside = b.aside :=
  aside_of_calm (congrArg Prod.fst (b.showAxis_calm a))
@[simp] theorem Blk.suspendMove_aside (a : Nat) : (b.suspendMove a).aside = b.aside :=
  aside_of_calm (congrArg Prod.fst (b.suspendMove_calm a))

end

end Sys2Proof.Machine
end

section
/-! SUPPORT. What the loop programs, the supervision, the captures and Strata's counts leave. -/

namespace Sys2Proof.Machine

section
variable (b : Blk)

/-- What the loop programs, the supervision, the captures and Strata's counts leave: FRAME_NO too. -/
def Blk.steady (b : Blk) : (Ward × List (List Byte) × List Bool) × Nat := (b.aside, b.fn)

theorem steady_of {b c : Blk} (ha : c.aside = b.aside) (hu : SameBut b c unitWords) : c.steady = b.steady :=
  Prod.ext ha (fn_of_units hu)

@[simp] theorem driveFields_unit (n : Nat) :
    unitWords (R.Dn_CSTAT_FLIM n).off ∧ unitWords (R.Dn_CSTAT_FWLIM n).off ∧ unitWords (R.Dn_CSTAT_HOBL n).off ∧
      unitWords (R.Dn_CSTAT_VLIM n).off := ⟨unit_at, unit_at, unit_at, unit_at⟩

@[simp] theorem supFields_unit (n : Nat) :
    unitWords (R.Dn_SUPCNT_EXCFR n).off ∧ unitWords (R.Dn_SUPPK_PKI n).off ∧ unitWords (R.Dn_SUPPK_PKW n).off ∧
      unitWords (R.Dn_SUPRES_RI n).off ∧ unitWords (R.Dn_SUPRES_RW n).off ∧ unitWords (R.Dn_SUPSTAT_CNT n).off ∧
      unitWords (R.Dn_SUPSTAT_EXC n).off ∧ unitWords (R.Dn_SUPSTAT_MEAS n).off ∧ unitWords (R.Dn_SUPSTAT_SUSP n).off :=
  ⟨unit_at, unit_at, unit_at, unit_at, unit_at, unit_at, unit_at, unit_at, unit_at⟩

@[simp] theorem pairFields_unit (n : Nat) :
    unitWords (R.LE_CAPSTAT_CAP n).off ∧ unitWords (R.LE_CAPSTAT_DROP n).off ∧ unitWords (R.LE_CAPSTAT_FILL n).off ∧
      unitWords (R.LE_CAPSTAT_INJ n).off ∧ unitWords (R.LE_SATCNT_COUNT n).off :=
  ⟨unit_at, unit_at, unit_at, unit_at, unit_at⟩

@[simp] theorem Blk.wr_steady (f : Fld) (v : Nat) (h : unitWords f.off) : (b.wr f v).steady = b.steady :=
  steady_of (b.wr_aside f v) (same_wr (same_refl b _) f v h)
@[simp] theorem Blk.flag_steady (f : Fld) (v : Bool) (h : unitWords f.off) : (b.flag f v).steady = b.steady :=
  b.wr_steady f _ h
@[simp] theorem Blk.wrS_steady (f : Fld) (v : Int) (h : unitWords f.off) : (b.wrS f v).steady = b.steady :=
  b.wr_steady f _ h
@[simp] theorem Blk.wrSat_steady (f : Fld) (v : Nat) (h : unitWords f.off) : (b.wrSat f v).steady = b.steady :=
  b.wr_steady f _ h
@[simp] theorem Blk.inc_steady (f : Fld) (h : unitWords f.off) : (b.inc f).steady = b.steady := b.wr_steady f _ h
@[simp] theorem Blk.raise_steady (c n : Nat) (i : List Int) : (b.raise c n i).steady = b.steady :=
  steady_of (b.raise_aside c n i) (same_raise (same_refl b _) _ _ _ (unit_const rfl))
@[simp] theorem Blk.noteLim_steady (c n : Nat) : (b.noteLim c n).steady = b.steady := (rfl)
@[simp] theorem Blk.complete_steady (h : Hdr) (op st d : Nat) : (b.complete h op st d).steady = b.steady := (rfl)
@[simp] theorem Blk.onDrv_steady (n : Nat) (f : Drive → Drive) : (b.onDrv n f).steady = b.steady := (rfl)
@[simp] theorem Blk.onSeq_steady (n : Nat) (f : Seq → Seq) : (b.onSeq n f).steady = b.steady := (rfl)
@[simp] theorem Blk.onTun_steady (n : Nat) (f : Tuner → Tuner) : (b.onTun n f).steady = b.steady := (rfl)
@[simp] theorem Blk.onNvs_steady (f : Nvs → Nvs) : (b.onNvs f).steady = b.steady := (rfl)
@[simp] theorem Blk.onChan_steady (c : Nat) (f : Chan → Chan) (h : ∀ x, (f x).overran = x.overran) :
    (b.onChan c f).steady = b.steady := steady_of (b.onChan_aside c f h) (same_onChan (same_refl b _) c f)
@[simp] theorem steady_ite (p : Prop) [Decidable p] (x y : Blk) :
    (if p then x else y).steady = if p then x.steady else y.steady := apply_ite Blk.steady p x y
@[simp] theorem Blk.abortInj_steady (c r : Nat) : (b.abortInj c r).steady = b.steady :=
  steady_of (b.abortInj_aside c r) (abortInj_units b c r)

theorem foldl_steady {α : Type} (l : List α) (f : Blk → α → Blk) (h : ∀ b x, (f b x).steady = b.steady) :
    (l.foldl f b).steady = b.steady := by
  induction l generalizing b with
  | nil => rfl
  | cons x l ih => exact (ih (f b x)).trans (h b x)

@[simp] theorem Blk.each_steady (n : Nat) (f : Nat → Blk → Blk) (h : ∀ i b, (f i b).steady = b.steady) :
    (b.each n f).steady = b.steady := foldl_steady b _ _ fun b i => h i b

@[simp] theorem Blk.eachOf_steady (l : List Nat) (f : Nat → Blk → Blk) (h : ∀ i b, (f i b).steady = b.steady) :
    (b.eachOf l f).steady = b.steady := foldl_steady b _ _ fun b i => h i b

@[simp] theorem Blk.raiseKey_steady (span code src key : Nat) (info : List Int) :
    (b.raiseKey span code src key info).steady = b.steady := by
  unfold Blk.raiseKey
  split <;> simp
@[simp] theorem Blk.raiseLim_steady (span code src : Nat) (info : List Int) :
    (b.raiseLim span code src info).steady = b.steady := by
  simp [Blk.raiseLim]
@[simp] theorem Blk.ok_steady (h : Hdr) (op : Nat) : (b.ok h op).steady = b.steady := by simp [Blk.ok]
@[simp] theorem Blk.showBlend_steady (n : Nat) : (b.showBlend n).steady = b.steady := by simp [Blk.showBlend]
@[simp] theorem Blk.startBlend_steady (n what kind : Nat) (yLast vq vd : Int) :
    (b.startBlend n what kind yLast vq vd).steady = b.steady := by
  simp [Blk.startBlend]
@[simp] theorem Blk.startSettle_steady (n : Nat) : (b.startSettle n).steady = b.steady := by simp [Blk.startSettle]
@[simp] theorem Blk.rampTick_steady (n : Nat) (ref : Int) : (b.rampTick n ref).steady = b.steady := by
  simp [Blk.rampTick]
@[simp] theorem Blk.putBlend_steady (n what : Nat) (x : Option Blend) :
    (b.putBlend n what x).steady = b.steady := by
  simp [Blk.putBlend]
@[simp] theorem Blk.decideBlend_steady (n what : Nat) (y : Int) : (b.decideBlend n what y).steady = b.steady := by
  unfold Blk.decideBlend
  split <;> simp
@[simp] theorem Blk.blendFrame_steady (n what : Nat) (y : Int) : (b.blendFrame n what y).2.steady = b.steady := by
  unfold Blk.blendFrame
  repeat' split
  all_goals simp
@[simp] theorem Blk.handedOver_steady (n : Nat) : (b.handedOver n).steady = b.steady := by simp [Blk.handedOver]
@[simp] theorem Blk.speedResult_steady (n : Nat) (y : Int) : (b.speedResult n y).steady = b.steady := by
  simp [Blk.speedResult]
@[simp] theorem Blk.speedPrepare_steady (n : Nat) : (b.speedPrepare n).2.steady = b.steady := by
  unfold Blk.speedPrepare
  dsimp only
  repeat' split
  all_goals simp
@[simp] theorem Blk.capByInj_steady (k : Nat) : (b.capByInj k).steady = b.steady := by simp [Blk.capByInj]
@[simp] theorem Blk.injValue_steady (c : Nat) (e : Elem) : (b.injValue c e).2.steady = b.steady := by
  unfold Blk.injValue
  dsimp only
  repeat' split
  all_goals simp
@[simp] theorem Blk.putRt_steady (c i : Nat) (o : ElemOut) : (b.putRt c i o).steady = b.steady := by
  simp [Blk.putRt]
@[simp] theorem Blk.currentWind_steady (c : Nat) (r : ElemRole) (own applied : Int) :
    (b.currentWind c r own applied).steady = b.steady := by
  unfold Blk.currentWind
  split <;> simp
@[simp] theorem Blk.runIpark_steady (c i : Nat) (x : List Int) : (b.runIpark c i x).steady = b.steady := by
  simp [Blk.runIpark]
@[simp] theorem Blk.runRamp_steady (c i : Nat) (ref : Int) : (b.runRamp c i ref).2.2.steady = b.steady := by
  unfold Blk.runRamp
  dsimp only
  split <;> simp
@[simp] theorem Blk.runInst_steady (c i : Nat) : (b.runInst c i).steady = b.steady := by
  unfold Blk.runInst
  extract_lets +onlyGivenNames ch e x cf st inj b1 rp b2 run
  have hdue : b1.steady = b.steady := by simp [b1, inj]
  have hramp : b2.steady = b.steady := by
    simp only [b2, rp]
    split_ifs
    · simp [hdue]
    · exact hdue
  clear_value b2 run
  by_cases hstp : 8 ≤ c
  · simp [hstp, hramp]
  · rw [if_neg hstp]
    split <;> simp [hramp]
@[simp] theorem Blk.runWindow_steady (c : Nat) (post : Bool) : (b.runWindow c post).steady = b.steady :=
  foldl_steady b _ _ fun d i => by simp
@[simp] theorem Blk.portTaken_steady (n : Nat) : (b.portTaken n).steady = b.steady := by simp [Blk.portTaken]
@[simp] theorem Blk.measFlag_steady (n : Nat) : (b.measFlag n).steady = b.steady := by simp [Blk.measFlag]
@[simp] theorem Blk.notePeaks_steady (n : Nat) (r : Int × Int) : (b.notePeaks n r).steady = b.steady := by
  simp [Blk.notePeaks]
@[simp] theorem Blk.plausible_steady (n : Nat) (exc : Bool) : (b.plausible n exc).steady = b.steady := by
  simp [Blk.plausible]
@[simp] theorem Blk.supervise_steady (n : Nat) : (b.supervise n).steady = b.steady := by simp [Blk.supervise]
@[simp] theorem Blk.capStore_steady (k : Nat) (v : Int × Int) : (b.capStore k v).steady = b.steady := by
  simp [Blk.capStore]
@[simp] theorem Blk.capWait_steady (k : Nat) (due : Bool) (v : Int × Int) : (b.capWait k due v).steady = b.steady := by
  simp [Blk.capWait]
@[simp] theorem Blk.capture_steady (k : Nat) : (b.capture k).steady = b.steady := by simp [Blk.capture]
@[simp] theorem Blk.tally_steady (i : Nat) (on : Bool) (bin v : Int) : (b.tally i on bin v).steady = b.steady := by
  simp [Blk.tally]
@[simp] theorem Blk.strataDrive_steady (n : Nat) : (b.strataDrive n).steady = b.steady := by simp [Blk.strataDrive]
@[simp] theorem Blk.strataStepper_steady (n : Nat) : (b.strataStepper n).steady = b.steady := by
  simp [Blk.strataStepper]
@[simp] theorem Blk.strataChan_steady (c : Nat) : (b.strataChan c).steady = b.steady := by simp [Blk.strataChan]

theorem aside_of_steady {b c : Blk} (h : c.steady = b.steady) : c.aside = b.aside := congrArg Prod.fst h

@[simp] theorem Blk.startSettle_aside (n : Nat) : (b.startSettle n).aside = b.aside :=
  aside_of_steady (b.startSettle_steady n)
@[simp] theorem Blk.startBlend_aside (n what kind : Nat) (yLast vq vd : Int) :
    (b.startBlend n what kind yLast vq vd).aside = b.aside :=
  aside_of_steady (b.startBlend_steady n what kind yLast vq vd)
@[simp] theorem Blk.raiseLim_aside (span code src : Nat) (info : List Int) :
    (b.raiseLim span code src info).aside = b.aside :=
  aside_of_steady (b.raiseLim_steady span code src info)
@[simp] theorem Blk.raiseKey_aside (span code src key : Nat) (info : List Int) :
    (b.raiseKey span code src key info).aside = b.aside :=
  aside_of_steady (b.raiseKey_steady span code src key info)
@[simp] theorem Blk.rampTick_aside (n : Nat) (ref : Int) : (b.rampTick n ref).aside = b.aside :=
  aside_of_steady (b.rampTick_steady n ref)
@[simp] theorem Blk.putBlend_aside (n what : Nat) (x : Option Blend) : (b.putBlend n what x).aside = b.aside :=
  aside_of_steady (b.putBlend_steady n what x)
@[simp] theorem Blk.decideBlend_aside (n what : Nat) (y : Int) : (b.decideBlend n what y).aside = b.aside :=
  aside_of_steady (b.decideBlend_steady n what y)
@[simp] theorem Blk.blendFrame_aside (n what : Nat) (y : Int) : (b.blendFrame n what y).2.aside = b.aside :=
  aside_of_steady (b.blendFrame_steady n what y)
@[simp] theorem Blk.runWindow_aside (c : Nat) (post : Bool) : (b.runWindow c post).aside = b.aside :=
  aside_of_steady (b.runWindow_steady c post)

end

end Sys2Proof.Machine
end

section
/-! SUPPORT. What the units' parts of a tick and of SAMPLE_PHASE leave. -/

namespace Sys2Proof.Machine

section
variable (b : Blk)

/-! Completions superseded and stops requested (chapters 2 and 3). -/

@[simp] theorem Blk.supersede_aside (i : Instr) : (b.supersede i).aside = b.aside := by
  unfold Blk.supersede
  repeat' split
  all_goals simp
@[simp] theorem Blk.supersedeAt_aside (p : Instr → Bool) : (b.supersedeAt p).aside = b.aside :=
  foldl_aside b _ _ fun c i => c.supersede_aside i
@[simp] theorem Blk.reqBlock_aside (n : Nat) : (b.reqBlock n).aside = b.aside := by simp [Blk.reqBlock]

/-! The axes (chapter 10). -/

@[simp] theorem Blk.resumeNow_aside (a : Nat) (m : Move) : (b.resumeNow a m).aside = b.aside := by simp [Blk.resumeNow]
@[simp] theorem Blk.resumeLate_aside (a : Nat) : (b.resumeLate a).aside = b.aside := by
  unfold Blk.resumeLate
  dsimp only
  split <;> simp
@[simp] theorem Blk.advanceAxis_aside (a : Nat) : (b.advanceAxis a).aside = b.aside := by simp [Blk.advanceAxis]
@[simp] theorem Blk.stopAxis_aside (a : Nat) : (b.stopAxis a).aside = b.aside := by simp [Blk.stopAxis]
@[simp] theorem Blk.homeNow_aside (n : Nat) : (b.homeNow n).aside = b.aside := by simp [Blk.homeNow]

/-! Stops and safe reactions (chapter 14). -/

@[simp] theorem Blk.stopReq_aside (n : Nat) : (b.stopReq n).aside = b.aside := by simp [Blk.stopReq]
@[simp] theorem Blk.startStop_aside (c : Nat) (max : Option Nat) : (b.startStop c max).aside = b.aside := by
  simp [Blk.startStop]
@[simp] theorem Blk.safeReact_aside (c : Nat) : (b.safeReact c).aside = b.aside := by simp [Blk.safeReact]
@[simp] theorem Blk.rung3_aside (cls : Nat) (chs : List Nat) : (b.rung3 cls chs).aside = b.aside := by simp [Blk.rung3]

/-! The DC link (chapter 12). -/

@[simp] theorem Blk.notePeak_aside (n : Nat) (v : Int) : (b.notePeak n v).aside = b.aside := by simp [Blk.notePeak]
@[simp] theorem Blk.brakeOn_aside (n : Nat) (v vPast : Int) (slope : Bool) :
    (b.brakeOn n v vPast slope).aside = b.aside := by
  simp [Blk.brakeOn]
@[simp] theorem Blk.brakeEnd_aside (n : Nat) : (b.brakeEnd n).aside = b.aside := by simp [Blk.brakeEnd]
@[simp] theorem Blk.ov2At_aside (n : Nat) (v : Int) : (b.ov2At n v).aside = b.aside := by simp [Blk.ov2At]
@[simp] theorem Blk.ov3At_aside (n v : Nat) : (b.ov3At n v).aside = b.aside := by simp [Blk.ov3At]
@[simp] theorem Blk.linkSample_aside (n : Nat) (v : Int) : (b.linkSample n v).aside = b.aside := by
  simp [Blk.linkSample]
@[simp] theorem Blk.linkTick_aside (n : Nat) : (b.linkTick n).aside = b.aside := by simp [Blk.linkTick]

/-! The measurement front end (chapter 6). -/

@[simp] theorem Blk.railed_aside (i : Nat) (x : ModSample) : (b.railed i x).aside = b.aside := by
  simp [Blk.railed]
@[simp] theorem Blk.latchDrive_aside (n : Nat) (s : DriveSample) : (b.latchDrive n s).aside = b.aside := by
  simp [Blk.latchDrive]
@[simp] theorem Blk.latchStep_aside (n : Nat) (s : StepSample) : (b.latchStep n s).aside = b.aside := by
  simp [Blk.latchStep]
@[simp] theorem Blk.latchSlow_aside (s : Samples) : (b.latchSlow s).aside = b.aside := by
  unfold Blk.latchSlow
  extract_lets +onlyGivenNames avg en was b1 b2 b3
  have hain : b1.aside = b.aside := Blk.each_aside _ _ _ fun k c => by split <;> simp
  have hdie : b3.aside = b.aside := by simp [b3, b2, hain]
  clear_value b3
  split_ifs
  · exact hdie
  · exact hdie
@[simp] theorem Blk.clearOcv_aside (c : Nat) (outs : List (Int × Int)) : (b.clearOcv c outs).aside = b.aside := by
  simp [Blk.clearOcv]
@[simp] theorem Blk.shadowSar_aside (s : Samples) : (b.shadowSar s).aside = b.aside := by
  unfold Blk.shadowSar
  dsimp only
  repeat' split
  all_goals simp
@[simp] theorem Blk.fitRefs_aside (s : Samples) : (b.fitRefs s).aside = b.aside :=
  foldl_aside b _ _ fun c r => by simp
@[simp] theorem Blk.afeSample_aside (s : Samples) : (b.afeSample s).aside = b.aside := by simp [Blk.afeSample]
@[simp] theorem Blk.sarTrims_aside : b.sarTrims.aside = b.aside := by simp [Blk.sarTrims]
@[simp] theorem Blk.sarLeft_aside : b.sarLeft.aside = b.aside := by
  unfold Blk.sarLeft
  split <;> simp
@[simp] theorem Blk.retireCv_aside (k : Nat) : (b.retireCv k).aside = b.aside := by simp [Blk.retireCv]
@[simp] theorem Blk.frontTick_aside : b.frontTick.aside = b.aside := by
  have hlanes : (b.afe.nextLane.foldl (fun b x => b.wr (R.AFE_LMAP_LANE x.1) x.2) b).aside = b.aside :=
    foldl_aside b _ _ fun c x => c.wr_aside _ _
  simp [Blk.frontTick, hlanes]

/-! The thermal manager (chapter 13). -/

@[simp] theorem Blk.onThmd_aside (n : Nat) (f : ThmDrv → ThmDrv) : (b.onThmd n f).aside = b.aside := by
  simp [Blk.onThmd]
@[simp] theorem Blk.ntcFollow_aside : b.ntcFollow.aside = b.aside := by simp [Blk.ntcFollow]
@[simp] theorem Blk.ntcTick_aside (k : Nat) : (b.ntcTick k).aside = b.aside := by simp [Blk.ntcTick]
@[simp] theorem Blk.thmInit_aside (n : Nat) : (b.thmInit n).aside = b.aside := by simp [Blk.thmInit]
@[simp] theorem Blk.thmModels_aside (n : Nat) : (b.thmModels n).aside = b.aside := by simp [Blk.thmModels]
@[simp] theorem Blk.thmDerate_aside (n : Nat) : (b.thmDerate n).aside = b.aside := by simp [Blk.thmDerate]
@[simp] theorem Blk.thmTrip_aside (rel : Bool) (n : Nat) : (b.thmTrip rel n).aside = b.aside := by simp [Blk.thmTrip]
@[simp] theorem Blk.thmStep_aside (rel : Bool) (n : Nat) : (b.thmStep rel n).aside = b.aside := by simp [Blk.thmStep]
@[simp] theorem Blk.ovrdTick_aside : b.ovrdTick.aside = b.aside := by
  unfold Blk.ovrdTick
  split <;> simp
@[simp] theorem Blk.dieTick_aside : b.dieTick.aside = b.aside := by simp [Blk.dieTick]
@[simp] theorem Blk.thmTick_aside : b.thmTick.aside = b.aside := by simp [Blk.thmTick]

/-! The feedback ports (chapter 7). -/

@[simp] theorem Blk.emuMoveOne_aside (q : Nat) (d : Int) : (b.emuMoveOne q d).aside = b.aside := by
  simp [Blk.emuMoveOne]
@[simp] theorem Blk.emuMoveOf_aside (p : Nat) (d : Int) (ok : Nat → Bool) : (b.emuMoveOf p d ok).aside = b.aside := by
  simp [Blk.emuMoveOf]
@[simp] theorem Blk.emuMove_aside (p : Nat) (d : Int) : (b.emuMove p d).aside = b.aside := by simp [Blk.emuMove]
@[simp] theorem Blk.cmpHits_aside (p : Nat) (up : Bool) (hit : Nat → Bool) : (b.cmpHits p up hit).aside = b.aside := by
  unfold Blk.cmpHits
  dsimp only
  split <;> simp
@[simp] theorem Blk.feedTick_aside : b.feedTick.aside = b.aside := by simp [Blk.feedTick]
@[simp] theorem Blk.hallReach_aside (p t : Nat) : (b.hallReach p t).aside = b.aside := by
  unfold Blk.hallReach
  split <;> simp
@[simp] theorem Blk.portInvalid_aside (p : Nat) : (b.portInvalid p).aside = b.aside := by simp [Blk.portInvalid]
@[simp] theorem Blk.ssiFault_aside (p kind : Nat) (f c : Fld) :
    (b.ssiFault p kind f c).aside = b.aside := by
  simp [Blk.ssiFault]
@[simp] theorem Blk.ssiJudge_aside (p : Nat) (s : SsiSample) : (b.ssiJudge p s).aside = b.aside := by
  simp [Blk.ssiJudge]
@[simp] theorem Blk.ssiDeliver_aside (p : Nat) : (b.ssiDeliver p).aside = b.aside := by
  unfold Blk.ssiDeliver
  dsimp only
  repeat' split
  all_goals simp
@[simp] theorem Blk.fineSpeed_aside (p t : Nat) : (b.fineSpeed p t).aside = b.aside := by
  unfold Blk.fineSpeed
  dsimp only
  repeat' split
  all_goals simp
@[simp] theorem Blk.spdPush_aside (p : Nat) : (b.spdPush p).aside = b.aside := by simp [Blk.spdPush]
@[simp] theorem Blk.spdRules_aside (p : Nat) : (b.spdRules p).aside = b.aside := by simp [Blk.spdRules]
@[simp] theorem Blk.spdKeep_aside (p : Nat) : (b.spdKeep p).aside = b.aside := by simp [Blk.spdKeep]
@[simp] theorem Blk.hallStands_aside (p : Nat) : (b.hallStands p).aside = b.aside := by simp [Blk.hallStands]
@[simp] theorem Blk.portSample_aside (p t : Nat) (s : SsiSample) :
    (b.portSample p t s).aside = b.aside := by
  unfold Blk.portSample
  split <;> simp
@[simp] theorem Blk.filtAge_aside (p t : Nat) : (b.filtAge p t).aside = b.aside := by simp [Blk.filtAge]
@[simp] theorem Blk.feedSample_aside (smp : Samples) : (b.feedSample smp).aside = b.aside := by
  simp [Blk.feedSample]

/-! The stepper channels (chapter 10). -/

@[simp] theorem Blk.stpSample_aside (n : Nat) : (b.stpSample n).aside = b.aside := by simp [Blk.stpSample]
@[simp] theorem Blk.stpLoad_aside (n : Nat) : (b.stpLoad n).aside = b.aside := by simp [Blk.stpLoad]
@[simp] theorem Blk.homeAt_aside (n : Nat) : (b.homeAt n).aside = b.aside := by simp [Blk.homeAt]
@[simp] theorem Blk.stallAct_aside (n : Nat) : (b.stallAct n).aside = b.aside := by simp [Blk.stallAct]
@[simp] theorem Blk.stpTick_aside (n : Nat) : (b.stpTick n).aside = b.aside := by simp [Blk.stpTick]
@[simp] theorem Blk.stpMoved_aside (n : Nat) : (b.stpMoved n).aside = b.aside := by simp [Blk.stpMoved]

/-! Commutation (chapter 4). -/

@[simp] theorem Blk.syncLost_aside (n cause : Nat) (more : List Int) : (b.syncLost n cause more).aside = b.aside := by
  simp [Blk.syncLost]
@[simp] theorem Blk.thresholds_aside (n : Nat) : (b.thresholds n).aside = b.aside := by simp [Blk.thresholds]
@[simp] theorem Blk.angleSample_aside (n t : Nat) : (b.angleSample n t).aside = b.aside := by simp [Blk.angleSample]

/-! Whetstone (chapter 6). -/

@[simp] theorem Blk.ofsLimit_aside (i bit : Nat) (out was : Bool) :
    (b.ofsLimit i bit out was).aside = b.aside := by
  simp [Blk.ofsLimit]
@[simp] theorem Blk.offSample_aside (i : Nat) (x : Int) (bit : Nat) : (b.offSample i x bit).aside = b.aside := by
  simp [Blk.offSample]
@[simp] theorem Blk.meanWindow_aside (n : Nat) (x : DriveMeas) : (b.meanWindow n x).aside = b.aside := by
  simp [Blk.meanWindow]
@[simp] theorem Blk.pvOffsets_aside (n : Nat) (x : DriveMeas) : (b.pvOffsets n x).aside = b.aside := by
  simp [Blk.pvOffsets]
@[simp] theorem Blk.offDrive_aside (n : Nat) : (b.offDrive n).aside = b.aside := by simp [Blk.offDrive]
@[simp] theorem Blk.offStep_aside (n : Nat) : (b.offStep n).aside = b.aside := by simp [Blk.offStep]
@[simp] theorem Blk.moveOffsets_aside : b.moveOffsets.aside = b.aside := by simp [Blk.moveOffsets]
@[simp] theorem Blk.gainResult_aside (n kind : Nat) (bad : Bool) : (b.gainResult n kind bad).aside = b.aside := by
  simp [Blk.gainResult]
@[simp] theorem Blk.powerBalance_aside (n : Nat) : (b.powerBalance n).aside = b.aside := by simp [Blk.powerBalance]
@[simp] theorem Blk.dividerCheck_aside (n : Nat) : (b.dividerCheck n).aside = b.aside := by simp [Blk.dividerCheck]
@[simp] theorem Blk.whetSample_aside : b.whetSample.aside = b.aside := by simp [Blk.whetSample]
@[simp] theorem Blk.afeTick_aside : b.afeTick.aside = b.aside := by simp [Blk.afeTick]

/-! Starting (chapter 5). -/

@[simp] theorem Blk.setPath_aside (n p : Nat) : (b.setPath n p).aside = b.aside := by simp [Blk.setPath]
@[simp] theorem Blk.openCatch_aside (n sstate : Nat) : (b.openCatch n sstate).aside = b.aside := by
  simp [Blk.openCatch]
@[simp] theorem Blk.catchSample_aside (n : Nat) : (b.catchSample n).aside = b.aside := by simp [Blk.catchSample]
@[simp] theorem Blk.blockAndCatch_aside (n sstate : Nat) : (b.blockAndCatch n sstate).aside = b.aside := by
  simp [Blk.blockAndCatch]
@[simp] theorem Blk.countCatch_aside (n : Nat) : (b.countCatch n).aside = b.aside := by simp [Blk.countCatch]
@[simp] theorem Blk.shadowStart_aside (n : Nat) (x : HingeChan) : (b.shadowStart n x).aside = b.aside := by
  unfold Blk.shadowStart
  split <;> simp
@[simp] theorem Blk.startTick_aside (n : Nat) : (b.startTick n).aside = b.aside := by
  unfold Blk.startTick
  split <;> simp

/-! A drive's loops (chapter 8). -/

@[simp] theorem Blk.torqueFrame_aside (n : Nat) : (b.torqueFrame n).aside = b.aside := by
  unfold Blk.torqueFrame
  dsimp only
  repeat' split
  all_goals simp
@[simp] theorem Blk.showIdq_aside (n : Nat) : (b.showIdq n).aside = b.aside := by simp [Blk.showIdq]
@[simp] theorem Blk.softDir_aside (n : Nat) : (b.softDir n).aside = b.aside := by simp [Blk.softDir]
@[simp] theorem Blk.runPre_aside (c : Nat) : (b.runPre c).aside = b.aside := by simp [Blk.runPre]

/-! Ward (chapter 16). -/

@[simp] theorem Blk.wardFail_aside (cls key : Nat) : (b.wardFail cls key).aside = b.aside := by simp [Blk.wardFail]
@[simp] theorem Blk.deliverWords_aside (c : Nat) (hits : List InputHit) :
    (b.deliverWords c hits).2.aside = b.aside := by
  have hfail : ∀ l : List InputHit, (l.foldl (fun b h => b.wardFail 0 (c * 256 + h.w)) b).aside = b.aside := fun l =>
    foldl_aside b l _ fun d h => d.wardFail_aside 0 _
  simp [Blk.deliverWords, hfail]

/-! The loop-engine pairs, and SAMPLE_PHASE (chapter 8). -/

@[simp] theorem Blk.setPair_aside (k v : Nat) : (b.setPair k v).aside = b.aside := by simp [Blk.setPair]
@[simp] theorem Blk.loadTick_aside : b.loadTick.aside = b.aside :=
  (foldl_aside _ _ _ fun c l => by simp).trans (b.onLe_aside _ fun _ => rfl)
@[simp] theorem Blk.chanSample_aside (hits : List InputHit) (c : Nat) :
    (b.chanSample hits c).aside = b.aside := by
  unfold Blk.chanSample
  split <;> simp
@[simp] theorem Blk.doSamplePhase_aside (s : Samples) (hits : List InputHit) (ecc : List (Nat × Nat)) :
    (b.doSamplePhase s hits ecc).aside = b.aside := by
  have hecc : ∀ c : Blk, (ecc.foldl (fun b x => b.add (R.LE_ERR_ECCRET x.1) x.2) c).aside = c.aside := fun c =>
    foldl_aside c _ _ fun d x => d.add_aside _ _
  simp [Blk.doSamplePhase, hecc]

/-! Supervision (chapter 9). -/

@[simp] theorem Blk.fallBack_aside (n : Nat) : (b.fallBack n).aside = b.aside := by simp [Blk.fallBack]
@[simp] theorem Blk.verdictTick_aside (n : Nat) : (b.verdictTick n).aside = b.aside := by simp [Blk.verdictTick]

/-! Load sharing (chapter 11). -/

@[simp] theorem Blk.setSlot_aside (g s v : Nat) : (b.setSlot g s v).aside = b.aside := by simp [Blk.setSlot]
@[simp] theorem Blk.slotOut_aside (g s : Nat) : (b.slotOut g s).aside = b.aside := by simp [Blk.slotOut]
@[simp] theorem Blk.leftEvent_aside (g s : Nat) (stop : Bool) (cause : Nat) :
    (b.leftEvent g s stop cause).aside = b.aside := by
  simp [Blk.leftEvent]
@[simp] theorem Blk.joinShown_aside (g s : Nat) (iq : Int) (blend : Bool) :
    (b.joinShown g s iq blend).aside = b.aside := by
  simp [Blk.joinShown]
@[simp] theorem Blk.join_aside (g s k : Nat) : (b.join g s k).aside = b.aside := by
  unfold Blk.join
  dsimp only
  repeat' split
  all_goals simp
@[simp] theorem Blk.slotJoin_aside (g s : Nat) : (b.slotJoin g s).aside = b.aside := by
  unfold Blk.slotJoin
  split <;> simp
@[simp] theorem Blk.slotCount_aside (g s : Nat) : (b.slotCount g s).aside = b.aside := by simp [Blk.slotCount]
@[simp] theorem Blk.newLead_aside (g old new : Nat) : (b.newLead g old new).aside = b.aside := by
  unfold Blk.newLead
  dsimp only
  repeat' split
  all_goals simp
@[simp] theorem Blk.balance_aside (g : Nat) (act : List Nat) : (b.balance g act).aside = b.aside := by
  simp [Blk.balance]
@[simp] theorem Blk.showShares_aside (g : Nat) (iq : List Int) : (b.showShares g iq).aside = b.aside := by
  simp [Blk.showShares]
@[simp] theorem Blk.homeShares_aside (g : Nat) (act : List Nat) : (b.homeShares g act).aside = b.aside := by
  simp [Blk.homeShares]
@[simp] theorem Blk.awayShares_aside (g : Nat) : (b.awayShares g).aside = b.aside := by
  unfold Blk.awayShares
  split <;> simp
@[simp] theorem Blk.groupRef_aside (g : Nat) : (b.groupRef g).aside = b.aside := by
  unfold Blk.groupRef
  dsimp only
  split <;> simp
@[simp] theorem Blk.groupCompute_aside (g old : Nat) (had : Bool) : (b.groupCompute g old had).aside = b.aside := by
  unfold Blk.groupCompute
  split <;> simp
@[simp] theorem Blk.shareGroup_aside (g : Nat) : (b.shareGroup g).aside = b.aside := by
  have hleft : ∀ (l : List (Nat × HingeMember)) (c : Blk),
      (l.foldl (fun b x => b.leftEvent g x.1 x.2.stop x.2.why) c).aside = c.aside := fun l c =>
    foldl_aside c l _ fun d x => by simp
  simp [Blk.shareGroup, hleft]
@[simp] theorem Blk.shareTick_aside : b.shareTick.aside = b.aside := by simp [Blk.shareTick]

/-! Hasp (chapter 14). -/

@[simp] theorem Blk.showDeg_aside : b.showDeg.aside = b.aside := by simp [Blk.showDeg]
@[simp] theorem Blk.degExpire_aside (c : Nat) : (b.degExpire c).aside = b.aside := by simp [Blk.degExpire]
@[simp] theorem Blk.haspTick_aside : b.haspTick.aside = b.aside := by simp [Blk.haspTick]

/-! CAN FD (chapter 20). -/

@[simp] theorem Blk.showRestr_aside : b.showRestr.aside = b.aside := by simp [Blk.showRestr]
@[simp] theorem Blk.setTxb_aside (k i v : Nat) : (b.setTxb k i v).aside = b.aside := by simp [Blk.setTxb]
@[simp] theorem Blk.onTxb_aside (k i : Nat) (f : TxBuf → TxBuf) : (b.onTxb k i f).aside = b.aside := by
  simp [Blk.onTxb]
@[simp] theorem Blk.slaluLost_aside (s : Nat) : (b.slaluLost s).aside = b.aside := by simp [Blk.slaluLost]
@[simp] theorem Blk.canTick_aside : b.canTick.aside = b.aside := by simp [Blk.canTick]

/-! Lode (chapter 21). -/

@[simp] theorem Blk.onLodePort_aside (p : Nat) (f : LodePort → LodePort) : (b.onLodePort p f).aside = b.aside := by
  simp [Blk.onLodePort]
@[simp] theorem Blk.onCb_aside (s : Nat) (f : CbStream → CbStream) : (b.onCb s f).aside = b.aside := by simp [Blk.onCb]
@[simp] theorem Blk.enqueue_aside (p : Nat) (f : EthFrame) : (b.enqueue p f).aside = b.aside := by
  simp [Blk.enqueue]
@[simp] theorem Blk.lodeOwn_aside (f : EthFrame) : (b.lodeOwn f).aside = b.aside := by
  unfold Blk.lodeOwn
  dsimp only
  repeat' split
  all_goals simp
@[simp] theorem Blk.sendUdp_aside (ip port vid pcp : Nat) (data : List Byte) :
    (b.sendUdp ip port vid pcp data).aside = b.aside := by
  simp [Blk.sendUdp]

/-! Slalu (chapter 15). -/

@[simp] theorem Blk.slaluCan_aside (k : Nat) (xid : Bool) (id : Nat) (bytes : List Byte) :
    (b.slaluCan k xid id bytes).aside = b.aside := by
  simp [Blk.slaluCan]
@[simp] theorem Blk.sesTransmit_aside (s : Nat) : (b.sesTransmit s).aside = b.aside := by simp [Blk.sesTransmit]
@[simp] theorem Blk.sllSend_aside (p : Nat → Bool) : (b.sllSend p).aside = b.aside := by simp [Blk.sllSend]
@[simp] theorem Blk.sllTick_aside : b.sllTick.aside = b.aside := by simp [Blk.sllTick]

/-! Levers and the heartbeat (chapter 18). -/

@[simp] theorem Blk.tableRef_aside (n : Nat) (v : Int) : (b.tableRef n v).aside = b.aside := by
  unfold Blk.tableRef
  split <;> simp
@[simp] theorem Blk.leverTick_aside : b.leverTick.aside = b.aside := by simp [Blk.leverTick]
@[simp] theorem Blk.leverDwell_aside (n : Nat) : (b.leverDwell n).aside = b.aside := by simp [Blk.leverDwell]
@[simp] theorem Blk.heartbeatTick_aside : b.heartbeatTick.aside = b.aside := by simp [Blk.heartbeatTick]

/-! Telemetry (chapter 18). -/

@[simp] theorem Blk.telTick_aside : b.telTick.aside = b.aside := by simp [Blk.telTick]

/-! Pair operation (chapter 17). -/

@[simp] theorem Blk.readyFollow_aside : b.readyFollow.aside = b.aside := by
  unfold Blk.readyFollow
  dsimp only
  split <;> simp
@[simp] theorem Blk.hingeTick_aside : b.hingeTick.aside = b.aside := by simp [Blk.hingeTick]

/-! The parts of a drive and of a stepper in a tick (chapter 2). -/

@[simp] theorem Blk.driveTick_aside (n : Nat) : (b.driveTick n).aside = b.aside := by
  unfold Blk.driveTick
  dsimp only
  repeat' split
  all_goals simp
@[simp] theorem Blk.stepperTick_aside (n : Nat) : (b.stepperTick n).aside = b.aside := by simp [Blk.stepperTick]

end

end Sys2Proof.Machine
end

section
/-! PROOFS. FRAME_TICK and discipline (R42, R48, R51). -/

namespace Sys2Proof.Machine

section
variable (b : Blk)

/-- FRAME_NO reads back modulo 2^48. -/
theorem Blk.setFn_fn (v : Nat) : (b.setFn v).fn = v % 2 ^ 48 := by
  have hlo : (b.setFn v).rd R.TICK_FRAME_NO_LO_FN_LO = v % 2 ^ 32 :=
    (Blk.rd_wr_off _ _ _ _ (by decide)).trans (Blk.rd_wr_self b _ _ (by simp [Fld.inWord, R.TICK_FRAME_NO_LO_FN_LO]))
  have hhi : (b.setFn v).rd R.TICK_FRAME_NO_HI_FN_HI = v / 2 ^ 32 % 2 ^ 16 :=
    Blk.rd_wr_self _ _ _ (by simp [Fld.inWord, R.TICK_FRAME_NO_HI_FN_HI])
  rw [Blk.fn, hlo, hhi]
  omega

theorem setFn_ward (v : Nat) : (b.setFn v).ward = b.ward := rfl

theorem setFn_same (v : Nat) : SameBut b (b.setFn v) fun a =>
    a = R.TICK_FRAME_NO_LO_FN_LO.off ∨ a = R.TICK_FRAME_NO_HI_FN_HI.off :=
  same_wr (same_wr (same_refl b _) _ _ (.inl rfl)) _ _ (.inr rfl)

/-! What sending the Hinge frame of a tick writes. -/

/-- What leaves FRAME_NO and the module's role: words of the units, MIR_STAT apart. -/
abbrev sideWords (a : Nat) : Prop := unitWords a ∧ a ≠ R.MIR_STAT_ROLE.off

theorem fn_of_sides {b c : Blk} (h : SameBut b c sideWords) : c.fn = b.fn := fn_of_units (same_mono h fun _ ha => ha.1)

theorem standby_of_sides {b c : Blk} (h : SameBut b c sideWords) : c.standby = b.standby := by
  have hrole : c.role = b.role := same_rd h R.MIR_STAT_ROLE fun hrole => hrole.2 rfl
  simp only [Blk.standby, hrole]

theorem wardFail_sides {cls : Nat} (h : cls < 8) (key : Nat) : SameBut b (b.wardFail cls key) sideWords := by
  refine same_mono (wardFail_same b cls key) ?_
  rintro a (rfl | rfl | rfl)
  · refine ⟨unit_at, ?_⟩
    simp only [R.WARD_CNT_COUNT, R.MIR_STAT_ROLE]
    omega
  · decide
  · decide

theorem same_onMir {b c : Blk} {T : Nat → Prop} (h : SameBut b c T) (f : Mir → Mir) : SameBut b (c.onMir f) T :=
  fun a ha => h a ha

theorem makeF_sides (fn : Nat) : SameBut b (b.makeF fn).2 sideWords := by
  unfold Blk.makeF
  split
  · have hfree : SameBut b b.carryStaged.free.2 sideWords := same_regs rfl
    exact same_onMir (same_wrSat hfree _ _ (by decide)) _
  · exact same_refl b _

theorem hingeTags_sides (f : Option HingeFrame) (hits : List (Fin 16 × Nat × Flip)) :
    SameBut b (b.hingeTags f hits).2 sideWords := by
  cases f with
  | none => exact same_refl b _
  | some f =>
    refine same_foldl _ _ (fun c x _ => ?_) b
    dsimp only
    split
    · exact wardFail_sides c (by decide) _
    · exact same_refl c _

/-- The block when a tick makes the Hinge frame. -/
def Blk.tickBegun (b : Blk) : Blk := (b.onTick fun t => { t with ended := b.frameLen }).degTick

/-- The block once the Hinge frame of the tick is made. -/
def Blk.frameMade (b : Blk) (x : TickSeen) : Blk :=
  ((b.tickBegun.makeF b.tickBegun.fn).2.hingeTags (b.tickBegun.makeF b.tickBegun.fn).1 x.hinge).2

theorem frameMade_sides (x : TickSeen) : SameBut b (b.frameMade x) sideWords := by
  have hbegun : SameBut b b.tickBegun sideWords := same_regs rfl
  exact same_trans hbegun (same_trans (makeF_sides _ _) (hingeTags_sides _ _ _))

theorem mirrorLoad_of_not_standby (h : b.standby = false) : b.mirrorLoad = b := by
  unfold Blk.mirrorLoad
  split
  · simp [h]
  · rfl

/-- On a module that follows no mirror the frame that opens has the next number. -/
theorem frameMade_fn (x : TickSeen) (h : b.standby = false) : (b.frameMade x).mirrorLoad.fn = b.fn := by
  have hside := frameMade_sides b x
  rw [mirrorLoad_of_not_standby _ ((standby_of_sides hside).trans h), fn_of_sides hside]

/-! The end of a tick. -/

/-- A tick ends with Ward's part and the other units', the count of frames, and what is noted for one frame only. -/
theorem doFrameTick_shape (x : TickSeen) (l : List Nat) (h : b.ticks = true) : ∃ (c : Blk) (f : Option HingeFrame),
    b.doFrameTick x l = ((c.ownTick.hingeTick.setFn ((b.frameMade x).mirrorLoad.fn + 1)).frameClear).sendF f := by
  unfold Blk.doFrameTick
  rw [if_pos h]
  dsimp only
  exact ⟨_, _, rfl⟩

theorem ownTick_aside : b.ownTick.aside = b.wardTick.aside := by simp [Blk.ownTick]

theorem ward_of_aside {b c : Blk} (h : c.aside = b.aside) : c.ward = b.ward := congrArg Prod.fst h

theorem ownTick_copied : b.ownTick.hingeTick.ward.copied = [] := by
  rw [ward_of_aside (Blk.hingeTick_aside _), ward_of_aside (ownTick_aside b), Blk.wardTick]
  simp only [Blk.onWard]

/-- Once what is noted for one frame is cleared and F is sent, FRAME_NO and Ward are as before. -/
theorem tickEnd_kept (f : Option HingeFrame) :
    (b.frameClear.sendF f).fn = b.fn ∧ (b.frameClear.sendF f).ward = b.ward := by
  cases f with
  | none => exact ⟨rfl, rfl⟩
  | some f => exact ⟨rfl, rfl⟩

theorem sendF_noted (f : Option HingeFrame) : (b.sendF f).le = b.le ∧ (b.sendF f).mir = b.mir := by
  cases f with
  | none => exact ⟨rfl, rfl⟩
  | some f => exact ⟨rfl, rfl⟩

/-- What is noted for one frame only begins anew. -/
theorem tickEnd_noted (f : Option HingeFrame) :
    (b.frameClear.sendF f).le.lostNow = [] ∧ (b.frameClear.sendF f).mir.fresh = false ∧
    (∀ x ∈ (b.frameClear.sendF f).mir.came, x = false) ∧
    ∀ c ∈ (b.frameClear.sendF f).le.chans, c.sat = false ∧ c.overran = false := by
  obtain ⟨hle, hmir⟩ := sendF_noted b.frameClear f
  rw [hle, hmir]
  refine ⟨rfl, rfl, fun x hx => ?_, fun c hc => ?_⟩
  · obtain ⟨_, -, rfl⟩ := List.mem_map.mp hx
    rfl
  · obtain ⟨_, -, rfl⟩ := List.mem_map.mp hc
    exact ⟨rfl, rfl⟩

theorem doFrameTick_ticked (x : TickSeen) (l : List Nat) (h : b.ticks = true) :
    (b.standby = false → (b.doFrameTick x l).fn = (b.fn + 1) % 2 ^ 48) ∧
    (b.doFrameTick x l).le.lostNow = [] ∧ (b.doFrameTick x l).mir.fresh = false ∧
    (∀ y ∈ (b.doFrameTick x l).mir.came, y = false) ∧
    (∀ c ∈ (b.doFrameTick x l).le.chans, c.sat = false ∧ c.overran = false) ∧
    (b.doFrameTick x l).ward.copied = [] := by
  obtain ⟨c, f, hc⟩ := doFrameTick_shape b x l h
  rw [hc]
  obtain ⟨hfn, hward⟩ := tickEnd_kept (c.ownTick.hingeTick.setFn ((b.frameMade x).mirrorLoad.fn + 1)) f
  obtain ⟨hlost, hfresh, hcame, hchans⟩ :=
    tickEnd_noted (c.ownTick.hingeTick.setFn ((b.frameMade x).mirrorLoad.fn + 1)) f
  refine ⟨fun hs => ?_, hlost, hfresh, hcame, hchans, ?_⟩
  · rw [hfn, Blk.setFn_fn, frameMade_fn b x hs]
  · rw [hward, setFn_ward, ownTick_copied]

theorem doDisciplineLocked_eq (hd : b.dstate = 1) (h : 64 ≤ b.tick.inBand) :
    b.doDisciplineLocked = (b.wr R.TICK_STAT_DSTATE 2).raise 0x1002 0 [] := if_pos ⟨hd, h⟩

end

/-- Settles O48: the count of frames is written last but for notes of one frame and F, from the number that stood before
the Hinge frame was made, which writes words of the units alone. -/
theorem frameTick : Obligations.FrameTick := by
  unfold Obligations.FrameTick
  refine ⟨?count, ?stands, ?ticks, ?locks, ?keeps⟩
  case count => exact fun b v => ⟨b.setFn_fn v, setFn_same b v⟩
  case stands => exact fun s x l h => yields_onBlk rfl (if_neg (by simp [h])) rfl
  case ticks => exact fun s x l h => yields_onBlk rfl rfl (doFrameTick_ticked s.blk x _ h)
  case locks =>
    intro s hp hd hb
    have hlock := doDisciplineLocked_eq s.blk hd hb
    refine yields_within rfl hp ?_
    dsimp only
    rw [hlock]
    refine ⟨?_, Blk.raise_tick _ _ _ _, Blk.raise_self _ _ _ _⟩
    exact (Blk.raise_rd _ _ _ _ _ (by decide)).trans (Blk.rd_wr_self _ _ _ (by simp [Fld.inWord, R.TICK_STAT_DSTATE]))
  case keeps => exact fun s hd => yields_within_same rfl (if_neg fun h => hd h.1)

end Sys2Proof.Machine
end

section
/-! PROOFS. The phases of a frame (R65, R68, R239). -/

namespace Sys2Proof.Machine

section
variable (b : Blk)

/-! A fold over units in which one unit writes what is looked at. -/

theorem eachOf_view_other {α : Type} (V : Blk → α) {l : List Nat} {m : Nat} {f : Nat → Blk → Blk} (hm : m ∉ l)
    (hf : ∀ i b, i ≠ m → V (f i b) = V b) : V (b.eachOf l f) = V b := by
  induction l generalizing b with
  | nil => rfl
  | cons x l ih =>
    obtain ⟨hx, hl⟩ := not_or.mp (mt List.mem_cons.mpr hm)
    exact (ih (f x b) hl).trans (hf x b (Ne.symm hx))

/-- Where the other units leave what is looked at, a fold over different units shows what the one unit makes of it. -/
theorem eachOf_view {α : Type} (V : Blk → α) {l : List Nat} {m : Nat} {f : Nat → Blk → Blk} (hl : l.Nodup) (hm : m ∈ l)
    (hf : ∀ i b, i ≠ m → V (f i b) = V b) : ∃ c, V c = V b ∧ V (b.eachOf l f) = V (f m c) := by
  induction l generalizing b with
  | nil => exact absurd hm List.not_mem_nil
  | cons x l ih =>
    obtain ⟨hx, hl⟩ := List.nodup_cons.mp hl
    rcases List.mem_cons.mp hm with rfl | hm
    · exact ⟨b, rfl, eachOf_view_other (f m b) V hx hf⟩
    · obtain ⟨c, hc, hv⟩ := ih (f x b) hl hm
      exact ⟨c, hc.trans (hf x b fun he => hx (he ▸ hm)), hv⟩

theorem each_view {α : Type} (V : Blk → α) {n m : Nat} {f : Nat → Blk → Blk} (hm : m < n)
    (hf : ∀ i b, i ≠ m → V (f i b) = V b) : ∃ c, V c = V b ∧ V (b.each n f) = V (f m c) :=
  eachOf_view b V List.nodup_range (List.mem_range.mpr hm) hf

/-! Output words whose tags pass. -/

theorem outWord_clean (c : Nat) (w : List Int) (k : Nat) : outWord c [] w k = some (iAt w k) := rfl

theorem iAt_words (w : List Int) (k : Nat) : iAt ((List.range w.length).map fun k => iAt w k) k = iAt w k := by
  unfold iAt
  by_cases hk : k < w.length
  · simp [List.getD_eq_getElem?_getD, hk]
  · simp [List.getD_eq_getElem?_getD, hk]

/-- A channel whose words are applied. -/
def Chan.applying (w : List Int) (ref : List Int) (x : Chan) : Chan :=
  { x with applied := keepBad x.applied ((List.range w.length).map fun k => iAt w k) [], outs := none
           appliedOf := x.rt.map (fun y => iAt y.out 0), appliedRef := ref }

/-- The words of a stepper whose tags pass enter its shadow registers. -/
theorem outputWordsIn_stepper (n : Nat) {w : List Int} (h : (b.chan (8 + n)).outs = some w) : ∃ ref,
    b.outputWordsIn (8 + n) [] = ((b.onStp n fun s => { s with pvA := s.shA, pvB := s.shB }).onChan (8 + n)
      (Chan.applying w ref)).onStp n fun s => { s with shA := iAt w 0, shB := iAt w 1 } := by
  have hn : ¬ 8 + n < 8 := by omega
  have hs : 8 + n - 8 = n := by omega
  have hchan : ∀ f : Stepper → Stepper, (b.onStp n f).chan (8 + n) = b.chan (8 + n) := fun _ => rfl
  unfold Blk.outputWordsIn
  simp only [hn, if_false, hs, hchan, h, outWord_clean, Option.isNone_some, List.filter_false, Option.getD_some,
    iAt_words, Blk.tagFails, List.isEmpty_nil, if_true, List.contains_nil, Bool.false_eq_true]
  exact ⟨_, rfl⟩

theorem configured_of_regs {b c : Blk} (h : c.regs = b.regs) (n : Nat) : c.configured n = b.configured n := by
  simp only [Blk.configured, Blk.on, Blk.rd, Blk.word, h]

/-- What OUTPUT_PHASE is looked at for: the registers, a channel, and a stepper. -/
def outView (c n : Nat) (b : Blk) : List (Nat × Word) × Option Chan × Option Stepper :=
  (b.regs, b.le.chans[c]?, b.stps[n]?)

theorem outView_onDrv (c n k : Nat) (f : Drive → Drive) : outView c n (b.onDrv k f) = outView c n b := rfl

theorem outView_onStp (c : Nat) {n k : Nat} (h : k ≠ n) (f : Stepper → Stepper) :
    outView c n (b.onStp k f) = outView c n b := by
  simp [outView, Blk.onStp, h]

theorem outView_onChan {c k : Nat} (n : Nat) (h : k ≠ c) (f : Chan → Chan) :
    outView c n (b.onChan k f) = outView c n b := by
  simp [outView, Blk.onChan, h]

theorem outView_shadowDrive (c n k : Nat) (w : List Int) (bad : List Nat) :
    outView c n (b.shadowDrive k w bad) = outView c n b := by
  unfold Blk.shadowDrive
  by_cases h : w.length = 3
  · rw [if_pos h]
    rfl
  · rw [if_neg h]
    rfl

/-- The words of another channel leave a stepper, its channel and the registers. -/
theorem outputWordsIn_other {c n : Nat} (h : c ≠ 8 + n) :
    outView (8 + n) n (b.outputWordsIn c []) = outView (8 + n) n b := by
  unfold Blk.outputWordsIn
  simp only [outWord_clean, Option.isNone_some, List.filter_false, Blk.tagFails, List.isEmpty_nil, if_true]
  by_cases hc : c < 8
  · simp only [hc, if_true]
    split
    · rfl
    · rw [outView_shadowDrive, outView_onChan _ _ h, outView_onDrv]
  · have hstp : c - 8 ≠ n := by omega
    simp only [hc, if_false]
    split
    · rw [outView_onStp _ _ hstp]
    · rw [outView_onStp _ _ hstp, outView_onChan _ _ h, outView_onStp _ _ hstp]

/-- After the words of every configured channel the stepper's shadow registers hold its words. -/
theorem outputWords_stepper {n : Nat} {w : List Int} (hn : n < 8) (hc : b.configured (8 + n) = true)
    (h : (b.chan (8 + n)).outs = some w) {c : Blk}
    (hb : c = b.each 16 fun c b => if b.configured c then b.outputWordsIn c [] else b) :
    (∀ x, c.stps[n]? = some x → x.shA = iAt w 0 ∧ x.shB = iAt w 1) ∧
      ∀ ch, c.le.chans[8 + n]? = some ch → ch.outs = none := by
  obtain ⟨d, hd, hv⟩ := each_view b (outView (8 + n) n) (n := 16) (m := 8 + n)
    (f := fun c b => if b.configured c then b.outputWordsIn c [] else b) (by omega) fun i b hi => by
      split_ifs
      · exact outputWordsIn_other b hi
      · rfl
  subst hb
  simp only [outView, Prod.mk.injEq] at hd hv
  obtain ⟨hregs, hchan, -⟩ := hd
  have hconf : d.configured (8 + n) = true := (configured_of_regs hregs _).trans hc
  have houts : (d.chan (8 + n)).outs = some w := by
    rw [← h, Blk.chan, Blk.chan, List.getD_eq_getElem?_getD, List.getD_eq_getElem?_getD, hchan]
  obtain ⟨ref, hw⟩ := outputWordsIn_stepper d n houts
  rw [if_pos hconf, hw] at hv
  obtain ⟨-, hch, hst⟩ := hv
  rw [hch, hst]
  refine ⟨fun x hx => ?_, fun ch hx => ?_⟩
  · simp only [Blk.onStp, Blk.onChan, List.getElem?_modify, if_true] at hx
    obtain ⟨y, -, rfl⟩ := Option.map_eq_some_iff.mp hx
    exact ⟨rfl, rfl⟩
  · simp only [Blk.onStp, Blk.onChan, List.getElem?_modify, if_true] at hx
    obtain ⟨y, -, rfl⟩ := Option.map_eq_some_iff.mp hx
    rfl

/-! The rest of OUTPUT_PHASE, and a reload point. -/

/-- The requests at OUTPUT_PHASE, and what follows from them, leave the channels and the words in shadow registers. -/
theorem outputRequests_calm (cyc : Nat) : (((b.each 8 fun n b => if b.configured n then b.driveRequests n else b).each 8
    fun n b => if b.configured (8 + n) then b.stepRequests n else b).settle.offNote cyc).calm = b.calm := by
  simp

theorem stepper_of_calm {b c : Blk} (h : c.calm = b.calm) : c.le = b.le ∧
    c.stps.map (fun s => (s.shA, s.shB)) = b.stps.map (fun s => (s.shA, s.shB)) := by
  simp only [Blk.calm, Prod.mk.injEq] at h
  obtain ⟨⟨-, -, hle, hstps, -⟩, -⟩ := h
  exact ⟨hle, hstps⟩

theorem firstEdges_kept (c : Nat) : (b.firstEdges c).stps = b.stps ∧ (b.firstEdges c).drvs = b.drvs := by
  unfold Blk.firstEdges
  split
  · exact ⟨Blk.raise_stps _ _ _ _, Blk.raise_drvs _ _ _ _⟩
  · exact ⟨rfl, rfl⟩

/-- At its valley a stepper takes the words in its shadow registers, or the previous ones. -/
theorem doShadowTransfer_stepper {n cyc : Nat} (t : Nat) (hc : b.configured (8 + n) = true)
    (hp : b.powered .pwm = true) (hv : b.stpValley n cyc = true) (hs : b.stpState n = 1 ∨ b.stpState n = 2) :
    b.doShadowTransfer (8 + n) false cyc t = b.onStp n fun s => if 64 ≤ b.sinceOut cyc then
      { s with dutyA := s.shA, dutyB := s.shB } else { s with dutyA := s.pvA, dutyB := s.pvB } := by
  have hn : ¬ 8 + n < 8 := by omega
  have hn8 : 8 + n - 8 = n := by omega
  unfold Blk.doShadowTransfer
  simp [hc, hp, hn, hn8, hv, hs]

/-- The words of a drive whose pulses are blocked go nowhere, whatever a transfer would make of them. -/
theorem blocked_takes_none {c : Nat} (hp : b.pstate c = 0 ∨ b.pstate c = 2 ∨ b.pstate c = 5)
    (hr : b.shadowOf c = none ∨ b.runState c ≠ 1) (x y z : Blk) :
    (if b.pstate c = 1 ∧ b.gateEn c then x else if b.pstate c = 3 ∨ b.pstate c = 4 then y
      else if (b.shadowOf c).isSome ∧ b.runState c = 1 then z else b) = b := by
  rw [if_neg (by omega), if_neg (by omega), if_neg]
  rintro ⟨hs, h⟩
  rcases hr with hr | hr
  · simp [hr] at hs
  · exact hr h

/-- A drive whose pulses are blocked takes no word; a valley ends a carrier cycle that was cut short. -/
theorem doShadowTransfer_blocked {c : Nat} (p : Bool) (cyc t : Nat) (hc : c < 8)
    (hp : b.pstate c = 0 ∨ b.pstate c = 2 ∨ b.pstate c = 5) (hr : b.shadowOf c = none ∨ b.runState c ≠ 1) :
    b.doShadowTransfer c p cyc t = b ∨ b.doShadowTransfer c p cyc t = b.onDrv c fun d => { d with shortCyc := 0 } := by
  unfold Blk.doShadowTransfer
  by_cases hoff : b.configured c = false ∨ b.powered .pwm = false
  · exact .inl (if_pos hoff)
  by_cases hat : b.reloadAt c cyc = some p
  · simp only [hoff, hc, hat, if_false, if_true]
    by_cases hkeep : p = true ∨ (b.carrierAt c cyc).2.2 = true
    · rw [if_pos hkeep]
      exact .inl (blocked_takes_none b hp hr _ _ _)
    · rw [if_neg hkeep]
      exact .inr (blocked_takes_none (b.onDrv c _) hp hr _ _ _)
  · simp [hoff, hc, hat]

/-- What a stepper's valley shows once the first edges after a takeover are noted. -/
theorem stepperTransfer_duty {n cyc : Nat} (t : Nat) (hc : b.configured (8 + n) = true)
    (hp : b.powered .pwm = true) (hv : b.stpValley n cyc = true) (hs : b.stpState n = 1 ∨ b.stpState n = 2)
    {x : Stepper} (hx : ((b.doShadowTransfer (8 + n) false cyc t).firstEdges (8 + n)).stps[n]? = some x) :
    (x.dutyA, x.dutyB) =
      if 64 ≤ b.sinceOut cyc then ((b.stp n).shA, (b.stp n).shB) else ((b.stp n).pvA, (b.stp n).pvB) := by
  obtain ⟨hstps, -⟩ := firstEdges_kept (b.doShadowTransfer (8 + n) false cyc t) (8 + n)
  rw [hstps, doShadowTransfer_stepper b t hc hp hv hs] at hx
  simp only [Blk.onStp, List.getElem?_modify, if_true] at hx
  obtain ⟨y, hy, rfl⟩ := Option.map_eq_some_iff.mp hx
  have hstp : b.stp n = y := by rw [Blk.stp, List.getD_eq_getElem?_getD, hy, Option.getD_some]
  rw [hstp]
  by_cases h : 64 ≤ b.sinceOut cyc
  · simp [h]
  · simp [h]

/-- A reload point of a blocked drive leaves the steppers, and the drives but for the cycle cut short. -/
theorem blockedTransfer_kept {c : Nat} (p : Bool) (cyc t : Nat) (hc : c < 8)
    (hp : b.pstate c = 0 ∨ b.pstate c = 2 ∨ b.pstate c = 5) (hr : b.shadowOf c = none ∨ b.runState c ≠ 1) :
    ((b.doShadowTransfer c p cyc t).firstEdges c).stps = b.stps ∧
      ((b.doShadowTransfer c p cyc t).firstEdges c).drvs.map (fun (x : Drive) => { x with shortCyc := 0 }) =
        b.drvs.map fun (x : Drive) => { x with shortCyc := 0 } := by
  obtain ⟨hstps, hdrvs⟩ := firstEdges_kept (b.doShadowTransfer c p cyc t) c
  rw [hstps, hdrvs]
  rcases doShadowTransfer_blocked b p cyc t hc hp hr with h | h
  · rw [h]
    exact ⟨rfl, rfl⟩
  · rw [h]
    exact ⟨rfl, map_modify_of_eq _ _ _ _ fun _ => rfl⟩

theorem doOutputPhase_clean (hf : b.powered .fabric = true) (hp : b.powered .pwm = true) :
    (b.doOutputPhase []).calm = (b.each 16 fun c b => if b.configured c then b.outputWordsIn c [] else b).calm := by
  unfold Blk.doOutputPhase
  simp only [hf, hp, Bool.true_eq_false, or_self, if_false, List.filter_nil, List.map_nil]
  exact outputRequests_calm _ _

/-- OUTPUT_PHASE puts the words of a stepper into its shadow registers. -/
theorem doOutputPhase_stepper {n : Nat} {w : List Int} (hn : n < 8) (hf : b.powered .fabric = true)
    (hp : b.powered .pwm = true) (hc : b.configured (8 + n) = true) (h : (b.chan (8 + n)).outs = some w) :
    (∀ x, (b.doOutputPhase []).stps[n]? = some x → x.shA = iAt w 0 ∧ x.shB = iAt w 1) ∧
      ∀ ch, (b.doOutputPhase []).le.chans[8 + n]? = some ch → ch.outs = none := by
  obtain ⟨hwords, houts⟩ := outputWords_stepper b hn hc h rfl
  obtain ⟨hle, hstps⟩ := stepper_of_calm (doOutputPhase_clean b hf hp)
  rw [hle]
  refine ⟨fun x hx => ?_, houts⟩
  have hn := congrArg (fun l => l[n]?) hstps
  simp only [List.getElem?_map, hx, Option.map_some] at hn
  obtain ⟨y, hy, hxy⟩ := Option.map_eq_some_iff.mp hn.symm
  obtain ⟨hA, hB⟩ := Prod.mk.inj hxy
  exact hA ▸ hB ▸ hwords y hy

end

/-- Settles O49, phase by phase. -/
theorem framePhases : Obligations.FramePhases := by
  unfold Obligations.FramePhases
  refine ⟨?still, ?output, ?valley, ?blocked, ?pair⟩
  case still =>
    rintro s c h (⟨x, y, z, rfl⟩ | ⟨x, rfl⟩ | ⟨x, p, cyc, v, rfl⟩ | ⟨k, rfl⟩)
    all_goals exact yields_notInFrame rfl h
  case output =>
    intro s n w h8 hr hf hp hc h
    exact yields_inFrame rfl h8 hr (doOutputPhase_stepper s.blk n.isLt hf hp hc h)
  case valley =>
    rintro s n ⟨c, hlt⟩ cyc v rfl h8 hr hp hc hv hs
    exact yields_inFrame rfl h8 hr fun x hx => stepperTransfer_duty s.blk _ hc hp hv hs hx
  case blocked =>
    exact fun s c p cyc v hc hp hr =>
      yields_inFrame_either rfl (blockedTransfer_kept s.blk p cyc _ hc hp hr) ⟨rfl, rfl⟩
  case pair =>
    intro s k h
    have hstay : s.blk.doCheckpoint k = s.blk := if_pos (.inr (.inr h))
    exact yields_inFrame_either rfl (congrArg (fun b => { s with blk := b }) hstay) rfl

end Sys2Proof.Machine
end

section
/-! PROOFS. The latch of SAMPLE_PHASE and the checkpoints (R206, R357). -/

namespace Sys2Proof.Machine

section
variable (b : Blk)

/-- SAMPLE_PHASE latches the payloads in force, and nothing in it writes them again. -/
theorem sampled_lat (x : Samples) (y : List InputHit) (z : List (Nat × Nat)) (hf : b.powered .fabric = true)
    (hg : b.blockGood 3 = true) :
    (b.sllLatch.doSamplePhase x y z).sll.lat = (List.range 64).map fun k => b.sesPayload k := by
  have hlat : b.sllLatch.sll.lat = (List.range 64).map fun k => b.sesPayload k := by
    unfold Blk.sllLatch
    rw [if_pos ⟨hf, hg⟩]
    rfl
  exact (congrArg (fun a => a.2.1) (Blk.doSamplePhase_aside b.sllLatch x y z)).trans hlat

/-! The checkpoints of a pair's channels. -/

/-- What a checkpoint is looked at for: FRAME_NO, the channel's LE_CKFN word and the channel. -/
def ckView (c : Nat) (b : Blk) : Nat × Nat × Option Chan := (b.fn, b.rd (R.LE_CKFN_FN c), b.le.chans[c]?)

theorem wr_units_fn {f : Fld} (v : Nat) (h : unitWords f.off) : (b.wr f v).fn = b.fn :=
  fn_of_units (same_wr (same_refl b _) f v h)

/-- A channel's checkpoint as it is written. -/
def Blk.ckOf (b : Blk) (c : Nat) : Ckpt :=
  if c < 8 then ⟨b.fn, (b.chan c).rt, (b.chan c).applied, (b.drv c).ramp, (b.drv c).iqRaw, (b.drv c).idRef, none⟩
  else ⟨b.fn, (b.chan c).rt, (b.chan c).applied, 0, 0, 0, none⟩

theorem ckOf_fn (c : Nat) : (b.ckOf c).fn = b.fn := by
  unfold Blk.ckOf
  split_ifs
  · rfl
  · rfl

/-- The slot of the frame's parity takes the checkpoint. -/
def Chan.withCk (fn : Nat) (k : Ckpt) (x : Chan) : Chan :=
  if fn % 2 = 0 then { x with slot0 := some k } else { x with slot1 := some k }

theorem withCk_slot (fn : Nat) (k : Ckpt) (x : Chan) :
    (if fn % 2 = 0 then (x.withCk fn k).slot0 else (x.withCk fn k).slot1) = some k := by
  unfold Chan.withCk
  split_ifs
  · rfl
  · rfl

theorem writeCk_eq {c : Nat} (h : (b.chan c).overran = false) :
    b.writeCk c = (b.onChan c (Chan.withCk b.fn (b.ckOf c))).wr (R.LE_CKFN_FN c) b.fn := by
  unfold Blk.writeCk
  simp only [h, Bool.false_eq_true, if_false]
  rfl

theorem writeCk_overran {c : Nat} (h : (b.chan c).overran = true) : b.writeCk c = b := by
  unfold Blk.writeCk
  exact if_pos h

/-- The checkpoint of another channel. -/
theorem writeCk_other {i c : Nat} (h : i ≠ c) : ckView c (b.writeCk i) = ckView c b := by
  rcases Bool.eq_false_or_eq_true (b.chan i).overran with ho | ho
  · rw [writeCk_overran b ho]
  · have hoff : (R.LE_CKFN_FN c).off ≠ (R.LE_CKFN_FN i).off := by
      simp only [R.LE_CKFN_FN]
      omega
    rw [writeCk_eq b ho]
    refine Prod.ext (wr_units_fn _ _ unit_at) (Prod.ext (Blk.rd_wr_off _ _ _ _ hoff) ?_)
    simp [ckView, Blk.onChan, h]

/-- The channel's own checkpoint. -/
theorem writeCk_self {c : Nat} (h : (b.chan c).overran = false) : (b.writeCk c).rd (R.LE_CKFN_FN c) = b.fn % 2 ^ 32 ∧
    ∀ x, (b.writeCk c).le.chans[c]? = some x →
      ((if b.fn % 2 = 0 then x.slot0 else x.slot1).map fun y => y.fn) = some b.fn := by
  rw [writeCk_eq b h]
  refine ⟨Blk.rd_wr_self _ _ _ (by simp [Fld.inWord, R.LE_CKFN_FN]), fun x hx => ?_⟩
  rw [Blk.wr_le] at hx
  simp only [Blk.onChan, List.getElem?_modify, if_true] at hx
  obtain ⟨y, -, rfl⟩ := Option.map_eq_some_iff.mp hx
  rw [withCk_slot, Option.map_some, ckOf_fn]

/-- Whether a channel has overrun is part of what the loop programs leave beside. -/
theorem overran_of_aside {b c : Blk} (h : c.aside = b.aside) (n : Nat) : (c.chan n).overran = (b.chan n).overran := by
  have hl : (c.le.chans.map (·.overran))[n]? = (b.le.chans.map (·.overran))[n]? := congrArg (fun a => a.2.2[n]?) h
  rw [List.getElem?_map, List.getElem?_map] at hl
  rw [Blk.chan, Blk.chan, List.getD_eq_getElem?_getD, List.getD_eq_getElem?_getD]
  revert hl
  cases c.le.chans[n]? <;> cases b.le.chans[n]? <;> simp

/-- The block when the checkpoints of pair k are written: the post-output windows, the supervision, the capture and
Strata's counts are done. -/
theorem doCheckpoint_eq {k : Nat} (hf : b.powered .fabric = true) (hr : b.clk.stop = false) (hp : b.pairRuns k = true) :
    ∃ d : Blk, d.steady = b.steady ∧
      b.doCheckpoint k = d.eachOf ((b.chansOn k).filter fun c => b.computes c) fun c b => b.writeCk c := by
  unfold Blk.doCheckpoint
  simp only [hf, hr, hp, Bool.true_eq_false, Bool.false_eq_true, or_self, if_false]
  exact ⟨_, by simp, rfl⟩

/-- The end of a pair's work writes the checkpoint of a channel that computes and has not overrun. -/
theorem doCheckpoint_writes {k c : Nat} (hc : c < 16) (hf : b.powered .fabric = true) (hr : b.clk.stop = false)
    (hp : b.pairRuns k = true) (hk : b.pairOf c = k) (hcomp : b.computes c = true) (ho : (b.chan c).overran = false) :
    (b.doCheckpoint k).rd (R.LE_CKFN_FN c) = b.fn % 2 ^ 32 ∧
      ∀ x, (b.doCheckpoint k).le.chans[c]? = some x →
        ((if b.fn % 2 = 0 then x.slot0 else x.slot1).map fun y => y.fn) = some b.fn := by
  obtain ⟨d, hd, heq⟩ := doCheckpoint_eq b hf hr hp
  have hconf : b.configured c = true := by
    simp only [Blk.computes, Bool.and_eq_true] at hcomp
    exact hcomp.1.1.1.1
  have hmem : c ∈ (b.chansOn k).filter fun c => b.computes c := by
    simp [Blk.chansOn, hc, hconf, hk, hcomp]
  have hnodup : ((b.chansOn k).filter fun c => b.computes c).Nodup := (List.nodup_range.filter _).filter _
  obtain ⟨e, he, hv⟩ := eachOf_view d (ckView c) hnodup hmem fun i a hi => writeCk_other a hi
  have hfn : d.fn = b.fn := congrArg Prod.snd hd
  have hfn' : e.fn = d.fn := congrArg (·.1) he
  have hchan : e.le.chans[c]? = d.le.chans[c]? := congrArg (·.2.2) he
  have hover : (e.chan c).overran = false := by
    rw [← ho, ← overran_of_aside (aside_of_steady hd) c, Blk.chan, Blk.chan, List.getD_eq_getElem?_getD,
      List.getD_eq_getElem?_getD, hchan]
  obtain ⟨hword, hslot⟩ := writeCk_self e hover
  have hwrote : (b.doCheckpoint k).rd (R.LE_CKFN_FN c) = (e.writeCk c).rd (R.LE_CKFN_FN c) :=
    heq ▸ congrArg (·.2.1) hv
  have htook : (b.doCheckpoint k).le.chans[c]? = (e.writeCk c).le.chans[c]? := heq ▸ congrArg (·.2.2) hv
  rw [hwrote, htook, ← hfn, ← hfn']
  exact ⟨hword, hslot⟩

end

/-- Settles O50: the latch of SAMPLE_PHASE stands to its end, and the windows of a pair leave FRAME_NO and which
channels have overrun. -/
theorem frameWork : Obligations.FrameWork := by
  unfold Obligations.FrameWork
  refine ⟨?latch, ?checkpoint⟩
  case latch => exact fun s x y z h8 hr hf hg => yields_inFrame rfl h8 hr (sampled_lat s.blk x y _ hf hg)
  case checkpoint =>
    exact fun s k c h8 hr hf hp hk hcomp ho =>
      yields_inFrame rfl h8 hr (doCheckpoint_writes s.blk c.isLt hf hr hp hk hcomp ho)

end Sys2Proof.Machine
end

section
/-! PROOFS. Overruns (R53 to R56). -/

namespace Sys2Proof.Machine

section
variable {b : Blk}

/-! Reports stay where words above the rings are written. -/

theorem reported_wr_above {c s : Nat} (h : Reported b c s) (f : Fld) (v : Nat) (hf : 0x4260 ≤ f.off) :
    Reported (b.wr f v) c s := by
  have hfilt : f.off ≠ R.HIF_EVFILT_MIN.off := by
    simp only [R.HIF_EVFILT_MIN]
    omega
  have hdom : f.off ≠ R.PWR_DOMSTAT_ON.off := by
    simp only [R.PWR_DOMSTAT_ON]
    omega
  exact reported_wr h f v hfilt (ringSpace_wr b f v 10 (.inr hf) (by decide) hdom)

theorem reported_onChan {c s : Nat} (h : Reported b c s) (n : Nat) (f : Chan → Chan) : Reported (b.onChan n f) c s := h
theorem reported_onLe {c s : Nat} (h : Reported b c s) (f : Le → Le) : Reported (b.onLe f) c s := h
theorem reported_noteLim {c s : Nat} (h : Reported b c s) (k n : Nat) : Reported (b.noteLim k n) c s := h

theorem reported_raiseLim {c s : Nat} (h : Reported b c s) (span k n : Nat) (i : List Int) :
    Reported (b.raiseLim span k n i) c s := by
  have hraise : Reported ((b.raise k n i).noteLim k n) c s := reported_noteLim (Blk.raise_mono b k n i h) k n
  unfold Blk.raiseLim Blk.raiseKey
  split
  · split_ifs
    · exact h
    · exact hraise
  · exact hraise

theorem reported_wardFail {c s : Nat} (h : Reported b c s) (cls key : Nat) : Reported (b.wardFail cls key) c s := by
  have hcount : Reported (((b.inc (R.WARD_CNT_COUNT cls)).wr R.WARD_LAST_KEY key).wr R.WARD_LAST_FN b.fn) c s :=
    reported_wr_above (reported_wr_above (reported_wr_above h _ _ (by simp only [R.WARD_CNT_COUNT]; omega)) _ _
      (by decide)) _ _ (by decide)
  unfold Blk.wardFail
  dsimp only
  split_ifs
  · exact reported_raiseLim hcount _ _ _ _
  · exact hcount

theorem reported_ckFails {c s : Nat} (h : Reported b c s) (n w : Nat) : Reported (b.ckFails n w) c s :=
  reported_wr_above (reported_wr_above (reported_wardFail h _ _) _ _ (by simp only [R.LE_ERR_CKF]; omega)) _ _
    (by decide)

/-! A checkpoint slot that fails, and the pick of a checkpoint. -/

theorem wardFail_le (cls key : Nat) : (b.wardFail cls key).le = b.le := by
  unfold Blk.wardFail
  dsimp only
  have hcount : (((b.inc (R.WARD_CNT_COUNT cls)).wr R.WARD_LAST_KEY key).wr R.WARD_LAST_FN b.fn).le = b.le := by
    rw [Blk.wr_le, Blk.wr_le, Blk.inc_le]
  split_ifs
  · exact (Blk.raiseLim_le _ _ _ _ _).trans hcount
  · exact hcount

theorem ckFails_le (n w : Nat) : (b.ckFails n w).le = b.le := by
  rw [Blk.ckFails, Blk.flag_le, Blk.inc_le, wardFail_le]

variable (b) in
/-- A slot of channel c that holds checkpoint k failed at word w. -/
def Blk.ckMarked (b : Blk) (c : Nat) (k : Ckpt) (w : Nat) : Blk :=
  (b.ckFails c w).onChan c (fun x =>
    let f := fun (y : Option Ckpt) => if y = some k then some { k with bad := some w } else y
    { x with slot0 := f x.slot0, slot1 := f x.slot1 })

/-- What the pick of a checkpoint comes to. -/
theorem pickCk_block (c : Nat) : (b.pickCk c).2 = b ∨ ∃ k w, (b.pickCk c).2 = b.ckMarked c k w ∨
    (b.pickCk c).2 = (b.ckMarked c k w).raise 0x7103 c [] ∨
    ∃ l v, (b.pickCk c).2 = (b.ckMarked c k w).ckMarked c l v := by
  unfold Blk.pickCk
  dsimp only
  split
  next k w _ _ =>
    refine .inr ⟨k, w, ?_⟩
    split
    next l v _ _ => exact .inr (.inr ⟨l, v, rfl⟩)
    next l _ _ => exact .inr (.inl rfl)
    next _ _ => exact .inl rfl
  next _ _ => exact .inl rfl

/-- What holds before a checkpoint is picked, and stays when a slot fails or event 0x7103 is raised, holds after. -/
theorem pickCk_keeps {P : Blk → Prop} {c : Nat} (hmark : ∀ b k w, P b → P (b.ckMarked c k w))
    (hraise : ∀ b, P b → P (b.raise 0x7103 c [])) (h : P b) : P (b.pickCk c).2 := by
  rcases pickCk_block (b := b) c with he | ⟨k, w, he | he | ⟨l, v, he⟩⟩
  · rw [he]
    exact h
  · rw [he]
    exact hmark _ _ _ h
  · rw [he]
    exact hraise _ (hmark _ _ _ h)
  · rw [he]
    exact hmark _ _ _ (hmark _ _ _ h)

/-! An overrun (R53). -/

/-- Channel c overran in frame fn, the k-th overrun counted: its outputs held, the count, the flag and the event. -/
def OverrunNoted (c fn k : Nat) (b : Blk) : Prop :=
  b.on R.TICK_STAT_OVR = true ∧ Reported b 0x1102 c ∧ b.rd R.TICK_OVRCNT_COUNT = k ∧
    ∀ x, b.le.chans[c]? = some x → x.outs = none ∧ x.overran = true ∧ x.overruns.head? = some fn

/-- It stays so where only words of the units and the channel's slots change. -/
theorem overrunNoted_keep {c fn k : Nat} {d : Blk} (h : OverrunNoted c fn k b) (hu : SameBut b d unitWords)
    (hr : ∀ s, Reported b 0x1102 s → Reported d 0x1102 s)
    (hc : ∀ x, d.le.chans[c]? = some x → ∃ y, b.le.chans[c]? = some y ∧ x.outs = y.outs ∧ x.overran = y.overran ∧
      x.overruns = y.overruns) : OverrunNoted c fn k d := by
  obtain ⟨hovr, hrep, hcnt, hchan⟩ := h
  refine ⟨(same_on hu _ (by decide)).trans hovr, hr c hrep, (same_rd hu _ (by decide)).trans hcnt, fun x hx => ?_⟩
  obtain ⟨y, hy, houts, hover, hruns⟩ := hc x hx
  rw [houts, hover, hruns]
  exact hchan y hy

theorem overrunNoted_ckMarked {c fn k : Nat} (ck : Ckpt) (w : Nat) (h : OverrunNoted c fn k b) :
    OverrunNoted c fn k (b.ckMarked c ck w) := by
  refine overrunNoted_keep h (same_onChan (ckFails_units b c w) c _)
    (fun s hs => reported_onChan (reported_ckFails hs c w) c _) fun x hx => ?_
  simp only [Blk.ckMarked, Blk.onChan, List.getElem?_modify, if_true, ckFails_le] at hx
  obtain ⟨y, hy, rfl⟩ := Option.map_eq_some_iff.mp hx
  exact ⟨y, hy, rfl, rfl, rfl⟩

theorem overrunNoted_raise {c fn k : Nat} (code src : Nat) (i : List Int) (h : OverrunNoted c fn k b) :
    OverrunNoted c fn k (b.raise code src i) :=
  overrunNoted_keep h (same_raise (same_refl b _) _ _ _ (unit_const rfl)) (fun _ hs => Blk.raise_mono b _ _ _ hs)
    fun x hx => ⟨x, (Blk.raise_le b code src i) ▸ hx, rfl, rfl, rfl⟩

theorem overrunNoted_onLe_tags {c fn k : Nat} (l : List LoadTags) (h : OverrunNoted c fn k b) :
    OverrunNoted c fn k (b.onLe fun x => { x with badTags := l }) := h

theorem overrunNoted_preloadSpare {c fn k : Nat} (h : OverrunNoted c fn k b) : OverrunNoted c fn k (b.preloadSpare c) :=
  pickCk_keeps (P := OverrunNoted c fn k) (fun _ ck w => overrunNoted_ckMarked ck w)
    (fun _ => overrunNoted_raise 0x7103 c []) h

theorem onChan_rd (n : Nat) (f : Chan → Chan) (g : Fld) : (b.onChan n f).rd g = b.rd g := rfl

/-- What an overrun notes before LP4 loads the channel. -/
theorem overran_noted (c : Nat) (i : List Int) :
    OverrunNoted c b.fn (min (b.rd R.TICK_OVRCNT_COUNT + 1) R.TICK_OVRCNT_COUNT.top)
    ((((b.onChan c fun x => { x with outs := none, overran := true, overruns := (b.fn :: x.overruns).take 4 }).flag
      R.TICK_STAT_OVR true).inc R.TICK_OVRCNT_COUNT).raise 0x1102 c i) := by
  have hcount : ∀ d : Blk, (d.inc R.TICK_OVRCNT_COUNT).on R.TICK_STAT_OVR = d.on R.TICK_STAT_OVR := fun d =>
    same_on (same_inc (same_refl d fun a => a = R.TICK_OVRCNT_COUNT.off) _ rfl) _ (by decide)
  have hflag : ∀ d : Blk, (d.flag R.TICK_STAT_OVR true).rd R.TICK_OVRCNT_COUNT = d.rd R.TICK_OVRCNT_COUNT := fun d =>
    same_rd (same_flag (same_refl d fun a => a = R.TICK_STAT_OVR.off) _ _ rfl) _ (by decide)
  refine ⟨?_, Blk.raise_self _ _ _ _, ?_, fun x hx => ?_⟩
  · rw [Blk.raise_on _ _ _ _ _ (by decide), hcount, Blk.on_flag_self _ _ _ (by simp [Fld.inWord, R.TICK_STAT_OVR]) rfl]
  · rw [Blk.raise_rd _ _ _ _ _ (by decide), Blk.rd_inc_self _ _ (by simp [Fld.inWord, R.TICK_OVRCNT_COUNT]), hflag,
      onChan_rd]
  · rw [Blk.raise_le, Blk.inc_le, Blk.flag_le] at hx
    simp only [Blk.onChan, List.getElem?_modify, if_true] at hx
    obtain ⟨y, hy, rfl⟩ := Option.map_eq_some_iff.mp hx
    exact ⟨rfl, rfl, rfl⟩

theorem doOverrun_noted {c : Nat} (hc : b.configured c = true) (hp : b.pairOf c ≤ 4) :
    OverrunNoted c b.fn (min (b.rd R.TICK_OVRCNT_COUNT + 1) R.TICK_OVRCNT_COUNT.top) (b.doOverrun c) := by
  unfold Blk.doOverrun
  rw [if_neg (by simp [hc, hp])]
  dsimp only
  split_ifs
  · exact overrunNoted_preloadSpare (overran_noted c _)
  · exact overran_noted c _

/-! The move to the spare (R55). -/

/-- Channel c runs on LP4, and WARD_SPARE.LP4 shows it taken. -/
def OnSpare (c : Nat) (b : Blk) : Prop := b.pairOf c = 4 ∧ b.on R.WARD_SPARE_LP4 = false

/-- The words that a channel's pair and WARD_SPARE stand in. -/
abbrev spareWords (a : Nat) : Prop := a = R.LE_DMAP_MAP.off ∨ a = R.LE_SMAP_MAP.off ∨ a = R.WARD_SPARE_LP4.off

theorem pairOf_of_same {d : Blk} {T : Nat → Prop} (h : SameBut b d T) (hd : ¬ T R.LE_DMAP_MAP.off)
    (hs : ¬ T R.LE_SMAP_MAP.off) (c : Nat) : d.pairOf c = b.pairOf c := by
  unfold Blk.pairOf
  rw [same_rd h (sliceOf R.LE_DMAP_MAP c 4) hd, same_rd h (sliceOf R.LE_SMAP_MAP (c - 8) 4) hs]

theorem onSpare_of_same {c : Nat} {d : Blk} (h : SameBut b d fun a => ¬ spareWords a) (hb : OnSpare c b) :
    OnSpare c d :=
  ⟨(pairOf_of_same h (by simp) (by simp) c).trans hb.1, (same_on h _ (by simp)).trans hb.2⟩

/-- A failing slot shows in WARD_SPARE.CKS, beside LP4. -/
theorem onSpare_ckFails {c : Nat} (w : Nat) (h : OnSpare c b) : OnSpare c (b.ckFails c w) := by
  have hward : OnSpare c (b.wardFail 2 (0x3000 + c * 256 + w % 256)) := by
    refine onSpare_of_same (same_mono (wardFail_same b 2 _) ?_) h
    rintro a (rfl | rfl | rfl)
    · decide
    · decide
    · decide
  have hinc : OnSpare c ((b.wardFail 2 (0x3000 + c * 256 + w % 256)).inc (R.LE_ERR_CKF (b.pairOf c))) := by
    refine onSpare_of_same (same_inc (same_refl _ _) _ ?_) hward
    rw [h.1]
    decide
  have hpair : ∀ d : Blk, (d.flag R.WARD_SPARE_CKS false).pairOf c = d.pairOf c := fun d =>
    pairOf_of_same (same_flag (same_refl d fun a => a = R.WARD_SPARE_CKS.off) _ _ rfl) (by decide) (by decide) c
  have hlp4 : ∀ d : Blk, (d.flag R.WARD_SPARE_CKS false).on R.WARD_SPARE_LP4 = d.on R.WARD_SPARE_LP4 := fun d =>
    congrArg (· != 0) (Blk.rd_wr_apart d R.WARD_SPARE_CKS R.WARD_SPARE_LP4 _ (by simp [Fld.inWord, R.WARD_SPARE_CKS])
      (.inl (by decide)))
  exact ⟨(hpair _).trans hinc.1, (hlp4 _).trans hinc.2⟩

theorem onSpare_onChan {c : Nat} (n : Nat) (f : Chan → Chan) (h : OnSpare c b) : OnSpare c (b.onChan n f) := h

theorem onSpare_raise {c : Nat} (code src : Nat) (i : List Int) (h : OnSpare c b) : OnSpare c (b.raise code src i) :=
  onSpare_of_same (same_raise (same_refl b _) _ _ _ (by decide)) h

theorem onSpare_pickCk {c : Nat} (h : OnSpare c b) : OnSpare c (b.pickCk c).2 :=
  pickCk_keeps (P := OnSpare c) (fun _ _ w hb => onSpare_onChan c _ (onSpare_ckFails w hb))
    (fun _ => onSpare_raise 0x7103 c []) h

theorem onSpare_startBlend {c : Nat} (n what kind : Nat) (yLast vq vd : Int) (h : OnSpare c b) :
    OnSpare c (b.startBlend n what kind yLast vq vd) := by
  have hoff : ¬ spareWords (R.Dn_CSTAT_HOBL n).off := by
    simp only [spareWords, R.Dn_CSTAT_HOBL, R.LE_DMAP_MAP, R.LE_SMAP_MAP, R.WARD_SPARE_LP4]
    omega
  exact onSpare_of_same (same_flag (same_onDrv (same_refl b _) n _) _ _ hoff) h

/-- Going on from a checkpoint leaves which pair runs the channel. -/
theorem onSpare_resumeFrom {c : Nat} (ck : Option Ckpt) (h : OnSpare c b) : OnSpare c (b.resumeFrom c ck) := by
  cases ck with
  | some k =>
    unfold Blk.resumeFrom
    dsimp only
    split_ifs
    · exact h
    · exact h
  | none =>
    have hraise : ∀ f, OnSpare c ((b.raise 0x7104 c []).onChan c f) := fun f =>
      onSpare_onChan c f (onSpare_raise 0x7104 c [] h)
    unfold Blk.resumeFrom
    dsimp only
    split_ifs
    · exact onSpare_startBlend _ _ _ _ _ _ (onSpare_startBlend _ _ _ _ _ _ (onSpare_onChan _ _ (hraise _)))
    · exact onSpare_onChan _ _ (hraise _)

theorem onSpare_restoreCk {c : Nat} (h : OnSpare c b) : OnSpare c (b.restoreCk c) :=
  onSpare_resumeFrom _ (onSpare_pickCk h)

/-- The map of a channel names the pair written. -/
theorem setMap_pairOf {c k : Nat} (hc : c < 16) (hk : k < 16) : (b.setMap c k).pairOf c = k := by
  unfold Blk.setMap Blk.pairOf
  split_ifs with h
  · rw [Blk.rd_wr_self _ _ _ (by simp [Fld.inWord, sliceOf, R.LE_DMAP_MAP]; omega)]
    exact Nat.mod_eq_of_lt hk
  · rw [Blk.rd_wr_self _ _ _ (by simp [Fld.inWord, sliceOf, R.LE_SMAP_MAP]; omega)]
    exact Nat.mod_eq_of_lt hk

theorem onSpare_setMap {c : Nat} (hc : c < 16) (h : b.on R.WARD_SPARE_LP4 = false) : OnSpare c (b.setMap c 4) := by
  have hmap : SameBut b (b.setMap c 4) fun a => a = R.LE_DMAP_MAP.off ∨ a = R.LE_SMAP_MAP.off :=
    same_ite (fun _ => same_wr (same_refl b _) _ _ (.inl rfl)) fun _ => same_wr (same_refl b _) _ _ (.inr rfl)
  exact ⟨setMap_pairOf hc (by decide), (same_on hmap _ (by decide)).trans h⟩

/-- A capture and an injection that end leave LP4's mark. -/
theorem freed_lp4 (c : Nat) :
    ((b.moveCapture (b.pairOf c) (some c)).abortInj c 5).on R.WARD_SPARE_LP4 = b.on R.WARD_SPARE_LP4 := by
  have hoff : ∀ k, R.WARD_SPARE_LP4.off ≠ (R.LE_CAPSTAT_CAP k).off := fun k => by
    simp only [R.WARD_SPARE_LP4, R.LE_CAPSTAT_CAP]
    omega
  have hmove : SameBut b (b.moveCapture (b.pairOf c) (some c)) fun a => a = (R.LE_CAPSTAT_CAP (b.pairOf c)).off :=
    same_ite (fun _ => same_onTun (same_wr (same_refl b fun a => a = _) _ _ rfl) _ _) fun _ => same_refl b _
  rw [same_on (abortInj_same _ c 5) _ ?_, same_on hmove _ (hoff _)]
  rintro (⟨k, -, hk⟩ | hk)
  · exact hoff k hk
  · exact absurd hk (by unfold dropWord; decide)

theorem moveCapture_calm (k : Nat) (c : Option Nat) : (b.moveCapture k c).calm = b.calm := by
  unfold Blk.moveCapture
  dsimp only
  split_ifs <;> simp

/-- The tags that fail at the loads of a command stay while a capture and an injection end. -/
theorem freed_loadTags (c : Nat) :
    ((b.moveCapture (b.pairOf c) (some c)).abortInj c 5).loadTags c = b.loadTags c := by
  have hle : ((b.moveCapture (b.pairOf c) (some c)).abortInj c 5).le = b.le :=
    congrArg (·.1.2.2.1) ((Blk.abortInj_calm _ c 5).trans (moveCapture_calm _ _))
  rw [Blk.loadTags, Blk.loadTags, hle]

/-- Where no coefficient fails at the load, the channel passes to LP4. -/
theorem onSpare_moveChan {c : Nat} (hc : c < 16) (ht : (b.loadTags c).coef = []) (h : b.on R.WARD_SPARE_LP4 = false) :
    OnSpare c (b.moveChan c 4) := by
  have hload : ((b.moveCapture (b.pairOf c) (some c)).abortInj c 5).loadCoefs c =
      (false, (b.moveCapture (b.pairOf c) (some c)).abortInj c 5) := by
    rw [Blk.loadCoefs, freed_loadTags, ht]
    rfl
  unfold Blk.moveChan
  simp only [hload, Bool.false_eq_true, false_and, if_false]
  exact onSpare_restoreCk (onSpare_setMap hc ((freed_lp4 c).trans h))

/-- Two overruns in a row, and not three. -/
theorem secondNow_of {x : Chan} {y z fn : Nat} {l : List Nat} (h : x.overruns = y :: z :: l) (hyz : y = z + 1)
    (hl : ∀ a, l.head? = some a → a + 1 ≠ z) (hfn : fn = y + 1) : x.secondNow fn = true := by
  have hall : (l.head?.all fun a => a + 1 != z) = true := by
    cases hh : l.head? with
    | none => rfl
    | some a => simpa using hl a hh
  unfold Chan.secondNow
  rw [h]
  simp [hyz, hfn, hall]

/-- The move to LP4: its mark cleared, the channel on it, and its state and event. -/
theorem doMoveToSpare_moves {c : Nat} (hc : c < 16) (h2 : (b.chan c).secondNow b.fn = true)
    (hm : (b.chan c).noMove = false) (hs : b.spareFree = true) (hconf : b.configured c = true) (hp : b.pairOf c < 4)
    (ht : (b.loadTags c).coef = []) :
    ∃ d, OnSpare c d ∧ b.doMoveToSpare c = (d.setPair 4 1).raise 0x1201 c [] := by
  unfold Blk.doMoveToSpare
  simp only [h2, hs, hconf, hp, hm, decide_true, Bool.and_true, Bool.not_true, Bool.and_false, Bool.false_eq_true,
    if_false, Bool.not_false, if_true]
  refine ⟨_, ?_, rfl⟩
  have hlp4 : ((b.onLe fun l => { l with preload := [] }).flag R.WARD_SPARE_LP4 false).on R.WARD_SPARE_LP4 = false :=
    Blk.on_flag_self _ _ _ (by simp [Fld.inWord, R.WARD_SPARE_LP4]) rfl
  split
  · exact onSpare_resumeFrom _ (onSpare_setMap hc ((freed_lp4 c).trans hlp4))
  · exact onSpare_moveChan hc ht hlp4

/-- What LE_PSTAT shows of the move, with the command's tags gone. -/
theorem moved_shown {c : Nat} (i : List Int) (f : Le → Le) (h : OnSpare c b) :
    OnSpare c (((b.setPair 4 1).raise 0x1201 c i).onLe f) ∧
      (((b.setPair 4 1).raise 0x1201 c i).onLe f).pairState 4 = 1 := by
  have hle : ∀ d : Blk, OnSpare c d → d.pairState 4 = 1 → OnSpare c (d.onLe f) ∧ (d.onLe f).pairState 4 = 1 :=
    fun _ hs hp => ⟨hs, hp⟩
  have hset : SameBut b (b.setPair 4 1) fun a => ¬ spareWords a := same_wr (same_refl b _) _ _ (by decide)
  refine hle _ (onSpare_raise _ _ _ (onSpare_of_same hset h)) ?_
  rw [Blk.pairState, Blk.raise_rd _ _ _ _ _ (by decide), Blk.setPair,
    Blk.rd_wr_self _ _ _ (by simp [Fld.inWord, sliceOf, R.LE_PSTAT_ST])]
  rfl

/-! The degraded mode for overruns (R56). -/

/-- A channel put in degraded mode for its overruns. -/
def Blk.overrunsDegrade (b : Blk) (c : Nat) : Blk :=
  ((b.onChan c fun x => { x with degraded := true }).raise 0x1301 c []).degrade 0 [c] false

/-- Four overruns within a second, at the tick after the fourth. -/
theorem doDegradeOverruns_four {c : Nat} (h4 : 4 ≤ (b.chan c).overruns.length)
    (hms : (b.chan c).overruns.headD 0 < (b.chan c).overruns.getD 3 0 + b.msFrames 1000) (hconf : b.configured c = true)
    (hfn : b.fn = (b.chan c).overruns.headD 0 + 1) (hd : (b.chan c).degraded = false) : b.doDegradeOverruns c =
      if b.standbyReady then (b.raise 0x1301 c []).loss 0 else b.overrunsDegrade c := by
  unfold Blk.doDegradeOverruns
  dsimp only
  rw [if_pos]
  · rfl
  · simp only [h4, hms, hfn, hconf, hd, decide_true, Bool.and_true, Bool.not_false]

/-- The channel is marked, the event reported, and no register changes but HIF_EVDROP. -/
theorem overrunsDegrade_shown (c : Nat) : Reported (b.overrunsDegrade c) 0x1301 c ∧
    (∀ x, (b.overrunsDegrade c).le.chans[c]? = some x → x.degraded = true) ∧
    SameBut b (b.overrunsDegrade c) fun a => a = R.HIF_EVDROP_COUNT.off := by
  have hdegrade : ∀ d : Blk, (d.degrade 0 [c] false).le = d.le := fun _ => rfl
  have hreport : ∀ d : Blk, Reported d 0x1301 c → Reported (d.degrade 0 [c] false) 0x1301 c := fun _ h => h
  have hwords : ∀ d : Blk, SameBut b d (fun a => a = R.HIF_EVDROP_COUNT.off) →
      SameBut b (d.degrade 0 [c] false) fun a => a = R.HIF_EVDROP_COUNT.off := fun _ h => h
  refine ⟨hreport _ (Blk.raise_self _ _ _ _), fun x hx => ?_, hwords _ ?_⟩
  · rw [Blk.overrunsDegrade, hdegrade, Blk.raise_le] at hx
    simp only [Blk.onChan, List.getElem?_modify, if_true] at hx
    obtain ⟨y, -, rfl⟩ := Option.map_eq_some_iff.mp hx
    rfl
  · exact same_raise (same_onChan (same_refl b _) c _) _ _ _ rfl

/-- With a ready standby Hasp declares loss, and the event stays. -/
theorem overrunLoses (c : Nat) : Reported ((b.raise 0x1301 c []).loss 0) 0x1301 c ∧
    ((b.raise 0x1301 c []).loss 0).rd R.HASP_STAT_HSTATE = 3 := by
  have hcalm := loss_calm (b.raise 0x1301 c []) 0
  have htold : ((b.raise 0x1301 c []).loss 0).told = (b.raise 0x1301 c []).told := congrArg (·.1.2.2.2.2) hcalm
  refine ⟨?_, congrArg (·.2) hcalm⟩
  rw [reported_iff_told, htold, ← reported_iff_told]
  exact Blk.raise_self _ _ _ _

theorem doDegradeOverruns_again {c : Nat} (h : (b.chan c).degraded = true) : b.doDegradeOverruns c = b := by
  unfold Blk.doDegradeOverruns
  simp [h]

end

/-- The tags of a command that loads channels are gone after it. -/
theorem withTags_eq (b : Blk) (bad : List LoadTags) (f : Blk → Blk) :
    b.withTags bad f = (f (b.onLe fun l => { l with badTags := bad })).onLe fun l => { l with badTags := [] } := rfl

/-- Where no coefficient of a channel fails in a command's tags, none fails at its load. -/
theorem loadTags_clean {bad : List LoadTags} {c : Fin 16} (h : ∀ z ∈ bad, z.c = c → z.coef = []) (b : Blk) :
    ((b.onLe fun l => { l with badTags := bad }).loadTags c).coef = [] := by
  have hbad : (b.onLe fun l => { l with badTags := bad }).le.badTags = bad := rfl
  unfold Blk.loadTags
  rw [hbad]
  cases hf : bad.find? fun t => t.c.val == c.val with
  | none => rfl
  | some z => exact h z (List.mem_of_find?_eq_some hf) (Fin.ext (by simpa using List.find?_some hf))

/-- Settles O52: a command's tags beside, each clause is what one operation does to the block. -/
theorem overruns : Obligations.Overruns := by
  unfold Obligations.Overruns
  refine ⟨?overrun, ?moved, ?degrades, ?again⟩
  case overrun =>
    intro s c bad hf hc hp
    refine yields_within rfl hf ?_
    obtain ⟨hovr, hrep, hcnt, hchan⟩ :=
      overrunNoted_onLe_tags [] (doOverrun_noted (b := s.blk.onLe fun l => { l with badTags := bad }) hc hp)
    exact ⟨hovr, hrep, hcnt, hchan⟩
  case moved =>
    intro s c bad x y l hf hruns hxy hl hm hfn hs hconf hp hbad
    refine yields_within rfl hf ?_
    obtain ⟨d, hd, hmove⟩ := doMoveToSpare_moves (b := s.blk.onLe fun l => { l with badTags := bad }) c.isLt
      (secondNow_of hruns hxy hl hfn) hm hs hconf hp (loadTags_clean hbad s.blk)
    dsimp only
    rw [withTags_eq, hmove]
    obtain ⟨⟨hpair, hlp4⟩, hstate⟩ := moved_shown [] (fun l => { l with badTags := [] }) hd
    exact ⟨hpair, hstate, reported_onLe (Blk.raise_self _ _ _ _) _, hlp4⟩
  case degrades =>
    intro s c hf h4 hms hconf hfn hd
    refine yields_within rfl hf ?_
    dsimp only
    rw [doDegradeOverruns_four h4 hms hconf hfn hd]
    cases hr : s.blk.standbyReady with
    | true =>
      obtain ⟨hrep, hstate⟩ := overrunLoses (b := s.blk) c
      exact ⟨hrep, fun h => absurd h (by decide), fun _ => hstate⟩
    | false =>
      obtain ⟨hrep, hdeg, hwords⟩ := overrunsDegrade_shown (b := s.blk) c
      exact ⟨hrep, fun _ => ⟨hdeg, hwords⟩, fun h => absurd h (by decide)⟩
  case again => exact fun s c h => yields_within_same rfl (doDegradeOverruns_again h)

end Sys2Proof.Machine
end

section
/-! SUPPORT. What the end of a drive's pulses leaves of Dn_STAT, and that reports stay while injections end and axes
stop. -/

namespace Sys2Proof.Machine

section
variable {b : Blk}

/-! The fields of Dn_STAT beside PSTATE. -/

/-- A field of Dn_STAT other than PSTATE. -/
def StatField (n : Nat) (f : Fld) : Prop := f.off = (R.Dn_STAT_PSTATE n).off ∧ 3 ≤ f.lo

/-- Dn_STAT is not the word that counts dropped events. -/
theorem stat_not_drop (n : Nat) : (R.Dn_STAT_PSTATE n).off ≠ R.HIF_EVDROP_COUNT.off := by
  simp only [R.Dn_STAT_PSTATE, R.HIF_EVDROP_COUNT]
  omega

theorem raise_stat {n : Nat} (code src : Nat) (i : List Int) (f : Fld) (hf : f.off = (R.Dn_STAT_PSTATE n).off) :
    (b.raise code src i).rd f = b.rd f := Blk.raise_rd b code src i f (hf ▸ stat_not_drop n)

theorem raise_pstate {n : Nat} (code src : Nat) (i : List Int) : (b.raise code src i).pstate n = b.pstate n :=
  raise_stat code src i (R.Dn_STAT_PSTATE n) rfl

theorem wr_pstate_statField {n : Nat} (ps : Nat) {f : Fld} (hf : StatField n f) :
    (b.wr (R.Dn_STAT_PSTATE n) ps).rd f = b.rd f :=
  Blk.rd_wr_apart b _ f ps (by simp [Fld.inWord, R.Dn_STAT_PSTATE]) (.inl hf.2)

/-- A field of Dn_STAT beside PSTATE written leaves PSTATE. -/
theorem wr_statField_pstate {n : Nat} (v : Nat) {f : Fld} (hf : StatField n f) (hw : f.inWord) :
    (b.wr f v).pstate n = b.pstate n := Blk.rd_wr_apart b f _ v hw (.inr hf.2)

/-- The end of a drive's pulses writes PSTATE and no other field of Dn_STAT. -/
theorem blockTo_statField {n : Nat} (ps : Nat) (hn : n < 8) {f : Fld} (hf : StatField n f) :
    (b.blockTo n ps).rd f = b.rd f :=
  (same_rd (blockTo_rest b n ps hn) f (hf.1 ▸ stat_not_rest hn)).trans (wr_pstate_statField ps hf)

theorem because_rd (n why : Nat) (f : Fld) : (b.because n why).rd f = b.rd f := by
  rw [Blk.rd, Blk.rd, Blk.word, Blk.word, because_regs]

/-! Reports stay while injections end and axes stop. -/

/-- What every step of a fold over units keeps, the fold keeps. -/
theorem each_keeps {P : Blk → Prop} (n : Nat) {f : Nat → Blk → Blk} (hf : ∀ i b, P b → P (f i b)) (h : P b) :
    P (b.each n f) :=
  List.foldlRecOn _ _ h fun b hb i _ => hf i b hb

theorem reported_complete {c s : Nat} (h : Reported b c s) (hd : Hdr) (op st d : Nat) :
    Reported (b.complete hd op st d) c s := h
theorem reported_onTun {c s : Nat} (h : Reported b c s) (k : Nat) (f : Tuner → Tuner) :
    Reported (b.onTun k f) c s := h
theorem reported_onAxis {c s : Nat} (h : Reported b c s) (a : Nat) (f : Axis → Axis) :
    Reported (b.onAxis a f) c s := h
theorem reported_onStp {c s : Nat} (h : Reported b c s) (n : Nat) (f : Stepper → Stepper) :
    Reported (b.onStp n f) c s := h

/-- A report stays when a word of an indexed unit above the rings is written. -/
theorem reported_wr_at {c s : Nat} (h : Reported b c s) (f : Fld) (v : Nat) {base k : Nat} (hf : f.off = base + k)
    (hb : Nat.ble 0x4260 base = true := by decide) : Reported (b.wr f v) c s :=
  reported_wr_above h f v (hf ▸ Nat.le_add_right_of_le (Nat.le_of_ble_eq_true hb))

theorem reported_inc_at {c s : Nat} (h : Reported b c s) (f : Fld) {base k : Nat} (hf : f.off = base + k)
    (hb : Nat.ble 0x4260 base = true := by decide) : Reported (b.inc f) c s := reported_wr_at h f _ hf hb

theorem reported_capWithInj {c s : Nat} (h : Reported b c s) (k : Nat) : Reported (b.capWithInj k) c s := by
  unfold Blk.capWithInj
  split_ifs
  · exact reported_onTun (reported_wr_at h _ _ rfl) k _
  · exact h

theorem reported_abortInjOn {c s : Nat} (h : Reported b c s) (k ch reason : Nat) :
    Reported (b.abortInjOn k ch reason) c s := by
  have hend : ∀ f, Reported ((b.wr (R.LE_CAPSTAT_INJ k) 3).onTun k f) c s := fun f =>
    reported_onTun (reported_wr_at h _ _ rfl) k f
  unfold Blk.abortInjOn
  dsimp only
  split_ifs
  · refine reported_capWithInj (Blk.raise_mono _ _ _ _ ?_) k
    split
    · exact reported_complete (hend _) _ _ _ _
    · exact hend _
  · exact h

theorem reported_abortInj {c s : Nat} (h : Reported b c s) (ch reason : Nat) : Reported (b.abortInj ch reason) c s :=
  each_keeps (P := fun b => Reported b c s) 5 (fun k _ hb => reported_abortInjOn hb k ch reason) h

theorem reported_showAxis {c s : Nat} (h : Reported b c s) (a : Nat) : Reported (b.showAxis a) c s := by
  unfold Blk.showAxis
  exact reported_wr_at (reported_wr_at (reported_wr_at (reported_wr_at (reported_wr_at (reported_wr_at h _ _ rfl)
    _ _ rfl) _ _ rfl) _ _ rfl) _ _ rfl) _ _ rfl

theorem reported_endMove {c s : Nat} (h : Reported b c s) (a : Nat) (p : MovePlan) : Reported (b.endMove a p) c s := by
  have hcount : ∀ f, Reported ((b.onAxis a f).inc (R.MPG_STAT_DONE a)) c s := fun f =>
    reported_inc_at (reported_onAxis h a f) _ rfl
  exact hcount _

theorem reported_suspendMove {c s : Nat} (h : Reported b c s) (a : Nat) : Reported (b.suspendMove a) c s := by
  unfold Blk.suspendMove
  split
  · split_ifs
    · exact reported_endMove h a _
    · exact reported_onAxis h a _
  · split
    · exact reported_onAxis h a _
    · exact h

theorem reported_abruptStop {c s : Nat} (h : Reported b c s) (a : Nat) : Reported (b.abruptStop a) c s := by
  have hstop : ∀ f, Reported ((b.suspendMove a).onAxis a f) c s := fun f =>
    reported_onAxis (reported_suspendMove h a) a f
  unfold Blk.abruptStop
  dsimp only
  split_ifs
  · exact Blk.raise_mono _ _ _ _ (reported_showAxis (hstop _) a)
  · exact Blk.raise_mono _ _ _ _ (reported_showAxis (reported_wr_at (hstop _) _ _ rfl) a)
  · exact h

end

end Sys2Proof.Machine
end

section
/-! PROOFS. Trips at a pin (R74, R76, R77). -/

namespace Sys2Proof.Machine

section
variable {b : Blk} {n : Nat}

/-- A trip has been latched on drive n, from source `src`: what R74 and R77 have it show, beside the block before. -/
structure TripLatched (b d : Blk) (n src : Nat) : Prop where
  trip : d.on (R.Dn_STAT_TRIP n) = true
  source : d.rd (R.Dn_STAT_TSRC n) = src
  input : d.on (R.Dn_STAT_TRIPIN n) = b.on (R.Dn_STAT_TRIPIN n)
  state : d.pstate n = if b.on (R.Dn_TRIP_ACT n) = true ∧ 1 ≤ b.pstate n then 4 else 3
  count : d.rd (R.Dn_TRIPCNT_TRIPS n) = min (b.rd (R.Dn_TRIPCNT_TRIPS n) + 1) (R.Dn_TRIPCNT_TRIPS n).top
  event : Reported d (if src = 0 then 0x3306 else 0x3307) n

/-- The pulses of drive n end in a trip, with the active short circuit or with every gate off. -/
def Blk.tripGates (b : Blk) (n : Nat) (asc : Bool) : Blk :=
  let cut := (b.rd (R.Dn_CSTAT_SECTOR n), (b.seq n).trans)
  let c := ((b.because n 1).blockTo n (if asc then 4 else 3)).onDrv n fun d => { d with cut := cut }
  if asc then c.pinsAsc n (b.rd (R.Dn_PINS_ACTV n)) else c

/-- Whether a trip brings the active short circuit: ACT is 1, and the drive is in RUN or ASC. -/
def Blk.tripAsc (b : Blk) (n : Nat) : Bool := b.on (R.Dn_TRIP_ACT n) && (b.pstate n == 1 || b.pstate n == 2)

/-- The latch of a trip from `src`: TRIP, TSRC, and the counter. -/
def Blk.tripNoted (b : Blk) (n src : Nat) : Blk :=
  ((b.flag (R.Dn_STAT_TRIP n) true).wr (R.Dn_STAT_TSRC n) src).inc (R.Dn_TRIPCNT_TRIPS n)

/-- A trip that is accepted in BLOCKED, RUN or ASC. -/
theorem acceptTrip_eq (src : Nat) (hp : b.powered .pwm = true) (hc : b.on (R.Dn_CFG_EN n) = true)
    (hs : b.pstate n ≤ 2) : ∃ act, b.acceptTrip n src =
      ((b.tripGates n (b.tripAsc n)).tripNoted n src).raise (if src = 0 then 0x3306 else 0x3307) n [act] := by
  have hlatch : ¬ (b.powered .pwm = false ∨ b.on (R.Dn_CFG_EN n) = false ∨ b.pstate n = 3 ∨ b.pstate n = 4) := by
    simp only [hp, hc, Bool.true_eq_false, false_or]
    omega
  have hown : ¬ b.pstate n = 5 := by omega
  simp only [Blk.acceptTrip, if_neg hlatch, if_neg hown]
  exact ⟨_, rfl⟩

/-- A latched trip stays. -/
theorem acceptTrip_latchedStays (src : Nat) (hs : b.pstate n = 3 ∨ b.pstate n = 4) : b.acceptTrip n src = b :=
  if_pos (.inr (.inr hs))

/-- RELEASED counts a trip. -/
theorem acceptTrip_released (src : Nat) (hp : b.powered .pwm = true) (hc : b.on (R.Dn_CFG_EN n) = true)
    (hs : b.pstate n = 5) : b.acceptTrip n src = b.inc (R.Dn_TRIPCNT_TRIPS n) := by
  simp [Blk.acceptTrip, hp, hc, hs]

theorem tripcnt_not_stat (n : Nat) : (R.Dn_STAT_PSTATE n).off ≠ (R.Dn_TRIPCNT_TRIPS n).off := by
  simp only [R.Dn_STAT_PSTATE, R.Dn_TRIPCNT_TRIPS]
  omega

/-- The count of a trip changes neither PSTATE nor the event queues. -/
theorem trip_counted (b : Blk) (n : Nat) : (b.inc (R.Dn_TRIPCNT_TRIPS n)).pstate n = b.pstate n ∧
    (b.inc (R.Dn_TRIPCNT_TRIPS n)).evs = b.evs ∧ (b.inc (R.Dn_TRIPCNT_TRIPS n)).rd (R.Dn_TRIPCNT_TRIPS n) =
      min (b.rd (R.Dn_TRIPCNT_TRIPS n) + 1) (R.Dn_TRIPCNT_TRIPS n).top :=
  ⟨Blk.rd_wr_off b (R.Dn_TRIPCNT_TRIPS n) (R.Dn_STAT_PSTATE n) _ (tripcnt_not_stat n), rfl,
    Blk.rd_inc_self b _ (by simp [Fld.inWord, R.Dn_TRIPCNT_TRIPS])⟩

/-- A trip ends the pulses: PSTATE is written, and nothing more of Dn_STAT and Dn_TRIPCNT. -/
theorem tripGates_rest (hn : n < 8) (asc : Bool) :
    SameBut (b.wr (R.Dn_STAT_PSTATE n) (if asc then 4 else 3)) (b.tripGates n asc) (blockRest n) := by
  have hbecause : SameBut (b.wr (R.Dn_STAT_PSTATE n) (if asc then 4 else 3))
      ((b.because n 1).wr (R.Dn_STAT_PSTATE n) (if asc then 4 else 3)) (blockRest n) :=
    same_regs (by simp only [Blk.wr, Blk.setWord, Blk.word, because_regs])
  have hblock : ∀ f, SameBut (b.wr (R.Dn_STAT_PSTATE n) (if asc then 4 else 3))
      (((b.because n 1).blockTo n (if asc then 4 else 3)).onDrv n f) (blockRest n) := fun f =>
    same_onDrv (same_trans hbecause (blockTo_rest _ n _ hn)) n f
  refine same_ite (fun _ => same_trans (hblock _) (same_mono (pinsAsc_same _ n _) ?_)) fun _ => hblock _
  exact fun a ha => .inr (.inr (.inl ha))

theorem tripGates_statField (hn : n < 8) (asc : Bool) {f : Fld} (hf : StatField n f) :
    (b.tripGates n asc).rd f = b.rd f :=
  (same_rd (tripGates_rest hn asc) f (hf.1 ▸ stat_not_rest hn)).trans (wr_pstate_statField _ hf)

theorem tripGates_pstate (hn : n < 8) (asc : Bool) : (b.tripGates n asc).pstate n = if asc then 4 else 3 := by
  rw [Blk.pstate, same_rd (tripGates_rest hn asc) _ (stat_not_rest hn),
    Blk.rd_wr_self _ _ _ (by simp [Fld.inWord, R.Dn_STAT_PSTATE])]
  cases asc <;> rfl

/-- The end of pulses counts no trip. -/
theorem tripGates_trips (hn : n < 8) (asc : Bool) :
    (b.tripGates n asc).rd (R.Dn_TRIPCNT_TRIPS n) = b.rd (R.Dn_TRIPCNT_TRIPS n) := by
  have hrest : ¬ blockRest n (R.Dn_TRIPCNT_TRIPS n).off := by
    rintro (h | h | h | ⟨k, -, h⟩ | ⟨h, -⟩ | h)
    all_goals
      simp only [R.Dn_TRIPCNT_TRIPS, R.Dn_SSTAT_SSTATE, R.Dn_CSTAT_SECTOR, R.Dn_PINS_DRV, R.LE_CAPSTAT_CAP, dropWord,
        R.HIF_EVDROP_COUNT] at h
      omega
  exact (same_rd (tripGates_rest hn asc) _ hrest).trans (Blk.rd_wr_off _ _ _ _ (tripcnt_not_stat n).symm)

/-! The latch. -/

/-- A field of Dn_STAT other than TRIP and TSRC is as before the latch. -/
theorem tripNoted_apart (src : Nat) {f : Fld} (ho : f.off = (R.Dn_STAT_PSTATE n).off) (hf : f.lo + f.w ≤ 10) :
    (b.tripNoted n src).rd f = b.rd f := by
  refine (Blk.rd_wr_off _ _ f _ (ho ▸ tripcnt_not_stat n)).trans ?_
  refine (Blk.rd_wr_apart _ _ f _ (by simp [Fld.inWord, R.Dn_STAT_TSRC]) (.inr hf)).trans ?_
  exact Blk.rd_wr_apart b _ f _ (by simp [Fld.inWord, R.Dn_STAT_TRIP])
    (.inr (Nat.le_trans hf (by simp [R.Dn_STAT_TRIP])))

theorem tripNoted_trip (src : Nat) : (b.tripNoted n src).on (R.Dn_STAT_TRIP n) = true := by
  have htrip : (b.tripNoted n src).rd (R.Dn_STAT_TRIP n) =
      (b.flag (R.Dn_STAT_TRIP n) true).rd (R.Dn_STAT_TRIP n) :=
    (Blk.rd_wr_off _ (R.Dn_TRIPCNT_TRIPS n) (R.Dn_STAT_TRIP n) _ (tripcnt_not_stat n)).trans
      (Blk.rd_wr_apart _ (R.Dn_STAT_TSRC n) (R.Dn_STAT_TRIP n) _ (by simp [Fld.inWord, R.Dn_STAT_TSRC])
        (.inl (by simp [R.Dn_STAT_TSRC, R.Dn_STAT_TRIP])))
  exact (congrArg (· != 0) htrip).trans (Blk.on_flag_self b _ true (by simp [Fld.inWord, R.Dn_STAT_TRIP]) rfl)

theorem tripNoted_source {src : Nat} (h : src < 4) : (b.tripNoted n src).rd (R.Dn_STAT_TSRC n) = src :=
  (Blk.rd_wr_off _ (R.Dn_TRIPCNT_TRIPS n) (R.Dn_STAT_TSRC n) _ (tripcnt_not_stat n)).trans
    ((Blk.rd_wr_self _ (R.Dn_STAT_TSRC n) src (by simp [Fld.inWord, R.Dn_STAT_TSRC])).trans (Nat.mod_eq_of_lt h))

theorem tripNoted_count (src : Nat) : (b.tripNoted n src).rd (R.Dn_TRIPCNT_TRIPS n) =
    min (b.rd (R.Dn_TRIPCNT_TRIPS n) + 1) (R.Dn_TRIPCNT_TRIPS n).top := by
  have hstat : ((b.flag (R.Dn_STAT_TRIP n) true).wr (R.Dn_STAT_TSRC n) src).rd (R.Dn_TRIPCNT_TRIPS n) =
      b.rd (R.Dn_TRIPCNT_TRIPS n) :=
    (Blk.rd_wr_off _ (R.Dn_STAT_TSRC n) _ _ (tripcnt_not_stat n).symm).trans
      (Blk.rd_wr_off b (R.Dn_STAT_TRIP n) _ _ (tripcnt_not_stat n).symm)
  rw [Blk.tripNoted, Blk.rd_inc_self _ _ (by simp [Fld.inWord, R.Dn_TRIPCNT_TRIPS]), hstat]

/-- R74, R77: a trip accepted in BLOCKED, RUN or ASC is latched. -/
theorem acceptTrip_latched {src : Nat} (hn : n < 8) (hsrc : src < 4) (hp : b.powered .pwm = true)
    (hc : b.on (R.Dn_CFG_EN n) = true) (hs : b.pstate n ≤ 2) : TripLatched b (b.acceptTrip n src) n src := by
  obtain ⟨act, hact⟩ := acceptTrip_eq src hp hc hs
  have hasc : b.tripAsc n = true ↔ b.on (R.Dn_TRIP_ACT n) = true ∧ 1 ≤ b.pstate n := by
    simp only [Blk.tripAsc, Bool.and_eq_true, Bool.or_eq_true, beq_iff_eq]
    exact and_congr_right fun _ => by omega
  have hcnt : (R.Dn_TRIPCNT_TRIPS n).off ≠ R.HIF_EVDROP_COUNT.off := by
    simp only [R.Dn_TRIPCNT_TRIPS, R.HIF_EVDROP_COUNT]
    omega
  rw [hact]
  constructor
  case trip => exact (congrArg (· != 0) (raise_stat _ _ _ (R.Dn_STAT_TRIP n) rfl)).trans (tripNoted_trip src)
  case source => exact (raise_stat _ _ _ (R.Dn_STAT_TSRC n) rfl).trans (tripNoted_source hsrc)
  case input =>
    refine congrArg (· != 0) ((raise_stat _ _ _ (R.Dn_STAT_TRIPIN n) rfl).trans
      ((tripNoted_apart (f := R.Dn_STAT_TRIPIN n) src rfl (by simp [R.Dn_STAT_TRIPIN])).trans ?_))
    exact tripGates_statField hn _ ⟨rfl, by simp [R.Dn_STAT_TRIPIN]⟩
  case state =>
    refine (raise_pstate _ _ _).trans
      ((tripNoted_apart (f := R.Dn_STAT_PSTATE n) src rfl (by simp [R.Dn_STAT_PSTATE])).trans ?_)
    exact (tripGates_pstate hn _).trans (if_congr hasc rfl rfl)
  case count => rw [Blk.raise_rd _ _ _ _ _ hcnt, tripNoted_count, tripGates_trips hn]
  case event => exact Blk.raise_self _ _ _ _

/-! The level of the trip input. -/

/-- TRIPIN shows the input, and nothing else changes. -/
theorem tripin_shown (b : Blk) (n : Nat) : (b.flag (R.Dn_STAT_TRIPIN n) true).on (R.Dn_STAT_TRIPIN n) = true ∧
    (b.flag (R.Dn_STAT_TRIPIN n) true).pstate n = b.pstate n ∧
    SameBut b (b.flag (R.Dn_STAT_TRIPIN n) true) (fun a => a = (R.Dn_STAT_W n).off) :=
  ⟨Blk.on_flag_self b _ true (by simp [Fld.inWord, R.Dn_STAT_TRIPIN]) rfl,
    wr_statField_pstate _ ⟨rfl, by simp [R.Dn_STAT_TRIPIN]⟩ (by simp [Fld.inWord, R.Dn_STAT_TRIPIN]),
    same_flag (same_refl b _) _ _ rfl⟩

theorem tripin_powered (b : Blk) (n : Nat) (d : Dom) :
    (b.flag (R.Dn_STAT_TRIPIN n) true).powered d = b.powered d :=
  powered_of_units (same_flag (same_refl b _) _ _ unit_at) d

theorem doTrip_eq {filtered : Bool} (hc : b.on (R.Dn_CFG_EN n) = true) (hf : b.on (R.Dn_TRIP_FEN n) = filtered) :
    b.doTrip n filtered = (b.flag (R.Dn_STAT_TRIPIN n) true).acceptTrip n 0 := if_pos ⟨hc, hf⟩

/-- A trip on a channel that is not configured, or at the input's other path, changes nothing. -/
theorem doTrip_ignored {filtered : Bool} (h : b.on (R.Dn_CFG_EN n) = false ∨ b.on (R.Dn_TRIP_FEN n) ≠ filtered) :
    b.doTrip n filtered = b := by
  refine if_neg ?_
  rintro ⟨hc, hf⟩
  rcases h with h | h
  · simp [h] at hc
  · exact h hf

end

/-- The two commands that bring a trip run the same operation, with the path's number. -/
theorem exec_trip {s : State} {n : Fin 8} {filtered : Bool} {c : Instr}
    (hc : c = if filtered then Instr.filteredTripAccept n else Instr.fastTrip n) :
    exec c s = .next (s.within [.pwm] fun b => b.doTrip n filtered) := by
  subst hc
  cases filtered with
  | true => rfl
  | false => rfl

/-- Settles O1: the level is shown, and then the trip is accepted, counted or neither by the state. -/
theorem tripAtPin : Obligations.TripAtPin := by
  intro s n filtered c hcmd
  have hexec := exec_trip (s := s) hcmd
  refine ⟨fun hoff => ?off, fun h => yields_within_same hexec (doTrip_ignored h), fun hc hf hp => ?on⟩
  case off => exact yields_onBlk hexec (if_neg (by simp [hoff])) rfl
  case on =>
    obtain ⟨hin, hstate, hsame⟩ := tripin_shown s.blk n
    have hlevel : ∀ f : Fld, f.off ≠ (R.Dn_STAT_W n).off →
        (s.blk.flag (R.Dn_STAT_TRIPIN n) true).rd f = s.blk.rd f := fun f h => same_rd hsame f h
    have hcfg : (s.blk.flag (R.Dn_STAT_TRIPIN n) true).on (R.Dn_CFG_EN n) = true :=
      (congrArg (· != 0) (hlevel _ (by simp only [R.Dn_CFG_EN, R.Dn_STAT_W]; omega))).trans hc
    have hact : (s.blk.flag (R.Dn_STAT_TRIPIN n) true).on (R.Dn_TRIP_ACT n) = s.blk.on (R.Dn_TRIP_ACT n) :=
      congrArg (· != 0) (hlevel _ (by simp only [R.Dn_TRIP_ACT, R.Dn_STAT_W]; omega))
    have hcnt := hlevel (R.Dn_TRIPCNT_TRIPS n) (by simp only [R.Dn_TRIPCNT_TRIPS, R.Dn_STAT_W]; omega)
    have hpow := (tripin_powered s.blk n .pwm).trans hp
    have heq := doTrip_eq hc hf
    refine ⟨fun hs => yields_within hexec hp ?latched, fun hs => yields_within hexec hp ?stays,
      fun hs => yields_within hexec hp ?released⟩
    case latched =>
      dsimp only
      rw [heq, ← hact, ← hstate, ← hcnt]
      obtain ⟨htrip, hsrc, hinput, hps, hcount, hev⟩ :=
        acceptTrip_latched n.isLt (by decide : 0 < 4) hpow hcfg (hstate.trans_le hs)
      exact ⟨htrip, hinput.trans hin, hsrc, hps, hcount, hev⟩
    case stays =>
      dsimp only
      rw [heq, acceptTrip_latchedStays 0 (by rwa [hstate])]
      exact ⟨hin, hstate, hsame, Blk.flag_evs _ _ _⟩
    case released =>
      dsimp only
      rw [heq, acceptTrip_released 0 hpow hcfg (hstate.trans hs), ← hcnt]
      obtain ⟨hps, hevs, hcount⟩ := trip_counted (s.blk.flag (R.Dn_STAT_TRIPIN n) true) n
      exact ⟨hps.trans (hstate.trans hs), hevs.trans (Blk.flag_evs _ _ _), hcount⟩

end Sys2Proof.Machine
end

section
/-! PROOFS. Overcurrent (R77, R78, R140, R245). -/

namespace Sys2Proof.Machine

section
variable {b : Blk} {n : Nat}

/-! A rejected pulse. -/

theorem raiseLim_pstate (span code src : Nat) (i : List Int) : (b.raiseLim span code src i).pstate n = b.pstate n :=
  Blk.raiseLim_rd b span code src i _ (stat_not_drop n)

/-- R77: a pulse that the filter rejects is counted in Dn_TRIPCNT.REJ, which is not Dn_STAT, and may raise event
0x3104. -/
theorem doTripRejected_counts (hc : b.on (R.Dn_CFG_EN n) = true) (hf : b.on (R.Dn_TRIP_FEN n) = true) :
    (b.doTripRejected n).rd (R.Dn_TRIPCNT_REJ n) =
      min (b.rd (R.Dn_TRIPCNT_REJ n) + 1) (R.Dn_TRIPCNT_REJ n).top ∧
    (b.doTripRejected n).pstate n = b.pstate n ∧
    SameBut b (b.doTripRejected n) (fun a => a = (R.Dn_TRIPCNT_REJ n).off ∨ a = R.HIF_EVDROP_COUNT.off) := by
  have heq : b.doTripRejected n = (b.inc (R.Dn_TRIPCNT_REJ n)).raiseLim 1 0x3104 n [] := if_pos ⟨hc, hf⟩
  have hdrop : (R.Dn_TRIPCNT_REJ n).off ≠ R.HIF_EVDROP_COUNT.off := by
    simp only [R.Dn_TRIPCNT_REJ, R.HIF_EVDROP_COUNT]
    omega
  rw [heq]
  refine ⟨?count, ?state, same_raiseLim (same_inc (same_refl b _) _ (.inl rfl)) _ _ _ _ (.inr rfl)⟩
  case count =>
    rw [Blk.raiseLim_rd _ _ _ _ _ _ hdrop, Blk.rd_inc_self _ _ (by simp [Fld.inWord, R.Dn_TRIPCNT_REJ])]
  case state => exact (raiseLim_pstate _ _ _ _).trans (Blk.rd_wr_off b _ _ _ (tripcnt_not_stat n))

/-! The verdict. -/

/-- A verdict that phases or windings reach is noted, and then trips the drive or latches the stepper's fault. -/
theorem doOcVerdict_reached {c : Nat} {outs : List (Int × Int)} (hc : b.configured c = true)
    (ht : b.rd (R.AFE_OCTH_OCTH c) ≠ 0) (hp : b.powered .afe = true) (ho : b.ocReached c outs ≠ []) :
    ∃ f : Afe → Afe, b.doOcVerdict c outs =
      if c < 8 then (if b.on (R.Dn_TRIP_OC_EN c) then (b.onAfe f).acceptTrip c 1 else b.onAfe f)
      else (b.onAfe f).stpOc (c - 8) := by
  have hnone : ¬ (b.configured c = false ∨ b.rd (R.AFE_OCTH_OCTH c) = 0 ∨ b.powered .afe = false ∨
      b.ocReached c outs = []) := by simp [hc, ht, hp, ho]
  exact ⟨_, if_neg hnone⟩

theorem doOcVerdict_none {c : Nat} {outs : List (Int × Int)}
    (h : b.configured c = false ∨ b.rd (R.AFE_OCTH_OCTH c) = 0 ∨ b.ocReached c outs = []) :
    b.doOcVerdict c outs = b := by
  refine if_pos ?_
  rcases h with h | h | h
  · exact .inl h
  · exact .inr (.inl h)
  · exact .inr (.inr (.inr h))

/-! A stepper's fault. -/

/-- Sn_STAT lies apart from what the end of injections and the stop of the stepper's axis change elsewhere. -/
theorem stpStat_not_stop (hn : n < 8) : ¬ (capWords (R.Sn_STAT_W n).off ∨ dropWord (R.Sn_STAT_W n).off) ∧
    ¬ (axisWords (8 + n) (R.Sn_STAT_W n).off ∨ dropWord (R.Sn_STAT_W n).off) := by
  have hcap : ∀ k, (R.Sn_STAT_W n).off ≠ (R.LE_CAPSTAT_CAP k).off := fun k => by
    simp only [R.Sn_STAT_W, R.LE_CAPSTAT_CAP]
    omega
  have hdrop : ¬ dropWord (R.Sn_STAT_W n).off := by
    simp only [dropWord, R.Sn_STAT_W, R.HIF_EVDROP_COUNT]
    omega
  have haxis : ¬ axisWords (8 + n) (R.Sn_STAT_W n).off := by
    simp only [axisWords, R.Sn_STAT_W]
    omega
  exact ⟨by rintro (⟨k, -, h⟩ | h); exacts [hcap k h, hdrop h], by rintro (h | h); exacts [haxis h, hdrop h]⟩

/-- R253: an abrupt stop of a stepper's axis writes PUNC of Sn_STAT, words of the axis, and HIF_EVDROP. -/
theorem abruptStop_stepper (b : Blk) (n : Nat) : ∃ c, SameBut b c (fun x => axisWords (8 + n) x ∨ dropWord x) ∧
    SameBut (c.flag (R.Sn_STAT_PUNC n) true) (b.abruptStop (8 + n)) (fun x => axisWords (8 + n) x ∨ dropWord x) := by
  have hstop : ∀ f, SameBut b ((b.suspendMove (8 + n)).onAxis (8 + n) f)
      (fun x => axisWords (8 + n) x ∨ dropWord x) := fun f =>
    same_onAxis (same_mono (suspendMove_same b _) fun _ => .inl) _ f
  have hstp : ¬ 8 + n < 8 := by omega
  have hsub : 8 + n - 8 = n := by omega
  unfold Blk.abruptStop
  simp only [hstp, hsub, if_false, if_pos (Or.inr (Nat.le_add_right 8 n) : b.on _ = true ∨ 8 ≤ 8 + n)]
  exact ⟨_, hstop _, same_raise (same_mono (showAxis_same _ _) fun _ => .inl) _ _ _ (.inr rfl)⟩

/-- The abrupt stop leaves every field of Sn_STAT but PUNC. -/
theorem abruptStop_stpStat (hn : n < 8) (f : Fld) (hf : f.off = (R.Sn_STAT_W n).off)
    (ha : (R.Sn_STAT_PUNC n).apart f) : (b.abruptStop (8 + n)).rd f = b.rd f := by
  obtain ⟨-, hrest⟩ := stpStat_not_stop hn
  obtain ⟨c, hbefore, hafter⟩ := abruptStop_stepper b n
  calc (b.abruptStop (8 + n)).rd f
      = (c.flag (R.Sn_STAT_PUNC n) true).rd f := same_rd hafter f (hf ▸ hrest)
    _ = c.rd f := Blk.rd_wr_apart c _ f _ (by simp [Fld.inWord, R.Sn_STAT_PUNC]) ha
    _ = b.rd f := same_rd hbefore f (hf ▸ hrest)

theorem abortInj_stpStat (hn : n < 8) (c reason : Nat) (f : Fld) (hf : f.off = (R.Sn_STAT_W n).off) :
    (b.abortInj c reason).rd f = b.rd f :=
  same_rd (abortInj_same b c reason) f (hf ▸ (stpStat_not_stop hn).1)

/-- R244: a stepper in HOLD or MOVE enters FAULT; what Sn_STAT latches stays, and so do reports. -/
theorem stpFault_enters (hn : n < 8) (hs : b.stpState n = 1 ∨ b.stpState n = 2) : (b.stpFault n).stpState n = 3 ∧
    (b.stpFault n).on (R.Sn_STAT_OC n) = b.on (R.Sn_STAT_OC n) ∧
    ∀ c s, Reported b c s → Reported (b.stpFault n) c s := by
  obtain ⟨f, hf⟩ : ∃ f, b.stpFault n =
      (((b.abortInj (8 + n) 2).wr (R.Sn_STAT_SSTATE n) 3).onStp n f).abruptStop (8 + n) := ⟨_, if_pos hs⟩
  have hin : (R.Sn_STAT_SSTATE n).inWord := by simp [Fld.inWord, R.Sn_STAT_SSTATE]
  rw [hf]
  refine ⟨?state, congrArg (· != 0) ?latch, fun c s h => ?report⟩
  case state =>
    rw [Blk.stpState, abruptStop_stpStat hn (R.Sn_STAT_SSTATE n) rfl
        (.inr (by simp [R.Sn_STAT_SSTATE, R.Sn_STAT_PUNC])), Blk.onStp_rd, Blk.rd_wr_self _ _ _ hin]
    rfl
  case latch =>
    rw [abruptStop_stpStat hn (R.Sn_STAT_OC n) rfl (.inl (by simp [R.Sn_STAT_OC, R.Sn_STAT_PUNC])), Blk.onStp_rd,
      Blk.rd_wr_apart _ _ (R.Sn_STAT_OC n) _ hin (.inl (by simp [R.Sn_STAT_OC, R.Sn_STAT_SSTATE])),
      abortInj_stpStat hn _ _ (R.Sn_STAT_OC n) rfl]
  case report =>
    exact reported_abruptStop (reported_onStp (reported_wr_at (reported_abortInj h _ _) _ _ rfl) n f) _

/-- R245: an overcurrent verdict latches OC and FAULT on a stepper in HOLD or MOVE, and reports it. -/
theorem stpOc_latches (hn : n < 8) (hc : b.on (R.Sn_CFG_EN n) = true) (hs : b.stpState n = 1 ∨ b.stpState n = 2) :
    (b.stpOc n).on (R.Sn_STAT_OC n) = true ∧ (b.stpOc n).stpState n = 3 ∧ Reported (b.stpOc n) 0x4305 (8 + n) := by
  have heq : b.stpOc n = ((b.flag (R.Sn_STAT_OC n) true).raise 0x4305 (8 + n) []).stpFault n := if_pos hc
  have hdrop : (R.Sn_STAT_W n).off ≠ R.HIF_EVDROP_COUNT.off := by
    simp only [R.Sn_STAT_W, R.HIF_EVDROP_COUNT]
    omega
  have hstate : ((b.flag (R.Sn_STAT_OC n) true).raise 0x4305 (8 + n) []).stpState n = b.stpState n :=
    (Blk.raise_rd _ _ _ _ (R.Sn_STAT_SSTATE n) hdrop).trans
      (Blk.rd_wr_apart b _ _ _ (by simp [Fld.inWord, R.Sn_STAT_OC]) (.inr (by simp [R.Sn_STAT_OC, R.Sn_STAT_SSTATE])))
  obtain ⟨hfault, hlatch, hkeeps⟩ := stpFault_enters hn (hstate.symm ▸ hs)
  rw [heq]
  refine ⟨hlatch.trans ?_, hfault, hkeeps _ _ (Blk.raise_self _ _ _ _)⟩
  exact (Blk.raise_on _ _ _ _ (R.Sn_STAT_OC n) hdrop).trans
    (Blk.on_flag_self b _ true (by simp [Fld.inWord, R.Sn_STAT_OC]) rfl)

/-! The clauses on a verdict. -/

/-- R78: a verdict trips a drive with OC_EN. -/
theorem doOcVerdict_trips {c : Nat} {outs : List (Int × Int)} (h8 : c < 8) (hc : b.on (R.Dn_CFG_EN c) = true)
    (ht : b.rd (R.AFE_OCTH_OCTH c) ≠ 0) (ho : b.ocReached c outs ≠ []) (ha : b.powered .afe = true)
    (hp : b.powered .pwm = true) (he : b.on (R.Dn_TRIP_OC_EN c) = true) (hs : b.pstate c ≤ 2) :
    TripLatched b (b.doOcVerdict c outs) c 1 := by
  have hconf : b.configured c = true := (if_pos h8).trans hc
  obtain ⟨f, hf⟩ := doOcVerdict_reached hconf ht ha ho
  rw [hf, if_pos h8, if_pos he]
  obtain ⟨htrip, hsrc, hin, hstate, hcount, hev⟩ :=
    acceptTrip_latched (b := b.onAfe f) (src := 1) h8 (by decide) hp hc hs
  exact ⟨htrip, hsrc, hin, hstate, hcount, hev⟩

theorem doOcVerdict_stpOc {c : Nat} {outs : List (Int × Int)} (h8 : 8 ≤ c) (hc : b.on (R.Sn_CFG_EN (c - 8)) = true)
    (ht : b.rd (R.AFE_OCTH_OCTH c) ≠ 0) (ho : b.ocReached c outs ≠ []) (ha : b.powered .afe = true) :
    ∃ f, b.doOcVerdict c outs = (b.onAfe f).stpOc (c - 8) := by
  have hconf : b.configured c = true := (if_neg (by omega)).trans hc
  obtain ⟨f, hf⟩ := doOcVerdict_reached hconf ht ha ho
  exact ⟨f, hf.trans (if_neg (by omega))⟩

end

/-- Settles O2: the count of a rejected pulse, the trip of a drive, the fault of a stepper, and no verdict. -/
theorem overcurrentTrips : Obligations.OvercurrentTrips := by
  unfold Obligations.OvercurrentTrips
  refine ⟨?rejected, ?drive, ?stepper, ?none⟩
  case rejected => exact fun s n hp hc hf => yields_within rfl hp (doTripRejected_counts hc hf)
  case drive =>
    intro s c outs h8 hc ht ho ha hp he hs
    obtain ⟨htrip, hsrc, -, hstate, -, hev⟩ := doOcVerdict_trips h8 hc ht ho ha hp he hs
    exact yields_onBlk rfl rfl ⟨htrip, hsrc, hstate, hev⟩
  case stepper =>
    intro s c outs h8 hc ht ho ha hs
    obtain ⟨f, hf⟩ := doOcVerdict_stpOc h8 hc ht ho ha
    have hlatched := stpOc_latches (b := s.blk.onAfe f) (n := c - 8) (by omega) hc hs
    rw [Nat.add_sub_cancel' h8] at hlatched
    exact yields_onBlk rfl hf hlatched
  case none => exact fun s c outs h => yields_onBlk rfl (doOcVerdict_none h) rfl

end Sys2Proof.Machine
end

section
/-! PROOFS. Gate-driver ready inputs (R74, R81). -/

namespace Sys2Proof.Machine

section
variable {b : Blk} {n : Nat}

/-- The bit of Dn_STAT.GRDY that shows leg `leg`. -/
theorem grdyBit_statField (n : Nat) (leg : Fin 3) : StatField n (bitOf (R.Dn_STAT_GRDY n) leg) ∧
    (bitOf (R.Dn_STAT_GRDY n) leg).inWord ∧ (bitOf (R.Dn_STAT_GRDY n) leg).apart (R.Dn_STAT_GRDYL n) := by
  refine ⟨⟨rfl, ?_⟩, ?_, .inl ?_⟩ <;> simp only [Fld.inWord, bitOf, R.Dn_STAT_GRDY, R.Dn_STAT_GRDYL] <;> omega

/-- The loss of a selected leg in RUN or ASC blocks the pulses, and GRDYL shows it. -/
theorem grdyLoss_eq_of_running (leg : Nat) (hg : b.on (R.Dn_CFG_GRDY_EN n) = true) (hc : b.on (R.Dn_CFG_EN n) = true)
    (hs : b.pstate n = 1 ∨ b.pstate n = 2) : b.grdyLoss n leg =
      (((b.because n 2).blockTo n 0).flag (R.Dn_STAT_GRDYL n) true).raise 0x3308 n [Int.ofNat leg] := by
  simp only [Blk.grdyLoss, hg, hc, Bool.true_eq_false, or_self, if_false, if_pos hs]

/-- In TRIP_ASC it turns every gate off. -/
theorem grdyLoss_eq_of_tripAsc (leg : Nat) (hg : b.on (R.Dn_CFG_GRDY_EN n) = true) (hc : b.on (R.Dn_CFG_EN n) = true)
    (hs : b.pstate n = 4) : b.grdyLoss n leg = (b.blockTo n 3).raise 0x3308 n [Int.ofNat leg] := by
  have hrun : ¬ (b.pstate n = 1 ∨ b.pstate n = 2) := by omega
  simp only [Blk.grdyLoss, hg, hc, Bool.true_eq_false, or_self, if_false, if_neg hrun, if_pos hs]

/-- R81: a leg's level is shown, and nothing else changes. -/
theorem grdy_shown (b : Blk) (n : Nat) (leg : Fin 3) (v : Bool) :
    (b.flag (bitOf (R.Dn_STAT_GRDY n) leg) v).on (bitOf (R.Dn_STAT_GRDY n) leg) = v ∧
    (b.flag (bitOf (R.Dn_STAT_GRDY n) leg) v).pstate n = b.pstate n ∧
    SameBut b (b.flag (bitOf (R.Dn_STAT_GRDY n) leg) v) (fun a => a = (R.Dn_STAT_GRDY n).off) := by
  obtain ⟨hstat, hin, -⟩ := grdyBit_statField n leg
  exact ⟨Blk.on_flag_self b _ v hin rfl, wr_statField_pstate _ hstat hin, same_flag (same_refl b _) _ _ rfl⟩

/-- What the loss in RUN or ASC comes to. -/
theorem grdyLoss_blocks (leg : Fin 3) (hn : n < 8) (hg : b.on (R.Dn_CFG_GRDY_EN n) = true)
    (hc : b.on (R.Dn_CFG_EN n) = true) (hs : b.pstate n = 1 ∨ b.pstate n = 2) :
    (b.grdyLoss n leg).on (bitOf (R.Dn_STAT_GRDY n) leg) = b.on (bitOf (R.Dn_STAT_GRDY n) leg) ∧
    (b.grdyLoss n leg).pstate n = 0 ∧ (b.grdyLoss n leg).on (R.Dn_STAT_GRDYL n) = true ∧
    Reported (b.grdyLoss n leg) 0x3308 n := by
  obtain ⟨hstat, -, hapart⟩ := grdyBit_statField n leg
  have hgrdyl : (R.Dn_STAT_GRDYL n).inWord := by simp [Fld.inWord, R.Dn_STAT_GRDYL]
  rw [grdyLoss_eq_of_running leg hg hc hs]
  refine ⟨congrArg (· != 0) ?level, ?state, ?latch, Blk.raise_self _ _ _ _⟩
  case level =>
    rw [raise_stat (n := n) _ _ _ (bitOf (R.Dn_STAT_GRDY n) leg) rfl, Blk.flag,
      Blk.rd_wr_apart _ _ _ _ hgrdyl hapart.symm, blockTo_statField 0 hn hstat, because_rd]
  case state =>
    rw [raise_pstate, Blk.flag, wr_statField_pstate (f := R.Dn_STAT_GRDYL n) _ ⟨rfl, by simp [R.Dn_STAT_GRDYL]⟩ hgrdyl,
      blockTo_pstate _ n 0 hn (by decide)]
  case latch =>
    exact (congrArg (· != 0) (raise_stat _ _ _ (R.Dn_STAT_GRDYL n) rfl)).trans (Blk.on_flag_self _ _ true hgrdyl rfl)

/-- What the loss in TRIP_ASC comes to. -/
theorem grdyLoss_tripsOff (leg : Nat) (hn : n < 8) (hg : b.on (R.Dn_CFG_GRDY_EN n) = true)
    (hc : b.on (R.Dn_CFG_EN n) = true) (hs : b.pstate n = 4) :
    (b.grdyLoss n leg).pstate n = 3 ∧ Reported (b.grdyLoss n leg) 0x3308 n := by
  rw [grdyLoss_eq_of_tripAsc leg hg hc hs]
  exact ⟨(raise_pstate _ _ _).trans (blockTo_pstate b n 3 hn (by decide)), Blk.raise_self _ _ _ _⟩

/-- A leg that is ready shows its level, and when it changed is noted. -/
theorem doGrdy_ready (b : Blk) (n leg cyc : Nat) : ∃ f,
    b.doGrdy n leg true cyc = (b.flag (bitOf (R.Dn_STAT_GRDY n) leg) true).onDrv n f := ⟨_, rfl⟩

/-- A leg that is not shows its level, and its loss acts. -/
theorem doGrdy_lost (b : Blk) (n leg cyc : Nat) : ∃ f,
    b.doGrdy n leg false cyc = ((b.flag (bitOf (R.Dn_STAT_GRDY n) leg) false).onDrv n f).grdyLoss n leg := ⟨_, rfl⟩

theorem grdy_cfg {d : Blk} (h : SameBut b d fun a => a = (R.Dn_STAT_GRDY n).off) :
    d.on (R.Dn_CFG_EN n) = b.on (R.Dn_CFG_EN n) ∧ d.on (R.Dn_CFG_GRDY_EN n) = b.on (R.Dn_CFG_GRDY_EN n) := by
  have hoff : (R.Dn_CFG_EN n).off ≠ (R.Dn_STAT_GRDY n).off := by
    simp only [R.Dn_CFG_EN, R.Dn_STAT_GRDY]
    omega
  exact ⟨same_on h _ hoff, same_on h _ hoff⟩

/-! The clauses, each on the block once the level is shown. -/

theorem doGrdy_shown (b : Blk) (n : Nat) (leg : Fin 3) (cyc : Nat) :
    (b.doGrdy n leg true cyc).on (bitOf (R.Dn_STAT_GRDY n) leg) = true ∧
    SameBut b (b.doGrdy n leg true cyc) (fun a => a = (R.Dn_STAT_GRDY n).off) ∧
    (b.doGrdy n leg true cyc).evs = b.evs := by
  obtain ⟨f, hf⟩ := doGrdy_ready b n leg cyc
  obtain ⟨hlevel, -, hsame⟩ := grdy_shown b n leg true
  rw [hf, Blk.onDrv_evs, Blk.flag_evs]
  exact ⟨hlevel, same_onDrv hsame n f, rfl⟩

theorem doGrdy_blocks (leg : Fin 3) (cyc : Nat) (hn : n < 8) (hg : b.on (R.Dn_CFG_GRDY_EN n) = true)
    (hc : b.on (R.Dn_CFG_EN n) = true) (hs : b.pstate n = 1 ∨ b.pstate n = 2) :
    (b.doGrdy n leg false cyc).on (bitOf (R.Dn_STAT_GRDY n) leg) = false ∧ (b.doGrdy n leg false cyc).pstate n = 0 ∧
    (b.doGrdy n leg false cyc).on (R.Dn_STAT_GRDYL n) = true ∧ Reported (b.doGrdy n leg false cyc) 0x3308 n := by
  obtain ⟨f, hf⟩ := doGrdy_lost b n leg cyc
  obtain ⟨hlevel, hstate, hsame⟩ := grdy_shown b n leg false
  obtain ⟨hcfg, hen⟩ := grdy_cfg hsame
  obtain ⟨hkeep, hblocked⟩ := grdyLoss_blocks (b := (b.flag (bitOf (R.Dn_STAT_GRDY n) leg) false).onDrv n f) leg hn
    (hen.trans hg) (hcfg.trans hc) (hstate.symm ▸ hs)
  rw [hf]
  exact ⟨hkeep.trans hlevel, hblocked⟩

theorem doGrdy_tripsOff (leg : Fin 3) (cyc : Nat) (hn : n < 8) (hg : b.on (R.Dn_CFG_GRDY_EN n) = true)
    (hc : b.on (R.Dn_CFG_EN n) = true) (hs : b.pstate n = 4) :
    (b.doGrdy n leg false cyc).pstate n = 3 ∧ Reported (b.doGrdy n leg false cyc) 0x3308 n := by
  obtain ⟨f, hf⟩ := doGrdy_lost b n leg cyc
  obtain ⟨-, hstate, hsame⟩ := grdy_shown b n leg false
  obtain ⟨hcfg, hen⟩ := grdy_cfg hsame
  rw [hf]
  exact grdyLoss_tripsOff leg hn (hen.trans hg) (hcfg.trans hc) (hstate.trans hs)

end

/-- Settles O3: the level is shown, and a loss acts by the pulse state. -/
theorem gateReadyInput : Obligations.GateReadyInput :=
  ⟨fun s n leg cyc hp => yields_within rfl hp (doGrdy_shown s.blk n leg cyc),
    fun _ n leg cyc hp hc hg hs => yields_within rfl hp (doGrdy_blocks leg cyc n.isLt hg hc hs),
    fun _ n leg cyc hp hc hg hs => yields_within rfl hp (doGrdy_tripsOff leg cyc n.isLt hg hc hs)⟩

end Sys2Proof.Machine
end

section
/-! PROOFS. The drive commands of the host (R203, R205, R416, R417, R425, R426, R428, R580). -/

namespace Sys2Proof.Machine

section
variable {b : Blk} {n : Nat}

/-! Completions. -/

theorem forTarget_configured (h : Hdr) (op c : Nat) (f : Blk → Blk) (hc : b.configured c = true) :
    b.forTarget h op c f = f b := if_pos hc

theorem ok_decided (b : Blk) (h : Hdr) (op : Nat) : Decided (b.ok h op) h op 0 0 := Blk.complete_decided b h op 0 0

theorem ok_rd (b : Blk) (h : Hdr) (op : Nat) (f : Fld) : (b.ok h op).rd f = b.rd f := Blk.complete_rd b h op 0 0 f

theorem refuse_decided (b : Blk) (h : Hdr) (op d : Nat) : Decided (b.refuse h op d) h op 2 d :=
  Blk.complete_decided b h op 2 d

/-- An entry of a list after a change at its place. -/
theorem getElem?_modify_self {α : Type} {l : List α} {k : Nat} {f : α → α} {x : α}
    (h : (l.modify k f)[k]? = some x) : ∃ y, l[k]? = some y ∧ f y = x := by
  simp only [List.getElem?_modify, if_true] at h
  exact Option.map_eq_some_iff.mp h

/-! START (R580, R114). -/

/-- R115: a catch that opens puts SSTATE and leaves PATH. -/
theorem openCatch_opens (b : Blk) (n : Nat) {st : Nat} (h : st < 8) : (b.openCatch n st).sstate n = st ∧
    (b.openCatch n st).rd (R.Dn_SSTAT_PATH n) = b.rd (R.Dn_SSTAT_PATH n) := by
  have hin : (R.Dn_SSTAT_SSTATE n).inWord := by simp [Fld.inWord, R.Dn_SSTAT_SSTATE]
  refine ⟨(Blk.rd_wr_self b (R.Dn_SSTAT_SSTATE n) st hin).trans (Nat.mod_eq_of_lt h), ?_⟩
  exact Blk.rd_wr_apart b (R.Dn_SSTAT_SSTATE n) (R.Dn_SSTAT_PATH n) st hin
    (.inl (by simp [R.Dn_SSTAT_SSTATE, R.Dn_SSTAT_PATH]))

/-- The words that an accepted request writes between PATH and the catch: Dn_SUPPK and Dn_DCMEAS. -/
def peakWords (n a : Nat) : Prop := a = (R.Dn_SUPPK_W n).off ∨ a = (R.Dn_DCMEAS_W n).off

/-- An accepted request puts PATH, clears what the last run left, and opens a catch. -/
theorem startOpen_eq (b : Blk) (n : Nat) : ∃ c d, b.startOpen n = Blk.openCatch d n 1 ∧
    SameBut (Blk.setPath c n 0) d (peakWords n) := by
  have hpeaks : ∀ (c : Blk) v f g, SameBut c (((((c.wr (R.Dn_SUPPK_PKW n) 0).wr (R.Dn_SUPPK_PKI n) 0).wr
      (R.Dn_DCMEAS_VPK n) v).onSeq n f).onDrv n g) (peakWords n) := fun c v f g =>
    same_onDrv (same_onSeq (same_wr (same_wr (same_wr (same_refl c _) _ _ (.inl rfl)) _ _ (.inl rfl)) _ _ (.inr rfl))
      n f) n g
  exact ⟨_, _, rfl, hpeaks _ _ _ _⟩

/-- R580, R114: an accepted request opens a catch on no path. -/
theorem startOpen_opens (b : Blk) (n : Nat) : (b.startOpen n).sstate n = 1 ∧
    (b.startOpen n).rd (R.Dn_SSTAT_PATH n) = 0 := by
  obtain ⟨c, d, heq, hsame⟩ := startOpen_eq b n
  obtain ⟨hstate, hpath⟩ := openCatch_opens d n (by decide : 1 < 8)
  have hoff : ¬ peakWords n (R.Dn_SSTAT_PATH n).off := by
    simp only [peakWords, R.Dn_SSTAT_PATH, R.Dn_SUPPK_W, R.Dn_DCMEAS_W]
    omega
  rw [heq]
  refine ⟨hstate, hpath.trans ((same_rd hsame _ hoff).trans ?_)⟩
  exact Blk.rd_wr_self c (R.Dn_SSTAT_PATH n) 0 (by simp [Fld.inWord, R.Dn_SSTAT_PATH])

/-- What a refused request raises. -/
def Blk.raiseOpt (b : Blk) (ev : Option (Nat × Nat × List Int)) : Blk :=
  match ev with
  | some (code, src, info) => b.raise code src info
  | none => b

theorem raiseOpt_reports (b : Blk) (ev : Option (Nat × Nat × List Int)) :
    (b.raiseOpt ev).sstate n = b.sstate n ∧ ∀ x, ev = some x → Reported (b.raiseOpt ev) x.1 x.2.1 := by
  have hoff : (R.Dn_SSTAT_SSTATE n).off ≠ R.HIF_EVDROP_COUNT.off := by
    simp only [R.Dn_SSTAT_SSTATE, R.HIF_EVDROP_COUNT]
    omega
  cases ev with
  | none => exact ⟨rfl, fun x h => by cases h⟩
  | some x =>
    refine ⟨Blk.raise_rd b _ _ _ _ hoff, fun y h => ?_⟩
    cases h
    exact Blk.raise_self b _ _ _

/-- A start that a check refuses completes with its status and raises its event. -/
theorem doStart_refused (h : Hdr) {st d : Nat} {ev : Option (Nat × Nat × List Int)} (hc : b.configured n = true)
    (hu : b.underTable n = false) (hb : b.noHeartbeat = false) (hr : b.startRefusal n = some (st, d, ev)) :
    b.doStart h n = (b.raiseOpt ev).complete h 0x02 st d := by
  rw [Blk.doStart, forTarget_configured _ _ _ _ hc]
  simp only [hu, hb, Bool.false_eq_true, if_false, Blk.startRequest, hr]
  rfl

theorem doStart_accepted (h : Hdr) (hc : b.configured n = true) (hu : b.underTable n = false)
    (hb : b.noHeartbeat = false) (hr : b.startRefusal n = none) : b.doStart h n = (b.startOpen n).ok h 0x02 := by
  rw [Blk.doStart, forTarget_configured _ _ _ _ hc]
  simp only [hu, hb, Bool.false_eq_true, if_false, Blk.startRequest, hr]

/-- R425: without a heartbeat a start is refused. -/
theorem doStart_noHeartbeat (h : Hdr) (hc : b.configured n = true) (hu : b.underTable n = false)
    (hb : b.noHeartbeat = true) : b.doStart h n = b.refuse h 0x02 0x0002 := by
  rw [Blk.doStart, forTarget_configured _ _ _ _ hc]
  simp only [hu, hb, Bool.false_eq_true, if_false, if_true]

/-! DRV_STOP (R417). -/

/-- R74, R131: a stop request ends the start state, leaves PSTATE, and asks for a block. -/
theorem stopReq_asks (b : Blk) (n : Nat) : (b.stopReq n).sstate n = 0 ∧ (b.stopReq n).pstate n = b.pstate n ∧
    ∀ d, (b.stopReq n).drvs[n]? = some d → d.reqBlock = true := by
  have hoff : (R.Dn_STAT_PSTATE n).off ≠ (R.Dn_SSTAT_SSTATE n).off := by
    simp only [R.Dn_STAT_PSTATE, R.Dn_SSTAT_SSTATE]
    omega
  refine ⟨Blk.rd_wr_self b (R.Dn_SSTAT_SSTATE n) 0 (by simp [Fld.inWord, R.Dn_SSTAT_SSTATE]),
    Blk.rd_wr_off b (R.Dn_SSTAT_SSTATE n) _ 0 hoff, fun d hd => ?_⟩
  obtain ⟨y, -, rfl⟩ := getElem?_modify_self hd
  rfl

theorem drvStop_atOnce {m : Nat} (hm : m = 1 ∨ b.sstate n ≠ 6) : b.drvStop n m = b.stopReq n := if_pos hm

/-- A drive that runs closed-loop stops through its ramp. -/
theorem drvStop_ramps (hs : b.sstate n = 6) : b.drvStop n 0 = b.onDrv n fun d => { d with rampStop := true } :=
  if_neg (by omega)

theorem doDrvStop_accepted (h : Hdr) {m : Nat} (hc : b.configured n = true) (hm : m ≤ 1) :
    b.doDrvStop h n m = (b.drvStop n m).ok h 0x03 := by
  rw [Blk.doDrvStop, forTarget_configured _ _ _ _ hc]
  exact if_neg (by omega)

theorem doDrvStop_refused (h : Hdr) {m : Nat} (hc : b.configured n = true) (hm : 1 < m) :
    b.doDrvStop h n m = b.refuse h 0x03 0x0004 := by
  rw [Blk.doDrvStop, forTarget_configured _ _ _ _ hc]
  exact if_pos hm

/-! SET_SPEED and SET_TORQUE (R88, R417, R426). -/

/-- Outside a share group the speed reference reaches the drive alone. -/
theorem putSpeed_alone (v : Int) (held : Bool) (hm : b.memberOf n = none) : b.putSpeed n v held =
    b.onDrv n fun d => { d with hostRef := v, ref := if held || b.underTable n then d.ref else v } := by
  simp only [Blk.putSpeed, Blk.speedTargets, hm, Option.filter_none]
  rfl

/-- SET_SPEED outside a share group: held while the drive follows another reference, else in force. -/
theorem doSetSpeed_alone (h : Hdr) (v : Int) (hc : b.configured n = true) (hm : b.memberOf n = none)
    (hb : b.underTable n = true ∨ b.noHeartbeat = false) : b.doSetSpeed h n v =
      (b.onDrv n fun d => { d with hostRef := v, ref := if b.underTable n then d.ref else v }).complete h 0x04
        (if b.underTable n then 0x08 else 0) 0 := by
  rw [Blk.doSetSpeed, forTarget_configured _ _ _ _ hc]
  simp only [putSpeed_alone v _ hm, hm, Option.filter_none]
  cases hu : b.underTable n with
  | true => rfl
  | false =>
    simp only [hb.resolve_left (by simp [hu]), Bool.false_eq_true, if_false]
    rfl

theorem doSetTorque_taken (h : Hdr) (v : Int) (hc : b.configured n = true) (hu : b.underTable n = false)
    (hb : b.noHeartbeat = false) (ht : b.on (R.Dn_CMODE_CTRL n) = true) :
    b.doSetTorque h n v = (b.onDrv n fun d => { d with torqRef := v }).ok h 0x05 := by
  rw [Blk.doSetTorque, forTarget_configured _ _ _ _ hc]
  simp only [hu, hb, ht, Bool.false_eq_true, Bool.true_eq_false, if_false]

/-! The lever and the bridge (R426, R428). -/

/-- What says whom each drive follows: the lever selected, and the mode of a lost bridge. -/
def Blk.follows (b : Blk) : List (Bool × Option Nat) := b.drvs.map fun d => (d.leverSel, d.bridge)

theorem refuse_drvs (b : Blk) (h : Hdr) (op d : Nat) : (b.refuse h op d).drvs = b.drvs := Blk.onHost_drvs b _

theorem capWithInj_drvs (b : Blk) (k : Nat) : (b.capWithInj k).drvs = b.drvs := by
  unfold Blk.capWithInj
  split_ifs
  · rw [Blk.onTun_drvs, Blk.wr_drvs]
  · rfl

theorem abortInjOn_drvs (b : Blk) (k c reason : Nat) : (b.abortInjOn k c reason).drvs = b.drvs := by
  unfold Blk.abortInjOn
  split_ifs
  · rw [capWithInj_drvs, Blk.raise_drvs]
    split
    · rw [refuse_drvs, Blk.onTun_drvs, Blk.wr_drvs]
    · rw [Blk.onTun_drvs, Blk.wr_drvs]
  · rfl

theorem abortInj_drvs (b : Blk) (c reason : Nat) : (b.abortInj c reason).drvs = b.drvs :=
  each_keeps (P := fun d => d.drvs = b.drvs) 5 (fun k d hd => (abortInjOn_drvs d k c reason).trans hd) rfl

theorem onDrv_follows (b : Blk) (k : Nat) (f : Drive → Drive)
    (h : ∀ d, ((f d).leverSel, (f d).bridge) = (d.leverSel, d.bridge)) : (b.onDrv k f).follows = b.follows :=
  map_modify_of_eq b.drvs k f (fun d => (d.leverSel, d.bridge)) h

theorem tableRef_follows (b : Blk) (n : Nat) (v : Int) : (b.tableRef n v).follows = b.follows := by
  unfold Blk.tableRef
  split
  · rfl
  · exact onDrv_follows b n _ fun _ => rfl

/-- A passage of the reference changes nothing of whom the drives follow. -/
theorem refPassage_follows (b : Blk) (n kind : Nat) : (b.refPassage n kind).follows = b.follows := by
  have hsettle : ∀ d : Blk, (d.startSettle n).follows = d.follows := fun d => onDrv_follows d n _ fun _ => rfl
  have habort : ∀ d : Blk, (d.abortInj n 3).follows = d.follows := fun d =>
    congrArg (List.map fun x : Drive => (x.leverSel, x.bridge)) (abortInj_drvs d n 3)
  have hraise : ∀ i, (b.raise 0x3010 n i).follows = b.follows := fun i =>
    congrArg (List.map fun x : Drive => (x.leverSel, x.bridge)) (Blk.raise_drvs b 0x3010 n i)
  rw [Blk.refPassage, Blk.handedOver, habort, hsettle, hraise]

theorem toLever_follows (b : Blk) (n : Nat) : (b.toLever n).follows = b.follows :=
  (refPassage_follows _ n 6).trans (tableRef_follows b n _)

theorem toHost_follows (b : Blk) (n : Nat) : (b.toHost n).follows = b.follows :=
  (refPassage_follows _ n 7).trans (tableRef_follows b n _)

/-- Where the drives follow what they followed after drive n was changed, drive n is as the change made it. -/
theorem follows_changed {c : Blk} {f : Drive → Drive} (h : c.follows = (b.onDrv n f).follows) {d : Drive}
    (hd : c.drvs[n]? = some d) : ∃ y, (f y).leverSel = d.leverSel ∧ (f y).bridge = d.bridge := by
  have hn := congrArg (fun l => l[n]?) h
  simp only [Blk.follows, List.getElem?_map, hd, Option.map_some] at hn
  obtain ⟨x, hx, heq⟩ := Option.map_eq_some_iff.mp hn.symm
  obtain ⟨y, -, rfl⟩ := getElem?_modify_self hx
  exact ⟨y, Prod.mk.inj heq⟩

theorem doLeverSelect_toLever (h : Hdr) (hc : b.configured n = true) (hb : (b.drv n).bridge = none)
    (hl : (b.drv n).leverSel = false) (hh : b.noHeartbeat = false) :
    b.doLeverSelect h n 1 = ((b.onDrv n fun d => { d with leverSel := true }).toLever n).ok h 0x07 := by
  rw [Blk.doLeverSelect, forTarget_configured _ _ _ _ hc]
  simp [hb, hl, hh]

theorem doLeverSelect_toHost (h : Hdr) (hc : b.configured n = true) (hb : (b.drv n).bridge = none)
    (hl : (b.drv n).leverSel = true) :
    b.doLeverSelect h n 0 = ((b.onDrv n fun d => { d with leverSel := false }).toHost n).ok h 0x07 := by
  rw [Blk.doLeverSelect, forTarget_configured _ _ _ _ hc]
  simp [hb, hl]

/-- R428: bridge-loss ends for one drive, and the host's reference is in force again. -/
theorem doBridgeResume_one (h : Hdr) (hc : b.configured n = true) (hh : b.noHeartbeat = false)
    (hb : (b.drv n).bridge.isSome = true) : b.doBridgeResume h (some n) =
      (((b.onDrv n fun d => { d with bridge := none }).toHost n).raise 0x2002 n []).ok h 0x08 := by
  have hend : b.endBridge n = ((b.onDrv n fun d => { d with bridge := none }).toHost n).raise 0x2002 n [] := if_pos hb
  simp only [Blk.doBridgeResume, forTarget_configured _ _ _ _ hc, hh, Bool.false_eq_true, if_false, hend]

/-! COEF_WRITE (R203, R205, R220). -/

/-- No element of a program uses a coefficient. -/
def Chan.unused (x : Chan) (i : Nat) : Prop := ∀ e ∈ x.prog.elems, i ∉ e.coefs

theorem any_of_unused {x : Chan} {i : Nat} (h : x.unused i) (q : Elem → Bool) :
    x.prog.elems.any (fun e => e.coefs.contains i && q e) = false := by
  rw [List.any_eq_false]
  intro e he
  simp [h e he]

theorem modelCoef_unused {c i : Nat} (h : (b.chan c).unused i) : b.modelCoef c i = false := by
  rw [Blk.modelCoef, List.any_eq_false]
  intro e he
  simp [h e he]

/-- A channel whose coefficients change keeps its program. -/
theorem onChan_prog (b : Blk) (c : Nat) (f : Chan → Chan) (h : ∀ x, (f x).prog = x.prog := by exact fun _ => rfl) :
    ((b.onChan c f).chan c).prog = (b.chan c).prog := by
  simp only [Blk.chan, Blk.onChan, List.getD_eq_getElem?_getD, List.getElem?_modify, if_true]
  cases b.le.chans[c]? <;> simp [h]

/-- R203: a coefficient within the channel's list that no element uses passes every check of R205. -/
theorem doCoefWrite_applied (h : Hdr) {c i : Nat} (v : Nat) (hc : b.configured c = true)
    (hi : i < (b.chan c).coefs.length) (hu : (b.chan c).unused i) : ∃ l, b.doCoefWrite h c i v =
      (((b.onChan c fun x => { x with coefs := (b.chan c).coefs.set i (signed 16 v) }).inc R.LE_CWCNT_APPL).noteApplied
        l).ok h 0x06 := by
  have hmodel : ((b.onChan c fun x => { x with coefs := (b.chan c).coefs.set i (signed 16 v) }).inc
      R.LE_CWCNT_APPL).modelCoef c i = false := by
    refine modelCoef_unused fun e he => hu e ?_
    rwa [← onChan_prog b c fun x => { x with coefs := (b.chan c).coefs.set i (signed 16 v) }]
  rw [Blk.doCoefWrite, forTarget_configured _ _ _ _ hc]
  simp only [if_neg (Nat.not_le.mpr hi), any_of_unused hu, hmodel, Bool.false_eq_true, and_false, if_false, ne_eq,
    not_true_eq_false]
  exact ⟨_, rfl⟩

/-- R205: an index beyond the channel's list is refused, counted and reported. -/
theorem doCoefWrite_beyond (h : Hdr) {c i : Nat} (v : Nat) (hc : b.configured c = true)
    (hi : (b.chan c).coefs.length ≤ i) : ∃ l, b.doCoefWrite h c i v =
      ((b.inc R.LE_CWCNT_REF).raise 0x7105 c l).refuse h 0x06 0x0301 := by
  rw [Blk.doCoefWrite, forTarget_configured _ _ _ _ hc]
  simp only [if_pos hi]
  exact ⟨_, rfl⟩

/-! The clauses, each on the block. -/

/-- An accepted start. -/
theorem doStart_opens (h : Hdr) (hc : b.configured n = true) (hu : b.underTable n = false)
    (hb : b.noHeartbeat = false) (hr : b.startRefusal n = none) : Decided (b.doStart h n) h 0x02 0 0 ∧
      (b.doStart h n).sstate n = 1 ∧ (b.doStart h n).rd (R.Dn_SSTAT_PATH n) = 0 := by
  rw [doStart_accepted h hc hu hb hr]
  obtain ⟨hstate, hpath⟩ := startOpen_opens b n
  exact ⟨ok_decided _ _ _, (ok_rd _ _ _ _).trans hstate, (ok_rd _ _ _ _).trans hpath⟩

theorem doStart_tells (h : Hdr) {st d : Nat} {ev : Option (Nat × Nat × List Int)} (hc : b.configured n = true)
    (hu : b.underTable n = false) (hb : b.noHeartbeat = false) (hr : b.startRefusal n = some (st, d, ev)) :
    Decided (b.doStart h n) h 0x02 st d ∧ (b.doStart h n).sstate n = b.sstate n ∧
      ∀ x, ev = some x → Reported (b.doStart h n) x.1 x.2.1 := by
  obtain ⟨hstate, hrep⟩ := raiseOpt_reports (n := n) b ev
  rw [doStart_refused h hc hu hb hr]
  exact ⟨Blk.complete_decided _ _ _ _ _, (Blk.complete_rd _ _ _ _ _ _).trans hstate,
    fun x hx => reported_complete (hrep x hx) _ _ _ _⟩

/-- DRV_STOP at once. -/
theorem doDrvStop_blocks (h : Hdr) {m : Nat} (hc : b.configured n = true) (hm : m = 1 ∨ (m = 0 ∧ b.sstate n ≠ 6)) :
    Decided (b.doDrvStop h n m) h 0x03 0 0 ∧ (b.doDrvStop h n m).sstate n = 0 ∧
    (b.doDrvStop h n m).pstate n = b.pstate n ∧
      ∀ d, (b.doDrvStop h n m).drvs[n]? = some d → d.reqBlock = true := by
  rw [doDrvStop_accepted h hc (by omega), drvStop_atOnce (hm.imp_right And.right)]
  exact ⟨ok_decided _ _ _, stopReq_asks b n⟩

theorem doDrvStop_ramps (h : Hdr) (hc : b.configured n = true) (hs : b.sstate n = 6) :
    Decided (b.doDrvStop h n 0) h 0x03 0 0 ∧ (b.doDrvStop h n 0).regs = b.regs ∧
      ∀ d, (b.doDrvStop h n 0).drvs[n]? = some d → d.rampStop = true := by
  rw [doDrvStop_accepted h hc (by omega), drvStop_ramps hs]
  refine ⟨ok_decided _ _ _, rfl, fun d hd => ?_⟩
  obtain ⟨y, -, rfl⟩ := getElem?_modify_self hd
  rfl

/-- What a change of one drive and a completion leave and show. -/
theorem onDrv_completed (b : Blk) (n : Nat) (f : Drive → Drive) (h : Hdr) (op st : Nat) :
    Decided ((b.onDrv n f).complete h op st 0) h op st 0 ∧ ((b.onDrv n f).complete h op st 0).regs = b.regs ∧
      ((b.onDrv n f).complete h op st 0).drvs[n]? = b.drvs[n]?.map f := by
  refine ⟨Blk.complete_decided _ _ _ _ _, rfl, ?_⟩
  exact (List.getElem?_modify f n b.drvs n).trans (by simp only [if_true]; rfl)

theorem doLeverSelect_selects (h : Hdr) (hc : b.configured n = true) (hb : (b.drv n).bridge = none)
    (hl : (b.drv n).leverSel = false) (hh : b.noHeartbeat = false) : Decided (b.doLeverSelect h n 1) h 0x07 0 0 ∧
      ∀ d, (b.doLeverSelect h n 1).drvs[n]? = some d → d.leverSel = true := by
  rw [doLeverSelect_toLever h hc hb hl hh]
  refine ⟨ok_decided _ _ _, fun d hd => ?_⟩
  obtain ⟨_, hlever, -⟩ := follows_changed (toLever_follows _ n) hd
  exact hlever.symm

theorem doLeverSelect_returns (h : Hdr) (hc : b.configured n = true) (hb : (b.drv n).bridge = none)
    (hl : (b.drv n).leverSel = true) : Decided (b.doLeverSelect h n 0) h 0x07 0 0 ∧
      ∀ d, (b.doLeverSelect h n 0).drvs[n]? = some d → d.leverSel = false := by
  rw [doLeverSelect_toHost h hc hb hl]
  refine ⟨ok_decided _ _ _, fun d hd => ?_⟩
  obtain ⟨_, hlever, -⟩ := follows_changed (toHost_follows _ n) hd
  exact hlever.symm

theorem doBridgeResume_ends (h : Hdr) (hc : b.configured n = true) (hh : b.noHeartbeat = false)
    (hb : (b.drv n).bridge.isSome = true) : Decided (b.doBridgeResume h (some n)) h 0x08 0 0 ∧
      Reported (b.doBridgeResume h (some n)) 0x2002 n ∧
      ∀ d, (b.doBridgeResume h (some n)).drvs[n]? = some d → d.bridge = none := by
  have hraise : ∀ c : Blk, (c.raise 0x2002 n []).follows = c.follows := fun c =>
    congrArg (List.map fun x : Drive => (x.leverSel, x.bridge)) (Blk.raise_drvs c 0x2002 n [])
  rw [doBridgeResume_one h hc hh hb]
  refine ⟨ok_decided _ _ _, reported_complete (Blk.raise_self _ _ _ _) _ _ _ _, fun d hd => ?_⟩
  obtain ⟨_, -, hbridge⟩ := follows_changed ((hraise _).trans (toHost_follows _ n)) hd
  exact hbridge.symm

theorem doCoefWrite_writes (h : Hdr) {c i : Nat} (v : Nat) (hc : b.configured c = true)
    (hi : i < (b.chan c).coefs.length) (hu : (b.chan c).unused i) : Decided (b.doCoefWrite h c i v) h 0x06 0 0 ∧
      (b.doCoefWrite h c i v).rd R.LE_CWCNT_APPL = min (b.rd R.LE_CWCNT_APPL + 1) R.LE_CWCNT_APPL.top ∧
      ∀ x, (b.doCoefWrite h c i v).le.chans[c]? = some x → x.coefs = (b.chan c).coefs.set i (signed 16 v) := by
  obtain ⟨l, hl⟩ := doCoefWrite_applied h v hc hi hu
  have hnote : ∀ d : Blk, (d.noteApplied l).rd R.LE_CWCNT_APPL = d.rd R.LE_CWCNT_APPL ∧ (d.noteApplied l).le = d.le :=
    fun d => by
      unfold Blk.noteApplied
      split_ifs
      · exact ⟨rfl, rfl⟩
      · exact ⟨rfl, rfl⟩
  rw [hl]
  refine ⟨ok_decided _ _ _, ?count, fun x hx => ?coefs⟩
  case count =>
    refine (hnote _).1.trans ((Blk.rd_inc_self _ _ (by simp [Fld.inWord, R.LE_CWCNT_APPL])).trans ?_)
    rw [Blk.onChan_rd]
  case coefs =>
    have hle : ((((b.onChan c fun x => { x with coefs := (b.chan c).coefs.set i (signed 16 v) }).inc
        R.LE_CWCNT_APPL).noteApplied l).ok h 0x06).le =
        (b.onChan c fun x => { x with coefs := (b.chan c).coefs.set i (signed 16 v) }).le :=
      (hnote _).2.trans (Blk.inc_le _ _)
    rw [hle] at hx
    obtain ⟨y, -, rfl⟩ := getElem?_modify_self hx
    rfl

theorem doCoefWrite_tells (h : Hdr) {c i : Nat} (v : Nat) (hc : b.configured c = true)
    (hi : (b.chan c).coefs.length ≤ i) : Decided (b.doCoefWrite h c i v) h 0x06 0x02 0x0301 ∧
      Reported (b.doCoefWrite h c i v) 0x7105 c ∧
      (b.doCoefWrite h c i v).rd R.LE_CWCNT_REF = min (b.rd R.LE_CWCNT_REF + 1) R.LE_CWCNT_REF.top ∧
      (b.doCoefWrite h c i v).le = b.le := by
  obtain ⟨l, hl⟩ := doCoefWrite_beyond h v hc hi
  have hle : ((b.inc R.LE_CWCNT_REF).raise 0x7105 c l).le = b.le := (Blk.raise_le _ _ _ _).trans (Blk.inc_le _ _)
  have hcount : ((b.inc R.LE_CWCNT_REF).raise 0x7105 c l).rd R.LE_CWCNT_REF =
      min (b.rd R.LE_CWCNT_REF + 1) R.LE_CWCNT_REF.top :=
    (Blk.raise_rd _ _ _ _ _ (by decide)).trans (Blk.rd_inc_self b _ (by simp [Fld.inWord, R.LE_CWCNT_REF]))
  rw [hl]
  exact ⟨refuse_decided _ _ _ _, reported_complete (Blk.raise_self _ _ _ _) _ _ _ _, hcount, hle⟩

end

/-- Settles O15, command by command. -/
theorem driveCommands : Obligations.DriveCommands := by
  unfold Obligations.DriveCommands
  refine ⟨?nop, ?opens, ?refused, ?heartless, ?stops, ?ramps, ?badMode, ?speed, ?held, ?torque, ?lever, ?host, ?resume,
    ?coef, ?beyond⟩
  case nop => exact fun s h hf => yields_within rfl hf ⟨ok_decided _ _ _, rfl, rfl⟩
  case opens => exact fun s h n hf hc hu hb hr => yields_within rfl hf (doStart_opens h hc hu hb hr)
  case refused => exact fun s h n st d ev hf hc hu hb hr => yields_within rfl hf (doStart_tells h hc hu hb hr)
  case heartless =>
    intro s h n hf hc hu hb
    refine yields_within rfl hf ?_
    dsimp only
    rw [doStart_noHeartbeat h hc hu hb]
    exact ⟨refuse_decided _ _ _ _, rfl⟩
  case stops => exact fun s h n m hf hc hm => yields_within rfl hf (doDrvStop_blocks h hc hm)
  case ramps => exact fun s h n hf hc hs => yields_within rfl hf (doDrvStop_ramps h hc hs)
  case badMode =>
    intro s h n m hf hc hm
    refine yields_within rfl hf ?_
    dsimp only
    rw [doDrvStop_refused h hc hm]
    exact ⟨refuse_decided _ _ _ _, rfl, rfl⟩
  case speed =>
    intro s h n v hf hc hu hb hm
    refine yields_within rfl hf ?_
    dsimp only
    rw [doSetSpeed_alone h v.toInt hc hm (.inr hb), hu]
    exact onDrv_completed s.blk n _ h 0x04 0
  case held =>
    intro s h n v hf hc hu hm
    refine yields_within rfl hf ?_
    dsimp only
    rw [doSetSpeed_alone h v.toInt hc hm (.inl hu), hu]
    obtain ⟨hdone, -, hdrv⟩ := onDrv_completed s.blk n (fun d => { d with hostRef := v.toInt }) h 0x04 0x08
    exact ⟨hdone, hdrv⟩
  case torque =>
    intro s h n v hf hc hu hb ht
    refine yields_within rfl hf ?_
    dsimp only
    rw [doSetTorque_taken h v.toInt hc hu hb ht]
    obtain ⟨hdone, -, hdrv⟩ := onDrv_completed s.blk n (fun d => { d with torqRef := v.toInt }) h 0x05 0
    exact ⟨hdone, hdrv⟩
  case lever => exact fun s h n hf hc hb hl hh => yields_within rfl hf (doLeverSelect_selects h hc hb hl hh)
  case host => exact fun s h n hf hc hb hl => yields_within rfl hf (doLeverSelect_returns h hc hb hl)
  case resume => exact fun s h n hf hc hh hb => yields_within rfl hf (doBridgeResume_ends h hc hh hb)
  case coef => exact fun s h c i v hf hc hi hu => yields_within rfl hf (doCoefWrite_writes h _ hc hi hu)
  case beyond => exact fun s h c i v hf hc hi => yields_within rfl hf (doCoefWrite_tells h _ hc hi)

end Sys2Proof.Machine
end

section
/-! PROOFS. The soft-step sequencer (R97 to R100, R111, R115). -/

namespace Sys2Proof.Machine

section
variable {b : Blk} {n : Nat}

/-! Where the words of a drive's commutation stand. -/

/-- Dn_CSTAT is neither Dn_STAT, nor Dn_SSTAT, nor the word that counts dropped events. -/
theorem cstat_apart (n : Nat) : (R.Dn_STAT_PSTATE n).off ≠ (R.Dn_CSTAT_SYNC n).off ∧
    (R.Dn_SSTAT_SSTATE n).off ≠ (R.Dn_CSTAT_SYNC n).off ∧ (R.Dn_CSTAT_SYNC n).off ≠ R.HIF_EVDROP_COUNT.off := by
  simp only [R.Dn_STAT_PSTATE, R.Dn_SSTAT_SSTATE, R.Dn_CSTAT_SYNC, R.HIF_EVDROP_COUNT]
  omega

/-- SYNC of Dn_CSTAT written is read back. -/
theorem sync_cleared (b : Blk) (n : Nat) : (b.flag (R.Dn_CSTAT_SYNC n) false).on (R.Dn_CSTAT_SYNC n) = false :=
  Blk.on_flag_self b _ false (by simp [Fld.inWord, R.Dn_CSTAT_SYNC]) rfl

/-! Crossings (R97, R98, R115). -/

/-- A crossing at stamp t stands in Dn_ZCTS, and the sequencer of drive n has its crossing of this sector. -/
def CrossingUsed (n t : Nat) (b : Blk) : Prop :=
  b.rd (R.Dn_ZCTS_TS n) = t ∧ ∀ q, b.seqs[n]? = some q → q.seen = true ∧ q.missed = 0

theorem crossingUsed_wr {t : Nat} (h : CrossingUsed n t b) (f : Fld) (v : Nat) (hf : (R.Dn_ZCTS_TS n).off ≠ f.off) :
    CrossingUsed n t (b.wr f v) :=
  ⟨(Blk.rd_wr_off b f _ v hf).trans h.1, h.2⟩

theorem crossingUsed_onSeq {t : Nat} (h : CrossingUsed n t b) (f : Seq → Seq)
    (hf : ∀ q, (f q).seen = q.seen ∧ (f q).missed = q.missed := by exact fun _ => ⟨rfl, rfl⟩) :
    CrossingUsed n t (b.onSeq n f) := by
  refine ⟨h.1, fun x hx => ?_⟩
  obtain ⟨y, hy, rfl⟩ := getElem?_modify_self hx
  rw [(hf y).1, (hf y).2]
  exact h.2 y hy

/-- R98: a valid crossing is stamped; what follows of it, T_s and the anchor, leaves the stamp. -/
theorem takeCrossing_used {t : Nat} (ht : t < 2 ^ 32) : CrossingUsed n t (b.takeCrossing n t) := by
  have hstamp : ∀ l, CrossingUsed n t
      ((b.wr (R.Dn_ZCTS_TS n) t).onSeq n fun q => { q with tzc := l, seen := true, missed := 0 }) := by
    refine fun l => ⟨(Blk.rd_wr_self b _ t (by simp [Fld.inWord, R.Dn_ZCTS_TS])).trans (Nat.mod_eq_of_lt ht), ?_⟩
    intro x hx
    obtain ⟨y, -, rfl⟩ := getElem?_modify_self hx
    exact ⟨rfl, rfl⟩
  have htime : (R.Dn_ZCTS_TS n).off ≠ (R.Dn_TSEC_TS n).off := by
    simp only [R.Dn_ZCTS_TS, R.Dn_TSEC_TS]
    omega
  have hsync : (R.Dn_ZCTS_TS n).off ≠ (R.Dn_CSTAT_SYNC n).off := by
    simp only [R.Dn_ZCTS_TS, R.Dn_CSTAT_SYNC]
    omega
  unfold Blk.takeCrossing
  extract_lets q l c d mid
  have hc : CrossingUsed n t c := hstamp l
  have hd : CrossingUsed n t d := by
    show CrossingUsed n t (if 2 ≤ l.length then _ else _)
    split
    · exact crossingUsed_wr hc _ _ htime
    · exact hc
  split
  · split
    · split
      · exact crossingUsed_wr (crossingUsed_onSeq hd _) _ _ hsync
      · exact crossingUsed_onSeq hd _
    · exact crossingUsed_onSeq hd _
  · exact hd

/-- The stamp of a crossing: the mean of the entry into the window and the exit (R97). -/
def crossingStamp (tin tout : Nat) : Nat := add32 tin (diff32 tout tin / 2)

theorem crossingStamp_lt (tin tout : Nat) : crossingStamp tin tout < 2 ^ 32 :=
  (Int.toNat_lt' (by decide)).mpr (Int.emod_lt_of_pos _ (by decide))

/-- R97, R98: a crossing is valid, on the floating phase, in the sector's direction, within its window and EBLANK after
the last edge. -/
def Blk.validCrossing (b : Blk) (n ph : Nat) (rising : Bool) (t age : Nat) : Bool :=
  decide (ph = (legsOf (b.rd (R.Dn_CSTAT_SECTOR n)) 1).2.2) && (rising == risingIn (b.rd (R.Dn_CSTAT_SECTOR n))) &&
    decide (fromHalfUnits (b.rd (R.Dn_SOFT_SOFT n) + 2 * b.rd (R.Dn_SOFT_BLANK n)) ≤ b.intoSector n t) &&
    decide (b.intoSector n t ≤ fromHalfUnits (960 - b.rd (R.Dn_SOFT_SOFT n))) && decide (b.rd (R.Dn_ZC_EBLANK n) ≤ age)

theorem validCrossing_iff {ph : Nat} {rising : Bool} {t age : Nat} : b.validCrossing n ph rising t age = true ↔
    ph = (legsOf (b.rd (R.Dn_CSTAT_SECTOR n)) 1).2.2 ∧ rising = risingIn (b.rd (R.Dn_CSTAT_SECTOR n)) ∧
    fromHalfUnits (b.rd (R.Dn_SOFT_SOFT n) + 2 * b.rd (R.Dn_SOFT_BLANK n)) ≤ b.intoSector n t ∧
    b.intoSector n t ≤ fromHalfUnits (960 - b.rd (R.Dn_SOFT_SOFT n)) ∧ b.rd (R.Dn_ZC_EBLANK n) ≤ age := by
  simp only [Blk.validCrossing, Bool.and_eq_true, decide_eq_true_eq, beq_iff_eq, and_assoc]

/-- A crossing of a running sequencer is counted as rejected, is the second of its sector, or is used. -/
theorem doZeroCrossing_running {ph : Nat} {rising : Bool} {tin tout age : Nat} (hc : b.configured n = true)
    (h1 : b.sstate n ≠ 1) (h2 : b.sstate n ≠ 2) (hr : b.softRuns n = true) :
    b.doZeroCrossing n ph rising tin tout age =
      if b.validCrossing n ph rising (crossingStamp tin tout) age = false then b.inc (R.Dn_CSTAT_ZCREJ n)
      else if (b.seq n).seen then b else b.takeCrossing n (crossingStamp tin tout) := by
  have hstart : ¬ (b.sstate n = 1 ∨ b.sstate n = 2) := not_or.mpr ⟨h1, h2⟩
  simp only [Blk.doZeroCrossing, hc, hr, hstart, Bool.true_eq_false, if_false]
  rfl

/-- R115: a crossing of phase A in CATCH or WAIT is kept for the catch. -/
theorem doZeroCrossing_catching (rising : Bool) (tin tout age : Nat) (hc : b.configured n = true)
    (hs : b.sstate n = 1 ∨ b.sstate n = 2) : b.doZeroCrossing n 0 rising tin tout age =
      b.onSeq n fun q => { q with xings := q.xings ++ [crossingStamp tin tout] } := by
  simp only [Blk.doZeroCrossing, hc, hs, Bool.true_eq_false, if_false, if_true]
  rfl

/-! Commutations (R99). -/

/-- What a hard transition does beside the sector: SOFTLIM and its event where pulses are applied, and the outgoing leg's
active duty for the incoming leg (R95). -/
def Blk.hardTransition (b : Blk) (n o i : Nat) (live : Bool) : Blk :=
  let b := if b.rd (R.Dn_SOFT_SOFT n) = 0 || !live then b
    else (b.flag (R.Dn_CSTAT_SOFTLIM n) true).raiseLim 1024 0x3114 n []
  let l := (b.drv n).active.getD o default
  let b := (b.setActive n o ⟨true, 0⟩).setActive n i l
  if live then b.swapPins n o i else b

theorem doCommutation_eq (t : Nat) (hr : b.softRuns n = true) (hd : b.commDue n t = true) : ∃ c : Blk, ∃ o i live,
    b.doCommutation n t =
      let d := c.wr (R.Dn_CSTAT_SECTOR n) (nextSector (b.rd (R.Dn_CSTAT_SECTOR n)) (b.seq n).dir)
      if b.spanFits n then d else d.hardTransition n o i live :=
  ⟨_, _, _, _, if_pos (by simp [hr, hd])⟩

/-- A hard transition leaves SECTOR. -/
theorem hardTransition_sector (o i : Nat) (live : Bool) :
    (b.hardTransition n o i live).rd (R.Dn_CSTAT_SECTOR n) = b.rd (R.Dn_CSTAT_SECTOR n) := by
  have hlimit : ∀ l, ((b.flag (R.Dn_CSTAT_SOFTLIM n) true).raiseLim 1024 0x3114 n l).rd (R.Dn_CSTAT_SECTOR n) =
      b.rd (R.Dn_CSTAT_SECTOR n) := fun l =>
    (Blk.raiseLim_rd _ _ _ _ _ (R.Dn_CSTAT_SECTOR n) (cstat_apart n).2.2).trans
      (Blk.rd_wr_apart b _ _ _ (by simp [Fld.inWord, R.Dn_CSTAT_SOFTLIM])
        (.inr (by simp [R.Dn_CSTAT_SECTOR, R.Dn_CSTAT_SOFTLIM])))
  have hpins : ∀ c : Blk, (c.swapPins n o i).rd (R.Dn_CSTAT_SECTOR n) = c.rd (R.Dn_CSTAT_SECTOR n) := by
    refine fun c => same_rd (gatesTo_same c n _ _) _ ?_
    simp only [R.Dn_CSTAT_SECTOR, R.Dn_PINS_DRV]
    omega
  unfold Blk.hardTransition
  extract_lets c l d
  have hc : c.rd (R.Dn_CSTAT_SECTOR n) = b.rd (R.Dn_CSTAT_SECTOR n) := by
    show (if _ then b else _ : Blk).rd _ = _
    split
    · rfl
    · exact hlimit _
  split
  · exact (hpins d).trans hc
  · exact hc

theorem nextSector_lt (sector : Nat) (dir : Int) : nextSector sector dir < 8 := by
  unfold nextSector
  split <;> omega

/-- R99: a commutation moves SECTOR on in the running direction. -/
theorem doCommutation_sector {t : Nat} (hr : b.softRuns n = true) (hd : b.commDue n t = true) :
    (b.doCommutation n t).rd (R.Dn_CSTAT_SECTOR n) = nextSector (b.rd (R.Dn_CSTAT_SECTOR n)) (b.seq n).dir := by
  obtain ⟨c, o, i, live, heq⟩ := doCommutation_eq t hr hd
  have hnext : (c.wr (R.Dn_CSTAT_SECTOR n) (nextSector (b.rd (R.Dn_CSTAT_SECTOR n)) (b.seq n).dir)).rd
      (R.Dn_CSTAT_SECTOR n) = nextSector (b.rd (R.Dn_CSTAT_SECTOR n)) (b.seq n).dir :=
    (Blk.rd_wr_self c _ _ (by simp [Fld.inWord, R.Dn_CSTAT_SECTOR])).trans (Nat.mod_eq_of_lt (nextSector_lt _ _))
  rw [heq]
  dsimp only
  split
  · exact hnext
  · exact (hardTransition_sector o i live).trans hnext

/-! The loss of synchronism (R100, R111). -/

/-- R100: drive n has lost synchronism, beside the block before: SYNC is clear and PSTATE as it was until OUTPUT_PHASE;
where pulses were applied the start state has ended and event 0x3316 is reported. -/
structure SyncLost (b d : Blk) (n : Nat) : Prop where
  sync : d.on (R.Dn_CSTAT_SYNC n) = false
  state : d.pstate n = b.pstate n
  live : b.pstate n = 1 → d.sstate n = 0 ∧ Reported d 0x3316 n

theorem syncLost_eq (b : Blk) (n cause : Nat) (more : List Int) : ∃ f i, b.syncLost n cause more =
    (((b.stopReq n).onDrv n f).flag (R.Dn_CSTAT_SYNC n) false).raise 0x3316 n i := ⟨_, _, rfl⟩

theorem syncLost_shows (b : Blk) (n cause : Nat) (more : List Int) : SyncLost b (b.syncLost n cause more) n := by
  obtain ⟨f, i, heq⟩ := syncLost_eq b n cause more
  obtain ⟨hstat, hsstat, hdrop⟩ := cstat_apart n
  obtain ⟨hidle, hkeeps, -⟩ := stopReq_asks b n
  have hss : (R.Dn_SSTAT_SSTATE n).off ≠ R.HIF_EVDROP_COUNT.off := by
    simp only [R.Dn_SSTAT_SSTATE, R.HIF_EVDROP_COUNT]
    omega
  rw [heq]
  constructor
  case sync => exact (Blk.raise_on _ _ _ _ _ hdrop).trans (sync_cleared _ n)
  case state => exact (raise_pstate _ _ _).trans ((Blk.rd_wr_off _ _ (R.Dn_STAT_PSTATE n) _ hstat).trans hkeeps)
  case live =>
    refine fun _ => ⟨(Blk.raise_rd _ _ _ _ _ hss).trans ?_, Blk.raise_self _ _ _ _⟩
    exact (Blk.rd_wr_off _ _ (R.Dn_SSTAT_SSTATE n) _ hsstat).trans hidle

/-- R100, R391: a sequencer in shadow has no pulses to block, and loses its synchronism and its sector. -/
theorem loseSync_shows (b : Blk) (n cause : Nat) (more : List Int) : SyncLost b (b.loseSync n cause more) n := by
  obtain ⟨hstat, -, -⟩ := cstat_apart n
  unfold Blk.loseSync
  split
  next => exact syncLost_shows b n cause more
  next h =>
    constructor
    case sync =>
      refine (congrArg (· != 0) (Blk.rd_wr_apart _ (R.Dn_CSTAT_SECTOR n) (R.Dn_CSTAT_SYNC n) 0 ?_ ?_)).trans
        (sync_cleared b n)
      · simp [Fld.inWord, R.Dn_CSTAT_SECTOR]
      · exact .inl (by simp [R.Dn_CSTAT_SECTOR, R.Dn_CSTAT_SYNC])
    case state =>
      exact (Blk.rd_wr_off _ (R.Dn_CSTAT_SECTOR n) _ _ hstat).trans (Blk.rd_wr_off b _ _ _ hstat)
    case live => exact fun hp => absurd hp h

/-- An acquisition that finds nothing in 12 sectors ends, and synchronism with it. -/
theorem doAcqFail_loses {k x : Nat} (ha : (b.seq n).acq = some (k, x)) (hk : 12 ≤ k) (hr : b.runState n = 1) :
    ∃ cause more, b.doAcqFail n = (b.onSeq n fun q => { q with acq := none }).loseSync n cause more := by
  simp only [Blk.doAcqFail, ha, hk, hr, and_self, if_true]
  split
  · exact ⟨_, _, rfl⟩
  · exact ⟨_, _, rfl⟩

end

/-- Settles O4: the cases of a crossing, the commutation, and the two ways to lose synchronism. -/
theorem softStepCommutation : Obligations.SoftStepCommutation := by
  unfold Obligations.SoftStepCommutation
  refine ⟨?crossing, ?catching, ?commutes, ?missed, ?acquisition⟩
  case crossing =>
    intro s n ph rising tin tout age x at_ soft good hx hat hsoft hgood hp hc h1 h2 hr
    subst hx hat hsoft
    have hvalid : good ↔ s.blk.validCrossing n ph rising (crossingStamp tin.toNat tout.toNat) age = true :=
      (iff_of_eq hgood).trans validCrossing_iff.symm
    have hdo := doZeroCrossing_running (ph := ph) (rising := rising) (tin := tin.toNat) (tout := tout.toNat)
      (age := age) hc h1 h2 hr
    refine ⟨fun hg hseen => ?used, fun hg hseen => ?again, fun hg => ?rejected⟩
    case used =>
      simp only [hvalid.mp hg, hseen, Bool.true_eq_false, Bool.false_eq_true, if_false] at hdo
      exact yields_within rfl hp (hdo ▸ takeCrossing_used (crossingStamp_lt _ _))
    case again =>
      simp only [hvalid.mp hg, hseen, Bool.true_eq_false, if_false, if_true] at hdo
      exact yields_within_same rfl hdo
    case rejected =>
      rw [if_pos (Bool.eq_false_iff.mpr fun h => hg (hvalid.mpr h))] at hdo
      refine yields_within rfl hp (hdo ▸ ⟨Blk.rd_inc_self s.blk _ ?_, same_inc (same_refl _ _) _ rfl⟩)
      simp [Fld.inWord, R.Dn_CSTAT_ZCREJ]
  case catching =>
    intro s n rising tin tout age hp hc hs
    have hdo : s.blk.doZeroCrossing n (0 : Fin 3).val rising tin.toNat tout.toNat age = _ :=
      doZeroCrossing_catching rising tin.toNat tout.toNat age hc hs
    exact yields_within rfl hp (hdo ▸ ⟨rfl, List.getElem?_modify_eq ..⟩)
  case commutes =>
    intro s n st hf hp hr hd
    exact yields_onBlk rfl (if_pos (by simp [hf, hp])) (doCommutation_sector hr hd)
  case missed =>
    intro s n hf hr hm hmiss
    obtain ⟨hsync, hstate, hlive⟩ := loseSync_shows s.blk n 1 []
    have hdo : s.blk.doSyncLoss n = s.blk.loseSync n 1 [] := if_pos ⟨hr, hm, hmiss⟩
    exact yields_within rfl hf (hdo ▸ ⟨hsync, hstate, hlive⟩)
  case acquisition =>
    rintro s n k hf ⟨x, ha⟩ hk hs hr
    obtain ⟨cause, more, hdo⟩ := doAcqFail_loses ha hk hr
    obtain ⟨hsync, -, hlive⟩ := loseSync_shows (s.blk.onSeq n fun q => { q with acq := none }) n cause more
    obtain ⟨hidle, hev⟩ := hlive hs
    exact yields_within rfl hf (hdo ▸ ⟨hidle, hsync, hev⟩)

end Sys2Proof.Machine
end

section
/-! PROOFS. Hand-overs between the commutation sources, and the stop and restart of a sensorless drive (R106, R109,
R112). -/

namespace Sys2Proof.Machine

section
variable {b : Blk} {n : Nat}

/-! The hand-over (R106). -/

theorem showBlend_cur (b : Blk) (n : Nat) : (b.showBlend n).cur n = b.cur n :=
  Blk.rd_wr_apart b _ _ _ (by simp [Fld.inWord, R.Dn_CSTAT_HOBL]) (.inr (by simp [R.Dn_CSTAT_CUR, R.Dn_CSTAT_HOBL]))

theorem startBlend_cur (b : Blk) (n what kind : Nat) (yLast vq vd : Int) :
    (b.startBlend n what kind yLast vq vd).cur n = b.cur n := showBlend_cur _ n

/-- The end of a hand-over, the suspended supervision and the injections aborted, leaves CUR. -/
theorem handedOver_cur (b : Blk) (hn : n < 8) : (b.handedOver n).cur n = b.cur n := by
  have hsusp : (R.Dn_CSTAT_CUR n).off ≠ (R.Dn_SUPSTAT_SUSP n).off := by
    simp only [R.Dn_CSTAT_CUR, R.Dn_SUPSTAT_SUSP]
    omega
  have hcap : ∀ k, (R.Dn_CSTAT_CUR n).off ≠ (R.LE_CAPSTAT_CAP k).off := fun k => by
    simp only [R.Dn_CSTAT_CUR, R.LE_CAPSTAT_CAP]
    omega
  have habort : ¬ (capWords (R.Dn_CSTAT_CUR n).off ∨ dropWord (R.Dn_CSTAT_CUR n).off) := by
    rintro (⟨k, -, h⟩ | h)
    exacts [hcap k h, (cstat_apart n).2.2 h]
  exact (same_rd (abortInj_same _ n 3) _ habort).trans (Blk.rd_wr_off _ _ (R.Dn_CSTAT_CUR n) _ hsusp)

/-- R106: 8 frames beyond a threshold change CUR, to 2 above and to 0 below. -/
theorem doHandover_cur (hn : n < 8) (hm : b.rd (R.Dn_CMODE_MODE n) = 2) (hv : (b.drv n).verdNew = false)
    (hf : b.on (R.Dn_SUPSTAT_FALL n) = false)
    (ho : (b.cur n == 0 && decide (8 ≤ (b.drv n).hoUp) || b.cur n == 2 && decide (8 ≤ (b.drv n).hoDn)) = true) :
    (b.doHandover n).cur n = if b.cur n == 0 && decide (8 ≤ (b.drv n).hoUp) then 2 else 0 := by
  have hput : ∀ up : Bool, (b.wr (R.Dn_CSTAT_CUR n) (if up then 2 else 0)).cur n = if up then 2 else 0 := fun up =>
    (Blk.rd_wr_self b _ _ (by simp [Fld.inWord, R.Dn_CSTAT_CUR])).trans (by cases up <;> rfl)
  have hno : ¬ (b.rd (R.Dn_CMODE_MODE n) ≠ 2 ∨ (b.drv n).verdNew = true ∨ b.on (R.Dn_SUPSTAT_FALL n) = true) := by
    simp [hm, hv, hf]
  unfold Blk.doHandover
  extract_lets d up dn c vm vq e g
  rw [if_neg hno, if_pos ho]
  split
  · exact hput up
  · have he : e.cur n = if up then 2 else 0 := (startBlend_cur c n 0 _ _ _ 0).trans (hput up)
    have hg : g.cur n = e.cur n := by
      show (if up = true then _ else e : Blk).cur n = e.cur n
      split <;> rfl
    exact (handedOver_cur g hn).trans (hg.trans he)

/-! The end of blends (R109). -/

/-- HOBL shows whether a blend runs whose first run is over. -/
theorem showBlend_shows {d : Drive} (hd : b.drvs[n]? = some d) :
    (b.showBlend n).on (R.Dn_CSTAT_HOBL n) = true ↔ ∃ x ∈ d.blends, x.first = false := by
  have hdrv : b.drv n = d := by rw [Blk.drv, List.getD_eq_getElem?_getD, hd, Option.getD_some]
  rw [Blk.showBlend, Blk.on_flag_self _ _ _ (by simp [Fld.inWord, R.Dn_CSTAT_HOBL]) rfl, hdrv]
  simp only [List.any_eq_true, Bool.not_eq_true']

/-- R109: the blends that have run HFRM frames end; HOBL shows whether one of the rest runs. -/
theorem doBlendEnd_ends (b : Blk) (n : Nat) : (∀ d, (b.doBlendEnd n).drvs[n]? = some d →
      (∀ x ∈ d.blends, x.first = true ∨ x.k < b.rd (R.Dn_BUMP_HFRM n)) ∧
      ((b.doBlendEnd n).on (R.Dn_CSTAT_HOBL n) = true ↔ ∃ x ∈ d.blends, x.first = false)) ∧
    SameBut b (b.doBlendEnd n) (fun a => a = (R.Dn_CSTAT_HOBL n).off) := by
  refine ⟨fun d hd => ⟨fun x hx => ?_, showBlend_shows hd⟩, same_flag (same_onDrv (same_refl b _) n _) _ _ rfl⟩
  obtain ⟨y, -, rfl⟩ := getElem?_modify_self hd
  simpa using (List.mem_filter.mp hx).2

/-! The stop and the restart of a sensorless drive (R112). -/

/-- R112: the stop asks for a block, and for a restart where the reference has turned. -/
theorem doRampStop_stops (hs : b.pstate n = 1) (hr : b.sensorlessRun n = true) (h6 : b.sstate n = 6)
    (hd : b.rampsDown n = true) (hm : magI (b.drv n).ramp ≤ b.catchFloor n * 512) :
    b.doRampStop n = (b.stopReq n).onDrv n fun d =>
      { d with revStart := !(b.drv n).rampStop && decide ((b.drv n).ref * (b.drv n).ramp < 0) } :=
  if_pos (by simp [hs, hr, h6, hd, hm])

/-- The restart is judged once the block has happened: none with a reference in the old direction or none, else a start
request. -/
theorem doReverseRestart_eq (hv : (b.drv n).revStart = true) (hs : b.pstate n ≠ 1) (hq : (b.drv n).reqBlock = false) :
    b.doReverseRestart n =
      if (b.drv n).ref = 0 ∨ 0 < (b.drv n).ref * (b.seq n).dir then b.onDrv n fun d => { d with revStart := false }
      else ((b.onDrv n fun d => { d with revStart := false }).startRequest n).2 :=
  if_pos ⟨hv, hs, hq⟩

/-- A drive after a change at its place, read at a field that the change leaves. -/
theorem onDrv_field {α : Type} (g : Drive → α) {f : Drive → Drive} (h : ∀ d, g (f d) = g d) :
    g ((b.onDrv n f).drv n) = g (b.drv n) := by
  simp only [Blk.drv, Blk.onDrv, List.getD_eq_getElem?_getD, List.getElem?_modify, if_true]
  cases b.drvs[n]? <;> simp [h]

/-- Whether a start is refused does not depend on a restart that is due. -/
theorem startRefusal_revStart (v : Bool) :
    (b.onDrv n fun d => { d with revStart := v }).startRefusal n = b.startRefusal n := by
  have href : ((b.onDrv n fun d => { d with revStart := v }).drv n).ref = (b.drv n).ref :=
    onDrv_field Drive.ref fun _ => rfl
  have hage : ((b.onDrv n fun d => { d with revStart := v }).drv n).grdyAge = (b.drv n).grdyAge :=
    onDrv_field Drive.grdyAge fun _ => rfl
  unfold Blk.startRefusal Blk.grdyReady
  rw [href, hage]
  rfl

end

/-- Settles O5: the hand-over both ways, the end of blends, the stop, and the restart with and without a start. -/
theorem handoverAndRampStop : Obligations.HandoverAndRampStop := by
  unfold Obligations.HandoverAndRampStop
  refine ⟨?up, ?down, ?blends, ?stop, ?kept, ?restart⟩
  case up =>
    intro s n hf hm hv hfall hc h8
    have hup : (s.blk.cur n == 0 && decide (8 ≤ (s.blk.drv n).hoUp)) = true := by simp [hc, h8]
    exact yields_within rfl hf ((doHandover_cur n.isLt hm hv hfall (by simp [hup])).trans (if_pos hup))
  case down =>
    intro s n hf hm hv hfall hc h8
    have hup : ¬ (s.blk.cur n == 0 && decide (8 ≤ (s.blk.drv n).hoUp)) = true := by simp [hc]
    exact yields_within rfl hf ((doHandover_cur n.isLt hm hv hfall (by simp [hc, h8])).trans (if_neg hup))
  case blends => exact fun s n hf => yields_within rfl hf (doBlendEnd_ends s.blk n)
  case stop =>
    intro s n hf hs hr h6 hd hm
    obtain ⟨hidle, hstate, hblock⟩ := stopReq_asks s.blk n
    refine yields_within rfl hf ?_
    dsimp only
    rw [doRampStop_stops hs hr h6 hd hm]
    refine ⟨hidle, hstate, fun d hd => ?_⟩
    obtain ⟨y, hy, rfl⟩ := getElem?_modify_self hd
    exact ⟨hblock y hy, by simp⟩
  case kept =>
    intro s n hf hv hs hq hdir
    have hdo := (doReverseRestart_eq hv hs hq).trans (if_pos hdir)
    exact yields_within rfl hf (hdo ▸ ⟨rfl, List.getElem?_modify_eq ..⟩)
  case restart =>
    intro s n hf hv hs hq hzero hdir hr
    have hturned : ¬ ((s.blk.drv n).ref = 0 ∨ 0 < (s.blk.drv n).ref * (s.blk.seq n).dir) := by
      rintro (h | h)
      exacts [hzero h, by omega]
    have hdo := (doReverseRestart_eq hv hs hq).trans (if_neg hturned)
    rw [Blk.startRequest, startRefusal_revStart, hr] at hdo
    exact yields_within rfl hf (hdo ▸ startOpen_opens _ n)

end Sys2Proof.Machine
end

section
/-! PROOFS. The start sequence (R115, R117, R123, R124, R125, R128, R130, R131, R220). -/

namespace Sys2Proof.Machine

section
variable {b : Blk} {n : Nat}

/-! The words that a start writes. -/

/-- What the decision of a start may change: Dn_SSTAT, Dn_CSTAT, Dn_SUPSTAT, Dn_STAT, axis n, HIF_EVDROP. -/
def startWords (n a : Nat) : Prop :=
  a = (R.Dn_SSTAT_SSTATE n).off ∨ a = (R.Dn_CSTAT_SYNC n).off ∨ a = (R.Dn_SUPSTAT_SUSP n).off ∨
    a = (R.Dn_STAT_PSTATE n).off ∨ axisWords n a ∨ dropWord a

/-- What the end of a catch may change beside Dn_CATCHA: the words of the decision, Dn_SUPCNT and Dn_CATCH. -/
def catchWords (n a : Nat) : Prop :=
  startWords n a ∨ a = (R.Dn_SUPCNT_VERDS n).off ∨ a = (R.Dn_CATCH_SPD n).off

theorem startWords_drop (n : Nat) : startWords n R.HIF_EVDROP_COUNT.off := .inr (.inr (.inr (.inr (.inr rfl))))

theorem startSettle_same (b : Blk) (n : Nat) :
    SameBut b (b.startSettle n) fun a => a = (R.Dn_SUPSTAT_SUSP n).off :=
  same_flag (same_onDrv (same_refl b _) n _) _ _ rfl

theorem startBlend_same (b : Blk) (n what kind : Nat) (yLast vq vd : Int) :
    SameBut b (b.startBlend n what kind yLast vq vd) fun a => a = (R.Dn_CSTAT_HOBL n).off :=
  same_flag (same_onDrv (same_refl b _) n _) _ _ rfl

/-- Pulses called for write Dn_STAT, and the axis that takes its port's position. -/
theorem enterRun_same (b : Blk) (n : Nat) : SameBut b (b.enterRun n) (startWords n) := by
  have hfloat : SameBut b (b.floatRun n) (startWords n) :=
    same_onDrv (same_wr (same_refl b _) _ _ (.inr (.inr (.inr (.inl rfl))))) n _
  refine same_ite (fun _ => ?_) fun _ => hfloat
  exact same_trans (same_onAxis hfloat n _)
    (same_mono (showAxis_same _ n) fun _ h => .inr (.inr (.inr (.inr (.inl h)))))

/-- Every part of the closed-loop entry writes words of the decision. -/
theorem closeAt_same (b : Blk) (n th amp : Nat) (spd : Int) (st : Nat) :
    SameBut b (b.closeAt n th amp spd st) (startWords n) := by
  have hblend : ∀ {c : Blk} {what kind : Nat} {yLast vq : Int}, SameBut b c (startWords n) →
      SameBut b (c.startBlend n what kind yLast vq) (startWords n) := fun h =>
    same_trans h (same_mono (startBlend_same _ n _ _ _ _ _) fun _ h => .inr (.inl h))
  refine same_trans (same_trans ?_ (same_mono (startSettle_same _ n) fun _ h => .inr (.inr (.inl h))))
    (enterRun_same _ n)
  refine same_wr (same_flag (same_onSeq (hblend (hblend (same_onDrv ?_ n _))) n _) _ _ (.inr (.inl rfl))) _ _
    (.inr (.inl rfl))
  exact same_wr (same_wr (same_refl b _) _ _ (.inr (.inl rfl))) _ _ (.inl rfl)

theorem beginAlign_same (b : Blk) (n : Nat) : SameBut b (b.beginAlign n) (startWords n) := by
  refine same_trans (same_flag (same_trans (same_onSeq ?_ n _)
    (same_mono (startBlend_same _ n _ _ _ _ _) fun _ h => .inr (.inl h))) _ _ (.inr (.inl rfl))) (enterRun_same _ n)
  exact same_wr (same_wr (same_wr (same_refl b _) _ _ (.inl rfl)) _ _ (.inl rfl)) _ _ (.inr (.inl rfl))

theorem seqIdle_startWords (b : Blk) (n : Nat) : SameBut b (b.seqIdle n) (startWords n) := by
  refine same_mono (seqIdle_same b n) ?_
  rintro a (h | h)
  exacts [.inl h, .inr (.inl h)]

theorem setPath_same (b : Blk) (n p : Nat) : SameBut b (b.setPath n p) (startWords n) :=
  same_wr (same_refl b _) _ _ (.inl rfl)

theorem startRefused_same (b : Blk) (n reason : Nat) : SameBut b (b.startRefused n reason) (startWords n) :=
  same_raise (same_trans (setPath_same b n 4) (seqIdle_startWords _ n)) _ _ _ (startWords_drop n)

theorem beginWait_same (b : Blk) (n : Nat) : SameBut b (b.beginWait n) (startWords n) :=
  same_onSeq (same_wr (setPath_same b n 2) _ _ (.inl rfl)) n _

/-- Each outcome of the start-state table (R117, R122 to R127) writes words of the decision. -/
theorem decide_same (b : Blk) (n th amp : Nat) (spd : Int) (waiting : Bool) :
    SameBut b (b.decide_ n th amp spd waiting) (startWords n) := by
  have hdrop := startWords_drop n
  unfold Blk.decide_
  extract_lets fwd cmin pol c
  have hrot : ∀ v, SameBut b (c.flag (R.Dn_SSTAT_REV_ROT n) v) (startWords n) := fun v =>
    same_flag (same_onSeq (same_refl b _) n _) _ v (.inl rfl)
  have hclose : ∀ {d : Blk} {p : Nat} {m st : Nat}, SameBut b d (startWords n) →
      SameBut b ((d.setPath n p).closeAt n th m spd st) (startWords n) := fun h =>
    same_trans (same_trans h (setPath_same _ n _)) (closeAt_same _ n _ _ _ _)
  have hwait : ∀ {d : Blk}, SameBut b d (startWords n) → SameBut b (d.beginWait n) (startWords n) := fun h =>
    same_trans h (beginWait_same _ n)
  refine same_ite (fun _ => ?standstill) fun _ => same_ite (fun _ => hclose (hrot _)) fun _ =>
    same_ite (fun _ => hrot _) fun _ => ?reverse
  case standstill => exact same_ite (fun _ => same_trans (hrot _) (beginAlign_same _ n)) fun _ => hclose (hrot _)
  case reverse =>
    have hrev := same_raise (hrot true) 0x3121 n [spd, Int.ofNat pol] hdrop
    have hfault := same_trans (same_flag hrev (R.Dn_SSTAT_REVF n) true (.inl rfl)) (setPath_same _ n 4)
    exact same_ite (fun _ => hwait hrev) fun _ =>
      same_ite (fun _ => same_raise (same_trans hfault (seqIdle_startWords _ n)) _ _ _ hdrop) fun _ =>
      same_ite (fun _ => same_trans hrev (startRefused_same _ n 3)) fun _ =>
      same_ite (fun _ => same_raise (hwait hrev) _ _ _ hdrop) fun _ =>
      hclose (same_inc hrev (R.Dn_SSTAT_BRKN n) (.inl rfl))

/-- Dn_CATCHA stands apart from the words that the end of a catch may change. -/
theorem catchA_not_catchWords (hn : n < 8) : ¬ catchWords n (R.Dn_CATCHA_AMP n).off := by
  rintro ((h | h | h | h | ⟨h, -⟩ | h) | h | h)
  all_goals
    simp only [R.Dn_CATCHA_AMP, R.Dn_SSTAT_SSTATE, R.Dn_CSTAT_SYNC, R.Dn_SUPSTAT_SUSP, R.Dn_STAT_PSTATE, dropWord,
      R.HIF_EVDROP_COUNT, R.Dn_SUPCNT_VERDS, R.Dn_CATCH_SPD] at h
    omega

/-! The end of a catch and of a window of WAIT (R115, R123). -/

/-- A sequencer after a change at its place that keeps the default. -/
theorem seq_onSeq {f : Seq → Seq} (h : f default = default) : (b.onSeq n f).seq n = f (b.seq n) := by
  simp only [Blk.seq, Blk.onSeq, List.getD_eq_getElem?_getD, List.getElem?_modify, if_true]
  cases b.seqs[n]? <;> simp [h]

/-- A window ends at the tick: the crossings stamped in its frames stay (R115). -/
def Blk.closeWindow (b : Blk) (n : Nat) : Blk :=
  b.onSeq n fun q => { q with xings := q.xings.filter (fun t =>
    decide (diff32 (b.tickStamp n) t ≤ Int.ofNat ((b.seq n).catchLen * b.period / 2))) }

theorem closeWindow_seq (b : Blk) (n : Nat) : (b.closeWindow n).seq n =
    { b.seq n with xings := (b.seq n).xings.filter (fun t =>
      decide (diff32 (b.tickStamp n) t ≤ Int.ofNat ((b.seq n).catchLen * b.period / 2))) } := seq_onSeq rfl

/-- The mean amplitude of the readings, in V_PVFS / 4,096 (R115). -/
def Seq.meanAmp (q : Seq) : Nat := (halfUp (Int.ofNat q.amps.sum) (8 * Int.ofNat (max 1 q.amps.length))).toNat

/-- Whichever rule of R116 gives the speed, the amplitude is the mean and the crossings are those kept. -/
theorem catchSpeed_reads (b : Blk) (n : Nat) :
    (b.catchSpeed n).2.2 = ((b.seq n).meanAmp, (b.seq n).xings.length) := by
  unfold Blk.catchSpeed Seq.meanAmp
  dsimp only
  split_ifs <;> rfl

/-- The readings of a catch in Dn_CATCHA. -/
def Blk.showCatch (b : Blk) (n : Nat) : Blk :=
  (b.wrSat (R.Dn_CATCHA_NXING n) (b.catchSpeed n).2.2.2).wrSat (R.Dn_CATCHA_AMP n) (b.catchSpeed n).2.2.1

/-- A field written with a value cut to its largest is read back so. -/
theorem rd_wrSat_self (b : Blk) (f : Fld) (v : Nat) (h : f.inWord) : (b.wrSat f v).rd f = min v f.top := by
  have hpos : 0 < 2 ^ f.w := Nat.two_pow_pos f.w
  have hfit : min v f.top < 2 ^ f.w := by
    unfold Fld.top
    omega
  exact (Blk.rd_wr_self b f _ h).trans (Nat.mod_eq_of_lt hfit)

theorem showCatch_rd (b : Blk) (n : Nat) :
    (b.showCatch n).rd (R.Dn_CATCHA_AMP n) = min (b.catchSpeed n).2.2.1 (R.Dn_CATCHA_AMP n).top ∧
    (b.showCatch n).rd (R.Dn_CATCHA_NXING n) = min (b.catchSpeed n).2.2.2 (R.Dn_CATCHA_NXING n).top := by
  have hamp : (R.Dn_CATCHA_AMP n).inWord := by simp [Fld.inWord, R.Dn_CATCHA_AMP]
  have hcount : (R.Dn_CATCHA_NXING n).inWord := by simp [Fld.inWord, R.Dn_CATCHA_NXING]
  have hapart : (R.Dn_CATCHA_AMP n).apart (R.Dn_CATCHA_NXING n) :=
    .inl (by simp [R.Dn_CATCHA_AMP, R.Dn_CATCHA_NXING])
  exact ⟨rd_wrSat_self _ _ _ hamp, (Blk.rd_wr_apart _ _ _ _ hamp hapart).trans (rd_wrSat_self _ _ _ hcount)⟩

theorem latchVerdict_same (b : Blk) (n cause : Nat) : SameBut b (b.latchVerdict n cause) (catchWords n) :=
  same_inc (same_wr (same_flag (same_refl b _) (R.Dn_SUPSTAT_VERD n) _ (.inl (.inr (.inr (.inl rfl)))))
    (R.Dn_SUPSTAT_CAUSE n) _ (.inl (.inr (.inr (.inl rfl))))) _ (.inr (.inl rfl))

/-- What follows the readings, the cross-check of R118, the decision and the report, leaves Dn_CATCHA. -/
theorem catchDone_same (b : Blk) (n : Nat) (waiting : Bool) :
    SameBut ((b.closeWindow n).showCatch n) (b.catchDone n waiting) (catchWords n) := by
  have hdrop : catchWords n R.HIF_EVDROP_COUNT.off := .inl (startWords_drop n)
  have hstart : ∀ {c d e : Blk}, SameBut c d (catchWords n) → SameBut d e (startWords n) →
      SameBut c e (catchWords n) := fun hc hd => same_trans hc (same_mono hd fun _ => .inl)
  have hsup : catchWords n (R.Dn_SUPSTAT_SUSP n).off := .inl (.inr (.inr (.inl rfl)))
  unfold Blk.catchDone
  extract_lets win now c r amp p sensored port bad d fb e g usePort spd th k l m
  have he : SameBut d e (catchWords n) := same_ite (fun _ => latchVerdict_same d n 4) fun _ => same_refl d _
  have hg : SameBut d g (catchWords n) := same_ite
    (fun _ => same_trans (same_raise (same_flag (same_onSeq he n _) (R.Dn_SUPSTAT_FALL n) _ hsup) _ _ _ hdrop)
      (same_regs rfl))
    fun _ => he
  have hl : SameBut d l (catchWords n) :=
    same_wr (same_wr (same_wrS hg _ _ (.inr (.inr rfl))) (R.Dn_CATCH_THETA n) _ (.inr (.inr rfl)))
      (R.Dn_SSTAT_SRC n) _ (.inl (.inl rfl))
  have hm : SameBut d m (catchWords n) := same_ite (fun _ => hstart hl (startRefused_same _ n 5))
    fun _ => hstart hl (decide_same _ n _ _ _ _)
  exact same_ite (fun _ => hm) fun _ => same_raise hm _ _ _ hdrop

/-- R115: Dn_CATCHA shows the mean amplitude and the crossings of the window. -/
theorem catchDone_rd (hn : n < 8) (waiting : Bool) :
    (b.catchDone n waiting).rd (R.Dn_CATCHA_AMP n) = min (b.catchSpeed n).2.2.1 (R.Dn_CATCHA_AMP n).top ∧
    (b.catchDone n waiting).rd (R.Dn_CATCHA_NXING n) =
      min ((b.closeWindow n).seq n).xings.length (R.Dn_CATCHA_NXING n).top := by
  obtain ⟨hamp, hcount⟩ := showCatch_rd (b.closeWindow n) n
  have hmean : ((b.closeWindow n).catchSpeed n).2.2.1 = (b.catchSpeed n).2.2.1 := by
    rw [catchSpeed_reads, catchSpeed_reads, closeWindow_seq]
    rfl
  have hkept := catchDone_same b n waiting
  rw [hmean] at hamp
  rw [catchSpeed_reads] at hcount
  exact ⟨(same_rd hkept _ (catchA_not_catchWords hn)).trans hamp,
    (same_rd hkept (R.Dn_CATCHA_NXING n) (catchA_not_catchWords hn)).trans hcount⟩

/-- A catch that is complete reports it last (R115). -/
theorem catchDone_reported (b : Blk) (n : Nat) : Reported (b.catchDone n false) 0x3020 n := by
  unfold Blk.catchDone
  extract_lets win now c r amp p sensored port bad d fb e g usePort spd th k l m
  rw [if_neg Bool.false_ne_true]
  exact Blk.raise_self m _ _ _

/-! The end of the wait and of the brake (R123, R124). -/

/-- SSTATE written is read back. -/
theorem sstate_wr (b : Blk) (n : Nat) {v : Nat} (hv : v < 8) : (b.wr (R.Dn_SSTAT_SSTATE n) v).sstate n = v :=
  (Blk.rd_wr_self b _ v (by simp [Fld.inWord, R.Dn_SSTAT_SSTATE])).trans (Nat.mod_eq_of_lt hv)

/-- Dn_SSTAT is none of Dn_CSTAT, Dn_SUPSTAT, Dn_STAT and HIF_EVDROP. -/
theorem sstat_apart (n : Nat) : (R.Dn_SSTAT_SSTATE n).off ≠ (R.Dn_CSTAT_SYNC n).off ∧
    (R.Dn_SSTAT_SSTATE n).off ≠ (R.Dn_SUPSTAT_SUSP n).off ∧ (R.Dn_SSTAT_SSTATE n).off ≠ (R.Dn_STAT_PSTATE n).off ∧
    (R.Dn_SSTAT_SSTATE n).off ≠ R.HIF_EVDROP_COUNT.off := by
  simp only [R.Dn_SSTAT_SSTATE, R.Dn_CSTAT_SYNC, R.Dn_SUPSTAT_SUSP, R.Dn_STAT_PSTATE, R.HIF_EVDROP_COUNT]
  omega

/-- The end of a start sequence writes SSTATE alone of Dn_SSTAT. -/
theorem seqIdle_sstat (b : Blk) (n : Nat) (f : Fld) (hf : f.off = (R.Dn_SSTAT_SSTATE n).off) :
    (b.seqIdle n).rd f = (b.wr (R.Dn_SSTAT_SSTATE n) 0).rd f := by
  have hoff : f.off ≠ (R.Dn_CSTAT_SYNC n).off := hf ▸ (sstat_apart n).1
  exact (Blk.rd_wr_off _ _ f _ hoff).trans (Blk.rd_wr_off _ (R.Dn_CSTAT_SECTOR n) f _ hoff)

/-- R123: a start refused in the sequence ends it, with PATH 4 and event 0x3126. -/
theorem startRefused_refuses (b : Blk) (n reason : Nat) : (b.startRefused n reason).sstate n = 0 ∧
    (b.startRefused n reason).rd (R.Dn_SSTAT_PATH n) = 4 ∧ Reported (b.startRefused n reason) 0x3126 n := by
  obtain ⟨-, -, -, hdrop⟩ := sstat_apart n
  have hin : (R.Dn_SSTAT_SSTATE n).inWord := by simp [Fld.inWord, R.Dn_SSTAT_SSTATE]
  have hapart : (R.Dn_SSTAT_SSTATE n).apart (R.Dn_SSTAT_PATH n) :=
    .inl (by simp [R.Dn_SSTAT_SSTATE, R.Dn_SSTAT_PATH])
  refine ⟨?idle, ?path, Blk.raise_self _ _ _ _⟩
  case idle =>
    exact (Blk.raise_rd _ _ _ _ (R.Dn_SSTAT_SSTATE n) hdrop).trans
      ((seqIdle_sstat _ n _ rfl).trans (sstate_wr _ n (by decide)))
  case path =>
    calc (b.startRefused n reason).rd (R.Dn_SSTAT_PATH n)
        = ((b.setPath n 4).seqIdle n).rd (R.Dn_SSTAT_PATH n) := Blk.raise_rd _ _ _ _ _ hdrop
      _ = ((b.setPath n 4).wr (R.Dn_SSTAT_SSTATE n) 0).rd (R.Dn_SSTAT_PATH n) := seqIdle_sstat _ n _ rfl
      _ = (b.setPath n 4).rd (R.Dn_SSTAT_PATH n) := Blk.rd_wr_apart _ _ _ _ hin hapart
      _ = 4 := Blk.rd_wr_self b _ 4 (by simp [Fld.inWord, R.Dn_SSTAT_PATH])

/-- R124, R220: a sensored drive whose ramp has passed zero goes on in closed loop. -/
theorem brakePassed_closes (b : Blk) (n : Nat) :
    ((b.wr (R.Dn_SSTAT_SSTATE n) 6).startSettle n).sstate n = 6 ∧
    ((b.wr (R.Dn_SSTAT_SSTATE n) 6).startSettle n).pstate n = b.pstate n := by
  obtain ⟨-, hsup, hstat, -⟩ := sstat_apart n
  have hoff : (R.Dn_STAT_PSTATE n).off ≠ (R.Dn_SUPSTAT_SUSP n).off := by
    simp only [R.Dn_STAT_PSTATE, R.Dn_SUPSTAT_SUSP]
    omega
  exact ⟨(same_rd (startSettle_same _ n) (R.Dn_SSTAT_SSTATE n) hsup).trans (sstate_wr b n (by decide)),
    (same_rd (startSettle_same _ n) (R.Dn_STAT_PSTATE n) hoff).trans (Blk.rd_wr_off b _ _ _ hstat.symm)⟩

/-- R124, R125, R132: a new catch waits for the pulses to end. -/
theorem blockAndCatch_asks (b : Blk) (n : Nat) {st : Nat} (hs : st < 8) : (b.blockAndCatch n st).sstate n = st ∧
    (∀ q, (b.blockAndCatch n st).seqs[n]? = some q → q.reopen = true) ∧
    ∀ d, (b.blockAndCatch n st).drvs[n]? = some d → d.reqBlock = true := by
  refine ⟨sstate_wr b n hs, fun q hq => ?_, fun d hd => ?_⟩
  · obtain ⟨y, -, rfl⟩ := getElem?_modify_self hq
    rfl
  · obtain ⟨y, -, rfl⟩ := getElem?_modify_self hd
    rfl

/-! The end of the alignment and of the current-frequency start (R128, R130). -/

/-- R128: the alignment over, the current-frequency start begins and nothing but HOBL shows it beside SSTATE. -/
theorem doAlignEnd_begins (hs : b.sstate n = 4) (hj : b.alignFrames n ≤ (b.seq n).alignJ) :
    (b.doAlignEnd n).sstate n = 5 ∧
    SameBut b (b.doAlignEnd n) (fun a => a = (R.Dn_SSTAT_SSTATE n).off ∨ a = (R.Dn_CSTAT_HOBL n).off) := by
  have hdo : ∃ f y, b.doAlignEnd n = ((b.wr (R.Dn_SSTAT_SSTATE n) 5).onSeq n f).startBlend n 0 9 y 0 :=
    ⟨_, _, if_pos ⟨hs, hj⟩⟩
  obtain ⟨f, y, hdo⟩ := hdo
  obtain ⟨hcstat, -⟩ := sstat_apart n
  rw [hdo]
  exact ⟨(same_rd (startBlend_same _ n _ _ _ _ _) (R.Dn_SSTAT_SSTATE n) hcstat).trans (sstate_wr b n (by decide)),
    same_trans (same_onSeq (same_wr (same_refl b _) _ _ (.inl rfl)) n f)
      (same_mono (startBlend_same _ n _ _ _ _ _) fun _ => .inr)⟩

/-- R130: in `c` the loop of drive n is closed, with SETTLE as in `b`. -/
structure LoopClosed (b c : Blk) (n : Nat) : Prop where
  closed : c.sstate n = 6
  sync : c.on (R.Dn_CSTAT_SYNC n) = true
  settle : c.rd (R.Dn_SUPCFG_SETTLE n) = b.rd (R.Dn_SUPCFG_SETTLE n)

theorem loopClosed_startBlend {c : Blk} (h : LoopClosed b c n) (what kind : Nat) (yLast vq vd : Int) :
    LoopClosed b (c.startBlend n what kind yLast vq vd) n := by
  obtain ⟨hclosed, hsync, hsettle⟩ := h
  have hsame := startBlend_same c n what kind yLast vq vd
  have hoff : (R.Dn_SUPCFG_SETTLE n).off ≠ (R.Dn_CSTAT_HOBL n).off := by
    simp only [R.Dn_SUPCFG_SETTLE, R.Dn_CSTAT_HOBL]
    omega
  have hkeeps : (c.startBlend n what kind yLast vq vd).rd (R.Dn_CSTAT_SYNC n) = c.rd (R.Dn_CSTAT_SYNC n) :=
    Blk.rd_wr_apart (c.onDrv n _) _ _ _ (by simp [Fld.inWord, R.Dn_CSTAT_HOBL])
      (.inr (by simp [R.Dn_CSTAT_SYNC, R.Dn_CSTAT_HOBL]))
  exact ⟨(same_rd hsame (R.Dn_SSTAT_SSTATE n) (sstat_apart n).1).trans hclosed,
    (congrArg (· != 0) hkeeps).trans hsync, (same_rd hsame _ hoff).trans hsettle⟩

/-- R130: SSTATE and SYNC written close the loop. -/
theorem loopClosed_sync (b : Blk) (n : Nat) :
    LoopClosed b ((b.wr (R.Dn_SSTAT_SSTATE n) 6).flag (R.Dn_CSTAT_SYNC n) true) n := by
  have hclosed : (R.Dn_SUPCFG_SETTLE n).off ≠ (R.Dn_SSTAT_SSTATE n).off := by
    simp only [R.Dn_SUPCFG_SETTLE, R.Dn_SSTAT_SSTATE]
    omega
  have hsync : (R.Dn_SUPCFG_SETTLE n).off ≠ (R.Dn_CSTAT_SYNC n).off := by
    simp only [R.Dn_SUPCFG_SETTLE, R.Dn_CSTAT_SYNC]
    omega
  exact ⟨(Blk.rd_wr_off _ (R.Dn_CSTAT_SYNC n) (R.Dn_SSTAT_SSTATE n) _ (sstat_apart n).1).trans
      (sstate_wr b n (by decide)),
    Blk.on_flag_self _ (R.Dn_CSTAT_SYNC n) true (by simp [Fld.inWord, R.Dn_CSTAT_SYNC]) rfl,
    (Blk.rd_wr_off _ (R.Dn_CSTAT_SYNC n) _ _ hsync).trans (Blk.rd_wr_off b _ _ _ hclosed)⟩

theorem loopClosed_onDrv {c : Blk} (h : LoopClosed b c n) (f : Drive → Drive) : LoopClosed b (c.onDrv n f) n :=
  ⟨h.closed, h.sync, h.settle⟩

/-- The end of injections leaves Dn_SSTAT, Dn_CSTAT and Dn_SUPSTAT. -/
theorem start_not_abort {a : Nat} (ha : a = (R.Dn_SSTAT_SSTATE n).off ∨ a = (R.Dn_CSTAT_SYNC n).off ∨
    a = (R.Dn_SUPSTAT_SUSP n).off) : ¬ (capWords a ∨ dropWord a) := by
  simp only [R.Dn_SSTAT_SSTATE, R.Dn_CSTAT_SYNC, R.Dn_SUPSTAT_SUSP] at ha
  rintro (⟨k, hk, h⟩ | h)
  · simp only [R.LE_CAPSTAT_CAP] at h
    omega
  · simp only [dropWord, R.HIF_EVDROP_COUNT] at h
    omega

/-- R220, R229: what a hand-over ends and suspends leaves the loop closed, and SUSP shows whether SETTLE runs. -/
theorem handedOver_closed {c : Blk} (h : LoopClosed b c n) : (c.handedOver n).sstate n = 6 ∧
    (c.handedOver n).on (R.Dn_CSTAT_SYNC n) = true ∧
    ((c.handedOver n).on (R.Dn_SUPSTAT_SUSP n) = true ↔ 0 < b.rd (R.Dn_SUPCFG_SETTLE n)) := by
  obtain ⟨hclosed, hsync, hsettle⟩ := h
  have habort := abortInj_same (c.startSettle n) n 3
  have hpause := startSettle_same c n
  have hoff : (R.Dn_CSTAT_SYNC n).off ≠ (R.Dn_SUPSTAT_SUSP n).off := by
    simp only [R.Dn_CSTAT_SYNC, R.Dn_SUPSTAT_SUSP]
    omega
  have hsusp : (c.handedOver n).on (R.Dn_SUPSTAT_SUSP n) = decide (0 < c.rd (R.Dn_SUPCFG_SETTLE n)) :=
    (same_on habort _ (start_not_abort (.inr (.inr rfl)))).trans
      (Blk.on_flag_self _ _ _ (by simp [Fld.inWord, R.Dn_SUPSTAT_SUSP]) rfl)
  refine ⟨?_, ?_, by rw [hsusp, hsettle, decide_eq_true_iff]⟩
  · exact (same_rd habort (R.Dn_SSTAT_SSTATE n) (start_not_abort (.inl rfl))).trans
      ((same_rd hpause (R.Dn_SSTAT_SSTATE n) (sstat_apart n).2.1).trans hclosed)
  · exact (same_on habort _ (start_not_abort (.inr (.inl rfl)))).trans ((same_on hpause _ hoff).trans hsync)

/-- R130: the hand-over at FHO closes the loop. -/
theorem doIfHandover_closes (hs : b.sstate n = 5) (hr : b.ifReached n (b.rd (R.Dn_IFF_FHO n)) = true)
    (hp : (b.seq n).seenPrev = true) (ho : (b.seq n).seenOld = true) : (b.doIfHandover n).sstate n = 6 ∧
    (b.doIfHandover n).on (R.Dn_CSTAT_SYNC n) = true ∧
    ((b.doIfHandover n).on (R.Dn_SUPSTAT_SUSP n) = true ↔ 0 < b.rd (R.Dn_SUPCFG_SETTLE n)) := by
  have hdo : ∃ f i y, b.doIfHandover n = (((((b.wr (R.Dn_SSTAT_SSTATE n) 6).flag (R.Dn_CSTAT_SYNC n) true).onDrv n
      f).startBlend n 1 3 i 0).startBlend n 0 3 y 0).handedOver n := ⟨_, _, _, if_pos ⟨hs, hr, hp, ho⟩⟩
  obtain ⟨f, i, y, hdo⟩ := hdo
  rw [hdo]
  exact handedOver_closed (loopClosed_startBlend (loopClosed_startBlend (loopClosed_onDrv (loopClosed_sync b n) f)
    _ _ _ _ _) _ _ _ _ _)

/-- R111, R130: a loss of synchronism ends the start state, whatever PSTATE is, and is reported. -/
theorem syncLost_ends (b : Blk) (n cause : Nat) (more : List Int) :
    (b.syncLost n cause more).sstate n = 0 ∧ Reported (b.syncLost n cause more) 0x3316 n := by
  obtain ⟨hcstat, -, -, hdrop⟩ := sstat_apart n
  refine ⟨(Blk.raise_rd _ _ _ _ (R.Dn_SSTAT_SSTATE n) hdrop).trans ?_, Blk.raise_self _ _ _ _⟩
  exact (Blk.rd_wr_off _ _ (R.Dn_SSTAT_SSTATE n) _ hcstat).trans (stopReq_asks b n).1

end

/-- Settles O6: the end of a catch and of a window of WAIT, the ends of the wait, of the brake and of the alignment, and
the two ends of the current-frequency start. -/
theorem startSequence : Obligations.StartSequence := by
  unfold Obligations.StartSequence
  refine ⟨?caught, ?window, ?waitmax, ?passed, ?again, ?aligned, ?handover, ?abort⟩
  case caught =>
    intro s n hf hs ho hl
    have hdo : s.blk.doCatchEnd n = s.blk.catchDone n false := if_pos ⟨hs, ho, hl⟩
    exact yields_within rfl hf (hdo ▸ ⟨catchDone_reported s.blk n, (catchDone_rd n.isLt false).1⟩)
  case window =>
    intro s n hf hs ho hl
    have hdo : s.blk.doWindowDecision n = s.blk.catchDone n true := if_pos ⟨hs, ho, hl⟩
    obtain ⟨hamp, hcount⟩ := catchDone_rd (b := s.blk) n.isLt true
    rw [closeWindow_seq] at hcount
    exact yields_within rfl hf (hdo ▸ ⟨hamp, hcount⟩)
  case waitmax =>
    intro s n hf hs hm hw
    have hdo : s.blk.doWaitmax n = s.blk.startRefused n 2 := if_pos ⟨hs, hm, hw⟩
    exact yields_within rfl hf (hdo ▸ startRefused_refuses s.blk n 2)
  case passed =>
    intro s n hf hs hsens hr
    have hdo : s.blk.doBrakeEnd n = (s.blk.wr (R.Dn_SSTAT_SSTATE n) 6).startSettle n := by
      simp [Blk.doBrakeEnd, hs, hsens, hr]
    exact yields_within rfl hf (hdo ▸ brakePassed_closes s.blk n)
  case again =>
    intro s n hf hs hsens hr
    have hdo : s.blk.doBrakeEnd n = s.blk.blockAndCatch n 1 := by simp [Blk.doBrakeEnd, hs, hsens, hr]
    exact yields_within rfl hf (hdo ▸ blockAndCatch_asks s.blk n (by decide))
  case aligned => exact fun s n hf hs hj => yields_within rfl hf (doAlignEnd_begins hs hj)
  case handover => exact fun s n hf hs hr hp ho => yields_within rfl hf (doIfHandover_closes hs hr hp ho)
  case abort =>
    intro s n hf hs hr
    have hdo : s.blk.doFmax n = s.blk.syncLost n 3 := if_pos ⟨hs, hr⟩
    exact yields_within rfl hf (hdo ▸ syncLost_ends s.blk n 3 [])

end Sys2Proof.Machine
end

section
/-! SUPPORT. What trips, gate-enables, ownership and a loss leave of the measurement front end: the converters in service,
AFE_SARSTAT and AFE_STUCK, and every report (R31, R77, R140, R338). -/

namespace Sys2Proof.Machine

/-- The words in which the front end shows converters retired and lines stuck. -/
def foundWord (a : Nat) : Prop := a = R.AFE_SARSTAT_W.off ∨ a = R.AFE_STUCK_LO_W.off ∨ a = R.AFE_STUCK_HI_W.off

/-- A word above the rings other than AFE_SARSTAT and AFE_STUCK. -/
def besideFront (a : Nat) : Prop := 0x4260 ≤ a ∧ a ≠ 0xC110 ∧ a ≠ 0xC280 ∧ a ≠ 0xC284

/-- A word of an indexed unit. -/
theorem besideFront_at {base k : Nat}
    (h : 0x4260 ≤ base ∧ base + k ≠ 0xC110 ∧ base + k ≠ 0xC280 ∧ base + k ≠ 0xC284 := by omega) :
    besideFront (base + k) :=
  ⟨Nat.le_add_right_of_le h.1, h.2⟩

/-- A word of a unit that stands once. -/
theorem besideFront_const {a : Nat}
    (h : decide (0x4260 ≤ a ∧ a ≠ 0xC110 ∧ a ≠ 0xC280 ∧ a ≠ 0xC284) = true) : besideFront a :=
  (of_decide_eq_true h :)

/-- From `b` to `c` the converters in service, what the front end has found, and every report stay. -/
structure FrontKept (b c : Blk) : Prop where
  service : c.afe.service = b.afe.service
  found : SameBut b c (fun a => ¬ foundWord a)
  reports : ∀ code src, Reported b code src → Reported c code src

theorem front_refl (b : Blk) : FrontKept b b := ⟨rfl, same_refl b _, fun _ _ h => h⟩

namespace FrontKept
variable {b c d : Blk}

theorem trans (h : FrontKept b c) (k : FrontKept c d) : FrontKept b d :=
  ⟨k.service.trans h.service, same_trans h.found k.found, fun code src hr => k.reports code src (h.reports code src hr)⟩

theorem wr {f : Fld} {v : Nat} (h : FrontKept b c) (hf : besideFront f.off) : FrontKept b (c.wr f v) := by
  obtain ⟨habove, hsar, hlo, hhi⟩ := hf
  refine ⟨h.service, same_wr h.found f v ?_, fun code src hr => reported_wr_above (h.reports code src hr) f v habove⟩
  rintro (hw | hw | hw)
  exacts [hsar hw, hlo hw, hhi hw]

theorem raise {code src : Nat} {i : List Int} (h : FrontKept b c) : FrontKept b (c.raise code src i) := by
  refine ⟨(congrArg Afe.service (c.raise_afe code src i)).trans h.service, same_raise h.found code src i ?_,
    fun k s hr => c.raise_mono code src i (h.reports k s hr)⟩
  rintro (hw | hw | hw) <;> exact absurd hw (by decide)

/-- An update of the state beside registers, events and converters in service. -/
theorem beside (h : FrontKept b c) (hs : d.afe.service = c.afe.service) (hr : d.regs = c.regs) (he : d.evs = c.evs) :
    FrontKept b d := by
  have hw : ∀ a, d.word a = c.word a := fun a => by rw [Blk.word, Blk.word, hr]
  refine ⟨hs.trans h.service, same_trans h.found (same_regs hr), fun code src hk => ?_⟩
  exact reported_keep (h.reports code src hk) he (congrArg _ (hw _)) (ringSpace_keep 10 fun a _ => hw a)

theorem onDrv {n : Nat} {f : Drive → Drive} (h : FrontKept b c) : FrontKept b (c.onDrv n f) := h.beside rfl rfl rfl
theorem onSeq {n : Nat} {f : Seq → Seq} (h : FrontKept b c) : FrontKept b (c.onSeq n f) := h.beside rfl rfl rfl
theorem onDc {n : Nat} {f : DcLink → DcLink} (h : FrontKept b c) : FrontKept b (c.onDc n f) := h.beside rfl rfl rfl
theorem onStp {n : Nat} {f : Stepper → Stepper} (h : FrontKept b c) : FrontKept b (c.onStp n f) := h.beside rfl rfl rfl
theorem onAxis {n : Nat} {f : Axis → Axis} (h : FrontKept b c) : FrontKept b (c.onAxis n f) := h.beside rfl rfl rfl
theorem onTun {n : Nat} {f : Tuner → Tuner} (h : FrontKept b c) : FrontKept b (c.onTun n f) := h.beside rfl rfl rfl
theorem onSto {n : Nat} {f : Sto → Sto} (h : FrontKept b c) : FrontKept b (c.onSto n f) := h.beside rfl rfl rfl
theorem onHch {n : Nat} {f : HaspCh → HaspCh} (h : FrontKept b c) : FrontKept b (c.onHch n f) := h.beside rfl rfl rfl
theorem onHost {f : HostIf → HostIf} (h : FrontKept b c) : FrontKept b (c.onHost f) := h.beside rfl rfl rfl
theorem onAfe {f : Afe → Afe} (h : FrontKept b c)
    (hf : ∀ a, (f a).service = a.service := by exact fun _ => rfl) : FrontKept b (c.onAfe f) :=
  h.beside (hf c.afe) rfl rfl
theorem complete {x : Hdr} {op st e : Nat} (h : FrontKept b c) : FrontKept b (c.complete x op st e) :=
  h.beside rfl rfl rfl

theorem ite {p : Prop} [Decidable p] (hc : p → FrontKept b c) (hd : ¬ p → FrontKept b d) :
    FrontKept b (if p then c else d) := by
  split_ifs with h
  · exact hc h
  · exact hd h

theorem foldl {α : Type} {l : List α} {f : Blk → α → Blk} (h : ∀ x ∈ l, ∀ b, FrontKept b (f b x)) (b : Blk) :
    FrontKept b (l.foldl f b) :=
  List.foldlRecOn _ _ (front_refl b) fun c hc x hx => hc.trans (h x hx c)

theorem each {n : Nat} {f : Nat → Blk → Blk} (h : ∀ i < n, ∀ b, FrontKept b (f i b)) (b : Blk) :
    FrontKept b (b.each n f) :=
  foldl (fun i hi b => h i (List.mem_range.mp hi) b) b

theorem eachOf {l : List Nat} {f : Nat → Blk → Blk} (h : ∀ i b, FrontKept b (f i b)) (b : Blk) :
    FrontKept b (b.eachOf l f) :=
  foldl (fun i _ b => h i b) b

end FrontKept

section
variable (b : Blk)

/-! The end of pulses. -/

theorem capWithInj_front (k : Nat) : FrontKept b (b.capWithInj k) :=
  .ite (fun _ => ((front_refl b).wr besideFront_at).onTun) fun _ => front_refl b

theorem abortInjOn_front (k c reason : Nat) : FrontKept b (b.abortInjOn k c reason) := by
  have hend : ∀ f, FrontKept b ((b.wr (R.LE_CAPSTAT_INJ k) 3).onTun k f) := fun f =>
    ((front_refl b).wr besideFront_at).onTun
  refine .ite (fun _ => FrontKept.trans (FrontKept.raise ?_) (capWithInj_front _ k)) fun _ => front_refl b
  split
  · exact (hend _).complete
  · exact hend _

theorem abortInj_front (c reason : Nat) : FrontKept b (b.abortInj c reason) :=
  .each (fun k _ b => abortInjOn_front b k c reason) b

theorem showAxis_front (a : Nat) : FrontKept b (b.showAxis a) :=
  ((((((front_refl b).wr besideFront_at).wr besideFront_at).wr besideFront_at).wr besideFront_at).wr besideFront_at).wr
    besideFront_at

theorem suspendMove_front (a : Nat) : FrontKept b (b.suspendMove a) := by
  have haxis : ∀ f, FrontKept b (b.onAxis a f) := fun f => (front_refl b).onAxis
  unfold Blk.suspendMove
  split
  · exact .ite (fun _ => (haxis _).wr besideFront_at) fun _ => haxis _
  · split
    · exact haxis _
    · exact front_refl b

theorem abruptStop_front (a : Nat) : FrontKept b (b.abruptStop a) := by
  have hstop : ∀ f, FrontKept b ((b.suspendMove a).onAxis a f) := fun f =>
    (suspendMove_front b a).onAxis
  refine .ite (fun _ => FrontKept.raise (FrontKept.trans ?_ (showAxis_front _ a))) fun _ => front_refl b
  exact .ite (fun _ => hstop _) fun _ => (hstop _).wr besideFront_at

theorem seqIdle_front (n : Nat) : FrontKept b (b.seqIdle n) :=
  ((((front_refl b).wr besideFront_at).wr besideFront_at).wr besideFront_at).onSeq

theorem because_front (n why : Nat) : FrontKept b (b.because n why) :=
  .ite (fun _ => (front_refl b).onDrv) fun _ => front_refl b

theorem pinsOff_front (n : Nat) : FrontKept b (b.pinsOff n) :=
  (((front_refl b).wr besideFront_at).wr besideFront_at).onDrv

theorem pinsAsc_front (n on : Nat) : FrontKept b (b.pinsAsc n on) :=
  (((front_refl b).wr besideFront_at).wr besideFront_at).onDrv

theorem blockTo_front (n ps : Nat) : FrontKept b (b.blockTo n ps) := by
  have hidle : FrontKept b ((b.wr (R.Dn_STAT_PSTATE n) ps).seqIdle n) :=
    ((front_refl b).wr besideFront_at).trans (seqIdle_front _ n)
  have hpins : ∀ f, FrontKept b
      (((((b.wr (R.Dn_STAT_PSTATE n) ps).seqIdle n).flag (R.Dn_CSTAT_HOBL n) false).onDrv n f).pinsOff n) := fun f =>
    ((hidle.wr besideFront_at).onDrv).trans (pinsOff_front _ n)
  exact .ite (fun _ => ((hpins _).trans (abortInj_front _ n 2)).trans (abruptStop_front _ n)) fun _ => hpins _

/-! Trips and stepper faults (R74, R244). -/

theorem acceptTrip_front (n src : Nat) : FrontKept b (b.acceptTrip n src) := by
  have hcut : ∀ ps f, FrontKept b (((b.because n 1).blockTo n ps).onDrv n f) := fun ps f =>
    ((because_front b n 1).trans (blockTo_front _ n ps)).onDrv
  refine .ite (fun _ => front_refl b) fun _ => .ite (fun _ => (front_refl b).wr besideFront_at) fun _ => ?_
  refine (FrontKept.wr (FrontKept.wr (FrontKept.wr ?_ besideFront_at) besideFront_at) besideFront_at).raise
  exact .ite (fun _ => (hcut _ _).trans (pinsAsc_front _ n _)) fun _ => hcut _ _

theorem bridgesOff_front (n st : Nat) : FrontKept b (b.bridgesOff n st) :=
  .ite (fun _ => (((abortInj_front b _ 2).wr besideFront_at).onStp).trans (abruptStop_front _ _))
    fun _ => front_refl b

theorem stpOc_front (n : Nat) : FrontKept b (b.stpOc n) :=
  .ite (fun _ => ((front_refl b).wr besideFront_at).raise.trans (bridgesOff_front _ n 3)) fun _ => front_refl b

/-! Gate-enables and STO outputs (R322, R323). -/

theorem gateLost_front (c : Nat) : FrontKept b (b.gateLost c) := by
  have hshown : FrontKept b (b.flag (R.Dn_STAT_HASP_EN c) false) := (front_refl b).wr besideFront_at
  refine .ite (fun _ => hshown.trans ?_) fun _ => ((front_refl b).wr besideFront_at).trans (bridgesOff_front _ _ 3)
  refine .ite (fun _ => (because_front _ c 3).trans (blockTo_front _ c 0)) fun _ => ?_
  exact .ite (fun _ => blockTo_front _ c 3) fun _ => .ite (fun _ => seqIdle_front _ c) fun _ => front_refl _

theorem gateGained_front (c : Nat) : FrontKept b (b.gateGained c) :=
  .ite (fun _ => (front_refl b).wr besideFront_at) fun _ => (front_refl b).wr besideFront_at

theorem gates_front : FrontKept b b.gates := by
  refine .each (fun c _ b => .ite (fun _ => front_refl b) fun _ => ?_) b
  have hshown : FrontKept b (b.flag (bitOf R.HASP_GEN_EN c) (b.gateDue c)) := (front_refl b).wr (besideFront_const rfl)
  exact hshown.trans (.ite (fun _ => gateGained_front _ c) fun _ => gateLost_front _ c)

theorem openSto_front (k : Nat) : FrontKept b (b.openSto k) := by
  refine FrontKept.trans ?_ (.eachOf (fun c b => (front_refl b).onHch) _)
  refine (FrontKept.wr (FrontKept.wr ?_ besideFront_at) besideFront_at).onSto
  exact .ite (fun _ => ((front_refl b).wr besideFront_at).raise) fun _ => front_refl b

theorem judgeSto_front (k : Nat) : FrontKept b (b.judgeSto k) := by
  refine .ite (fun _ => front_refl b) fun _ => ?_
  split
  · have hdem : ∀ (d : Nat) (p : Prop) [Decidable p] (f : Sto → Sto), FrontKept b
        (((if p then b.wr (R.HASP_STOSTAT_DSRC k) d else b).flag (R.HASP_STOSTAT_DEM k) true).onSto k f) :=
      fun d p _ f =>
        (FrontKept.wr (.ite (fun _ => (front_refl b).wr besideFront_at) fun _ => front_refl b) besideFront_at).onSto
    dsimp only
    split
    · exact .ite (fun _ => ((hdem _ _ _).trans (openSto_front _ k)).raise) fun _ => hdem _ _ _
    · exact hdem _ _ _
  · have hclear : FrontKept b (b.flag (R.HASP_STOSTAT_DEM k) false) := (front_refl b).wr besideFront_at
    exact .ite (fun _ => (hclear.wr besideFront_at).onSto) fun _ => hclear

theorem settle_front : FrontKept b b.settle := by
  have hreact : ∀ b : Blk, FrontKept b (b.each 16 fun c b => b.endReact c) :=
    .each fun c _ b => .ite (fun _ => (front_refl b).onHch) fun _ => front_refl b
  have hpass : ∀ b : Blk,
      FrontKept b ((b.each 16 fun c b => b.endReact c).each 4 fun k b => b.judgeSto k).gates := fun b =>
    ((hreact b).trans (.each (fun k _ b => judgeSto_front b k) _)).trans (gates_front _)
  exact (hpass b).trans (hpass _)

/-! Ownership, and the loss of R338. -/

theorem ownLost_front (c : Nat) : FrontKept b (b.ownLost c) := by
  refine .ite (fun _ => ?drive) fun _ => ?stepper
  case drive =>
    exact ((((front_refl b).wr besideFront_at).trans (blockTo_front _ c 5)).wr besideFront_at).onDc
  case stepper =>
    refine (FrontKept.wr (FrontKept.wr ?_ besideFront_at) besideFront_at).onStp
    exact .ite (fun _ => abortInj_front b c 2) fun _ => front_refl b

theorem ownGained_front (c : Nat) : FrontKept b (b.ownGained c) := by
  refine .ite (fun _ => ?drive) fun _ => ((front_refl b).wr besideFront_at).wr besideFront_at
  case drive =>
    have hpins : FrontKept b (((b.flag (R.Dn_STAT_OWN c) true).wr (R.Dn_STAT_PSTATE c) 0).pinsOff c) :=
      (((front_refl b).wr besideFront_at).wr besideFront_at).trans (pinsOff_front _ c)
    exact .ite (fun _ => hpins.trans (acceptTrip_front _ c 0)) fun _ =>
      .ite (fun _ => hpins.trans (acceptTrip_front _ c 1)) fun _ => hpins

theorem ownSettle_front : FrontKept b b.ownSettle :=
  .each (fun c _ b => .ite (fun _ => front_refl b) fun _ =>
    .ite (fun _ => ownGained_front b c) fun _ => ownLost_front b c) b

theorem setRole_front (r : Nat) : FrontKept b (b.setRole r) :=
  ((front_refl b).wr (besideFront_const rfl)).trans (.each (fun _ _ b => (front_refl b).wr besideFront_at) _)

theorem dropInFlight_front : FrontKept b b.dropInFlight := by
  refine FrontKept.trans ((front_refl b).onHost) (.foldl (fun w _ b => ?_) _)
  split
  · exact .ite (fun _ => front_refl b) fun _ => (front_refl b).complete
  · exact front_refl b

theorem loss_front (cause : Nat) : FrontKept b (b.loss cause) := by
  refine .ite (fun _ => front_refl b) fun _ => ?_
  have hhold : ∀ (p : Prop) [Decidable p], FrontKept b (if p then b.ntcHold else b) := fun p _ =>
    .ite (fun _ => (front_refl b).beside rfl rfl rfl) fun _ => front_refl b
  refine FrontKept.trans ?_ (dropInFlight_front _)
  refine FrontKept.trans ?_ (settle_front _)
  refine FrontKept.trans ?_ (ownSettle_front _)
  refine FrontKept.trans (FrontKept.wr ?_ (besideFront_const rfl)) (setRole_front _ 5)
  exact ((hhold _).wr (besideFront_const rfl)).raise.trans (gates_front _)

/-- R31: a fault inside the module, with a ready standby or without. -/
theorem rung3_front (cls : Nat) (chs : List Nat) : FrontKept b (b.rung3 cls chs) :=
  .ite (fun _ => loss_front b cls) fun _ => (front_refl b).beside rfl rfl rfl

end

end Sys2Proof.Machine
end

section
/-! PROOFS. Filter lanes and their spares (R147, R148). -/

namespace Sys2Proof.Machine

section
variable {b : Blk}

/-! The bits of lanes and inputs. -/

/-- A bit of AFE_LRET. -/
theorem laneBit_word (l : Nat) : (laneBit l).off = R.AFE_LRET_LO_W.off ∨ (laneBit l).off = R.AFE_LRET_HI_W.off := by
  unfold laneBit
  split_ifs
  · exact .inl rfl
  · exact .inr rfl

theorem laneBit_inWord {l : Nat} (hl : l < 64) : (laneBit l).inWord ∧ (laneBit l).w = 1 := by
  unfold laneBit
  split_ifs
  · exact ⟨by simp only [Fld.inWord, bitOf, R.AFE_LRET_LO_RET]; omega, rfl⟩
  · exact ⟨by simp only [Fld.inWord, bitOf, R.AFE_LRET_HI_RET]; omega, rfl⟩

/-! The retirement of a lane. -/

/-- AFE_LSTAT and WARD_SPARE alone show the groups and spares. -/
theorem showLanes_same (b : Blk) : SameBut b b.showLanes fun a => a = R.AFE_LSTAT_W.off ∨ a = R.WARD_SPARE_W.off :=
  same_wr (same_wr (same_flag (same_wr (same_wr (same_refl b _) _ _ (.inl rfl)) _ _ (.inr rfl)) _ _ (.inl rfl)) _ _
    (.inl rfl)) _ _ (.inl rfl)

theorem showLanes_afe (b : Blk) : b.showLanes.afe = b.afe := by
  unfold Blk.showLanes
  rw [Blk.wr_afe, Blk.wr_afe, Blk.flag_afe, Blk.wr_afe, Blk.wr_afe]

theorem reported_showLanes {c s : Nat} (h : Reported b c s) : Reported b.showLanes c s :=
  reported_wr_above (reported_wr_above (reported_wr_above (reported_wr_above (reported_wr_above h _ _ (by decide)) _ _
    (by decide)) _ _ (by decide)) _ _ (by decide)) _ _ (by decide)

/-- The retired lane's bit and its event, with the lanes shown anew. -/
def Blk.laneRetired (b : Blk) (l : Nat) : Blk := ((b.flag (laneBit l) true).raise 0x6201 l []).showLanes

/-- After that a retirement counts at the input that the lane saw, and may report the last spare. -/
theorem retireLane_keeps {P : Blk → Prop} {l : Nat} {inp : Option Nat} (h : P (b.laneRetired l))
    (hcount : ∀ c i, inp = some i → P c → P (c.inc (R.AFE_LMAP_MISM i)))
    (hlast : ∀ c, P c → P (c.raise 0x6203 0 [])) : P (b.retireLane l inp) := by
  have hlate : ∀ c, P c → P (if c.afe.spares.length = 1 then c.raise 0x6203 0 [] else c) := fun c hc => by
    split_ifs
    · exact hlast c hc
    · exact hc
  cases inp with
  | none => exact hlate _ h
  | some i => exact hlate _ (hcount _ i rfl h)

/-- R147, R148: a lane that retires is reported. -/
theorem retireLane_reported (b : Blk) (l : Nat) (inp : Option Nat) : Reported (b.retireLane l inp) 0x6201 l :=
  retireLane_keeps (P := fun c => Reported c 0x6201 l) (reported_showLanes (Blk.raise_self _ _ _ _))
    (fun _ _ _ h => reported_inc_at h _ rfl) fun _ h => Blk.raise_mono _ _ _ _ h

/-- Its bit of AFE_LRET is set. -/
theorem retireLane_on (b : Blk) {l : Nat} (inp : Option Nat) (hl : l < 64) :
    (b.retireLane l inp).on (laneBit l) = true := by
  obtain ⟨hin, hw⟩ := laneBit_inWord hl
  have hoff := laneBit_word l
  simp only [R.AFE_LRET_LO_W, R.AFE_LRET_HI_W] at hoff
  have hdrop : (laneBit l).off ≠ R.HIF_EVDROP_COUNT.off := by
    simp only [R.HIF_EVDROP_COUNT]
    omega
  refine retireLane_keeps (P := fun c => c.on (laneBit l) = true) ?shown (fun c i _ h => ?count) fun c h => ?last
  case shown =>
    refine (same_on (showLanes_same _) (laneBit l) ?_).trans ((Blk.raise_on _ _ _ _ _ hdrop).trans
      (Blk.on_flag_self b _ true hin hw))
    simp only [R.AFE_LSTAT_W, R.WARD_SPARE_W]
    omega
  case count =>
    refine (same_on (same_inc (same_refl c (fun a => a = (R.AFE_LMAP_MISM i).off)) _ rfl) (laneBit l) ?_).trans h
    simp only [R.AFE_LMAP_MISM]
    omega
  case last => exact (Blk.raise_on c _ _ _ _ hdrop).trans h

/-- A retirement leaves the live lane of an input as it is. -/
theorem retireLane_lane (b : Blk) (l : Nat) (inp : Option Nat) {i : Nat} (hi : i < 40) :
    (b.retireLane l inp).rd (R.AFE_LMAP_LANE i) = b.rd (R.AFE_LMAP_LANE i) := by
  have hdrop : (R.AFE_LMAP_LANE i).off ≠ R.HIF_EVDROP_COUNT.off := by
    simp only [R.AFE_LMAP_LANE, R.HIF_EVDROP_COUNT]
    omega
  refine retireLane_keeps (P := fun c => c.rd (R.AFE_LMAP_LANE i) = b.rd (R.AFE_LMAP_LANE i)) ?shown
    (fun c j _ h => ?count) fun c h => ?last
  case shown =>
    have hoff := laneBit_word l
    simp only [R.AFE_LRET_LO_W, R.AFE_LRET_HI_W] at hoff
    refine (same_rd (showLanes_same _) (R.AFE_LMAP_LANE i) ?_).trans ((Blk.raise_rd _ _ _ _ _ hdrop).trans
      (Blk.rd_wr_off b _ _ _ ?_))
    · simp only [R.AFE_LMAP_LANE, R.AFE_LSTAT_W, R.WARD_SPARE_W]
      omega
    · simp only [R.AFE_LMAP_LANE]
      omega
  case count =>
    refine (Blk.rd_wr_apart c (R.AFE_LMAP_MISM j) _ _ ?_ (.inr ?_)).trans h
    · simp [Fld.inWord, R.AFE_LMAP_MISM]
    · simp [R.AFE_LMAP_LANE, R.AFE_LMAP_MISM]
  case last => exact (Blk.raise_rd c _ _ _ _ hdrop).trans h

theorem retireLane_afe (b : Blk) (l : Nat) (inp : Option Nat) : (b.retireLane l inp).afe = b.afe :=
  retireLane_keeps (P := fun c => c.afe = b.afe)
    ((showLanes_afe _).trans ((Blk.raise_afe _ _ _ _).trans (b.flag_afe _ _)))
    (fun c i _ h => (c.inc_afe (R.AFE_LMAP_MISM i)).trans h) fun c h => (Blk.raise_afe c _ _ _).trans h

/-! LANE_RESIDUE_FAIL, SHADOW_MISMATCH and SHADOW_ROTATE. -/

/-- Whatever takes the place of a lane that fails its residue check, the lane retires (R147, R149). -/
theorem doResidue_retires {l : Nat} (hb : b.on (laneBit l) = false) (hp : b.powered .afe = true) :
    ∃ (c : Blk) (inp : Option Nat), b.doResidue l = c.retireLane l inp := by
  have hfails : ¬ (b.on (laneBit l) = true ∨ b.powered .afe = false) := by simp [hb, hp]
  unfold Blk.doResidue
  rw [if_neg hfails]
  split_ifs
  · exact ⟨_, _, rfl⟩
  · split
    · exact ⟨_, _, rfl⟩
    · split
      · exact ⟨_, _, rfl⟩
      · split <;> exact ⟨_, _, rfl⟩

theorem doResidue_found {l : Nat} (hl : l < 64) (hb : b.on (laneBit l) = false) (hp : b.powered .afe = true) :
    (b.doResidue l).on (laneBit l) = true ∧ Reported (b.doResidue l) 0x6201 l := by
  obtain ⟨c, inp, hdo⟩ := doResidue_retires hb hp
  rw [hdo]
  exact ⟨retireLane_on c inp hl, retireLane_reported c l inp⟩

/-- R148: the live lane outvoted retires, and the first spare of the group is to take its input. -/
theorem doShadowMismatch_live {g : Nat} {x : ShadowGrp} (hg : b.afe.groups[g]? = some x) (hp : b.powered .afe = true) :
    b.doShadowMismatch g 0 =
      (b.serveNext x.inp x.la).retireLane (b.rd (R.AFE_LMAP_LANE x.inp)) (some x.inp) := by
  simp [Blk.doShadowMismatch, hg, hp]

/-- R148: a spare outvoted leaves the spares and retires. -/
theorem doShadowMismatch_spare {g out : Nat} {x : ShadowGrp} (hg : b.afe.groups[g]? = some x)
    (hp : b.powered .afe = true) (ho : out ≠ 0) : b.doShadowMismatch g out =
      (b.onAfe fun a => a.dropSpare (if out = 1 then x.la else x.lb)).retireLane (if out = 1 then x.la else x.lb)
        (some x.inp) := by
  simp [Blk.doShadowMismatch, hg, hp, ho]

theorem doShadowMismatch_reported {g out : Nat} {x : ShadowGrp} (hg : b.afe.groups[g]? = some x)
    (hp : b.powered .afe = true) (ho : out ≠ 0) :
    Reported (b.doShadowMismatch g out) 0x6201 (if out = 1 then x.la else x.lb) := by
  rw [doShadowMismatch_spare hg hp ho]
  exact retireLane_reported _ _ _

theorem doShadowMismatch_served {g : Nat} {x : ShadowGrp} (hg : b.afe.groups[g]? = some x) (hi : x.inp < 40)
    (hp : b.powered .afe = true) : (x.inp, x.la) ∈ (b.doShadowMismatch g 0).afe.nextLane ∧
      (b.doShadowMismatch g 0).rd (R.AFE_LMAP_LANE x.inp) = b.rd (R.AFE_LMAP_LANE x.inp) ∧
      Reported (b.doShadowMismatch g 0) 0x6201 (b.rd (R.AFE_LMAP_LANE x.inp)) := by
  rw [doShadowMismatch_live hg hp]
  refine ⟨?_, retireLane_lane _ _ _ hi, retireLane_reported _ _ _⟩
  rw [retireLane_afe]
  exact List.mem_append_right _ (List.mem_singleton.mpr rfl)

/-- The input that a group moves to: the next one that no group shadows now. -/
def Blk.nextShadowed (b : Blk) (x : ShadowGrp) : Nat :=
  if b.afe.groups.any (fun y => y.inp == (x.inp + 1) % 40) then ((x.inp + 1) % 40 + 1) % 40 else (x.inp + 1) % 40

theorem nextShadowed_near (b : Blk) (x : ShadowGrp) :
    b.nextShadowed x = (x.inp + 1) % 40 ∨ b.nextShadowed x = (x.inp + 2) % 40 := by
  unfold Blk.nextShadowed
  split_ifs
  · right
    omega
  · exact .inl rfl

/-- R147: a group that has compared 256 frames moves on and begins anew. -/
theorem doShadowRotate_moves {g : Nat} {x : ShadowGrp} (hg : b.afe.groups[g]? = some x) (hf : 256 ≤ x.fr)
    (hp : b.powered .afe = true) :
    (b.doShadowRotate g).afe.groups[g]? = some { x with inp := b.nextShadowed x, fr := 0 } := by
  have hturn : ¬ (x.fr < 256 ∨ b.powered .afe = false) := by
    rw [hp]
    simp only [Bool.true_eq_false, or_false]
    omega
  obtain ⟨hlt, -⟩ := List.getElem?_eq_some_iff.mp hg
  unfold Blk.doShadowRotate
  simp only [hg, if_neg hturn]
  exact List.getElem?_set_self hlt

end

end Sys2Proof.Machine
end

section
/-! PROOFS. The SAR converters and the modulator lines (R152 to R154, R157). -/

namespace Sys2Proof.Machine

section
variable {b : Blk}

/-! SAR_ROTATE (R152). -/

theorem sarDrift_rotc (b : Blk) (k : Nat) : (b.sarDrift k).rd R.AFE_SARSTAT_ROTC = b.rd R.AFE_SARSTAT_ROTC :=
  Blk.rd_wr_off (b.onAfe _) R.AFE_TBIN_SBINS _ _ (by decide)

/-- R152: the longest serving converter leaves, and the rotating one returns behind the others. -/
theorem doSarRotate_rotates {x : Nat} {rest : List Nat} (hr : b.rd R.AFE_SARSTAT_ROTC ≠ 3) (hf : b.fn % 4096 = 0)
    (hp : b.powered .afe = true) (hc : b.afe.retCv = []) (hs : b.afe.service = x :: rest) (hx : x < 3) :
    b.doSarRotate.rd R.AFE_SARSTAT_ROTC = x ∧ b.doSarRotate.afe.service = rest ++ [b.rd R.AFE_SARSTAT_ROTC] := by
  have hturn : ¬ (b.rd R.AFE_SARSTAT_ROTC = 3 ∨ b.fn % 4096 ≠ 0 ∨ b.powered .afe = false ∨ b.afe.retCv ≠ []) := by
    simp [hr, hf, hp, hc]
  unfold Blk.doSarRotate
  simp only [if_neg hturn, hs]
  refine ⟨(sarDrift_rotc _ _).trans ?_, rfl⟩
  refine (Blk.rd_wr_self b R.AFE_SARSTAT_ROTC x (by simp [Fld.inWord, R.AFE_SARSTAT_ROTC])).trans (Nat.mod_eq_of_lt ?_)
  simp only [R.AFE_SARSTAT_ROTC]
  omega

/-! SAR_SHADOW_MISMATCH (R153). -/

/-- R153: of a mismatch with a converter in service, what the check of the references finds decides. -/
theorem doSarMismatch_judged {cv : Nat} (cvBad rotBad : Bool) (hs : cv ∈ b.afe.service) (hp : b.powered .afe = true)
    (hr : b.rd R.AFE_SARSTAT_ROTC ≠ 3) : ∃ f : Afe → Afe, (∀ a, (f a).service = a.service ∧ (f a).retCv = a.retCv) ∧
      b.doSarMismatch cv cvBad rotBad =
        if cvBad || rotBad then (b.onAfe f).onAfe fun a => { a with retCv := (a.retCv ++
          (if rotBad then [b.rd R.AFE_SARSTAT_ROTC] else []) ++ (if cvBad then [cv] else [])).eraseDups }
        else ((b.onAfe f).inc R.AFE_SARSTAT_SHMIS).raise 0x6102 cv [] := by
  have hshadow : ¬ (b.afe.service.contains cv = false ∨ b.powered .afe = false ∨ b.rd R.AFE_SARSTAT_ROTC = 3) := by
    simp [hs, hp, hr]
  exact ⟨fun a => { a with heldCv := a.service.findIdx? (fun x => x == cv) }, fun _ => ⟨rfl, rfl⟩, if_neg hshadow⟩

/-- R153: where both fit their trims the mismatch is counted and reported. -/
theorem doSarMismatch_counts {cv : Nat} (hs : cv ∈ b.afe.service) (hp : b.powered .afe = true)
    (hr : b.rd R.AFE_SARSTAT_ROTC ≠ 3) : Reported (b.doSarMismatch cv false false) 0x6102 cv ∧
      (b.doSarMismatch cv false false).rd R.AFE_SARSTAT_SHMIS =
        min (b.rd R.AFE_SARSTAT_SHMIS + 1) R.AFE_SARSTAT_SHMIS.top ∧
      (b.doSarMismatch cv false false).afe.service = b.afe.service := by
  obtain ⟨f, hf, hdo⟩ := doSarMismatch_judged false false hs hp hr
  rw [hdo, Bool.or_false, if_neg Bool.false_ne_true]
  refine ⟨Blk.raise_self _ _ _ _, ?count, ?service⟩
  case count =>
    exact (Blk.raise_rd _ _ _ _ _ (by decide)).trans
      (Blk.rd_inc_self (b.onAfe f) _ (by simp [Fld.inWord, R.AFE_SARSTAT_SHMIS]))
  case service => exact (congrArg Afe.service (Blk.raise_afe _ _ _ _)).trans (hf b.afe).1

/-- R153: converters that fail the references retire from the next tick. -/
theorem doSarMismatch_fails {cv : Nat} (rotBad : Bool) (hs : cv ∈ b.afe.service) (hp : b.powered .afe = true)
    (hr : b.rd R.AFE_SARSTAT_ROTC ≠ 3) : cv ∈ (b.doSarMismatch cv true rotBad).afe.retCv ∧
      (rotBad = true → b.rd R.AFE_SARSTAT_ROTC ∈ (b.doSarMismatch cv true rotBad).afe.retCv) ∧
      (b.doSarMismatch cv true rotBad).afe.service = b.afe.service ∧
      (b.doSarMismatch cv true rotBad).regs = b.regs := by
  obtain ⟨f, hf, hdo⟩ := doSarMismatch_judged true rotBad hs hp hr
  rw [hdo, Bool.true_or, if_pos rfl]
  refine ⟨?cv, fun hrot => ?rot, (hf b.afe).1, rfl⟩
  case cv => simp
  case rot => simp [hrot]

/-! A converter retires (R153, R154). -/

/-- What the number of converters left decides keeps those in service and what AFE_SARSTAT shows. -/
theorem sarLeft_front (b : Blk) : FrontKept b b.sarLeft := by
  unfold Blk.sarLeft
  split
  · dsimp only
    refine (front_refl b).raise.onAfe.trans (.each (fun k hk b => ?_) _)
    exact (front_refl b).wr (f := R.AFE_AIN_VALID k) besideFront_at
  · exact ((front_refl b).wr (besideFront_const rfl)).raise.trans (rung3_front _ 2 _)
  · exact front_refl b

/-- R153: AFE_SARSTAT shows a converter retired and none rotating, and the retirement is reported. -/
def Blk.cvRetired (b : Blk) (k : Nat) : Blk :=
  (((b.flag (bitOf R.AFE_SARSTAT_RET k) true).wr R.WARD_SPARE_SAR 0).raise 0x6202 k []).wr R.AFE_SARSTAT_ROTC 3

theorem cvRetired_shows (b : Blk) {k : Nat} (hk : k < 3) : (b.cvRetired k).on (bitOf R.AFE_SARSTAT_RET k) = true ∧
    Reported (b.cvRetired k) 0x6202 k ∧ (b.cvRetired k).rd R.AFE_SARSTAT_ROTC = 3 := by
  have hret : (bitOf R.AFE_SARSTAT_RET k).inWord := by
    simp only [Fld.inWord, bitOf, R.AFE_SARSTAT_RET]
    omega
  have hrot : R.AFE_SARSTAT_ROTC.inWord := by simp [Fld.inWord, R.AFE_SARSTAT_ROTC]
  have hapart : R.AFE_SARSTAT_ROTC.apart (bitOf R.AFE_SARSTAT_RET k) := by
    left
    simp only [bitOf, R.AFE_SARSTAT_ROTC, R.AFE_SARSTAT_RET]
    omega
  have hspare : (bitOf R.AFE_SARSTAT_RET k).off ≠ R.WARD_SPARE_SAR.off := by
    simp [bitOf, R.AFE_SARSTAT_RET, R.WARD_SPARE_SAR]
  have hdrop : (bitOf R.AFE_SARSTAT_RET k).off ≠ R.HIF_EVDROP_COUNT.off := by
    simp [bitOf, R.AFE_SARSTAT_RET, R.HIF_EVDROP_COUNT]
  refine ⟨?bit, reported_wr_above (Blk.raise_self _ _ _ _) _ _ (by decide), Blk.rd_wr_self _ _ 3 hrot⟩
  calc (b.cvRetired k).on (bitOf R.AFE_SARSTAT_RET k)
      = (((b.flag (bitOf R.AFE_SARSTAT_RET k) true).wr R.WARD_SPARE_SAR 0).raise 0x6202 k []).on
          (bitOf R.AFE_SARSTAT_RET k) := congrArg (· != 0) (Blk.rd_wr_apart _ _ _ 3 hrot hapart)
    _ = ((b.flag (bitOf R.AFE_SARSTAT_RET k) true).wr R.WARD_SPARE_SAR 0).on (bitOf R.AFE_SARSTAT_RET k) :=
        Blk.raise_on _ _ _ _ _ hdrop
    _ = (b.flag (bitOf R.AFE_SARSTAT_RET k) true).on (bitOf R.AFE_SARSTAT_RET k) :=
        congrArg (· != 0) (Blk.rd_wr_off _ _ _ 0 hspare)
    _ = true := Blk.on_flag_self b _ true hret rfl

/-- R153: in place of a converter in service the rotating one returns for good. -/
theorem retireCv_retires (b : Blk) {k : Nat} (hk : k < 3) (hr : b.rd R.AFE_SARSTAT_ROTC ≠ k) :
    k ∉ (b.retireCv k).afe.service ∧ (b.retireCv k).on (bitOf R.AFE_SARSTAT_RET k) = true ∧
    Reported (b.retireCv k) 0x6202 k ∧ (b.retireCv k).rd R.AFE_SARSTAT_ROTC = 3 := by
  obtain ⟨f, hf, hdo⟩ : ∃ f : Afe → Afe, (∀ a, k ∉ (f a).service) ∧
      b.retireCv k = ((b.cvRetired k).onAfe f).sarLeft := by
    refine ⟨_, fun a => ?_, if_neg (Ne.symm hr)⟩
    dsimp only
    split_ifs
    · simp
    · simp [Ne.symm hr]
  obtain ⟨hbit, hreport, hrotc⟩ := cvRetired_shows b hk
  obtain ⟨hservice, hfound, hreports⟩ := sarLeft_front ((b.cvRetired k).onAfe f)
  have hword : ∀ {g : Fld}, g.off = R.AFE_SARSTAT_W.off → ¬ ¬ foundWord g.off := fun h => not_not_intro (.inl h)
  rw [hdo]
  refine ⟨?_, (same_on hfound (bitOf R.AFE_SARSTAT_RET k) (hword rfl)).trans hbit,
    hreports _ _ hreport, (same_rd hfound R.AFE_SARSTAT_ROTC (hword rfl)).trans hrotc⟩
  rw [hservice]
  exact hf _

/-! MODULATOR_STUCK (R157). -/

theorem stuckBit_word (i : Nat) : foundWord (stuckBit i).off := by
  unfold stuckBit
  split_ifs
  · exact .inr (.inl rfl)
  · exact .inr (.inr rfl)

theorem stuckBit_inWord {i : Nat} (hi : i < 40) : (stuckBit i).inWord ∧ (stuckBit i).w = 1 := by
  unfold stuckBit
  split_ifs
  · exact ⟨by simp only [Fld.inWord, bitOf, R.AFE_STUCK_LO_STK]; omega, rfl⟩
  · exact ⟨by simp only [Fld.inWord, bitOf, R.AFE_STUCK_HI_STK]; omega, rfl⟩

/-- A verdict of overcurrent, with the trip or fault that follows. -/
theorem ocVerdict_front (b : Blk) (c : Nat) (ps : List Nat) : FrontKept b (b.ocVerdict c ps) := by
  refine .ite (fun _ => front_refl b) fun _ => .ite (fun _ => ?drive) fun _ => ?stepper
  case drive =>
    exact .ite (fun _ => (front_refl b).onAfe.trans (acceptTrip_front _ c 1)) fun _ => (front_refl b).onAfe
  case stepper => exact (front_refl b).onAfe.trans (stpOc_front _ _)

/-- R157: an input lost for a line outside the module is shown invalid, and no register or event says more. -/
theorem loseInput_outer (b : Blk) (i : Nat) : (b.loseInput i true).regs = (b.flag (R.AFE_LMAP_VALID i) false).regs ∧
    (b.loseInput i true).evs = b.evs ∧ (b.loseInput i true).afe = b.afe := by
  simp only [Blk.loseInput, ↓reduceIte]
  split_ifs <;> exact ⟨rfl, rfl, rfl⟩

theorem loseInput_front (b : Blk) (i : Nat) : FrontKept b (b.loseInput i true) := by
  obtain ⟨hregs, hevs, hafe⟩ := loseInput_outer b i
  have hflag : FrontKept b (b.flag (R.AFE_LMAP_VALID i) false) := (front_refl b).wr besideFront_at
  exact hflag.beside (congrArg Afe.service hafe) hregs hevs

theorem doStuck_found {i : Nat} (high : Bool) (hi : i < 40) (hp : b.powered .afe = true)
    (hc : b.configured (chanOfInput i) = true) : (b.doStuck i high).on (stuckBit i) = true ∧
      (b.doStuck i high).on (R.AFE_LMAP_VALID i) = false ∧ Reported (b.doStuck i high) 0x6303 i := by
  obtain ⟨hin, hw⟩ := stuckBit_inWord hi
  have hdrop : (stuckBit i).off ≠ R.HIF_EVDROP_COUNT.off := fun h => by
    rcases h ▸ stuckBit_word i with hd | hd | hd <;> exact absurd hd (by decide)
  obtain ⟨c, hkept, hdo⟩ : ∃ c, FrontKept ((b.flag (stuckBit i) true).raise 0x6303 i []) c ∧
      b.doStuck i high = c.loseInput i true := by
    refine ⟨_, ?_, if_neg (by simp [hp, hc])⟩
    exact .ite (fun _ => ocVerdict_front _ _ _) fun _ => front_refl _
  obtain ⟨-, hfound, hreports⟩ := hkept.trans (loseInput_front c i)
  have hvalid : (c.flag (R.AFE_LMAP_VALID i) false).on (R.AFE_LMAP_VALID i) = false :=
    Blk.on_flag_self c _ false (by simp [Fld.inWord, R.AFE_LMAP_VALID]) rfl
  rw [hdo]
  refine ⟨?stuck, ?valid, hreports _ _ (Blk.raise_self _ _ _ _)⟩
  case stuck =>
    exact (same_on hfound _ (not_not_intro (stuckBit_word i))).trans ((Blk.raise_on _ _ _ _ _ hdrop).trans
      (Blk.on_flag_self b _ true hin hw))
  case valid => exact (same_on (same_regs (T := fun _ => False) (loseInput_outer c i).1) _ id).trans hvalid

end

end Sys2Proof.Machine
end

section
/-! PROOFS. The gain checks and the trim tables (R146, R155, R156, R497), and the obligation on the front end. -/

namespace Sys2Proof.Machine

section
variable {b : Blk} {n : Nat}

/-! The gain checks (R155). -/

/-- A bit set to a value reads as that value. -/
theorem bitAt_withBit (v i : Nat) (on : Bool) : bitAt (withBit v i on) i = on := by
  have hpos : 0 < 2 ^ i := Nat.two_pow_pos i
  have hbit : ∀ k, bitAt k i = true ↔ k / 2 ^ i % 2 = 1 := fun k => by simp [bitAt]
  cases on with
  | true =>
    by_cases h : bitAt v i = true
    · simp [withBit, h]
    · have hadd : (v + 2 ^ i) / 2 ^ i = v / 2 ^ i + 1 := Nat.add_div_right v hpos
      simp only [withBit, if_true, if_neg h]
      rw [hbit] at h ⊢
      omega
  | false =>
    by_cases h : bitAt v i = true
    · have hsub : (v - 2 ^ i) / 2 ^ i = v / 2 ^ i - 1 := by
        simpa using Nat.sub_mul_div v (2 ^ i) 1
      simp only [withBit, Bool.false_eq_true, if_false, if_pos h]
      rw [← Bool.not_eq_true, hbit]
      rw [hbit] at h
      omega
    · simp [withBit, h]

/-- R155: the result of a gain check stands. -/
theorem gainResult_bit (kind : Nat) (bad : Bool) (hn : n < b.afe.gainBad.length) :
    bitAt ((b.gainResult n kind bad).afe.gainBad.getD n 0) kind = bad := by
  have hget : (b.gainResult n kind bad).afe.gainBad.getD n 0 = withBit (b.afe.gainBad.getD n 0) kind bad := by
    simp [Blk.gainResult, List.getD_eq_getElem?_getD, hn]
  rw [hget, bitAt_withBit]

/-- A gain check outside its tolerance. -/
def Blk.gainFailed (b : Blk) (n kind : Nat) : Blk :=
  (b.flag (bitOf R.AFE_WSTAT_GFAIL n) true).raise 0x6101 n [Int.ofNat kind]

theorem gainFailed_shows (b : Blk) (hn : n < 8) (kind : Nat) :
    (b.gainFailed n kind).on (bitOf R.AFE_WSTAT_GFAIL n) = true ∧ Reported (b.gainFailed n kind) 0x6101 n := by
  have hin : (bitOf R.AFE_WSTAT_GFAIL n).inWord := by
    simp only [Fld.inWord, bitOf, R.AFE_WSTAT_GFAIL]
    omega
  have hdrop : (bitOf R.AFE_WSTAT_GFAIL n).off ≠ R.HIF_EVDROP_COUNT.off := by
    simp [bitOf, R.AFE_WSTAT_GFAIL, R.HIF_EVDROP_COUNT]
  exact ⟨(Blk.raise_on _ _ _ _ _ hdrop).trans (Blk.on_flag_self b _ true hin rfl), Blk.raise_self _ _ _ _⟩

/-- The ratio of the gains of phases A and B, as its row gives it (log entry 146), and its result. -/
def Blk.ratioTaken (b : Blk) (n : Nat) (v : Int) : Blk :=
  (b.wrS (R.AFE_GCHK_ABR n) v).gainResult n 1 (decide (20 < magI v))

/-- R155: a check that runs, of another kind than the ratio, goes by the result that Whetstone holds. -/
theorem doGainCheck_held {kind : Nat} (v : Int) (hp : b.powered .afe = true) (hc : b.configured n = true)
    (hl : kind = 0 → b.rd (R.AFE_PB_CLINK n) ≠ 0) (h1 : kind ≠ 1) (hb : bitAt (b.afe.gainBad.getD n 0) kind = true) :
    b.doGainCheck n kind v = b.gainFailed n kind := by
  have hruns : ¬ (b.powered .afe = false ∨ b.configured n = false ∨ (kind = 0 ∧ b.rd (R.AFE_PB_CLINK n) = 0)) := by
    simp only [hp, hc, Bool.true_eq_false, false_or, not_and]
    exact hl
  simp only [Blk.doGainCheck, if_neg hruns, if_neg h1, hb, if_true]
  rfl

theorem doGainCheck_within {kind : Nat} (v : Int) (h1 : kind ≠ 1) (hb : bitAt (b.afe.gainBad.getD n 0) kind = false) :
    b.doGainCheck n kind v = b := by
  simp only [Blk.doGainCheck, if_neg h1, hb, Bool.false_eq_true, if_false, ite_self]

/-- R155: the ratio is judged by what its row gives. -/
theorem doGainCheck_ratio {v : Int} (hn : n < b.afe.gainBad.length) (hp : b.powered .afe = true)
    (hc : b.configured n = true) : b.doGainCheck n 1 v =
      if 20 < magI v then (b.ratioTaken n v).gainFailed n 1 else b.ratioTaken n v := by
  have hruns : ¬ (b.powered .afe = false ∨ b.configured n = false ∨ (1 = 0 ∧ b.rd (R.AFE_PB_CLINK n) = 0)) := by
    simp [hp, hc]
  have hbit : bitAt ((b.ratioTaken n v).afe.gainBad.getD n 0) 1 = decide (20 < magI v) :=
    gainResult_bit (b := b.wrS (R.AFE_GCHK_ABR n) v) 1 _ hn
  have hdo : b.doGainCheck n 1 v =
      if bitAt ((b.ratioTaken n v).afe.gainBad.getD n 0) 1 then (b.ratioTaken n v).gainFailed n 1
      else b.ratioTaken n v := if_neg hruns
  rw [hdo, hbit]
  simp only [decide_eq_true_eq]

/-- A ratio within tolerance is shown and nothing more, whether the check runs or not. -/
theorem doGainCheck_ratioWithin {v : Int} (hn : n < b.afe.gainBad.length) (hv : magI v ≤ 20) :
    (b.doGainCheck n 1 v).evs = b.evs ∧ SameBut b (b.doGainCheck n 1 v) (fun a => a = (R.AFE_GCHK_ABR n).off) := by
  by_cases hruns : b.powered .afe = true ∧ b.configured n = true
  · rw [doGainCheck_ratio hn hruns.1 hruns.2, if_neg (Nat.not_lt.mpr hv)]
    have hshown : SameBut b (b.wrS (R.AFE_GCHK_ABR n) v) (fun a => a = (R.AFE_GCHK_ABR n).off) :=
      same_wrS (same_refl b _) _ _ rfl
    exact ⟨rfl, same_onAfe hshown _⟩
  · have hdo : b.doGainCheck n 1 v = b := by
      refine if_pos ?_
      cases hp : b.powered .afe with
      | false => exact .inl rfl
      | true =>
        refine .inr (.inl ?_)
        simpa [hp] using hruns
    rw [hdo]
    exact ⟨rfl, same_refl b _⟩

/-! FLINTB_TRIM_COUNT and TRIM_TABLE_SAVE (R146, R156, R497). -/

/-- R156: a count that agrees with its bin is stored. -/
theorem doTrimCount_stores {count : Nat} (hp : b.powered .afe = true) (hx : b.on R.CLK_STAT_XOOK = true)
    (hd : b.trimDiffers count b.flintBin = false) : (b.doTrimCount count true).clk.drift = false ∧
      (b.doTrimCount count true).afe.tabF = putAt b.afe.tabF b.flintBin (some (Int.ofNat count)) := by
  simp [Blk.doTrimCount, hp, hx, hd]

/-- R497, log entry 43: one that differs is kept as the first of two. -/
theorem doTrimCount_differs {count : Nat} (hp : b.powered .afe = true) (hx : b.on R.CLK_STAT_XOOK = true)
    (hd : b.trimDiffers count b.flintBin = true) : (b.doTrimCount count true).clk.drift = true ∧
      (b.doTrimCount count true).afe = b.afe := by
  simp [Blk.doTrimCount, hp, hx, hd]

theorem doTrimCount_broken (b : Blk) (count : Nat) : b.doTrimCount count false = b := by
  simp [Blk.doTrimCount]

theorem doTrimSave_saves (hp : b.powered .nvs = true) : b.doTrimSave.afe.savF = b.afe.tabF ∧
    b.doTrimSave.afe.savS = b.afe.tabS ∧ b.doTrimSave.afe.savO = b.corrections ∧ b.doTrimSave.regs = b.regs := by
  simp [Blk.doTrimSave, hp]

end

/-- Settles O19: the moves and retirements of filter lanes and converters, a stuck line, the gain checks, and the trim
tables. -/
theorem frontEndSpares : Obligations.FrontEndSpares := by
  unfold Obligations.FrontEndSpares
  refine ⟨?rotate, ?residue, ?live, ?spare, ?sarRotate, ?sarCount, ?sarFail, ?retire, ?stuck, ?gain, ?gainWithin, ?ratio,
    ?ratioWithin, ?result, ?trim, ?trimDiffers, ?trimBroken, ?save⟩
  case rotate =>
    intro s g x hg hf hp
    exact yields_onBlk rfl rfl ⟨_, doShadowRotate_moves hg hf hp, rfl, rfl, rfl, nextShadowed_near s.blk x⟩
  case residue => exact fun s l hb hp => yields_onBlk rfl rfl (doResidue_found (by omega) hb hp)
  case live => exact fun s g x hg hi hp => yields_onBlk rfl rfl (doShadowMismatch_served hg hi hp)
  case spare =>
    exact fun s g x hg hp => ⟨yields_onBlk rfl rfl (doShadowMismatch_reported (out := 1) hg hp (by decide)),
      yields_onBlk rfl rfl (doShadowMismatch_reported (out := 2) hg hp (by decide))⟩
  case sarRotate =>
    exact fun s x rest hr hf hp hc hs hx => yields_onBlk rfl rfl (doSarRotate_rotates hr hf hp hc hs hx)
  case sarCount => exact fun s cv hs hp hr => yields_onBlk rfl rfl (doSarMismatch_counts hs hp hr)
  case sarFail => exact fun s cv rotBad hs hp hr => yields_onBlk rfl rfl (doSarMismatch_fails rotBad hs hp hr)
  case retire => exact fun b cv hr => retireCv_retires b cv.isLt hr
  case stuck => exact fun s i high hp hc => yields_onBlk rfl rfl (doStuck_found high i.isLt hp hc)
  case gain =>
    exact fun s n kind v hp hc hl h1 hb =>
      yields_onBlk rfl (doGainCheck_held v hp hc hl h1 hb) (gainFailed_shows s.blk n.isLt kind)
  case gainWithin => exact fun s n kind v h1 hb => yields_onBlk rfl (doGainCheck_within v h1 hb) ⟨rfl, rfl⟩
  case ratio =>
    exact fun s n v hp hc hn hv => yields_onBlk rfl ((doGainCheck_ratio hn hp hc).trans (if_pos hv))
      (gainFailed_shows _ n.isLt 1)
  case ratioWithin => exact fun s n v hn hv => yields_onBlk rfl rfl (doGainCheck_ratioWithin hn hv)
  case result => exact fun b n kind bad hn => gainResult_bit kind bad hn
  case trim => exact fun s count hp hx hd => yields_onBlk rfl rfl (doTrimCount_stores hp hx hd)
  case trimDiffers => exact fun s count hp hx hd => yields_onBlk rfl rfl (doTrimCount_differs hp hx hd)
  case trimBroken => exact fun s count => yields_onBlk rfl (doTrimCount_broken s.blk count) rfl
  case save => exact fun s hp => yields_onBlk rfl rfl (doTrimSave_saves hp)

end Sys2Proof.Machine
end

section
/-! PROOFS. What an edge of a feedback port leaves of every port's filtered levels and of its mode, whatever it counts,
compares and emulates (R162, R163, R169, R180, R182, R183). -/

namespace Sys2Proof.Machine

/-- The filtered levels of a port. -/
def Port.levels (x : Port) : Bool × Bool × Bool := (x.a, x.b, x.z)

/-- The mode of port p, and its filtered levels where the port exists. -/
def Blk.face (b : Blk) (p : Nat) : Nat × Option (Bool × Bool × Bool) := (b.fbMode p, b.ports[p]?.map Port.levels)

section
variable {b c : Blk} {p : Nat}

/-! The operations of the state. -/

/-- A block whose words and ports are as before, but for words other than FBn_CFG of the port. -/
theorem face_of_same {T : Nat → Prop} (h : SameBut b c T) (hcfg : ¬ T (R.FBn_CFG_MODE p).off)
    (hp : c.ports = b.ports) : c.face p = b.face p :=
  Prod.ext (same_rd h _ hcfg) (congrArg (fun l => l[p]?.map Port.levels) hp)

/-- A word of an indexed unit above HIF_EVDROP. -/
theorem indexedWord_ne_drop {base k : Nat} (h : Nat.blt 0x4020 base = true) :
    base + k ≠ R.HIF_EVDROP_COUNT.off := by
  have hlt : 0x4020 < base := Nat.le_of_ble_eq_true h
  simp only [R.HIF_EVDROP_COUNT]
  omega

/-- A word of a feedback port other than FBn_CFG is written. -/
theorem feedWr_face {base q lo w v : Nat} (h : decide (0xB000 < base ∧ base < 0xB100) = true) :
    (b.wr ⟨base + 0x100 * q, lo, w⟩ v).face p = b.face p := by
  refine face_of_same (T := (· = base + 0x100 * q)) (same_wr (same_refl b _) _ v rfl) ?_ rfl
  obtain ⟨hlo, hhi⟩ := of_decide_eq_true h
  simp only [R.FBn_CFG_MODE]
  omega

theorem raise_face (code src : Nat) (i : List Int) : (b.raise code src i).face p = b.face p :=
  face_of_same (T := (· = R.HIF_EVDROP_COUNT.off)) (same_raise (same_refl b _) code src i rfl)
    (indexedWord_ne_drop (by decide)) (b.raise_ports code src i)

theorem raiseLim_face (k code src : Nat) (i : List Int) : (b.raiseLim k code src i).face p = b.face p :=
  face_of_same (T := (· = R.HIF_EVDROP_COUNT.off)) (same_raiseLim (same_refl b _) k code src i rfl)
    (indexedWord_ne_drop (by decide)) (b.raiseLim_ports k code src i)

/-- An update of any port that leaves the filtered levels. -/
theorem onPort_face (q : Nat) (f : Port → Port) (hf : ∀ x, (f x).levels = x.levels) :
    (b.onPort q f).face p = b.face p := by
  refine Prod.ext rfl (?_ : (b.ports.modify q f)[p]?.map Port.levels = b.ports[p]?.map Port.levels)
  rw [List.getElem?_modify, Option.map_eq_map, Option.map_map]
  refine congrArg (Option.map · _) (funext fun x => ?_)
  by_cases hq : q = p <;> simp [hq, hf]

/-- An update of the port itself acts on the levels as it acts on each. -/
theorem onPort_face_self (f : Port → Port) (g : Bool × Bool × Bool → Bool × Bool × Bool)
    (hf : ∀ x, (f x).levels = g x.levels) :
    (b.onPort p f).face p = ((b.face p).1, (b.face p).2.map g) := by
  refine Prod.ext rfl (?_ : (b.ports.modify p f)[p]?.map Port.levels = (b.ports[p]?.map Port.levels).map g)
  rw [List.getElem?_modify_eq, Option.map_eq_map, Option.map_map, Option.map_map]
  exact congrArg (Option.map · _) (funext hf)

theorem ite_face {v : Nat × Option (Bool × Bool × Bool)} {q : Prop} [Decidable q] (hb : b.face p = v)
    (hc : c.face p = v) : (if q then b else c).face p = v := by
  split_ifs
  · exact hb
  · exact hc

theorem each_face (n : Nat) (f : Nat → Blk → Blk) (hf : ∀ i b, (f i b).face p = b.face p) :
    (b.each n f).face p = b.face p :=
  List.foldlRecOn (motive := fun c => c.face p = b.face p) _ _ rfl fun c hc i _ => (hf i c).trans hc

/-! What follows a movement of a port (R180 to R183). -/

theorem emuMoveOne_face (q : Nat) (d : Int) : (b.emuMoveOne q d).face p = b.face p := by
  unfold Blk.emuMoveOne
  dsimp only
  refine (feedWr_face (by decide)).trans (ite_face (onPort_face q _ fun _ => by rfl) ?_)
  exact (raise_face _ _ _).trans ((feedWr_face (by decide)).trans
    ((onPort_face q _ fun _ => by rfl).trans (onPort_face q _ fun _ => by rfl)))

theorem emuMove_face (q : Nat) (d : Int) : (b.emuMove q d).face p = b.face p := by
  unfold Blk.emuMove Blk.emuMoveOf
  exact each_face 12 _ fun k _ => ite_face (emuMoveOne_face k d) rfl

theorem cmpHits_face (q : Nat) (up : Bool) (hit : Nat → Bool) : (b.cmpHits q up hit).face p = b.face p := by
  unfold Blk.cmpHits
  dsimp only
  split
  case h_1 => rfl
  case h_2 =>
    refine ite_face ((raise_face _ _ _).trans ((feedWr_face (by decide)).trans ?fired))
      ((onPort_face q _ fun _ => by rfl).trans ?fired)
    exact ite_face ((feedWr_face (by decide)).trans (feedWr_face (by decide))) (feedWr_face (by decide))

/-! The edges themselves (R162, R163, R169, R170). -/

theorem fbCount_face (q : Nat) (d : Int) (t : Nat) : (b.fbCount q d t).face p = b.face p :=
  (emuMove_face q d).trans ((cmpHits_face q _ _).trans ((feedWr_face (by decide)).trans
    ((feedWr_face (by decide)).trans (onPort_face q _ fun _ => by rfl))))

theorem fbIllegal_face (q : Nat) : (b.fbIllegal q).face p = b.face p :=
  (onPort_face q _ fun _ => by rfl).trans ((raiseLim_face _ _ _ _).trans
    ((feedWr_face (by decide)).trans (feedWr_face (by decide))))

/-- A quadrature port takes the levels of A and B, whether the edge is illegal, repeated, too near or counted. -/
theorem fbQuad_face (x y : Bool) (t : Nat) :
    (b.fbQuad p x y t).face p = ((b.face p).1, (b.face p).2.map fun l => (x, y, l.2.2)) := by
  have htaken : ∀ e : Port → Option Nat, (b.onPort p (fun o => { o with a := x, b := y, filt := e o })).face p =
      ((b.face p).1, (b.face p).2.map fun l => (x, y, l.2.2)) := fun _ => onPort_face_self _ _ fun _ => rfl
  unfold Blk.fbQuad
  dsimp only
  refine ite_face ?illegal (ite_face ?same (ite_face ?near ?counted))
  case illegal => exact (fbIllegal_face p).trans (htaken _)
  case same => exact htaken _
  case near => exact htaken _
  case counted => exact (fbCount_face p _ t).trans (htaken _)

/-- A magnetic-switch port takes the three levels, whatever their code says of the sector. -/
theorem fbHall_face (x y z : Bool) (t : Nat) :
    (b.fbHall p x y z t).face p = ((b.face p).1, (b.face p).2.map fun _ => (x, y, z)) := by
  have htaken := onPort_face_self (b := b) (p := p) (fun o => { o with a := x, b := y, z := z }) (fun _ => (x, y, z))
    fun _ => rfl
  unfold Blk.fbHall
  dsimp only
  split
  case h_1 => exact ite_face htaken ((fbIllegal_face p).trans htaken)
  case h_2 =>
    refine ite_face ?first (ite_face ?same (ite_face ?up (ite_face ?down ?jump)))
    case first => exact (feedWr_face (by decide)).trans ((onPort_face p _ fun _ => by rfl).trans htaken)
    case same => exact htaken
    case up => exact (fbCount_face p 1 t).trans ((onPort_face p _ fun _ => by rfl).trans htaken)
    case down => exact (fbCount_face p (-1) t).trans ((onPort_face p _ fun _ => by rfl).trans htaken)
    case jump => exact (fbIllegal_face p).trans ((onPort_face p _ fun _ => by rfl).trans htaken)

end

end Sys2Proof.Machine
end

section
/-! PROOFS. The obligation on the feedback ports: an edge, an index latch, the end of a compare pulse and an edge of the
encoder emulation. -/

namespace Sys2Proof.Machine

section
variable {b : Blk} {p : Nat}

/-! The fields of a port. -/

/-- Two words of one feedback port. -/
theorem feedWord_ne {k l : Nat} (h : Nat.beq k l = false) : k + 0x100 * p ≠ l + 0x100 * p :=
  fun he => Nat.ne_of_beq_eq_false h (Nat.add_right_cancel he)

theorem fld_inWord {off lo w : Nat} (h : Nat.ble (lo + w) 32 = true) : Fld.inWord ⟨off, lo, w⟩ :=
  Nat.le_of_ble_eq_true h

/-! FEEDBACK_EDGE (R162 to R164, R169). -/

/-- R164: the end of an edge, at which an index no longer qualified becomes inactive. -/
def Blk.idxFall (b : Blk) (p : Nat) : Blk :=
  if b.qualIdx p (b.port p) then b else b.onPort p (fun x => { x with idx := false })

theorem idxFall_qualified (h : b.qualIdx p (b.port p) = true) : b.idxFall p = b := if_pos h

theorem idxFall_unqualified (h : b.qualIdx p (b.port p) ≠ true) :
    b.idxFall p = b.onPort p (fun x => { x with idx := false }) := if_neg h

theorem idxFall_regs (b : Blk) (p : Nat) : (b.idxFall p).regs = b.regs := by
  by_cases h : b.qualIdx p (b.port p) = true
  · rw [idxFall_qualified h]
  · rw [idxFall_unqualified h, Blk.onPort_regs]

theorem idxFall_face (b : Blk) (p : Nat) : (b.idxFall p).face p = b.face p :=
  ite_face rfl (onPort_face p _ fun _ => by rfl)

/-- R164: after it the index is inactive unless it is qualified. -/
theorem idxFall_idx {o : Port} (ho : (b.idxFall p).ports[p]? = some o) (hq : (b.idxFall p).qualIdx p o = false) :
    o.idx = false := by
  by_cases h : b.qualIdx p (b.port p) = true
  · rw [idxFall_qualified h] at ho hq
    have hport : b.port p = o := by simp [Blk.port, List.getD, ho]
    exact absurd (hport ▸ h) (by simp [hq])
  · rw [idxFall_unqualified h, Blk.onPort_ports, List.getElem?_modify_eq] at ho
    obtain ⟨x, -, rfl⟩ := Option.map_eq_some_iff.mp ho
    rfl

theorem doFeedbackEdge_quad (x y z : Bool) (t : Nat) (hp : b.powered .feed = true) (hm : b.fbMode p = 1) :
    b.doFeedbackEdge p x y z t = ((b.fbQuad p x y t).onPort p (fun o => { o with z := z })).idxFall p := by
  have hstays : ((b.fbQuad p x y t).onPort p (fun o => { o with z := z })).fbMode p = 1 :=
    (congrArg Prod.fst (fbQuad_face x y t)).trans hm
  simp only [Blk.doFeedbackEdge, hp, hm, hstays, Bool.true_eq_false, OfNat.one_ne_ofNat, if_false]
  rfl

theorem doFeedbackEdge_hall (x y z : Bool) (t : Nat) (hp : b.powered .feed = true) (hm : b.fbMode p = 2) :
    b.doFeedbackEdge p x y z t = ((b.fbHall p x y z t).wr (R.FBn_STAT_HALL p) (hallCode x y z)).idxFall p := by
  have hstays : (b.fbHall p x y z t).fbMode p = 2 := (congrArg Prod.fst (fbHall_face x y z t)).trans hm
  simp only [Blk.doFeedbackEdge, hp, hm, hstays, Bool.true_eq_false, if_false, if_true]
  rfl

/-- R162, R169: a counting port takes the filtered levels. -/
theorem doFeedbackEdge_face (x y z : Bool) (t : Nat) (hp : b.powered .feed = true)
    (hm : b.fbMode p = 1 ∨ b.fbMode p = 2) :
    (b.doFeedbackEdge p x y z t).face p = ((b.face p).1, (b.face p).2.map fun _ => (x, y, z)) := by
  rcases hm with hm | hm
  · rw [doFeedbackEdge_quad x y z t hp hm, idxFall_face, onPort_face_self _ (fun l => (l.1, l.2.1, z)) fun _ => rfl,
      fbQuad_face, Option.map_map]
    rfl
  · rw [doFeedbackEdge_hall x y z t hp hm, idxFall_face]
    exact (feedWr_face (by decide)).trans (fbHall_face x y z t)

theorem doFeedbackEdge_levels (x y z : Bool) (t : Nat) (hp : b.powered .feed = true)
    (hm : b.fbMode p = 1 ∨ b.fbMode p = 2) {o : Port} (ho : (b.doFeedbackEdge p x y z t).ports[p]? = some o) :
    o.a = x ∧ o.b = y ∧ o.z = z := by
  have hface : (b.doFeedbackEdge p x y z t).ports[p]?.map Port.levels = (b.face p).2.map fun _ => (x, y, z) :=
    congrArg Prod.snd (doFeedbackEdge_face x y z t hp hm)
  rw [ho, Option.map_some] at hface
  obtain ⟨-, -, hl⟩ := Option.map_eq_some_iff.mp hface.symm
  obtain ⟨ha, hbz⟩ := Prod.mk.inj hl.symm
  obtain ⟨hb, hz⟩ := Prod.mk.inj hbz
  exact ⟨ha, hb, hz⟩

/-- R164: the qualified index does not outlast its levels. -/
theorem doFeedbackEdge_idx (x y z : Bool) (t : Nat) (hp : b.powered .feed = true)
    (hm : b.fbMode p = 1 ∨ b.fbMode p = 2) {o : Port} (ho : (b.doFeedbackEdge p x y z t).ports[p]? = some o)
    (hq : (b.doFeedbackEdge p x y z t).qualIdx p o = false) : o.idx = false := by
  rcases hm with hm | hm
  · rw [doFeedbackEdge_quad x y z t hp hm] at ho hq
    exact idxFall_idx ho hq
  · rw [doFeedbackEdge_hall x y z t hp hm] at ho hq
    exact idxFall_idx ho hq

theorem hallCode_lt (x y z : Bool) : hallCode x y z < 8 := by
  cases x <;> cases y <;> cases z <;> decide

/-- R169: FBn_STAT shows the code of the three switches. -/
theorem doFeedbackEdge_code (x y z : Bool) (t : Nat) (hp : b.powered .feed = true) (hm : b.fbMode p = 2) :
    (b.doFeedbackEdge p x y z t).rd (R.FBn_STAT_HALL p) = hallCode x y z := by
  rw [doFeedbackEdge_hall x y z t hp hm]
  calc _ = ((b.fbHall p x y z t).wr (R.FBn_STAT_HALL p) (hallCode x y z)).rd (R.FBn_STAT_HALL p) :=
        same_rd (T := fun _ => False) (same_regs (idxFall_regs _ p)) _ id
    _ = hallCode x y z % 8 := Blk.rd_wr_self _ _ _ (fld_inWord (by rfl))
    _ = hallCode x y z := Nat.mod_eq_of_lt (hallCode_lt x y z)

/-! INDEX_LATCH (R164, R165). -/

/-- R164: the position stands in FBn_IDXLAT and the index is active. -/
def Blk.idxTaken (b : Blk) (p : Nat) : Blk :=
  (b.wr (R.FBn_IDXLAT_LAT p) (b.port p).pos).onPort p (fun x => { x with idx := true, latched := true })

theorem idxTaken_rd (g : Fld) (h : g.off ≠ (R.FBn_IDXLAT_LAT p).off) : (b.idxTaken p).rd g = b.rd g :=
  Blk.rd_wr_off b _ g _ h

/-- R164: a powered quadrature port latches an index that is newly qualified. -/
theorem not_idxIdle (hp : b.powered .feed = true) (hm : b.fbMode p = 1) (hi : (b.port p).idx = false)
    (hq : b.qualIdx p (b.port p) = true) :
    ¬ (b.powered .feed = false ∨ b.fbMode p ≠ 1 ∨ (b.port p).idx = true ∨ b.qualIdx p (b.port p) = false) := by
  simp [hp, hm, hi, hq]

/-- R164: the first latch since the port was enabled is the reference. -/
theorem doIndexLatch_first (hp : b.powered .feed = true) (hm : b.fbMode p = 1) (hi : (b.port p).idx = false)
    (hq : b.qualIdx p (b.port p) = true) (hl : (b.port p).latched = false) :
    b.doIndexLatch p = (((b.idxTaken p).wr (R.FBn_IDXREF_REF p) (b.port p).pos).flag (R.FBn_STAT_AVALID p) true).raise
      0x5001 p [] :=
  (if_neg (not_idxIdle hp hm hi hq)).trans (if_pos hl)

theorem doIndexLatch_references (hp : b.powered .feed = true) (hm : b.fbMode p = 1) (hi : (b.port p).idx = false)
    (hq : b.qualIdx p (b.port p) = true) (hl : (b.port p).latched = false) :
    (b.doIndexLatch p).rd (R.FBn_IDXLAT_LAT p) = (b.port p).pos % 2 ^ 32 ∧
      (b.doIndexLatch p).rd (R.FBn_IDXREF_REF p) = (b.port p).pos % 2 ^ 32 ∧
      (b.doIndexLatch p).on (R.FBn_STAT_AVALID p) = true ∧ Reported (b.doIndexLatch p) 0x5001 p := by
  rw [doIndexLatch_first hp hm hi hq hl]
  refine ⟨?lat, ?ref, ?valid, Blk.raise_self _ _ _ _⟩
  case lat =>
    rw [Blk.raise_rd _ _ _ _ _ (indexedWord_ne_drop (by decide)), Blk.flag,
      Blk.rd_wr_off _ _ _ _ (feedWord_ne (by decide)), Blk.rd_wr_off _ _ _ _ (feedWord_ne (by decide))]
    exact Blk.rd_wr_self b _ _ (fld_inWord (by rfl))
  case ref =>
    rw [Blk.raise_rd _ _ _ _ _ (indexedWord_ne_drop (by decide)), Blk.flag,
      Blk.rd_wr_off _ _ _ _ (feedWord_ne (by decide))]
    exact Blk.rd_wr_self _ _ _ (fld_inWord (by rfl))
  case valid =>
    rw [Blk.raise_on _ _ _ _ _ (indexedWord_ne_drop (by decide))]
    exact Blk.on_flag_self _ _ true (fld_inWord (by rfl)) rfl

/-- R165: how far a later latch lies from the one before, whole revolutions left out. -/
def Blk.idxDrift (b : Blk) (p : Nat) : Int :=
  idxResidue (diff32 (b.port p).pos (b.rd (R.FBn_IDXLAT_LAT p))) (b.rd (R.FBn_CPR_CPR p))

/-- R165: a drift beyond FBn_IDXTOL is shown, counted and reported. -/
theorem doIndexLatch_drift (hp : b.powered .feed = true) (hm : b.fbMode p = 1) (hi : (b.port p).idx = false)
    (hq : b.qualIdx p (b.port p) = true) (hl : (b.port p).latched = true)
    (hd : b.rd (R.FBn_IDXTOL_TOL p) < magI (b.idxDrift p)) : ∃ (i : List Int) (f : Port → Port),
      b.doIndexLatch p = ((((b.idxTaken p).flag (R.FBn_STAT_DRIFT p) true).inc (R.FBn_ERRCNT_DRIFTCNT p)).raise
        0x5102 p i).onPort p f := by
  have hbeyond : (b.idxTaken p).rd (R.FBn_IDXTOL_TOL p) < magI (idxResidue
      (diff32 (b.port p).pos (b.rd (R.FBn_IDXLAT_LAT p))) ((b.idxTaken p).rd (R.FBn_CPR_CPR p))) := by
    rw [idxTaken_rd (R.FBn_IDXTOL_TOL p) (feedWord_ne (by decide)),
      idxTaken_rd (R.FBn_CPR_CPR p) (feedWord_ne (by decide))]
    exact hd
  exact ⟨_, _, (if_neg (not_idxIdle hp hm hi hq)).trans ((if_neg (by simp [hl])).trans (if_pos hbeyond))⟩

theorem doIndexLatch_drifts (hp : b.powered .feed = true) (hm : b.fbMode p = 1) (hi : (b.port p).idx = false)
    (hq : b.qualIdx p (b.port p) = true) (hl : (b.port p).latched = true)
    (hd : b.rd (R.FBn_IDXTOL_TOL p) < magI (b.idxDrift p)) :
    (b.doIndexLatch p).on (R.FBn_STAT_DRIFT p) = true ∧ Reported (b.doIndexLatch p) 0x5102 p ∧
      (b.doIndexLatch p).rd (R.FBn_ERRCNT_DRIFTCNT p) =
        min (b.rd (R.FBn_ERRCNT_DRIFTCNT p) + 1) (R.FBn_ERRCNT_DRIFTCNT p).top := by
  obtain ⟨i, f, hdo⟩ := doIndexLatch_drift hp hm hi hq hl hd
  rw [hdo]
  refine ⟨?shown, Blk.raise_self _ _ _ _, ?counted⟩
  case shown =>
    rw [Blk.onPort_on, Blk.raise_on _ _ _ _ _ (indexedWord_ne_drop (by decide))]
    have hinc : ∀ c : Blk, (c.inc (R.FBn_ERRCNT_DRIFTCNT p)).on (R.FBn_STAT_DRIFT p) = c.on (R.FBn_STAT_DRIFT p) :=
      fun c => congrArg (· != 0) (Blk.rd_wr_off c _ _ _ (feedWord_ne (by decide)))
    exact (hinc _).trans (Blk.on_flag_self _ _ true (fld_inWord (by rfl)) rfl)
  case counted =>
    rw [Blk.onPort_rd, Blk.raise_rd _ _ _ _ _ (indexedWord_ne_drop (by decide)),
      Blk.rd_inc_self _ _ (fld_inWord (by rfl)), Blk.flag,
      Blk.rd_wr_off _ _ _ _ (feedWord_ne (by decide)),
      idxTaken_rd _ (feedWord_ne (by decide))]

/-! ENCODER_EMULATION_EDGE (R182). -/

/-- R182: one edge towards the target, shown in BACKLOG alone. -/
theorem doEmuEdge_emits (he : b.on (R.FBn_EMUCFG_EN p) = true) :
    (b.doEmuEdge p).ports[p]? = b.ports[p]?.map (fun x => { x with
      emuOut := x.emuOut + sgn (b.backlog p), emuPh := ((Int.ofNat x.emuPh + sgn (b.backlog p)) % 4).toNat }) ∧
    SameBut b (b.doEmuEdge p) (fun a => a = (R.FBn_EMUSTAT_BACKLOG p).off) := by
  rw [Blk.doEmuEdge, if_pos he]
  exact ⟨List.getElem?_modify_eq .., same_wrS (same_onPort (same_refl b _) p _) _ _ rfl⟩

end

/-- Settles O20: the levels survive whatever an edge counts, compares and emulates; the index, the compare pulse and the
emulation by one equation each. -/
theorem feedbackPorts : Obligations.FeedbackPorts := by
  unfold Obligations.FeedbackPorts
  refine ⟨?levels, ?code, ?first, ?drift, ?pulse, ?emulation⟩
  case levels =>
    intro s p x y z st hp hm
    refine yields_onBlk rfl rfl fun o ho => ?_
    obtain ⟨ha, hb, hz⟩ := doFeedbackEdge_levels x y z st.toNat hp hm ho
    exact ⟨ha, hb, hz, doFeedbackEdge_idx x y z st.toNat hp hm ho⟩
  case code => exact fun s p x y z st hp hm => yields_onBlk rfl rfl (doFeedbackEdge_code x y z st.toNat hp hm)
  case first => exact fun s p hp hm hi hq hl => yields_onBlk rfl rfl (doIndexLatch_references hp hm hi hq hl)
  case drift => exact fun s p hp hm hi hq hl hd => yields_onBlk rfl rfl (doIndexLatch_drifts hp hm hi hq hl hd)
  case pulse => exact fun s p hp => yields_within rfl hp ⟨rfl, List.getElem?_modify_eq ..⟩
  case emulation => exact fun s p hp he => yields_within rfl hp (doEmuEdge_emits he)

end Sys2Proof.Machine
end

section
/-! SUPPORT. What the end of pulses, Hasp's outputs, ownership and a declared loss leave of the loop-engine pairs:
LE_PSTAT, the maps of the channels and WARD_SPARE, all of which `unitWords` counts among what may change (R31,
R338). -/

namespace Sys2Proof.Machine

/-- LE_PSTAT, LE_DMAP, LE_SMAP and WARD_SPARE. -/
def pairWords : List Nat := [R.LE_PSTAT_ST.off, R.LE_DMAP_MAP.off, R.LE_SMAP_MAP.off, R.WARD_SPARE_W.off]

/-- A word other than these. -/
abbrev besidePairs (a : Nat) : Prop := a ∉ pairWords

/-- A word of a unit that stands once. -/
theorem besidePairs_const {a : Nat} (h : decide (besidePairs a) = true) : besidePairs a := of_decide_eq_true h

/-- A word of a unit whose windows lie `s` apart: the four words stand elsewhere in a window, or before the first. -/
theorem besidePairs_bank {base s k : Nat} (h : decide (∀ w ∈ pairWords, w < base ∨ base % s ≠ w % s) = true) :
    besidePairs (base + s * k) := by
  intro hw
  rcases of_decide_eq_true h _ hw with hlt | hmod
  · exact Nat.not_lt.mpr (Nat.le_add_right base (s * k)) hlt
  · exact hmod (Nat.add_mul_mod_self_left base s k).symm

/-- One of `n` words in a row: the four words stand before the row or after it. -/
theorem besidePairs_row {base k n : Nat} (hk : k < n)
    (h : ∀ w ∈ pairWords, w < base ∨ base + 4 * n ≤ w) : besidePairs (base + 4 * k) := by
  intro hw
  have hout := h _ hw
  omega

section
variable (b : Blk)

/-! The end of pulses. -/

theorem abortInj_pairs (c r : Nat) : SameBut b (b.abortInj c r) besidePairs := by
  refine same_mono (abortInj_same b c r) ?_
  rintro a (⟨k, -, rfl⟩ | rfl)
  · exact besidePairs_bank rfl
  · exact besidePairs_const rfl

theorem axisWords_besidePairs {a x : Nat} (ha : a < 16) (h : axisWords a x) : besidePairs x := by
  obtain ⟨hlo, hhi⟩ := h
  have hbank : ∀ w ∈ pairWords, w < 0xD400 ∨ 0xD800 ≤ w := by decide
  intro hx
  have hout := hbank x hx
  omega

theorem abruptStop_pairs {a : Nat} (ha : a < 16) : SameBut b (b.abruptStop a) besidePairs := by
  refine same_mono (abruptStop_same b a) ?_
  rintro x (hx | rfl | ⟨-, rfl⟩)
  · exact axisWords_besidePairs ha hx
  · exact besidePairs_const rfl
  · exact besidePairs_bank rfl

theorem seqIdle_pairs (n : Nat) : SameBut b (b.seqIdle n) besidePairs := by
  refine same_mono (seqIdle_same b n) ?_
  rintro a (rfl | rfl) <;> exact besidePairs_bank rfl

theorem blockTo_pairs {n : Nat} (ps : Nat) (hn : n < 8) : SameBut b (b.blockTo n ps) besidePairs := by
  refine same_mono (blockTo_same b n ps hn) ?_
  rintro a (rfl | rfl | rfl | rfl | ⟨k, -, rfl⟩ | ha | rfl)
  · exact besidePairs_bank rfl
  · exact besidePairs_bank rfl
  · exact besidePairs_bank rfl
  · exact besidePairs_bank rfl
  · exact besidePairs_bank rfl
  · exact axisWords_besidePairs (by omega) ha
  · exact besidePairs_const rfl

theorem because_blockTo_pairs {n : Nat} (why ps : Nat) (hn : n < 8) :
    SameBut b ((b.because n why).blockTo n ps) besidePairs :=
  same_trans (same_regs (because_regs b n why)) (blockTo_pairs _ ps hn)

theorem pinsOff_pairs (n : Nat) : SameBut b (b.pinsOff n) besidePairs :=
  same_onDrv (same_wr (same_wr (same_refl b _) _ _ (besidePairs_bank rfl)) _ _ (besidePairs_bank rfl)) n _

theorem pinsAsc_pairs (n on : Nat) : SameBut b (b.pinsAsc n on) besidePairs := by
  refine same_mono (pinsAsc_same b n on) ?_
  rintro a rfl
  exact besidePairs_bank rfl

/-! Trips, stepper faults and gate-enables (R74, R244, R322). -/

theorem acceptTrip_pairs {n : Nat} (src : Nat) (hn : n < 8) : SameBut b (b.acceptTrip n src) besidePairs := by
  have hcut : ∀ ps f, SameBut b (((b.because n 1).blockTo n ps).onDrv n f) besidePairs := fun ps f =>
    same_onDrv (because_blockTo_pairs b 1 ps hn) n f
  refine same_ite (fun _ => same_refl b _) fun _ =>
    same_ite (fun _ => same_inc (same_refl b _) _ (besidePairs_bank rfl)) fun _ => ?_
  refine same_raise (same_inc (same_wr (same_flag ?_ _ _ (besidePairs_bank rfl)) _ _ (besidePairs_bank rfl)) _
    (besidePairs_bank rfl)) _ _ _ (besidePairs_const rfl)
  exact same_ite (fun _ => same_trans (hcut _ _) (pinsAsc_pairs _ n _)) fun _ => hcut _ _

theorem bridgesOff_pairs {n : Nat} (st : Nat) (hn : n < 8) : SameBut b (b.bridgesOff n st) besidePairs :=
  same_ite (fun _ => same_trans (same_onStp (same_wr (abortInj_pairs b _ 2) _ _ (besidePairs_bank rfl)) n _)
    (abruptStop_pairs _ (by omega))) fun _ => same_refl b _

theorem gateLost_pairs {c : Nat} (hc : c < 16) : SameBut b (b.gateLost c) besidePairs := by
  refine same_ite (fun h8 => ?drive) fun h8 => ?stepper
  case drive =>
    refine same_trans (same_flag (same_refl b _) (R.Dn_STAT_HASP_EN c) false (besidePairs_bank rfl)) ?_
    refine same_ite (fun _ => because_blockTo_pairs _ 3 0 h8) fun _ =>
      same_ite (fun _ => blockTo_pairs _ 3 h8) fun _ => ?_
    exact same_ite (fun _ => seqIdle_pairs _ c) fun _ => same_refl _ _
  case stepper =>
    exact same_trans (same_flag (same_refl b _) _ _ (besidePairs_bank rfl)) (bridgesOff_pairs _ 3 (by omega))

theorem gateGained_pairs (c : Nat) : SameBut b (b.gateGained c) besidePairs :=
  same_ite (fun _ => same_flag (same_refl b _) _ _ (besidePairs_bank rfl)) fun _ =>
    same_flag (same_refl b _) _ _ (besidePairs_bank rfl)

theorem gates_pairs : SameBut b b.gates besidePairs := by
  refine same_each 16 _ (fun c hc b => same_ite (fun _ => same_refl b _) fun _ => ?_) b
  refine same_trans (same_flag (same_refl b _) (bitOf R.HASP_GEN_EN c) (b.gateDue c) (besidePairs_const rfl)) ?_
  exact same_ite (fun _ => gateGained_pairs _ c) fun _ => gateLost_pairs _ hc

/-! The STO outputs (R322, R323). -/

theorem openSto_pairs {k : Nat} (hk : k < 4) : SameBut b (b.openSto k) besidePairs := by
  have hcnt : besidePairs (0x100A0 + 0x4 * k) := besidePairs_row hk (by decide)
  have hstat : besidePairs (0x10080 + 0x4 * k) := besidePairs_row hk (by decide)
  refine same_trans ?_ (same_eachOf _ _ (fun c _ b => same_onHch (same_refl b _) c _) _)
  refine same_onSto (same_flag (same_wr ?_ _ _ hstat) _ _ hstat) k _
  exact same_ite (fun _ => same_raise (same_inc (same_refl b _) _ hcnt) _ _ _ (besidePairs_const rfl))
    fun _ => same_refl b _

theorem judgeSto_pairs {k : Nat} (hk : k < 4) : SameBut b (b.judgeSto k) besidePairs := by
  have hstat : besidePairs (0x10080 + 0x4 * k) := besidePairs_row hk (by decide)
  refine same_ite (fun _ => same_refl b _) fun _ => ?_
  split
  · have hdem : ∀ (d : Nat) (p : Prop) [Decidable p] (f : Sto → Sto), SameBut b
        (((if p then b.wr (R.HASP_STOSTAT_DSRC k) d else b).flag (R.HASP_STOSTAT_DEM k) true).onSto k f) besidePairs :=
      fun d p _ f => same_onSto (same_flag (same_ite (fun _ => same_wr (same_refl b _) _ _ hstat) fun _ =>
        same_refl b _) _ _ hstat) k f
    dsimp only
    split
    · refine same_ite (fun _ => ?_) fun _ => hdem _ _ _
      exact same_raise (same_trans (hdem _ _ _) (openSto_pairs _ hk)) _ _ _ (besidePairs_const rfl)
    · exact hdem _ _ _
  · have hclear : SameBut b (b.flag (R.HASP_STOSTAT_DEM k) false) besidePairs :=
      same_flag (same_refl b _) _ _ hstat
    exact same_ite (fun _ => same_onSto (same_wr hclear _ _ hstat) k _) fun _ => hclear

theorem settle_pairs : SameBut b b.settle besidePairs := by
  have hreact : ∀ b : Blk, SameBut b (b.each 16 fun c b => b.endReact c) besidePairs :=
    same_each 16 _ fun c _ b => same_ite (fun _ => same_onHch (same_refl b _) c _) fun _ => same_refl b _
  have hpass : ∀ b : Blk,
      SameBut b ((b.each 16 fun c b => b.endReact c).each 4 fun k b => b.judgeSto k).gates besidePairs := fun b =>
    same_trans (same_trans (hreact b) (same_each 4 _ (fun k hk b => judgeSto_pairs b hk) _)) (gates_pairs _)
  exact same_trans (hpass b) (hpass _)

/-! Ownership, and the loss of R338. -/

theorem ownLost_pairs (c : Nat) : SameBut b (b.ownLost c) besidePairs := by
  refine same_ite (fun hc => ?drive) fun _ => ?stepper
  case drive =>
    exact same_onDc (same_flag (same_trans (same_flag (same_refl b _) _ _ (besidePairs_bank rfl))
      (blockTo_pairs _ 5 hc)) _ _ (besidePairs_bank rfl)) c _
  case stepper =>
    refine same_onStp (same_wr (same_flag ?_ _ _ (besidePairs_bank rfl)) _ _ (besidePairs_bank rfl)) _ _
    exact same_ite (fun _ => abortInj_pairs b c 2) fun _ => same_refl b _

theorem ownGained_pairs (c : Nat) : SameBut b (b.ownGained c) besidePairs := by
  refine same_ite (fun hc => ?drive) fun _ =>
    same_wr (same_flag (same_refl b _) _ _ (besidePairs_bank rfl)) _ _ (besidePairs_bank rfl)
  case drive =>
    have hpins : SameBut b (((b.flag (R.Dn_STAT_OWN c) true).wr (R.Dn_STAT_PSTATE c) 0).pinsOff c) besidePairs :=
      same_trans (same_wr (same_flag (same_refl b _) _ _ (besidePairs_bank rfl)) _ _ (besidePairs_bank rfl))
        (pinsOff_pairs _ c)
    refine same_ite (fun _ => same_trans hpins (acceptTrip_pairs _ 0 hc)) fun _ => ?_
    exact same_ite (fun _ => same_trans hpins (acceptTrip_pairs _ 1 hc)) fun _ => hpins

theorem ownSettle_pairs : SameBut b b.ownSettle besidePairs :=
  same_each 16 _ (fun c _ b => same_ite (fun _ => same_refl b _) fun _ =>
    same_ite (fun _ => ownGained_pairs b c) fun _ => ownLost_pairs b c) b

theorem setRole_pairs (r : Nat) : SameBut b (b.setRole r) besidePairs :=
  same_trans (same_wr (same_refl b _) R.MIR_STAT_ROLE r (besidePairs_const rfl))
    (same_each 4 _ (fun _ _ b => same_flag (same_refl b _) _ _ (besidePairs_bank rfl)) _)

theorem dropInFlight_pairs : SameBut b b.dropInFlight besidePairs := by
  refine same_trans (same_onHost (same_refl b _) _) (same_foldl _ _ (fun b w _ => ?_) _)
  split
  · exact same_ite (fun _ => same_refl b _) fun _ => same_complete (same_refl b _) _ _ _ _
  · exact same_refl b _

theorem loss_pairs (cause : Nat) : SameBut b (b.loss cause) besidePairs := by
  refine same_ite (fun _ => same_refl b _) fun _ => ?_
  have hhold : ∀ (p : Prop) [Decidable p], SameBut b (if p then b.ntcHold else b) besidePairs := fun p _ =>
    same_ite (fun _ => same_regs rfl) fun _ => same_refl b _
  refine same_trans ?_ (dropInFlight_pairs _)
  refine same_trans ?_ (settle_pairs _)
  refine same_trans ?_ (ownSettle_pairs _)
  refine same_trans (same_flag ?_ _ _ (besidePairs_const rfl)) (setRole_pairs _ 5)
  exact same_trans (same_raise (same_wr (hhold _) _ _ (besidePairs_const rfl)) _ _ _ (besidePairs_const rfl))
    (gates_pairs _)

end

end Sys2Proof.Machine
end

section
/-! SUPPORT. What loading a channel leaves of the loop-engine pairs, and what its move to another pair changes: the map
of that channel alone (R208, R209, R372, R373). -/

namespace Sys2Proof.Machine

/-- From `b` to `d` the pairs' states, the maps of the channels, LP4's mark in WARD_SPARE, the tags that fail at loads
and every report stay. -/
structure PairsKept (b d : Blk) : Prop where
  words : ∀ a, a = R.LE_PSTAT_ST.off ∨ a = R.LE_DMAP_MAP.off ∨ a = R.LE_SMAP_MAP.off → d.word a = b.word a
  lp4 : d.on R.WARD_SPARE_LP4 = b.on R.WARD_SPARE_LP4
  tags : d.le.badTags = b.le.badTags
  reports : ∀ code src, Reported b code src → Reported d code src

theorem pairsKept_refl (b : Blk) : PairsKept b b := ⟨fun _ _ => rfl, rfl, rfl, fun _ _ h => h⟩

namespace PairsKept
variable {b c d : Blk}

theorem trans (h : PairsKept b c) (k : PairsKept c d) : PairsKept b d :=
  ⟨fun a ha => (k.words a ha).trans (h.words a ha), k.lp4.trans h.lp4, k.tags.trans h.tags,
    fun code src hr => k.reports code src (h.reports code src hr)⟩

/-- An operation that writes beside the words of the pairs. -/
theorem of_beside (h : SameBut b d besidePairs) (ht : d.le.badTags = b.le.badTags)
    (hr : ∀ code src, Reported b code src → Reported d code src) : PairsKept b d := by
  refine ⟨?_, same_on h _ (by decide), ht, hr⟩
  rintro a (rfl | rfl | rfl)
  · exact h _ (by decide)
  · exact h _ (by decide)
  · exact h _ (by decide)

theorem wr {f : Fld} {v : Nat} (h : PairsKept b c) (ha : 0x4260 ≤ f.off) (hf : besidePairs f.off) :
    PairsKept b (c.wr f v) :=
  h.trans (of_beside (same_wr (same_refl c _) f v hf) rfl fun _ _ hr => reported_wr_above hr f v ha)

theorem raise {code src : Nat} {i : List Int} (h : PairsKept b c) : PairsKept b (c.raise code src i) :=
  h.trans (of_beside (same_raise (same_refl c _) _ _ _ (besidePairs_const rfl))
    (congrArg Le.badTags (c.raise_le code src i)) fun _ _ hr => c.raise_mono code src i hr)

theorem onChan {n : Nat} {f : Chan → Chan} (h : PairsKept b c) : PairsKept b (c.onChan n f) :=
  h.trans ⟨fun _ _ => rfl, rfl, rfl, fun _ _ hr => hr⟩

theorem onDrv {n : Nat} {f : Drive → Drive} (h : PairsKept b c) : PairsKept b (c.onDrv n f) :=
  h.trans ⟨fun _ _ => rfl, rfl, rfl, fun _ _ hr => hr⟩

theorem onStp {n : Nat} {f : Stepper → Stepper} (h : PairsKept b c) : PairsKept b (c.onStp n f) :=
  h.trans ⟨fun _ _ => rfl, rfl, rfl, fun _ _ hr => hr⟩

theorem onTun {n : Nat} {f : Tuner → Tuner} (h : PairsKept b c) : PairsKept b (c.onTun n f) :=
  h.trans ⟨fun _ _ => rfl, rfl, rfl, fun _ _ hr => hr⟩

theorem onLe {f : Le → Le} (h : PairsKept b c) (hf : ∀ x, (f x).badTags = x.badTags) :
    PairsKept b (c.onLe f) :=
  h.trans ⟨fun _ _ => rfl, rfl, hf _, fun _ _ hr => hr⟩

theorem ite {p : Prop} [Decidable p] (hc : p → PairsKept b c) (hd : ¬ p → PairsKept b d) :
    PairsKept b (if p then c else d) := by
  split_ifs with h
  · exact hc h
  · exact hd h

theorem eachOf {l : List Nat} {f : Nat → Blk → Blk} (h : ∀ i b, PairsKept b (f i b)) (b : Blk) :
    PairsKept b (b.eachOf l f) :=
  List.foldlRecOn _ _ (pairsKept_refl b) fun c hc i _ => hc.trans (h i c)

/-- The state of every pair stays. -/
theorem pairState (h : PairsKept b d) (k : Nat) : d.pairState k = b.pairState k :=
  congrArg (sliceOf R.LE_PSTAT_ST k 3).get (h.words _ (.inl rfl))

/-- Every channel stays on its pair. -/
theorem pairOf (h : PairsKept b d) (c : Nat) : d.pairOf c = b.pairOf c := by
  have hd : d.rd (sliceOf R.LE_DMAP_MAP c 4) = b.rd (sliceOf R.LE_DMAP_MAP c 4) :=
    congrArg (sliceOf R.LE_DMAP_MAP c 4).get (h.words _ (.inr (.inl rfl)))
  have hs : d.rd (sliceOf R.LE_SMAP_MAP (c - 8) 4) = b.rd (sliceOf R.LE_SMAP_MAP (c - 8) 4) :=
    congrArg (sliceOf R.LE_SMAP_MAP (c - 8) 4).get (h.words _ (.inr (.inr rfl)))
  rw [Blk.pairOf, Blk.pairOf, hd, hs]

theorem loadTags (h : PairsKept b d) (c : Nat) : d.loadTags c = b.loadTags c := by
  rw [Blk.loadTags, Blk.loadTags, h.tags]

end PairsKept

section
variable (b : Blk)

theorem pairOf_lt (c : Nat) : b.pairOf c < 16 := by
  unfold Blk.pairOf
  split_ifs
  · exact Nat.mod_lt _ (Nat.two_pow_pos 4)
  · exact Nat.mod_lt _ (Nat.two_pow_pos 4)

theorem moveCapture_kept (k : Nat) (c : Option Nat) : PairsKept b (b.moveCapture k c) :=
  .ite (fun _ => ((pairsKept_refl b).wr (Nat.le_add_right_of_le (by decide)) (besidePairs_bank rfl)).onTun)
    fun _ => pairsKept_refl b

theorem abortInj_kept (c r : Nat) : PairsKept b (b.abortInj c r) :=
  .of_beside (abortInj_pairs b c r) (congrArg (·.1.2.2.1.badTags) (Blk.abortInj_calm b c r))
    fun _ _ hr => reported_abortInj hr c r

theorem loss_kept (cause : Nat) : PairsKept b (b.loss cause) :=
  .of_beside (loss_pairs b cause) (congrArg (·.1.2.2.1.badTags) (loss_calm b cause)) (loss_front b cause).reports

/-! A load (R208). -/

theorem wardFail_kept {cls : Nat} (hcls : cls < 8) (key : Nat) : PairsKept b (b.wardFail cls key) := by
  refine .of_beside (same_mono (wardFail_same b cls key) ?_) (congrArg Le.badTags (wardFail_le cls key))
    fun _ _ hr => reported_wardFail hr cls key
  rintro a (rfl | rfl | rfl)
  · exact besidePairs_row hcls (by decide)
  · exact besidePairs_const rfl
  · exact besidePairs_const rfl

/-- A failing slot shows in WARD_SPARE.CKS, beside LP4. -/
theorem ckFails_kept (c w : Nat) : PairsKept b (b.ckFails c w) := by
  have hcount : PairsKept b
      ((b.wardFail 2 (0x3000 + c * 256 + w % 256)).inc (R.LE_ERR_CKF (b.pairOf c))) := by
    exact (wardFail_kept b (by decide) _).wr (Nat.le_add_right_of_le (by decide))
      (besidePairs_row (pairOf_lt b c) (by decide))
  refine hcount.trans ⟨fun a ha => ?_, ?_, rfl, fun code src hr => ?_⟩
  · refine same_flag (same_refl _ fun a => a = R.WARD_SPARE_CKS.off) _ _ rfl a ?_
    rintro rfl
    exact absurd ha (by decide)
  · exact congrArg (· != 0) (Blk.rd_wr_apart _ R.WARD_SPARE_CKS R.WARD_SPARE_LP4 _
      (by simp [Fld.inWord, R.WARD_SPARE_CKS]) (.inl (by decide)))
  · exact reported_wr_above hr _ _ (by decide)

theorem pickCk_kept (c : Nat) : PairsKept b (b.pickCk c).2 :=
  pickCk_keeps (P := PairsKept b) (fun d _ w h => (h.trans (ckFails_kept d c w)).onChan) (fun _ h => h.raise)
    (pairsKept_refl b)

theorem startBlend_kept (n what kind : Nat) (yLast vq vd : Int) :
    PairsKept b (b.startBlend n what kind yLast vq vd) :=
  (pairsKept_refl b).onDrv.wr (Nat.le_add_right_of_le (by decide)) (besidePairs_bank rfl)

theorem resumeFrom_kept (c : Nat) (ck : Option Ckpt) : PairsKept b (b.resumeFrom c ck) := by
  cases ck with
  | some k => exact .ite (fun _ => (pairsKept_refl b).onChan.onDrv) fun _ => (pairsKept_refl b).onChan
  | none =>
    have hraise : ∀ f, PairsKept b ((b.raise 0x7104 c []).onChan c f) := fun _ => (pairsKept_refl b).raise.onChan
    refine .ite (fun _ => ?_) fun _ => (hraise _).onChan
    exact ((hraise _).onChan.trans (startBlend_kept _ _ _ _ _ _ _)).trans (startBlend_kept _ _ _ _ _ _ _)

theorem restoreCk_kept (c : Nat) : PairsKept b (b.restoreCk c) := (pickCk_kept b c).trans (resumeFrom_kept _ c _)

theorem loadCoefs_kept (c : Nat) : PairsKept b (b.loadCoefs c).2 := by
  refine List.foldlRecOn (motive := fun r : Bool × Blk => PairsKept b r.2) _ _ (pairsKept_refl b) fun r hr x _ => ?_
  dsimp only
  split_ifs
  · exact hr
  · exact hr.trans (wardFail_kept _ (by decide : 2 < 8) _)

theorem shed_kept (c : Nat) : PairsKept b (b.shed c) :=
  .ite (fun _ => (pairsKept_refl b).onDrv) fun _ => (pairsKept_refl b).onStp

/-! The map of one channel. -/

/-- From `b` to `d` the map of channel c takes `v`, and nothing else of the pairs changes. -/
def MapWritten (c v : Nat) (b d : Blk) : Prop := ∃ e, PairsKept b e ∧ PairsKept (e.setMap c v) d

variable {b}

theorem setMap_same (c v : Nat) : SameBut b (b.setMap c v) fun a => a = R.LE_DMAP_MAP.off ∨ a = R.LE_SMAP_MAP.off :=
  same_ite (fun _ => same_wr (same_refl b _) _ _ (.inl rfl)) fun _ => same_wr (same_refl b _) _ _ (.inr rfl)

theorem setMap_reports {code src : Nat} (c v : Nat) (h : Reported b code src) : Reported (b.setMap c v) code src := by
  unfold Blk.setMap
  split_ifs
  · exact reported_wr_above h _ _ (by decide : 0x4260 ≤ R.LE_DMAP_MAP.off)
  · exact reported_wr_above h _ _ (by decide : 0x4260 ≤ R.LE_SMAP_MAP.off)

theorem setMap_tags (c v : Nat) : (b.setMap c v).le.badTags = b.le.badTags := by
  unfold Blk.setMap
  split_ifs <;> rfl

/-- Another channel's map stays. -/
theorem setMap_pairOf_ne {c i : Nat} (v : Nat) (hc : c < 16) (hi : i < 16) (hne : c ≠ i) :
    (b.setMap i v).pairOf c = b.pairOf c := by
  have hoff : R.LE_DMAP_MAP.off ≠ R.LE_SMAP_MAP.off := by decide
  unfold Blk.setMap Blk.pairOf
  by_cases hi8 : i < 8 <;> by_cases hc8 : c < 8
  · simp only [hi8, hc8, if_true]
    exact Blk.rd_wr_apart b _ _ v (by simp only [Fld.inWord, sliceOf, R.LE_DMAP_MAP]; omega)
      (by simp only [Fld.apart, sliceOf, R.LE_DMAP_MAP]; omega)
  · simp only [hi8, hc8, if_true, if_false]
    exact Blk.rd_wr_off b _ _ v hoff.symm
  · simp only [hi8, hc8, if_true, if_false]
    exact Blk.rd_wr_off b _ _ v hoff
  · simp only [hi8, hc8, if_false]
    exact Blk.rd_wr_apart b _ _ v (by simp only [Fld.inWord, sliceOf, R.LE_SMAP_MAP]; omega)
      (by simp only [Fld.apart, sliceOf, R.LE_SMAP_MAP]; omega)

namespace MapWritten
variable {c v : Nat} {d : Blk}

theorem pairState (h : MapWritten c v b d) (k : Nat) : d.pairState k = b.pairState k := by
  obtain ⟨e, hbe, hed⟩ := h
  have hoff : ¬ (R.LE_PSTAT_ST.off = R.LE_DMAP_MAP.off ∨ R.LE_PSTAT_ST.off = R.LE_SMAP_MAP.off) := by decide
  rw [hed.pairState, ← hbe.pairState]
  exact same_rd (setMap_same c v) _ hoff

theorem lp4 (h : MapWritten c v b d) : d.on R.WARD_SPARE_LP4 = b.on R.WARD_SPARE_LP4 := by
  obtain ⟨e, hbe, hed⟩ := h
  rw [hed.lp4, ← hbe.lp4]
  exact same_on (setMap_same c v) _ (by decide)

theorem tags (h : MapWritten c v b d) : d.le.badTags = b.le.badTags := by
  obtain ⟨e, hbe, hed⟩ := h
  rw [hed.tags, setMap_tags, hbe.tags]

theorem reports (h : MapWritten c v b d) {code src : Nat} (hr : Reported b code src) : Reported d code src := by
  obtain ⟨e, hbe, hed⟩ := h
  exact hed.reports code src (setMap_reports c v (hbe.reports code src hr))

theorem pairOf_self (h : MapWritten c v b d) (hc : c < 16) (hv : v < 16) : d.pairOf c = v := by
  obtain ⟨e, -, hed⟩ := h
  rw [hed.pairOf, setMap_pairOf hc hv]

theorem pairOf_ne (h : MapWritten c v b d) {i : Nat} (hi : i < 16) (hc : c < 16) (hne : i ≠ c) :
    d.pairOf i = b.pairOf i := by
  obtain ⟨e, hbe, hed⟩ := h
  rw [hed.pairOf, setMap_pairOf_ne v hi hc hne, hbe.pairOf]

end MapWritten

variable (b)

theorem freed_kept (c : Nat) : PairsKept b ((b.moveCapture (b.pairOf c) (some c)).abortInj c 5) :=
  (moveCapture_kept b _ _).trans (abortInj_kept _ c 5)

/-- What a move comes to (R209, R373): the channel passes to its new pair or is shed, or the module declares a loss. -/
theorem moveChan_maps (c k : Nat) : PairsKept b (b.moveChan c k) ∨ ∃ v, MapWritten c v b (b.moveChan c k) := by
  have hload := (freed_kept b c).trans (loadCoefs_kept _ c)
  unfold Blk.moveChan Blk.cannotLoad
  dsimp only
  split_ifs
  · exact .inl (hload.raise.trans (loss_kept _ 0))
  · exact .inr ⟨0xE, _, hload.raise, shed_kept _ c⟩
  · exact .inr ⟨k, _, hload, restoreCk_kept _ c⟩

variable {b}

/-- Where no coefficient fails at the load, the channel passes to its new pair. -/
theorem moveChan_passes {c : Nat} (k : Nat) (ht : (b.loadTags c).coef = []) : MapWritten c k b (b.moveChan c k) := by
  have hload : ((b.moveCapture (b.pairOf c) (some c)).abortInj c 5).loadCoefs c =
      (false, (b.moveCapture (b.pairOf c) (some c)).abortInj c 5) := by
    rw [Blk.loadCoefs, (freed_kept b c).loadTags, ht]
    rfl
  refine ⟨_, freed_kept b c, ?_⟩
  unfold Blk.moveChan
  simp only [hload, Bool.false_eq_true, false_and, if_false]
  exact restoreCk_kept _ c

end

end Sys2Proof.Machine
end

section
/-! PROOFS. The obligation on lost pairs: a pair retired with its channels on the spare, and the spare lost (R209,
R212). -/

namespace Sys2Proof.Machine

section
variable {b : Blk} {k : Nat}

/-! The states of pairs. -/

theorem setPair_pairState_self (v : Nat) (hk : k < 5) : (b.setPair k v).pairState k = v % 8 :=
  Blk.rd_wr_self b _ v (by simp only [Fld.inWord, sliceOf, R.LE_PSTAT_ST]; omega)

theorem setPair_pairState_ne {i : Nat} (v : Nat) (hi : i < 5) (hk : k ≠ i) :
    (b.setPair i v).pairState k = b.pairState k :=
  Blk.rd_wr_apart b _ _ v (by simp only [Fld.inWord, sliceOf, R.LE_PSTAT_ST]; omega)
    (by simp only [Fld.apart, sliceOf, R.LE_PSTAT_ST]; omega)

theorem setPair_same (i v : Nat) : SameBut b (b.setPair i v) fun a => a = R.LE_PSTAT_ST.off :=
  same_wr (same_refl b _) _ _ rfl

theorem setPair_pairOf (i v c : Nat) : (b.setPair i v).pairOf c = b.pairOf c :=
  pairOf_of_same (setPair_same i v) (by decide) (by decide) c

theorem mem_chansOn {c : Nat} : c ∈ b.chansOn k ↔ c < 16 ∧ b.configured c = true ∧ b.pairOf c = k := by
  simp [Blk.chansOn]

/-! The pair retired (R209 steps 1 and 2). -/

/-- A pair other than the spare enters its retired state, and nothing else of the pairs changes. -/
theorem retirePair_pairs (post : Bool) (hk : k < 4) :
    ∃ d, PairsKept b d ∧ PairsKept (d.setPair k 4) (b.retirePair k post) := by
  have hspare : k ≠ 4 := by omega
  have houts : PairsKept b (if post then b else b.eachOf (b.chansOn k) fun c b => b.onChan c fun x =>
      { x with outs := none }) :=
    .ite (fun _ => pairsKept_refl b) fun _ => .eachOf (fun _ b => (pairsKept_refl b).onChan) b
  refine ⟨_, houts, ?_⟩
  unfold Blk.retirePair
  rw [if_neg hspare]
  have hcount : ∀ d : Blk, PairsKept d (d.inc (R.LE_ERR_DIS k)) := fun d =>
    (pairsKept_refl d).wr (Nat.le_add_right_of_le (by decide)) (besidePairs_row hk (by decide))
  refine PairsKept.onLe ?_ fun _ => rfl
  exact ((hcount _).trans (moveCapture_kept _ k none)).trans (.eachOf (fun c b => abortInj_kept b c 5) _)

/-- Pair k is retired, its loss reported. -/
def Retired (k : Nat) (b : Blk) : Prop := b.pairState k = 4 ∧ Reported b 0x7201 k

theorem Retired.keep {d : Blk} (h : Retired k b) (hd : PairsKept b d) : Retired k d :=
  ⟨(hd.pairState k).trans h.1, hd.reports _ _ h.2⟩

/-- Pair k once it is retired and its loss is noted: event 0x7201 and the pairs lost in this frame. -/
def Blk.lossNoted (b : Blk) (k : Nat) (post : Bool) : Blk :=
  ((b.retirePair k post).raise 0x7201 k []).onLe fun l => { l with lostNow := k :: l.lostNow }

theorem lossNoted_pairs (post : Bool) (hk : k < 4) :
    ∃ d, PairsKept b d ∧ PairsKept (d.setPair k 4) (b.lossNoted k post) := by
  obtain ⟨d, hbd, hd⟩ := retirePair_pairs (b := b) post hk
  exact ⟨d, hbd, hd.raise.onLe fun _ => rfl⟩

theorem lossNoted_retired (post : Bool) (hk : k < 4) : Retired k (b.lossNoted k post) := by
  obtain ⟨d, -, hd⟩ := lossNoted_pairs (b := b) post hk
  exact ⟨(hd.pairState k).trans (setPair_pairState_self 4 (by omega)), reported_onLe (Blk.raise_self _ _ _ _) _⟩

theorem lossNoted_tags (post : Bool) (hk : k < 4) : (b.lossNoted k post).le.badTags = b.le.badTags := by
  obtain ⟨d, hbd, hd⟩ := lossNoted_pairs (b := b) post hk
  have hset : (d.setPair k 4).le.badTags = d.le.badTags := rfl
  exact hd.tags.trans (hset.trans hbd.tags)

/-! The spare takes channels (R209 step 3). -/

/-- Pair k is retired, and WARD_SPARE shows LP4 taken. -/
def RetiredSpareTaken (k : Nat) (b : Blk) : Prop := Retired k b ∧ b.on R.WARD_SPARE_LP4 = false

theorem RetiredSpareTaken.keep {d : Blk} (h : RetiredSpareTaken k b) (hd : PairsKept b d) : RetiredSpareTaken k d :=
  ⟨h.1.keep hd, hd.lp4.trans h.2⟩

theorem RetiredSpareTaken.moveChan (h : RetiredSpareTaken k b) (c : Nat) : RetiredSpareTaken k (b.moveChan c 4) := by
  rcases moveChan_maps b c 4 with hk | ⟨v, hm⟩
  · exact h.keep hk
  · obtain ⟨⟨hstate, hrep⟩, hlp4⟩ := h
    exact ⟨⟨(hm.pairState k).trans hstate, hm.reports hrep⟩, hm.lp4.trans hlp4⟩

/-- Another pair's state leaves it. -/
theorem RetiredSpareTaken.setPair (h : RetiredSpareTaken k b) {i : Nat} (v : Nat) (hi : i < 5) (hk : k ≠ i) :
    RetiredSpareTaken k (b.setPair i v) := by
  obtain ⟨⟨hstate, hrep⟩, hlp4⟩ := h
  exact ⟨⟨(setPair_pairState_ne v hi hk).trans hstate,
      reported_wr_above hrep _ v (by decide : 0x4260 ≤ R.LE_PSTAT_ST.off)⟩,
    (same_on (setPair_same i v) _ (by decide)).trans hlp4⟩

theorem RetiredSpareTaken.startLoading (h : RetiredSpareTaken k b) (hk : k ≠ 4) (chs : List Nat) (post : Bool) :
    RetiredSpareTaken k (b.startLoading 4 chs post) := by
  unfold Blk.startLoading
  split_ifs
  · exact h
  · exact (h.setPair 3 (by decide) hk).keep ((pairsKept_refl _).onLe fun _ => rfl)

/-- LP4 drops its preloads and its mark before it takes channels. -/
def Blk.spareMarked (b : Blk) : Blk := (b.onLe fun l => { l with preload := [] }).flag R.WARD_SPARE_LP4 false

theorem flagLp4_taken (h : Retired k b) : RetiredSpareTaken k (b.flag R.WARD_SPARE_LP4 false) := by
  have hstate : (b.flag R.WARD_SPARE_LP4 false).pairState k = b.pairState k :=
    Blk.rd_wr_off b R.WARD_SPARE_LP4 (sliceOf R.LE_PSTAT_ST k 3) _
      (by decide : R.LE_PSTAT_ST.off ≠ R.WARD_SPARE_LP4.off)
  exact ⟨⟨hstate.trans h.1, reported_wr_above h.2 _ _ (by decide : 0x4260 ≤ R.WARD_SPARE_LP4.off)⟩,
    Blk.on_flag_self b _ _ (by simp [Fld.inWord, R.WARD_SPARE_LP4]) rfl⟩

theorem spareMarked_taken (h : Retired k b) : RetiredSpareTaken k b.spareMarked :=
  flagLp4_taken (h.keep ((pairsKept_refl b).onLe fun _ => rfl))

theorem spareTakes_taken (h : Retired k b) (hk : k ≠ 4) (chs : List Nat) (post : Bool) :
    RetiredSpareTaken k (b.spareTakes chs post) :=
  RetiredSpareTaken.startLoading (List.foldlRecOn _ _ (spareMarked_taken h) fun _ hb c _ => hb.moveChan c) hk _ post

/-- Where no tag fails, each of the channels comes to LP4, and one already there stays. -/
theorem eachOf_moveChan_pairOf {l : List Nat} {c : Nat} (ht : b.le.badTags = []) (hl : ∀ i ∈ l, i < 16)
    (hc : c < 16) (h : c ∈ l ∨ b.pairOf c = 4) : (b.eachOf l fun i b => b.moveChan i 4).pairOf c = 4 := by
  induction l generalizing b with
  | nil => exact h.resolve_left List.not_mem_nil
  | cons i l ih =>
    obtain ⟨hi, hl⟩ := List.forall_mem_cons.mp hl
    have hclean : (b.loadTags i).coef = [] := by rw [Blk.loadTags, ht]; rfl
    have hmap : MapWritten i 4 b (b.moveChan i 4) := moveChan_passes 4 hclean
    refine ih (hmap.tags.trans ht) hl ?_
    by_cases hci : c = i
    · subst hci
      exact .inr (hmap.pairOf_self hc (by decide : 4 < 16))
    · rw [hmap.pairOf_ne hc hi hci]
      exact h.imp_left fun hm => (List.mem_cons.mp hm).resolve_left hci

theorem startLoading_pairOf (i : Nat) (chs : List Nat) (post : Bool) (c : Nat) :
    (b.startLoading i chs post).pairOf c = b.pairOf c := by
  unfold Blk.startLoading
  split_ifs
  · rfl
  · exact (((pairsKept_refl _).onLe fun _ => rfl).pairOf c).trans (setPair_pairOf i 3 c)

theorem spareTakes_pairOf {chs : List Nat} {c : Nat} (post : Bool) (ht : b.le.badTags = []) (hl : ∀ i ∈ chs, i < 16)
    (hc : c ∈ chs) : (b.spareTakes chs post).pairOf c = 4 :=
  (startLoading_pairOf 4 _ post c).trans (eachOf_moveChan_pairOf (b := b.spareMarked) ht hl (hl c hc) (.inl hc))

/-! LANE_DISAGREEMENT (R209). -/

/-- A disagreement in a pair that runs, while the spare is free. -/
theorem doDisagree_taken (post : Bool) (hk : k ≠ 4) (h0 : b.pairState k ≠ 0) (h4 : b.pairState k ≠ 4)
    (hp : b.powered (if k < 3 then .lpa else .lpb) = true) (hs : b.spareFree = true) :
    b.doDisagree k post = (b.lossNoted k post).spareTakes (b.chansOn k) post := by
  unfold Blk.doDisagree Blk.pairLost Blk.lossNoted
  simp [h0, h4, hp, hs, hk]

/-- A pair off or retired disagrees no more. -/
theorem doDisagree_gone (post : Bool) (h : b.pairState k = 0 ∨ b.pairState k = 4) : b.doDisagree k post = b := by
  unfold Blk.doDisagree
  exact if_pos (by tauto)

/-- A disagreement in the free spare is its failed self-check. -/
theorem doDisagree_spare (post : Bool) (hp : b.powered .lpb = true) (hs : b.spareFree = true) :
    b.doDisagree 4 post = b.doSpareFail := by
  have hstate : b.pairState 4 = 2 := by
    simp only [Blk.spareFree, Bool.and_eq_true, beq_iff_eq] at hs
    exact hs.1
  unfold Blk.doDisagree
  simp [hstate, hp, hs]

/-! SPARE_SELFCHECK_FAIL (R212). -/

/-- The spare after its failed self-check. -/
def SpareLost (n : Nat) (b : Blk) : Prop :=
  b.pairState 4 = 4 ∧ b.on R.WARD_SPARE_LP4 = false ∧ Reported b 0x7204 4 ∧
    b.rd (R.LE_ERR_DIS 4) = min (n + 1) (R.LE_ERR_DIS 4).top

theorem doSpareFail_lost (hs : b.spareFree = true) (hc : b.on R.LE_CTL_SPARECHK = true) :
    SpareLost (b.rd (R.LE_ERR_DIS 4)) b.doSpareFail := by
  have hcount : ∀ d : Blk, SameBut d (d.inc (R.LE_ERR_DIS 4)) fun a => a = (R.LE_ERR_DIS 4).off := fun d =>
    same_inc (same_refl d _) _ rfl
  have hmark : ∀ d : Blk, SameBut d (d.flag R.WARD_SPARE_LP4 false) fun a => a = R.WARD_SPARE_LP4.off := fun d =>
    same_flag (same_refl d _) _ _ rfl
  have hpre : ∀ (d : Blk) (f : Le → Le) (g : Fld), (d.onLe f).rd g = d.rd g := fun _ _ _ => rfl
  have hon : ∀ (d : Blk) (f : Le → Le) (g : Fld), (d.onLe f).on g = d.on g := fun _ _ _ => rfl
  unfold Blk.doSpareFail
  rw [if_pos ⟨hs, hc⟩]
  refine ⟨?_, ?_, Blk.raise_self _ _ _ _, ?_⟩
  · rw [(pairsKept_refl _).raise.pairState, Blk.pairState, hpre, same_rd (hmark _) _ (by decide),
      same_rd (hcount _) _ (by decide)]
    exact setPair_pairState_self 4 (by decide)
  · rw [Blk.raise_on _ _ _ _ _ (by decide), hon]
    exact Blk.on_flag_self _ _ _ (by simp [Fld.inWord, R.WARD_SPARE_LP4]) rfl
  · rw [Blk.raise_rd _ _ _ _ _ (by decide), hpre, same_rd (hmark _) _ (by decide),
      Blk.rd_inc_self _ _ (by simp [Fld.inWord, R.LE_ERR_DIS]), same_rd (setPair_same 4 4) _ (by decide)]

end

/-- The block while a command brings the tags that fail at its loads. -/
def Blk.tagged (b : Blk) (bad : List LoadTags) : Blk := b.onLe fun l => { l with badTags := bad }

theorem withTags_tagged (b : Blk) (bad : List LoadTags) (f : Blk → Blk) :
    b.withTags bad f = (f (b.tagged bad)).tagged [] := rfl

/-- Settles O51: a pair's loss retires it and the free spare takes its channels one after another; a disagreement in the
free spare is its failed self-check. -/
theorem pairsLost : Obligations.PairsLost := by
  unfold Obligations.PairsLost
  refine ⟨?retired, ?gone, ?spare⟩
  case retired =>
    intro s k post bad hk4 h0 h4 hf hp hs
    have hk : k.val < 4 := by omega
    refine yields_within rfl hf ?_
    dsimp only
    rw [withTags_tagged, doDisagree_taken (b := s.blk.tagged bad) post hk4 h0 h4 hp hs]
    obtain ⟨⟨hstate, hrep⟩, hlp4⟩ := spareTakes_taken (lossNoted_retired (b := s.blk.tagged bad) post hk) hk4
      ((s.blk.tagged bad).chansOn k) post
    refine ⟨hstate, reported_onLe hrep _, hlp4, ?_⟩
    rintro rfl c hc hpair
    exact spareTakes_pairOf post (lossNoted_tags post hk) (fun i hi => (mem_chansOn.mp hi).1)
      (mem_chansOn.mpr ⟨c.isLt, hc, hpair⟩)
  case gone =>
    intro s k post bad h
    refine yields_onBlk rfl rfl ?_
    dsimp only
    split_ifs
    · rw [withTags_tagged, doDisagree_gone (b := s.blk.tagged bad) post h]
      exact ⟨rfl, rfl⟩
    · exact ⟨rfl, rfl⟩
  case spare =>
    rintro s c hs hchk hf (rfl | ⟨hp, post, rfl⟩)
    · exact yields_within rfl hf (doSpareFail_lost hs hchk)
    · refine yields_within rfl hf ?_
      have hspare : (s.blk.tagged []).doDisagree 4 post = (s.blk.tagged []).doSpareFail := doDisagree_spare post hp hs
      obtain ⟨hstate, hlp4, hrep, hdis⟩ := doSpareFail_lost (b := s.blk.tagged []) hs hchk
      rw [← hspare] at hstate hlp4 hrep hdis
      exact ⟨hstate, hlp4, reported_onLe hrep _, hdis⟩

end Sys2Proof.Machine
end

section
/-! SUPPORT. What the words of supervision and of tuning show after each of their updates (R218, R224, R229, R233). -/

namespace Sys2Proof.Machine

section
variable {b : Blk} {n k : Nat}

/-- Another flag of the word is as before. -/
theorem Blk.on_wr_apart (b : Blk) (f g : Fld) (v : Nat) (h : f.inWord) (ha : f.apart g) : (b.wr f v).on g = b.on g :=
  congrArg (· != 0) (Blk.rd_wr_apart b f g v h ha)

/-- A counter counted leaves every other word. -/
theorem Blk.rd_inc_off (b : Blk) (f g : Fld) (h : g.off ≠ f.off) : (b.inc f).rd g = b.rd g := Blk.rd_wr_off b f g _ h

theorem Blk.on_inc_off (b : Blk) (f g : Fld) (h : g.off ≠ f.off) : (b.inc f).on g = b.on g :=
  congrArg (· != 0) (Blk.rd_inc_off b f g h)

theorem ok_on (b : Blk) (h : Hdr) (op : Nat) (f : Fld) : (b.ok h op).on f = b.on f := Blk.complete_on b h op 0 0 f

theorem refuse_rd (b : Blk) (h : Hdr) (op d : Nat) (f : Fld) : (b.refuse h op d).rd f = b.rd f :=
  Blk.complete_rd b h op 2 d f

/-! LE_CAPSTAT. -/

/-- The parts of LE_CAPSTAT stand in its word, in the order FILL, CAP, INJ, DROP. -/
theorem capstat_layout (k : Nat) : (R.LE_CAPSTAT_FILL k).inWord ∧ (R.LE_CAPSTAT_CAP k).inWord ∧
    (R.LE_CAPSTAT_INJ k).inWord ∧ (R.LE_CAPSTAT_DROP k).inWord ∧
    (R.LE_CAPSTAT_FILL k).apart (R.LE_CAPSTAT_CAP k) ∧ (R.LE_CAPSTAT_CAP k).apart (R.LE_CAPSTAT_INJ k) ∧
    (R.LE_CAPSTAT_DROP k).apart (R.LE_CAPSTAT_CAP k) ∧ (R.LE_CAPSTAT_DROP k).apart (R.LE_CAPSTAT_FILL k) := by
  simp [Fld.inWord, Fld.apart, R.LE_CAPSTAT_FILL, R.LE_CAPSTAT_CAP, R.LE_CAPSTAT_INJ, R.LE_CAPSTAT_DROP]

/-- LE_CAPSTAT is not the word that counts dropped events. -/
theorem capstat_not_drop (k : Nat) : (R.LE_CAPSTAT_INJ k).off ≠ R.HIF_EVDROP_COUNT.off ∧
    (R.LE_CAPSTAT_CAP k).off ≠ R.HIF_EVDROP_COUNT.off := by
  simp only [R.LE_CAPSTAT_INJ, R.LE_CAPSTAT_CAP, R.HIF_EVDROP_COUNT]
  omega

theorem inj_written (b : Blk) (k : Nat) {v : Nat} (hv : v < 4) :
    (b.wr (R.LE_CAPSTAT_INJ k) v).rd (R.LE_CAPSTAT_INJ k) = v := by
  obtain ⟨-, -, hin, -⟩ := capstat_layout k
  exact (Blk.rd_wr_self b _ v hin).trans (Nat.mod_eq_of_lt hv)

theorem cap_written (b : Blk) (k : Nat) {v : Nat} (hv : v < 4) :
    (b.wr (R.LE_CAPSTAT_CAP k) v).rd (R.LE_CAPSTAT_CAP k) = v := by
  obtain ⟨-, hin, -⟩ := capstat_layout k
  exact (Blk.rd_wr_self b _ v hin).trans (Nat.mod_eq_of_lt hv)

/-- The capture that ends with an injection leaves the injection's state and its value. -/
theorem capWithInj_leaves (b : Blk) (k : Nat) : (b.capWithInj k).rd (R.LE_CAPSTAT_INJ k) = b.rd (R.LE_CAPSTAT_INJ k) ∧
    ∀ x, (b.capWithInj k).tuns[k]? = some x → ∃ y, b.tuns[k]? = some y ∧ y.v = x.v := by
  obtain ⟨-, hcap, -, -, -, hapart, -⟩ := capstat_layout k
  unfold Blk.capWithInj
  split_ifs
  · refine ⟨by rw [Blk.onTun_rd, Blk.rd_wr_apart _ _ _ _ hcap hapart], fun x hx => ?_⟩
    rw [Blk.onTun_tuns, Blk.wr_tuns] at hx
    obtain ⟨y, hy, rfl⟩ := getElem?_modify_self hx
    exact ⟨y, hy, rfl⟩
  · exact ⟨rfl, fun x hx => ⟨x, hx, rfl⟩⟩

/-- R229: an injection that runs is aborted, with event 0x7116. -/
theorem abortInjOn_aborts (reason : Nat) (hi : b.rd (R.LE_CAPSTAT_INJ k) = 1) :
    (b.abortInjOn k (b.rd (R.LE_INJCFG_CH k)) reason).rd (R.LE_CAPSTAT_INJ k) = 3 ∧
      Reported (b.abortInjOn k (b.rd (R.LE_INJCFG_CH k)) reason) 0x7116 k := by
  rw [Blk.abortInjOn, if_pos ⟨hi, rfl⟩]
  refine ⟨?_, reported_capWithInj (Blk.raise_self _ _ _ _) k⟩
  rw [(capWithInj_leaves _ k).1, Blk.raise_rd _ _ _ _ _ (capstat_not_drop k).1]
  cases (b.tun k).hdr with
  | none => rw [Blk.onTun_rd, inj_written b k (by decide)]
  | some h => rw [refuse_rd, Blk.onTun_rd, inj_written b k (by decide)]

/-! Dn_SUPSTAT. -/

/-- The parts of Dn_SUPSTAT that a verdict concerns stand in its word, in the order CAUSE, FALL, VERD. -/
theorem supstat_layout (n : Nat) : (R.Dn_SUPSTAT_CAUSE n).inWord ∧ (R.Dn_SUPSTAT_FALL n).inWord ∧
    (R.Dn_SUPSTAT_VERD n).inWord ∧ (R.Dn_SUPSTAT_CAUSE n).apart (R.Dn_SUPSTAT_FALL n) ∧
    (R.Dn_SUPSTAT_CAUSE n).apart (R.Dn_SUPSTAT_VERD n) ∧ (R.Dn_SUPSTAT_FALL n).apart (R.Dn_SUPSTAT_VERD n) := by
  simp [Fld.inWord, Fld.apart, R.Dn_SUPSTAT_CAUSE, R.Dn_SUPSTAT_FALL, R.Dn_SUPSTAT_VERD]

/-- Dn_SUPSTAT is neither Dn_SUPCNT nor the word that counts dropped events. -/
theorem supstat_apart (n : Nat) (f : Fld) (hf : f.off = (R.Dn_SUPSTAT_W n).off) :
    f.off ≠ (R.Dn_SUPCNT_VERDS n).off ∧ f.off ≠ R.HIF_EVDROP_COUNT.off := by
  simp only [hf, R.Dn_SUPSTAT_W, R.Dn_SUPCNT_VERDS, R.HIF_EVDROP_COUNT]
  omega

/-- R218: a verdict latched shows with its cause, and is counted. -/
theorem latchVerdict_shows (b : Blk) (n : Nat) {cause : Nat} (hc : cause < 8) :
    (b.latchVerdict n cause).on (R.Dn_SUPSTAT_VERD n) = true ∧
    (b.latchVerdict n cause).rd (R.Dn_SUPSTAT_CAUSE n) = cause ∧
    (b.latchVerdict n cause).rd (R.Dn_SUPCNT_VERDS n) =
      min (b.rd (R.Dn_SUPCNT_VERDS n) + 1) (R.Dn_SUPCNT_VERDS n).top := by
  obtain ⟨hcause, -, hverd, -, hapart, -⟩ := supstat_layout n
  have hvoff : (R.Dn_SUPSTAT_VERD n).off ≠ (R.Dn_SUPCNT_VERDS n).off := (supstat_apart n _ rfl).1
  have hcoff : (R.Dn_SUPSTAT_CAUSE n).off ≠ (R.Dn_SUPCNT_VERDS n).off := (supstat_apart n _ rfl).1
  unfold Blk.latchVerdict
  refine ⟨?verd, ?cause, ?count⟩
  case verd => rw [Blk.on_inc_off _ _ _ hvoff, Blk.on_wr_apart _ _ _ _ hcause hapart, Blk.on_flag_self _ _ _ hverd rfl]
  case cause => rw [Blk.rd_inc_off _ _ _ hcoff, Blk.rd_wr_self _ _ _ hcause]; exact Nat.mod_eq_of_lt hc
  case count =>
    rw [Blk.rd_inc_self _ _ (by simp [Fld.inWord, R.Dn_SUPCNT_VERDS]), Blk.rd_wr_off _ _ _ _ hcoff.symm]
    exact congrArg (fun x => min (x + 1) _) (Blk.rd_wr_off b _ _ _ hvoff.symm)

/-- The registers of a verdict that is cleared (R224). -/
def Blk.verdictCleared (b : Blk) (n : Nat) : Blk :=
  ((b.flag (R.Dn_SUPSTAT_VERD n) false).flag (R.Dn_SUPSTAT_FALL n) false).wr (R.Dn_SUPSTAT_CAUSE n) 0

theorem verdictCleared_shows (b : Blk) (n : Nat) : (b.verdictCleared n).on (R.Dn_SUPSTAT_VERD n) = false ∧
    (b.verdictCleared n).on (R.Dn_SUPSTAT_FALL n) = false ∧ (b.verdictCleared n).rd (R.Dn_SUPSTAT_CAUSE n) = 0 := by
  obtain ⟨hcause, hfall, hverd, hcf, hcv, hfv⟩ := supstat_layout n
  refine ⟨?verd, ?fall, Blk.rd_wr_self _ _ 0 hcause⟩
  case verd =>
    calc (b.verdictCleared n).on (R.Dn_SUPSTAT_VERD n)
        = ((b.flag (R.Dn_SUPSTAT_VERD n) false).flag (R.Dn_SUPSTAT_FALL n) false).on (R.Dn_SUPSTAT_VERD n) :=
          Blk.on_wr_apart _ _ _ 0 hcause hcv
      _ = (b.flag (R.Dn_SUPSTAT_VERD n) false).on (R.Dn_SUPSTAT_VERD n) := Blk.on_wr_apart _ _ _ _ hfall hfv
      _ = false := Blk.on_flag_self b _ false hverd rfl
  case fall => exact (Blk.on_wr_apart _ _ _ 0 hcause hcf).trans (Blk.on_flag_self _ _ false hfall rfl)

end

end Sys2Proof.Machine
end

section
/-! PROOFS. The commands of the chopper, of supervision, of Slalu and of tuning. -/

namespace Sys2Proof.Machine

section
variable {b : Blk} {n k : Nat}

/-! BRK_CLEAR (R287). -/

/-- The test of BRK_CLEAR begins. -/
def Blk.brakeTested (b : Blk) (n : Nat) : Blk := b.onDc n fun d => { d with test := true, onAge := 0 }

theorem brakeTested_test {d : DcLink} (h : (b.brakeTested n).dcl[n]? = some d) : d.test = true := by
  obtain ⟨y, -, rfl⟩ := getElem?_modify_self h
  rfl

/-- A chopper of the drive's own: the test of BRK_CLEAR goes by the drive's state and latches. -/
theorem doBrkClear_own (h : Hdr) (hc : b.configured n = true) (hm : b.rd (R.Dn_BRK_MODE n) = 1)
    (ht : (b.dc n).test = false) : b.doBrkClear h n =
      if b.pstate n ≠ 0 then b.refuse h 0x25 0x0001
      else if b.on (R.Dn_DCSTAT_CHF n) = false ∧ b.on (R.Dn_DCSTAT_STKD n) = false then b.ok h 0x25
      else (if b.on (R.Dn_DCSTAT_CHF n) = false then (b.brakeTested n).brakeEnd n
        else if b.on (R.Dn_DCSTAT_BRK n) then b.brakeTested n
        else ((b.brakeTested n).flag (R.Dn_DCSTAT_BRK n) true).inc (R.Dn_BRKCNT_ON n)).ok h 0x25 := by
  have hown : b.chopOwner n = n := if_neg (by omega)
  rw [Blk.doBrkClear, forTarget_configured _ _ _ _ hc]
  simp only [hown, hm, ht, Nat.one_ne_zero, Bool.false_eq_true, if_false, Blk.onDc_on, Blk.brakeTested]

/-- With CHF set on a chopper at rest a pulse begins. -/
theorem doBrkClear_pulse (h : Hdr) (hc : b.configured n = true) (hm : b.rd (R.Dn_BRK_MODE n) = 1)
    (ht : (b.dc n).test = false) (hp : b.pstate n = 0) (hf : b.on (R.Dn_DCSTAT_CHF n) = true)
    (hb : b.on (R.Dn_DCSTAT_BRK n) = false) : b.doBrkClear h n =
      (((b.brakeTested n).flag (R.Dn_DCSTAT_BRK n) true).inc (R.Dn_BRKCNT_ON n)).ok h 0x25 := by
  rw [doBrkClear_own h hc hm ht]
  simp [hp, hf, hb]

/-- With STKD alone the hold begins, and BRKn rests. -/
theorem doBrkClear_hold (h : Hdr) (hc : b.configured n = true) (hm : b.rd (R.Dn_BRK_MODE n) = 1)
    (ht : (b.dc n).test = false) (hp : b.pstate n = 0) (hf : b.on (R.Dn_DCSTAT_CHF n) = false)
    (hk : b.on (R.Dn_DCSTAT_STKD n) = true) : b.doBrkClear h n =
      ((b.brakeTested n).brakeEnd n).ok h 0x25 := by
  rw [doBrkClear_own h hc hm ht]
  simp [hp, hf, hk]

theorem doBrkClear_refused (h : Hdr) (hc : b.configured n = true) (hm : b.rd (R.Dn_BRK_MODE n) = 1)
    (ht : (b.dc n).test = false) (hp : b.pstate n ≠ 0) : b.doBrkClear h n = b.refuse h 0x25 0x0001 := by
  rw [doBrkClear_own h hc hm ht, if_pos hp]

theorem brk_inWord (n : Nat) : (R.Dn_DCSTAT_BRK n).inWord := by simp [Fld.inWord, R.Dn_DCSTAT_BRK]

theorem doBrkClear_activates (h : Hdr) (hc : b.configured n = true) (hm : b.rd (R.Dn_BRK_MODE n) = 1)
    (ht : (b.dc n).test = false) (hp : b.pstate n = 0) (hf : b.on (R.Dn_DCSTAT_CHF n) = true)
    (hb : b.on (R.Dn_DCSTAT_BRK n) = false) : Decided (b.doBrkClear h n) h 0x25 0 0 ∧
      (b.doBrkClear h n).on (R.Dn_DCSTAT_BRK n) = true ∧
      ∀ d, (b.doBrkClear h n).dcl[n]? = some d → d.test = true := by
  have hoff : (R.Dn_DCSTAT_BRK n).off ≠ (R.Dn_BRKCNT_ON n).off := by
    simp only [R.Dn_DCSTAT_BRK, R.Dn_BRKCNT_ON]
    omega
  rw [doBrkClear_pulse h hc hm ht hp hf hb]
  refine ⟨ok_decided _ _ _, ?_, fun d hd => brakeTested_test hd⟩
  rw [ok_on, Blk.on_inc_off _ _ _ hoff, Blk.on_flag_self _ _ _ (brk_inWord n) rfl]

theorem doBrkClear_rests (h : Hdr) (hc : b.configured n = true) (hm : b.rd (R.Dn_BRK_MODE n) = 1)
    (ht : (b.dc n).test = false) (hp : b.pstate n = 0) (hf : b.on (R.Dn_DCSTAT_CHF n) = false)
    (hk : b.on (R.Dn_DCSTAT_STKD n) = true) : Decided (b.doBrkClear h n) h 0x25 0 0 ∧
      (b.doBrkClear h n).on (R.Dn_DCSTAT_BRK n) = false ∧
      ∀ d, (b.doBrkClear h n).dcl[n]? = some d → d.test = true := by
  rw [doBrkClear_hold h hc hm ht hp hf hk]
  refine ⟨ok_decided _ _ _, ?_, fun d hd => brakeTested_test hd⟩
  rw [ok_on, Blk.brakeEnd, Blk.on_flag_self _ _ _ (brk_inWord n) rfl]

/-! SUP_CLEAR (R224). -/

/-- A verdict latched on a blocked drive with a valid port is cleared, and the degraded mode of its class ends. -/
theorem doSupClear_accepted (h : Hdr) (hc : b.configured n = true) (hv : b.on (R.Dn_SUPSTAT_VERD n) = true)
    (hp : b.pstate n = 0) (hi : b.on (R.FBn_STAT_INVAL (b.rd (R.Dn_CMODE_FBSEL n))) = false) : b.doSupClear h n =
      ((((b.verdictCleared n).onDrv n fun d => { d with verdNew := false }).undegrade 3 n).raise 0x7010 n []).ok
        h 0x24 := by
  rw [Blk.doSupClear, forTarget_configured _ _ _ _ hc]
  simp only [hv, hp, hi, ne_eq, not_true_eq_false, Bool.true_eq_false, Bool.false_eq_true, or_self, if_false]
  rfl

theorem doSupClear_refused (h : Hdr) (hc : b.configured n = true) (hv : b.on (R.Dn_SUPSTAT_VERD n) = true)
    (hp : b.pstate n ≠ 0) : b.doSupClear h n = b.refuse h 0x24 0x0001 := by
  rw [Blk.doSupClear, forTarget_configured _ _ _ _ hc, if_neg (by simp [hv]), if_pos (.inl hp)]

theorem doSupClear_clears (h : Hdr) (hc : b.configured n = true) (hv : b.on (R.Dn_SUPSTAT_VERD n) = true)
    (hp : b.pstate n = 0) (hi : b.on (R.FBn_STAT_INVAL (b.rd (R.Dn_CMODE_FBSEL n))) = false) :
    Decided (b.doSupClear h n) h 0x24 0 0 ∧ (b.doSupClear h n).on (R.Dn_SUPSTAT_VERD n) = false ∧
    (b.doSupClear h n).on (R.Dn_SUPSTAT_FALL n) = false ∧ (b.doSupClear h n).rd (R.Dn_SUPSTAT_CAUSE n) = 0 ∧
    Reported (b.doSupClear h n) 0x7010 n := by
  obtain ⟨hverd, hfall, hcause⟩ := verdictCleared_shows b n
  rw [doSupClear_accepted h hc hv hp hi]
  refine ⟨ok_decided _ _ _, ?verd, ?fall, ?cause, reported_complete (Blk.raise_self _ _ _ _) _ _ _ _⟩
  case verd => exact (Blk.raise_on _ _ _ _ (R.Dn_SUPSTAT_VERD n) (supstat_apart n _ rfl).2).trans hverd
  case fall => exact (Blk.raise_on _ _ _ _ (R.Dn_SUPSTAT_FALL n) (supstat_apart n _ rfl).2).trans hfall
  case cause => exact (Blk.raise_rd _ _ _ _ (R.Dn_SUPSTAT_CAUSE n) (supstat_apart n _ rfl).2).trans hcause

/-! SLL_TXDATA (R359). -/

/-- Bytes within the payload of a session that transmits, without a status byte, are taken. -/
theorem doTxData_taken (h : Hdr) (run : Bool) {ofs cnt : Nat} (data : List Byte) (hk : k ≠ 0)
    (he : b.on (R.SLL_SESs_CFG_EN k) = true) (hd : b.on (R.SLL_SESs_CFG_DIR k) = true) (h0 : cnt ≠ 0)
    (h48 : cnt ≤ 48) (hl : ofs + cnt ≤ b.rd (R.SLL_SESs_CFG_LEN k)) (hs : b.on (R.SLL_SESs_CFG_STATUS k) = false) :
    b.doTxData h k run ofs cnt data = (b.onSll fun x =>
      { x with data := x.data.set k (splice (x.data.getD k []) ofs (data.take cnt)), run := x.run.set k run }).ok
        h 0x30 := by
  simp [Blk.doTxData, hk, he, hd, h0, hs, Nat.not_lt.mpr h48, Nat.not_lt.mpr hl]

/-! Injections and captures (R228, R229, R231, R233). -/

theorem doInjStart_refused (h : Hdr) {st d : Nat} (hr : b.injRefusal k = some (st, d)) :
    b.doInjStart h k = b.complete h 0x20 st d := by
  simp only [Blk.doInjStart, hr]

/-- R415: an accepted injection runs from its beginning, and its command waits for the first run. -/
theorem doInjStart_accepted (h : Hdr) (hr : b.injRefusal k = none) :
    (b.doInjStart h k).rd (R.LE_CAPSTAT_INJ k) = 1 ∧ (b.doInjStart h k).host = b.host ∧
      ∀ x, (b.doInjStart h k).tuns[k]? = some x → x.j = 0 ∧ x.hdr = some h := by
  simp only [Blk.doInjStart, hr]
  refine ⟨by rw [Blk.onTun_rd, inj_written b k (by decide)],
    by rw [Blk.onTun_host, Blk.wr_host], fun x hx => ?_⟩
  obtain ⟨y, -, rfl⟩ := getElem?_modify_self hx
  exact ⟨rfl, rfl⟩

theorem doInjStop_aborts (h : Hdr) (hi : b.rd (R.LE_CAPSTAT_INJ k) = 1) : Decided (b.doInjStop h k) h 0x21 0 0 ∧
    (b.doInjStop h k).rd (R.LE_CAPSTAT_INJ k) = 3 ∧ Reported (b.doInjStop h k) 0x7116 k := by
  obtain ⟨hstate, hrep⟩ := abortInjOn_aborts 1 hi
  exact ⟨ok_decided _ _ _, hstate, reported_complete hrep _ _ _ _⟩

/-- The registers of pair k as a capture starts in state v: nothing stored, nothing dropped. -/
def Blk.captureEmptied (b : Blk) (k v : Nat) : Blk :=
  ((b.wr (R.LE_CAPSTAT_CAP k) v).wr (R.LE_CAPSTAT_FILL k) 0).wr (R.LE_CAPSTAT_DROP k) 0

theorem captureEmptied_shows (b : Blk) (k : Nat) {v : Nat} (hv : v < 4) :
    (b.captureEmptied k v).rd (R.LE_CAPSTAT_CAP k) = v ∧ (b.captureEmptied k v).rd (R.LE_CAPSTAT_FILL k) = 0 := by
  obtain ⟨hfill, -, -, hdrop, hfc, -, hdc, hdf⟩ := capstat_layout k
  constructor
  · calc (b.captureEmptied k v).rd (R.LE_CAPSTAT_CAP k)
        = ((b.wr (R.LE_CAPSTAT_CAP k) v).wr (R.LE_CAPSTAT_FILL k) 0).rd (R.LE_CAPSTAT_CAP k) :=
          Blk.rd_wr_apart _ _ _ 0 hdrop hdc
      _ = (b.wr (R.LE_CAPSTAT_CAP k) v).rd (R.LE_CAPSTAT_CAP k) := Blk.rd_wr_apart _ _ _ 0 hfill hfc
      _ = v := cap_written b k hv
  · exact (Blk.rd_wr_apart _ _ _ 0 hdrop hdf).trans ((Blk.rd_wr_self _ _ 0 hfill).trans (Nat.zero_mod _))

/-- A capture that no check refuses starts empty, counting at once with TRIG = 0 and armed else. -/
theorem doCapStart_accepted (h : Hdr) (hp : b.provisioned k = true) (hz : b.rd (R.LE_CAPSTAT_CAP k) = 0)
    (ht : b.rd (R.LE_CAPCFG_TRIG k) ≠ 3) : ∃ fn, b.doCapStart h k =
      ((b.captureEmptied k (if b.rd (R.LE_CAPCFG_TRIG k) = 0 then 2 else 1)).onTun k fun t =>
        { t with buf := [], taken := 0, fn0 := fn, prev := none, cross := false, gap := false, moved := false,
                 final := false, seq := 0 }).ok h 0x22 := by
  rw [Blk.doCapStart, if_neg (by simp [hp]), if_neg (by simp [hz]), if_neg ht]
  exact ⟨_, rfl⟩

theorem doCapStart_starts (h : Hdr) (hp : b.provisioned k = true) (hz : b.rd (R.LE_CAPSTAT_CAP k) = 0)
    (ht : b.rd (R.LE_CAPCFG_TRIG k) ≠ 3) : Decided (b.doCapStart h k) h 0x22 0 0 ∧
      (b.doCapStart h k).rd (R.LE_CAPSTAT_CAP k) = (if b.rd (R.LE_CAPCFG_TRIG k) = 0 then 2 else 1) ∧
      (b.doCapStart h k).rd (R.LE_CAPSTAT_FILL k) = 0 ∧
      ∀ x, (b.doCapStart h k).tuns[k]? = some x → x.buf = [] ∧ x.taken = 0 := by
  obtain ⟨hcap, hfill⟩ := captureEmptied_shows b k
    (v := if b.rd (R.LE_CAPCFG_TRIG k) = 0 then 2 else 1) (by split_ifs <;> decide)
  obtain ⟨fn, heq⟩ := doCapStart_accepted h hp hz ht
  rw [heq]
  refine ⟨ok_decided _ _ _, by rw [ok_rd, Blk.onTun_rd, hcap], by rw [ok_rd, Blk.onTun_rd, hfill], fun x hx => ?_⟩
  obtain ⟨y, -, rfl⟩ := getElem?_modify_self hx
  exact ⟨rfl, rfl⟩

/-- R233: a capture that is armed or runs ends, and its last record is due. -/
theorem doCapStop_ends (h : Hdr) (hs : b.rd (R.LE_CAPSTAT_CAP k) = 1 ∨ b.rd (R.LE_CAPSTAT_CAP k) = 2) :
    Decided (b.doCapStop h k) h 0x23 0 0 ∧ (b.doCapStop h k).rd (R.LE_CAPSTAT_CAP k) = 3 ∧
      ∀ x, (b.doCapStop h k).tuns[k]? = some x → x.final = true := by
  simp only [Blk.doCapStop, if_pos hs]
  refine ⟨ok_decided _ _ _, by rw [ok_rd, Blk.onTun_rd, cap_written b k (by decide)], fun x hx => ?_⟩
  obtain ⟨y, -, rfl⟩ := getElem?_modify_self hx
  rfl

end

/-- Settles O16, command by command. -/
theorem serviceCommands : Obligations.ServiceCommands := by
  unfold Obligations.ServiceCommands
  refine ⟨?pulse, ?hold, ?brkRefused, ?supClear, ?supRefused, ?txData, ?injStart, ?injRefused, ?injStop, ?capStart,
    ?capStop⟩
  case pulse => exact fun s h n hf hc hm ht hp hl hb => yields_within rfl hf (doBrkClear_activates h hc hm ht hp hl hb)
  case hold => exact fun s h n hf hc hm ht hp hl hk => yields_within rfl hf (doBrkClear_rests h hc hm ht hp hl hk)
  case brkRefused =>
    intro s h n hf hc hm ht hp
    refine yields_within rfl hf ?_
    dsimp only
    rw [doBrkClear_refused h hc hm ht hp]
    exact ⟨refuse_decided _ _ _ _, rfl⟩
  case supClear => exact fun s h n hf hc hv hp hi => yields_within rfl hf (doSupClear_clears h hc hv hp hi)
  case supRefused =>
    intro s h n hf hc hv hp
    refine yields_within rfl hf ?_
    dsimp only
    rw [doSupClear_refused h hc hv hp]
    exact ⟨refuse_decided _ _ _ _, rfl⟩
  case txData =>
    intro s h k run ofs cnt data hf hk he hd h0 h48 hl hs
    refine yields_within rfl hf ?_
    dsimp only
    rw [doTxData_taken h run data hk he hd h0 h48 hl hs]
    exact ⟨ok_decided _ _ _, rfl, rfl⟩
  case injStart => exact fun s h k hf hr => yields_within rfl hf (doInjStart_accepted h hr)
  case injRefused =>
    intro s h k st d hf hr
    refine yields_within rfl hf ?_
    dsimp only
    rw [doInjStart_refused h hr]
    exact ⟨Blk.complete_decided _ _ _ _ _, rfl⟩
  case injStop => exact fun s h k hf hi => yields_within rfl hf (doInjStop_aborts h hi)
  case capStart => exact fun s h k hf hp hz ht => yields_within rfl hf (doCapStart_starts h hp hz ht)
  case capStop => exact fun s h k hf hs => yields_within rfl hf (doCapStop_ends h hs)

end Sys2Proof.Machine
end

section
/-! PROOFS. Supervision and tuning between host commands (R217, R218, R220, R229, R231, R233). -/

namespace Sys2Proof.Machine

section
variable {b : Blk} {n k : Nat}

/-- A verdict that is due is latched with its cause, by the suspicion counter at PERSIST or by the port. -/
theorem doVerdict_counted (hc : b.configured n = true) (hs : b.on (R.Dn_CMODE_SENS n) = true)
    (hv : b.on (R.Dn_SUPSTAT_VERD n) = false) (he : b.on (R.Dn_SUPCFG_EN n) = true)
    (h0 : 0 < b.rd (R.Dn_SUPCFG_PERSIST n)) (hp : b.rd (R.Dn_SUPCFG_PERSIST n) ≤ b.rd (R.Dn_SUPSTAT_CNT n)) :
    b.doVerdict n = (b.latchVerdict n (if (b.drv n).lastExc then 1 else 2)).onDrv n
      fun d => { d with verdNew := true } := by
  simp [Blk.doVerdict, hc, hs, hv, he, h0, hp]

theorem doVerdict_invalidPort (hc : b.configured n = true) (hs : b.on (R.Dn_CMODE_SENS n) = true)
    (hv : b.on (R.Dn_SUPSTAT_VERD n) = false) (he : b.on (R.Dn_SUPCFG_EN n) = false)
    (hi : b.on (R.FBn_STAT_INVAL (b.rd (R.Dn_CMODE_FBSEL n))) = true) :
    b.doVerdict n = (b.latchVerdict n 3).onDrv n fun d => { d with verdNew := true } := by
  simp [Blk.doVerdict, hc, hs, hv, he, hi]

/-- R218: a verdict shows with its cause, is counted, and waits for the tick. -/
theorem doVerdict_shows {cause : Nat} (hc : cause < 8)
    (hd : b.doVerdict n = (b.latchVerdict n cause).onDrv n fun d => { d with verdNew := true }) :
    (b.doVerdict n).on (R.Dn_SUPSTAT_VERD n) = true ∧ (b.doVerdict n).rd (R.Dn_SUPSTAT_CAUSE n) = cause ∧
    (b.doVerdict n).rd (R.Dn_SUPCNT_VERDS n) = min (b.rd (R.Dn_SUPCNT_VERDS n) + 1) (R.Dn_SUPCNT_VERDS n).top ∧
    ∀ x, (b.doVerdict n).drvs[n]? = some x → x.verdNew = true := by
  obtain ⟨hverd, hwhy, hcount⟩ := latchVerdict_shows b n hc
  rw [hd, Blk.onDrv_on, Blk.onDrv_rd, Blk.onDrv_rd]
  refine ⟨hverd, hwhy, hcount, fun x hx => ?_⟩
  obtain ⟨y, -, rfl⟩ := getElem?_modify_self hx
  rfl

/-- R220: residuals count again once the settling time is over. -/
theorem doSettleEnd_resumes (h0 : (b.drv n).settle = 0) : (b.doSettleEnd n).on (R.Dn_SUPSTAT_SUSP n) = false ∧
    SameBut b (b.doSettleEnd n) fun a => a = (R.Dn_SUPSTAT_SUSP n).off := by
  rw [Blk.doSettleEnd, if_pos h0]
  exact ⟨Blk.on_flag_self b _ false (by simp [Fld.inWord, R.Dn_SUPSTAT_SUSP]) rfl,
    same_flag (same_refl b _) _ _ rfl⟩

/-- R229: an injection that has made its runs stops with the value 0 and event 0x7015. -/
theorem doInjComplete_completes (hi : b.rd (R.LE_CAPSTAT_INJ k) = 1) (hj : b.injRuns k ≤ (b.tun k).j) :
    (b.doInjComplete k).rd (R.LE_CAPSTAT_INJ k) = 2 ∧ Reported (b.doInjComplete k) 0x7015 k ∧
      ∀ x, (b.doInjComplete k).tuns[k]? = some x → x.v = 0 := by
  rw [Blk.doInjComplete, if_pos ⟨hi, hj⟩]
  obtain ⟨hinj, hval⟩ := capWithInj_leaves
    (((b.wr (R.LE_CAPSTAT_INJ k) 2).onTun k fun t => { t with v := 0 }).raise 0x7015 k []) k
  refine ⟨?state, reported_capWithInj (Blk.raise_self _ _ _ _) k, fun x hx => ?value⟩
  case state => rw [hinj, Blk.raise_rd _ _ _ _ _ (capstat_not_drop k).1, Blk.onTun_rd, inj_written b k (by decide)]
  case value =>
    obtain ⟨y, hy, hxy⟩ := hval x hx
    rw [Blk.raise_tuns] at hy
    obtain ⟨z, -, rfl⟩ := getElem?_modify_self hy
    exact hxy.symm

/-- R231: the level is crossed and the capture runs. -/
theorem doCapLevel_triggers (hs : b.rd (R.LE_CAPSTAT_CAP k) = 1) (hx : (b.tun k).cross = true) :
    (b.doCapLevel k).rd (R.LE_CAPSTAT_CAP k) = 2 ∧
    SameBut b (b.doCapLevel k) fun a => a = (R.LE_CAPSTAT_CAP k).off := by
  rw [Blk.doCapLevel, if_pos ⟨hs, hx⟩]
  exact ⟨cap_written b k (by decide), same_wr (same_refl b _) _ _ rfl⟩

/-- R233: the last record is written and the capture is idle, with event 0x7017. -/
theorem doCapEnd_ends (hs : b.rd (R.LE_CAPSTAT_CAP k) = 3) (hf : (b.tun k).final = false) (hb : (b.tun k).buf = []) :
    (b.doCapEnd k).rd (R.LE_CAPSTAT_CAP k) = 0 ∧ Reported (b.doCapEnd k) 0x7017 k := by
  simp only [Blk.doCapEnd, if_pos (And.intro hs (And.intro hf hb))]
  refine ⟨?_, Blk.raise_self _ _ _ _⟩
  rw [Blk.raise_rd _ _ _ _ _ (capstat_not_drop k).2, cap_written b k (by decide)]

end

/-- Settles O21: the two ways to a verdict, the end of the settling time, and the ends of injections and captures. -/
theorem supervisionAndTuning : Obligations.SupervisionAndTuning := by
  unfold Obligations.SupervisionAndTuning
  refine ⟨?counted, ?invalid, ?settled, ?injected, ?triggered, ?captured⟩
  case counted =>
    intro s n hf hc hs hv he h0 hp
    have hcause : (if (s.blk.drv n).lastExc then 1 else 2) < 8 := by split_ifs <;> decide
    exact yields_within rfl hf (doVerdict_shows hcause (doVerdict_counted hc hs hv he h0 hp))
  case invalid =>
    intro s n hf hc hs hv he hi
    obtain ⟨hverd, hwhy, -⟩ := doVerdict_shows (by decide) (doVerdict_invalidPort hc hs hv he hi)
    exact yields_within rfl hf ⟨hverd, hwhy⟩
  case settled => exact fun s n hf h0 => yields_within rfl hf (doSettleEnd_resumes h0)
  case injected => exact fun s k hf hi hj => yields_within rfl hf (doInjComplete_completes hi hj)
  case triggered => exact fun s k hf hs hx => yields_within rfl hf (doCapLevel_triggers hs hx)
  case captured => exact fun s k hf hs hl hb => yields_within rfl hf (doCapEnd_ends hs hl hb)

end Sys2Proof.Machine
end

section
/-! SUPPORT. What the words and the record of a stepper and of an axis show after each of their updates (R244, R248,
R252, R254). -/

namespace Sys2Proof.Machine

section
variable {b : Blk} {n a : Nat}

/-! Units of the block: the entry at a place and the unit read there are one. -/

theorem axis_of_getElem? {y : Axis} (h : b.axes[a]? = some y) : b.axis a = y := by
  simp [Blk.axis, h]

theorem stp_of_getElem? {x : Stepper} (h : b.stps[n]? = some x) : b.stp n = x := by
  simp [Blk.stp, h]

/-- An axis that was changed is what the change made of it. -/
theorem onAxis_entry {f : Axis → Axis} {y : Axis} (h : (b.onAxis a f).axes[a]? = some y) : y = f (b.axis a) := by
  obtain ⟨x, hx, rfl⟩ := getElem?_modify_self h
  rw [axis_of_getElem? hx]

theorem onStp_entry {f : Stepper → Stepper} {x : Stepper} (h : (b.onStp n f).stps[n]? = some x) :
    x = f (b.stp n) := by
  obtain ⟨y, hy, rfl⟩ := getElem?_modify_self h
  rw [stp_of_getElem? hy]

/-- What the change makes true of an axis holds of the axis read afterwards, if it holds where no axis stands. -/
theorem onAxis_axis_holds {P : Axis → Prop} {f : Axis → Axis} (h : P (f (b.axis a))) (h0 : P default) :
    P ((b.onAxis a f).axis a) := by
  cases hy : (b.onAxis a f).axes[a]? with
  | none => rwa [Blk.axis, List.getD_eq_getElem?_getD, hy]
  | some y => rwa [axis_of_getElem? hy, onAxis_entry hy]

/-! Sn_STAT. -/

/-- A field of Sn_STAT beside SSTATE. -/
def StpFlag (n : Nat) (f : Fld) : Prop := f.off = (R.Sn_STAT_W n).off ∧ 3 ≤ f.lo

theorem stpFlags (n : Nat) : StpFlag n (R.Sn_STAT_PUNC n) ∧ StpFlag n (R.Sn_STAT_HOMED n) ∧
    StpFlag n (R.Sn_STAT_STALL n) ∧ StpFlag n (R.Sn_STAT_FLT n) := by
  simp [StpFlag, R.Sn_STAT_W, R.Sn_STAT_PUNC, R.Sn_STAT_HOMED, R.Sn_STAT_STALL, R.Sn_STAT_FLT]

/-- SSTATE and the flags that motion writes stand in their word, PUNC apart from HOMED. -/
theorem stpStat_layout (n : Nat) : (R.Sn_STAT_SSTATE n).inWord ∧ (R.Sn_STAT_PUNC n).inWord ∧
    (R.Sn_STAT_HOMED n).inWord ∧ (R.Sn_STAT_STALL n).inWord ∧ (R.Sn_STAT_FLT n).inWord ∧
    (R.Sn_STAT_PUNC n).apart (R.Sn_STAT_HOMED n) ∧ (R.Sn_STAT_PUNC n).apart (R.Sn_STAT_FLT n) := by
  simp [Fld.inWord, Fld.apart, R.Sn_STAT_SSTATE, R.Sn_STAT_PUNC, R.Sn_STAT_HOMED, R.Sn_STAT_STALL, R.Sn_STAT_FLT]

theorem stpState_written (b : Blk) (n : Nat) {v : Nat} (hv : v < 8) : (b.wr (R.Sn_STAT_SSTATE n) v).stpState n = v := by
  obtain ⟨hin, -⟩ := stpStat_layout n
  exact (Blk.rd_wr_self b _ v hin).trans (Nat.mod_eq_of_lt hv)

theorem wr_stpState_flag (v : Nat) {f : Fld} (hf : StpFlag n f) :
    (b.wr (R.Sn_STAT_SSTATE n) v).rd f = b.rd f := by
  obtain ⟨hin, -⟩ := stpStat_layout n
  exact Blk.rd_wr_apart b _ f v hin (.inl hf.2)

/-- Sn_STAT is no word of an axis, and not the word that counts dropped events. -/
theorem stpStat_apart (hn : n < 8) (a : Nat) : ¬ axisWords a (R.Sn_STAT_W n).off ∧
    (R.Sn_STAT_W n).off ≠ R.HIF_EVDROP_COUNT.off := by
  simp only [axisWords, R.Sn_STAT_W, R.HIF_EVDROP_COUNT]
  omega

theorem raise_stpStat (hn : n < 8) (code src : Nat) (i : List Int) {f : Fld} (hf : f.off = (R.Sn_STAT_W n).off) :
    (b.raise code src i).rd f = b.rd f := Blk.raise_rd b code src i f (hf ▸ (stpStat_apart hn 0).2)

theorem raise_stpState (hn : n < 8) (code src : Nat) (i : List Int) :
    (b.raise code src i).stpState n = b.stpState n := raise_stpStat hn code src i rfl

/-- What changes words of one axis leaves every field of Sn_STAT. -/
theorem axisChange_stpStat {c : Blk} (h : SameBut b c (axisWords a)) (hn : n < 8) {f : Fld}
    (hf : f.off = (R.Sn_STAT_W n).off) : c.rd f = b.rd f := same_rd h f (hf ▸ (stpStat_apart hn a).1)

theorem showAxis_stpStat (hn : n < 8) {f : Fld} (hf : f.off = (R.Sn_STAT_W n).off) :
    (b.showAxis a).rd f = b.rd f := axisChange_stpStat (showAxis_same b a) hn hf

theorem showAxis_stpState (hn : n < 8) : (b.showAxis a).stpState n = b.stpState n := showAxis_stpStat hn rfl

/-- What the end of a stepper's motion by a fault leaves of Sn_STAT: every flag but PUNC. -/
theorem stpFault_flag (hn : n < 8) {f : Fld} (hf : StpFlag n f) (hp : (R.Sn_STAT_PUNC n).apart f) :
    (b.stpFault n).rd f = b.rd f := by
  unfold Blk.stpFault Blk.bridgesOff
  split_ifs
  · rw [abruptStop_stpStat hn f hf.1 hp, Blk.onStp_rd, wr_stpState_flag _ hf, abortInj_stpStat hn _ _ f hf.1]
  · rfl

/-! What showing, suspending and stopping an axis leave. -/

@[simp] theorem Blk.showAxis_axes (b : Blk) (a : Nat) : (b.showAxis a).axes = b.axes := rfl
@[simp] theorem Blk.showAxis_stps (b : Blk) (a : Nat) : (b.showAxis a).stps = b.stps := rfl

@[simp] theorem Blk.suspendMove_stps (b : Blk) (a : Nat) : (b.suspendMove a).stps = b.stps := by
  unfold Blk.suspendMove
  split
  · split_ifs
    · exact Blk.inc_stps _ _
    · rfl
  · split <;> rfl

@[simp] theorem Blk.stopAxis_stps (b : Blk) (a : Nat) : (b.stopAxis a).stps = b.stps := by
  unfold Blk.stopAxis
  dsimp only
  split_ifs
  · rfl
  · rw [Blk.showAxis_stps, Blk.onAxis_stps, Blk.suspendMove_stps, Blk.onAxis_stps]

/-- A stop changes words of its axis alone. -/
theorem stopAxis_same (b : Blk) (a : Nat) : SameBut b (b.stopAxis a) (axisWords a) := by
  have hnoted : ∀ f, SameBut b (b.onAxis a f) (axisWords a) := fun f => same_onAxis (same_refl b _) a f
  unfold Blk.stopAxis
  dsimp only
  split_ifs
  · exact hnoted _
  · exact same_trans (same_onAxis (same_trans (hnoted _) (suspendMove_same _ a)) a _) (showAxis_same _ a)

/-- A suspended move leaves whether a stop took effect at the tick. -/
theorem suspendMove_stopNow {y : Axis} (h : (b.suspendMove a).axes[a]? = some y) :
    ∃ x, b.axes[a]? = some x ∧ y.stopNow = x.stopNow := by
  have hchanged : ∀ {f : Axis → Axis}, (b.onAxis a f).axes[a]? = some y → (∀ x, (f x).stopNow = x.stopNow) →
      ∃ x, b.axes[a]? = some x ∧ y.stopNow = x.stopNow := fun hy hf => by
    obtain ⟨x, hx, rfl⟩ := getElem?_modify_self hy
    exact ⟨x, hx, hf x⟩
  unfold Blk.suspendMove at h
  split at h
  · split_ifs at h
    · rw [Blk.endMove, Blk.inc_axes] at h
      exact hchanged h fun _ => rfl
    · exact hchanged h fun _ => rfl
  · split at h
    · exact hchanged h fun _ => rfl
    · exact ⟨y, h, rfl⟩

/-- R252, R255: a stop is noted on its axis, at standstill too. -/
theorem stopAxis_stopNow {y : Axis} (h : (b.stopAxis a).axes[a]? = some y) : y.stopNow = true := by
  unfold Blk.stopAxis at h
  dsimp only at h
  split_ifs at h
  · rw [onAxis_entry h]
  · obtain ⟨x, hx, rfl⟩ := getElem?_modify_self h
    obtain ⟨z, hz, hxz⟩ := suspendMove_stopNow hx
    exact hxz.trans (by rw [onAxis_entry hz])

/-! MPG_STAT. -/

theorem mpgStat_layout (a : Nat) : (R.MPG_STAT_STATE a).inWord ∧ (R.MPG_STAT_QLEN a).inWord ∧
    (R.MPG_STAT_DONE a).inWord ∧ (R.MPG_STAT_STATE a).apart (R.MPG_STAT_DONE a) ∧
    (R.MPG_STAT_QLEN a).apart (R.MPG_STAT_DONE a) := by
  simp [Fld.inWord, Fld.apart, R.MPG_STAT_STATE, R.MPG_STAT_QLEN, R.MPG_STAT_DONE]

/-- MPG_STAT is no word of a stepper, and not the word that counts dropped events. -/
theorem mpgStat_apart (n a : Nat) : (R.MPG_STAT_W a).off ≠ (R.Sn_STAT_W n).off ∧
    (R.MPG_STAT_W a).off ≠ R.HIF_EVDROP_COUNT.off := by
  simp only [R.MPG_STAT_W, R.Sn_STAT_W, R.HIF_EVDROP_COUNT]
  omega

/-- A word other than MPG_STAT of axis a. -/
def besideMpgStat (a x : Nat) : Prop := x ≠ (R.MPG_STAT_W a).off

/-- Of MPG_STAT the registers that show an axis write STATE and QLEN. -/
theorem showAxis_mpgStat (b : Blk) (a : Nat) (f : Fld) (hf : f.off = (R.MPG_STAT_W a).off) : (b.showAxis a).rd f =
    ((b.wr (R.MPG_STAT_STATE a) ((b.axis a).state (decide (8 ≤ a) && decide ((b.stp (a - 8)).homing = 1)))).wrSat
      (R.MPG_STAT_QLEN a) (b.axis a).queue.length).rd f := by
  have hrest : besideMpgStat a (R.MPG_PREF_PINT a).off ∧ besideMpgStat a (R.MPG_REM_REM a).off ∧
      besideMpgStat a (R.MPG_VREF_V a).off ∧ besideMpgStat a (R.MPG_AREF_A a).off := by
    simp only [besideMpgStat, R.MPG_STAT_W, R.MPG_PREF_PINT, R.MPG_REM_REM, R.MPG_VREF_V, R.MPG_AREF_A]
    omega
  obtain ⟨hpos, hrem, hvel, hacc⟩ := hrest
  exact same_rd (same_wrS (same_wrS (same_wrS (same_wr (same_refl _ _) _ _ hpos) _ _ hrem) _ _ hvel) _ _ hacc) f
    (not_not_intro hf)

theorem showAxis_done : (b.showAxis a).rd (R.MPG_STAT_DONE a) = b.rd (R.MPG_STAT_DONE a) := by
  obtain ⟨hstate, hqlen, -, hsd, hqd⟩ := mpgStat_layout a
  have hqueue : ∀ (c : Blk) v, (c.wrSat (R.MPG_STAT_QLEN a) v).rd (R.MPG_STAT_DONE a) = c.rd (R.MPG_STAT_DONE a) :=
    fun c _ => Blk.rd_wr_apart c _ _ _ hqlen hqd
  rw [showAxis_mpgStat b a (R.MPG_STAT_DONE a) rfl, hqueue, Blk.rd_wr_apart _ _ _ _ hstate hsd]

theorem showAxis_qlen_of_nil (h : (b.axis a).queue = []) : (b.showAxis a).rd (R.MPG_STAT_QLEN a) = 0 := by
  obtain ⟨-, hqlen, -⟩ := mpgStat_layout a
  rw [showAxis_mpgStat b a (R.MPG_STAT_QLEN a) rfl, Blk.wrSat, Blk.rd_wr_self _ _ _ hqlen, h]
  rfl

/-! MOVE of a stepper, and the resumption of a suspended move. -/

/-- R244: the stepper of an axis that starts to move enters MOVE. -/
def Blk.toMove (b : Blk) (a : Nat) : Blk :=
  if a < 8 then b
  else (b.wr (R.Sn_STAT_SSTATE (a - 8)) 2).onStp (a - 8) fun s => { s with zeroFr := 0, fall := none }

theorem toMove_axes (b : Blk) (a : Nat) : (b.toMove a).axes = b.axes := by
  unfold Blk.toMove
  split_ifs <;> rfl

theorem toMove_stpState (ha : 8 ≤ a) : (b.toMove a).stpState (a - 8) = 2 := by
  rw [Blk.toMove, if_neg (Nat.not_lt.mpr ha)]
  exact stpState_written b (a - 8) (by decide)

theorem resumeNow_eq (b : Blk) (a : Nat) (m : Move) : b.resumeNow a m =
    (b.onAxis a fun x => { x with
      susp := none, cur := some (b.planMove a m 0 (b.axis a).queue.head?), stop := false, resume := false }).toMove a :=
  rfl

/-- R254: a move that is resumed runs, and no move is suspended any more. -/
theorem resumeNow_moves (m : Move) : (∀ y, (b.resumeNow a m).axes[a]? = some y → y.susp = none ∧ y.cur.isSome = true) ∧
    (8 ≤ a → (b.resumeNow a m).stpState (a - 8) = 2) := by
  rw [resumeNow_eq]
  refine ⟨fun y hy => ?_, toMove_stpState⟩
  rw [toMove_axes] at hy
  rw [onAxis_entry hy]
  exact ⟨rfl, rfl⟩

theorem resumeLate_resumes {m : Move} (hs : (b.axis a).susp = some m) (hr : (b.axis a).resume = true)
    (hv : (b.axis a).v = 0) (hw : (b.axis a).vRaw = 0) : b.resumeLate a = b.resumeNow a m := by
  simp only [Blk.resumeLate, hs]
  exact if_pos ⟨hr, hv, hw⟩

/-- Without a RESUME that waits nothing is resumed. -/
theorem resumeLate_idle (hr : (b.axis a).resume = false) : b.resumeLate a = b := by
  unfold Blk.resumeLate
  dsimp only
  split
  · exact if_neg (by simp [hr])
  · rfl

end

end Sys2Proof.Machine
end

section
/-! PROOFS. The commands of the steppers and of the axes (R244, R247, R252, R254, R258, R425). -/

namespace Sys2Proof.Machine

section
variable {b : Blk} {n a : Nat}

/-- Channel 8 + n of the sixteen is stepper n. -/
theorem configured_stepper (b : Blk) (n : Nat) : b.configured (8 + n) = b.on (R.Sn_CFG_EN n) := by
  simp [Blk.configured]

/-- A command that a check refuses with event 0x4101 is decided so, and the event is reported. -/
theorem notAccepted_tells (b : Blk) (h : Hdr) (op src d : Nat) (i : List Int) :
    Decided ((b.raise 0x4101 src i).refuse h op d) h op 0x02 d ∧
      Reported ((b.raise 0x4101 src i).refuse h op d) 0x4101 src :=
  ⟨refuse_decided _ _ _ _, reported_complete (Blk.raise_self _ _ _ _) _ _ _ _⟩

/-! ENERGIZE and DEENERGIZE (R244). -/

/-- The event of a channel that leaves FAULT. -/
def Blk.leaveFault (b : Blk) (n : Nat) : Blk := if b.stpState n = 3 then b.raise 0x4002 (8 + n) [] else b

theorem leaveFault_reports (hs : b.stpState n = 3) : Reported (b.leaveFault n) 0x4002 (8 + n) := by
  rw [Blk.leaveFault, if_pos hs]
  exact Blk.raise_self _ _ _ _

theorem doEnergize_accepted (h : Hdr) (hc : b.on (R.Sn_CFG_EN n) = true) (hs : b.stpState n = 0 ∨ b.stpState n = 3)
    (hf : b.on (R.Sn_STAT_FLTIN n) = false) (he : b.on (R.Sn_STAT_HASP_EN n) = true)
    (ho : b.on (R.Sn_STAT_OWN n) = true) : b.doEnergize h n =
      (((b.leaveFault n).wr (R.Sn_STAT_SSTATE n) 1).onStp n fun s =>
        { s with enReq := true, offReq := false, deEn := false, fall := some 16, zeroFr := 0 }).ok h 0x10 := by
  have hoff : ¬ (b.stpState n = 1 ∨ b.stpState n = 2) := by omega
  have hnot4 : b.stpState n ≠ 4 := by omega
  rw [Blk.doEnergize, forTarget_configured _ _ _ _ ((configured_stepper b n).trans hc)]
  simp only [if_neg hoff, hnot4, hf, he, ho, Bool.false_eq_true, Bool.true_eq_false, or_self, if_false]
  rfl

/-- R244: a channel in OFF or FAULT is energised to HOLD; one that leaves FAULT reports it. -/
theorem doEnergize_holds (h : Hdr) (hc : b.on (R.Sn_CFG_EN n) = true) (hs : b.stpState n = 0 ∨ b.stpState n = 3)
    (hf : b.on (R.Sn_STAT_FLTIN n) = false) (he : b.on (R.Sn_STAT_HASP_EN n) = true)
    (ho : b.on (R.Sn_STAT_OWN n) = true) : Decided (b.doEnergize h n) h 0x10 0 0 ∧ (b.doEnergize h n).stpState n = 1 ∧
      (b.stpState n = 3 → Reported (b.doEnergize h n) 0x4002 (8 + n)) ∧
      ∀ x, (b.doEnergize h n).stps[n]? = some x → x.enReq = true := by
  rw [doEnergize_accepted h hc hs hf he ho]
  refine ⟨ok_decided _ _ _, stpState_written (b.leaveFault n) n (by decide), fun h3 => ?report, fun x hx => ?request⟩
  case report =>
    exact reported_complete (reported_onStp (reported_wr_at (leaveFault_reports h3) _ _ rfl) n _) _ _ _ _
  case request => rw [onStp_entry hx]

theorem doEnergize_refused (h : Hdr) (hc : b.on (R.Sn_CFG_EN n) = true) (hs : b.stpState n = 0 ∨ b.stpState n = 3)
    (he : b.on (R.Sn_STAT_HASP_EN n) = false) :
    b.doEnergize h n = (b.raise 0x4101 (8 + n) [1]).refuse h 0x10 0x0001 := by
  have hoff : ¬ (b.stpState n = 1 ∨ b.stpState n = 2) := by omega
  rw [Blk.doEnergize, forTarget_configured _ _ _ _ ((configured_stepper b n).trans hc)]
  exact (if_neg hoff).trans (if_pos (.inr (.inr (.inl he))))

theorem doDeenergize_stops (h : Hdr) (hc : b.on (R.Sn_CFG_EN n) = true) (hs : b.stpState n = 1 ∨ b.stpState n = 2) :
    ∃ f : Stepper → Stepper, (∀ s, (f s).deEn = true ∧ (f s).homing = 0) ∧
      b.doDeenergize h n = ((b.stopAxis (8 + n)).onStp n f).ok h 0x11 := by
  rw [Blk.doDeenergize, forTarget_configured _ _ _ _ ((configured_stepper b n).trans hc)]
  exact ⟨_, fun _ => ⟨rfl, rfl⟩, if_pos hs⟩

/-- R244: a channel in HOLD or MOVE stays there until its axis, stopped, is at standstill. -/
theorem doDeenergize_asks (h : Hdr) (hn : n < 8) (hc : b.on (R.Sn_CFG_EN n) = true)
    (hs : b.stpState n = 1 ∨ b.stpState n = 2) : Decided (b.doDeenergize h n) h 0x11 0 0 ∧
      (b.doDeenergize h n).stpState n = b.stpState n ∧
      ∀ x, (b.doDeenergize h n).stps[n]? = some x → x.deEn = true ∧ x.homing = 0 := by
  obtain ⟨f, hset, heq⟩ := doDeenergize_stops h hc hs
  rw [heq]
  refine ⟨ok_decided _ _ _, axisChange_stpStat (stopAxis_same b (8 + n)) hn rfl, fun x hx => ?_⟩
  rw [onStp_entry hx]
  exact hset _

/-! MOVE (R247, R310, R425). -/

/-- The first check that refuses a move of an accepted form: the stop of R310, then those of R247. -/
def Blk.moveCheck (b : Blk) (a : Nat) (m : Move) : Option Nat := if b.tooHot a then some 1 else b.moveRefusal a m

theorem moveCheck_hot (m : Move) (ht : b.tooHot a = true) : b.moveCheck a m = some 1 := if_pos ht

theorem moveCheck_cool (m : Move) (ht : b.tooHot a = false) : b.moveCheck a m = b.moveRefusal a m :=
  if_neg (by simp [ht])

section
variable {kind : Nat} {blend : Bool} {p v x d : Nat}

theorem doMove_queued (h : Hdr) (hc : b.configured a = true) (hb : b.noHeartbeat = false) (hk : kind ≤ 2)
    (hr : b.moveCheck a (b.queuedMove a kind blend p v x d) = none) : ∃ f : Axis → Axis,
      (∀ y, (f y).queue = y.queue ++ [b.queuedMove a kind blend p v x d]) ∧
      b.doMove h a kind blend p v x d = ((b.onAxis a f).showAxis a).ok h 0x12 := by
  unfold Blk.moveCheck at hr
  simp only [Blk.doMove, hc, hb, hr, Nat.not_lt.mpr hk, Bool.true_eq_false, Bool.false_eq_true, if_false]
  exact ⟨_, fun _ => rfl, rfl⟩

theorem doMove_refused (h : Hdr) {why : Nat} (hc : b.configured a = true) (hb : b.noHeartbeat = false) (hk : kind ≤ 2)
    (hr : b.moveCheck a (b.queuedMove a kind blend p v x d) = some why) :
    b.doMove h a kind blend p v x d = (b.raise 0x4101 a [Int.ofNat why]).refuse h 0x12 why := by
  unfold Blk.moveCheck at hr
  simp only [Blk.doMove, hc, hb, hr, Nat.not_lt.mpr hk, Bool.true_eq_false, Bool.false_eq_true, if_false]

/-- R247: a move that no check refuses stands last in its axis' queue. -/
theorem doMove_appends (h : Hdr) (hc : b.configured a = true) (hb : b.noHeartbeat = false) (hk : kind ≤ 2)
    (hr : b.moveCheck a (b.queuedMove a kind blend p v x d) = none) :
    Decided (b.doMove h a kind blend p v x d) h 0x12 0 0 ∧
      ∀ y, (b.doMove h a kind blend p v x d).axes[a]? = some y →
        y.queue = (b.axis a).queue ++ [b.queuedMove a kind blend p v x d] := by
  obtain ⟨f, hset, heq⟩ := doMove_queued h hc hb hk hr
  rw [heq]
  refine ⟨ok_decided _ _ _, fun y hy => ?_⟩
  rw [onAxis_entry hy]
  exact hset _

/-- R247: a move that a check refuses leaves every axis. -/
theorem doMove_tells (h : Hdr) {why : Nat} (hc : b.configured a = true) (hb : b.noHeartbeat = false) (hk : kind ≤ 2)
    (hr : b.moveCheck a (b.queuedMove a kind blend p v x d) = some why) :
    Decided (b.doMove h a kind blend p v x d) h 0x12 0x02 why ∧
      Reported (b.doMove h a kind blend p v x d) 0x4101 a ∧ (b.doMove h a kind blend p v x d).axes = b.axes := by
  rw [doMove_refused h hc hb hk hr]
  obtain ⟨hdec, hrep⟩ := notAccepted_tells b h 0x12 a why [Int.ofNat why]
  exact ⟨hdec, hrep, Blk.raise_axes _ _ _ _⟩

end

/-! AXIS_STOP (R252), RESUME and MOVE_FLUSH (R254). -/

/-- A stop of a configured axis is noted for the tick. -/
theorem doAxisStop_notes (h : Hdr) (hc : b.configured a = true) : Decided (b.doAxisStop h a) h 0x13 0 0 ∧
    ∀ y, (b.doAxisStop h a).axes[a]? = some y → y.stopNow = true := by
  rw [Blk.doAxisStop, forTarget_configured _ _ _ _ hc]
  exact ⟨ok_decided _ _ _, fun y hy => stopAxis_stopNow hy⟩

theorem doResume_accepted (h : Hdr) {m : Move} (hc : b.configured a = true) (hn : (b.axis a).stopNow = false)
    (ht : b.tooHot a = false) (hd : a < 8 → b.pstate a = 1) (hs : 8 ≤ a → b.stpState (a - 8) = 1)
    (hm : (b.axis a).susp = some m) :
    b.doResume h a = ((b.onAxis a fun x => { x with resume := true }).showAxis a).ok h 0x14 := by
  have hready : (if a < 8 then b.pstate a == 1 else b.stpState (a - 8) == 1) = true := by
    split_ifs with ha
    · simp [hd ha]
    · simp [hs (Nat.not_lt.mp ha)]
  rw [Blk.doResume, forTarget_configured _ _ _ _ hc]
  simp only [hn, hready, ht, hm, Bool.false_eq_true, Bool.true_eq_false, or_self, if_false]

/-- R254: a suspended move stays suspended until the tick resumes it. -/
theorem doResume_waits (h : Hdr) {m : Move} (hc : b.configured a = true) (hn : (b.axis a).stopNow = false)
    (ht : b.tooHot a = false) (hd : a < 8 → b.pstate a = 1) (hs : 8 ≤ a → b.stpState (a - 8) = 1)
    (hm : (b.axis a).susp = some m) : Decided (b.doResume h a) h 0x14 0 0 ∧
      ∀ y, (b.doResume h a).axes[a]? = some y → y.resume = true ∧ y.susp = some m := by
  rw [doResume_accepted h hc hn ht hd hs hm]
  refine ⟨ok_decided _ _ _, fun y hy => ?_⟩
  rw [onAxis_entry hy]
  exact ⟨rfl, hm⟩

theorem doFlush_eq (h : Hdr) (hc : b.configured a = true) : b.doFlush h a =
    ((b.onAxis a fun x => { x with queue := [], susp := none, resume := false }).showAxis a).ok h 0x15 :=
  forTarget_configured _ _ _ _ hc

/-- R254: the queued and the suspended moves go, and the length shown is 0. -/
theorem doFlush_empties (h : Hdr) (hc : b.configured a = true) : Decided (b.doFlush h a) h 0x15 0 0 ∧
    (∀ y, (b.doFlush h a).axes[a]? = some y → y.queue = [] ∧ y.susp = none) ∧
    (b.doFlush h a).rd (R.MPG_STAT_QLEN a) = 0 := by
  rw [doFlush_eq h hc]
  refine ⟨ok_decided _ _ _, fun y hy => ?axis, ?length⟩
  case axis =>
    rw [onAxis_entry hy]
    exact ⟨rfl, rfl⟩
  case length => exact (ok_rd _ _ _ _).trans (showAxis_qlen_of_nil (onAxis_axis_holds (P := (·.queue = [])) rfl rfl))

/-! HOME (R258). -/

theorem doHome_accepted (h : Hdr) (ha : 8 ≤ a) (hc : b.configured a = true) (hs : b.stpState (a - 8) = 1)
    (hq : (b.axis a).queue = []) (hm : (b.axis a).susp = none) (hu : (b.axis a).cur = none)
    (he : b.on (R.MPG_CFG_EN a) = true) (hd : (b.stp (a - 8)).homeDue = false) (ht : b.tooHot a = false) :
    b.doHome h a = (b.onStp (a - 8) fun s => { s with homeDue := true }).ok h 0x16 := by
  rw [Blk.doHome, forTarget_configured _ _ _ _ hc]
  exact if_neg (by simp [hs, hq, hm, hu, he, hd, ht, Nat.not_lt.mpr ha])

theorem doHome_refused (h : Hdr) (ha : a < 8) (hc : b.configured a = true) :
    b.doHome h a = (b.raise 0x4101 a [1]).refuse h 0x16 0x0001 := by
  rw [Blk.doHome, forTarget_configured _ _ _ _ hc]
  exact if_pos (.inl ha)

/-- R258: a stepper in HOLD with nothing to move homes at the tick. -/
theorem doHome_waits (h : Hdr) (ha : 8 ≤ a) (hc : b.configured a = true) (hs : b.stpState (a - 8) = 1)
    (hq : (b.axis a).queue = []) (hm : (b.axis a).susp = none) (hu : (b.axis a).cur = none)
    (he : b.on (R.MPG_CFG_EN a) = true) (hd : (b.stp (a - 8)).homeDue = false) (ht : b.tooHot a = false) :
    Decided (b.doHome h a) h 0x16 0 0 ∧ ∀ x, (b.doHome h a).stps[a - 8]? = some x → x.homeDue = true := by
  rw [doHome_accepted h ha hc hs hq hm hu he hd ht]
  refine ⟨ok_decided _ _ _, fun x hx => ?_⟩
  rw [onStp_entry hx]

end

/-- Settles O17, command by command. -/
theorem axisCommands : Obligations.AxisCommands := by
  unfold Obligations.AxisCommands
  refine ⟨?energized, ?notEnabled, ?deenergized, ?queued, ?refused, ?stopped, ?hot, ?resumed, ?flushed, ?homed, ?drive⟩
  case energized => exact fun s h n hf hc hs hi he ho => yields_within rfl hf (doEnergize_holds h hc hs hi he ho)
  case notEnabled =>
    intro s h n hf hc hs he
    refine yields_within rfl hf ?_
    dsimp only
    rw [doEnergize_refused h hc hs he]
    obtain ⟨hdec, hrep⟩ := notAccepted_tells s.blk h 0x10 (8 + n.val) 0x0001 [1]
    exact ⟨hdec, raise_stpState n.isLt _ _ _, hrep⟩
  case deenergized => exact fun s h n hf hc hs => yields_within rfl hf (doDeenergize_asks h n.isLt hc hs)
  case queued =>
    intro s h a kind blend p v x d hf hc hb hk ht hr
    exact yields_within rfl hf (doMove_appends h hc hb hk ((moveCheck_cool _ ht).trans hr))
  case refused =>
    intro s h a kind blend p v x d why hf hc hb hk ht hr
    exact yields_within rfl hf (doMove_tells h hc hb hk ((moveCheck_cool _ ht).trans hr))
  case stopped => exact fun s h a hf hc => yields_within rfl hf (doAxisStop_notes h hc)
  case hot =>
    intro s h a kind blend p v x d hf hc hb hk ht
    exact yields_within rfl hf (doMove_tells h hc hb hk (moveCheck_hot _ ht))
  case resumed => exact fun s h a m hf hc hn ht hd hs hm => yields_within rfl hf (doResume_waits h hc hn ht hd hs hm)
  case flushed => exact fun s h a hf hc => yields_within rfl hf (doFlush_empties h hc)
  case homed =>
    intro s h a hf ha hc hs hq hm hu he hd ht
    exact yields_within rfl hf (doHome_waits h ha hc hs hq hm hu he hd ht)
  case drive =>
    intro s h a hf ha hc
    refine yields_within rfl hf ?_
    dsimp only
    rw [doHome_refused h ha hc]
    exact notAccepted_tells s.blk h 0x16 a 0x0001 [1]

end Sys2Proof.Machine
end

section
/-! PROOFS. What a stepper and an axis do between commands (R243, R245, R248, R249, R252, R254, R255, R257, R258,
R259). -/

namespace Sys2Proof.Machine

section
variable {b : Blk} {n a : Nat}

/-! STEPPER_BRIDGE_FAULT (R245). -/

theorem doBridgeFault_accepted (hc : b.on (R.Sn_CFG_EN n) = true) (hf : b.on (R.Sn_CFG_FLTEN n) = true)
    (hp : b.powered .pwm = true) :
    b.doBridgeFault n = ((b.flag (R.Sn_STAT_FLT n) true).raise 0x4304 (8 + n) []).stpFault n := if_pos ⟨hc, hf, hp⟩

/-- R245: a fault of the bridges is latched and reported, and takes an energised channel to FAULT. -/
theorem doBridgeFault_latches (hn : n < 8) (hc : b.on (R.Sn_CFG_EN n) = true) (hf : b.on (R.Sn_CFG_FLTEN n) = true)
    (hp : b.powered .pwm = true) (hs : b.stpState n = 1 ∨ b.stpState n = 2) :
    (b.doBridgeFault n).on (R.Sn_STAT_FLT n) = true ∧ (b.doBridgeFault n).stpState n = 3 ∧
      Reported (b.doBridgeFault n) 0x4304 (8 + n) := by
  obtain ⟨-, -, -, -, hin, -, hpunc⟩ := stpStat_layout n
  obtain ⟨-, -, -, hflt⟩ := stpFlags n
  have hstate : ((b.flag (R.Sn_STAT_FLT n) true).raise 0x4304 (8 + n) []).stpState n = b.stpState n :=
    (raise_stpState hn _ _ _).trans (Blk.rd_wr_apart b _ _ _ hin (.inr hflt.2))
  rw [doBridgeFault_accepted hc hf hp]
  obtain ⟨hfault, -, hkeeps⟩ := stpFault_enters hn (hstate.symm ▸ hs)
  refine ⟨?_, hfault, hkeeps _ _ (Blk.raise_self _ _ _ _)⟩
  rw [Blk.on, stpFault_flag hn hflt hpunc, raise_stpStat hn _ _ _ hflt.1]
  exact Blk.on_flag_self b _ true hin rfl

/-! MOVE_START (R244, R248). -/

theorem doMoveStart_accepted {m : Move} {q : List Move} (hq : (b.axis a).queue = m :: q)
    (he : b.on (R.MPG_CFG_EN a) = true) (hr : b.axisReady a = true) (hs : (b.axis a).susp = none)
    (hc : (b.axis a).cur = none) (hp : (b.axis a).stop = false) (ht : b.tooHot a = false)
    (hd : 8 ≤ a → (b.stp (a - 8)).homeDue = false) : b.doMoveStart a =
      ((b.onAxis a fun x => { x with
        queue := q, cur := some (b.planMove a m (b.axis a).vEnd q.head?), vEnd := 0, held := none }).toMove
          a).showAxis a := by
  simp only [Blk.doMoveStart, hq]
  exact if_pos ⟨he, hr, hs, hc, hp, ht, hd⟩

/-- R248: the first queued move starts with the speed at which the last one ended, and its stepper enters MOVE. -/
theorem doMoveStart_moves (ha : a < 16) {m : Move} {q : List Move} (hq : (b.axis a).queue = m :: q)
    (he : b.on (R.MPG_CFG_EN a) = true) (hr : b.axisReady a = true) (hs : (b.axis a).susp = none)
    (hc : (b.axis a).cur = none) (hp : (b.axis a).stop = false) (ht : b.tooHot a = false)
    (hd : 8 ≤ a → (b.stp (a - 8)).homeDue = false) :
    (∀ x, (b.doMoveStart a).axes[a]? = some x →
      x.queue = q ∧ x.cur = some (b.planMove a m (b.axis a).vEnd q.head?)) ∧
    (8 ≤ a → (b.doMoveStart a).stpState (a - 8) = 2) := by
  rw [doMoveStart_accepted hq he hr hs hc hp ht hd]
  refine ⟨fun x hx => ?plan, fun h8 => ?state⟩
  case plan =>
    rw [Blk.showAxis_axes, toMove_axes] at hx
    rw [onAxis_entry hx]
    exact ⟨rfl, rfl⟩
  case state => exact (showAxis_stpState (by omega)).trans (toMove_stpState h8)

/-! MOVE_COMPLETE (R249, R250, R258). -/

/-- R258: the back-off of a homing has ended; the axis is homed and its position sure. -/
def Blk.homingEnd (b : Blk) (a : Nat) : Blk :=
  if decide (8 ≤ a) && decide ((b.stp (a - 8)).homing = 2) then
    let b := b.onStp (a - 8) (fun s => { s with homing := 0 })
    let b := (b.flag (R.Sn_STAT_PUNC (a - 8)) false).flag (R.Sn_STAT_HOMED (a - 8)) true
    b.raise 0x4001 a [halfUp (((b.stp (a - 8)).stall.getD (0, 0)).1 * 256) 16384]
  else b

/-- R244: a stepper whose axis has nothing more to move goes from MOVE to HOLD. -/
def Blk.restAfter (b : Blk) (a : Nat) : Blk :=
  if 8 ≤ a ∧ (b.axis a).queue = [] ∧ (b.axis a).v = 0 ∧ (b.axis a).vEnd = 0 ∧ b.stpState (a - 8) = 2 then
    b.wr (R.Sn_STAT_SSTATE (a - 8)) 1 else b

theorem doMoveComplete_accepted {p : MovePlan} (hc : (b.axis a).cur = some p) (he : b.moveEnded a p = true) :
    b.doMoveComplete a = (((b.endMove a p).homingEnd a).restAfter a).showAxis a := by
  simp only [Blk.doMoveComplete, hc, he, Bool.true_eq_false, if_false]
  rfl

theorem homingEnd_axes (b : Blk) (a : Nat) : (b.homingEnd a).axes = b.axes := by
  unfold Blk.homingEnd
  split_ifs
  · exact Blk.raise_axes _ _ _ _
  · rfl

theorem restAfter_axes (b : Blk) (a : Nat) : (b.restAfter a).axes = b.axes := by
  unfold Blk.restAfter
  split_ifs <;> rfl

theorem homingEnd_done : (b.homingEnd a).rd (R.MPG_STAT_DONE a) = b.rd (R.MPG_STAT_DONE a) := by
  obtain ⟨hstp, hdrop⟩ := mpgStat_apart (a - 8) a
  unfold Blk.homingEnd
  split_ifs
  · refine (Blk.raise_rd _ _ _ _ (R.MPG_STAT_DONE a) hdrop).trans ?_
    refine (Blk.rd_wr_off _ (R.Sn_STAT_HOMED (a - 8)) (R.MPG_STAT_DONE a) _ hstp).trans ?_
    exact Blk.rd_wr_off _ (R.Sn_STAT_PUNC (a - 8)) (R.MPG_STAT_DONE a) _ hstp
  · rfl

theorem restAfter_done : (b.restAfter a).rd (R.MPG_STAT_DONE a) = b.rd (R.MPG_STAT_DONE a) := by
  unfold Blk.restAfter
  split_ifs
  · exact Blk.rd_wr_off b _ (R.MPG_STAT_DONE a) _ (mpgStat_apart (a - 8) a).1
  · rfl

theorem restAfter_flag {f : Fld} (hf : StpFlag (a - 8) f) : (b.restAfter a).rd f = b.rd f := by
  unfold Blk.restAfter
  split_ifs
  · exact wr_stpState_flag 1 hf
  · rfl

theorem reported_restAfter {c s : Nat} (h : Reported b c s) : Reported (b.restAfter a) c s := by
  unfold Blk.restAfter
  split_ifs
  · exact reported_wr_at h _ _ rfl
  · exact h

theorem homingEnd_homed (h8 : 8 ≤ a) (ha : a < 16) (hh : (b.stp (a - 8)).homing = 2) :
    (b.homingEnd a).on (R.Sn_STAT_HOMED (a - 8)) = true ∧ (b.homingEnd a).on (R.Sn_STAT_PUNC (a - 8)) = false ∧
      Reported (b.homingEnd a) 0x4001 a := by
  obtain ⟨-, hpunc, hhomed, -, -, hapart, -⟩ := stpStat_layout (a - 8)
  obtain ⟨hpflag, hhflag, -⟩ := stpFlags (a - 8)
  have hn : a - 8 < 8 := by omega
  rw [Blk.homingEnd, if_pos (by simp [h8, hh])]
  refine ⟨?homed, ?sure, Blk.raise_self _ _ _ _⟩
  case homed =>
    rw [Blk.on, raise_stpStat hn _ _ _ hhflag.1]
    exact Blk.on_flag_self _ _ true hhomed rfl
  case sure =>
    rw [Blk.on, raise_stpStat hn _ _ _ hpflag.1]
    exact (Blk.on_wr_apart _ _ _ _ hhomed hapart.symm).trans (Blk.on_flag_self _ _ false hpunc rfl)

theorem endMove_stps (b : Blk) (a : Nat) (p : MovePlan) : (b.endMove a p).stps = b.stps := Blk.inc_stps _ _

theorem endMove_done (p : MovePlan) : (b.endMove a p).rd (R.MPG_STAT_DONE a) =
    min (b.rd (R.MPG_STAT_DONE a) + 1) (R.MPG_STAT_DONE a).top := by
  obtain ⟨-, -, hin, -⟩ := mpgStat_layout a
  exact Blk.rd_inc_self _ _ hin

theorem endMove_entry {p : MovePlan} {x : Axis} (h : (b.endMove a p).axes[a]? = some x) :
    x.cur = none ∧ x.vEnd = p.endV := by
  rw [Blk.endMove, Blk.inc_axes] at h
  rw [onAxis_entry h]
  exact ⟨rfl, rfl⟩

/-- R249, R258: a move that has ended is counted and its speed kept; the back-off of a homing ends the homing. -/
theorem doMoveComplete_ends (ha : a < 16) {p : MovePlan} (hc : (b.axis a).cur = some p)
    (he : b.moveEnded a p = true) :
    (∀ x, (b.doMoveComplete a).axes[a]? = some x → x.cur = none ∧ x.vEnd = p.endV) ∧
    (b.doMoveComplete a).rd (R.MPG_STAT_DONE a) = min (b.rd (R.MPG_STAT_DONE a) + 1) (R.MPG_STAT_DONE a).top ∧
    (8 ≤ a → (b.stp (a - 8)).homing = 2 → (b.doMoveComplete a).on (R.Sn_STAT_HOMED (a - 8)) = true ∧
      (b.doMoveComplete a).on (R.Sn_STAT_PUNC (a - 8)) = false ∧ Reported (b.doMoveComplete a) 0x4001 a) := by
  rw [doMoveComplete_accepted hc he]
  refine ⟨fun x hx => ?axis, ?count, fun h8 hh => ?homed⟩
  case axis =>
    rw [Blk.showAxis_axes, restAfter_axes, homingEnd_axes] at hx
    exact endMove_entry hx
  case count => rw [showAxis_done, restAfter_done, homingEnd_done, endMove_done]
  case homed =>
    obtain ⟨hpflag, hhflag, -⟩ := stpFlags (a - 8)
    have hn : a - 8 < 8 := by omega
    have hback : ((b.endMove a p).stp (a - 8)).homing = 2 := by rwa [Blk.stp, endMove_stps]
    have hshown : ∀ {f}, StpFlag (a - 8) f → ((((b.endMove a p).homingEnd a).restAfter a).showAxis a).on f =
        ((b.endMove a p).homingEnd a).on f := fun hf =>
      congrArg (· != 0) ((showAxis_stpStat hn hf.1).trans (restAfter_flag hf))
    obtain ⟨hhomed, hsure, hrep⟩ := homingEnd_homed h8 ha hback
    exact ⟨(hshown hhflag).trans hhomed, (hshown hpflag).trans hsure,
      reported_showAxis (reported_restAfter hrep) a⟩

/-! AXIS_STANDSTILL (R244, R252). -/

/-- The stepper of an axis at standstill: HOLD where nothing is queued, and a DEENERGIZE is due. -/
def Blk.stpAtRest (b : Blk) (a : Nat) : Blk :=
  if 8 ≤ a then
    let b := if b.stpState (a - 8) = 2 ∧ ((b.axis a).queue = [] ∨ (b.axis a).susp.isSome) then
      b.wr (R.Sn_STAT_SSTATE (a - 8)) 1 else b
    if (b.stp (a - 8)).deEn then b.onStp (a - 8) (fun s => { s with offReq := true }) else b
  else b

theorem stpAtRest_axes (b : Blk) (a : Nat) : (b.stpAtRest a).axes = b.axes := by
  unfold Blk.stpAtRest
  dsimp only
  split_ifs <;> rfl

theorem stpAtRest_holds (h8 : 8 ≤ a) (hs : b.stpState (a - 8) = 2) (hq : (b.axis a).queue = []) :
    (b.stpAtRest a).stpState (a - 8) = 1 := by
  have hheld : (b.wr (R.Sn_STAT_SSTATE (a - 8)) 1).stpState (a - 8) = 1 := stpState_written b _ (by decide)
  have hrest : b.stpState (a - 8) = 2 ∧ ((b.axis a).queue = [] ∨ (b.axis a).susp.isSome) := ⟨hs, .inl hq⟩
  simp only [Blk.stpAtRest, if_pos h8, if_pos hrest]
  split_ifs <;> exact hheld

theorem doStandstill_rests (hv : (b.axis a).v = 0) (hw : (b.axis a).vRaw = 0) (he : (b.axis a).vEnd = 0)
    (hc : (b.axis a).cur = none) (hr : (b.axis a).resume = false) :
    b.doStandstill a = ((b.onAxis a fun x => { x with stop := false }).stpAtRest a).showAxis a := by
  simp only [Blk.doStandstill, if_pos (And.intro hv (And.intro hw (And.intro he hc))), resumeLate_idle hr]
  rfl

/-- R252: a stop has ended, and the stepper of an axis with nothing queued goes to HOLD. -/
theorem doStandstill_holds (ha : a < 16) (hv : (b.axis a).v = 0) (hw : (b.axis a).vRaw = 0) (he : (b.axis a).vEnd = 0)
    (hc : (b.axis a).cur = none) (hr : (b.axis a).resume = false) :
    (∀ x, (b.doStandstill a).axes[a]? = some x → x.stop = false) ∧
    (8 ≤ a → b.stpState (a - 8) = 2 → (b.axis a).queue = [] → (b.doStandstill a).stpState (a - 8) = 1) := by
  rw [doStandstill_rests hv hw he hc hr]
  refine ⟨fun x hx => ?stop, fun h8 hs hq => ?state⟩
  case stop =>
    rw [Blk.showAxis_axes, stpAtRest_axes] at hx
    rw [onAxis_entry hx]
  case state =>
    have hempty : ((b.onAxis a fun x => { x with stop := false }).axis a).queue = [] :=
      onAxis_axis_holds (P := (·.queue = [])) hq rfl
    exact (showAxis_stpState (by omega)).trans (stpAtRest_holds h8 hs hempty)

/-! HOLD_CURRENT_FALL (R243) and STALL_DETECTED (R257). -/

/-- R243: the fall of the current begins once the axis stood for HOLDT frames. -/
theorem doHoldFall_begins (h0 : 0 < b.rd (R.Sn_TIM_HOLDT n)) (hz : b.rd (R.Sn_TIM_HOLDT n) ≤ (b.stp n).zeroFr)
    (hf : (b.stp n).fall = none) : (b.doHoldFall n).regs = b.regs ∧
      (b.doHoldFall n).stps[n]? = b.stps[n]?.map fun x => { x with fall := some 0 } := by
  have heq : b.doHoldFall n = b.onStp n fun s => { s with fall := some 0 } := if_pos ⟨h0, hz, hf⟩
  rw [heq]
  exact ⟨rfl, by simp⟩

theorem doStall_accepted (hs : b.stpState n = 2)
    (hh : (b.stp n).homing = 1 → b.rd (R.Sn_STALL_STALLN n) ≤ (b.stp n).homeFr)
    (hv : b.rd (R.Sn_STALL_STVMIN n) * 2 ^ 24 ≤ magI (b.axis (8 + n)).v) (h0 : 0 < b.rd (R.Sn_STALL_STALLN n))
    (hn : b.rd (R.Sn_STALL_STALLN n) ≤ (b.stp n).stallN) : b.doStall n =
      (b.flag (R.Sn_STAT_STALL n) true).onStp n fun s =>
        { s with stall := some (b.rdS (R.Sn_LOAD_DELTA n), sgn (b.axis (8 + n)).v)
                 stallDue := s.homing == 1 || b.on (R.Sn_CFG_STALLEN n) } :=
  if_pos ⟨hs, hh, h0, hn, hv⟩

/-- R257: a stall is shown and its load angle noted; it acts during homing or with STALLEN. -/
theorem doStall_declares (hs : b.stpState n = 2)
    (hh : (b.stp n).homing = 1 → b.rd (R.Sn_STALL_STALLN n) ≤ (b.stp n).homeFr)
    (hv : b.rd (R.Sn_STALL_STVMIN n) * 2 ^ 24 ≤ magI (b.axis (8 + n)).v) (h0 : 0 < b.rd (R.Sn_STALL_STALLN n))
    (hn : b.rd (R.Sn_STALL_STALLN n) ≤ (b.stp n).stallN) : (b.doStall n).on (R.Sn_STAT_STALL n) = true ∧
      ∀ x, (b.doStall n).stps[n]? = some x →
        x.stallDue = ((b.stp n).homing == 1 || b.on (R.Sn_CFG_STALLEN n)) ∧ x.stall.isSome = true := by
  obtain ⟨-, -, -, hin, -⟩ := stpStat_layout n
  rw [doStall_accepted hs hh hv h0 hn, Blk.onStp_on]
  refine ⟨Blk.on_flag_self b _ true hin rfl, fun x hx => ?_⟩
  rw [onStp_entry hx, Blk.stp, Blk.flag_stps]
  exact ⟨rfl, rfl⟩

/-! HOMING_FAILED (R259), and the homing that a tick starts (R258). -/

theorem doHomingFailed_accepted (hh : (b.stp n).homing = 1)
    (hd : b.rd (R.Sn_HOMEX_HOMEMAX n) * 2 ^ 32 ≤ (b.stp n).homeMs) : b.doHomingFailed n =
      ((((((b.onStp n fun s => { s with homing := 0 }).stopAxis (8 + n)).onAxis (8 + n) fun x =>
        { x with susp := none }).flag (R.Sn_STAT_HOMED n) false).flag (R.Sn_STAT_PUNC n) true).raise 0x4306 (8 + n)
          []).showAxis (8 + n) := if_pos ⟨hh, hd⟩

/-- R259: a homing that travels HOMEMAX ends without a reference, its position unsure. -/
theorem doHomingFailed_ends (hn : n < 8) (hh : (b.stp n).homing = 1)
    (hd : b.rd (R.Sn_HOMEX_HOMEMAX n) * 2 ^ 32 ≤ (b.stp n).homeMs) :
    (b.doHomingFailed n).on (R.Sn_STAT_HOMED n) = false ∧ (b.doHomingFailed n).on (R.Sn_STAT_PUNC n) = true ∧
      Reported (b.doHomingFailed n) 0x4306 (8 + n) ∧ ∀ x, (b.doHomingFailed n).stps[n]? = some x → x.homing = 0 := by
  obtain ⟨-, hpunc, hhomed, -, -, hapart, -⟩ := stpStat_layout n
  obtain ⟨hpflag, hhflag, -⟩ := stpFlags n
  rw [doHomingFailed_accepted hh hd]
  refine ⟨?homed, ?unsure, reported_showAxis (Blk.raise_self _ _ _ _) _, fun x hx => ?homing⟩
  case homed =>
    rw [Blk.on, showAxis_stpStat hn hhflag.1, raise_stpStat hn _ _ _ hhflag.1]
    exact (Blk.on_wr_apart _ _ _ _ hpunc hapart).trans (Blk.on_flag_self _ _ false hhomed rfl)
  case unsure =>
    rw [Blk.on, showAxis_stpStat hn hpflag.1, raise_stpStat hn _ _ _ hpflag.1]
    exact Blk.on_flag_self _ _ true hpunc rfl
  case homing =>
    rw [Blk.showAxis_stps, Blk.raise_stps, Blk.flag_stps, Blk.flag_stps, Blk.onAxis_stps, Blk.stopAxis_stps] at hx
    rw [onStp_entry hx]

/-- A HOME that waits starts a SPEED move towards the stop, as the stepper enters MOVE. -/
theorem homeNow_starts (hd : (b.stp n).homeDue = true) (hs : b.stpState n = 1)
    (he : b.on (R.MPG_CFG_EN (8 + n)) = true) : ∃ p, b.homeNow n =
      (((((b.onStp n fun s => { s with homeDue := false }).onAxis (8 + n) fun x => { x with cur := some p }).onStp n
        fun s => { s with homing := 1, homeFr := 0, homeMs := 0, zeroFr := 0, fall := none, stallN := 0 }).wr
          (R.Sn_STAT_SSTATE n) 2).showAxis (8 + n)) :=
  ⟨_, (if_pos hd).trans (if_pos ⟨hs, he⟩)⟩

/-- R258: the homing has begun, its travel not yet counted. -/
theorem homeNow_homes (hn : n < 8) (hd : (b.stp n).homeDue = true) (hs : b.stpState n = 1)
    (he : b.on (R.MPG_CFG_EN (8 + n)) = true) : (b.homeNow n).stpState n = 2 ∧
      (∀ x, (b.homeNow n).stps[n]? = some x → x.homing = 1 ∧ x.homeFr = 0 ∧ x.homeDue = false) ∧
      (∀ y, (b.homeNow n).axes[8 + n]? = some y → y.cur.isSome = true) := by
  obtain ⟨p, hp⟩ := homeNow_starts hd hs he
  rw [hp]
  refine ⟨(showAxis_stpState hn).trans (stpState_written _ n (by decide)), fun x hx => ?stepper, fun y hy => ?axis⟩
  case stepper =>
    obtain ⟨z, hz, rfl⟩ := getElem?_modify_self hx
    rw [onStp_entry hz]
    exact ⟨rfl, rfl, rfl⟩
  case axis =>
    obtain ⟨z, -, rfl⟩ := getElem?_modify_self hy
    rfl

end

/-- Settles O22, event by event. -/
theorem axisMotion : Obligations.AxisMotion := by
  unfold Obligations.AxisMotion
  refine ⟨?fault, ?started, ?completed, ?standstill, ?fall, ?stall, ?failed, ?homing, ?resumed⟩
  case fault => exact fun s n hc hf hp hs => yields_onBlk rfl rfl (doBridgeFault_latches n.isLt hc hf hp hs)
  case started =>
    intro s a m q hf hq he hr hs hc hp ht hd
    exact yields_within rfl hf (doMoveStart_moves a.isLt hq he hr hs hc hp ht hd)
  case completed => exact fun s a p hf hc he => yields_within rfl hf (doMoveComplete_ends a.isLt hc he)
  case standstill =>
    exact fun s a hf hv hw he hc hr => yields_within rfl hf (doStandstill_holds a.isLt hv hw he hc hr)
  case fall => exact fun s n hf h0 hz hn => yields_within rfl hf (doHoldFall_begins h0 hz hn)
  case stall => exact fun s n hf hs hh hv h0 hn => yields_within rfl hf (doStall_declares hs hh hv h0 hn)
  case failed => exact fun s n hf hh hd => yields_within rfl hf (doHomingFailed_ends n.isLt hh hd)
  case homing => exact fun b n hd hs he => homeNow_homes n.isLt hd hs he
  case resumed =>
    intro b a m hs hr hv hw
    rw [resumeLate_resumes hs hr hv hw]
    exact resumeNow_moves m

end Sys2Proof.Machine
end

section
/-! PROOFS. Register offsets that differ, read off their numerals. -/

namespace Sys2Proof.Machine

theorem le_above {a b k : Nat} (h : Nat.ble b a = true := by exact rfl) : b ≤ a + k :=
  Nat.le_trans (Nat.le_of_ble_eq_true h) (Nat.le_add_right a k)

theorem lt_above {a b k : Nat} (h : Nat.ble b.succ a = true := by exact rfl) : b < a + k := le_above h

theorem ne_above {a b k : Nat} (h : Nat.ble b.succ a = true := by exact rfl) : a + k ≠ b := Nat.ne_of_gt (lt_above h)

theorem ne_under {a b k : Nat} (h : Nat.ble b.succ a = true := by exact rfl) : b ≠ a + k := Nat.ne_of_lt (lt_above h)

theorem ne_beside {a b k : Nat} (h : Nat.beq a b = false := by exact rfl) : a + k ≠ b + k := fun e =>
  Nat.ne_of_beq_eq_false h (Nat.add_right_cancel e)

/-- A word of a set is not one outside it. -/
theorem ne_of_mem {S : Nat → Prop} {x y : Nat} (hx : S x) (hy : ¬ S y) : x ≠ y := fun e => hy (e ▸ hx)

end Sys2Proof.Machine
end

section
/-! PROOFS. The Bedrock store over the commands (R531): its canonical form, the queue, and which commands write a byte. -/

namespace Sys2Proof.Machine

/-! What every operation on a state keeps: the queue of commands, and the canonical form of the store. -/

/-- From `s` to `t` the queue stays, and the store keeps its canonical form. -/
def Stores (s t : State) : Prop := t.pending = s.pending ∧ (Memory.wf s.mem = true → Memory.wf t.mem = true)

theorem Stores.refl (s : State) : Stores s s := ⟨rfl, id⟩

theorem Stores.trans {s t u : State} (h : Stores s t) (h' : Stores t u) : Stores s u :=
  ⟨h'.1.trans h.1, fun hw => h'.2 (h.2 hw)⟩

/-- A change of the block alone. -/
theorem stores_blk (s : State) (b : Blk) : Stores s { s with blk := b } := Stores.refl s

/-- A block changed on the way leaves the store and the queue. -/
theorem Stores.withBlk {s t : State} (h : Stores s t) (b : Blk) : Stores s { t with blk := b } := h

/-- The same before the operation. -/
theorem Stores.ofBlk {s t : State} {b : Blk} (h : Stores { s with blk := b } t) : Stores s t := h

theorem stores_ite {s t u : State} {p : Prop} [Decidable p] (ht : Stores s t) (hu : Stores s u) :
    Stores s (if p then t else u) := by
  split
  · exact ht
  · exact hu

/-- Bytes written keep the form. -/
theorem stores_mem {s : State} {m : List Host.Cell} (b : Blk) (h : Memory.wf s.mem = true → Memory.wf m = true) :
    Stores s { s with blk := b, mem := m } := ⟨rfl, h⟩

/-- Bytes written at an offset that each element of a list names keep the form. -/
theorem foldl_memPut_wf (l : List Nat) (a : Nat → Nat) (v : Byte) (m : List Host.Cell) (h : Memory.wf m = true) :
    Memory.wf (l.foldl (fun m i => memPut m (a i) v) m) = true := by
  induction l generalizing m with
  | nil => exact h
  | cons i l ih => exact ih _ (memPut_wf m (a i) v h)

/-! Strata and the engines of Bedrock (chapter 24). -/

theorem endInterval_stores (s : State) (type fnEnd : Nat) : Stores s (s.endInterval type fnEnd) := by
  unfold State.endInterval
  dsimp only
  split
  · exact stores_mem _ (memPuts_wf _ _ _)
  · exact stores_blk s _

theorem doIntervalEnd_stores (s : State) (corr : Nat) : Stores s (s.doIntervalEnd corr) :=
  stores_ite (endInterval_stores { s with blk := s.blk.eccNote corr } _ _).ofBlk (stores_blk s _)

theorem doRecordDone_stores (s : State) : Stores s s.doRecordDone := by
  unfold State.doRecordDone
  dsimp only
  split
  · exact stores_blk s _
  · exact stores_mem _ (memPuts_wf _ _ _)

theorem doDmaDone_stores (s : State) (err : Bool) : Stores s (s.doDmaDone err) := by
  unfold State.doDmaDone
  dsimp only
  split
  · exact stores_blk s _
  · exact stores_ite (stores_mem _ (slotPuts_wf _ _ _)) (stores_blk s _)

theorem slotWrite_stores (s : State) (v : Nat) : Stores s (s.slotWrite v) :=
  stores_ite (stores_blk s _) <| stores_ite (stores_blk s _) <| stores_ite (stores_blk s _) <|
    stores_ite (stores_mem _ (memPut_wf _ _ _)) (stores_blk s _)

theorem doSlotDone_stores (s : State) : Stores s s.doSlotDone := by
  unfold State.doSlotDone
  dsimp only
  split
  · exact stores_blk s _
  · exact stores_ite (stores_mem _ (memPut_wf _ _ _)) (stores_blk s _)

theorem cutWrites_stores (s : State) : Stores s s.cutWrites := by
  have hrec : Memory.wf s.mem = true → Memory.wf (match s.blk.free.2.nvs.rec_ with
      | some (k, bytes, _, _) =>
        memPuts s.mem (recAt k + 64) ((bytes.drop 64).take (Config.freeNat s.blk.free.1 % 64 * 64))
      | none => s.mem) = true := by
    intro h
    split
    · exact memPuts_wf _ _ _ h
    · exact h
  unfold State.cutWrites
  dsimp only
  refine stores_mem _ fun h => ?_
  split
  · exact slotPuts_wf _ _ _ (hrec h)
  · exact hrec h

theorem scanRecords_stores (s : State) : Stores s s.scanRecords :=
  stores_mem _ (foldl_memPut_wf _ _ _ _)

/-- A transfer that is asked for writes no byte yet. -/
theorem dmaGo_mem (s : State) (write : Bool) (data : List Byte) (corr : Nat) :
    (s.dmaGo write data corr).mem = s.mem ∧ (s.dmaGo write data corr).pending = s.pending := by
  unfold State.dmaGo
  dsimp only
  split_ifs <;> exact ⟨rfl, rfl⟩

theorem stores_of_same {s t : State} (h : t.mem = s.mem ∧ t.pending = s.pending) : Stores s t :=
  ⟨h.2, fun hw => h.1 ▸ hw⟩

/-! Supplies, resets and start-up (chapter 23). -/

theorem beginStart_stores (s : State) : Stores s s.beginStart := by
  unfold State.beginStart
  exact (scanRecords_stores { s with blk := _ }).ofBlk

theorem tryStart_stores (s : State) : Stores s s.tryStart :=
  stores_ite (stores_blk s _) (stores_ite (beginStart_stores s) (stores_blk s _))

theorem systemReset_stores (s : State) (cause : Nat) (lost : Bool) : Stores s (s.systemReset cause lost) :=
  (cutWrites_stores s).trans (tryStart_stores _).ofBlk

theorem shutdownRecord_stores (s : State) : Stores s s.shutdownRecord :=
  stores_ite ((doRecordDone_stores s).trans ((endInterval_stores _ _ _).trans (doRecordDone_stores _))) (stores_blk s _)

/-- The record of an orderly shutdown, where the module is Ready. -/
theorem readyRecord_stores (s : State) (ready : Bool) : Stores s (if ready then s.shutdownRecord else s) :=
  stores_ite (shutdownRecord_stores s) (stores_blk s _)

theorem orderly_stores (s : State) (pfail : Bool) : Stores s (s.orderly pfail) :=
  ((readyRecord_stores _ _).ofBlk.trans (cutWrites_stores _).ofBlk).withBlk _

theorem pwrWrite_stores (s : State) (v : Nat) : Stores s (s.pwrWrite v) :=
  stores_ite (stores_blk s _) <| stores_ite (stores_blk s _) <|
    stores_ite (stores_ite (orderly_stores s false) (stores_blk s _)) <|
      stores_ite ((orderly_stores s false).trans (systemReset_stores _ _ _)) (stores_blk s _)

theorem doVmainStart_stores (s : State) : Stores s s.doVmainStart :=
  stores_ite (stores_blk s _) (stores_ite ((tryStart_stores _).ofBlk.withBlk _) (stores_blk s _))

theorem doRideExpiry_stores (s : State) : Stores s s.doRideExpiry := by
  unfold State.doRideExpiry
  dsimp only
  split
  · exact stores_blk s _
  · exact stores_ite (stores_blk s _) ((orderly_stores _ _).ofBlk.withBlk _)

theorem doDropout_stores (s : State) : Stores s s.doDropout :=
  stores_ite (stores_blk s _) ((cutWrites_stores s).withBlk _)

theorem doRail_stores (s : State) (d : Dom) : Stores s (s.doRail d) :=
  stores_ite (stores_blk s _) (stores_ite ((cutWrites_stores _).ofBlk.withBlk _) (stores_blk s _))

theorem doRstAccepted_stores (s : State) : Stores s s.doRstAccepted :=
  stores_ite (stores_blk s _) (stores_ite (stores_blk s _) ((cutWrites_stores _).ofBlk.withBlk _))

theorem doRstReleased_stores (s : State) : Stores s s.doRstReleased :=
  stores_ite (stores_blk s _) (stores_ite (tryStart_stores _).ofBlk (stores_blk s _))

theorem doPinStuck_stores (s : State) : Stores s s.doPinStuck :=
  stores_ite (tryStart_stores _).ofBlk (stores_blk s _)

theorem wake_stores (s : State) (bit : Nat) : Stores s (s.wake bit) :=
  stores_ite (tryStart_stores _).ofBlk (stores_blk s _)

theorem doWakePin_stores (s : State) : Stores s s.doWakePin := stores_ite (wake_stores s 8) (stores_blk s _)

theorem doRtcAlarm_stores (s : State) : Stores s s.doRtcAlarm := stores_ite (wake_stores _ 9).ofBlk (stores_blk s _)

theorem doTshut_stores (s : State) : Stores s s.doTshut :=
  stores_ite (stores_blk s _) ((cutWrites_stores _).ofBlk.withBlk _)

theorem doTshutOver_stores (s : State) : Stores s s.doTshutOver :=
  stores_ite (systemReset_stores s 5 false) (stores_blk s _)

theorem keystone_stores (s : State) : Stores s s.keystone :=
  (stores_mem _ (memPut_wf _ _ _)).trans (systemReset_stores _ 6 false)

theorem doVerify_stores (s : State) (crcOk : Bool) (img : Image) : Stores s (s.doVerify crcOk img) :=
  stores_ite (stores_blk s _) <| stores_ite (stores_blk s _) <| stores_ite (stores_blk s _) (keystone_stores _).ofBlk

theorem doDomainsUp_stores (s : State) (failed : List Nat) (strap : Nat) (pins : List Bool) :
    Stores s (s.doDomainsUp failed strap pins) :=
  stores_ite (stores_blk s _) (stores_ite (keystone_stores _).ofBlk (stores_blk s _))

/-- The self-test of Hasp reads the slots and writes none. -/
theorem doSelfTest_mem (s : State) (coresOk : Bool) (outs : List StoSelfTest) (safety : List (Nat × Word))
    (sdi : List (Bool × Bool)) (jbad corr : Nat) :
    (s.doSelfTest coresOk outs safety sdi jbad corr).mem = s.mem ∧
      (s.doSelfTest coresOk outs safety sdi jbad corr).pending = s.pending := by
  unfold State.doSelfTest
  dsimp only
  split_ifs <;> exact ⟨rfl, rfl⟩

/-! Writes to BAR0 (R11): PWR_CTL, NVS_CTL and NVS_SLOT reach Bedrock. -/

theorem writeReg_stores (s : State) (d : RegDesc) (off v : Nat) : Stores s (s.writeReg d off v) := by
  have hb := stores_blk s
  have hif : ∀ (p : Prop) [Decidable p] (b : Blk), Stores s (if p then { s with blk := b } else s) :=
    fun _ _ b => stores_ite (hb b) (Stores.refl s)
  have hdma : Stores s (if bitAt v 31 then s.dmaGo (bitAt v 0) [] 0 else s) :=
    stores_ite (stores_of_same (dmaGo_mem s _ _ _)) (Stores.refl s)
  exact stores_ite (hb _) <| stores_ite (hb _) <| stores_ite (Stores.refl s) <| stores_ite (hb _) <|
    stores_ite (hif _ _) <| stores_ite (pwrWrite_stores s v) <| stores_ite (hif _ _) <| stores_ite (hb _) <|
    stores_ite (hb _) <| stores_ite (hif _ _) <| stores_ite hdma <| stores_ite (slotWrite_stores s v) (hb _)

theorem registerWrite_stores (s : State) (off width : Nat) (v : Word) : Stores s (s.registerWrite off width v) := by
  unfold State.registerWrite
  dsimp only
  refine stores_ite (stores_blk s _) (stores_ite (stores_blk s _) (stores_ite (stores_blk s _) ?_))
  split
  · exact writeReg_stores s _ off _
  · exact stores_ite (stores_blk s _) (stores_blk s _)

/-! Every command. -/

/-- The commands that may write Bedrock. -/
def writesBedrock : Instr → Bool
  | .strataIntervalEnd _ | .strataRecordDone | .nvsDmaDone _ | .nvsSlotErase _ | .nvsSlotCommit _ | .nvsSlotCommitDone
  | .registerWrite _ _ _ | .imageVerifyDone _ _ | .domainsUp _ _ _ | .vmainStart | .vmainDropout | .rideExpiry
  | .railOutOfWindow _ | .rstNAccepted | .rstNReleased | .pinStuck | .pwrStby _ | .pwrSysrst _ | .wakePin | .rtcAlarm
  | .tshut _ | .tshutRecover => true
  | _ => false

/-- What a command may do to the store and the queue: a writer of Bedrock keeps the form, another leaves both. -/
def AfterExec (writer : Bool) (s : State) : Host.Outcome State Fault Refusal → Prop
  | .next t => if writer then Stores s t else t.mem = s.mem ∧ t.pending = s.pending
  | _ => True

theorem exec_after (c : Instr) (s : State) : AfterExec (writesBedrock c) s (exec c s) := by
  cases c
  case strataIntervalEnd => exact doIntervalEnd_stores s _
  case strataRecordDone => exact doRecordDone_stores s
  case nvsDmaDone => exact doDmaDone_stores s _
  case nvsSlotErase => exact slotWrite_stores s _
  case nvsSlotCommit => exact slotWrite_stores s _
  case nvsSlotCommitDone => exact doSlotDone_stores s
  case registerWrite => exact registerWrite_stores s _ _ _
  case imageVerifyDone => exact doVerify_stores s _ _
  case domainsUp => exact doDomainsUp_stores s _ _ _
  case vmainStart => exact doVmainStart_stores s
  case vmainDropout => exact doDropout_stores s
  case rideExpiry => exact doRideExpiry_stores s
  case railOutOfWindow => exact doRail_stores s _
  case rstNAccepted => exact doRstAccepted_stores s
  case rstNReleased => exact doRstReleased_stores s
  case pinStuck => exact doPinStuck_stores s
  case pwrStby => exact pwrWrite_stores s _
  case pwrSysrst => exact pwrWrite_stores s _
  case wakePin => exact doWakePin_stores s
  case rtcAlarm => exact doRtcAlarm_stores s
  case tshut => exact doTshut_stores s
  case tshutRecover => exact doTshutOver_stores s
  case haspSelfTestDone => exact doSelfTest_mem s _ _ _ _ _ _
  case nvsDmaRead => exact dmaGo_mem s _ _ _
  case nvsDmaWrite => exact dmaGo_mem s _ _ _
  all_goals exact ⟨rfl, rfl⟩

/-- A command that does not write Bedrock changes the block alone. -/
theorem exec_other_same {c : Instr} {s t : State} (hw : writesBedrock c = false) (h : exec c s = .next t) :
    t.mem = s.mem ∧ t.pending = s.pending := by
  have hafter := exec_after c s
  rw [hw, h] at hafter
  exact hafter

theorem exec_stores {c : Instr} {s t : State} (h : exec c s = .next t) : Stores s t := by
  have hafter := exec_after c s
  cases hw : writesBedrock c with
  | true =>
    rw [hw, h] at hafter
    exact hafter
  | false => exact stores_of_same (exec_other_same hw h)

/-- Settles O59: what each command does to the store is bytes written in place, and every such write keeps the form. -/
theorem memoryKeepsForm : Obligations.MemoryKeepsForm := by
  intro s t hw h
  cases hp : s.pending with
  | nil =>
    rw [step_idle hp] at h
    cases h
    exact hw
  | cons c rest =>
    rw [step_front hp] at h
    exact (exec_stores h).2 hw

/-- Settles O58: every command answers with the queue as it was, and those not listed change the block alone. -/
theorem writersOfBedrock : Obligations.WritersOfBedrock := by
  refine ⟨fun c s => ?_, fun s t c h => ?_⟩
  · obtain ⟨t, h⟩ := exec_next c s
    exact ⟨t, h, (exec_stores h).1⟩
  · have hsame := fun hw => (exec_other_same (c := c) hw h).1
    clear h
    cases c <;> first | exact trivial | exact hsame rfl

end Sys2Proof.Machine
end
section
/-! PROOFS. Members that join, fall out and return to a share group (R265, R271, R273, R276). -/

namespace Sys2Proof.Machine

section
variable {b : Blk} {g k : Nat}

/-! A fold over units in which one unit brings about what every later one keeps. -/

theorem eachOf_reaches {P : Blk → Prop} {l : List Nat} {m : Nat} {f : Nat → Blk → Blk} (hm : m ∈ l)
    (hset : ∀ b, P (f m b)) (hkeep : ∀ i ∈ l, ∀ b, P b → P (f i b)) (b : Blk) : P (b.eachOf l f) := by
  obtain ⟨l₁, l₂, rfl⟩ := List.append_of_mem hm
  unfold Blk.eachOf
  rw [List.foldl_append, List.foldl_cons]
  exact List.foldlRecOn l₂ _ (hset _) fun c hc i hi => hkeep i (by simp [hi]) c hc

theorem reported_flag_at {c s : Nat} (h : Reported b c s) (f : Fld) (v : Bool) {base k : Nat} (hf : f.off = base + k)
    (hb : Nat.ble 0x4260 base = true := by decide) : Reported (b.flag f v) c s := reported_wr_at h f _ hf hb

/-! The state of a slot. -/

theorem slotField_inWord (g : Nat) (hk : k < 4) : (sliceOf (R.SHR_Gg_STAT_ST g) k 2).inWord := by
  exact (by decide : ∀ k < 4, 0 + k * 2 + 2 ≤ 32) k hk

theorem setSlot_slotState {v : Nat} (hk : k < 4) (hv : v < 4) : (b.setSlot g k v).slotState g k = v :=
  (Blk.rd_wr_self b _ v (slotField_inWord g hk)).trans (Nat.mod_eq_of_lt hv)

theorem setSlot_slotState_other {s : Nat} (v : Nat) (hs : s < 4) (h : s ≠ k) :
    (b.setSlot g s v).slotState g k = b.slotState g k := by
  refine Blk.rd_wr_apart b _ _ v (slotField_inWord g hs) ((Nat.lt_or_gt_of_ne h).imp (fun h => ?_) fun h => ?_)
  · exact le_trans (le_of_eq (Nat.add_assoc ..)) (Nat.add_le_add_left (Nat.succ_mul s 2 ▸ Nat.mul_le_mul_right 2 h) 0)
  · exact le_trans (le_of_eq (Nat.add_assoc ..)) (Nat.add_le_add_left (Nat.succ_mul k 2 ▸ Nat.mul_le_mul_right 2 h) 0)

theorem slotState_of_same {c : Blk} {T : Nat → Prop} (h : SameBut b c T) (hT : ¬ T (R.SHR_Gg_STAT_ST g).off) :
    c.slotState g k = b.slotState g k := same_rd h _ hT

theorem raise_slotState (code src : Nat) (i : List Int) : (b.raise code src i).slotState g k = b.slotState g k :=
  Blk.raise_rd b code src i _ (ne_above)

theorem countLeft_slotState (hk : k < 4) : (b.inc (R.SHR_Gg_STAT_LEFT g)).slotState g k = b.slotState g k := by
  refine Blk.rd_wr_apart b _ _ _ (by simp [Fld.inWord, R.SHR_Gg_STAT_LEFT]) 
    (.inr ((by decide : ∀ k < 4, 0 + k * 2 + 2 ≤ 16) k hk))

/-- Dn_CSTAT of a drive that a slot names is not the group's word. -/
theorem slotDrive_apart (d : Blk) (s : Nat) (a : Nat) (h : a = (R.Dn_CSTAT_HOBL (d.slotDrive g s)).off) :
    a ≠ (R.SHR_Gg_STAT_ST g).off := by
  have : d.slotDrive g s < 8 := Nat.mod_lt _ (by decide)
  exact h ▸ Nat.ne_of_lt (lt_of_lt_of_le ((by decide : ∀ n < 8, 0x8124 + 0x400 * n < 0xE020) _ this) (Nat.le_add_right ..))

theorem putBlend_same (b : Blk) (n what : Nat) (x : Option Blend) :
    SameBut b (b.putBlend n what x) fun a => a = (R.Dn_CSTAT_HOBL n).off :=
  same_flag (same_onDrv (same_refl b _) n _) _ _ rfl

theorem putBlend_slotState (d : Blk) (s : Nat) (what : Nat) (x : Option Blend) :
    (b.putBlend (d.slotDrive g s) what x).slotState g k = b.slotState g k :=
  slotState_of_same (putBlend_same b _ what x) fun h => slotDrive_apart d s _ h rfl

theorem startBlend_slotState (d : Blk) (s : Nat) (what kind : Nat) (yLast vq : Int) :
    (b.startBlend (d.slotDrive g s) what kind yLast vq).slotState g k = b.slotState g k :=
  slotState_of_same (startBlend_same b _ what kind yLast vq 0) fun h => slotDrive_apart d s _ h rfl

theorem onGrp_slotState (j : Nat) (f : ShrGrp → ShrGrp) : (b.onGrp j f).slotState g k = b.slotState g k := rfl

/-! A join (R271). -/

theorem joinShown_slotState (s : Nat) (iq : Int) (blend : Bool) :
    (b.joinShown g s iq blend).slotState g k = b.slotState g k := by
  unfold Blk.joinShown
  dsimp only
  split_ifs
  · exact (raise_slotState ..).trans (putBlend_slotState ..)
  · exact raise_slotState ..
  · rfl

/-- A slot set, its group's counters kept in the block outside the registers, and the join shown. -/
theorem joinShown_setSlot_slotState {v : Nat} (hk : k < 4) (hv : v < 4) (f : ShrGrp → ShrGrp) (iq : Int) (blend : Bool) :
    (((b.setSlot g k v).onGrp g f).joinShown g k iq blend).slotState g k = v :=
  (joinShown_slotState ..).trans (setSlot_slotState hk hv)

theorem join_joins (j : Nat) (hk : k < 4) :
    ((b.join g k j).slotState g k = 1 ∨ (b.join g k j).slotState g k = 2) ∧
      (b.rd (R.SHR_Gg_CFG_MODE g) = 2 → (b.join g k j).slotState g k = 2 ∧ Reported (b.join g k j) 0x8001 g) := by
  unfold Blk.join
  dsimp only
  generalize List.find? _ _ = iq
  by_cases hc : b.rd (R.SHR_Gg_CFG_MODE g) = 2 ∨ magI (iq.getD default).iq ≤ b.rd (R.Dn_BUMP_HMAX (b.slotDrive g k))
  · rw [if_pos hc]
    refine have hin := (raise_slotState ..).trans ?_; ⟨.inr hin, fun _ => ⟨hin, Blk.raise_self _ _ _ _⟩⟩
    split_ifs
    · exact setSlot_slotState hk (by decide)
    · exact joinShown_setSlot_slotState hk (by decide) ..
  · rw [if_neg hc]
    exact ⟨.inl (joinShown_setSlot_slotState hk (by decide) ..), fun h => absurd (.inl h) hc⟩

theorem doJoinComplete_joins (hk : k < 4) (hs : b.slotState g k = 1) (hf : b.hfrm g k ≤ (b.grp g).k.getD k 0) :
    (b.doJoinComplete g k).slotState g k = 2 ∧ Reported (b.doJoinComplete g k) 0x8001 g := by
  rw [Blk.doJoinComplete, if_pos ⟨hs, hf⟩]
  exact ⟨(raise_slotState ..).trans (setSlot_slotState hk (by decide)), Blk.raise_self _ _ _ _⟩

theorem doIsolRejoin_joins (hs : b.slotState g k = 3) (h64 : 64 ≤ (b.grp g).okEx.getD k 0)
    (hc : ((b.member g k).map (·.closed)).getD false = true) : b.doIsolRejoin g k = b.join g k 0 :=
  if_pos ⟨hs, h64, hc⟩

/-! A member that falls out (R273). -/

theorem slotOut_slotState (hk : k < 4) : (b.slotOut g k).slotState g k = 0 := setSlot_slotState hk (by decide)

theorem slotOut_left (hk : k < 4) : (b.slotOut g k).rd (R.SHR_Gg_STAT_LEFT g) = b.rd (R.SHR_Gg_STAT_LEFT g) := by
  have hset : ∀ c : Blk, (c.setSlot g k 0).rd (R.SHR_Gg_STAT_LEFT g) = c.rd (R.SHR_Gg_STAT_LEFT g) := fun c =>
    Blk.rd_wr_apart c _ _ 0 (slotField_inWord g hk) (.inl ((by decide : ∀ k < 4, 0 + k * 2 + 2 ≤ 16) k hk))
  refine (hset _).trans ?_
  split_ifs
  · exact same_rd (putBlend_same b _ 5 none) _ fun h => slotDrive_apart b k _ h rfl
  · rfl

theorem doSpeedDev_leaves (hk : k < 4) (ha : b.slotActive g k = true) (h0 : 0 < b.rd (R.SHR_Gg_CFG_DEVN g))
    (hn : b.rd (R.SHR_Gg_CFG_DEVN g) ≤ (b.grp g).dev.getD k 0) :
    (b.doSpeedDev g k).slotState g k = 0 ∧ Reported (b.doSpeedDev g k) 0x8306 g ∧
      (b.doSpeedDev g k).rd (R.SHR_Gg_STAT_LEFT g) =
        min (b.rd (R.SHR_Gg_STAT_LEFT g) + 1) (R.SHR_Gg_STAT_LEFT g).top := by
  rw [Blk.doSpeedDev, if_pos ⟨ha, h0, hn⟩]
  refine ⟨?_, Blk.raise_self _ _ _ _, ?_⟩
  · exact ((raise_slotState ..).trans (countLeft_slotState hk)).trans (slotOut_slotState hk)
  · rw [Blk.raise_rd _ _ _ _ _ (ne_above),
      Blk.rd_inc_self _ _ (by simp [Fld.inWord, R.SHR_Gg_STAT_LEFT]), Blk.onGrp_rd, slotOut_left hk]
    split_ifs <;> rfl

/-! A lost exchange (R276). -/

/-- What a member that goes on alone runs on leaves every slot. -/
theorem goesOn_slotState (d : Blk) (s : Nat) (p q : Prop) [Decidable p] [Decidable q] (own : Bool) (last : Int) (f : Drive → Drive) :
    (if own then if p then (if q then b else b.startBlend (d.slotDrive g s) 1 10 last 0) else b.onDrv (d.slotDrive g s) f
      else b).slotState g k = b.slotState g k := by
  split_ifs
  · rfl
  · exact startBlend_slotState ..
  · rfl
  · rfl

theorem unblended_slotState (s : Nat) :
    (if b.slotOwn g s then b.putBlend (b.slotDrive g s) 5 none else b).slotState g k = b.slotState g k := by
  split_ifs
  · exact putBlend_slotState ..
  · rfl

/-- A member that goes on alone stands in ISOL; the others stay. -/
theorem isolate_slotState {s : Nat} (hs : s < 4) (hk : k < 4) :
    (b.isolate g s).slotState g k = if s = k then 3 else b.slotState g k := by
  refine (goesOn_slotState b s _ _ _ _ _).trans ((countLeft_slotState hk).trans ?_)
  by_cases h : s = k
  · rw [if_pos h, ← h]
    exact setSlot_slotState hs (by decide)
  · rw [if_neg h]
    exact (setSlot_slotState_other 3 hs h).trans (unblended_slotState s)

theorem doExchangeLost_isolates (hk : k < 4) (hm : k ∈ b.slotsOf g) (ha : b.slotActive g k = true)
    (hr : b.remote g k = true) (ho : (b.slotsOf g).any (fun j => b.slotOwn g j) = true)
    (h4 : 4 ≤ (b.grp g).noEx.getD k 0) :
    (b.doExchangeLost g).slotState g k = 3 ∧ Reported (b.doExchangeLost g) 0x8205 g := by
  unfold Blk.doExchangeLost
  dsimp only
  rw [if_pos ho]
  generalize hl : (b.slotsOf g).filter _ = l
  have hmem : k ∈ l := by
    rw [← hl]
    exact List.mem_filter.mpr ⟨hm, by rw [ha, hr, decide_eq_true h4]; rfl⟩
  have hlt : ∀ i ∈ l, i < 4 := fun i hi => by
    rw [← hl] at hi
    exact List.mem_range.mp (List.mem_of_mem_filter (List.mem_of_mem_filter hi))
  rw [if_neg (by cases l <;> simp_all)]
  refine ⟨(raise_slotState ..).trans ?_, Blk.raise_self _ _ _ _⟩
  refine eachOf_reaches (P := fun c => c.slotState g k = 3) hmem (fun c => ?_) (fun i hi c hc => ?_) b
  · exact (onGrp_slotState ..).trans ((isolate_slotState hk hk).trans (if_pos rfl))
  · refine (onGrp_slotState ..).trans ((isolate_slotState (hlt i hi) hk).trans ?_)
    split_ifs
    · rfl
    · exact hc

end

/-- Settles O23: the state of the slot as each command leaves it, and its event. -/
theorem shareGroups : Obligations.ShareGroups := by
  unfold Obligations.ShareGroups
  refine ⟨?complete, ?deviation, ?lost, ?rejoin⟩
  case complete => exact fun s g k hf hs hk => yields_within rfl hf (doJoinComplete_joins k.isLt hs hk)
  case deviation => exact fun s g k hf ha h0 hn => yields_within rfl hf (doSpeedDev_leaves k.isLt ha h0 hn)
  case lost => exact fun s g k hf hm ha hr ho h4 => yields_within rfl hf (doExchangeLost_isolates k.isLt hm ha hr ho h4)
  case rejoin =>
    intro s g k hf hs h64 hc
    refine yields_within rfl hf ?_
    rw [doIsolRejoin_joins hs h64 hc]
    exact join_joins 0 k.isLt

end Sys2Proof.Machine
end

section
/-! PROOFS. Image slots and transfers of Bedrock (R515 to R517, R531, R534, R535, R545). -/

namespace Sys2Proof.Machine

/-! What Strata notes of an event touches neither its records nor what Bedrock does at the moment. -/

/-- A block of Strata differs from another in what it counts of events only. -/
def Nvs.notes (x y : Nvs) : Prop := y = { x with evs := y.evs, evFull := y.evFull, evOvf := y.evOvf }

theorem Nvs.notes_refl (x : Nvs) : x.notes x := rfl

theorem Nvs.notes_trans {x y z : Nvs} (h : x.notes y) (g : y.notes z) : x.notes z := by
  unfold Nvs.notes at *
  rw [g, h]

theorem Nvs.notes_noteEvent (x : Nvs) (code fn : Nat) : x.notes (x.noteEvent code fn) := by
  unfold Nvs.noteEvent
  split
  · rfl
  · split
    · rfl
    · dsimp only
      split <;> rfl

section
variable {b : Blk}

theorem noteDrops_notes : b.nvs.notes b.noteDrops.nvs := by
  unfold Blk.noteDrops
  split
  · dsimp only
    split_ifs
    · exact Nvs.notes_trans (Nvs.notes_noteEvent ..) (Nvs.notes_noteEvent ..)
    · exact Nvs.notes_noteEvent ..
  · rfl

theorem queueLow_nvs (e : Event) : (b.queueLow e).nvs = b.nvs := by
  unfold Blk.queueLow
  split_ifs <;> rfl

theorem queueEvent_notes (e : Event) : b.nvs.notes (b.queueEvent e).nvs := by
  unfold Blk.queueEvent
  split_ifs
  · rfl
  · rfl
  · rfl
  · rfl
  · rw [queueLow_nvs]
    exact noteDrops_notes

theorem raise_notes (code src : Nat) (i : List Int) : b.nvs.notes (b.raise code src i).nvs := by
  refine Nvs.notes_trans ?_ (queueEvent_notes _)
  unfold Blk.strataEvent
  dsimp only
  split_ifs
  · exact Nvs.notes_trans (Nvs.notes_trans (Nvs.notes_noteEvent ..) (Nvs.notes_noteEvent ..))
      (queueEvent_notes (b := { b with nvs := _ }) _)
  · exact Nvs.notes_noteEvent ..

theorem raiseLim_notes (span code src : Nat) (i : List Int) : b.nvs.notes (b.raiseLim span code src i).nvs := by
  unfold Blk.raiseLim Blk.raiseKey
  split
  · split_ifs
    · exact Nvs.notes_refl _
    · exact raise_notes ..
  · exact raise_notes ..

theorem eccNote_notes (corr : Nat) : b.nvs.notes (b.eccNote corr).nvs := by
  unfold Blk.eccNote
  split_ifs
  · exact Nvs.notes_refl _
  · have hadd : (b.add R.NVS_ECC_CORR corr).nvs = b.nvs := Blk.wr_nvs ..
    exact hadd ▸ raiseLim_notes ..

end

/-! Fields of one register word whose places are numerals. -/

theorem inWord_of {f : Fld} (h : Nat.ble (f.lo + f.w) 32 = true := by exact rfl) : f.inWord := Nat.le_of_ble_eq_true h

theorem apart_below {f g : Fld} (h : Nat.ble (f.lo + f.w) g.lo = true := by exact rfl) : f.apart g :=
  .inl (Nat.le_of_ble_eq_true h)

theorem apart_above {f g : Fld} (h : Nat.ble (g.lo + g.w) f.lo = true := by exact rfl) : f.apart g :=
  .inr (Nat.le_of_ble_eq_true h)

/-! The places of the slots. -/

theorem slotState_in (k : Nat) (hk : k < 2) : slotAt k + 60 < bedrockSize := by
  exact (by decide : ∀ k < 2, slotAt k + 60 < bedrockSize) k hk

theorem slotState_put (m : List Host.Cell) (k : Nat) (v : Byte) (hk : k < 2) :
    slotState (memPut m (slotAt k + 60) v) k = v.toNat :=
  congrArg BitVec.toNat (memGet_memPut_self m v (slotState_in k hk))

section
variable {b : Blk} {s : State}

/-! What a refusal, and what the candidates shown, leave. -/

theorem slotRefuse_refuses (res : Nat) (hr : res < 16) :
    (b.slotRefuse res).rd R.NVS_SLOTST_RES = res ∧ Reported (b.slotRefuse res) 0xF104 0 :=
  ⟨(Blk.raise_rd _ _ _ _ _ (by decide)).trans
    ((Blk.rd_wr_self b _ res inWord_of).trans (Nat.mod_eq_of_lt hr)), Blk.raise_self ..⟩

theorem showSlots_same (m : List Host.Cell) :
    SameBut b (b.showSlots m) fun a => a = R.PWR_BOOT_AVAL.off ∨ a = R.WARD_SPARE_KEY.off := by
  unfold Blk.showSlots
  exact same_flag (same_flag (same_flag (same_flag (same_flag (same_refl b _) _ _ (.inl rfl)) _ _ (.inl rfl)) _ _ (.inl rfl))
    _ _ (.inl rfl)) _ _ (.inr rfl)

theorem showSlots_slotst (m : List Host.Cell) (f : Fld) (hf : f.off = R.NVS_SLOTST_RES.off) :
    (b.showSlots m).rd f = b.rd f := same_rd (showSlots_same m) f (by rw [hf]; decide)

theorem showSlots_evs (m : List Host.Cell) : (b.showSlots m).evs = b.evs := (rfl)

theorem showSlots_nvs (m : List Host.Cell) : (b.showSlots m).nvs = b.nvs := (rfl)

/-! The cases of a write of NVS_SLOT (R535). -/

section
variable {v : Nat}

theorem slotWrite_keeps (h : v / 256 % 256 ≠ 0xA5 ∨ v % 4 = 0 ∨ v % 4 = 3) : s.slotWrite v = s :=
  if_pos (.inr h)

theorem slotWrite_keyed (hp : s.blk.powered .nvs = true) (hkey : v / 256 % 256 = 0xA5) (hop : v % 4 = 1 ∨ v % 4 = 2)
    (hdma : s.blk.nvs.dma = none) : s.slotWrite v =
      if s.blk.nvs.slotOp.isSome ∨ s.blk.slotInForce (v / 16 % 2) = true then { s with blk := s.blk.slotRefuse 1 }
      else if v % 4 = 1 then
        { s with mem := memPut s.mem (slotAt (v / 16 % 2) + 60) 0
                 blk := (s.blk.wr R.NVS_SLOTST_RES 0).showSlots (memPut s.mem (slotAt (v / 16 % 2) + 60) 0) }
      else { s with blk := (s.blk.flag R.NVS_SLOTST_BUSY true).onNvs (fun x => { x with slotOp := some (v / 16 % 2) }) } := by
  have hno : ¬ (s.blk.powered .nvs = false ∨ v / 256 % 256 ≠ 0xA5 ∨ v % 4 = 0 ∨ v % 4 = 3) := by
    rintro (h | h | h)
    · exact absurd (hp.symm.trans h) (by decide)
    · exact h hkey
    · omega
  unfold State.slotWrite
  dsimp only
  rw [if_neg hno, hdma]
  exact if_neg (by decide)

theorem slotWrite_refused (hp : s.blk.powered .nvs = true) (hkey : v / 256 % 256 = 0xA5) (hop : v % 4 = 1 ∨ v % 4 = 2)
    (hdma : s.blk.nvs.dma = none) (hbusy : s.blk.nvs.slotOp ≠ none ∨ s.blk.slotInForce (v / 16 % 2) = true) :
    (s.slotWrite v).blk.rd R.NVS_SLOTST_RES = 1 ∧ Reported (s.slotWrite v).blk 0xF104 0 ∧ (s.slotWrite v).mem = s.mem := by
  rw [slotWrite_keyed hp hkey hop hdma, if_pos (hbusy.imp_left Option.isSome_iff_ne_none.mpr)]
  obtain ⟨hres, hrep⟩ := slotRefuse_refuses (b := s.blk) 1 (by decide)
  exact ⟨hres, hrep, rfl⟩

section
variable (hp : s.blk.powered .nvs = true) (hkey : v / 256 % 256 = 0xA5) (hdma : s.blk.nvs.dma = none)
  (hno : s.blk.nvs.slotOp = none) (hf : s.blk.slotInForce (v / 16 % 2) = false)
include hp hkey hdma hno hf

theorem slotWrite_free (hop : v % 4 = 1 ∨ v % 4 = 2) : s.slotWrite v =
    if v % 4 = 1 then
      { s with mem := memPut s.mem (slotAt (v / 16 % 2) + 60) 0
               blk := (s.blk.wr R.NVS_SLOTST_RES 0).showSlots (memPut s.mem (slotAt (v / 16 % 2) + 60) 0) }
    else { s with blk := (s.blk.flag R.NVS_SLOTST_BUSY true).onNvs (fun x => { x with slotOp := some (v / 16 % 2) }) } := by
  rw [slotWrite_keyed hp hkey hop hdma, if_neg (not_or.mpr ⟨by rw [hno]; exact Bool.false_ne_true, by rw [hf]; exact Bool.false_ne_true⟩)]

theorem slotWrite_erases (hop : v % 4 = 1) :
    slotState (s.slotWrite v).mem (v / 16 % 2) = 0 ∧
      (∀ a, a ≠ slotAt (v / 16 % 2) + 60 → memGet (s.slotWrite v).mem a = memGet s.mem a) ∧
      (s.slotWrite v).blk.rd R.NVS_SLOTST_RES = 0 ∧ (s.slotWrite v).blk.evs = s.blk.evs := by
  rw [slotWrite_free hp hkey hdma hno hf (.inl hop), if_pos hop]
  refine ⟨slotState_put _ _ _ (Nat.mod_lt _ (by decide)), fun a ha => memGet_memPut_ne _ _ ha, ?_, showSlots_evs _⟩
  exact (showSlots_slotst _ _ rfl).trans (Blk.rd_wr_self _ _ 0 inWord_of)

theorem slotWrite_commits (hop : v % 4 = 2) :
    (s.slotWrite v).blk.on R.NVS_SLOTST_BUSY = true ∧ (s.slotWrite v).blk.nvs.slotOp = some (v / 16 % 2) ∧
      (s.slotWrite v).mem = s.mem := by
  rw [slotWrite_free hp hkey hdma hno hf (.inr hop), if_neg (fun h => absurd (hop.symm.trans h) (by decide))]
  exact ⟨(Blk.onNvs_on ..).trans (Blk.on_flag_self _ _ true inWord_of rfl), rfl, rfl⟩

end
end

/-! The end of a COMMIT (R535). -/

theorem doSlotDone_marks {k : Nat} (ho : s.blk.nvs.slotOp = some k) (hk : k < 2) (hr : s.commitRes k = 0) :
    slotState s.doSlotDone.mem k = 1 ∧ s.doSlotDone.blk.rd R.NVS_SLOTST_RES = 0 ∧
      (∀ a, a ≠ slotAt k + 60 → memGet s.doSlotDone.mem a = memGet s.mem a) ∧ Reported s.doSlotDone.blk 0xF005 0 ∧
      s.doSlotDone.blk.nvs.slotOp = none := by
  unfold State.doSlotDone
  simp only [ho, hr, if_true]
  refine ⟨slotState_put s.mem k 1 hk, ?_, fun a ha => memGet_memPut_ne _ _ ha, Blk.raise_self .., ?_⟩
  · rw [Blk.raise_rd _ _ _ _ _ (by decide), showSlots_slotst _ _ rfl]
    exact Blk.rd_wr_self _ _ 0 inWord_of
  · exact congrArg Nvs.slotOp (raise_notes ..)

theorem commitRes_lt (k : Nat) : s.commitRes k < 16 := by
  unfold State.commitRes
  split_ifs <;> decide

theorem doSlotDone_fails {k : Nat} (ho : s.blk.nvs.slotOp = some k) (hr : s.commitRes k ≠ 0) :
    s.doSlotDone.mem = s.mem ∧ s.doSlotDone.blk.rd R.NVS_SLOTST_RES = s.commitRes k ∧
      Reported s.doSlotDone.blk 0xF106 0 ∧ s.doSlotDone.blk.on R.NVS_SLOTST_BUSY = false ∧
      s.doSlotDone.blk.nvs.slotOp = none := by
  unfold State.doSlotDone
  simp only [ho, hr, if_false]
  refine ⟨trivial, ?_, Blk.raise_self .., ?_, ?_⟩
  · rw [Blk.raise_rd _ _ _ _ _ (by decide)]
    exact (Blk.rd_wr_self _ _ _ inWord_of).trans (Nat.mod_eq_of_lt (commitRes_lt k))
  · rw [Blk.raise_on _ _ _ _ _ (by decide)]
    exact (Blk.on_wr_apart _ _ _ _ inWord_of apart_below).trans (Blk.on_flag_self _ _ false inWord_of rfl)
  · exact congrArg Nvs.slotOp (raise_notes ..)

end

/-- A write of NVS_SLOT comes with either of its two commands. -/
theorem exec_slotWrite {c : Instr} {v : Word} (hc : c = .nvsSlotErase v ∨ c = .nvsSlotCommit v) (s : State) :
    exec c s = .next (s.slotWrite v.toNat) := by
  rcases hc with rfl | rfl <;> rfl

/-- Settles O46: the cases of a write of NVS_SLOT, and the two ends of a COMMIT. -/
theorem imageSlots : Obligations.ImageSlots := by
  unfold Obligations.ImageSlots
  refine ⟨?write, fun s v c hc h => ⟨_, exec_slotWrite hc s, slotWrite_keeps h⟩, ?done⟩
  case write =>
    rintro s v c k hc hp rfl hkey hdma
    exact ⟨fun hop hbusy => ⟨_, exec_slotWrite hc s, slotWrite_refused hp hkey hop hdma hbusy⟩,
      fun hop hno hf => ⟨_, exec_slotWrite hc s, slotWrite_erases hp hkey hdma hno hf hop⟩,
      fun hop hno hf => ⟨_, exec_slotWrite hc s, slotWrite_commits hp hkey hdma hno hf hop⟩⟩
  case done =>
    exact fun s k ho hk => ⟨fun hr => ⟨_, rfl, doSlotDone_marks ho hk hr⟩, fun hr => ⟨_, rfl, doSlotDone_fails ho hr⟩⟩

end Sys2Proof.Machine
end

section
/-! PROOFS. Transfers between the host and Bedrock (R531, R534, R545). -/

namespace Sys2Proof.Machine

/-! Bytes that a transfer writes into a slot, which keeps its STATE. -/

section
variable (m : List Host.Cell) (ofs : Nat) (data : List Byte)

/-- An address that holds no STATE gets the byte of the transfer, or keeps its own. -/
theorem slotPuts_get_off {a : Nat} (h0 : a ≠ slotAt 0 + 60) (h1 : a ≠ slotAt 1 + 60) :
    memGet (slotPuts m ofs data) a = memGet (memPuts m ofs data) a :=
  (memGet_memPut_ne _ _ h1).trans (memGet_memPut_ne _ _ h0)

theorem slotPuts_get_state {k : Nat} (hk : k < 2) :
    memGet (slotPuts m ofs data) (slotAt k + 60) = memGet m (slotAt k + 60) := by
  obtain rfl | rfl : k = 0 ∨ k = 1 := Nat.le_one_iff_eq_zero_or_eq_one.mp (Nat.le_of_lt_succ hk)
  · exact (memGet_memPut_ne _ _ (by decide)).trans (memGet_memPut_self _ _ (by decide))
  · exact memGet_memPut_self _ _ (by decide)

theorem slotPuts_slotState {k : Nat} (hk : k < 2) : slotState (slotPuts m ofs data) k = slotState m k :=
  congrArg BitVec.toNat (slotPuts_get_state m ofs data hk)

theorem slotPuts_get_out {a : Nat} (h : a < ofs ∨ ofs + data.length ≤ a) :
    memGet (slotPuts m ofs data) a = memGet m a := by
  by_cases h0 : a = slotAt 0 + 60
  · exact h0 ▸ slotPuts_get_state m ofs data (by decide)
  · by_cases h1 : a = slotAt 1 + 60
    · exact h1 ▸ slotPuts_get_state m ofs data (by decide)
    · exact (slotPuts_get_off m ofs data h0 h1).trans (memGet_memPuts_out data m h)

end

section
variable {s : State} {b : Blk} {w : Bool} {data : List Byte} {corr : Nat}

/-! The request (R534). -/

theorem dmaWhy_lt (ofs len : Nat) : s.dmaWhy w ofs len < 16 := by
  unfold State.dmaWhy
  split_ifs
  · decide
  · decide
  · decide
  · split
    · decide
    · split_ifs <;> decide

theorem Nvs.notes_dma {x y : Nvs} (h : x.notes y) : y.dma = x.dma := by
  unfold Nvs.notes at h
  rw [h]

theorem dmaRefuse_refuses {err : Nat} (he : err < 16) :
    (b.dmaRefuse err).rd R.NVS_STAT_ERR = err ∧ Reported (b.dmaRefuse err) 0xF104 0 ∧
      (b.dmaRefuse err).nvs.dma = b.nvs.dma :=
  ⟨(Blk.raise_rd _ _ _ _ _ (by decide)).trans ((Blk.rd_wr_self b _ err inWord_of).trans (Nat.mod_eq_of_lt he)),
    Blk.raise_self .., (Nvs.notes_dma (raise_notes 0xF104 0 [Int.ofNat err])).trans (congrArg Nvs.dma (Blk.wr_nvs ..))⟩

/-- The block as a transfer begins. -/
def Blk.dmaStarts (b : Blk) (corr : Nat) (x : Bool × Nat × Nat × Nat × List Byte) : Blk :=
  (((b.eccNote corr).wr R.NVS_STAT_ERR 0).flag R.NVS_STAT_BUSY true).onNvs (fun n => { n with dma := some x })

theorem dmaStarts_shows (corr : Nat) (x : Bool × Nat × Nat × Nat × List Byte) :
    (b.dmaStarts corr x).on R.NVS_STAT_BUSY = true ∧ (b.dmaStarts corr x).rd R.NVS_STAT_ERR = 0 ∧
      (b.dmaStarts corr x).nvs.dma = some x := by
  unfold Blk.dmaStarts
  refine ⟨(Blk.onNvs_on ..).trans (Blk.on_flag_self _ _ true inWord_of rfl), (Blk.onNvs_rd ..).trans ?_, rfl⟩
  exact (Blk.rd_wr_apart _ _ _ _ inWord_of apart_above).trans (Blk.rd_wr_self _ _ 0 inWord_of)

section
variable (hp : s.blk.powered .nvs = true)
include hp

theorem dmaGo_busy (hb : s.blk.on R.NVS_STAT_BUSY = true) :
    s.dmaGo w data corr = { s with blk := s.blk.wr R.NVS_STAT_ERR 5 } := by
  unfold State.dmaGo
  dsimp only
  rw [if_neg (by rw [hp]; decide), if_pos hb]

theorem dmaGo_idle (hb : s.blk.on R.NVS_STAT_BUSY = false) :
    s.dmaGo w data corr =
      if s.dmaWhy w (64 * s.blk.rd R.NVS_OFS_OFS) (64 * s.blk.rd R.NVS_LEN_LEN) ≠ 0 then
        { s with blk := s.blk.dmaRefuse (s.dmaWhy w (64 * s.blk.rd R.NVS_OFS_OFS) (64 * s.blk.rd R.NVS_LEN_LEN)) }
      else { s with blk := s.blk.dmaStarts corr (w, 2 ^ 32 * s.blk.rd R.NVS_DMA_HI_ADDR + 64 * s.blk.rd R.NVS_DMA_LO_ADDR,
        64 * s.blk.rd R.NVS_OFS_OFS, 64 * s.blk.rd R.NVS_LEN_LEN, data) } := by
  unfold State.dmaGo Blk.dmaStarts
  dsimp only
  rw [if_neg (by rw [hp]; decide), if_neg (by rw [hb]; decide)]

theorem dmaGo_while_busy (hb : s.blk.on R.NVS_STAT_BUSY = true) :
    (s.dmaGo w data corr).blk.rd R.NVS_STAT_ERR = 5 ∧ (s.dmaGo w data corr).mem = s.mem ∧
      (s.dmaGo w data corr).blk.nvs = s.blk.nvs := by
  rw [dmaGo_busy hp hb]
  exact ⟨Blk.rd_wr_self _ _ 5 inWord_of, rfl, rfl⟩

theorem dmaGo_refused (hb : s.blk.on R.NVS_STAT_BUSY = false)
    (hw : s.dmaWhy w (64 * s.blk.rd R.NVS_OFS_OFS) (64 * s.blk.rd R.NVS_LEN_LEN) ≠ 0) :
    (s.dmaGo w data corr).blk.rd R.NVS_STAT_ERR =
        s.dmaWhy w (64 * s.blk.rd R.NVS_OFS_OFS) (64 * s.blk.rd R.NVS_LEN_LEN) ∧
      (s.dmaGo w data corr).mem = s.mem ∧ Reported (s.dmaGo w data corr).blk 0xF104 0 ∧
      (s.dmaGo w data corr).blk.nvs.dma = s.blk.nvs.dma := by
  rw [dmaGo_idle hp hb, if_pos hw]
  obtain ⟨herr, hrep, hdma⟩ := dmaRefuse_refuses (b := s.blk) (dmaWhy_lt (s := s) (w := w) _ _)
  exact ⟨herr, rfl, hrep, hdma⟩

theorem dmaGo_starts (hb : s.blk.on R.NVS_STAT_BUSY = false)
    (hw : s.dmaWhy w (64 * s.blk.rd R.NVS_OFS_OFS) (64 * s.blk.rd R.NVS_LEN_LEN) = 0) :
    (s.dmaGo w data corr).blk.on R.NVS_STAT_BUSY = true ∧ (s.dmaGo w data corr).blk.rd R.NVS_STAT_ERR = 0 ∧
      (s.dmaGo w data corr).mem = s.mem ∧
      (s.dmaGo w data corr).blk.nvs.dma = some (w, 2 ^ 32 * s.blk.rd R.NVS_DMA_HI_ADDR + 64 * s.blk.rd R.NVS_DMA_LO_ADDR,
        64 * s.blk.rd R.NVS_OFS_OFS, 64 * s.blk.rd R.NVS_LEN_LEN, data) := by
  rw [dmaGo_idle hp hb, if_neg (not_not.mpr hw)]
  obtain ⟨hbusy, herr, hdma⟩ := dmaStarts_shows (b := s.blk) corr (w, 2 ^ 32 * s.blk.rd R.NVS_DMA_HI_ADDR +
    64 * s.blk.rd R.NVS_DMA_LO_ADDR, 64 * s.blk.rd R.NVS_OFS_OFS, 64 * s.blk.rd R.NVS_LEN_LEN, data)
  exact ⟨hbusy, herr, rfl, hdma⟩

end

/-! The end of a transfer (R534). -/

/-- The block as a transfer has ended, with an error or without one. -/
def Blk.dmaEnds (b : Blk) (err : Bool) : Blk :=
  if err then ((b.free.2.onNvs (fun x => { x with dma := none })).flag R.NVS_STAT_BUSY false).wr R.NVS_STAT_ERR 3
  else (b.free.2.onNvs (fun x => { x with dma := none })).flag R.NVS_STAT_BUSY false

theorem dmaEnds_busy (err : Bool) : (b.dmaEnds err).on R.NVS_STAT_BUSY = false := by
  have hflag := Blk.on_flag_self (b.free.2.onNvs (fun x => { x with dma := none })) R.NVS_STAT_BUSY false inWord_of rfl
  unfold Blk.dmaEnds
  split_ifs
  · exact (Blk.on_wr_apart _ _ _ _ inWord_of apart_below).trans hflag
  · exact hflag

theorem dmaEnds_dma (err : Bool) : (b.dmaEnds err).nvs.dma = none := by
  unfold Blk.dmaEnds
  split_ifs <;> rfl

theorem dmaEnds_out (err : Bool) : (b.dmaEnds err).out = b.out := by
  have hfree : b.free.2.out = b.out := rfl
  have hflag := (Blk.wr_out (b := b.free.2.onNvs (fun x => { x with dma := none })) R.NVS_STAT_BUSY (b2n false)).trans
    ((Blk.onNvs_out ..).trans hfree)
  unfold Blk.dmaEnds
  split_ifs
  · exact (Blk.wr_out ..).trans hflag
  · exact hflag

theorem dmaEnds_err : (b.dmaEnds true).rd R.NVS_STAT_ERR = 3 := Blk.rd_wr_self _ _ 3 inWord_of

/-- A transfer that writes Bedrock. -/
theorem doDmaDone_write {addr ofs len : Nat} (err : Bool) (h : s.blk.nvs.dma = some (true, addr, ofs, len, data)) :
    s.doDmaDone err = { s with
      blk := s.blk.dmaEnds err
      mem := slotPuts s.mem ofs (((List.range len).map
        (fun k => data.getD k (Config.bedrockByte (s.blk.freeCtr * bedrockSize + k)))).take
        (if err then Config.freeNat s.blk.freeCtr % (len / 64 + 1) * 64 else len)) } := by
  unfold State.doDmaDone
  dsimp only
  rw [h]
  rfl

/-- A transfer that reads Bedrock. -/
theorem doDmaDone_read {addr ofs len : Nat} (err : Bool) (h : s.blk.nvs.dma = some (false, addr, ofs, len, data)) :
    s.doDmaDone err = { s with
      blk := if (if err then Config.freeNat s.blk.freeCtr % (len / 64 + 1) * 64 else len) = 0 then s.blk.dmaEnds err
        else (s.blk.dmaEnds err).send (.hostMem addr
          ((List.range (if err then Config.freeNat s.blk.freeCtr % (len / 64 + 1) * 64 else len)).map
            (fun k => bedrockRead s.mem s.blk.freeCtr (ofs + k)))) } := by
  unfold State.doDmaDone
  dsimp only
  rw [h]
  rfl

theorem getD_map_range {n j : Nat} (f : Nat → Byte) (h : j < n) : ((List.range n).map f).getD j 0 = f j := by
  simp [List.getD_eq_getElem?_getD, h]

theorem doDmaDone_puts {addr ofs : Nat} (h : s.blk.nvs.dma = some (true, addr, ofs, data.length, data))
    (hin : ofs + data.length ≤ bedrockSize) :
    (∀ j, j < data.length → ofs + j ≠ slotAt 0 + 60 → ofs + j ≠ slotAt 1 + 60 →
      memGet (s.doDmaDone false).mem (ofs + j) = data.getD j 0) ∧
    (∀ a, a < ofs ∨ ofs + data.length ≤ a → memGet (s.doDmaDone false).mem a = memGet s.mem a) ∧
    slotState (s.doDmaDone false).mem 0 = slotState s.mem 0 ∧ slotState (s.doDmaDone false).mem 1 = slotState s.mem 1 ∧
    (s.doDmaDone false).blk.on R.NVS_STAT_BUSY = false ∧ (s.doDmaDone false).blk.nvs.dma = none := by
  have hbytes : ((List.range data.length).map
      (fun k => data.getD k (Config.bedrockByte (s.blk.freeCtr * bedrockSize + k)))).take data.length = data := by
    refine List.ext_getElem (by simp) fun i hi _ => ?_
    simp at hi
    simp [hi]
  rw [doDmaDone_write false h]
  simp only [Bool.false_eq_true, if_false, hbytes]
  refine ⟨fun j hj h0 h1 => ?_, fun a ha => slotPuts_get_out _ _ _ ha, slotPuts_slotState _ _ _ (by decide),
    slotPuts_slotState _ _ _ (by decide), dmaEnds_busy _, dmaEnds_dma _⟩
  exact (slotPuts_get_off _ _ _ h0 h1).trans (memGet_memPuts_in data s.mem hj hin)

theorem doDmaDone_sends {addr ofs len : Nat} (h : s.blk.nvs.dma = some (false, addr, ofs, len, data)) (hlen : len ≠ 0) :
    (s.doDmaDone false).mem = s.mem ∧ (s.doDmaDone false).blk.on R.NVS_STAT_BUSY = false ∧
      (s.doDmaDone false).blk.nvs.dma = none ∧
      ∃ l, (s.doDmaDone false).blk.out = .hostMem addr l :: s.blk.out ∧ l.length = len ∧
        ∀ j, j < len → (ofs + j < 0x1C00000 ∨ 0x1C20000 ≤ ofs + j) → l.getD j 0 = memGet s.mem (ofs + j) := by
  rw [doDmaDone_read false h]
  simp only [Bool.false_eq_true, if_false, hlen]
  refine ⟨trivial, dmaEnds_busy _, dmaEnds_dma _, _, congrArg (List.cons _) (dmaEnds_out _), by simp, fun j hj hout => ?_⟩
  rw [getD_map_range _ hj, bedrockRead, if_neg (fun h => hout.elim (Nat.not_lt_of_le h.1) (Nat.not_le_of_lt h.2))]

theorem doDmaDone_err {x : Bool × Nat × Nat × Nat × List Byte} (h : s.blk.nvs.dma = some x) :
    (s.doDmaDone true).blk.rd R.NVS_STAT_ERR = 3 ∧ (s.doDmaDone true).blk.on R.NVS_STAT_BUSY = false ∧
      (s.doDmaDone true).blk.nvs.dma = none := by
  obtain ⟨w, addr, ofs, len, data⟩ := x
  cases w
  · rw [doDmaDone_read true h]
    simp only [if_true]
    split_ifs
    · exact ⟨dmaEnds_err, dmaEnds_busy _, dmaEnds_dma _⟩
    · exact ⟨dmaEnds_err, dmaEnds_busy _, dmaEnds_dma _⟩
  · rw [doDmaDone_write true h]
    exact ⟨dmaEnds_err, dmaEnds_busy _, dmaEnds_dma _⟩

end

/-- A GO comes with either of its two commands. -/
theorem exec_dmaGo {c : Instr} {w : Bool} {data : List Byte} {corr : Nat}
    (hc : (w = false ∧ c = .nvsDmaRead corr) ∨ (w = true ∧ c = .nvsDmaWrite data corr)) (s : State) :
    exec c s = .next (s.dmaGo w (if w then data else []) corr) := by
  obtain ⟨rfl, rfl⟩ | ⟨rfl, rfl⟩ := hc <;> rfl

/-- Settles O45: a request by what stands against it, and an end by its direction and its error. -/
theorem bedrockTransfers : Obligations.BedrockTransfers := by
  unfold Obligations.BedrockTransfers
  refine ⟨?request, fun s addr ofs data h hin => ⟨_, rfl, doDmaDone_puts h hin⟩,
    fun s addr ofs len data h hlen => ⟨_, rfl, doDmaDone_sends h hlen⟩, fun s x h => ⟨_, rfl, doDmaDone_err h⟩⟩
  case request =>
    exact fun s c w corr data hp hc => ⟨fun hb => ⟨_, exec_dmaGo hc s, dmaGo_while_busy hp hb⟩,
      fun hb hw => ⟨_, exec_dmaGo hc s, dmaGo_refused hp hb hw⟩,
      fun hb hw => ⟨_, exec_dmaGo hc s, dmaGo_starts hp hb hw⟩⟩

end Sys2Proof.Machine
end

section
/-! PROOFS. Doorbells of the rings (R407, R409, R412). -/

namespace Sys2Proof.Machine

section
variable {b : Blk} {q : Nat} {v : Word}

/-- How far a doorbell's index lies ahead of the module's index, or behind it (R407). -/
def Blk.bellDist (b : Blk) (q idx : Nat) : Nat :=
  if q < 4 then ringDist (b.ringSize q) idx (b.rd (R.RING_IDX_MOD q)) else ringDist (b.ringSize q) (b.rd (R.RING_IDX_MOD q)) idx

theorem haltRing_host (q cause : Nat) : (b.haltRing q cause).host = { b.host with vec8 := b.host.vec8 + 1 } :=
  Blk.raise_host ..

theorem haltRing_idx (cause : Nat) : (b.haltRing q cause).rd (R.RING_IDX_HOST q) = b.rd (R.RING_IDX_HOST q) := by
  refine (Blk.raise_rd _ _ _ _ _ (ne_above)).trans ?_
  exact (Blk.onHost_rd ..).trans ((Blk.rd_wr_off _ _ _ _ ne_beside).trans (Blk.rd_wr_off _ _ _ _ ne_beside))

section
variable (hp : b.powered .host = true) (hst : b.rd (R.RING_STAT_STATE q) ≠ 2)
include hp hst

theorem doorbell_disabled (he : b.on (R.RING_CTL_EN q) = false) : b.doorbell q v = b.haltRing q 3 := by
  unfold Blk.doorbell
  dsimp only
  rw [if_neg (not_or.mpr ⟨by rw [hp]; decide, hst⟩), if_pos he]

theorem doorbell_enabled (he : b.on (R.RING_CTL_EN q) = true) : b.doorbell q v =
    if b.ringSize q < b.bellDist q (v.toNat % 8192) ∨ 2 * b.ringSize q ≤ v.toNat % 8192 then b.haltRing q 1
    else b.wr (R.RING_IDX_HOST q) (v.toNat % 8192) := by
  unfold Blk.doorbell Blk.bellDist
  dsimp only
  rw [if_neg (not_or.mpr ⟨by rw [hp]; decide, hst⟩), if_neg (by rw [he]; decide), show (2 : Nat) ^ 13 = 8192 from rfl]

theorem doorbell_takes (he : b.on (R.RING_CTL_EN q) = true) (hi : v.toNat % 8192 < 2 * b.ringSize q)
    (hd : b.bellDist q (v.toNat % 8192) ≤ b.ringSize q) :
    (b.doorbell q v).rd (R.RING_IDX_HOST q) = v.toNat % 8192 ∧
      (b.doorbell q v).rd (R.RING_IDX_MOD q) = b.rd (R.RING_IDX_MOD q) ∧
      SameBut b (b.doorbell q v) (fun a => a = (R.RING_IDX_HOST q).off) ∧ (b.doorbell q v).evs = b.evs ∧
      (b.doorbell q v).host = b.host := by
  rw [doorbell_enabled hp hst he, if_neg (not_or.mpr ⟨Nat.not_lt_of_le hd, Nat.not_le_of_lt hi⟩)]
  refine ⟨(Blk.rd_wr_self b _ _ inWord_of).trans ?_, Blk.rd_wr_apart b _ _ _ inWord_of apart_below,
    same_wr (same_refl b _) _ _ rfl, rfl, rfl⟩
  exact Nat.mod_eq_of_lt (Nat.mod_lt _ (by decide))

theorem doorbell_halts (he : b.on (R.RING_CTL_EN q) = true)
    (hd : b.ringSize q < b.bellDist q (v.toNat % 8192)) :
    (b.doorbell q v).rd (R.RING_STAT_STATE q) = 2 ∧ (b.doorbell q v).rd (R.RING_STAT_CAUSE q) = 1 ∧
      (b.doorbell q v).rd (R.RING_IDX_HOST q) = b.rd (R.RING_IDX_HOST q) ∧ Reported (b.doorbell q v) 0x2103 q ∧
      (b.doorbell q v).host = { b.host with vec8 := b.host.vec8 + 1 } := by
  rw [doorbell_enabled hp hst he, if_pos (.inl hd)]
  obtain ⟨hstate, hcause, hrep, -⟩ := haltRing_halts (b := b) q 1 (by decide)
  exact ⟨hstate, hcause, haltRing_idx 1, hrep, haltRing_host q 1⟩

theorem doorbell_halts_disabled (he : b.on (R.RING_CTL_EN q) = false) :
    (b.doorbell q v).rd (R.RING_STAT_STATE q) = 2 ∧ (b.doorbell q v).rd (R.RING_STAT_CAUSE q) = 3 ∧
      Reported (b.doorbell q v) 0x2103 q := by
  rw [doorbell_disabled hp hst he]
  obtain ⟨hstate, hcause, hrep, -⟩ := haltRing_halts (b := b) q 3 (by decide)
  exact ⟨hstate, hcause, hrep⟩

end
end

/-- The four kinds of doorbell write the ring that BAR2 numbers so (R407). -/
theorem exec_doorbell {q : Fin 11} {v : Word} {c : Instr}
    (hc : (∃ r : Fin 4, c = .commandDoorbell r v ∧ q.val = r.val) ∨ (∃ r : Fin 4, c = .completionDoorbell r v ∧
      q.val = 4 + r.val) ∨ (∃ r : Fin 2, c = .telemetryDoorbell r v ∧ q.val = 8 + r.val) ∨
      (c = .eventDoorbell v ∧ q.val = 10)) (s : State) :
    exec c s = .next (s.onBlk fun b => b.doorbell q v) := by
  obtain ⟨r, rfl, h⟩ | ⟨r, rfl, h⟩ | ⟨r, rfl, h⟩ | ⟨rfl, h⟩ := hc <;> rw [h] <;> rfl

/-- Settles O25: an index in range, an index out of it, a disabled ring. -/
theorem ringDoorbells : Obligations.RingDoorbells := by
  unfold Obligations.RingDoorbells
  exact fun s q v c hc hp hst => ⟨fun he hi hd => ⟨_, exec_doorbell hc s, doorbell_takes hp hst he hi hd⟩,
    fun he hd => ⟨_, exec_doorbell hc s, doorbell_halts hp hst he hd⟩,
    fun he => ⟨_, exec_doorbell hc s, doorbell_halts_disabled hp hst he⟩⟩

end Sys2Proof.Machine
end

section
/-! PROOFS. Loss of the bridge to the host (R425, R426): what entering it leaves of the drives, the registers, the events and
the completions. -/

namespace Sys2Proof.Machine

/-- The words that a passage of a reference may write: an injection that it aborts, the settling of a supervisor, a drop. -/
def passageWords (a : Nat) : Prop := capWords a ∨ dropWord a ∨ ∃ n, n < 8 ∧ a = (R.Dn_SUPSTAT_SUSP n).off

/-- No command waits for a completion. -/
def Blk.noCommands (b : Blk) : Prop :=
  b.host.slots.length = 4 ∧ (∀ l ∈ b.host.slots, l = []) ∧ ∀ t ∈ b.tuns, t.hdr = none

/-- What a passage of references keeps: the registers beside its own words, the reports, each drive's choice of a lever, a
bridge that is lost, and that no command waits. -/
structure PassageKept (b c : Blk) : Prop where
  words : SameBut b c passageWords
  reports : ∀ code src, Reported b code src → Reported c code src
  drives : ∀ (n : Nat) (y : Drive), c.drvs[n]? = some y →
    ∃ x, b.drvs[n]? = some x ∧ y.leverSel = x.leverSel ∧ (x.bridge.isSome = true → y.bridge.isSome = true)
  quiet : b.noCommands → c.noCommands

theorem passage_refl (b : Blk) : PassageKept b b where
  words := same_refl b _
  reports _ _ h := h
  drives _ y h := ⟨y, h, rfl, fun h => h⟩
  quiet h := h

theorem passage_trans {b c d : Blk} (h : PassageKept b c) (g : PassageKept c d) : PassageKept b d where
  words := same_trans h.words g.words
  reports code src r := g.reports code src (h.reports code src r)
  drives n z hz := by
    obtain ⟨y, hy, hly, hby⟩ := g.drives n z hz
    obtain ⟨x, hx, hlx, hbx⟩ := h.drives n y hy
    exact ⟨x, hx, hly.trans hlx, fun hb => hby (hbx hb)⟩
  quiet q := g.quiet (h.quiet q)

/-- A passage as its parts show it: drives and completions as before. -/
theorem passage_of {b c : Blk} (hw : SameBut b c passageWords) (hr : ∀ code src, Reported b code src → Reported c code src)
    (hd : c.drvs = b.drvs) (hs : c.host.slots = b.host.slots) (ht : ∀ t ∈ c.tuns, t ∈ b.tuns ∨ t.hdr = none) :
    PassageKept b c where
  words := hw
  reports := hr
  drives n y h := ⟨y, hd ▸ h, rfl, fun h => h⟩
  quiet q := by
    obtain ⟨hlen, hnil, hhdr⟩ := q
    exact ⟨hs ▸ hlen, hs ▸ hnil, fun t h => (ht t h).elim (hhdr t) id⟩

section
variable {b : Blk}

theorem raise_passage (code src : Nat) (i : List Int) : PassageKept b (b.raise code src i) :=
  passage_of (same_raise (same_refl b _) _ _ _ (.inr (.inl rfl))) (fun _ _ h => Blk.raise_mono b _ _ _ h)
    (Blk.raise_drvs ..) (congrArg HostIf.slots (Blk.raise_host ..)) fun _ h => .inl (Blk.raise_tuns b code src i ▸ h)

theorem onGrp_passage (g : Nat) (f : ShrGrp → ShrGrp) : PassageKept b (b.onGrp g f) :=
  passage_of (same_refl b _) (fun _ _ h => h) rfl rfl fun _ h => .inl h

theorem onDrv_passage (n : Nat) (f : Drive → Drive) (hl : ∀ d, (f d).leverSel = d.leverSel)
    (hb : ∀ d, d.bridge.isSome = true → (f d).bridge.isSome = true) : PassageKept b (b.onDrv n f) where
  words := same_refl b _
  reports _ _ h := h
  drives m y h := by
    rw [Blk.onDrv, List.getElem?_modify] at h
    obtain ⟨x, hx, rfl⟩ := Option.map_eq_some_iff.mp h
    refine ⟨x, hx, ?_⟩
    split_ifs
    · exact ⟨hl x, hb x⟩
    · exact ⟨rfl, fun h => h⟩
  quiet q := q

theorem wr_passage (f : Fld) (v : Nat) {base k : Nat} (hf : f.off = base + k) (hw : passageWords f.off)
    (hb : Nat.ble 0x4260 base = true := by decide) : PassageKept b (b.wr f v) :=
  passage_of (same_wr (same_refl b _) _ _ hw) (fun _ _ h => reported_wr_at h f v hf hb) rfl rfl fun _ h => .inl h

theorem flag_passage (f : Fld) (v : Bool) {base k : Nat} (hf : f.off = base + k) (hw : passageWords f.off)
    (hb : Nat.ble 0x4260 base = true := by decide) : PassageKept b (b.flag f v) := wr_passage f (b2n v) hf hw hb

theorem onTun_passage (k : Nat) (f : Tuner → Tuner) (hf : ∀ t, (f t).hdr = none ∨ (f t).hdr = t.hdr) :
    PassageKept b (b.onTun k f) where
  words := same_refl b _
  reports _ _ h := h
  drives _ y h := ⟨y, h, rfl, fun h => h⟩
  quiet := by
    rintro ⟨hlen, hnil, hhdr⟩
    refine ⟨hlen, hnil, fun t h => ?_⟩
    obtain ⟨i, hi, rfl⟩ := List.getElem_of_mem h
    simp only [Blk.onTun, List.getElem_modify]
    split_ifs
    · exact (hf _).elim id fun h => h.trans (hhdr _ (List.getElem_mem _))
    · exact hhdr _ (List.getElem_mem _)

theorem startSettle_passage {n : Nat} (hn : n < 8) : PassageKept b (b.startSettle n) := by
  have hset := onDrv_passage (b := b) n (fun d => { d with settle := b.rd (R.Dn_SUPCFG_SETTLE n) }) (fun _ => rfl) fun _ h => h
  exact passage_trans hset (flag_passage _ _ rfl (.inr (.inr ⟨n, hn, rfl⟩)))

theorem capWithInj_passage {k : Nat} (hk : k < 5) : PassageKept b (b.capWithInj k) := by
  unfold Blk.capWithInj
  split
  · exact passage_trans (wr_passage _ _ rfl (.inl ⟨k, hk, rfl⟩)) (onTun_passage k _ fun _ => .inr rfl)
  · exact passage_refl b

theorem tun_hdr_of_noCommands (h : b.noCommands) (k : Nat) : (b.tun k).hdr = none := by
  obtain ⟨-, -, hhdr⟩ := h
  rw [Blk.tun, List.getD_eq_getElem?_getD]
  cases hx : b.tuns[k]? with
  | none => rfl
  | some t => exact hhdr t (List.mem_of_getElem? hx)

/-- Completions decided by the way, where no command waited for them. -/
theorem passage_onHost {f : HostIf → HostIf} (hf : b.noCommands → (b.onHost f).noCommands) : PassageKept b (b.onHost f) where
  words := same_refl b _
  reports _ _ h := h
  drives _ y h := ⟨y, h, rfl, fun h => h⟩
  quiet := hf

/-- A completion decided where a command waited for it. -/
theorem refuse_passage {c : Blk} (hc : PassageKept b c) (hq : ¬ b.noCommands) (h : Hdr) (op detail : Nat) :
    PassageKept b (c.refuse h op detail) where
  words := same_complete hc.words h op _ detail
  reports code src r := reported_complete (hc.reports code src r) h op _ detail
  drives n y hy := hc.drives n y ((refuse_drvs c h op detail) ▸ hy)
  quiet q := absurd q hq

theorem abortInjOn_passage {k : Nat} (hk : k < 5) (c reason : Nat) : PassageKept b (b.abortInjOn k c reason) := by
  have hwr : PassageKept b (b.wr (R.LE_CAPSTAT_INJ k) 3) := wr_passage _ _ rfl (.inl ⟨k, hk, rfl⟩)
  have hstop := passage_trans hwr (onTun_passage k (fun t => { t with v := 0, hdr := none }) fun _ => .inl rfl)
  unfold Blk.abortInjOn
  split
  · dsimp only
    refine passage_trans ?_ (passage_trans (raise_passage ..) (capWithInj_passage hk))
    split
    case h_1 h hh =>
      refine refuse_passage hstop (fun q => ?_) ..
      exact Option.some_ne_none h (hh.symm.trans (tun_hdr_of_noCommands q k))
    case h_2 => exact hstop
  · exact passage_refl b

theorem each_passage (n : Nat) {f : Nat → Blk → Blk} (hf : ∀ i, i < n → ∀ b, PassageKept b (f i b)) : PassageKept b (b.each n f) :=
  List.foldlRecOn (motive := fun c => PassageKept b c) (List.range n) _ (passage_refl b) fun _ hc i hi => passage_trans hc (hf i (List.mem_range.mp hi) _)

theorem abortInj_passage (c reason : Nat) : PassageKept b (b.abortInj c reason) :=
  each_passage 5 fun _ hk _ => abortInjOn_passage hk c reason

theorem tableRef_passage (n : Nat) (v : Int) : PassageKept b (b.tableRef n v) := by
  unfold Blk.tableRef
  split
  · exact onGrp_passage ..
  · exact onDrv_passage n _ (fun _ => rfl) fun _ h => h

theorem toLever_passage {n : Nat} (hn : n < 8) : PassageKept b (b.toLever n) := by
  unfold Blk.toLever Blk.refPassage Blk.handedOver
  exact passage_trans (tableRef_passage ..) (passage_trans (raise_passage ..)
    (passage_trans (startSettle_passage hn) (abortInj_passage ..)))

/-- Descriptors marked where they stand: none stands where no command waits. -/
theorem noCommands_modify (h : b.noCommands) (r : Nat) (f : Slot → Slot) :
    (b.onHost (fun x => { x with slots := x.slots.modify r (fun l => l.map f) })).noCommands := by
  obtain ⟨hlen, hnil, hhdr⟩ := h
  refine ⟨(List.length_modify ..).trans hlen, fun l hl => ?_, hhdr⟩
  obtain ⟨i, hi, rfl⟩ := List.getElem_of_mem hl
  simp only [Blk.onHost, List.getElem_modify]
  split_ifs
  · rw [hnil _ (List.getElem_mem _)]
    rfl
  · exact hnil _ (List.getElem_mem _)

theorem noCommands_map (h : b.noCommands) (f : Slot → Slot) :
    (b.onHost (fun x => { x with slots := x.slots.map (fun l => l.map f) })).noCommands := by
  obtain ⟨hlen, hnil, hhdr⟩ := h
  refine ⟨(List.length_map ..).trans hlen, fun l hl => ?_, hhdr⟩
  obtain ⟨x, hx, rfl⟩ := List.mem_map.mp hl
  rw [hnil x hx]
  rfl

theorem supersede_passage (i : Instr) : PassageKept b (b.supersede i) := by
  unfold Blk.supersede
  split
  · rename_i h k
    split_ifs with hh
    · refine ⟨same_refl b _, fun _ _ h => h, fun _ y h => ⟨y, h, rfl, fun h => h⟩, fun q => absurd hh ?_⟩
      rw [tun_hdr_of_noCommands q k.val]
      exact (Option.some_ne_none h).symm
    · exact passage_refl b
  · split
    · exact passage_onHost fun q => noCommands_modify q _ _
    · exact passage_refl b

theorem supersedeAt_passage (p : Instr → Bool) : PassageKept b (b.supersedeAt p) :=
  List.foldlRecOn (motive := fun c => PassageKept b c) _ _ (passage_refl b) fun _ hc i _ => passage_trans hc (supersede_passage i)

/-- The set-points of the tick that a mode overrides. -/
theorem overridden_passage (p : Prop) [Decidable p] (q : Instr → Bool) :
    PassageKept b (if p then b else b.supersedeAt q) := by
  split_ifs
  · exact passage_refl b
  · exact supersedeAt_passage q

/-- The reference that a mode sets. -/
theorem modeRef_passage {n : Nat} (hn : n < 8) (p q : Prop) [Decidable p] [Decidable q] (v : Int) :
    PassageKept b (if p then b.tableRef n v else if q then b.toLever n else b) := by
  split_ifs
  · exact tableRef_passage ..
  · exact toLever_passage hn
  · exact passage_refl b

/-- A drive that is out of the loss's reach, or under it already, stays as it is. -/
theorem enterBridge_stays {n : Nat} (h : b.configured n = false ∨ (b.drv n).leverSel = true ∨ (b.drv n).bridge.isSome = true) :
    b.enterBridge n = b := if_pos h

/-- The loss of the bridge of a drive that follows the host: the drive is under its mode, then come the mode's effects. -/
theorem enterBridge_entered {n : Nat} (hn : n < 8)
    (h : ¬ (b.configured n = false ∨ (b.drv n).leverSel = true ∨ (b.drv n).bridge.isSome = true)) :
    PassageKept (b.onDrv n (fun d => { d with bridge := some (b.blossMode n).1 })) (b.enterBridge n) := by
  unfold Blk.enterBridge
  rw [if_neg h]
  exact passage_trans (abortInj_passage n 6) (passage_trans (overridden_passage ..) (modeRef_passage hn ..))

theorem enterBridge_passage {n : Nat} (hn : n < 8) : PassageKept b (b.enterBridge n) := by
  by_cases h : b.configured n = false ∨ (b.drv n).leverSel = true ∨ (b.drv n).bridge.isSome = true
  · rw [enterBridge_stays h]
    exact passage_refl b
  · exact passage_trans (onDrv_passage n (fun d => { d with bridge := some (b.blossMode n).1 }) (fun _ => rfl) fun _ _ => rfl)
      (enterBridge_entered hn h)

/-- A configured drive without a lever of its own choice is under its mode after the loss. -/
theorem enterBridge_bridges {n : Nat} (hn : n < 8) (hc : b.configured n = true) (hl : (b.drv n).leverSel = false) {y : Drive}
    (hy : (b.enterBridge n).drvs[n]? = some y) : y.bridge.isSome = true := by
  by_cases hb : (b.drv n).bridge.isSome = true
  · rw [enterBridge_stays (.inr (.inr hb))] at hy
    rwa [Blk.drv, List.getD_eq_getElem?_getD, hy] at hb
  · obtain ⟨x, hx, -, hxy⟩ := (enterBridge_entered hn (by simp [hc, hl, hb])).drives n y hy
    obtain ⟨z, -, rfl⟩ := getElem?_modify_self hx
    exact hxy rfl

/-- The drives of a standby that its partner's heartbeat governs are left (R429). -/
def Blk.bridgeOne (b : Blk) (n : Nat) : Blk := if b.standby && b.pairedCh n then b else b.enterBridge n

theorem bridgeOne_passage {n : Nat} (hn : n < 8) : PassageKept b (b.bridgeOne n) := by
  unfold Blk.bridgeOne
  split_ifs
  · exact passage_refl b
  · exact enterBridge_passage hn

theorem bridgeAll_passage : PassageKept b b.bridgeAll := each_passage 8 fun _ hn _ => bridgeOne_passage hn

/-! What the loss asks of a drive does not change on the way. -/

theorem not_passageWords {a : Nat} (h0 : a ≠ 0x4020) (h : a < 0xD208 ∨ 0xE000 ≤ a) : ¬ passageWords a := by
  have hout : ∀ x, 0xD208 ≤ x → x < 0xE000 → a ≠ x := fun x hlo hhi e =>
    h.elim (fun h => Nat.not_lt_of_le hlo (e ▸ h)) fun h => Nat.not_lt_of_le h (e ▸ hhi)
  rintro (⟨k, hk, h1⟩ | h1 | ⟨n, hn, h1⟩)
  · exact hout _ le_above ((by decide : ∀ k < 5, 0xD31C + 0x20 * k < 0xE000) k hk) h1
  · exact h0 h1
  · exact hout _ le_above ((by decide : ∀ n < 8, 0xD208 + 0x20 * n < 0xE000) n hn) h1

theorem configured_of_passage {c : Blk} (h : PassageKept b c) {n : Nat} (hn : n < 8) : c.configured n = b.configured n := by
  simp only [Blk.configured, if_pos hn]
  exact same_on h.words _ (not_passageWords ne_above (.inl ((by decide : ∀ n < 8, 0x8000 + 0x400 * n < 0xD208) n hn)))

theorem standby_of_passage {c : Blk} (h : PassageKept b c) : c.standby = b.standby := by
  have hrole : c.role = b.role := same_rd h.words _ (not_passageWords (by decide) (.inr (by decide)))
  simp only [Blk.standby, hrole]

theorem pairedCh_of_passage {c : Blk} (h : PassageKept b c) {n : Nat} (hn : n < 8) : c.pairedCh n = b.pairedCh n := by
  have hmap : c.on (bitOf R.MIR_CHMAP_PAIRED n) = b.on (bitOf R.MIR_CHMAP_PAIRED n) := same_on h.words (bitOf R.MIR_CHMAP_PAIRED n)
    (not_passageWords (show (0x13004 : Nat) ≠ 0x4020 by decide) (.inr (show 0xE000 ≤ 0x13004 by decide)))
  simp only [Blk.pairedCh, configured_of_passage h hn, hmap]

/-- Every drive that the loss reaches is under its mode afterwards (R426, R429). -/
theorem bridgeAll_bridges {n : Nat} (hn : n < 8) (hc : b.configured n = true) (hl : (b.drv n).leverSel = false)
    (hs : b.standby = true → b.pairedCh n = false) {y : Drive} (hy : b.bridgeAll.drvs[n]? = some y) :
    y.bridge.isSome = true := by
  obtain ⟨l₁, l₂, hrange⟩ := List.append_of_mem (List.mem_range.mpr hn)
  have hall : b.bridgeAll = l₂.foldl (fun b i => b.bridgeOne i) ((l₁.foldl (fun b i => b.bridgeOne i) b).bridgeOne n) := by
    rw [← List.foldl_cons (l := l₂) (f := fun b i => Blk.bridgeOne b i), ← List.foldl_append, ← hrange]
    rfl
  have hlt : ∀ i ∈ l₁ ++ n :: l₂, i < 8 := fun i hi => List.mem_range.mp (hrange ▸ hi)
  have hbefore : PassageKept b (l₁.foldl (fun b i => b.bridgeOne i) b) :=
    List.foldlRecOn (motive := fun c => PassageKept b c) l₁ _ (passage_refl b) fun _ hc i hi =>
      passage_trans hc (bridgeOne_passage (hlt i (by simp [hi])))
  generalize l₁.foldl (fun b i => b.bridgeOne i) b = c at hall hbefore
  have hafter : PassageKept (c.bridgeOne n) b.bridgeAll := by
    rw [hall]
    exact List.foldlRecOn (motive := fun d => PassageKept (c.bridgeOne n) d) l₂ _ (passage_refl _) fun _ hd i hi =>
      passage_trans hd (bridgeOne_passage (hlt i (by simp [hi])))
  have hone : c.bridgeOne n = c.enterBridge n := by
    refine if_neg ?_
    rw [standby_of_passage hbefore, pairedCh_of_passage hbefore hn]
    intro h
    obtain ⟨h1, h2⟩ := Bool.and_eq_true_iff.mp h
    exact absurd ((hs h1).symm.trans h2) Bool.false_ne_true
  obtain ⟨x, hx, -, hxy⟩ := hafter.drives n y hy
  rw [hone] at hx
  obtain ⟨w, hw, -, -⟩ := (enterBridge_passage (b := c) hn).drives n x hx
  obtain ⟨z, hz, hlz, -⟩ := hbefore.drives n w hw
  refine hxy (enterBridge_bridges hn ((configured_of_passage hbefore hn).trans hc) ?_ hx)
  rw [Blk.drv, List.getD_eq_getElem?_getD] at hl ⊢
  rw [hw]
  rw [hz] at hl
  exact hlz.trans hl

/-- The loss of the heartbeat as a passage: HIF_STAT and its event, then the drives. -/
theorem heartbeatLost_passage (hb : Nat) :
    PassageKept ((b.wr R.HIF_STAT_HB hb).raise 0x2201 0 []) (b.heartbeatLost hb) :=
  passage_trans (passage_onHost fun q => noCommands_map q _) bridgeAll_passage

theorem heartbeatLost_reported (hb : Nat) : Reported (b.heartbeatLost hb) 0x2201 0 :=
  (heartbeatLost_passage hb).reports _ _ (Blk.raise_self ..)

theorem heartbeatLost_hb {hb : Nat} (h : hb < 4) : (b.heartbeatLost hb).rd R.HIF_STAT_HB = hb := by
  rw [same_rd (heartbeatLost_passage hb).words, Blk.raise_rd _ _ _ _ _ (by decide)]
  · exact (Blk.rd_wr_self _ _ _ inWord_of).trans (Nat.mod_eq_of_lt h)
  · exact not_passageWords (by decide) (.inl (by decide))

end

end Sys2Proof.Machine
end

section
/-! PROOFS. The heartbeat, stray writes, MSI-X vectors, the reset of a ring and PERST_N (R404, R407, R408, R412, R425, R426,
R445, R520). -/

namespace Sys2Proof.Machine

section
variable {b : Blk}

/-! The heartbeat (R425). -/

theorem doHeartbeat_arms (hp : b.powered .host = true) :
    b.doHeartbeat.rd R.HIF_STAT_HB = 1 ∧ b.doHeartbeat.host = { b.host with hbAge := 0 } ∧
      (b.rd R.HIF_STAT_HB = 2 → Reported b.doHeartbeat 0x2001 0) ∧ b.doHeartbeat.drvs = b.drvs := by
  have hset : ((b.wr R.HIF_STAT_HB 1).onHost (fun x => { x with hbAge := 0 })).rd R.HIF_STAT_HB = 1 :=
    (Blk.onHost_rd ..).trans (Blk.rd_wr_self _ _ 1 inWord_of)
  have hhost : ((b.wr R.HIF_STAT_HB 1).onHost (fun x => { x with hbAge := 0 })).host = { b.host with hbAge := 0 } := rfl
  have hdrvs : ((b.wr R.HIF_STAT_HB 1).onHost (fun x => { x with hbAge := 0 })).drvs = b.drvs :=
    (Blk.onHost_drvs ..).trans (Blk.wr_drvs ..)
  rw [Blk.doHeartbeat, if_pos hp]
  dsimp only
  split_ifs with hlost
  · exact ⟨(Blk.raise_rd _ _ _ _ _ (by decide)).trans hset, (Blk.raise_host ..).trans hhost, fun _ => Blk.raise_self ..,
      (Blk.raise_drvs ..).trans hdrvs⟩
  · exact ⟨hset, hhost, fun h => absurd (beq_iff_eq.mpr h) hlost, hdrvs⟩

theorem doHeartbeatLoss_lost (hb : b.rd R.HIF_STAT_HB = 1) (ht : b.rd R.HIF_HB_TMO * cycPerMs ≤ b.host.hbAge) :
    b.doHeartbeatLoss = b.heartbeatLost 2 := if_pos ⟨hb, ht⟩

/-- The drives at the loss: as they were, their bridge lost (R426). -/
theorem heartbeatLost_bridges (hb : Nat) {n : Nat} (hn : n < 8) (hc : b.configured n = true) (hl : (b.drv n).leverSel = false)
    (hs : b.standby = true → b.pairedCh n = false) {y : Drive} (hy : (b.heartbeatLost hb).drvs[n]? = some y) :
    y.bridge.isSome = true := by
  have hsame : SameBut b ((b.wr R.HIF_STAT_HB hb).raise 0x2201 0 []) fun a => a = 0x4004 ∨ a = 0x4020 :=
    same_raise (same_wr (same_refl b _) _ _ (.inl rfl)) _ _ _ (.inr rfl)
  have hdrvs : ((b.wr R.HIF_STAT_HB hb).raise 0x2201 0 []).drvs = b.drvs := (Blk.raise_drvs ..).trans (Blk.wr_drvs ..)
  have hconf : ((b.wr R.HIF_STAT_HB hb).raise 0x2201 0 []).configured n = b.configured n := by
    simp only [Blk.configured, if_pos hn]
    exact same_on hsame _ (not_or.mpr ⟨ne_above, ne_above⟩)
  have hrole : ((b.wr R.HIF_STAT_HB hb).raise 0x2201 0 []).standby = b.standby := by
    simp only [Blk.standby, Blk.role, same_rd hsame R.MIR_STAT_ROLE (by decide)]
  have hmap : ((b.wr R.HIF_STAT_HB hb).raise 0x2201 0 []).pairedCh n = b.pairedCh n := by
    simp only [Blk.pairedCh, hconf, same_on hsame (bitOf R.MIR_CHMAP_PAIRED n) (show ¬ (0x13004 = 0x4004 ∨ 0x13004 = 0x4020) by decide)]
  generalize hd : (b.wr R.HIF_STAT_HB hb).raise 0x2201 0 [] = d at hdrvs hconf hrole hmap
  have hy' : (d.onHost (fun x => { x with slots := x.slots.map (fun l => l.map (supersedeResume d.fn)) })).bridgeAll.drvs[n]? =
      some y := by
    rw [← hd]
    exact hy
  refine bridgeAll_bridges (b := d.onHost _) hn (hconf.trans hc) ?_ (fun h => hmap.trans (hs (hrole.symm.trans h))) hy'
  show (d.drvs.getD n default).leverSel = false
  rw [hdrvs]
  exact hl

/-! A stray write (R407) and an MSI-X vector (R408). -/

theorem doStray_counts (hp : b.powered .host = true) :
    b.doStray.rd R.HIF_ERRCNT_BAR2 = min (b.rd R.HIF_ERRCNT_BAR2 + 1) R.HIF_ERRCNT_BAR2.top ∧
      SameBut b b.doStray (fun a => a = R.HIF_ERRCNT_BAR2.off) ∧ b.doStray.host = b.host := by
  rw [Blk.doStray, if_pos hp]
  exact ⟨Blk.rd_inc_self b _ inWord_of, same_inc (same_refl b _) _ rfl, Blk.wr_host ..⟩

theorem signal_host (v : Nat) : (b.signal v).host = b.host := by
  unfold Blk.signal
  split_ifs <;> rfl

theorem signal_signals {v : Nat} (hv : v < 32) :
    if b.on (R.MSIX_CTL_MASK v) then (b.signal v).on (bitOf R.MSIX_PBA_PEND v) = true ∧ (b.signal v).out = b.out
    else (b.signal v).out = .msix v :: b.out ∧ (b.signal v).regs = b.regs := by
  unfold Blk.signal
  split_ifs
  · exact ⟨Blk.on_flag_self _ _ true (le_of_eq_of_le (congrArg (· + 1) (Nat.zero_add v)) hv) rfl, Blk.wr_out ..⟩
  · exact ⟨rfl, rfl⟩

theorem doMsix_signals {v : Nat} (hp : b.powered .host = true) (hv : v ≤ 6) (hd : b.msixDue (4 + v) = true) :
    (∀ x, (b.doMsix v).host.rings[4 + v]? = some x → x.unsig = 0) ∧
      (if b.on (R.MSIX_CTL_MASK v) then (b.doMsix v).on (bitOf R.MSIX_PBA_PEND v) = true ∧ (b.doMsix v).out = b.out
        else (b.doMsix v).out = .msix v :: b.out ∧ (b.doMsix v).regs = b.regs) := by
  rw [Blk.doMsix, if_neg (by rw [hp]; decide), if_pos hv, if_pos hd]
  refine ⟨fun x hx => ?_, signal_signals (b := b.onHost _) (lt_of_le_of_lt hv (by decide))⟩
  rw [signal_host] at hx
  obtain ⟨y, -, rfl⟩ := getElem?_modify_self hx
  rfl

/-! The reset of a ring (R412, R445). -/

theorem doomTxn_regs (r : Nat) : (b.doomTxn r).regs = b.regs := by
  unfold Blk.doomTxn
  split_ifs <;> rfl

theorem doomTxn_host (r : Nat) : (b.doomTxn r).host = b.host := by
  unfold Blk.doomTxn
  split_ifs <;> rfl

theorem doomTxn_dooms {r : Nat} (h : b.rd (R.TXN_STAT_STATE r) ≠ 0) {x : Txn} (hx : (b.doomTxn r).txns.open_[r]? = some x) :
    x.doom = true := by
  rw [Blk.doomTxn, if_neg h] at hx
  obtain ⟨y, -, rfl⟩ := getElem?_modify_self hx
  rfl

/-- A ring's registers and its state after a reset. -/
def Blk.ringCleared (b : Blk) (q : Nat) : Blk :=
  (((((b.wr (R.RING_IDX_MOD q) 0).wr (R.RING_IDX_HOST q) 0).wr (R.RING_STAT_CAUSE q) 0).wr (R.RING_STAT_STATE q)
    (b2n (b.on (R.RING_CTL_EN q)))).onHost (fun x => { x with rings := x.rings.modify q (fun _ => ⟨true, 0, 0⟩) }))

theorem ringCleared_same (q : Nat) :
    SameBut b (b.ringCleared q) fun a => a = (R.RING_IDX_MOD q).off ∨ a = (R.RING_STAT_STATE q).off := by
  unfold Blk.ringCleared
  exact same_onHost (same_wr (same_wr (same_wr (same_wr (same_refl b _) _ _ (.inl rfl)) _ _ (.inl rfl)) _ _ (.inr rfl))
    _ _ (.inr rfl)) _

theorem ringCleared_shows (q : Nat) :
    (b.ringCleared q).rd (R.RING_IDX_MOD q) = 0 ∧ (b.ringCleared q).rd (R.RING_IDX_HOST q) = 0 ∧
      (b.ringCleared q).rd (R.RING_STAT_CAUSE q) = 0 ∧
      (b.ringCleared q).rd (R.RING_STAT_STATE q) = b2n (b.on (R.RING_CTL_EN q)) := by
  have hoff : (R.RING_IDX_MOD q).off ≠ (R.RING_STAT_CAUSE q).off ∧ (R.RING_IDX_MOD q).off ≠ (R.RING_STAT_STATE q).off :=
    ⟨ne_beside, ne_beside⟩
  unfold Blk.ringCleared
  refine ⟨?_, ?_, ?_, ?_⟩ <;> rw [Blk.onHost_rd]
  · rw [Blk.rd_wr_off _ _ _ _ hoff.2, Blk.rd_wr_off _ _ _ _ hoff.1]
    exact (Blk.rd_wr_apart _ _ _ _ inWord_of apart_below).trans (Blk.rd_wr_self _ _ 0 inWord_of)
  · rw [Blk.rd_wr_off _ _ (R.RING_IDX_HOST q) _ hoff.2, Blk.rd_wr_off _ _ (R.RING_IDX_HOST q) _ hoff.1]
    exact Blk.rd_wr_self _ _ 0 inWord_of
  · exact (Blk.rd_wr_apart _ _ _ _ inWord_of apart_below).trans (Blk.rd_wr_self _ _ 0 inWord_of)
  · refine (Blk.rd_wr_self _ _ _ inWord_of).trans (Nat.mod_eq_of_lt ?_)
    exact (by decide : ∀ x, b2n x < 4) _

theorem ringCleared_ring (q : Nat) {x : RingSt} (hx : (b.ringCleared q).host.rings[q]? = some x) :
    x.phase = true ∧ x.unsig = 0 := by
  obtain ⟨y, -, rfl⟩ := getElem?_modify_self hx
  exact ⟨rfl, rfl⟩

theorem doRingReset_eq {q : Nat} (hp : b.powered .host = true) :
    b.doRingReset q = if q < 4 then (b.ringCleared q).doomTxn q else b.ringCleared q := by
  have hen : ((b.wr (R.RING_IDX_MOD q) 0).wr (R.RING_IDX_HOST q) 0).on (R.RING_CTL_EN q) = b.on (R.RING_CTL_EN q) := by
    have hmod : (R.RING_CTL_EN q).off ≠ (R.RING_IDX_MOD q).off := ne_beside
    have hhost : (R.RING_CTL_EN q).off ≠ (R.RING_IDX_HOST q).off := hmod
    simp only [Blk.on, Blk.rd_wr_off _ _ _ _ hhost, Blk.rd_wr_off _ _ _ _ hmod]
  unfold Blk.doRingReset Blk.ringCleared
  dsimp only
  rw [if_neg (by rw [hp]; decide), hen]

theorem doRingReset_resets {q : Nat} (hp : b.powered .host = true) :
    (b.doRingReset q).rd (R.RING_IDX_MOD q) = 0 ∧ (b.doRingReset q).rd (R.RING_IDX_HOST q) = 0 ∧
      (b.doRingReset q).rd (R.RING_STAT_CAUSE q) = 0 ∧
      (b.doRingReset q).rd (R.RING_STAT_STATE q) = b2n (b.on (R.RING_CTL_EN q)) ∧
      (∀ x, (b.doRingReset q).host.rings[q]? = some x → x.phase = true ∧ x.unsig = 0) ∧
      (∀ x, q < 4 → b.rd (R.TXN_STAT_STATE q) ≠ 0 → (b.doRingReset q).txns.open_[q]? = some x → x.doom = true) := by
  obtain ⟨hmod, hhost, hcause, hstate⟩ := ringCleared_shows (b := b) q
  have hrd : ∀ f, (b.doRingReset q).rd f = (b.ringCleared q).rd f := fun f => by
    rw [doRingReset_eq hp]
    split_ifs
    · exact congrArg f.get (congrArg (fun r => (regFind r f.off).getD (resetWord f.off)) (doomTxn_regs q))
    · rfl
  refine ⟨(hrd _).trans hmod, (hrd _).trans hhost, (hrd _).trans hcause, (hrd _).trans hstate, fun x hx => ?_,
    fun x hq4 hst hx => ?_⟩
  · refine ringCleared_ring (b := b) q ?_
    rw [doRingReset_eq hp] at hx
    split_ifs at hx
    · rwa [doomTxn_host] at hx
    · exact hx
  · rw [doRingReset_eq hp, if_pos hq4] at hx
    refine doomTxn_dooms (b := b.ringCleared q) ?_ hx
    rw [same_rd (ringCleared_same q)]
    · exact hst
    · have hbelow : ∀ a, a < 0x4200 → 0x5010 + 0x4 * q ≠ a + 0x20 * q := fun a ha => Nat.ne_of_gt (lt_of_lt_of_le
        (lt_of_lt_of_le (Nat.add_lt_add_right ha _) ((by decide : ∀ q < 4, 0x4200 + 0x20 * q ≤ 0x5010) q hq4)) (Nat.le_add_right ..))
      exact not_or.mpr ⟨hbelow _ (by decide), hbelow _ (by decide)⟩

end

end Sys2Proof.Machine
end

section
/-! PROOFS. PERST_N and the link that trains again (R404, R445, R520); the statements about the host interface. -/

namespace Sys2Proof.Machine

section
variable {b : Blk}

/-! Registers whose reset source acted (R14). -/

theorem resetRegs_regs (p : RegDesc → Bool) : (b.resetRegs p).regs = b.regs.filter (fun e => !(findReg e.1).any p) := by
  refine congrArg (fun q => b.regs.filter q) (funext fun e => ?_)
  cases findReg e.1 <;> rfl

theorem word_reset {c : Blk} {p : RegDesc → Bool} (h : c.regs = b.regs.filter (fun e => !(findReg e.1).any p)) (a : Nat) :
    c.word a = if (findReg a).any p then resetWord a else b.word a := by
  rw [Blk.word, h, regFind_filter b.regs (fun a => !(findReg a).any p)]
  cases (findReg a).any p <;> rfl

/-- PERST_N takes the rings and the heartbeat with it, no gate. -/
def RegDesc.ofPerst (d : RegDesc) : Bool := d.src == .perst

theorem perst_resets_hb : (findReg R.HIF_STAT_HB.off).any RegDesc.ofPerst = true ∧ resetWord R.HIF_STAT_HB.off = 0 := by
  decide

theorem perst_resets_ring : ∀ q : Fin 11, (findReg (R.RING_CTL_EN q).off).any RegDesc.ofPerst = true ∧
    (R.RING_CTL_EN q).get (resetWord (R.RING_CTL_EN q).off) = 0 := by
  decide

theorem perst_leaves_stat : ∀ n : Fin 8, (findReg (R.Dn_STAT_PSTATE n).off).any RegDesc.ofPerst = false := by
  decide

/-! The row of PERST_N. -/

/-- The block as PERST_N leaves it before the loss of an armed heartbeat: no command, the registers of its reset source. -/
theorem doPerst_eq (hp : b.powered .host = true) : ∃ c : Blk,
    b.doPerst = (if b.rd R.HIF_STAT_HB == 1 then c.heartbeatLost 0 else c).raise 0x2106 0 [] ∧
      c.regs = b.regs.filter (fun e => !(findReg e.1).any RegDesc.ofPerst) ∧ c.noCommands := by
  have hdoom : ([0, 1, 2, 3].foldl (fun b r => Blk.doomTxn b r) b).regs = b.regs :=
    List.foldlRecOn (motive := fun (c : Blk) => c.regs = b.regs) _ _ rfl fun c hc r _ => (doomTxn_regs r).trans hc
  unfold Blk.doPerst
  rw [if_neg (by rw [hp]; decide)]
  refine ⟨_, rfl, (resetRegs_regs (b := [0, 1, 2, 3].foldl (fun b r => Blk.doomTxn b r) b) RegDesc.ofPerst).trans ?_,
    ⟨rfl, fun l hl => List.eq_of_mem_replicate hl, fun t ht => ?_⟩⟩
  · rw [hdoom]
  · obtain ⟨x, -, rfl⟩ := List.mem_map.mp ht
    rfl

theorem noCommands_slots (h : b.noCommands) : b.host.slots = List.replicate 4 [] := by
  obtain ⟨hlen, hnil, -⟩ := h
  exact List.eq_replicate_iff.mpr ⟨hlen, hnil⟩

theorem noCommands_of_host {c : Blk} (h : b.noCommands) (hh : c.host = b.host) (ht : c.tuns = b.tuns) : c.noCommands := by
  unfold Blk.noCommands
  rw [hh, ht]
  exact h

/-- The loss of an armed heartbeat leaves what PERST_N cleared. -/
theorem perstLoss_keeps {c : Blk} (armed : Prop) [Decidable armed] (hq : c.noCommands) (hhb : c.rd R.HIF_STAT_HB = 0) :
    (if armed then c.heartbeatLost 0 else c).noCommands ∧ (if armed then c.heartbeatLost 0 else c).rd R.HIF_STAT_HB = 0 ∧
      SameBut c (if armed then c.heartbeatLost 0 else c) (fun a => a = R.HIF_STAT_HB.off ∨ passageWords a) := by
  split_ifs
  · refine ⟨(heartbeatLost_passage 0).quiet (noCommands_of_host hq ?_ ?_), heartbeatLost_hb (by decide), ?_⟩
    · exact (Blk.raise_host ..).trans (Blk.wr_host ..)
    · exact (Blk.raise_tuns ..).trans (Blk.wr_tuns ..)
    · exact same_trans (same_raise (same_wr (same_refl c _) _ _ (.inl rfl)) _ _ _ (.inr (.inr (.inl rfl))))
        (same_mono (heartbeatLost_passage 0).words fun _ => .inr)
  · exact ⟨hq, hhb, same_refl c _⟩

theorem perstRow_same : SameBut b.doPerst b.perstRow fun a => a = R.HIF_STAT_SPEED.off := by
  have hup : SameBut b.doPerst (b.doPerst.onPwr fun p => { p with perst := true }) fun a => a = R.HIF_STAT_SPEED.off :=
    same_regs (Blk.onPwr_regs ..)
  exact same_wr (same_wr hup R.HIF_STAT_SPEED 0 rfl) R.HIF_STAT_WIDTH 0 rfl

theorem perstRow_clears (hp : b.powered .host = true) :
    b.perstRow.host.slots = List.replicate 4 [] ∧ b.perstRow.rd R.HIF_STAT_HB = 0 ∧
      (∀ q : Fin 11, b.perstRow.on (R.RING_CTL_EN q) = false) ∧ b.perstRow.pwr.perst = true ∧
      Reported b.perstRow 0x2106 0 ∧ ∀ n : Fin 8, b.perstRow.pstate n = b.pstate n := by
  obtain ⟨c, hc, hregs, hq⟩ := doPerst_eq hp
  have hword := word_reset (c := c) hregs
  obtain ⟨hquiet, hhb, hsame⟩ := perstLoss_keeps (c := c) ((b.rd R.HIF_STAT_HB == 1) = true) hq (by
    rw [Blk.rd, hword, if_pos perst_resets_hb.1, perst_resets_hb.2]
    rfl)
  generalize (if b.rd R.HIF_STAT_HB == 1 then c.heartbeatLost 0 else c) = d at hc hquiet hhb hsame
  have hrow : SameBut c b.perstRow fun a => a = R.HIF_STAT_HB.off ∨ passageWords a :=
    same_trans (same_trans hsame (hc ▸ same_raise (same_refl d _) _ _ _ (.inr (.inr (.inl rfl)))))
      (same_mono perstRow_same fun _ => .inl)
  have hhost : b.perstRow.host = b.doPerst.host := (Blk.wr_host ..).trans ((Blk.wr_host ..).trans (Blk.onPwr_host ..))
  have hapart : ∀ a, 0x4108 ≤ a → a < 0xD000 → ¬ (a = R.HIF_STAT_HB.off ∨ passageWords a) := by
    rintro a hlo hhi (rfl | h)
    · exact absurd hlo (by decide)
    · exact not_passageWords (Nat.ne_of_gt (lt_of_lt_of_le (by decide) hlo)) (.inl (lt_trans hhi (by decide))) h
  refine ⟨?_, ?_, fun q => ?_, ?_, ?_, fun n => ?_⟩
  · rw [hhost, hc, Blk.raise_host]
    exact noCommands_slots hquiet
  · refine (Blk.rd_wr_apart _ _ _ _ inWord_of apart_above).trans ((Blk.rd_wr_apart _ _ _ _ inWord_of apart_above).trans ?_)
    rw [Blk.onPwr_rd, hc, Blk.raise_rd _ _ _ _ _ (by decide)]
    exact hhb
  · obtain ⟨hsrc, hzero⟩ := perst_resets_ring q
    rw [same_on hrow _ (hapart _ (le_above) (lt_trans (Nat.add_lt_add_left (Nat.mul_lt_mul_of_pos_left q.isLt (by decide)) _) (by decide))), Blk.on, Blk.rd,
      hword, if_pos hsrc, hzero]
    rfl
  · exact congrArg Pwr.perst ((Blk.wr_pwr ..).trans (Blk.wr_pwr ..))
  · have hrep : Reported (b.doPerst.onPwr fun p => { p with perst := true }) 0x2106 0 := by
      rw [hc]
      exact Blk.raise_self ..
    have hwr : ∀ {e : Blk} (f : Fld) (v : Nat), f.off = R.HIF_STAT_SPEED.off → Reported e 0x2106 0 →
        Reported (e.wr f v) 0x2106 0 := fun f v hf h =>
      reported_wr h f v (by rw [hf]; decide) (ringSpace_wr _ f v 10 (by rw [hf]; decide) (by decide) (by rw [hf]; decide))
    exact hwr _ _ rfl (hwr _ _ rfl hrep)
  · refine (same_rd hrow _ (hapart _ (le_above) (lt_trans (Nat.add_lt_add_left (Nat.mul_lt_mul_of_pos_left n.isLt (by decide)) _) (by decide)))).trans ?_
    rw [Blk.rd, hword, if_neg (by rw [perst_leaves_stat n]; decide)]
    rfl

/-- PERST_N released: the link as it trained (R403, R520). -/
theorem linkTrains_shows {g w : Nat} (hp : b.powered .host = true) (hg : g ≠ 0) (hg4 : g < 4) (hw : w = 1 ∨ w = 2) :
    (b.linkTrains g w).pwr.perst = false ∧ (b.linkTrains g w).rd R.HIF_STAT_SPEED = g ∧
      (b.linkTrains g w).rd R.HIF_STAT_WIDTH = w := by
  unfold Blk.linkTrains
  rw [if_neg (by rw [hp]; simp; omega)]
  refine ⟨?_, ?_, ?_⟩
  · rfl
  · exact (Blk.rd_wr_apart _ _ _ _ inWord_of apart_above).trans ((Blk.rd_wr_self _ _ _ inWord_of).trans (Nat.mod_eq_of_lt hg4))
  · exact (Blk.rd_wr_self _ _ _ inWord_of).trans (Nat.mod_eq_of_lt (show w < 4 from hw.elim (fun h => h ▸ by decide) fun h => h ▸ by decide))

end

/-- Settles O26: each row by what it writes. -/
theorem hostInterface : Obligations.HostInterface := by
  unfold Obligations.HostInterface
  refine ⟨?beat, ?loss, ?stray, ?msix, ?reset, ?perst, ?train⟩
  case beat => exact fun s v hp => ⟨_, rfl, doHeartbeat_arms hp⟩
  case loss =>
    refine fun s hp hb ht => yields_within rfl hp ?_
    rw [doHeartbeatLoss_lost hb ht]
    exact ⟨heartbeatLost_hb (by decide), heartbeatLost_reported 2, fun n d hc hl hs hd =>
      heartbeatLost_bridges 2 n.isLt hc hl hs hd⟩
  case stray => exact fun s off v hp => ⟨_, rfl, doStray_counts hp⟩
  case msix => exact fun s v hp hv hd => ⟨_, rfl, doMsix_signals hp hv hd⟩
  case reset => exact fun s q hp => ⟨_, rfl, doRingReset_resets hp⟩
  case perst => exact fun s _ hp => ⟨_, rfl, perstRow_clears hp⟩
  case train => exact fun s g w hp hg hw => ⟨_, rfl, linkTrains_shows hp hg g.isLt hw⟩

end Sys2Proof.Machine
end

section
/-! PROOFS. Telemetry records and event entries (R419 to R424). -/

namespace Sys2Proof.Machine

section
variable {b : Blk}

/-! The bytes of a telemetry entry (R6, R419). -/

theorem leBytes_length (n v : Nat) : (leBytes n v).length = n := by
  induction n generalizing v with
  | zero => rfl
  | succ n ih => exact congrArg (· + 1) (ih _)

theorem telBytes_length (type flags seq fn src div ns : Nat) (pay : List Byte) :
    (telBytes type flags seq fn src div ns pay).length = 64 := by
  simp only [telBytes, List.length_append, leBytes_length, List.length_take, List.length_replicate, List.length_cons,
    List.length_nil]
  omega

theorem telBytes_type {type : Nat} (flags seq fn src div ns : Nat) (pay : List Byte) (h : type < 256) :
    byteAt (telBytes type flags seq fn src div ns pay) 0 = type :=
  (BitVec.toNat_ofNat ..).trans (Nat.mod_eq_of_lt h)

theorem telBytes_src {src : Nat} (type flags seq fn div ns : Nat) (pay : List Byte) (h : src < 256) :
    byteAt (telBytes type flags seq fn src div ns pay) 10 = src :=
  (BitVec.toNat_ofNat ..).trans (Nat.mod_eq_of_lt h)

/-! An entry written to its ring. -/

theorem onHost_rings_twice (rings : List RingSt) (f : List RingSt → List RingSt) :
    (b.onHost fun x => { x with rings := rings }).onHost (fun x => { x with rings := f x.rings }) =
      b.onHost fun x => { x with rings := f rings } := rfl

theorem onHost_rings_telDue (rings : List RingSt) :
    (b.onHost fun x => { x with rings := rings }).host.telDue = b.host.telDue := rfl

theorem wrote_eq (q : Nat) (silent : Bool) : ∃ v rings,
    b.wrote q silent = (b.wr (R.RING_IDX_MOD q) v).onHost fun x => { x with rings := rings } := by
  obtain ⟨v, rings, h⟩ := advance1_eq b q
  unfold Blk.wrote
  dsimp only
  rw [h]
  split_ifs
  · exact ⟨v, rings, rfl⟩
  · exact ⟨v, _, onHost_rings_twice _ _⟩

theorem wrote_telDue (q : Nat) (silent : Bool) : (b.wrote q silent).host.telDue = b.host.telDue := by
  obtain ⟨v, rings, h⟩ := wrote_eq (b := b) q silent
  rw [h]
  exact (onHost_rings_telDue rings).trans (congrArg HostIf.telDue (Blk.wr_host ..))

theorem wrote_tuns (q : Nat) (silent : Bool) : (b.wrote q silent).tuns = b.tuns := by
  obtain ⟨v, rings, h⟩ := wrote_eq (b := b) q silent
  rw [h]
  exact (Blk.onHost_tuns ..).trans (Blk.wr_tuns ..)

section
variable (t type flags seq fn src div ns : Nat) (pay : List Byte)

theorem telWrite_kept : (b.telWrite t type flags seq fn src div ns pay).evs = b.evs ∧
    (b.telWrite t type flags seq fn src div ns pay).host.telDue = b.host.telDue ∧
    (b.telWrite t type flags seq fn src div ns pay).tuns = b.tuns := by
  obtain ⟨-, hevs, -⟩ := wrote_kept
    (b.send (.telemetry t (telBytes type (flags + b2n (b.phase (8 + t))) seq fn src div ns pay))) (8 + t) false
  exact ⟨hevs, wrote_telDue .., wrote_tuns ..⟩

theorem telWrite_out : (b.telWrite t type flags seq fn src div ns pay).out =
    .telemetry t (telBytes type (flags + b2n (b.phase (8 + t))) seq fn src div ns pay) :: b.out := by
  obtain ⟨-, -, hout⟩ := wrote_kept
    (b.send (.telemetry t (telBytes type (flags + b2n (b.phase (8 + t))) seq fn src div ns pay))) (8 + t) false
  exact hout

end

/-- No GAP record where nothing was dropped (R422). -/
theorem telGap_none {t : Nat} (h : b.host.telDrop.getD t 0 = 0) : b.telGap t = b := if_pos (.inl h)

/-- A record of a channel that is due leaves for its ring. -/
theorem telChan_writes {c : Nat} (hc : c ∈ b.host.telDue) (hr : b.ringRuns (8 + b.rd R.HIF_TELCFG_RING) = true)
    (hd : b.host.telDrop.getD (b.rd R.HIF_TELCFG_RING) 0 = 0) (hs : b.ringSpace (8 + b.rd R.HIF_TELCFG_RING) ≠ 0) :
    ∃ flags seq fn div pay, ∃ d : Blk, d.evs = b.evs ∧ d.out = b.out ∧
      d.host.telDue = b.host.telDue.filter (fun y => y != c) ∧
      b.telChan c ⟨[], []⟩ false =
        d.telWrite (b.rd R.HIF_TELCFG_RING) (if c < 8 then 1 else 2) flags seq fn c div 0 pay := by
  unfold Blk.telChan
  rw [if_neg (by simp [hc])]
  dsimp only
  generalize hd' : b.onHost (fun x => { x with telDue := x.telDue.filter (fun y => y != c) }) = d
  have hgap : d.telGap (b.rd R.HIF_TELCFG_RING) = d := telGap_none (by rw [← hd']; exact hd)
  have hruns : d.ringRuns (8 + b.rd R.HIF_TELCFG_RING) = true := by rw [← hd']; exact hr
  have hspace : d.ringSpace (8 + b.rd R.HIF_TELCFG_RING) ≠ 0 := by rw [← hd']; exact hs
  rw [if_neg (by rw [hruns]; decide), if_neg (by decide), hgap, if_neg hspace]
  simp only [writeBack_clean, Bool.false_eq_true, if_false]
  refine ⟨_, _, _, _, _, _, ?_, ?_, ?_, rfl⟩ <;> rw [← hd'] <;> rfl

theorem telChan_record {c : Nat} (hlt : c < 256) (hc : c ∈ b.host.telDue)
    (hr : b.ringRuns (8 + b.rd R.HIF_TELCFG_RING) = true) (hd : b.host.telDrop.getD (b.rd R.HIF_TELCFG_RING) 0 = 0)
    (hs : b.ringSpace (8 + b.rd R.HIF_TELCFG_RING) ≠ 0) :
    c ∉ (b.telChan c ⟨[], []⟩ false).host.telDue ∧ (b.telChan c ⟨[], []⟩ false).evs = b.evs ∧
      ∃ e, (b.telChan c ⟨[], []⟩ false).out = .telemetry (b.rd R.HIF_TELCFG_RING) e :: b.out ∧ e.length = 64 ∧
        byteAt e 0 = (if c < 8 then 1 else 2) ∧ byteAt e 10 = c := by
  obtain ⟨flags, seq, fn, div, pay, d, hevs, hout, hdue, h⟩ := telChan_writes hc hr hd hs
  have hty : (if c < 8 then 1 else 2) < 256 := by split_ifs <;> decide
  obtain ⟨kevs, kdue, -⟩ := telWrite_kept (b := d) (b.rd R.HIF_TELCFG_RING) (if c < 8 then 1 else 2) flags seq fn c div 0 pay
  rw [h, kdue, hdue, kevs, hevs]
  exact ⟨by simp, rfl, _, (telWrite_out ..).trans (congrArg (List.cons _) hout), telBytes_length ..,
    telBytes_type _ _ _ _ _ _ _ hty, telBytes_src _ _ _ _ _ _ _ hlt⟩

/-- A pair with samples is one of the pairs. -/
theorem lt_of_buf {k : Nat} (h : 24 ≤ (b.tun k).buf.length) : k < b.tuns.length := by
  by_contra hk
  rw [Blk.tun, List.getD_eq_default _ _ (Nat.le_of_not_lt hk)] at h
  exact absurd h (by decide)

theorem tun_onTun {k : Nat} (hk : k < b.tuns.length) (f : Tuner → Tuner) : (b.onTun k f).tun k = f (b.tun k) := by
  simp [Blk.tun, Blk.onTun, List.getD_eq_getElem?_getD, hk]

/-- A CAPTURE record of 24 pairs leaves as two entries (R421). -/
theorem telCapture_writes {k : Nat} (hr : b.rd (R.LE_CAPSTAT_CAP k) = 2 ∨ b.rd (R.LE_CAPSTAT_CAP k) = 3)
    (h24 : 24 ≤ (b.tun k).buf.length) (hruns : b.ringRuns (8 + b.rd (R.LE_CAPCFG_RING k)) = true)
    (hd : b.host.telDrop.getD (b.rd (R.LE_CAPCFG_RING k)) 0 = 0) (hs : 2 ≤ b.ringSpace (8 + b.rd (R.LE_CAPCFG_RING k))) :
    ∃ f1 f2 seq fn1 fn2 div1 div2 n1 n2 p1 p2, ∃ d : Blk, d.out = b.out ∧ (d.tun k).buf = (b.tun k).buf.drop 24 ∧
      b.telCapture k ⟨[], []⟩ false =
        (d.telWrite (b.rd (R.LE_CAPCFG_RING k)) 3 f1 seq fn1 k div1 n1 p1).telWrite (b.rd (R.LE_CAPCFG_RING k)) 3 f2 seq fn2 k
          div2 n2 p2 := by
  have h24' : ((b.tun k).buf.take 24).length = 24 := (List.length_take ..).trans (min_eq_left h24)
  have hruns' : [2, 3].contains (b.rd (R.LE_CAPSTAT_CAP k)) = true := by
    obtain h | h := hr <;> rw [h] <;> rfl
  unfold Blk.telCapture
  dsimp only
  rw [if_neg (by rw [hruns', h24', hruns]; simp), if_neg (by decide), telGap_none hd, h24']
  simp only [writeBack_clean, Bool.false_eq_true, if_false, show decide (12 < 24) = true from rfl, if_true]
  rw [if_neg (by omega)]
  refine ⟨_, _, _, _, _, _, _, _, _, _, _, _, ?_, ?_, rfl⟩
  · exact (Blk.wr_out ..).trans (Blk.onTun_out ..)
  · exact (congrArg (fun l => (l.getD k default).buf) (Blk.wr_tuns ..)).trans
      (congrArg Tuner.buf (tun_onTun (lt_of_buf h24) _))

theorem telCapture_records {k : Nat} (hr : b.rd (R.LE_CAPSTAT_CAP k) = 2 ∨ b.rd (R.LE_CAPSTAT_CAP k) = 3)
    (h24 : 24 ≤ (b.tun k).buf.length) (hruns : b.ringRuns (8 + b.rd (R.LE_CAPCFG_RING k)) = true)
    (hd : b.host.telDrop.getD (b.rd (R.LE_CAPCFG_RING k)) 0 = 0) (hs : 2 ≤ b.ringSpace (8 + b.rd (R.LE_CAPCFG_RING k))) :
    ((b.telCapture k ⟨[], []⟩ false).tun k).buf = (b.tun k).buf.drop 24 ∧
      ∃ e f, (b.telCapture k ⟨[], []⟩ false).out = .telemetry (b.rd (R.LE_CAPCFG_RING k)) f ::
          .telemetry (b.rd (R.LE_CAPCFG_RING k)) e :: b.out ∧
        byteAt e 0 = 3 ∧ byteAt f 0 = 3 ∧ e.length = 64 ∧ f.length = 64 := by
  obtain ⟨f1, f2, seq, fn1, fn2, div1, div2, n1, n2, p1, p2, d, hout, hbuf, h⟩ := telCapture_writes hr h24 hruns hd hs
  obtain ⟨-, -, k1⟩ := telWrite_kept (b := d) (b.rd (R.LE_CAPCFG_RING k)) 3 f1 seq fn1 k div1 n1 p1
  obtain ⟨-, -, k2⟩ := telWrite_kept (b := d.telWrite (b.rd (R.LE_CAPCFG_RING k)) 3 f1 seq fn1 k div1 n1 p1)
    (b.rd (R.LE_CAPCFG_RING k)) 3 f2 seq fn2 k div2 n2 p2
  rw [h, telWrite_out, telWrite_out, hout]
  refine ⟨?_, _, _, rfl, telBytes_type _ _ _ _ _ _ _ (by decide), telBytes_type _ _ _ _ _ _ _ (by decide), telBytes_length ..,
    telBytes_length ..⟩
  rw [Blk.tun, k2, k1]
  exact hbuf

/-! Event entries (R423, R424). -/

theorem eventOut_out (e : Event) : (b.eventOut e ⟨[], []⟩).out = .event e (b.phase 10) :: b.out := by
  have h := wrote_kept (b.send (.event e (b.phase 10))) 10 (severity e.code == 3)
  obtain ⟨-, -, hout⟩ := h
  unfold Blk.eventOut
  rw [writeBack_clean]
  simp only [Bool.false_eq_true, if_false]
  split_ifs
  · exact (Blk.onHost_out ..).trans hout
  · exact hout

theorem eventOut_evs (e : Event) : (b.eventOut e ⟨[], []⟩).evs = b.evs := by
  have h := wrote_kept (b.send (.event e (b.phase 10))) 10 (severity e.code == 3)
  obtain ⟨-, hevs, -⟩ := h
  unfold Blk.eventOut
  rw [writeBack_clean]
  simp only [Bool.false_eq_true, if_false]
  split_ifs
  · exact (Blk.onHost_evs ..).trans hevs
  · exact hevs

theorem noteDrops_none (h : b.evs.drops = 0) : b.noteDrops = b := if_neg fun hd => hd.1 h

/-- A full ring takes no entry. -/
theorem doEventWrite_full (hs : b.ringSpace 10 = 0) (tag : TagCheck) (d : Bool) : b.doEventWrite tag d = b := by
  have hnone : b.noteDrops = b := if_neg fun hd => Nat.not_lt_zero _ (hs ▸ hd.2)
  unfold Blk.doEventWrite
  rw [hnone]
  exact if_pos (.inl hs)

/-- Severity 3 goes before what waits, unless the entry for what was dropped stands first. -/
theorem doEventWrite_high (hs : b.ringSpace 10 ≠ 0) (hd : b.evs.drops = 0) {e : Event} {l : List Event}
    (hh : b.evs.high = e :: l) (hl : ∀ x m, b.evs.low = x :: m → x.code ≠ 0x2105) :
    b.doEventWrite ⟨[], []⟩ false = Blk.eventOut { b with evs := { b.evs with high := l } } e ⟨[], []⟩ := by
  unfold Blk.doEventWrite
  rw [noteDrops_none hd]
  dsimp only
  rw [if_neg (by simp [hs, hh]), if_neg (by decide), hh]
  cases hlow : b.evs.low with
  | nil => rfl
  | cons x m => exact if_neg (hl x m hlow)

theorem doEventWrite_low (hs : b.ringSpace 10 ≠ 0) (hd : b.evs.drops = 0) {e : Event} {l : List Event}
    (hh : b.evs.high = []) (hl : b.evs.low = e :: l) :
    b.doEventWrite ⟨[], []⟩ false = Blk.eventOut { b with evs := { b.evs with low := l } } e ⟨[], []⟩ := by
  unfold Blk.doEventWrite
  rw [noteDrops_none hd]
  dsimp only
  rw [if_neg (by simp [hs, hl]), if_neg (by decide), hh, hl]

/-- What was dropped is told first, once there is space for it. -/
theorem doEventWrite_drops (hs : b.ringSpace 10 ≠ 0) (hd : b.evs.drops ≠ 0) (hl : b.evs.low = []) : ∃ d : Blk,
    b.doEventWrite ⟨[], []⟩ false = d.eventOut ⟨0x2105, 0, b.fn, 1, false, [Int.ofNat b.evs.drops]⟩ ⟨[], []⟩ ∧
      d.out = b.out ∧ d.host = b.host := by
  have hnote : ∃ x rest, b.noteDrops = { b with
      evs := { b.evs with drops := 0, low := ⟨0x2105, 0, b.fn, 1, false, [Int.ofNat b.evs.drops]⟩ :: rest }, nvs := x } := by
    unfold Blk.noteDrops
    rw [if_pos ⟨hd, by rw [hl]; exact Nat.pos_of_ne_zero hs⟩, hl]
    exact ⟨_, _, rfl⟩
  obtain ⟨x, rest, hnote⟩ := hnote
  unfold Blk.doEventWrite
  rw [hnote]
  dsimp only
  rw [if_neg (by
    rintro (h | h)
    · exact hs h
    · simp at h), if_neg (by decide)]
  cases hh : b.evs.high with
  | nil => exact ⟨_, rfl, rfl, rfl⟩
  | cons h m => exact ⟨_, if_pos rfl, rfl, rfl⟩

end

/-- Settles O28: a record, a capture record, and the event entries in their order. -/
theorem telemetryAndEvents : Obligations.TelemetryAndEvents := by
  unfold Obligations.TelemetryAndEvents
  refine ⟨?record, ?capture, ?drops, ?high, ?low, ?full⟩
  case record => exact fun s c hp hc hr hd hs => yields_within rfl hp (telChan_record (by omega) hc hr hd hs)
  case capture => exact fun s k hp hr h24 hruns hd hs => yields_within rfl hp (telCapture_records hr h24 hruns hd hs)
  case drops =>
    refine fun s hp hs hd hl => yields_within rfl hp ?_
    obtain ⟨d, h, hout, hhost⟩ := doEventWrite_drops hs hd hl
    rw [h, eventOut_out, hout, Blk.phase, hhost]
    rfl
  case high =>
    refine fun s e l hp hs hd hh hl => yields_within rfl hp ?_
    rw [doEventWrite_high hs hd hh hl]
    exact ⟨eventOut_out e, eventOut_evs e⟩
  case low =>
    refine fun s e l hp hs hd hh hl => yields_within rfl hp ?_
    rw [doEventWrite_low hs hd hh hl]
    exact ⟨eventOut_out e, eventOut_evs e⟩
  case full => exact fun s tag d hs => yields_within_same rfl (doEventWrite_full hs tag d)

end Sys2Proof.Machine
end

section
/-! PROOFS. Commands whose target channel is not configured (R414, R416, R417). -/

namespace Sys2Proof.Machine

theorem forTarget_unconfigured {b : Blk} {c : Nat} (hc : b.configured c = false) (h : Hdr) (op : Nat) (f : Blk → Blk) :
    b.forTarget h op c f = b.complete h op 0x06 := if_neg (by rw [hc]; exact Bool.false_ne_true)

theorem doBridgeResume_unconfigured {b : Blk} {n : Nat} (hc : b.configured n = false) (h : Hdr) :
    b.doBridgeResume h (some n) = b.complete h 0x08 0x06 := by
  unfold Blk.doBridgeResume
  exact forTarget_unconfigured hc ..

/-- A command that only completes as BADTARGET. -/
def BadTarget (c : Instr) (s : State) (h : Hdr) (op : Nat) : Prop :=
  ∃ f : Blk → Blk, exec c s = .next (s.within [.fabric] f) ∧ f s.blk = s.blk.complete h op 0x06

theorem badTarget_yields {c : Instr} {s : State} {h : Hdr} {op : Nat} {P : State → Prop} (hb : BadTarget c s h op)
    (hp : s.blk.powered .fabric = true) (hP : P { s with blk := s.blk.complete h op 0x06 }) : Yields c s P := by
  obtain ⟨f, he, hf⟩ := hb
  exact yields_within he hp (hf ▸ hP)

section
variable {s : State} {h : Hdr} {c : Instr} {op : Nat}

theorem badTarget_drive {n : Fin 8} (hc : s.blk.configured n = false)
    (hcmd : (c = .start h n ∧ op = 0x02) ∨ (∃ m, c = .drvStop h n m ∧ op = 0x03) ∨ (∃ v, c = .setSpeed h n v ∧ op = 0x04) ∨
      (∃ v, c = .setTorque h n v ∧ op = 0x05) ∨ (∃ v, c = .leverSelect h n v ∧ op = 0x07) ∨
      (c = .bridgeResume h (some n) ∧ op = 0x08) ∨ (c = .brkClear h n ∧ op = 0x25) ∨ (c = .supClear h n ∧ op = 0x24)) :
    BadTarget c s h op := by
  obtain ⟨rfl, rfl⟩ | ⟨m, rfl, rfl⟩ | ⟨v, rfl, rfl⟩ | ⟨v, rfl, rfl⟩ | ⟨v, rfl, rfl⟩ | ⟨rfl, rfl⟩ | ⟨rfl, rfl⟩ | ⟨rfl, rfl⟩ := hcmd
  case inr.inr.inr.inr.inr.inl =>
    exact ⟨_, rfl, doBridgeResume_unconfigured hc h⟩
  all_goals exact ⟨_, rfl, forTarget_unconfigured hc ..⟩

theorem badTarget_axis {a : Fin 16} (hc : s.blk.configured a = false)
    (hcmd : (∃ i v, c = .coefWrite h a i v ∧ op = 0x06) ∨ (∃ k bl p v x d, c = .move h a k bl p v x d ∧ op = 0x12) ∨
      (c = .axisStop h a ∧ op = 0x13) ∨ (c = .resume h a ∧ op = 0x14) ∨ (c = .moveFlush h a ∧ op = 0x15) ∨
      (c = .home h a ∧ op = 0x16)) :
    BadTarget c s h op := by
  obtain ⟨i, v, rfl, rfl⟩ | ⟨k, bl, p, v, x, d, rfl, rfl⟩ | ⟨rfl, rfl⟩ | ⟨rfl, rfl⟩ | ⟨rfl, rfl⟩ | ⟨rfl, rfl⟩ := hcmd
  case inr.inl => exact ⟨_, rfl, if_pos hc⟩
  all_goals exact ⟨_, rfl, forTarget_unconfigured hc ..⟩

theorem badTarget_stepper {n : Fin 8} (hc : s.blk.on (R.Sn_CFG_EN n) = false)
    (hcmd : (c = .energize h n ∧ op = 0x10) ∨ (c = .deenergize h n ∧ op = 0x11)) : BadTarget c s h op := by
  have hconf := (configured_stepper s.blk n.val).trans hc
  obtain ⟨rfl, rfl⟩ | ⟨rfl, rfl⟩ := hcmd
  all_goals exact ⟨_, rfl, forTarget_unconfigured hconf ..⟩

end

/-- Settles O14: the completion, and nothing beside it. -/
theorem unconfiguredTarget : Obligations.UnconfiguredTarget := by
  unfold Obligations.UnconfiguredTarget
  refine ⟨fun s h n c op hp hc hcmd => badTarget_yields (badTarget_drive hc hcmd) hp ?_,
    fun s h a c op hp hc hcmd => badTarget_yields (badTarget_axis hc hcmd) hp ?_,
    fun s h n c op hp hc hcmd => badTarget_yields (badTarget_stepper hc hcmd) hp ?_⟩
  · exact ⟨Blk.complete_decided _ _ _ _ _, rfl, rfl, rfl⟩
  · exact ⟨Blk.complete_decided _ _ _ _ _, rfl, rfl, rfl⟩
  · exact ⟨Blk.complete_decided _ _ _ _ _, rfl, rfl⟩

end Sys2Proof.Machine
end

section
/-! PROOFS. The end of a transaction (R438 to R441, R444), and an access through a pointer (R436, R454, R478). -/

namespace Sys2Proof.Machine

section
variable {b : Blk}

/-! What waits for the event ring after an event of severity 0 to 2 (R424). -/

/-- The event itself waits, or its filter rejects it, or a drop is counted. -/
theorem raise_waits {code : Nat} (src : Nat) (i : List Int) (hs : severity code ≠ 3) :
    severity code < (b.raise code src i).rd (sliceOf R.HIF_EVFILT_MIN (evClass code) 2) ∨ 0 < (b.raise code src i).evs.drops ∨
      (⟨code, src, b.fn, 1, false, i⟩ : Event) ∈ (b.raise code src i).evs.low := by
  unfold Blk.raise
  generalize b.strataEvent code b.fn = c
  have hfilt : ∀ e, (c.queueEvent e).rd (sliceOf R.HIF_EVFILT_MIN (evClass code) 2) =
      c.rd (sliceOf R.HIF_EVFILT_MIN (evClass code) 2) := fun e =>
    congrArg (sliceOf R.HIF_EVFILT_MIN (evClass code) 2).get
      (Blk.queueEvent_word (b := c) e (by decide : R.HIF_EVFILT_MIN.off ≠ R.HIF_EVDROP_COUNT.off))
  rw [hfilt]
  unfold Blk.queueEvent
  rw [if_neg hs]
  split_ifs with hrej
  · exact .inl hrej
  · exact .inr (.inr (List.mem_append_right _ (List.mem_singleton_self _)))
  · obtain ⟨x, hm, rfl⟩ | ⟨hd, -⟩ := Blk.queueLow_self c.noteDrops ⟨code, src, b.fn, 1, false, i⟩
    · exact .inr (.inr hm)
    · exact .inr (.inl hd)

/-- What an event may bring to the ring beside itself: the count of drops and Strata's full list. -/
def joinsLow (code : Nat) (e : Event) : Prop := e.code = code ∨ e.code = 0x2105 ∨ e.code = 0xF107

theorem noteDrops_low (code : Nat) {e : Event} (h : e ∈ b.noteDrops.evs.low) : e ∈ b.evs.low ∨ joinsLow code e := by
  unfold Blk.noteDrops at h
  split at h
  · obtain h | h := List.mem_append.mp h
    · exact .inl h
    · obtain h | h := List.mem_cons.mp h
      · exact .inr (.inr (.inl (congrArg Event.code h)))
      · split_ifs at h
        · exact .inr (.inr (.inr (congrArg Event.code (List.mem_singleton.mp h))))
        · exact absurd h List.not_mem_nil
  · exact .inl h

theorem queueEvent_low (x : Event) {e : Event} (h : e ∈ (b.queueEvent x).evs.low) : e ∈ b.evs.low ∨ joinsLow x.code e := by
  unfold Blk.queueEvent at h
  split_ifs at h
  · exact .inl h
  · exact .inl h
  · exact .inl h
  · obtain h | h := List.mem_append.mp h
    · exact .inl h
    · exact .inr (.inl (congrArg Event.code (List.mem_singleton.mp h)))
  · unfold Blk.queueLow at h
    split_ifs at h
    · exact noteDrops_low _ h
    · obtain h | h := List.mem_append.mp h
      · exact noteDrops_low _ h
      · exact .inr (.inl (congrArg Event.code (List.mem_singleton.mp h)))

theorem raise_low (code src : Nat) (i : List Int) {e : Event} (h : e ∈ (b.raise code src i).evs.low) :
    e ∈ b.evs.low ∨ joinsLow code e := by
  obtain h | h := queueEvent_low _ h
  · unfold Blk.strataEvent at h
    dsimp only at h
    split_ifs at h
    · obtain h | h := queueEvent_low _ h
      · exact .inl h
      · exact .inr (h.elim (fun h => .inr (.inr h)) .inr)
    · exact .inl h
  · exact .inr h

/-! A transaction closed (R434). -/

theorem closeTxn_txns (r : Nat) : (b.closeTxn r).txns = { b.txns with open_ := b.txns.open_.modify r (fun _ => default) } := by
  unfold Blk.closeTxn
  rw [Blk.wr_txns, Blk.wr_txns, Blk.wr_txns]
  rfl

theorem closeTxn_same (r : Nat) : SameBut b (b.closeTxn r) fun a => a = (R.TXN_STAT_STATE r).off := by
  unfold Blk.closeTxn
  have hopen : SameBut b (b.onTxn r fun _ => default) fun a => a = (R.TXN_STAT_STATE r).off := same_regs rfl
  exact same_wr (same_wr (same_wr hopen (R.TXN_STAT_STATE r) 0 rfl) (R.TXN_STAT_COUNT r) 0 rfl) (R.TXN_STAT_LEFT r) 0 rfl

theorem closeTxn_evs (r : Nat) : (b.closeTxn r).evs = b.evs := by
  unfold Blk.closeTxn
  rw [Blk.wr_evs, Blk.wr_evs, Blk.wr_evs]
  rfl

theorem closeTxn_stat (r : Nat) :
    (b.closeTxn r).rd (R.TXN_STAT_STATE r) = 0 ∧ (b.closeTxn r).rd (R.TXN_STAT_COUNT r) = 0 := by
  unfold Blk.closeTxn
  refine ⟨?_, ?_⟩
  · refine (Blk.rd_wr_apart _ _ _ _ inWord_of apart_above).trans ((Blk.rd_wr_apart _ _ _ _ inWord_of apart_above).trans ?_)
    exact Blk.rd_wr_self _ _ 0 inWord_of
  · exact (Blk.rd_wr_apart _ _ _ _ inWord_of apart_below).trans (Blk.rd_wr_self _ _ 0 inWord_of)

/-- A transaction whose STATE reads 0 and whose record is new is idle. -/
theorem txnState_idle {r : Nat} (hst : b.rd (R.TXN_STAT_STATE r) = 0)
    (hopen : ∀ x, b.txns.open_[r]? = some x → x.doom = false) : b.txnState r = 0 := by
  have hdoom : (b.txns.open_.getD r default).doom = false := by
    rw [List.getD_eq_getElem?_getD]
    cases hx : b.txns.open_[r]? with
    | none => rfl
    | some x => exact hopen x hx
  unfold Blk.txnState
  dsimp only
  rw [hst, hdoom]
  rfl

/-- What follows the close of a transaction on its way to the host leaves it closed. -/
theorem txnStat_lies {r : Nat} (hr : r < 4) : ¬ (0x5010 + 0x4 * r < 0x5010 ∨ 0x5020 ≤ 0x5010 + 0x4 * r) :=
  (by decide : ∀ r < 4, ¬ (0x5010 + 0x4 * r < 0x5010 ∨ 0x5020 ≤ 0x5010 + 0x4 * r)) r hr

theorem txnState_closed {c : Blk} {r : Nat} (hr : r < 4)
    (hw : SameBut (b.closeTxn r) c fun a => a < 0x5010 ∨ 0x5020 ≤ a) (ht : c.txns = (b.closeTxn r).txns) :
    c.txnState r = 0 := by
  obtain ⟨hst, -⟩ := closeTxn_stat (b := b) r
  refine txnState_idle ((same_rd hw _ (txnStat_lies hr)).trans hst) fun x hx => ?_
  rw [ht, closeTxn_txns] at hx
  obtain ⟨y, -, rfl⟩ := getElem?_modify_self hx
  rfl

/-! A rejected commit (R439). -/

/-- The event of a rejection, with what is written for it before. -/
def Blk.tellReject (b : Blk) (r n : Nat) (why : Nat × Nat × Nat × Nat) : Blk :=
  if why.1 = 0x14 then
    ((b.wrSat (R.TXN_REJ_RESID r) why.2.2.1).wrSat (R.TXN_REJ_EXCESS r) why.2.2.2).raise 0x1103 r
      [Int.ofNat why.2.1, Int.ofNat why.2.2.1, Int.ofNat why.2.2.2]
  else b.raise 0x2113 r [Int.ofNat why.1, Int.ofNat why.2.1, Int.ofNat n]

theorem tellReject_txns (r n : Nat) (why : Nat × Nat × Nat × Nat) : (b.tellReject r n why).txns = b.txns := by
  unfold Blk.tellReject
  split_ifs
  · rw [Blk.raise_txns]
    exact (Blk.wr_txns ..).trans (Blk.wr_txns ..)
  · rw [Blk.raise_txns]

theorem tellReject_same (r n : Nat) (why : Nat × Nat × Nat × Nat) :
    SameBut b (b.tellReject r n why) fun a => a = R.HIF_EVDROP_COUNT.off ∨ a = (R.TXN_REJ_RESID r).off := by
  unfold Blk.tellReject
  split_ifs
  · exact same_raise (same_wrSat (same_wrSat (same_refl b _) _ _ (.inr rfl)) _ _ (.inr rfl)) _ _ _ (.inl rfl)
  · exact same_raise (same_refl b _) _ _ _ (.inl rfl)

theorem tellReject_reported (r n : Nat) (why : Nat × Nat × Nat × Nat) :
    Reported (b.tellReject r n why) (if why.1 = 0x14 then 0x1103 else 0x2113) r := by
  unfold Blk.tellReject
  split_ifs <;> exact Blk.raise_self ..

theorem rejectTxn_eq (h : Hdr) (mute : Bool) (n : Nat) (why : Nat × Nat × Nat × Nat) :
    b.rejectTxn h mute n why = if mute then ((b.closeTxn h.ring).inc R.TXN_CNT_REJ).tellReject h.ring n why
      else (((b.closeTxn h.ring).inc R.TXN_CNT_REJ).tellReject h.ring n why).complete h 0x42 why.1 why.2.1 := rfl

theorem rejectTxn_decided (h : Hdr) (n : Nat) (why : Nat × Nat × Nat × Nat) :
    Decided (b.rejectTxn h false n why) h 0x42 why.1 why.2.1 := Blk.complete_decided _ _ _ _ _

/-- A rejection beside its completion, which a muted one does not have (R404). -/
theorem rejectTxn_beside (h : Hdr) (mute : Bool) (n : Nat) (why : Nat × Nat × Nat × Nat) :
    ∃ c : Blk, c = ((b.closeTxn h.ring).inc R.TXN_CNT_REJ).tellReject h.ring n why ∧
      (b.rejectTxn h mute n why).regs = c.regs ∧ (b.rejectTxn h mute n why).txns = c.txns ∧
      (b.rejectTxn h mute n why).evs = c.evs ∧
      (∀ code src, Reported c code src → Reported (b.rejectTxn h mute n why) code src) := by
  refine ⟨_, rfl, ?_⟩
  rw [rejectTxn_eq]
  split_ifs
  · exact ⟨rfl, rfl, rfl, fun _ _ h => h⟩
  · exact ⟨rfl, rfl, rfl, fun _ _ h => reported_complete h ..⟩

theorem rejectTxn_closes (h : Hdr) (mute : Bool) (n : Nat) (why : Nat × Nat × Nat × Nat) :
    (b.rejectTxn h mute n why).txnState h.ring = 0 ∧
      (b.rejectTxn h mute n why).rd R.TXN_CNT_REJ = min (b.rd R.TXN_CNT_REJ + 1) R.TXN_CNT_REJ.top ∧
      (b.rejectTxn h mute n why).txns.ready = b.txns.ready ∧
      Reported (b.rejectTxn h mute n why) (if why.1 = 0x14 then 0x1103 else 0x2113) h.ring := by
  obtain ⟨c, rfl, hregs, htxns, -, hrep⟩ := rejectTxn_beside (b := b) h mute n why
  have htell := tellReject_same (b := (b.closeTxn h.ring).inc R.TXN_CNT_REJ) h.ring n why
  have hkept : (((b.closeTxn h.ring).inc R.TXN_CNT_REJ).tellReject h.ring n why).txns = (b.closeTxn h.ring).txns :=
    (tellReject_txns ..).trans (Blk.wr_txns ..)
  refine ⟨txnState_closed h.ring.isLt (same_trans ?_ (same_regs hregs)) (htxns.trans hkept), ?_, ?_, hrep _ _ (tellReject_reported ..)⟩
  · refine same_trans (same_inc (same_refl _ _) _ (.inr (by decide))) (same_mono htell ?_)
    rintro a (rfl | rfl)
    · exact .inl (by decide)
    · exact .inr (le_above)
  · rw [same_rd (same_trans htell (same_regs hregs)), Blk.rd_inc_self _ _ inWord_of, same_rd (closeTxn_same _)]
    · exact Nat.ne_of_gt ((by decide : ∀ r < 4, 0x5010 + 0x4 * r < 0x5030) _ h.ring.isLt)
    · exact not_or.mpr ⟨by decide, Nat.ne_of_gt ((by decide : ∀ r < 4, 0x5020 + 0x4 * r < 0x5030) _ h.ring.isLt)⟩
  · rw [htxns, hkept, closeTxn_txns]

/-! The end of a validation (R438, R440), the timeout (R444), the applying tick (R440, R441). -/

theorem doValidated_rejects {r : Nat} (cyc : Nat) {h : Hdr} {why : Nat × Nat × Nat × Nat} (hh : (b.txn r).hdr = some h)
    (hj : b.judgeList (b.txn r).bad (b.txn r).list = some why) :
    b.doValidated r cyc = b.rejectTxn h false (b.txn r).list.length why := by
  unfold Blk.doValidated
  simp only [hh, hj]

theorem doValidated_waits {r : Nat} (cyc : Nat) {h : Hdr} (hh : (b.txn r).hdr = some h)
    (hj : b.judgeList (b.txn r).bad (b.txn r).list = none) :
    (b.doValidated r cyc).regs = b.regs ∧ (b.doValidated r cyc).evs = b.evs ∧
      ∃ c : Commit, (b.doValidated r cyc).txns.ready = b.txns.ready ++ [c] ∧ c.ring = r ∧ c.hdr = h ∧
        c.list = (b.txn r).list ∧ c.ticks = (if cyc + 2048 ≤ b.frameLen then 1 else 2) := by
  unfold Blk.doValidated
  simp only [hh, hj]
  exact ⟨rfl, rfl, _, rfl, rfl, rfl, rfl, rfl⟩

theorem doTxnTimeout_closes {r : Nat} (hr : r < 4) (hst : b.txnState r = 1 ∨ b.txnState r = 2)
    (ht : b.rd R.TXN_CFG_TMO * cycPerMs ≤ (b.txn r).age) :
    (b.doTxnTimeout r).txnState r = 0 ∧ (b.doTxnTimeout r).rd (R.TXN_STAT_COUNT r) = 0 ∧ Reported (b.doTxnTimeout r) 0x2112 r ∧
      (b.doTxnTimeout r).rd R.TXN_CNT_TMO = min (b.rd R.TXN_CNT_TMO + 1) R.TXN_CNT_TMO.top ∧
      ∀ x, (b.doTxnTimeout r).txns.open_[r]? = some x → x.list = [] := by
  rw [Blk.doTxnTimeout, if_pos ⟨hst, ht⟩]
  have hsame : SameBut (b.closeTxn r) (((b.closeTxn r).inc R.TXN_CNT_TMO).raise 0x2112 r []) fun a => a < 0x5010 ∨ 0x5020 ≤ a :=
    same_raise (same_inc (same_refl _ _) _ (.inr (by decide))) _ _ _ (.inl (by decide))
  have htxns : (((b.closeTxn r).inc R.TXN_CNT_TMO).raise 0x2112 r []).txns = (b.closeTxn r).txns :=
    (Blk.raise_txns ..).trans (Blk.wr_txns ..)
  obtain ⟨-, hcount⟩ := closeTxn_stat (b := b) r
  refine ⟨txnState_closed hr hsame htxns, ?_, Blk.raise_self .., ?_, fun x hx => ?_⟩
  · exact (same_rd hsame _ (txnStat_lies hr)).trans hcount
  · rw [Blk.raise_rd _ _ _ _ _ (by decide), Blk.rd_inc_self _ _ inWord_of, same_rd (closeTxn_same _)]
    exact Nat.ne_of_gt ((by decide : ∀ r < 4, 0x5010 + 0x4 * r < 0x5030) r hr)
  · rw [htxns, closeTxn_txns] at hx
    obtain ⟨y, -, rfl⟩ := getElem?_modify_self hx
    rfl

theorem doCommitApply_takes {r : Nat} {c : Commit} {l : List Commit} (hr : b.txns.ready = c :: l) (hc : c.ring = r)
    (ht : c.ticks ≤ 1) (hx : b.crossed c = true) : b.doCommitApply r = b.takeCommit c := by
  unfold Blk.doCommitApply
  rw [hr]
  exact if_pos ⟨hc, ht, hx⟩

theorem applyCommit_rejects {c : Commit} {d : Nat}
    (hd : detailOf ((b.withList c.list).condRun b) (c.list.map (·.1)) = some d) :
    b.applyCommit c = b.rejectTxn c.hdr c.mute c.list.length (0x16, d, 0, 0) := by
  unfold Blk.applyCommit
  dsimp only
  rw [hd]

theorem supersedeAt_txns (p : Instr → Bool) : (b.supersedeAt p).txns = b.txns := by
  have hone : ∀ (c : Blk) (i : Instr), (c.supersede i).txns = c.txns := fun c i => by
    unfold Blk.supersede
    split
    · split_ifs <;> rfl
    · split <;> rfl
  exact List.foldlRecOn (motive := fun c => c.txns = b.txns) _ _ rfl fun c hc i _ => (hone c i).trans hc

theorem noteApplied_kept (l : List (Nat × Nat × Nat)) :
    (b.noteApplied l).regs = b.regs ∧ (b.noteApplied l).txns = b.txns ∧
      (∀ code src, Reported b code src → Reported (b.noteApplied l) code src) := by
  unfold Blk.noteApplied
  split_ifs
  · exact ⟨rfl, rfl, fun _ _ h => h⟩
  · exact ⟨rfl, rfl, fun _ _ h => h⟩

/-- A passage of references writes nothing of TXN_STAT. -/
theorem passage_besideStat (a : Nat) (h : passageWords a) : a < 0x5010 ∨ 0x5020 ≤ a := by
  obtain ⟨k, -, rfl⟩ | rfl | ⟨n, -, rfl⟩ := h
  · exact .inr (le_above)
  · exact .inl (by decide)
  · exact .inr (le_above)

/-- The end of an applied commit, from the block whose transaction has closed. -/
theorem applied_ends {f : Blk} {r : Nat} (hr : r < 4) (hw : SameBut (b.closeTxn r) f fun a => a < 0x5010 ∨ 0x5020 ≤ a)
    (ht : f.txns = (b.closeTxn r).txns) (h : Hdr) (i : List Int) (l : List (Nat × Nat × Nat)) :
    ((((f.inc R.TXN_CNT_APPL).raise 0x2010 r i).noteApplied l).ok h 0x42).txnState r = 0 ∧
      (Decided ((((f.inc R.TXN_CNT_APPL).raise 0x2010 r i).noteApplied l).ok h 0x42) h 0x42 0 0 ∧
        Reported ((((f.inc R.TXN_CNT_APPL).raise 0x2010 r i).noteApplied l).ok h 0x42) 0x2010 r) := by
  obtain ⟨hregs, htxns, hrep⟩ := noteApplied_kept (b := (f.inc R.TXN_CNT_APPL).raise 0x2010 r i) l
  have hraise : SameBut f ((f.inc R.TXN_CNT_APPL).raise 0x2010 r i) fun a => a < 0x5010 ∨ 0x5020 ≤ a :=
    same_raise (same_inc (same_refl f _) _ (.inr (by decide))) _ _ _ (.inl (by decide))
  refine ⟨txnState_closed hr (same_trans (same_trans hw hraise) (same_regs hregs)) ?_, ok_decided _ _ _,
    hrep _ _ (Blk.raise_self ..)⟩
  exact htxns.trans ((Blk.raise_txns ..).trans ((Blk.wr_txns ..).trans ht))

/-- A commit that is not muted completes as OK with its event, or its re-check rejects it. -/
theorem applyCommit_ends {c : Commit} (hm : c.mute = false) (hc : c.hdr.ring.val = c.ring) :
    (b.applyCommit c).txnState c.ring = 0 ∧
      ((Decided (b.applyCommit c) c.hdr 0x42 0 0 ∧ Reported (b.applyCommit c) 0x2010 c.ring) ∨
        (∃ d, Decided (b.applyCommit c) c.hdr 0x42 0x16 d ∧ Reported (b.applyCommit c) 0x2113 c.ring)) := by
  cases hd : detailOf ((b.withList c.list).condRun b) (c.list.map (·.1)) with
  | some d =>
    rw [applyCommit_rejects hd, hm, ← hc]
    obtain ⟨hst, -, -, hrep⟩ := rejectTxn_closes (b := b) c.hdr false c.list.length (0x16, d, 0, 0)
    exact ⟨hst, .inr ⟨d, rejectTxn_decided c.hdr c.list.length (0x16, d, 0, 0), hrep⟩⟩
  | none =>
    unfold Blk.applyCommit
    dsimp only
    rw [hd, hm]
    dsimp only
    rw [if_neg Bool.false_ne_true]
    generalize ((b.withList c.list).configured' b).cmpWritten _ = e
    have hw := fun p => same_mono (supersedeAt_passage (b := e.closeTxn c.ring) p).words passage_besideStat
    have ht := fun p => supersedeAt_txns (b := e.closeTxn c.ring) p
    generalize Blk.supersedeAt (e.closeTxn c.ring) = f at hw ht
    obtain ⟨hst, hok⟩ := applied_ends (hc ▸ c.hdr.ring.isLt : c.ring < 4) (hw _) (ht _) c.hdr _ _
    exact ⟨hst, .inl hok⟩

end

/-- Settles O30: the two ends of a validation, the applying tick, the timeout. -/
theorem transactions : Obligations.Transactions := by
  unfold Obligations.Transactions
  refine ⟨?rejected, fun s r cyc h hp hh hj => yields_within rfl hp (doValidated_waits cyc hh hj), ?apply,
    fun s r hp hst ht => yields_within rfl hp (doTxnTimeout_closes r.isLt hst ht)⟩
  case rejected =>
    refine fun s r cyc h why hp hh hj => yields_within rfl hp ?_
    rw [doValidated_rejects cyc hh hj]
    obtain ⟨hst, hcnt, hready, hrep⟩ := rejectTxn_closes (b := s.blk) h false (s.blk.txn r).list.length why
    exact ⟨rejectTxn_decided h _ why, hst, hcnt, hready, hrep⟩
  case apply =>
    refine fun s r c l hp hready hc hr ht hx hm => yields_within rfl hp ?_
    rw [doCommitApply_takes hready hc ht hx, ← hc]
    exact applyCommit_ends hm ((congrArg Fin.val hr).trans hc.symm)

end Sys2Proof.Machine
end

section
/-! PROOFS. What a rejected commit leaves (R439), and accesses through a pointer (R436, R454, R478). -/

namespace Sys2Proof.Machine

section
variable {b : Blk}

/-- The event of a rejection and TXN_REJ, as the statement on rejected commits asks for them. -/
theorem tellReject_tells (r n : Nat) (why : Nat × Nat × Nat × Nat) :
    (why.1 = 0x14 → (b.tellReject r n why).rd (R.TXN_REJ_RESID r) = min why.2.2.1 (R.TXN_REJ_RESID r).top ∧
      (b.tellReject r n why).rd (R.TXN_REJ_EXCESS r) = min why.2.2.2 (R.TXN_REJ_EXCESS r).top ∧
      Reported (b.tellReject r n why) 0x1103 r ∧ ∀ e ∈ (b.tellReject r n why).evs.low, e.code = 0x2113 → e ∈ b.evs.low) ∧
    (why.1 ≠ 0x14 → Reported (b.tellReject r n why) 0x2113 r ∧
      (1 < (b.tellReject r n why).rd (sliceOf R.HIF_EVFILT_MIN 2 2) ∨ 0 < (b.tellReject r n why).evs.drops ∨
        ∃ e ∈ (b.tellReject r n why).evs.low, e.code = 0x2113 ∧ e.src = r ∧
          e.info = [Int.ofNat why.1, Int.ofNat why.2.1, Int.ofNat n])) := by
  unfold Blk.tellReject
  refine ⟨fun h => ?_, fun h => ?_⟩
  · rw [if_pos h]
    have hoff : (R.TXN_REJ_RESID r).off ≠ R.HIF_EVDROP_COUNT.off := ne_above
    refine ⟨?_, ?_, Blk.raise_self .., fun e he hcode => ?_⟩
    · rw [Blk.raise_rd _ _ _ _ _ hoff]
      exact (Blk.rd_wr_apart _ _ _ _ inWord_of apart_below).trans (rd_wrSat_self _ _ _ inWord_of)
    · rw [Blk.raise_rd _ _ _ _ (R.TXN_REJ_EXCESS r) hoff]
      exact rd_wrSat_self _ _ _ inWord_of
    · have hevs : ((b.wrSat (R.TXN_REJ_RESID r) why.2.2.1).wrSat (R.TXN_REJ_EXCESS r) why.2.2.2).evs = b.evs :=
        (Blk.wr_evs ..).trans (Blk.wr_evs ..)
      obtain he | he := raise_low _ _ _ he
      · exact hevs ▸ he
      · simp [joinsLow, hcode] at he
  · rw [if_neg h]
    refine ⟨Blk.raise_self .., ?_⟩
    obtain hf | hd | he := raise_waits (b := b) (code := 0x2113) r [Int.ofNat why.1, Int.ofNat why.2.1, Int.ofNat n] (by decide)
    · exact .inl hf
    · exact .inr (.inl hd)
    · exact .inr (.inr ⟨_, he, rfl, rfl, rfl⟩)

/-- A rejection, muted or not (R439). -/
theorem rejectTxn_tells (h : Hdr) (mute : Bool) (n : Nat) (why : Nat × Nat × Nat × Nat) :
    (why.1 = 0x14 → (b.rejectTxn h mute n why).rd (R.TXN_REJ_RESID h.ring) = min why.2.2.1 (R.TXN_REJ_RESID h.ring).top ∧
      (b.rejectTxn h mute n why).rd (R.TXN_REJ_EXCESS h.ring) = min why.2.2.2 (R.TXN_REJ_EXCESS h.ring).top ∧
      Reported (b.rejectTxn h mute n why) 0x1103 h.ring ∧
      ∀ e ∈ (b.rejectTxn h mute n why).evs.low, e.code = 0x2113 → e ∈ b.evs.low) ∧
    (why.1 ≠ 0x14 → Reported (b.rejectTxn h mute n why) 0x2113 h.ring ∧
      (1 < (b.rejectTxn h mute n why).rd (sliceOf R.HIF_EVFILT_MIN 2 2) ∨ 0 < (b.rejectTxn h mute n why).evs.drops ∨
        ∃ e ∈ (b.rejectTxn h mute n why).evs.low, e.code = 0x2113 ∧ e.src = h.ring.val ∧
          e.info = [Int.ofNat why.1, Int.ofNat why.2.1, Int.ofNat n])) := by
  obtain ⟨c, hc, hregs, -, hevs, hrep⟩ := rejectTxn_beside (b := b) h mute n why
  have hrd : ∀ f, (b.rejectTxn h mute n why).rd f = c.rd f := fun f => same_rd (same_regs (T := fun _ => False) hregs) f id
  obtain ⟨hadmit, hother⟩ := tellReject_tells (b := (b.closeTxn h.ring).inc R.TXN_CNT_REJ) h.ring n why
  rw [← hc] at hadmit hother
  have hlow : ((b.closeTxn h.ring).inc R.TXN_CNT_REJ).evs = b.evs := (Blk.wr_evs ..).trans (closeTxn_evs _)
  rw [hlow] at hadmit
  simp only [hrd, hevs]
  refine ⟨fun h14 => ?_, fun h14 => ?_⟩
  · obtain ⟨hres, hexc, hr, hl⟩ := hadmit h14
    exact ⟨hres, hexc, hrep _ _ hr, hl⟩
  · obtain ⟨hr, hl⟩ := hother h14
    exact ⟨hrep _ _ hr, hl⟩

end

/-- Settles O54: both ways to a rejection leave what the rejection of a commit leaves. -/
theorem rejectedCommit : Obligations.RejectedCommit := by
  unfold Obligations.RejectedCommit
  rintro s c r h n why rfl hp (⟨cyc, rfl, hh, rfl, hj⟩ | ⟨x, l, d, rfl, hx, hready, hring, rfl, ht, rfl, hd, rfl⟩)
  · refine yields_within rfl hp ?_
    rw [doValidated_rejects cyc hh hj]
    exact rejectTxn_tells h false _ why
  · refine yields_within rfl hp ?_
    rw [doCommitApply_takes hready hring ht hx, Blk.takeCommit, applyCommit_rejects (hd _ rfl)]
    exact rejectTxn_tells x.hdr x.mute x.list.length (0x16, d, 0, 0)

section
variable {b : Blk}

/-- The pointer of CAN's filters and of a gate control list. -/
theorem sel_of_pointed {p : PtrReg} (hp : (∃ k : Fin 4, p = .flt k) ∨ (∃ q : Fin 2, p = .gcl q)) :
    p.sel.2.inWord ∧ ∀ r, r < 4 → p.sel.2.off ≠ (R.TXN_STAT_COUNT r).off := by
  obtain ⟨k, rfl⟩ | ⟨q, rfl⟩ := hp
  · exact ⟨inWord_of, fun r hr => Nat.ne_of_gt (lt_of_lt_of_le ((by decide : ∀ r < 4, 0x5010 + 0x4 * r < 0x5020) r hr) le_above)⟩
  · exact ⟨inWord_of, fun r hr => Nat.ne_of_gt (lt_of_lt_of_le ((by decide : ∀ r < 4, 0x5010 + 0x4 * r < 0x5020) r hr) le_above)⟩

/-- A staged write: the word with its pointer joins the list, whose length is shown. -/
theorem doPtrAccess_stages {dom : Dom} (p : PtrReg) (off : Nat) {r : Nat} (v : Nat) (hp : b.powered dom = true)
    (hs : b.txnStandby = false) (ho : b.txnState r = 1 ∨ b.txnState r = 2) (hl : (b.txn r).list.length < 4096) :
    b.doPtrAccess dom p off (some (r, v)) =
      ((b.wr p.sel.2 (b.rd p.sel.2 + 1)).onTxn r fun t => { t with list := t.list ++ [(off, b.rd p.sel.1, v)] }).wr
        (R.TXN_STAT_COUNT r) (((b.wr p.sel.2 (b.rd p.sel.2 + 1)).onTxn r fun t =>
          { t with list := t.list ++ [(off, b.rd p.sel.1, v)] }).txn r).list.length := by
  have hc : ¬ (b.txnStandby = true ∨ (b.txnState r ≠ 1 ∧ b.txnState r ≠ 2)) := by
    rw [hs]
    rintro (h | ⟨h1, h2⟩)
    · exact Bool.false_ne_true h
    · exact ho.elim h1 h2
  unfold Blk.doPtrAccess Blk.takePtr
  dsimp only
  rw [if_neg (by rw [hp]; decide), if_neg hc, if_neg (Nat.not_le.mpr hl)]

theorem onTxn_beside (r : Nat) (f : Txn → Txn) :
    (b.onTxn r f).cans = b.cans ∧ (b.onTxn r f).lode = b.lode ∧ ∀ g, (b.onTxn r f).rd g = b.rd g := ⟨rfl, rfl, fun _ => rfl⟩

theorem stagedWrite_shows {c : Blk} {f : Fld} {v r : Nat} {x : Nat × Nat × Nat} (hf : f.inWord)
    (hoff : f.off ≠ (R.TXN_STAT_COUNT r).off) (hl : (b.txn r).list.length < 4096)
    (hc : c = (b.wr f v).onTxn r fun t => { t with list := t.list ++ [x] }) :
    (c.wr (R.TXN_STAT_COUNT r) (c.txn r).list.length).rd f = v % 2 ^ f.w ∧
      (∀ y, (c.wr (R.TXN_STAT_COUNT r) (c.txn r).list.length).txns.open_[r]? = some y → y.list = (b.txn r).list ++ [x] ∧
        (c.wr (R.TXN_STAT_COUNT r) (c.txn r).list.length).rd (R.TXN_STAT_COUNT r) = y.list.length) ∧
      (c.wr (R.TXN_STAT_COUNT r) (c.txn r).list.length).cans = b.cans ∧
      (c.wr (R.TXN_STAT_COUNT r) (c.txn r).list.length).lode = b.lode := by
  obtain ⟨kcans, klode, krd⟩ := onTxn_beside (b := b.wr f v) r fun t => { t with list := t.list ++ [x] }
  rw [← hc] at kcans klode krd
  have hcans : c.cans = b.cans := kcans.trans (Blk.wr_cans ..)
  have hlode : c.lode = b.lode := klode.trans (Blk.wr_lode ..)
  have hrd : c.rd f = v % 2 ^ f.w := (krd f).trans (Blk.rd_wr_self b f v hf)
  refine ⟨(Blk.rd_wr_off _ _ _ _ hoff).trans hrd, fun y hy => ?_, (Blk.wr_cans ..).trans hcans, (Blk.wr_lode ..).trans hlode⟩
  rw [Blk.wr_txns] at hy
  have htxn : c.txn r = y := by rw [Blk.txn, List.getD_eq_getElem?_getD, hy]; rfl
  have hlist : y.list = (b.txn r).list ++ [x] := by
    rw [hc] at hy
    obtain ⟨z, hz, rfl⟩ := getElem?_modify_self hy
    rw [Blk.wr_txns] at hz
    rw [Blk.txn, List.getD_eq_getElem?_getD, hz]
    rfl
  refine ⟨hlist, ?_⟩
  rw [Blk.rd_wr_self _ _ _ inWord_of, htxn]
  refine Nat.mod_eq_of_lt ?_
  rw [hlist, List.length_append]
  exact lt_of_lt_of_le (Nat.add_lt_add_right hl 1) (by decide : 4096 + 1 ≤ 2 ^ 13)

end

/-- Settles O34: the read advances the pointer, the write joins the list of its ring. -/
theorem pointedAccess : Obligations.PointedAccess := by
  unfold Obligations.PointedAccess
  intro s p off c hp hc
  have hsel := sel_of_pointed (hc.imp (fun ⟨k, h, _⟩ => ⟨k, h⟩) fun ⟨q, h, _⟩ => ⟨q, h⟩)
  have hexec : ∀ w, exec (c w) s =
      .next (s.within [.comm] fun b => b.doPtrAccess .comm p off (w.map (fun x => (x.1.val, x.2.toNat)))) := by
    obtain ⟨k, rfl, rfl, rfl⟩ | ⟨q, rfl, rfl, rfl⟩ := hc <;> exact fun w => rfl
  obtain ⟨hword, hoff⟩ := hsel
  refine ⟨yields_within (hexec none) hp ?_, fun r v hs ho hl => yields_within (hexec _) hp ?_⟩
  · dsimp only [Option.map]
    rw [doPtrAccess_read p off hp]
    exact ⟨Blk.rd_wr_self _ _ _ hword, same_wr (same_refl _ _) _ _ rfl, Blk.wr_txns ..⟩
  · dsimp only [Option.map]
    rw [doPtrAccess_stages p off v.toNat hp hs ho hl]
    exact stagedWrite_shows hword (hoff r r.isLt) hl rfl

end Sys2Proof.Machine
end

section
/-! PROOFS. Levers (R406, R427). -/

namespace Sys2Proof.Machine

section
variable {b : Blk} {n : Nat}

/-! A lever that starts its drive. -/

/-- The start is asked for once. -/
def Blk.leverUsed (b : Blk) (n : Nat) : Blk :=
  b.onHost (fun x => { x with dwell := x.dwell.modify n (fun d => { d with ready := false }) })

/-- Whether a start is refused does not depend on the lever that asks. -/
theorem leverUsed_startRefusal : (b.leverUsed n).startRefusal n = b.startRefusal n := rfl

theorem startOpen_host : (b.startOpen n).host = b.host := by
  have hcleared : (if b.pstate n = 3 ∨ b.pstate n = 4 then
      ((b.wr (R.Dn_STAT_PSTATE n) 0).pinsOff n).raise 0x3001 n [] else b).host = b.host := by
    split_ifs
    · rw [Blk.raise_host, Blk.pinsOff, Blk.onDrv_host, Blk.wr_host, Blk.wr_host, Blk.wr_host]
    · rfl
  unfold Blk.startOpen Blk.openCatch Blk.setPath
  dsimp only
  generalize (if b.pstate n = 3 ∨ b.pstate n = 4 then _ else b) = c at hcleared ⊢
  rw [Blk.onSeq_host, Blk.wr_host, Blk.onDrv_host, Blk.onSeq_host, Blk.wr_host, Blk.wr_host, Blk.wr_host, Blk.wr_host,
    Blk.wr_host, hcleared]

theorem doLeverStart_starts (hr : (b.host.dwell.getD n default).ready = true)
    (hs : b.pstate n = 0 ∨ b.pstate n = 3 ∨ b.pstate n = 4) (hno : b.startRefusal n = none) :
    (b.doLeverStart n).sstate n = 1 ∧ ∀ x, (b.doLeverStart n).host.dwell[n]? = some x → x.ready = false := by
  have hps : [0, 3, 4].contains (b.pstate n) = true := by
    obtain h | h | h := hs <;> rw [h] <;> rfl
  have heq : b.doLeverStart n = (b.leverUsed n).startOpen n := by
    unfold Blk.doLeverStart
    rw [if_pos ⟨hr, hps⟩]
    show ((b.leverUsed n).startRequest n).2 = _
    unfold Blk.startRequest
    rw [leverUsed_startRefusal, hno]
  rw [heq]
  refine ⟨(startOpen_opens _ n).1, fun x hx => ?_⟩
  rw [startOpen_host] at hx
  obtain ⟨y, -, rfl⟩ := getElem?_modify_self hx
  rfl

theorem doLeverStart_waits (hr : (b.host.dwell.getD n default).ready = false) : b.doLeverStart n = b :=
  if_neg fun h => Bool.false_ne_true (hr.symm.trans h.1)

/-! A lever that stops its drive. -/

theorem doLeverStop_stops (h0 : b.rd (R.HIF_BLOSS_LSTOP n) ≠ 0) (hrun : (b.host.dwell.getD n default).inRun ≠ 0)
    (ht : b.rd (R.HIF_BLOSS_LSTOP n) * 1000 * cycPerMs ≤ (b.host.dwell.getD n default).inRun)
    (hr : (b.drv n).rampStop = false) : b.doLeverStop n = b.drvStop n 0 :=
  if_pos ⟨h0, Nat.pos_of_ne_zero hrun, ht, hr⟩

theorem drvStop_either :
    (b.sstate n = 6 → (b.drvStop n 0).regs = b.regs ∧ ∀ d, (b.drvStop n 0).drvs[n]? = some d → d.rampStop = true) ∧
      (b.sstate n ≠ 6 → (b.drvStop n 0).sstate n = 0 ∧ ∀ d, (b.drvStop n 0).drvs[n]? = some d → d.reqBlock = true) := by
  refine ⟨fun h => ?_, fun h => ?_⟩
  · rw [drvStop_ramps h]
    refine ⟨rfl, fun d hd => ?_⟩
    obtain ⟨x, -, rfl⟩ := getElem?_modify_self hd
    rfl
  · rw [drvStop_atOnce (.inr h)]
    obtain ⟨hst, -, hreq⟩ := stopReq_asks b n
    exact ⟨hst, hreq⟩

/-! A lever that is used again. -/

theorem tableRef_beside (v : Int) : (b.tableRef n v).regs = b.regs ∧ (b.tableRef n v).host = b.host := by
  unfold Blk.tableRef
  split <;> exact ⟨rfl, rfl⟩

theorem doLeverRestored_restores {k : Nat} (hb : (b.host.levers.getD k default).broken = true)
    (hg : 64 ≤ (b.host.levers.getD k default).good) :
    (b.doLeverRestored k).regs = b.regs ∧ ∀ x, (b.doLeverRestored k).host.levers[k]? = some x → x.broken = false := by
  unfold Blk.doLeverRestored
  dsimp only
  rw [if_pos ⟨hb, hg⟩]
  generalize hc : b.onHost (fun x => { x with levers := x.levers.modify k (fun y => { y with broken := false }) }) = c
  have hkept := each_keeps (P := fun d => d.regs = c.regs ∧ d.host = c.host) 8 (b := c)
    (f := fun n b => if b.followsLever n ∧ b.leverNo (b.refDrive n) = k then b.tableRef n (b.leverRef (b.refDrive n)) else b)
    (fun i d hd => by
      split_ifs
      · obtain ⟨hregs, hhost⟩ := tableRef_beside (b := d) (n := i) (d.leverRef (d.refDrive i))
        exact ⟨hregs.trans hd.1, hhost.trans hd.2⟩
      · exact hd) ⟨rfl, rfl⟩
  obtain ⟨hregs, hhost⟩ := hkept
  refine ⟨hregs.trans (by rw [← hc]; rfl), fun x hx => ?_⟩
  have hlev : c.host.levers[k]? = some x := hhost ▸ hx
  rw [← hc] at hlev
  obtain ⟨y, -, rfl⟩ := getElem?_modify_self hlev
  rfl

end

/-- Settles O29: the start, the two stops, the return. -/
theorem levers : Obligations.Levers := by
  unfold Obligations.Levers
  refine ⟨fun s n hp hr hs hno => yields_within rfl hp (doLeverStart_starts hr hs hno),
    fun s n _ hr => yields_within_same rfl (doLeverStart_waits hr), fun s n hp h0 hrun ht hr => yields_within rfl hp ?_,
    fun s l hp hb hg => yields_within rfl hp (doLeverRestored_restores hb hg)⟩
  rw [doLeverStop_stops h0 hrun ht hr]
  exact drvStop_either

end Sys2Proof.Machine
end

section
/-! PROOFS. The states of a CAN controller (R452, R465, R466). -/

namespace Sys2Proof.Machine

/-- The words that the end of an attempt may change: the states of the buffers, a session's count of replaced frames, the
count of dropped events. -/
def attemptWords (k x : Nat) : Prop :=
  x = (R.CANn_TXSTAT_W k).off ∨ x = R.HIF_EVDROP_COUNT.off ∨ ∃ s < 64, x = (R.SLL_SESs_CNT_REPL s).off

/-- The control words of a CAN controller lie beside what an attempt touches. -/
theorem not_attemptWords {k : Nat} {x : Nat} (h : x = 0x14014 + 0x800 * k ∨ x = 0x14018 + 0x800 * k ∨ x = 0x1401C + 0x800 * k) :
    ¬ attemptWords k x := by
  obtain ⟨o, hlo, hhi, rfl⟩ : ∃ o, 0x14014 ≤ o ∧ o < 0x14020 ∧ x = o + 0x800 * k := by
    obtain h | h | h := h
    · exact ⟨_, by decide, by decide, h⟩
    · exact ⟨_, by decide, by decide, h⟩
    · exact ⟨_, by decide, by decide, h⟩
  have habove : ∀ y < 0x14014, o + 0x800 * k ≠ y := fun y hy =>
    Nat.ne_of_gt (lt_of_lt_of_le hy (le_trans hlo (Nat.le_add_right ..)))
  rintro (h1 | h1 | ⟨s, hs, h1⟩)
  · exact Nat.ne_of_lt hhi (Nat.add_right_cancel h1)
  · exact habove _ (by decide) h1
  · exact habove _ ((by decide : ∀ s < 64, 0x1111C + 0x20 * s < 0x14014) s hs) h1

section
variable {b : Blk} (k : Nat)

theorem canOn_iff : b.canOn k = true ↔ b.powered .comm = true ∧ (b.canState k = 3 ∨ b.canState k = 4) := by
  simp [Blk.canOn]

/-! The two error counters. -/

theorem canRec_congr {c : Blk} (h : ∀ g : Fld, g.off = 0x14018 + 0x800 * k → c.rd g = b.rd g) : c.canRec k = b.canRec k := by
  rw [Blk.canRec, Blk.canRec, h (R.CANn_ECNT_REC k) rfl, h (R.CANn_ECNT_RP k) rfl]

theorem setRec_rec (v : Nat) : (b.setRec k v).canRec k = min v 255 := by
  have hrp : (b.setRec k v).rd (R.CANn_ECNT_RP k) = b2n (decide (127 < v)) % 2 ^ 1 := Blk.rd_wr_self _ _ _ inWord_of
  have hrec : (b.setRec k v).rd (R.CANn_ECNT_REC k) = min v 255 % 2 ^ 7 :=
    (Blk.rd_wr_apart _ _ _ _ inWord_of apart_above).trans (Blk.rd_wr_self _ _ _ inWord_of)
  have hdiv : b2n (decide (127 < v)) % 2 ^ 1 = min v 255 / 128 := by
    by_cases h : 127 < v
    · rw [decide_eq_true h]
      exact (Nat.div_eq_of_lt_le (le_min h (by decide)) (lt_of_le_of_lt (min_le_right v 255) (by decide))).symm
    · rw [decide_eq_false h]
      exact (Nat.div_eq_of_lt (lt_of_le_of_lt (min_le_left v 255) (Nat.lt_succ_of_le (Nat.le_of_not_lt h)))).symm
  rw [Blk.canRec, hrp, hrec, hdiv]
  exact Nat.mod_add_div ..

theorem setRec_tec (v : Nat) : (b.setRec k v).rd (R.CANn_ECNT_TEC k) = b.rd (R.CANn_ECNT_TEC k) :=
  (Blk.rd_wr_apart _ _ _ _ inWord_of apart_above).trans (Blk.rd_wr_apart _ _ _ _ inWord_of apart_above)

theorem setRec_same (v : Nat) : SameBut b (b.setRec k v) (· = (R.CANn_ECNT_W k).off) :=
  same_flag (T := (· = _)) (same_wr (same_refl b _) (R.CANn_ECNT_REC k) (min v 255) rfl) (R.CANn_ECNT_RP k)
    (decide (127 < v)) rfl

/-- A field of another word is as `CANn_ECNT` leaves it. -/
theorem setRec_rd (v : Nat) (g : Fld) (h : g.off ≠ 0x14018 + 0x800 * k) : (b.setRec k v).rd g = b.rd g :=
  same_rd (setRec_same k v) g h

/-! STATE, and ACTIVE and PASSIVE by the counters. -/

theorem wr_canState (v : Nat) (hv : v < 16) : (b.wr (R.CANn_STAT_STATE k) v).canState k = v :=
  (Blk.rd_wr_self _ _ _ inWord_of).trans (Nat.mod_eq_of_lt hv)

/-- What the choice between ACTIVE and PASSIVE leaves: every field but STATE and the count of dropped events. -/
theorem canErrState_rd (g : Fld) (hd : g.off ≠ R.HIF_EVDROP_COUNT.off)
    (h : g.off ≠ (R.CANn_STAT_STATE k).off ∨ (R.CANn_STAT_STATE k).apart g) : (b.canErrState k).rd g = b.rd g := by
  have hwr : ∀ v, (b.wr (R.CANn_STAT_STATE k) v).rd g = b.rd g := fun v =>
    h.elim (fun h => Blk.rd_wr_off _ _ _ _ h) fun h => Blk.rd_wr_apart _ _ _ _ inWord_of h
  unfold Blk.canErrState
  dsimp only
  split_ifs
  · exact (Blk.raise_rd _ _ _ _ _ hd).trans (hwr 4)
  · exact (Blk.raise_rd _ _ _ _ _ hd).trans (hwr 3)
  · rfl

theorem canErrState_state (h : b.canState k = 3 ∨ b.canState k = 4) :
    (b.canErrState k).canState k = if 127 < b.rd (R.CANn_ECNT_TEC k) ∨ 127 < b.canRec k then 4 else 3 := by
  have hoff : (R.CANn_STAT_STATE k).off ≠ R.HIF_EVDROP_COUNT.off := ne_above
  have hraise : ∀ v code i, v < 16 → ((b.wr (R.CANn_STAT_STATE k) v).raise code k i).canState k = v := fun v code i hv =>
    (Blk.raise_rd _ _ _ _ _ hoff).trans (wr_canState k v hv)
  unfold Blk.canErrState
  dsimp only
  rw [← Bool.decide_or]
  by_cases hi : 127 < b.rd (R.CANn_ECNT_TEC k) ∨ 127 < b.canRec k
  · rw [decide_eq_true hi, if_pos hi]
    obtain h | h := h
    · rw [if_pos ⟨h, rfl⟩]
      exact hraise 4 _ _ (by decide)
    · rw [if_neg (fun h3 => absurd (h3.1.symm.trans h) (by decide)), if_neg (fun h => Bool.false_ne_true h.2.symm)]
      exact h
  · rw [decide_eq_false hi, if_neg hi]
    obtain h | h := h
    · rw [if_neg (fun h => Bool.false_ne_true h.2), if_neg (fun h4 => absurd (h4.1.symm.trans h) (by decide))]
      exact h
    · rw [if_neg (fun h => Bool.false_ne_true h.2), if_pos ⟨h, rfl⟩]
      exact hraise 3 _ _ (by decide)

/-! The end of an attempt. -/

theorem setTxb_same (i v : Nat) : SameBut b (b.setTxb k i v) (attemptWords k) := same_wr (same_refl b _) (txbFld k i) v (.inl rfl)

theorem nextTx_same (i : Nat) : SameBut b (b.nextTx k i) (attemptWords k) := by
  unfold Blk.nextTx
  split
  · exact setTxb_same k i 1
  · exact same_refl _ _

theorem slaluLost_same {s : Nat} (hs : s < 64) : SameBut b (b.slaluLost s) (attemptWords k) := by
  unfold Blk.slaluLost
  split_ifs
  · exact same_refl _ _
  · exact same_raiseLim (same_inc (same_refl b _) (R.SLL_SESs_CNT_REPL s) (.inr (.inr ⟨s, hs, rfl⟩))) 1024 0xA104 s _ (.inr (.inl rfl))

theorem cancelDone_regs (h : Option Hdr) (v : Nat) : (b.cancelDone h v).regs = b.regs := by
  cases h <;> rfl

theorem same_onTxb {T : Nat → Prop} {c : Blk} (h : SameBut b c T) (i : Nat) (f : TxBuf → TxBuf) : SameBut b (c.onTxb k i f) T :=
  fun a ha => h a ha

theorem attemptFails_same (i : Nat) : SameBut b (b.attemptFails k i) (attemptWords k) := by
  unfold Blk.attemptFails
  dsimp only
  split
  · exact same_trans (same_trans (same_onTxb k (setTxb_same k i 4) i _) (same_regs (cancelDone_regs _ _))) (nextTx_same k i)
  · split
    · exact same_trans (same_onTxb k (setTxb_same k i 1) i _) (slaluLost_same k (Nat.mod_lt _ (by decide)))
    · exact setTxb_same k i 1

theorem endAttempt_same : SameBut b (b.endAttempt k) (attemptWords k) := by
  unfold Blk.endAttempt
  split
  · exact attemptFails_same k _
  · exact same_refl _ _

/-! An error (R452, R453). -/

theorem measureTdc_rd (g : Fld) (h : (R.CANn_STAT_TDCV k).apart g ∨ g.off ≠ (R.CANn_STAT_TDCV k).off) :
    (b.measureTdc k).rd g = b.rd g := by
  unfold Blk.measureTdc
  split
  · split_ifs
    · exact h.elim (fun h => Blk.rd_wr_apart _ _ _ _ inWord_of h) fun h => Blk.rd_wr_off _ _ _ _ h
    · rfl
  · rfl

/-- An error is noted: its kind in LEC, the loop delay where it was measured, the count. -/
def Blk.canErrNoted (b : Blk) (k lec : Nat) : Blk := ((b.measureTdc k).wr (R.CANn_STAT_LEC k) lec).inc (R.CANn_CNT_ERR k)

/-- The counters move by what the error adds. -/
def Blk.canErrCounted (b : Blk) (k tec dRec : Nat) : Blk :=
  (b.wr (R.CANn_ECNT_TEC k) (min tec 255)).setRec k (b.canRec k + dRec)

/-- An error noted leaves what lies beside LEC, TDCV and the count of errors. -/
theorem canErrNoted_rd (lec : Nat) (g : Fld) (hc : g.off ≠ (R.CANn_CNT_ERR k).off)
    (h : g.off ≠ (R.CANn_STAT_LEC k).off ∨ (R.CANn_STAT_LEC k).apart g ∧ (R.CANn_STAT_TDCV k).apart g) :
    (b.canErrNoted k lec).rd g = b.rd g := by
  refine (Blk.rd_inc_off _ _ _ hc).trans ?_
  obtain h | ⟨hlec, htdc⟩ := h
  · exact (Blk.rd_wr_off _ _ _ _ h).trans (measureTdc_rd k g (.inr h))
  · exact (Blk.rd_wr_apart _ _ _ _ inWord_of hlec).trans (measureTdc_rd k g (.inl htdc))

theorem canErrNoted_lec (lec : Nat) (h : lec < 8) : (b.canErrNoted k lec).rd (R.CANn_STAT_LEC k) = lec := by
  exact (Blk.rd_inc_off _ _ _ ne_beside).trans ((Blk.rd_wr_self _ _ _ inWord_of).trans (Nat.mod_eq_of_lt h))

theorem canErrNoted_count (lec : Nat) :
    (b.canErrNoted k lec).rd (R.CANn_CNT_ERR k) = min (b.rd (R.CANn_CNT_ERR k) + 1) (R.CANn_CNT_ERR k).top := by
  have hoff : (R.CANn_CNT_ERR k).off ≠ (R.CANn_STAT_LEC k).off := ne_beside
  refine (Blk.rd_inc_self _ _ inWord_of).trans ?_
  rw [Blk.rd_wr_off _ _ _ _ hoff, measureTdc_rd k _ (.inr hoff)]

theorem canErrCounted_rd (tec dRec : Nat) (g : Fld) (h : g.off ≠ 0x14018 + 0x800 * k) :
    (b.canErrCounted k tec dRec).rd g = b.rd g := (setRec_rd k _ g h).trans (Blk.rd_wr_off _ _ _ _ h)

theorem canErrCounted_tec (tec dRec : Nat) : (b.canErrCounted k tec dRec).rd (R.CANn_ECNT_TEC k) = min tec 255 :=
  (setRec_tec k _).trans ((Blk.rd_wr_self _ _ _ inWord_of).trans
    (Nat.mod_eq_of_lt (lt_of_le_of_lt (Nat.min_le_right ..) (by decide : 255 < 2 ^ 8))))

theorem canErrCounted_rec (tec dRec : Nat) : (b.canErrCounted k tec dRec).canRec k = min (b.canRec k + dRec) 255 := setRec_rec k _

/-- What an error leaves before the controller takes its new state. -/
theorem doCanError_eq (lec dT dR : Nat) (hon : b.canOn k = true) (hr : b.on (R.CANn_STAT_RESTR k) = false) :
    b.doCanError k lec dT dR =
      let c := ((b.canErrNoted k lec).canErrCounted k (b.rd (R.CANn_ECNT_TEC k) + dT) dR).canErrState k
      if 255 < b.rd (R.CANn_ECNT_TEC k) + dT then c.canBusOff k else c.endAttempt k := by
  have hoff : 0x14014 + 0x800 * k ≠ (R.CANn_CNT_ERR k).off := ne_beside
  have hoff' : 0x14018 + 0x800 * k ≠ (R.CANn_CNT_ERR k).off := ne_beside
  have hoff'' : 0x14018 + 0x800 * k ≠ (R.CANn_STAT_LEC k).off := ne_beside
  have hrestr : (b.canErrNoted k lec).on (R.CANn_STAT_RESTR k) = false := by
    rw [Blk.on, canErrNoted_rd k lec (R.CANn_STAT_RESTR k) hoff (.inr ⟨apart_above, apart_above⟩)]
    exact hr
  have htec : (b.canErrNoted k lec).rd (R.CANn_ECNT_TEC k) = b.rd (R.CANn_ECNT_TEC k) :=
    canErrNoted_rd k lec (R.CANn_ECNT_TEC k) hoff' (.inl hoff'')
  unfold Blk.doCanError
  unfold Blk.canErrNoted at *
  rw [if_pos hon]
  dsimp only
  generalize (((b.measureTdc k).wr (R.CANn_STAT_LEC k) lec).inc (R.CANn_CNT_ERR k)) = c at *
  rw [if_neg (by rw [hrestr]; decide), htec]
  rfl

/-- The counters, LEC, the counts and STATE after an error, before an attempt ends or the bus is left. -/
structure CanErred (b c : Blk) (k lec dT dR : Nat) : Prop where
  tec : c.rd (R.CANn_ECNT_TEC k) = min (b.rd (R.CANn_ECNT_TEC k) + dT) 255
  cnt : c.canRec k = min (b.canRec k + dR) 255
  lec : c.rd (R.CANn_STAT_LEC k) = lec
  errs : c.rd (R.CANn_CNT_ERR k) = min (b.rd (R.CANn_CNT_ERR k) + 1) (R.CANn_CNT_ERR k).top
  boff : c.rd (R.CANn_CNT_BOFF k) = b.rd (R.CANn_CNT_BOFF k)
  state : c.canState k = if 127 < min (b.rd (R.CANn_ECNT_TEC k) + dT) 255 ∨ 127 < min (b.canRec k + dR) 255 then 4 else 3

theorem canErred (lec dT dR : Nat) (hon : b.canOn k = true) (hlec : lec < 8) :
    CanErred b (((b.canErrNoted k lec).canErrCounted k (b.rd (R.CANn_ECNT_TEC k) + dT) dR).canErrState k) k lec dT dR := by
  have hstat : 0x14014 + 0x800 * k ≠ 0x14018 + 0x800 * k ∧ 0x14014 + 0x800 * k ≠ 0x1401C + 0x800 * k ∧
    0x14014 + 0x800 * k ≠ 0x4020 := ⟨ne_beside, ne_beside, ne_above⟩
  have hcnt : 0x14018 + 0x800 * k ≠ 0x14014 + 0x800 * k ∧ 0x14018 + 0x800 * k ≠ 0x1401C + 0x800 * k ∧
    0x14018 + 0x800 * k ≠ 0x4020 := ⟨ne_beside, ne_beside, ne_above⟩
  have herr : 0x1401C + 0x800 * k ≠ 0x14014 + 0x800 * k ∧ 0x1401C + 0x800 * k ≠ 0x14018 + 0x800 * k ∧
    0x1401C + 0x800 * k ≠ 0x4020 := ⟨ne_beside, ne_beside, ne_above⟩
  obtain ⟨hse, hsc, hsd⟩ := hstat
  obtain ⟨hes, hec, hed⟩ := hcnt
  obtain ⟨hcs, hce, hcd⟩ := herr
  have hrec : (b.canErrNoted k lec).canRec k = b.canRec k := canRec_congr k fun g hg =>
    canErrNoted_rd k lec g (hg ▸ hec) (.inl (hg ▸ hes))
  have hstate : (b.canErrNoted k lec).canState k = b.canState k :=
    canErrNoted_rd k lec (R.CANn_STAT_STATE k) hsc (.inr ⟨apart_above, apart_above⟩)
  have hlecd := canErrNoted_lec (b := b) k lec hlec
  have herrs := canErrNoted_count (b := b) k lec
  have hboff : (b.canErrNoted k lec).rd (R.CANn_CNT_BOFF k) = b.rd (R.CANn_CNT_BOFF k) :=
    (Blk.rd_wr_apart _ (R.CANn_CNT_ERR k) (R.CANn_CNT_BOFF k) _ inWord_of apart_above).trans
      ((Blk.rd_wr_off _ _ _ _ hcs).trans (measureTdc_rd k _ (.inr hcs)))
  generalize b.canErrNoted k lec = c at *
  have htec' := canErrCounted_tec (b := c) k (b.rd (R.CANn_ECNT_TEC k) + dT) dR
  have hrec' := canErrCounted_rec (b := c) k (b.rd (R.CANn_ECNT_TEC k) + dT) dR
  have hrd := canErrCounted_rd (b := c) k (b.rd (R.CANn_ECNT_TEC k) + dT) dR
  rw [hrec] at hrec'
  generalize c.canErrCounted k (b.rd (R.CANn_ECNT_TEC k) + dT) dR = d at *
  refine ⟨(canErrState_rd k _ hed (.inl hes)).trans htec', ?_, ?_, ?_, ?_, ?_⟩
  · exact (canRec_congr k fun g hg => canErrState_rd k g (hg ▸ hed) (.inl (hg ▸ hes))).trans hrec'
  · exact (canErrState_rd k _ hsd (.inr apart_below)).trans ((hrd _ hse).trans hlecd)
  · exact (canErrState_rd k _ hcd (.inl hcs)).trans ((hrd _ hce).trans herrs)
  · exact (canErrState_rd k _ hcd (.inl hcs)).trans ((hrd _ hce).trans hboff)
  · obtain ⟨-, h34⟩ := (canOn_iff k).mp hon
    rw [canErrState_state k ?_, htec', hrec']
    rw [show d.canState k = c.canState k from hrd _ hse, hstate]
    exact h34

/-- An attempt that ends leaves the control words of its controller. -/
theorem endAttempt_rd (g : Fld) (h : g.off = 0x14014 + 0x800 * k ∨ g.off = 0x14018 + 0x800 * k ∨ g.off = 0x1401C + 0x800 * k) :
    (b.endAttempt k).rd g = b.rd g := same_rd (endAttempt_same k) g (not_attemptWords h)

/-- Bus-off beside the buffers: the attempt has ended in `c`. -/
theorem canBusOff_eq : ∃ c : Blk, b.canBusOff k =
    ((c.wr (R.CANn_STAT_STATE k) 5).inc (R.CANn_CNT_BOFF k)).raise 0xD301 k [] ∧ c.regs = (b.endAttempt k).regs := by
  unfold Blk.canBusOff
  dsimp only
  refine ⟨_, rfl, ?_⟩
  split
  · rfl
  · rfl

theorem canBusOff_off : (b.canBusOff k).canState k = 5 ∧
    (b.canBusOff k).rd (R.CANn_ECNT_TEC k) = b.rd (R.CANn_ECNT_TEC k) ∧
    (b.canBusOff k).rd (R.CANn_STAT_LEC k) = b.rd (R.CANn_STAT_LEC k) ∧
    (b.canBusOff k).rd (R.CANn_CNT_BOFF k) = min (b.rd (R.CANn_CNT_BOFF k) + 1) (R.CANn_CNT_BOFF k).top ∧
    Reported (b.canBusOff k) 0xD301 k := by
  have hapart : 0x14014 + 0x800 * k ≠ 0x4020 ∧ 0x14018 + 0x800 * k ≠ 0x4020 ∧ 0x1401C + 0x800 * k ≠ 0x4020 ∧
    0x14014 + 0x800 * k ≠ 0x1401C + 0x800 * k ∧ 0x14018 + 0x800 * k ≠ 0x1401C + 0x800 * k ∧
    0x14018 + 0x800 * k ≠ 0x14014 + 0x800 * k ∧ 0x1401C + 0x800 * k ≠ 0x14014 + 0x800 * k :=
    ⟨ne_above, ne_above, ne_above, ne_beside, ne_beside, ne_beside, ne_beside⟩
  obtain ⟨hsd, hed, hcd, hsc, hec, hes, hcs⟩ := hapart
  obtain ⟨c, hc, hregs⟩ := canBusOff_eq (b := b) k
  have hrd : ∀ g : Fld, g.off = 0x14014 + 0x800 * k ∨ g.off = 0x14018 + 0x800 * k ∨ g.off = 0x1401C + 0x800 * k →
      c.rd g = b.rd g := fun g hg =>
    (same_rd (same_regs (T := fun _ => False) hregs) g id).trans (endAttempt_rd k g hg)
  rw [hc]
  refine ⟨?_, ?_, ?_, ?_, Blk.raise_self ..⟩
  · exact (Blk.raise_rd _ _ _ _ _ hsd).trans ((Blk.rd_inc_off _ _ _ hsc).trans (wr_canState k 5 (by decide)))
  · exact (Blk.raise_rd _ _ _ _ _ hed).trans ((Blk.rd_inc_off _ _ _ hec).trans ((Blk.rd_wr_off _ _ _ _ hes).trans
      (hrd _ (.inr (.inl rfl)))))
  · exact (Blk.raise_rd _ _ _ _ _ hsd).trans ((Blk.rd_inc_off _ _ _ hsc).trans
      ((Blk.rd_wr_apart _ _ _ _ inWord_of apart_below).trans (hrd _ (.inl rfl))))
  · rw [Blk.raise_rd _ _ _ _ (R.CANn_CNT_BOFF k) hcd, Blk.rd_inc_self _ _ inWord_of,
      Blk.rd_wr_off _ (R.CANn_STAT_STATE k) (R.CANn_CNT_BOFF k) _ hcs, hrd (R.CANn_CNT_BOFF k) (.inr (.inr rfl))]

/-- An error that keeps the bus. -/
theorem doCanError_keeps (lec dT dR : Nat) (hlec : lec < 8) (hon : b.canOn k = true) (hr : b.on (R.CANn_STAT_RESTR k) = false)
    (ht : b.rd (R.CANn_ECNT_TEC k) + dT ≤ 255) :
    (b.doCanError k lec dT dR).rd (R.CANn_ECNT_TEC k) = b.rd (R.CANn_ECNT_TEC k) + dT ∧
      (b.doCanError k lec dT dR).canRec k = min (b.canRec k + dR) 255 ∧
      (b.doCanError k lec dT dR).rd (R.CANn_STAT_LEC k) = lec ∧
      (b.doCanError k lec dT dR).rd (R.CANn_CNT_ERR k) = min (b.rd (R.CANn_CNT_ERR k) + 1) (R.CANn_CNT_ERR k).top ∧
      (b.doCanError k lec dT dR).canState k =
        if 127 < b.rd (R.CANn_ECNT_TEC k) + dT ∨ 127 < b.canRec k + dR then 4 else 3 := by
  obtain ⟨tec, cnt, lecd, errs, -, state⟩ := canErred k lec dT dR hon hlec
  rw [doCanError_eq k lec dT dR hon hr]
  dsimp only
  rw [if_neg (Nat.not_lt.mpr ht)]
  generalize (((b.canErrNoted k lec).canErrCounted k (b.rd (R.CANn_ECNT_TEC k) + dT) dR).canErrState k) = c at *
  refine ⟨?_, ?_, ?_, ?_, ?_⟩
  · exact (endAttempt_rd k _ (.inr (.inl rfl))).trans (tec.trans (Nat.min_eq_left ht))
  · exact (canRec_congr k fun g hg => endAttempt_rd k g (.inr (.inl hg))).trans cnt
  · exact (endAttempt_rd k _ (.inl rfl)).trans lecd
  · exact (endAttempt_rd k _ (.inr (.inr rfl))).trans errs
  · refine ((endAttempt_rd k _ (.inl rfl)).trans state).trans (if_congr ?_ rfl rfl)
    rw [Nat.min_eq_left ht, lt_min_iff]
    exact or_congr Iff.rfl (and_iff_left (by decide))

/-- An error that leaves the bus. -/
theorem doCanError_leaves (lec dT dR : Nat) (hlec : lec < 8) (hon : b.canOn k = true) (hr : b.on (R.CANn_STAT_RESTR k) = false)
    (ht : 255 < b.rd (R.CANn_ECNT_TEC k) + dT) :
    (b.doCanError k lec dT dR).canState k = 5 ∧ (b.doCanError k lec dT dR).rd (R.CANn_ECNT_TEC k) = 255 ∧
      (b.doCanError k lec dT dR).rd (R.CANn_STAT_LEC k) = lec ∧
      (b.doCanError k lec dT dR).rd (R.CANn_CNT_BOFF k) = min (b.rd (R.CANn_CNT_BOFF k) + 1) (R.CANn_CNT_BOFF k).top ∧
      Reported (b.doCanError k lec dT dR) 0xD301 k := by
  obtain ⟨tec, -, lecd, -, boff, -⟩ := canErred k lec dT dR hon hlec
  rw [doCanError_eq k lec dT dR hon hr]
  dsimp only
  rw [if_pos ht]
  generalize (((b.canErrNoted k lec).canErrCounted k (b.rd (R.CANn_ECNT_TEC k) + dT) dR).canErrState k) = c at *
  obtain ⟨hst, htec, hlecd, hboff, hrep⟩ := canBusOff_off (b := c) k
  exact ⟨hst, htec.trans (tec.trans (Nat.min_eq_right (Nat.le_of_lt ht))), hlecd.trans lecd, hboff.trans (by rw [boff]), hrep⟩

/-! The other rows. -/

theorem doCanIntegrated_joins (hp : b.powered .comm = true) (h : b.canState k = 2) :
    (b.doCanIntegrated k).canState k = if 127 < b.rd (R.CANn_ECNT_TEC k) ∨ 127 < b.canRec k then 4 else 3 := by
  have hoff : 0x14018 + 0x800 * k ≠ 0x14014 + 0x800 * k := ne_beside
  rw [Blk.doCanIntegrated, if_pos ⟨hp, h⟩, canErrState_state k (.inl (wr_canState k 3 (by decide))),
    Blk.rd_wr_off _ (R.CANn_STAT_STATE k) (R.CANn_ECNT_TEC k) _ hoff, canRec_congr k fun g hg => Blk.rd_wr_off _ (R.CANn_STAT_STATE k) g _ (hg ▸ hoff)]

theorem doCanPxe_integrates (hon : b.canOn k = true) : (b.doCanPxe k).canState k = 2 ∧
    (b.doCanPxe k).on (R.CANn_STAT_PXE k) = true ∧ Reported (b.doCanPxe k) 0xD103 k := by
  have hoff : (R.CANn_STAT_PXE k).off ≠ R.HIF_EVDROP_COUNT.off := ne_above
  rw [Blk.doCanPxe, if_pos hon]
  refine ⟨wr_canState k 2 (by decide), ?_, reported_wr_above (Blk.raise_self ..) _ _ ?_⟩
  · rw [Blk.on_wr_apart _ _ _ _ inWord_of apart_below, Blk.raise_on _ _ _ _ _ hoff]
    exact Blk.on_flag_self _ _ _ inWord_of rfl
  · exact le_above

theorem doCanRecover_recovers (hp : b.powered .comm = true) (h : b.canState k = 5) : (b.doCanRecover k).canState k = 6 ∧
    (b.doCanRecover k).rd (R.CANn_ECNT_RECOVN k) = 0 ∧ (b.doCanRecover k).evs = b.evs := by
  have hoff : 0x14018 + 0x800 * k ≠ 0x14014 + 0x800 * k := ne_beside
  rw [Blk.doCanRecover, if_pos ⟨hp, h⟩]
  exact ⟨wr_canState k 6 (by decide), (Blk.rd_wr_off _ _ _ _ hoff).trans (Blk.rd_wr_self _ _ _ inWord_of),
    (Blk.wr_evs ..).trans (Blk.wr_evs ..)⟩

theorem doCanRecovered_recovered (hp : b.powered .comm = true) (h : b.canState k = 6) :
    (b.doCanRecovered k).canState k = 3 ∧ (b.doCanRecovered k).rd (R.CANn_ECNT_TEC k) = 0 ∧
      (b.doCanRecovered k).canRec k = 0 ∧ Reported (b.doCanRecovered k) 0xD002 k := by
  have hoff : 0x14018 + 0x800 * k ≠ 0x14014 + 0x800 * k := ne_beside
  have hdrop : 0x14018 + 0x800 * k ≠ R.HIF_EVDROP_COUNT.off := ne_above
  rw [Blk.doCanRecovered, if_pos ⟨hp, h⟩]
  dsimp only
  refine ⟨wr_canState k 3 (by decide), ?_, ?_, reported_wr_above (Blk.raise_self ..) _ _ ?_⟩
  · rw [Blk.rd_wr_off _ (R.CANn_STAT_STATE k) (R.CANn_ECNT_TEC k) _ hoff, Blk.raise_rd _ _ _ _ (R.CANn_ECNT_TEC k) hdrop, setRec_tec]
    exact Blk.rd_wr_self _ _ _ inWord_of
  · rw [canRec_congr k fun g hg => (Blk.rd_wr_off _ (R.CANn_STAT_STATE k) g _ (hg ▸ hoff)).trans (Blk.raise_rd _ _ _ _ g (hg ▸ hdrop)), setRec_rec]
    rfl
  · exact le_above

theorem doCanSleepEnter_sleeps (hon : b.canOn k = true) (hs : (b.can k).sleepReq = true) :
    (b.doCanSleepEnter k).canState k = 7 ∧ ((b.doCanSleepEnter k).can k).sleepReq = false ∧
      SameBut b (b.doCanSleepEnter k) fun a => a = (R.CANn_STAT_STATE k).off := by
  rw [Blk.doCanSleepEnter, if_pos ⟨hon, hs⟩]
  generalize hc : b.wr (R.CANn_STAT_STATE k) 7 = c
  have hstate : c.canState k = 7 := hc ▸ wr_canState k 7 (by decide)
  have hsame : SameBut b c (· = (R.CANn_STAT_STATE k).off) := hc ▸ same_wr (same_refl b _) _ _ rfl
  refine ⟨hstate, ?_, hsame⟩
  show (((c.cans.modify k _).getD k default : Can)).sleepReq = false
  rw [List.getD_eq_getElem?_getD, List.getElem?_modify_eq]
  cases c.cans[k]? <;> rfl

theorem canWakes_wakes (cause : Nat) : (b.canWakes k cause).canState k = 2 ∧ Reported (b.canWakes k cause) 0xD003 k ∧
    (b.canWakes k cause).cans = b.cans := by
  have hoff : (R.CANn_STAT_STATE k).off ≠ R.HIF_EVDROP_COUNT.off := ne_above
  exact ⟨(Blk.raise_rd _ _ _ _ _ hoff).trans (wr_canState k 2 (by decide)), Blk.raise_self ..,
    (Blk.raise_cans ..).trans (Blk.wr_cans ..)⟩

theorem doCanWakeEdge_wakes (hp : b.powered .comm = true) (h : b.canState k = 7) (hr : b.on (R.CANn_CFG_ROLE k) = false) :
    b.doCanWakeEdge k = b.canWakes k 1 := if_pos ⟨hp, h, hr⟩

theorem doCanWakeFrame_wakes {f : CanFrame} (hp : b.powered .comm = true) (h : b.canState k = 7)
    (hr : b.on (R.CANn_CFG_ROLE k) = true) (hf : b.isWakeFrame k f = true) :
    b.doCanWakeFrame k f = b.canWakes k (if b.wakeWaits k then 3 else 2) := if_pos ⟨hp, h, hr, hf⟩

theorem doCanWakeFrame_sleeps {f : CanFrame} (hf : b.isWakeFrame k f = false) : b.doCanWakeFrame k f = b :=
  if_neg fun h => Bool.false_ne_true (hf.symm.trans h.2.2.2)

end

/-- Settles O33: each row by what it does to the counters and to STATE. -/
theorem canStates : Obligations.CanStates := by
  unfold Obligations.CanStates
  refine ⟨fun s k hp h => ⟨_, rfl, doCanIntegrated_joins k hp h⟩, fun s k lec dT dR hon hr => ⟨fun ht => ?_, fun ht => ?_⟩,
    fun s k hon => yields_within rfl ((canOn_iff k).mp hon).1 (doCanPxe_integrates k hon),
    fun s k hp h => ⟨_, rfl, doCanRecover_recovers k hp h⟩, fun s k hp h => ⟨_, rfl, doCanRecovered_recovered k hp h⟩,
    fun s k hon hs => yields_within rfl ((canOn_iff k).mp hon).1 (doCanSleepEnter_sleeps k hon hs),
    fun s k hp h hr => yields_onBlk rfl (doCanWakeEdge_wakes k hp h hr) (canWakes_wakes k 1), fun s k f hp h hr => ?_⟩
  · exact yields_within rfl ((canOn_iff k).mp hon).1 (doCanError_keeps k lec dT dR (lec.isLt.trans (by decide)) hon hr ht)
  · exact yields_within rfl ((canOn_iff k).mp hon).1 (doCanError_leaves k lec dT dR (lec.isLt.trans (by decide)) hon hr ht)
  · cases hf : s.blk.isWakeFrame k f with
    | true =>
      obtain ⟨hst, hrep, -⟩ := canWakes_wakes (b := s.blk) k (if s.blk.wakeWaits k then 3 else 2)
      exact yields_onBlk rfl (doCanWakeFrame_wakes k hp h hr hf) ⟨fun _ => ⟨hst, hrep⟩, fun h => absurd h.symm Bool.false_ne_true⟩
    | false => exact yields_onBlk rfl (doCanWakeFrame_sleeps k hf) ⟨fun h => absurd h Bool.false_ne_true, fun _ => rfl⟩

end Sys2Proof.Machine
end

section
/-! PROOFS. Transmission on a CAN controller (R461, R463, R464). -/

namespace Sys2Proof.Machine

section
variable {b : Blk} (k : Nat)

/-! The buffers beside their states. -/

/-- An update of controller k is seen at k, where there is a controller. -/
theorem can_onCan_view {α : Type} (V : Can → α) {f : Can → Can} (hV : ∀ x, V (f x) = V x) :
    V ((b.onCan k f).can k) = V (b.can k) := by
  show V ((b.cans.modify k f).getD k default) = V (b.cans.getD k default)
  rw [List.getD_eq_getElem?_getD, List.getD_eq_getElem?_getD, List.getElem?_modify_eq]
  cases b.cans[k]? with
  | none => rfl
  | some x => exact hV x

/-- What an update of a buffer leaves of every buffer. -/
theorem onTxb_view {α : Type} (V : TxBuf → α) (i j : Nat) {f : TxBuf → TxBuf} (hV : ∀ y, V (f y) = V y) :
    V (((b.onTxb k j f).can k).buf i) = V ((b.can k).buf i) := by
  refine can_onCan_view k (fun x => V (x.buf i)) fun x => ?_
  show V ((x.bufs.modify j f).getD i default) = V (x.bufs.getD i default)
  rw [List.getD_eq_getElem?_getD, List.getD_eq_getElem?_getD, List.getElem?_modify]
  cases x.bufs[i]? with
  | none => rfl
  | some y =>
    by_cases h : j = i
    · simpa [h] using hV y
    · simp [h]

/-- No buffer goes first any more. -/
def Blk.unfirst (b : Blk) (k : Nat) : Blk := b.eachOf [0, 1, 2] (fun j b => b.onTxb k j (fun y => { y with first := false }))

theorem unfirst_beside : (b.unfirst k).regs = b.regs ∧ (b.unfirst k).evs = b.evs := ⟨rfl, rfl⟩

theorem unfirst_buf (i : Nat) : (((b.unfirst k).can k).buf i).f = ((b.can k).buf i).f ∧
    (((b.unfirst k).can k).buf i).next = ((b.can k).buf i).next := by
  have hview : ∀ {α : Type} (V : TxBuf → α), (∀ y, V { y with first := false } = V y) →
      V (((b.unfirst k).can k).buf i) = V ((b.can k).buf i) := fun V hV =>
    (onTxb_view k V i 2 hV).trans ((onTxb_view k V i 1 hV).trans (onTxb_view k V i 0 hV))
  exact ⟨hview (·.f) fun _ => rfl, hview (·.next) fun _ => rfl⟩

theorem nextTx_none {i : Nat} (h : ((b.can k).buf i).next = []) : b.nextTx k i = b := by
  unfold Blk.nextTx
  rw [h]

/-- A controller has three buffers. -/
theorem txbFld_inWord {i : Nat} (hi : i < 3) : (txbFld k i).inWord := by
  exact (by decide : ∀ i < 3, 0 + i * 3 + 3 ≤ 32) i hi

theorem setTxb_txb {i v : Nat} (hi : i < 3) (hv : v < 8) : (b.setTxb k i v).txb k i = v :=
  (Blk.rd_wr_self _ _ _ (txbFld_inWord k hi)).trans (Nat.mod_eq_of_lt hv)

theorem setTxb_reported {c n : Nat} (h : Reported b c n) (i v : Nat) : Reported (b.setTxb k i v) c n :=
  reported_wr_above h (txbFld k i) v (le_above)

theorem canChoice_lt {i : Nat} (h : b.canChoice k = some i) : i < 3 := by
  have hmem : ∀ p : List Nat, p = [0, 1, 2].filter (fun i => b.txb k i == 1) → i ∈ p → i < 3 := fun p hp hi => by
    subst hp
    obtain ⟨hi, -⟩ := List.mem_filter.mp hi
    exact (by decide : ∀ i ∈ [0, 1, 2], i < 3) i hi
  unfold Blk.canChoice at h
  dsimp only at h
  split at h
  · next j hj =>
    cases h
    exact hmem _ rfl (List.mem_of_find?_eq_some hj)
  · split_ifs at h
    · exact hmem _ rfl (List.mem_of_mem_head? h)
    · exact hmem _ rfl (List.mem_of_find?_eq_some h)

theorem canActive_lt {i : Nat} (h : b.canActive k = some i) : i < 3 := by
  exact (by decide : ∀ i ∈ [0, 1, 2], i < 3) i (List.mem_of_find?_eq_some h)

/-! CAN_TX_ATTEMPT (R461, R464). -/

/-- What an attempt on buffer i does with the first failing word of the frame and of its copy made again. -/
def Blk.canAttempt (b : Blk) (k i : Nat) (first again : Option Nat) : Blk :=
  match first, again with
  | none, _ => b.setTxb k i 2
  | some w, none => ((b.wardFail 4 (0x7000 + k * 256 + i * 32 + w)).raise 0xD201 k [Int.ofNat i]).setTxb k i 2
  | some w, some _ => (((b.wardFail 4 (0x7000 + k * 256 + i * 32 + w)).setTxb k i 5).raise 0xD202 k [Int.ofNat i]).nextTx k i

theorem doCanAttempt_eq {i : Nat} (tag : TagCheck) (hon : b.canOn k = true) (hr : b.on (R.CANn_STAT_RESTR k) = false)
    (ha : b.canActive k = none) (hc : b.canChoice k = some i) :
    b.doCanAttempt k tag = (b.unfirst k).canAttempt k i
      (badWord tag.first (0x7000 + k * 256 + i * 32) 18 (canTxWord ((b.can k).buf i).f))
      (badWord tag.again (0x7000 + k * 256 + i * 32) 18 (canTxWord ((b.can k).buf i).f)) := by
  obtain ⟨hf, -⟩ := unfirst_buf (b := b) k i
  rw [← hf]
  unfold Blk.doCanAttempt
  rw [hon, hr, ha, hc, if_neg (by simp)]
  rfl

theorem canAttempt_sends {i : Nat} (hi : i < 3) (again : Option Nat) :
    (b.canAttempt k i none again).txb k i = 2 ∧ (b.canAttempt k i none again).evs = b.evs :=
  ⟨setTxb_txb k hi (by decide), Blk.wr_evs ..⟩

theorem canAttempt_rebuilds {i : Nat} (w : Nat) (hi : i < 3) :
    (b.canAttempt k i (some w) none).txb k i = 2 ∧ Reported (b.canAttempt k i (some w) none) 0xD201 k :=
  ⟨setTxb_txb k hi (by decide), setTxb_reported k (Blk.raise_self ..) i 2⟩

theorem wardFail_cans (cls key : Nat) : (b.wardFail cls key).cans = b.cans := by
  have hcount : (((b.inc (R.WARD_CNT_COUNT cls)).wr R.WARD_LAST_KEY key).wr R.WARD_LAST_FN b.fn).cans = b.cans :=
    (Blk.wr_cans ..).trans ((Blk.wr_cans ..).trans (Blk.wr_cans ..))
  unfold Blk.wardFail
  dsimp only
  split_ifs
  · exact (Blk.raiseLim_cans _ _ _ _ _).trans hcount
  · exact hcount

theorem canAttempt_withdraws {i : Nat} (w v : Nat) (hi : i < 3) (hn : ((b.can k).buf i).next = []) :
    (b.canAttempt k i (some w) (some v)).txb k i = 5 ∧ Reported (b.canAttempt k i (some w) (some v)) 0xD202 k := by
  have hoff : (txbFld k i).off ≠ R.HIF_EVDROP_COUNT.off := ne_above
  have hcans : (((b.wardFail 4 (0x7000 + k * 256 + i * 32 + w)).setTxb k i 5).raise 0xD202 k [Int.ofNat i]).cans = b.cans :=
    (Blk.raise_cans ..).trans ((Blk.wr_cans ..).trans (wardFail_cans _ _))
  have hnext : (((((b.wardFail 4 (0x7000 + k * 256 + i * 32 + w)).setTxb k i 5).raise 0xD202 k [Int.ofNat i]).can k).buf i).next
      = [] := by rw [Blk.can, hcans]; exact hn
  rw [Blk.canAttempt, nextTx_none k hnext]
  exact ⟨(Blk.raise_rd _ _ _ _ _ hoff).trans (setTxb_txb k hi (by decide)), Blk.raise_self ..⟩

/-! CAN_FRAME_SENT (R451, R461, R463). -/

theorem measureTdc_beside : (b.measureTdc k).evs = b.evs ∧ (b.measureTdc k).out = b.out ∧ (b.measureTdc k).cans = b.cans := by
  unfold Blk.measureTdc
  split
  · split_ifs
    · exact ⟨Blk.wr_evs .., Blk.wr_out .., Blk.wr_cans ..⟩
    · exact ⟨rfl, rfl, rfl⟩
  · exact ⟨rfl, rfl, rfl⟩

theorem canErrState_beside : (b.canErrState k).out = b.out ∧ (b.canErrState k).cans = b.cans := by
  unfold Blk.canErrState
  dsimp only
  split_ifs
  · exact ⟨(Blk.raise_out ..).trans (Blk.wr_out ..), (Blk.raise_cans ..).trans (Blk.wr_cans ..)⟩
  · exact ⟨(Blk.raise_out ..).trans (Blk.wr_out ..), (Blk.raise_cans ..).trans (Blk.wr_cans ..)⟩
  · exact ⟨rfl, rfl⟩

/-- The frame of buffer i is on the bus: the buffer is SENT, the frame counted and out. -/
def Blk.canOut (b : Blk) (k i : Nat) : Blk :=
  (((b.measureTdc k).setTxb k i 3).inc (R.CANn_TXSTAT_SENT k)).send (.can k ((b.can k).buf i).f)

/-- TEC is one less after a frame sent. -/
def Blk.canTecDown (b : Blk) (k : Nat) : Blk := (b.wr (R.CANn_ECNT_TEC k) (b.rd (R.CANn_ECNT_TEC k) - 1)).canErrState k

/-- The report of a sent frame, and the cancel that came too late. -/
def Blk.canToldSent (b : Blk) (k i : Nat) (x : TxBuf) : Blk :=
  let b := if x.report then b.raise 0xD010 k [Int.ofNat i, Int.ofNat x.tag, Int.ofNat b.fn] else b
  match x.cancel with
  | some (h, won) => b.cancelDone h (if won then 0x09 else 0x00)
  | none => b

theorem sent_apart {i : Nat} (hi : i < 3) : (R.CANn_TXSTAT_SENT k).apart (txbFld k i) := by
  exact .inr ((by decide : ∀ i < 3, 0 + i * 3 + 3 ≤ 16) i hi)

theorem send_beside (o : Output) : (∀ g, (b.send o).rd g = b.rd g) ∧ (b.send o).cans = b.cans ∧ (b.send o).out = o :: b.out :=
  ⟨fun _ => rfl, rfl, rfl⟩

/-- The frame on the bus: what its buffer, the counts and the bus show. -/
theorem canOut_shows {i : Nat} (hi : i < 3) :
    (b.canOut k i).txb k i = 3 ∧ (b.canOut k i).out = .can k ((b.can k).buf i).f :: b.out ∧
      (b.canOut k i).rd (R.CANn_TXSTAT_SENT k) = min (b.rd (R.CANn_TXSTAT_SENT k) + 1) (R.CANn_TXSTAT_SENT k).top ∧
      (b.canOut k i).rd (R.CANn_ECNT_TEC k) = b.rd (R.CANn_ECNT_TEC k) ∧ (b.canOut k i).cans = b.cans := by
  have hoff : 0x14020 + 0x800 * k ≠ 0x14014 + 0x800 * k ∧ 0x14018 + 0x800 * k ≠ 0x14020 + 0x800 * k ∧
    0x14018 + 0x800 * k ≠ 0x14014 + 0x800 * k := ⟨ne_beside, ne_beside, ne_beside⟩
  obtain ⟨hts, het, hes⟩ := hoff
  obtain ⟨-, hout, hcans⟩ := measureTdc_beside (b := b) k
  have htec := measureTdc_rd (b := b) k (R.CANn_ECNT_TEC k) (.inr hes)
  have hsent := measureTdc_rd (b := b) k (R.CANn_TXSTAT_SENT k) (.inr hts)
  unfold Blk.canOut
  generalize b.measureTdc k = c at hout hcans htec hsent ⊢
  obtain ⟨xrd, xcans, xout⟩ := send_beside (b := (c.setTxb k i 3).inc (R.CANn_TXSTAT_SENT k)) (.can k ((b.can k).buf i).f)
  refine ⟨(xrd _).trans ?_, xout.trans ?_, (xrd _).trans ?_, (xrd _).trans ?_, xcans.trans ?_⟩
  · exact (Blk.rd_wr_apart _ _ _ _ inWord_of (sent_apart k hi)).trans (setTxb_txb k hi (by decide))
  · rw [← hout]
    exact congrArg _ ((Blk.wr_out ..).trans (Blk.wr_out ..))
  · have hkept : (c.setTxb k i 3).rd (R.CANn_TXSTAT_SENT k) = c.rd (R.CANn_TXSTAT_SENT k) :=
      Blk.rd_wr_apart _ _ _ _ (txbFld_inWord k hi) (sent_apart k hi).symm
    rw [Blk.rd_inc_self _ _ inWord_of, hkept, hsent]
  · exact (Blk.rd_inc_off _ _ _ het).trans ((Blk.rd_wr_off _ _ _ _ het).trans htec)
  · exact (Blk.wr_cans ..).trans ((Blk.wr_cans ..).trans hcans)

theorem canTecDown_lowers : (b.canTecDown k).rd (R.CANn_ECNT_TEC k) = b.rd (R.CANn_ECNT_TEC k) - 1 ∧
    (b.canTecDown k).out = b.out ∧ (b.canTecDown k).cans = b.cans := by
  have hoff : 0x14018 + 0x800 * k ≠ 0x14014 + 0x800 * k ∧ 0x14018 + 0x800 * k ≠ 0x4020 := ⟨ne_beside, ne_above⟩
  obtain ⟨hes, hed⟩ := hoff
  obtain ⟨xout, xcans⟩ := canErrState_beside (b := b.wr (R.CANn_ECNT_TEC k) (b.rd (R.CANn_ECNT_TEC k) - 1)) k
  refine ⟨(canErrState_rd k (R.CANn_ECNT_TEC k) hed (.inl hes)).trans ((Blk.rd_wr_self _ _ _ inWord_of).trans ?_),
    xout.trans (Blk.wr_out ..), xcans.trans (Blk.wr_cans ..)⟩
  exact Nat.mod_eq_of_lt (lt_of_le_of_lt (Nat.sub_le ..) (Nat.mod_lt _ (Nat.two_pow_pos _)))

/-- The fields of TXSTAT stay where TEC goes down. -/
theorem canTecDown_rd (g : Fld) (h : g.off = 0x14020 + 0x800 * k) : (b.canTecDown k).rd g = b.rd g := by
  have hoff : 0x14020 + 0x800 * k ≠ 0x14014 + 0x800 * k ∧ 0x14020 + 0x800 * k ≠ 0x14018 + 0x800 * k ∧
    0x14020 + 0x800 * k ≠ 0x4020 := ⟨ne_beside, ne_beside, ne_above⟩
  obtain ⟨hts, hte, htd⟩ := hoff
  exact (canErrState_rd k g (h ▸ htd) (.inl (h ▸ hts))).trans (Blk.rd_wr_off _ (R.CANn_ECNT_TEC k) g _ (h ▸ hte))

/-- The report and the cancel leave every word but the count of dropped events, what is out and the buffers. -/
theorem canToldSent_keeps (i : Nat) (x : TxBuf) :
    (∀ g : Fld, g.off ≠ R.HIF_EVDROP_COUNT.off → (b.canToldSent k i x).rd g = b.rd g) ∧
      (b.canToldSent k i x).out = b.out ∧ (b.canToldSent k i x).cans = b.cans ∧
      (x.report = true → Reported (b.canToldSent k i x) 0xD010 k) := by
  unfold Blk.canToldSent
  dsimp only
  generalize hc : (if x.report = true then b.raise 0xD010 k [Int.ofNat i, Int.ofNat x.tag, Int.ofNat b.fn] else b) = c
  have hkept : (∀ g : Fld, g.off ≠ R.HIF_EVDROP_COUNT.off → c.rd g = b.rd g) ∧ c.out = b.out ∧ c.cans = b.cans ∧
      (x.report = true → Reported c 0xD010 k) := by
    subst hc
    split_ifs with h
    · exact ⟨fun g hg => Blk.raise_rd _ _ _ _ _ hg, Blk.raise_out .., Blk.raise_cans .., fun _ => Blk.raise_self ..⟩
    · exact ⟨fun _ _ => rfl, rfl, rfl, fun hr => absurd hr h⟩
  split
  · next h won _ =>
    cases h with
    | none => exact hkept
    | some h => exact hkept
  · exact hkept

theorem doCanSent_eq {i : Nat} (hon : b.canOn k = true) (ha : b.canActive k = some i) :
    b.doCanSent k = ((((b.canOut k i).canTecDown k).canToldSent k i ((b.can k).buf i)).onTxb k i
      fun y => { y with cancel := none }).nextTx k i := by
  unfold Blk.doCanSent
  rw [if_pos hon, ha]
  rfl

theorem doCanSent_sends {i : Nat} (hon : b.canOn k = true) (ha : b.canActive k = some i) (hn : ((b.can k).buf i).next = []) :
    (b.doCanSent k).txb k i = 3 ∧ (b.doCanSent k).out = .can k ((b.can k).buf i).f :: b.out ∧
      (b.doCanSent k).rd (R.CANn_TXSTAT_SENT k) = min (b.rd (R.CANn_TXSTAT_SENT k) + 1) (R.CANn_TXSTAT_SENT k).top ∧
      (b.doCanSent k).rd (R.CANn_ECNT_TEC k) = b.rd (R.CANn_ECNT_TEC k) - 1 ∧
      (((b.can k).buf i).report = true → Reported (b.doCanSent k) 0xD010 k) := by
  have hi := canActive_lt k ha
  have hoff : 0x14020 + 0x800 * k ≠ 0x4020 ∧ 0x14018 + 0x800 * k ≠ 0x4020 := ⟨ne_above, ne_above⟩
  obtain ⟨htd, hed⟩ := hoff
  obtain ⟨htxb, hout, hsent, htec, hcans⟩ := canOut_shows (b := b) k hi
  rw [doCanSent_eq k hon ha]
  generalize b.canOut k i = a at htxb hout hsent htec hcans ⊢
  obtain ⟨atec, aout, acans⟩ := canTecDown_lowers (b := a) k
  have ard := canTecDown_rd (b := a) k
  generalize a.canTecDown k = c at atec aout acans ard ⊢
  obtain ⟨krd, kout, kcans, krep⟩ := canToldSent_keeps (b := c) k i ((b.can k).buf i)
  generalize c.canToldSent k i ((b.can k).buf i) = d at krd kout kcans krep ⊢
  have hnext : (((d.onTxb k i fun y => { y with cancel := none }).can k).buf i).next = [] := by
    refine (onTxb_view k TxBuf.next i i (f := fun y => { y with cancel := none }) fun _ => rfl).trans ?_
    rw [Blk.can, kcans, acans, hcans]
    exact hn
  rw [nextTx_none k hnext]
  exact ⟨(krd (txbFld k i) htd).trans ((ard (txbFld k i) rfl).trans htxb), kout.trans (aout.trans hout),
    (krd _ htd).trans ((ard (R.CANn_TXSTAT_SENT k) rfl).trans hsent), (krd _ hed).trans (atec.trans (by rw [htec])), krep⟩

/-! CAN_ARBITRATION_LOST (R461, R463). -/

theorem doCanLost_waits {i : Nat} (hon : b.canOn k = true) (ha : b.canActive k = some i)
    (hn : ((b.can k).buf i).next = []) (hc : ((b.can k).buf i).cancel = none) : b.doCanLost k = b.setTxb k i 1 := by
  rw [Blk.doCanLost, if_pos hon, Blk.endAttempt, ha]
  unfold Blk.attemptFails
  dsimp only
  rw [hc, hn]
  rfl

theorem doCanLost_cancels {i : Nat} {h : Hdr} {w : Bool} (hon : b.canOn k = true) (ha : b.canActive k = some i)
    (hn : ((b.can k).buf i).next = []) (hc : ((b.can k).buf i).cancel = some (some h, w)) :
    (b.doCanLost k).txb k i = 4 ∧ Decided (b.doCanLost k) h 0x52 0 0 := by
  rw [Blk.doCanLost, if_pos hon, Blk.endAttempt, ha]
  unfold Blk.attemptFails
  dsimp only
  rw [hc]
  dsimp only
  have htxb := setTxb_txb (b := b) k (canActive_lt k ha) (by decide : 4 < 8)
  have hcans : (b.setTxb k i 4).cans = b.cans := Blk.wr_cans ..
  generalize b.setTxb k i 4 = c at htxb hcans ⊢
  have hnext : ((((c.onTxb k i fun y => { y with cancel := none }).cancelDone (some h) 0).can k).buf i).next = [] := by
    refine (onTxb_view (b := c) k TxBuf.next i i (f := fun y => { y with cancel := none }) fun _ => rfl).trans ?_
    rw [Blk.can, hcans]
    exact hn
  rw [nextTx_none k hnext]
  exact ⟨htxb, Blk.complete_decided _ _ _ _ _⟩

end

/-- Settles O32: the attempt by the words that fail, the frame on the bus, the lost arbitration. -/
theorem canTransmission : Obligations.CanTransmission := by
  unfold Obligations.CanTransmission
  refine ⟨fun s k i hon hr ha hc => ?attempt, fun s k i hon ha hn => ?sent, fun s k i hon ha hn hc => ?lost,
    fun s k i h w hon ha hc hn => ?cancelled⟩
  case attempt =>
    have hp := ((canOn_iff k.val).mp hon).1
    have hi := canChoice_lt k.val hc
    refine ⟨yields_within rfl hp ?_, fun tag key hkey hfirst => ⟨fun hagain => yields_within rfl hp ?_,
      fun hagain hn => yields_within rfl hp ?_⟩⟩
    · rw [doCanAttempt_eq k.val ⟨[], []⟩ hon hr ha hc]
      exact canAttempt_sends k.val hi none
    · subst hkey
      obtain ⟨w, hw⟩ := Option.isSome_iff_exists.mp hfirst
      rw [doCanAttempt_eq k.val tag hon hr ha hc, hw, hagain]
      exact canAttempt_rebuilds k.val w hi
    · subst hkey
      obtain ⟨w, hw⟩ := Option.isSome_iff_exists.mp hfirst
      obtain ⟨v, hv⟩ := Option.isSome_iff_exists.mp hagain
      rw [doCanAttempt_eq k.val tag hon hr ha hc, hw, hv]
      obtain ⟨-, hnext⟩ := unfirst_buf (b := s.blk) k.val i
      exact canAttempt_withdraws k.val w v hi (hnext.trans hn)
  case sent => exact yields_within rfl ((canOn_iff k.val).mp hon).1 (doCanSent_sends k.val hon ha hn)
  case lost =>
    refine yields_within rfl ((canOn_iff k.val).mp hon).1 ?_
    rw [doCanLost_waits k.val hon ha hn hc]
    exact ⟨setTxb_txb k.val (canActive_lt k.val ha) (by decide), same_wr (same_refl _ _) (txbFld k.val i) 1 rfl,
      Blk.wr_cans .., Blk.wr_evs ..⟩
  case cancelled => exact yields_within rfl ((canOn_iff k.val).mp hon).1 (doCanLost_cancels k.val hon ha hn hc)

end Sys2Proof.Machine
end

section
/-! PROOFS. Reception on a CAN controller (R455, R457, R458). -/

namespace Sys2Proof.Machine

section
variable {b : Blk} (k : Nat)

/-! A receive FIFO and the registers that show it. -/

/-- The words that show FIFO q of controller k. -/
def fifoWords (k q x : Nat) : Prop := x = (R.CANn_RXF_W k q).off ∨ ∃ w < 21, x = (R.CANn_RXW_W k q w).off

/-- The control words of a controller lie below those of its FIFOs. -/
theorem not_fifoWords (q : Nat) {o : Nat} (ho : o < 0x14040) : ¬ fifoWords k q (o + 0x800 * k) := by
  have hbelow : ∀ a c, 0x14040 ≤ a → o + 0x800 * k ≠ a + 0x800 * k + c := fun a c ha =>
    Nat.ne_of_lt (lt_of_lt_of_le (Nat.add_lt_add_right (lt_of_lt_of_le ho ha) _) (Nat.le_add_right ..))
  rintro (h | ⟨w, -, h⟩)
  · exact hbelow _ _ (by decide) h
  · exact hbelow 0x14100 (0x80 * q + 0x4 * w) (by decide) (h.trans (Nat.add_assoc ..))

theorem showFifo_same (q : Nat) : SameBut b (b.showFifo k q) (fifoWords k q) := by
  unfold Blk.showFifo
  dsimp only
  exact same_trans (same_wr (same_refl b _) (R.CANn_RXF_FILL k q) _ (.inl rfl))
    (same_each 21 _ (fun w hw c => same_wr (same_refl c _) (R.CANn_RXW_WORD k q w) _ (.inr ⟨w, hw, rfl⟩)) _)

/-- FILL is the number of elements; FIFO words alone change. -/
theorem showFifo_fill (q : Nat) :
    (b.showFifo k q).rd (R.CANn_RXF_FILL k q) = ((b.can k).fifos.getD q []).length % 64 := by
  unfold Blk.showFifo
  dsimp only
  refine (same_rd (T := fun x => ∃ w < 21, x = (R.CANn_RXW_W k q w).off)
    (same_each 21 _ (fun w hw c => same_wr (same_refl c _) (R.CANn_RXW_WORD k q w) _ ⟨w, hw, rfl⟩) _) _ ?_).trans
    (Blk.rd_wr_self _ _ _ inWord_of)
  rintro ⟨w, -, h⟩
  refine absurd h (Nat.ne_of_lt (lt_of_lt_of_le (Nat.add_lt_add_of_lt_of_le ?_ ?_) (Nat.le_add_right ..)))
  · exact Nat.add_lt_add_right (by decide : 0x14040 < 0x14100) _
  · exact Nat.mul_le_mul_right q (by decide : 4 ≤ 0x80)

theorem showFifo_beside (q : Nat) : (b.showFifo k q).cans = b.cans ∧ (b.showFifo k q).evs = b.evs := by
  unfold Blk.showFifo
  dsimp only
  exact each_keeps (P := fun c => c.cans = b.cans ∧ c.evs = b.evs) 21
    (fun w c hc => ⟨(Blk.wr_cans ..).trans hc.1, (Blk.wr_evs ..).trans hc.2⟩) ⟨Blk.wr_cans .., Blk.wr_evs ..⟩

/-- An update of FIFO q, where it is there. -/
theorem onCan_fifo_some {q : Nat} {l : List RxEl} (g : List RxEl → List RxEl) (h : (b.can k).fifos[q]? = some l) :
    ((b.onCan k fun x => { x with fifos := x.fifos.modify q g }).can k).fifos[q]? = some (g l) := by
  unfold Blk.can at h ⊢
  rw [Blk.onCan, List.getD_eq_getElem?_getD, List.getElem?_modify_eq]
  rw [List.getD_eq_getElem?_getD] at h
  cases hx : b.cans[k]? with
  | none =>
    rw [hx] at h
    cases h
  | some x =>
    rw [hx] at h
    show (x.fifos.modify q g)[q]? = some (g l)
    rw [List.getElem?_modify_eq, show x.fifos[q]? = some l from h]
    rfl

/-- An update that keeps an empty FIFO. -/
theorem onCan_fifo_getD {q : Nat} (g : List RxEl → List RxEl) (hg : g [] = []) :
    ((b.onCan k fun x => { x with fifos := x.fifos.modify q g }).can k).fifos.getD q [] = g ((b.can k).fifos.getD q []) := by
  cases h : (b.can k).fifos[q]? with
  | some l =>
    rw [List.getD_eq_getElem?_getD, onCan_fifo_some k g h, List.getD_eq_getElem?_getD, h]
    rfl
  | none =>
    have hnone : ((b.onCan k fun x => { x with fifos := x.fifos.modify q g }).can k).fifos[q]? = none := by
      have hlen := can_onCan_view (b := b) k (fun x => x.fifos.length) (f := fun x => { x with fifos := x.fifos.modify q g })
        fun x => List.length_modify ..
      rw [List.getElem?_eq_none_iff] at h ⊢
      exact hlen ▸ h
    rw [List.getD_eq_getElem?_getD, List.getD_eq_getElem?_getD, hnone, h]
    exact hg.symm

theorem onFifo_eq {q : Nat} (g : List RxEl → List RxEl) :
    b.onFifo k q g = (b.onCan k fun x => { x with fifos := x.fifos.modify q g }).showFifo k q := rfl

/-- What an update of a FIFO leaves. -/
theorem onFifo_beside {q : Nat} (g : List RxEl → List RxEl) : SameBut b (b.onFifo k q g) (fifoWords k q) ∧
    (b.onFifo k q g).evs = b.evs := by
  obtain ⟨-, hevs⟩ := showFifo_beside (b := b.onCan k fun x => { x with fifos := x.fifos.modify q g }) k q
  rw [onFifo_eq]
  exact ⟨same_trans (c := b.onCan k fun x => { x with fifos := x.fifos.modify q g }) (fun _ _ => rfl) (showFifo_same k q), hevs⟩

theorem onFifo_some {q : Nat} {l : List RxEl} (g : List RxEl → List RxEl) (h : (b.can k).fifos[q]? = some l) :
    ((b.onFifo k q g).can k).fifos[q]? = some (g l) ∧ (b.onFifo k q g).rd (R.CANn_RXF_FILL k q) = (g l).length % 64 := by
  have hset := onCan_fifo_some k g h
  rw [onFifo_eq]
  generalize (b.onCan k fun x => { x with fifos := x.fifos.modify q g }) = c at hset ⊢
  obtain ⟨hcans, -⟩ := showFifo_beside (b := c) k q
  refine ⟨by rw [Blk.can, hcans]; exact hset, (showFifo_fill k q).trans ?_⟩
  rw [List.getD_eq_getElem?_getD, hset]
  rfl

theorem onFifo_getD {q : Nat} (g : List RxEl → List RxEl) (hg : g [] = []) :
    ((b.onFifo k q g).can k).fifos.getD q [] = g ((b.can k).fifos.getD q []) ∧
      (b.onFifo k q g).rd (R.CANn_RXF_FILL k q) = (g ((b.can k).fifos.getD q [])).length % 64 := by
  have hset := onCan_fifo_getD (b := b) k (q := q) g hg
  rw [onFifo_eq]
  generalize (b.onCan k fun x => { x with fifos := x.fifos.modify q g }) = c at hset ⊢
  obtain ⟨hcans, -⟩ := showFifo_beside (b := c) k q
  exact ⟨by rw [Blk.can, hcans]; exact hset, (showFifo_fill k q).trans (by rw [hset])⟩

theorem onCan_beside (f : Can → Can) : (∀ g, (b.onCan k f).rd g = b.rd g) ∧ (b.onCan k f).evs = b.evs := ⟨fun _ => rfl, rfl⟩

/-! CAN_RXF_ACK and CAN_RXW_READ (R458). -/

theorem doCanAck_frees {q n : Nat} (hp : b.powered .comm = true) (h0 : n ≠ 0) (hn : n ≤ 32)
    (hl : ((b.can k).fifos.getD q []).length ≤ 32) :
    ((b.doCanAck k q n).can k).fifos.getD q [] = ((b.can k).fifos.getD q []).drop n ∧
      (b.doCanAck k q n).rd (R.CANn_RXF_FILL k q) = ((b.can k).fifos.getD q []).length - n ∧ (b.doCanAck k q n).evs = b.evs := by
  obtain ⟨hfifo, hfill⟩ := onFifo_getD (b := b) k (fun l => l.drop n) (List.drop_nil ..)
  obtain ⟨-, hevs⟩ := onFifo_beside (b := b) k (q := q) fun l => l.drop n
  rw [List.length_drop, Nat.mod_eq_of_lt (lt_of_le_of_lt (le_trans (Nat.sub_le ..) hl) (by decide))] at hfill
  unfold Blk.doCanAck
  rw [if_pos ⟨hp, Nat.pos_of_ne_zero h0, hn⟩]
  dsimp only
  generalize (b.onFifo k q fun l => l.drop n) = c at hfifo hfill hevs ⊢
  split_ifs
  · have htold : ((c.onCan k fun x => { x with told := x.told.set q false }).can k).fifos = (c.can k).fifos :=
      can_onCan_view k Can.fifos fun _ => rfl
    obtain ⟨krd, kevs⟩ := onCan_beside (b := c) k fun x => { x with told := x.told.set q false }
    exact ⟨htold.symm ▸ hfifo, (krd _).trans hfill, kevs.trans hevs⟩
  · exact ⟨hfifo, hfill, hevs⟩

theorem doCanRead_marks {q w : Nat} {x : Flip} {e : RxEl} {l : List RxEl} (hp : b.powered .comm = true)
    (hl : (b.can k).fifos[q]? = some (e :: l)) (hx : flipPasses x (0x7080 + k * 256 + q * 32 + w) (e.word w) = false) :
    ((b.doCanRead k q w (some x)).can k).fifos[q]? = some ({ e with tagf := true } :: l) ∧
      (b.doCanRead k q w (some x)).rd (R.CANn_CNT_RXTAG k) =
        min (b.rd (R.CANn_CNT_RXTAG k) + 1) (R.CANn_CNT_RXTAG k).top := by
  have hhead : (b.can k).fifos.getD q [] = e :: l := by
    rw [List.getD_eq_getElem?_getD, hl]
    rfl
  have heq : b.doCanRead k q w (some x) =
      (b.inc (R.CANn_CNT_RXTAG k)).onFifo k q fun l => l.modifyHead fun e => { e with tagf := true } := by
    unfold Blk.doCanRead
    rw [hhead]
    exact if_pos ⟨hp, by simp [hx]⟩
  have hcans : (b.inc (R.CANn_CNT_RXTAG k)).cans = b.cans := Blk.wr_cans ..
  have hcount := Blk.rd_inc_self b (R.CANn_CNT_RXTAG k) inWord_of
  rw [heq]
  generalize b.inc (R.CANn_CNT_RXTAG k) = c at hcans hcount ⊢
  obtain ⟨hfifo, -⟩ := onFifo_some (b := c) k (fun l => l.modifyHead fun e => { e with tagf := true })
    (l := e :: l) (by rw [Blk.can, hcans]; exact hl)
  obtain ⟨hsame, -⟩ := onFifo_beside (b := c) k (q := q) fun l => l.modifyHead fun e => { e with tagf := true }
  refine ⟨hfifo, (same_rd hsame _ ?_).trans hcount⟩
  exact not_fifoWords _ _ (by decide)

theorem doCanRead_passes {q w : Nat} : b.doCanRead k q w none = b := by
  unfold Blk.doCanRead
  exact if_neg fun h => Bool.false_ne_true h.2

/-! A frame stored, or dropped by a full FIFO (R455, R458). -/

theorem canStore_stores {q idx cyc : Nat} {f : CanFrame} {l : List RxEl} (hl : (b.can k).fifos[q]? = some l)
    (hlen : l.length < 32) :
    ((b.canStore k q f false idx cyc).can k).fifos[q]? = some (l ++ [⟨f, false, idx, b.fn, cyc, false⟩]) ∧
      (b.canStore k q f false idx cyc).rd (R.CANn_RXF_FILL k q) = l.length + 1 ∧
      (b.canStore k q f false idx cyc).canRec k = b.canRec k ∧
      (l = [] → (b.can k).told.getD q false = false → Reported (b.canStore k q f false idx cyc) 0xD004 k) := by
  have hhead : (b.can k).fifos.getD q [] = l := by
    rw [List.getD_eq_getElem?_getD, hl]
    rfl
  obtain ⟨hfifo, hfill⟩ := onFifo_some k (fun l => l ++ [⟨f, false, idx, b.fn, cyc, false⟩]) hl
  obtain ⟨hsame, -⟩ := onFifo_beside (b := b) k (q := q) fun l => l ++ [⟨f, false, idx, b.fn, cyc, false⟩]
  have htold : ((b.onFifo k q fun l => l ++ [⟨f, false, idx, b.fn, cyc, false⟩]).can k).told = (b.can k).told := by
    rw [onFifo_eq, Blk.can, (showFifo_beside k q).1]
    exact can_onCan_view k Can.told fun _ => rfl
  rw [List.length_append, List.length_singleton, Nat.mod_eq_of_lt (lt_of_le_of_lt (Nat.succ_le_of_lt hlen) (by decide))] at hfill
  have hrec : (b.onFifo k q fun l => l ++ [⟨f, false, idx, b.fn, cyc, false⟩]).canRec k = b.canRec k :=
    canRec_congr k fun g hg => same_rd hsame g (by
      rw [hg]
      exact not_fifoWords _ _ (by decide))
  unfold Blk.canStore
  rw [hhead]
  dsimp only
  rw [if_neg (Nat.not_le.mpr hlen), if_neg Bool.false_ne_true]
  generalize (b.onFifo k q fun l => l ++ [⟨f, false, idx, b.fn, cyc, false⟩]) = c at hfifo hfill htold hrec ⊢
  rw [htold]
  split_ifs with h
  · obtain ⟨krd, -⟩ := onCan_beside (b := c) k fun x => { x with told := x.told.set q true }
    have kfifo : ((c.onCan k fun x => { x with told := x.told.set q true }).can k).fifos = (c.can k).fifos :=
      can_onCan_view k Can.fifos fun _ => rfl
    generalize (c.onCan k fun x => { x with told := x.told.set q true }) = d at krd kfifo ⊢
    have hfd : (R.CANn_RXF_FILL k q).off ≠ R.HIF_EVDROP_COUNT.off :=
      Nat.ne_of_gt (lt_of_lt_of_le lt_above (Nat.le_add_right ..))
    have hed : 0x14018 + 0x800 * k ≠ R.HIF_EVDROP_COUNT.off := ne_above
    refine ⟨?_, (Blk.raise_rd _ _ _ _ _ hfd).trans ((krd _).trans hfill), ?_, fun _ _ => Blk.raise_self ..⟩
    · rw [Blk.can, Blk.raise_cans]
      exact kfifo.symm ▸ hfifo
    · exact (canRec_congr k fun g hg => (Blk.raise_rd _ _ _ _ g (hg ▸ hed)).trans (krd g)).trans hrec
  · refine ⟨hfifo, hfill, hrec, fun hnil ht => absurd ?_ h⟩
    rw [hnil, ht]
    rfl

theorem canStore_drops {q idx cyc : Nat} {f : CanFrame} {l : List RxEl} (hl : (b.can k).fifos[q]? = some l)
    (hlen : 32 ≤ l.length) : (b.canStore k q f false idx cyc).cans = b.cans ∧
      (b.canStore k q f false idx cyc).rd (R.CANn_RXF_DROP k q) =
        min (b.rd (R.CANn_RXF_DROP k q) + 1) (R.CANn_RXF_DROP k q).top := by
  have hhead : (b.can k).fifos.getD q [] = l := by
    rw [List.getD_eq_getElem?_getD, hl]
    rfl
  have hoff : (R.CANn_RXF_DROP k q).off ≠ R.HIF_EVDROP_COUNT.off :=
    Nat.ne_of_gt (lt_of_lt_of_le lt_above (Nat.le_add_right ..))
  unfold Blk.canStore
  rw [hhead]
  dsimp only
  rw [if_pos hlen]
  exact ⟨(Blk.raiseLim_cans ..).trans (Blk.wr_cans ..), (Blk.raiseLim_rd _ _ _ _ _ _ hoff).trans (Blk.rd_inc_self _ _ inWord_of)⟩

/-! The way of a frame: REC, Slalu, the filter list (R349, R364, R455). -/

/-- Only CANn_ECNT differs, and the controllers beside their registers are the same. -/
def RecMoved (b c : Blk) (k : Nat) : Prop := SameBut b c (· = 0x14018 + 0x800 * k) ∧ c.cans = b.cans

theorem recMoved_rd {c : Blk} (h : RecMoved b c k) {g : Fld} (hg : g.off ≠ 0x14018 + 0x800 * k) : c.rd g = b.rd g :=
  same_rd h.1 g hg

theorem recMoved_on {c : Blk} (h : RecMoved b c k) {g : Fld} (hg : g.off ≠ 0x14018 + 0x800 * k) : c.on g = b.on g :=
  same_on h.1 g hg

/-- The words of Slalu's sessions lie below the CAN controllers. -/
theorem session_off {s a : Nat} (hs : s < 64) (ha : a < 0x20) : 0x11100 + a + 0x20 * s ≠ 0x14018 + 0x800 * k :=
  Nat.ne_of_lt (lt_of_lt_of_le (Nat.add_lt_add_of_le_of_lt (Nat.add_le_add_left (Nat.le_of_lt ha) _)
    (Nat.mul_lt_mul_of_pos_left hs (by decide))) (le_trans (by decide) (Nat.le_add_right ..)))

theorem recMoved_sesOfCan {c : Blk} (h : RecMoved b c k) (x : Bool) (id : Nat) : c.sesOfCan k x id = b.sesOfCan k x id := by
  unfold Blk.sesOfCan
  refine List.find?_congr fun s hs => ?_
  have hcfg := session_off k (a := 0) (List.mem_range.mp hs) (by decide)
  have haddr := session_off k (a := 0x10) (List.mem_range.mp hs) (by decide)
  unfold Blk.sesBound Blk.sesId
  rw [recMoved_on k h (g := R.SLL_SESs_CFG_EN s) hcfg, recMoved_on k h (g := R.SLL_SESs_CFG_DIR s) hcfg,
    recMoved_rd k h (g := R.SLL_SESs_CFG_TRANS s) hcfg, recMoved_rd k h (g := R.SLL_SESs_CFG_CANK s) hcfg,
    recMoved_on k h (g := R.SLL_SESs_CFG_XID s) hcfg, recMoved_rd k h (g := R.SLL_SESs_ADDR_ADDR s) haddr]

theorem recMoved_canMgmt {c : Blk} (h : RecMoved b c k) (f : CanFrame) : c.canMgmt k f = b.canMgmt k f := by
  have hbound : c.slaluBound k = b.slaluBound k := by
    unfold Blk.slaluBound
    rw [Bool.eq_iff_iff, List.any_eq_true, List.any_eq_true]
    refine exists_congr fun s => and_congr_right fun hs => ?_
    have hcfg := session_off k (a := 0) (List.mem_range.mp hs) (by decide)
    rw [recMoved_on k h (g := R.SLL_SESs_CFG_EN s) hcfg, recMoved_rd k h (g := R.SLL_SESs_CFG_TRANS s) hcfg,
      recMoved_rd k h (g := R.SLL_SESs_CFG_CANK s) hcfg]
  unfold Blk.canMgmt
  rw [hbound]

theorem recMoved_canMatch {c : Blk} (h : RecMoved b c k) (f : CanFrame) : c.canMatch k f = b.canMatch k f := by
  have hoff : 0x14000 + 0x800 * k ≠ 0x14018 + 0x800 * k := ne_beside
  unfold Blk.canMatch Blk.can
  rw [recMoved_rd k h (g := R.CANn_CFG_FLXTD k) hoff, recMoved_rd k h (g := R.CANn_CFG_FLSTD k) hoff, h.2]

theorem canRecDown_eq (hr : b.on (R.CANn_STAT_RESTR k) = false) (h : b.canRec k ≤ 127) :
    b.canRecDown k = b.setRec k (b.canRec k - 1) := by
  unfold Blk.canRecDown
  rw [hr, if_neg Bool.false_ne_true, if_neg (Nat.not_lt.mpr h)]

theorem setRec_moved (v : Nat) : RecMoved b (b.setRec k v) k := ⟨setRec_same k v, (Blk.wr_cans ..).trans (Blk.wr_cans ..)⟩

/-- The FIFO and the element that a frame goes to. -/
def Blk.canGoesTo (b : Blk) (k : Nat) (f : CanFrame) (q idx : Nat) : Prop :=
  (b.canMatch k f = none ∧ b.rd (R.CANn_CFG_NMS k) = q ∧ q ≤ 1 ∧ idx = 255) ∨
    ∃ act, b.canMatch k f = some (idx, act) ∧ (act = 1 ∨ act = 2) ∧ q = act - 1

theorem recMoved_goesTo {c : Blk} (h : RecMoved b c k) {f : CanFrame} {q idx : Nat} (hq : b.canGoesTo k f q idx) :
    c.canGoesTo k f q idx := by
  have hoff : 0x14000 + 0x800 * k ≠ 0x14018 + 0x800 * k := ne_beside
  unfold Blk.canGoesTo
  rw [recMoved_canMatch k h, recMoved_rd k h (g := R.CANn_CFG_NMS k) hoff]
  exact hq

theorem canFilter_stores {f : CanFrame} {q idx : Nat} (cyc : Nat) (h : b.canGoesTo k f q idx) :
    b.canFilter k f cyc = b.canStore k q f false idx cyc := by
  unfold Blk.canFilter
  obtain ⟨hm, rfl, hq, rfl⟩ | ⟨act, hm, hact, rfl⟩ := h
  · rw [hm]
    exact if_pos hq
  · rw [hm]
    exact if_pos hact

/-- A frame without an error and not for Slalu is stored as its filter element or NMS says. -/
theorem doCanReceived_eq {k : Fin 4} {f : CanFrame} {q idx : Nat} (cyc us : Nat) (hon : b.canOn k = true)
    (hr : b.on (R.CANn_STAT_RESTR k) = false) (hrec : b.canRec k ≤ 127) (hses : b.sesOfCan k f.xtd f.id = none)
    (hm : b.canMgmt k f = false) (hq : b.canGoesTo k f q idx) :
    b.doCanReceived k f cyc us = (b.setRec k (b.canRec k - 1)).canStore k q f false idx cyc := by
  have hmv := setRec_moved (b := b) k.val (b.canRec k - 1)
  unfold Blk.doCanReceived
  rw [if_pos hon]
  dsimp only
  rw [canRecDown_eq k.val hr hrec, recMoved_sesOfCan k.val hmv, recMoved_canMgmt k.val hmv, hses, hm, if_neg (by simp),
    canFilter_stores k.val cyc (recMoved_goesTo k.val hmv hq)]

end

/-- Settles O31: the frame stored or dropped, the acknowledge, the read of a word. -/
theorem canReception : Obligations.CanReception := by
  unfold Obligations.CanReception
  refine ⟨fun s k f cyc us q idx l hon hr hrec hses hm hq hl => ?_,
    fun s k q n hp h0 hn hl => ⟨_, rfl, doCanAck_frees k.val hp h0 hn hl⟩,
    fun s k q w x e l hp hl hx => ⟨_, rfl, doCanRead_marks k.val hp hl hx⟩,
    fun s k q w => yields_onBlk rfl (doCanRead_passes k.val) rfl⟩
  have hp := ((canOn_iff k.val).mp hon).1
  have heq := doCanReceived_eq (b := s.blk) cyc us hon hr hrec hses hm hq
  have hmv := setRec_moved (b := s.blk) k.val (s.blk.canRec k - 1)
  have hcnt := setRec_rec (b := s.blk) k.val (s.blk.canRec k - 1)
  generalize s.blk.setRec k (s.blk.canRec k - 1) = c at heq hmv hcnt
  have hfn : c.fn = s.blk.fn := by
    have hoff : (0x3018 ≠ 0x14018 + 0x800 * k.val) ∧ 0x301C ≠ 0x14018 + 0x800 * k.val := ⟨ne_under, ne_under⟩
    obtain ⟨hlo, hhi⟩ := hoff
    rw [Blk.fn, Blk.fn, recMoved_rd k.val hmv (g := R.TICK_FRAME_NO_LO_FN_LO) hlo,
      recMoved_rd k.val hmv (g := R.TICK_FRAME_NO_HI_FN_HI) hhi]
  have hcan : c.can k = s.blk.can k := by rw [Blk.can, hmv.2, Blk.can]
  have hlc : (c.can k).fifos[q]? = some l := hcan ▸ hl
  refine ⟨fun hlen => yields_within rfl hp ?_, fun hlen => yields_within rfl hp ?_⟩
  · rw [heq]
    obtain ⟨hfifo, hfill, hrec', htold⟩ := canStore_stores (b := c) k.val (idx := idx) (cyc := cyc) (f := f)
      hlc hlen
    rw [hfn] at hfifo
    refine ⟨hfifo, hfill, hrec'.trans (hcnt.trans (Nat.min_eq_left
      (le_trans (Nat.sub_le ..) (le_trans hrec (by decide))))), fun hnil ht => htold hnil ?_⟩
    rw [hcan]
    exact ht
  · rw [heq]
    obtain ⟨hcans, hdrop⟩ := canStore_drops (b := c) k.val (idx := idx) (cyc := cyc) (f := f) hlc hlen
    refine ⟨hcans.trans hmv.2, hdrop.trans ?_⟩
    rw [recMoved_rd k.val hmv (g := R.CANn_RXF_DROP k q) (Nat.ne_of_gt (lt_of_lt_of_le
      (Nat.add_lt_add_right (by decide : 0x14018 < 0x14040) _) (Nat.le_add_right ..)))]

end Sys2Proof.Machine
end

section
/-! PROOFS. What the end of pulses, the gate-enables and ownership leave: the words of Hasp, of Slalu and of the pair, and
Hasp's own state (R74, R244, R322, R382). -/

namespace Sys2Proof.Machine

/-- The words that a change of the gate-enables may write: Dn_STAT, Dn_SSTAT, Dn_CSTAT, Dn_PINS and Sn_STAT in the windows of
drives and steppers (Dn_DCSTAT stays), the captures, the axes, HASP_GEN and the count of dropped events. -/
abbrev gateWords (x : Nat) : Prop :=
  x = 0x4020 ∨ x = 0x10094 ∨ (0x8000 ≤ x ∧ x < 0xB000 ∧ (x < 0xA000 → x % 0x400 ≠ 0x314)) ∨ (0xD300 ≤ x ∧ x < 0xD800)

/-- The words that a change of ownership may write: Dn_DCSTAT beside those. -/
abbrev ownWords (x : Nat) : Prop := x = 0x4020 ∨ x = 0x10094 ∨ (0x8000 ≤ x ∧ x < 0xB000) ∨ (0xD300 ≤ x ∧ x < 0xD800)

theorem own_of_gate {x : Nat} (h : gateWords x) : ownWords x :=
  h.imp id (Or.imp id (Or.imp (fun ⟨hlo, hhi, _⟩ => ⟨hlo, hhi⟩) id))

/-- The state of the pair, the supplies, the clocks, the networks, the transactions and the thermal manager. -/
def Blk.away (b : Blk) : Mir × Pwr × Clk × List Can × Lode × Txns × Thm :=
  (b.mir, b.pwr, b.clk, b.cans, b.lode, b.txns, b.thm)

/-- What these operations leave beside the registers: these, and Hasp's own state. -/
def Blk.far (b : Blk) : Hasp × Mir × Pwr × Clk × List Can × Lode × Txns × Thm := (b.hasp, b.away)

theorem hasp_of_far {b c : Blk} (h : c.far = b.far) : c.hasp = b.hasp := congrArg Prod.fst h

theorem away_of_far {b c : Blk} (h : c.far = b.far) : c.away = b.away := congrArg Prod.snd h

section
variable (b : Blk)

@[simp] theorem Blk.wr_far (f : Fld) (v : Nat) : (b.wr f v).far = b.far := (rfl)
@[simp] theorem Blk.flag_far (f : Fld) (v : Bool) : (b.flag f v).far = b.far := (rfl)
@[simp] theorem Blk.wrS_far (f : Fld) (v : Int) : (b.wrS f v).far = b.far := (rfl)
@[simp] theorem Blk.wrSat_far (f : Fld) (v : Nat) : (b.wrSat f v).far = b.far := (rfl)
@[simp] theorem Blk.inc_far (f : Fld) : (b.inc f).far = b.far := (rfl)
@[simp] theorem Blk.onDrv_far (n : Nat) (f : Drive → Drive) : (b.onDrv n f).far = b.far := (rfl)
@[simp] theorem Blk.onSeq_far (n : Nat) (f : Seq → Seq) : (b.onSeq n f).far = b.far := (rfl)
@[simp] theorem Blk.onDc_far (n : Nat) (f : DcLink → DcLink) : (b.onDc n f).far = b.far := (rfl)
@[simp] theorem Blk.onAxis_far (n : Nat) (f : Axis → Axis) : (b.onAxis n f).far = b.far := (rfl)
@[simp] theorem Blk.onTun_far (n : Nat) (f : Tuner → Tuner) : (b.onTun n f).far = b.far := (rfl)
@[simp] theorem Blk.onStp_far (n : Nat) (f : Stepper → Stepper) : (b.onStp n f).far = b.far := (rfl)
@[simp] theorem Blk.onHost_far (f : HostIf → HostIf) : (b.onHost f).far = b.far := (rfl)
@[simp] theorem Blk.complete_far (h : Hdr) (op st d : Nat) : (b.complete h op st d).far = b.far := (rfl)
@[simp] theorem Blk.refuse_far (h : Hdr) (op d : Nat) : (b.refuse h op d).far = b.far := (rfl)
@[simp] theorem Blk.raise_far (c n : Nat) (i : List Int) : (b.raise c n i).far = b.far := by simp [Blk.far, Blk.away]

@[simp] theorem far_ite (p : Prop) [Decidable p] (x y : Blk) : (if p then x else y).far = if p then x.far else y.far :=
  apply_ite Blk.far p x y

theorem foldl_far {α : Type} (l : List α) (f : Blk → α → Blk) (h : ∀ b x, (f b x).far = b.far) : (l.foldl f b).far = b.far :=
  List.foldlRecOn (motive := fun c : Blk => c.far = b.far) l f rfl fun c hc x _ => (h c x).trans hc

@[simp] theorem Blk.each_far (n : Nat) (f : Nat → Blk → Blk) (h : ∀ i b, (f i b).far = b.far) : (b.each n f).far = b.far :=
  foldl_far b _ _ fun b i => h i b

/-! The end of pulses. -/

@[simp] theorem Blk.showAxis_far (a : Nat) : (b.showAxis a).far = b.far := by simp [Blk.showAxis]
@[simp] theorem Blk.suspendMove_far (a : Nat) : (b.suspendMove a).far = b.far := by
  unfold Blk.suspendMove Blk.endMove
  split
  · simp
  · split <;> simp
@[simp] theorem Blk.abruptStop_far (a : Nat) : (b.abruptStop a).far = b.far := by simp [Blk.abruptStop]
@[simp] theorem Blk.pinsOff_far (n : Nat) : (b.pinsOff n).far = b.far := by simp [Blk.pinsOff]
@[simp] theorem Blk.pinsAsc_far (n on : Nat) : (b.pinsAsc n on).far = b.far := by simp [Blk.pinsAsc, Blk.gatesTo]
@[simp] theorem Blk.capWithInj_far (k : Nat) : (b.capWithInj k).far = b.far := by simp [Blk.capWithInj]
@[simp] theorem Blk.abortInjOn_far (k c reason : Nat) : (b.abortInjOn k c reason).far = b.far := by
  unfold Blk.abortInjOn
  dsimp only
  split
  · split <;> simp
  · rfl
@[simp] theorem Blk.abortInj_far (c reason : Nat) : (b.abortInj c reason).far = b.far := by simp [Blk.abortInj]
@[simp] theorem Blk.seqIdle_far (n : Nat) : (b.seqIdle n).far = b.far := by simp [Blk.seqIdle]
@[simp] theorem Blk.because_far (n why : Nat) : (b.because n why).far = b.far := by simp [Blk.because]
@[simp] theorem Blk.blockTo_far (n ps : Nat) : (b.blockTo n ps).far = b.far := by simp [Blk.blockTo]
@[simp] theorem Blk.acceptTrip_far (n src : Nat) : (b.acceptTrip n src).far = b.far := by simp [Blk.acceptTrip]
@[simp] theorem Blk.bridgesOff_far (n st : Nat) : (b.bridgesOff n st).far = b.far := by simp [Blk.bridgesOff]
@[simp] theorem Blk.gateLost_far (c : Nat) : (b.gateLost c).far = b.far := by simp [Blk.gateLost, Blk.stpFault]
@[simp] theorem Blk.gateGained_far (c : Nat) : (b.gateGained c).far = b.far := by simp [Blk.gateGained]
@[simp] theorem Blk.gateFollow_far (c : Nat) : (b.gateFollow c).far = b.far := by simp [Blk.gateFollow]
@[simp] theorem Blk.gates_far : b.gates.far = b.far := by simp [Blk.gates]
@[simp] theorem Blk.brakeOff_far (n : Nat) : (b.brakeOff n).far = b.far := by simp [Blk.brakeOff]
@[simp] theorem Blk.ownLost_far (c : Nat) : (b.ownLost c).far = b.far := by simp [Blk.ownLost]
@[simp] theorem Blk.ownGained_far (c : Nat) : (b.ownGained c).far = b.far := by simp [Blk.ownGained]
@[simp] theorem Blk.ownSettle_far : b.ownSettle.far = b.far := by simp [Blk.ownSettle]
@[simp] theorem Blk.setRole_far (r : Nat) : (b.setRole r).far = b.far := by simp [Blk.setRole]
@[simp] theorem Blk.dropInFlight_far : b.dropInFlight.far = b.far := by
  refine (foldl_far _ _ _ fun c w => ?_).trans (b.onHost_far _)
  split
  · simp
  · rfl

/-! The words written. -/

theorem stepperWord_gate {n : Nat} (hn : n < 8) : gateWords (0xA030 + 0x200 * n) :=
  .inr (.inr (.inl ((by decide : ∀ n < 8, 0x8000 ≤ 0xA030 + 0x200 * n ∧ 0xA030 + 0x200 * n < 0xB000 ∧
    (0xA030 + 0x200 * n < 0xA000 → (0xA030 + 0x200 * n) % 0x400 ≠ 0x314)) n hn)))

theorem captureWord_gate {k : Nat} (hk : k < 5) : gateWords (R.LE_CAPSTAT_CAP k).off :=
  .inr (.inr (.inr ((by decide : ∀ k < 5, 0xD300 ≤ 0xD31C + 0x20 * k ∧ 0xD31C + 0x20 * k < 0xD800) k hk)))

theorem abortInj_gate (c r : Nat) : SameBut b (b.abortInj c r) gateWords := by
  refine same_mono (abortInj_same b c r) ?_
  rintro a (⟨k, hk, rfl⟩ | rfl)
  · exact captureWord_gate hk
  · exact .inl rfl

theorem axisWords_gate {a x : Nat} (ha : a < 16) (h : axisWords a x) : gateWords x := by
  obtain ⟨hlo, hhi⟩ := h
  exact .inr (.inr (.inr ⟨le_trans le_above hlo, lt_of_lt_of_le hhi ((by decide : ∀ a < 16, 0xD440 + 0x40 * a ≤ 0xD800) a ha)⟩))

theorem abruptStop_gate {a : Nat} (ha : a < 16) : SameBut b (b.abruptStop a) gateWords := by
  refine same_mono (abruptStop_same b a) ?_
  rintro x (hx | rfl | ⟨h8, rfl⟩)
  · exact axisWords_gate ha hx
  · exact .inl rfl
  · exact stepperWord_gate (Nat.sub_lt_left_of_lt_add h8 ha)

/-- The status words of a drive. -/
theorem driveWord_gate {n o : Nat} (hn : n < 8) (ho : o < 0x314) : gateWords (0x8000 + o + 0x400 * n) := by
  have hhi : 0x8000 + o + 0x400 * n < 0xA000 := calc
    0x8000 + o + 0x400 * n < 0x8000 + 0x400 + 0x400 * n := Nat.add_lt_add_right (Nat.add_lt_add_left (lt_trans ho (by decide)) _) _
    _ ≤ 0x8000 + 0x400 + 0x400 * 7 := Nat.add_le_add_left (Nat.mul_le_mul_left _ (Nat.le_of_lt_succ hn)) _
  have hmod : (0x8000 + o + 0x400 * n) % 0x400 = o :=
    (Nat.add_mul_mod_self_left ..).trans ((Nat.mul_add_mod 0x400 32 o).trans (Nat.mod_eq_of_lt (lt_trans ho (by decide))))
  exact .inr (.inr (.inl ⟨le_trans (Nat.le_add_right _ o) (Nat.le_add_right ..), lt_trans hhi (by decide), fun _ =>
    hmod.symm ▸ Nat.ne_of_lt ho⟩))

theorem blockTo_gate {n : Nat} (ps : Nat) (hn : n < 8) : SameBut b (b.blockTo n ps) gateWords := by
  refine same_mono (blockTo_same b n ps hn) ?_
  rintro a (rfl | rfl | rfl | rfl | ⟨k, hk, rfl⟩ | ha | rfl)
  · exact driveWord_gate hn (by decide : 0x20 < 0x314)
  · exact driveWord_gate hn (by decide : 0x220 < 0x314)
  · exact driveWord_gate hn (by decide : 0x124 < 0x314)
  · exact driveWord_gate hn (by decide : 0x40 < 0x314)
  · exact captureWord_gate hk
  · exact axisWords_gate (lt_trans hn (by decide)) ha
  · exact .inl rfl

theorem because_blockTo_gate {n : Nat} (why ps : Nat) (hn : n < 8) : SameBut b ((b.because n why).blockTo n ps) gateWords :=
  same_trans (same_regs (because_regs b n why)) (blockTo_gate _ ps hn)

theorem seqIdle_gate {n : Nat} (hn : n < 8) : SameBut b (b.seqIdle n) gateWords := by
  refine same_mono (seqIdle_same b n) ?_
  rintro a (rfl | rfl)
  · exact driveWord_gate hn (by decide : 0x220 < 0x314)
  · exact driveWord_gate hn (by decide : 0x124 < 0x314)

theorem acceptTrip_gate {n : Nat} (src : Nat) (hn : n < 8) : SameBut b (b.acceptTrip n src) gateWords := by
  have hstat : gateWords (0x8020 + 0x400 * n) := driveWord_gate hn (by decide : 0x20 < 0x314)
  have hcnt : gateWords (0x8024 + 0x400 * n) := driveWord_gate hn (by decide : 0x24 < 0x314)
  have hcut : ∀ ps f, SameBut b (((b.because n 1).blockTo n ps).onDrv n f) gateWords := fun ps f =>
    same_onDrv (because_blockTo_gate b 1 ps hn) n f
  refine same_ite (fun _ => same_refl b _) fun _ => same_ite (fun _ => same_inc (same_refl b _) _ hcnt) fun _ => ?_
  refine same_raise (same_inc (same_wr (same_flag ?_ (R.Dn_STAT_TRIP n) true hstat) (R.Dn_STAT_TSRC n) src hstat)
    (R.Dn_TRIPCNT_TRIPS n) hcnt) _ _ _ (.inl rfl)
  refine same_ite (fun _ => same_trans (hcut _ _) (same_mono (pinsAsc_same _ n _) ?_)) fun _ => hcut _ _
  rintro a rfl
  exact driveWord_gate hn (by decide : 0x40 < 0x314)

theorem bridgesOff_gate {n : Nat} (st : Nat) (hn : n < 8) : SameBut b (b.bridgesOff n st) gateWords :=
  same_ite (fun _ => same_trans (same_onStp (same_wr (abortInj_gate b _ 2) (R.Sn_STAT_SSTATE n) st (stepperWord_gate hn)) n _)
    (abruptStop_gate _ (Nat.add_lt_add_left hn 8))) fun _ => same_refl b _

theorem gateLost_gate {c : Nat} (hc : c < 16) : SameBut b (b.gateLost c) gateWords := by
  refine same_ite (fun h8 => ?drive) fun h8 => ?stepper
  case drive =>
    refine same_trans (same_flag (same_refl b _) (R.Dn_STAT_HASP_EN c) false (driveWord_gate h8 (by decide : 0x20 < 0x314))) ?_
    refine same_ite (fun _ => because_blockTo_gate _ 3 0 h8) fun _ => same_ite (fun _ => blockTo_gate _ 3 h8) fun _ => ?_
    exact same_ite (fun _ => seqIdle_gate _ h8) fun _ => same_refl _ _
  case stepper =>
    have hn : c - 8 < 8 := Nat.sub_lt_left_of_lt_add (Nat.le_of_not_lt h8) hc
    exact same_trans (same_flag (same_refl b _) (R.Sn_STAT_HASP_EN (c - 8)) false (stepperWord_gate hn)) (bridgesOff_gate _ 3 hn)

theorem gateGained_gate {c : Nat} (hc : c < 16) : SameBut b (b.gateGained c) gateWords :=
  same_ite (fun h8 => same_flag (same_refl b _) (R.Dn_STAT_HASP_EN c) true (driveWord_gate h8 (by decide : 0x20 < 0x314)))
    fun h8 => same_flag (same_refl b _) (R.Sn_STAT_HASP_EN (c - 8)) true
      (stepperWord_gate (Nat.sub_lt_left_of_lt_add (Nat.le_of_not_lt h8) hc))

theorem gates_gate : SameBut b b.gates gateWords := by
  refine same_each 16 _ (fun c hc b => same_ite (fun _ => same_refl b _) fun _ => ?_) b
  refine same_trans (same_flag (same_refl b _) (bitOf R.HASP_GEN_EN c) (b.gateDue c) (.inr (.inl rfl))) ?_
  exact same_ite (fun _ => gateGained_gate _ hc) fun _ => gateLost_gate _ hc

/-! Ownership. -/

theorem ownDrive {n o : Nat} (hn : n < 8) (ho : o < 0x400) : ownWords (0x8000 + o + 0x400 * n) :=
  .inr (.inr (.inl ⟨le_trans (Nat.le_add_right _ o) (Nat.le_add_right ..), calc
    0x8000 + o + 0x400 * n < 0x8000 + 0x400 + 0x400 * n := Nat.add_lt_add_right (Nat.add_lt_add_left ho _) _
    _ ≤ 0x8000 + 0x400 + 0x400 * 7 := Nat.add_le_add_left (Nat.mul_le_mul_left _ (Nat.le_of_lt_succ hn)) _
    _ < 0xB000 := by decide⟩))

theorem ownStepper {n : Nat} (hn : n < 8) : ownWords (0xA030 + 0x200 * n) := own_of_gate (stepperWord_gate hn)

theorem ownLost_own {c : Nat} (hc : c < 16) : SameBut b (b.ownLost c) ownWords := by
  refine same_ite (fun h8 => ?drive) fun h8 => ?stepper
  case drive =>
    refine same_onDc (same_flag (same_trans (same_flag (same_refl b _) (R.Dn_STAT_OWN c) false
      (ownDrive h8 (by decide : 0x20 < 0x400))) (same_mono (blockTo_gate _ 5 h8) fun _ => own_of_gate)) (R.Dn_DCSTAT_BRK c) false
      (ownDrive h8 (by decide : 0x314 < 0x400))) c _
  case stepper =>
    have hw := ownStepper (n := c - 8) (Nat.sub_lt_left_of_lt_add (Nat.le_of_not_lt h8) hc)
    refine same_onStp (same_wr (same_flag ?_ (R.Sn_STAT_OWN (c - 8)) false hw) (R.Sn_STAT_SSTATE (c - 8)) 4 hw) _ _
    exact same_ite (fun _ => same_mono (abortInj_gate b c 2) fun _ => own_of_gate) fun _ => same_refl b _

theorem ownGained_own {c : Nat} (hc : c < 16) : SameBut b (b.ownGained c) ownWords := by
  refine same_ite (fun h8 => ?drive) fun h8 => ?stepper
  case drive =>
    have hstat := ownDrive h8 (by decide : 0x20 < 0x400)
    have hpins := ownDrive h8 (by decide : 0x40 < 0x400)
    have hoff : SameBut b (((b.flag (R.Dn_STAT_OWN c) true).wr (R.Dn_STAT_PSTATE c) 0).pinsOff c) ownWords :=
      same_onDrv (same_wr (same_wr (same_wr (same_flag (same_refl b _) (R.Dn_STAT_OWN c) true hstat) (R.Dn_STAT_PSTATE c) 0
        hstat) (R.Dn_PINS_DRV c) _ hpins) (R.Dn_PINS_ACTV c) 0 hpins) c _
    have htrip : ∀ d src, SameBut d (Blk.acceptTrip d c src) ownWords := fun d src =>
      same_mono (acceptTrip_gate d src h8) fun _ => own_of_gate
    exact same_ite (fun _ => same_trans hoff (htrip _ 0)) fun _ => same_ite (fun _ => same_trans hoff (htrip _ 1)) fun _ => hoff
  case stepper =>
    have hw := ownStepper (n := c - 8) (Nat.sub_lt_left_of_lt_add (Nat.le_of_not_lt h8) hc)
    exact same_wr (same_flag (same_refl b _) (R.Sn_STAT_OWN (c - 8)) true hw) (R.Sn_STAT_SSTATE (c - 8)) 0 hw

theorem ownSettle_own : SameBut b b.ownSettle ownWords :=
  same_each 16 _ (fun _ hc b => same_ite (fun _ => same_refl b _) fun _ =>
    same_ite (fun _ => ownGained_own b hc) fun _ => ownLost_own b hc) b

theorem setRole_same (r : Nat) : SameBut b (b.setRole r) fun x => x = 0x13008 ∨ ∃ k < 4, x = 0x14014 + 0x800 * k :=
  same_trans (same_wr (same_refl b _) R.MIR_STAT_ROLE r (.inl rfl))
    (same_each 4 _ (fun k hk b => same_flag (same_refl b _) (R.CANn_STAT_RESTR k) _ (.inr ⟨k, hk, rfl⟩)) _)

/-- Of MIR_STAT the role alone is written. -/
theorem setRole_rd (r : Nat) {g : Fld} (hg : g.off = 0x13008) : (b.setRole r).rd g = (b.wr R.MIR_STAT_ROLE r).rd g := by
  refine same_rd (same_each (T := fun x => ∃ k < 4, x = 0x14014 + 0x800 * k) 4 _ (fun k hk b =>
    same_flag (same_refl b _) (R.CANn_STAT_RESTR k) _ ⟨k, hk, rfl⟩) _) g ?_
  rintro ⟨k, -, h⟩
  exact absurd (hg.symm.trans h) ne_under

theorem setRole_role {r : Nat} (hr : r < 8) : (b.setRole r).rd R.MIR_STAT_ROLE = r :=
  (setRole_rd b r rfl).trans ((Blk.rd_wr_self _ _ _ inWord_of).trans (Nat.mod_eq_of_lt hr))

theorem dropInFlight_regs : b.dropInFlight.regs = b.regs := by
  refine List.foldlRecOn (motive := fun c : Blk => c.regs = b.regs) _ _ rfl fun _ hc _ _ => ?_
  split
  · split_ifs
    · exact hc
    · exact hc
  · exact hc

end

end Sys2Proof.Machine
end

section
/-! PROOFS. Hasp settles (R322, R323, R328, R332, R336), and the loss of R338: what they leave of the STO outputs. -/

namespace Sys2Proof.Machine

/-- A field of output k that a demand does not touch: HSF, LSF, OPENF and OCF of HASP_STOSTAT, PASS and FAIL of
HASP_TPCNT. -/
def stoLatched (k : Nat) (g : Fld) : Prop :=
  (g.off = 0x10080 + 0x4 * k ∧ 8 ≤ g.lo ∧ g.lo + g.w ≤ 12) ∨ (g.off = 0x100A0 + 0x4 * k ∧ (g.lo + g.w ≤ 8 ∨ 16 ≤ g.lo))

/-- How a switch pair stands to what it was: MANUAL as before, no high side closed, no SS1 sequence begun. -/
def StoStays (r s : Sto) : Prop := s.manual = r.manual ∧ (r.hs = false → s.hs = false) ∧ (r.ss1 = none → s.ss1 = none)

/-- From `b` to `c` the latched fields of the outputs stay, FAULT stays, and Hasp's state but for its outputs and channels;
of these stays what `StoStays` says, and a channel that is gone. -/
structure StoKept (b c : Blk) : Prop where
  latched : ∀ k < 4, ∀ g : Fld, stoLatched k g → c.rd g = b.rd g
  fault : ∀ k < 4, b.stoState k = 5 → c.stoState k = 5
  rest : c.hasp = { b.hasp with stos := c.hasp.stos, chs := c.hasp.chs }
  stos : ∀ (k : Nat) (s : Sto), c.hasp.stos[k]? = some s → ∃ r : Sto, b.hasp.stos[k]? = some r ∧ StoStays r s
  chs : ∀ (k : Nat) (h : HaspCh), c.hasp.chs[k]? = some h → ∃ g : HaspCh, b.hasp.chs[k]? = some g ∧ (g.gone = true → h.gone = true)

/-- The words that Hasp may write when it settles: those of the gates, HASP_STOSTAT and HASP_TPCNT. -/
abbrev settleWords (x : Nat) : Prop := gateWords x ∨ (0x10080 ≤ x ∧ x < 0x10090) ∨ (0x100A0 ≤ x ∧ x < 0x100B0)

/-- HASP_STOSTAT of an output lies below HASP_TPCNT of every one. -/
theorem stoStat_below {k : Nat} (hk : k < 4) (j : Nat) : 0x10080 + 0x4 * k < 0x100A0 + 0x4 * j :=
  lt_of_lt_of_le ((by decide : ∀ k < 4, 0x10080 + 0x4 * k < 0x100A0) k hk) (Nat.le_add_right ..)

/-- The two words of an output, among those of the outputs. -/
theorem stoWord_lies {k x : Nat} (hk : k < 4) (hx : x = 0x10080 + 0x4 * k ∨ x = 0x100A0 + 0x4 * k) :
    ¬ (x < 0x10080 ∨ 0x100B0 ≤ x ∨ x = 0x10094) := by
  obtain rfl | rfl := hx
  · exact (by decide : ∀ k < 4, ¬ (0x10080 + 0x4 * k < 0x10080 ∨ 0x100B0 ≤ 0x10080 + 0x4 * k ∨ 0x10080 + 0x4 * k = 0x10094)) k hk
  · exact (by decide : ∀ k < 4, ¬ (0x100A0 + 0x4 * k < 0x10080 ∨ 0x100B0 ≤ 0x100A0 + 0x4 * k ∨ 0x100A0 + 0x4 * k = 0x10094)) k hk

theorem stoStays_refl (r : Sto) : StoStays r r := ⟨rfl, id, id⟩

theorem stoKept_refl (b : Blk) : StoKept b b where
  latched _ _ _ _ := rfl
  fault _ _ h := h
  rest := rfl
  stos _ s h := ⟨s, h, stoStays_refl s⟩
  chs _ h hh := ⟨h, hh, id⟩

namespace StoKept
variable {b c d : Blk}

theorem trans (h : StoKept b c) (k : StoKept c d) : StoKept b d where
  latched i hi g hg := (k.latched i hi g hg).trans (h.latched i hi g hg)
  fault i hi hb := k.fault i hi (h.fault i hi hb)
  rest := by
    rw [k.rest, h.rest]
  stos i s hs := by
    obtain ⟨r, hr, hm, hhs, hss⟩ := k.stos i s hs
    obtain ⟨q, hq, hm', hhs', hss'⟩ := h.stos i r hr
    exact ⟨q, hq, hm.trans hm', hhs ∘ hhs', hss ∘ hss'⟩
  chs i x hx := by
    obtain ⟨y, hy, hgone⟩ := k.chs i x hx
    obtain ⟨z, hz, hgone'⟩ := h.chs i y hy
    exact ⟨z, hz, hgone ∘ hgone'⟩

/-- An operation that leaves the words of the outputs and Hasp's state. -/
theorem beside {T : Nat → Prop} (h : StoKept b c) (hw : SameBut c d T) (hT : ∀ x, T x → x < 0x10080 ∨ 0x100B0 ≤ x ∨ x = 0x10094)
    (hh : d.hasp = c.hasp) : StoKept b d := by
  have hrd : ∀ k < 4, ∀ g : Fld, g.off = 0x10080 + 0x4 * k ∨ g.off = 0x100A0 + 0x4 * k → d.rd g = c.rd g := fun k hk g hg =>
    same_rd hw g fun ht => stoWord_lies hk hg (hT _ ht)
  refine h.trans ⟨fun k hk g hg => hrd k hk g (hg.imp And.left And.left), fun k hk hf => ?_, ?_, ?_, ?_⟩
  · exact (hrd k hk (R.HASP_STOSTAT_STATE k) (.inl rfl)).trans hf
  · rw [hh]
  · intro k s hs
    exact ⟨s, hh ▸ hs, stoStays_refl s⟩
  · intro k x hx
    exact ⟨x, hh ▸ hx, id⟩

theorem raise (h : StoKept b c) (code n : Nat) (i : List Int) : StoKept b (c.raise code n i) :=
  h.beside (T := (· = R.HIF_EVDROP_COUNT.off)) (same_raise (same_refl c _) code n i rfl) (fun x hx => .inl (by rw [hx]; decide))
    (Blk.raise_hasp ..)

/-- A write of a status word of output j beside its latched fields, where FAULT is kept. -/
theorem wr (h : StoKept b c) {j : Nat} {f : Fld} {v : Nat} (hj : j < 4) (hoff : f.off = 0x10080 + 0x4 * j) (hin : f.inWord)
    (hf : f.lo + f.w ≤ 8 ∨ 12 ≤ f.lo) (hst : 3 ≤ f.lo ∨ f = R.HASP_STOSTAT_STATE j ∧ (c.stoState j = 5 → v = 5)) :
    StoKept b (c.wr f v) := by
  refine h.trans ⟨fun k hk g hg => ?_, fun k hk hk5 => ?_, rfl, fun k s hs => ⟨s, hs, stoStays_refl s⟩, fun k x hx => ⟨x, hx, id⟩⟩
  · by_cases ho : g.off = f.off
    · refine Blk.rd_wr_apart _ _ _ _ hin ?_
      obtain ⟨-, h8, h12⟩ | ⟨hg, -⟩ := hg
      · exact hf.imp (fun h => le_trans h h8) (le_trans h12)
      · exact absurd (hoff.symm.trans (ho.symm.trans hg)) (Nat.ne_of_lt (stoStat_below hj k))
    · exact Blk.rd_wr_off _ _ _ _ ho
  · by_cases ho : (R.HASP_STOSTAT_STATE k).off = f.off
    · have hkj : k = j := Nat.eq_of_mul_eq_mul_left (by decide : 0 < 4) (Nat.add_left_cancel (ho.trans hoff))
      subst hkj
      obtain hlo | ⟨rfl, hv⟩ := hst
      · exact (Blk.rd_wr_apart c f (R.HASP_STOSTAT_STATE k) v hin (.inr hlo)).trans hk5
      · rw [hv hk5]
        exact Blk.rd_wr_self _ _ _ inWord_of
    · exact (Blk.rd_wr_off _ _ _ _ ho).trans hk5

/-- STATE of output j, where FAULT is kept. -/
theorem wrState (h : StoKept b c) {j v : Nat} (hj : j < 4) (hv : c.stoState j = 5 → v = 5) :
    StoKept b (c.wr (R.HASP_STOSTAT_STATE j) v) :=
  h.wr hj rfl inWord_of (.inl (Nat.le_of_ble_eq_true rfl)) (.inr ⟨rfl, hv⟩)

theorem incAband (h : StoKept b c) (j : Nat) : StoKept b (c.inc (R.HASP_TPCNT_ABAND j)) := by
  refine h.trans ⟨fun k hk g hg => ?_, fun k hk hk5 => ?_, rfl, fun k s hs => ⟨s, hs, stoStays_refl s⟩, fun k x hx => ⟨x, hx, id⟩⟩
  · by_cases ho : g.off = (R.HASP_TPCNT_ABAND j).off
    · refine Blk.rd_wr_apart _ _ _ _ inWord_of ?_
      obtain ⟨hg, -⟩ | ⟨-, hg⟩ := hg
      · exact absurd (hg.symm.trans ho) (Nat.ne_of_lt (stoStat_below hk j))
      · exact hg.symm
    · exact Blk.rd_inc_off _ _ _ ho
  · exact (Blk.rd_inc_off c (R.HASP_TPCNT_ABAND j) (R.HASP_STOSTAT_STATE k) (Nat.ne_of_lt (stoStat_below hk j))).trans hk5

theorem onSto (h : StoKept b c) (j : Nat) {f : Sto → Sto} (hf : ∀ s, StoStays s (f s)) : StoKept b (c.onSto j f) := by
  refine h.trans ⟨fun _ _ _ _ => rfl, fun _ _ h5 => h5, rfl, fun k s hs => ?_, fun k x hx => ⟨x, hx, id⟩⟩
  replace hs : (c.hasp.stos.modify j f)[k]? = some s := hs
  rw [List.getElem?_modify] at hs
  obtain ⟨r, hr, rfl⟩ := Option.map_eq_some_iff.mp hs
  refine ⟨r, hr, ?_⟩
  split_ifs
  · exact hf r
  · exact stoStays_refl r

theorem onHch (h : StoKept b c) (j : Nat) {f : HaspCh → HaspCh} (hf : ∀ x : HaspCh, x.gone = true → (f x).gone = true) :
    StoKept b (c.onHch j f) := by
  refine h.trans ⟨fun _ _ _ _ => rfl, fun _ _ h5 => h5, rfl, fun k s hs => ⟨s, hs, stoStays_refl s⟩, fun k x hx => ?_⟩
  replace hx : (c.hasp.chs.modify j f)[k]? = some x := hx
  rw [List.getElem?_modify] at hx
  obtain ⟨y, hy, rfl⟩ := Option.map_eq_some_iff.mp hx
  refine ⟨y, hy, ?_⟩
  split_ifs
  · exact hf y
  · exact id

theorem ite {p : Prop} [Decidable p] (hc : p → StoKept b c) (hd : ¬ p → StoKept b d) : StoKept b (if p then c else d) := by
  split_ifs with h
  · exact hc h
  · exact hd h

theorem foldl {l : List Nat} {f : Blk → Nat → Blk} (h : ∀ x ∈ l, ∀ b, StoKept b (f b x)) (b : Blk) : StoKept b (l.foldl f b) :=
  List.foldlRecOn _ _ (stoKept_refl b) fun c hc x hx => hc.trans (h x hx c)

theorem each {n : Nat} {f : Nat → Blk → Blk} (h : ∀ i < n, ∀ b, StoKept b (f i b)) (b : Blk) : StoKept b (b.each n f) :=
  foldl (fun i hi b => h i (List.mem_range.mp hi) b) b

end StoKept

section
variable (b : Blk)

theorem own_beside (x : Nat) (h : ownWords x) : x < 0x10080 ∨ 0x100B0 ≤ x ∨ x = 0x10094 := by
  obtain rfl | rfl | ⟨-, hx⟩ | ⟨-, hx⟩ := h
  · exact .inl (by decide)
  · exact .inr (.inr rfl)
  · exact .inl (lt_trans hx (by decide))
  · exact .inl (lt_trans hx (by decide))

theorem gates_sto : StoKept b b.gates := by
  exact (stoKept_refl b).beside (gates_gate b) (fun x hx => own_beside x (own_of_gate hx)) (hasp_of_far b.gates_far)

/-- Both switches open: a fault of the output itself is not looked at. -/
theorem openSto_sto {k : Nat} (hk4 : k < 4) (hk : b.stoState k ≠ 5) : StoKept b (b.openSto k) := by
  have hcnt : ∀ c, c = (if (b.stoState k == 3 || b.stoState k == 4) = true then
      (b.inc (R.HASP_TPCNT_ABAND k)).raise 0x9004 k else b) → StoKept b c ∧ c.stoState k = b.stoState k := by
    rintro c rfl
    split_ifs
    · have hoff : (R.HASP_STOSTAT_STATE k).off ≠ (R.HASP_TPCNT_ABAND k).off ∧
          (R.HASP_STOSTAT_STATE k).off ≠ R.HIF_EVDROP_COUNT.off :=
        ⟨Nat.ne_of_lt (stoStat_below hk4 k), ne_above⟩
      exact ⟨((stoKept_refl b).incAband k).raise _ _ _,
        (Blk.raise_rd _ _ _ _ _ hoff.2).trans (Blk.rd_inc_off _ _ _ hoff.1)⟩
    · exact ⟨stoKept_refl b, rfl⟩
  unfold Blk.openSto
  dsimp only
  generalize (if (b.stoState k == 3 || b.stoState k == 4) = true then
      (b.inc (R.HASP_TPCNT_ABAND k)).raise 0x9004 k else b) = c at hcnt ⊢
  obtain ⟨hc, hst⟩ := hcnt c rfl
  have hopen : StoKept b (((c.wr (R.HASP_STOSTAT_STATE k) (if (c.sto k).dead then 5 else 0)).flag (R.HASP_STOSTAT_SS1 k)
      false).onSto k fun s => { s with hs := false, ls := false, ss1 := none }) :=
    ((hc.wrState hk4 fun h5 => absurd (hst.symm.trans h5) hk).wr (f := R.HASP_STOSTAT_SS1 k) hk4 rfl inWord_of
      (.inr (Nat.le_of_ble_eq_true rfl)) (.inl (Nat.le_of_ble_eq_true rfl))).onSto k fun s => ⟨rfl, fun _ => rfl, fun _ => rfl⟩
  exact hopen.trans (.foldl (fun i _ d => (stoKept_refl d).onHch i (f := fun h =>
    { h with ss1 := false, react := if h.react = some none then none else h.react }) fun x hx => hx) _)

theorem beginClosing_sto {k : Nat} (hk4 : k < 4) (hk : b.stoState k ≠ 5) : StoKept b (b.beginClosing k) :=
  ((stoKept_refl b).wrState hk4 fun h5 => absurd h5 hk).onSto k fun _ => ⟨rfl, fun _ => rfl, id⟩

/-- DEM and DSRC as a demand shows them. -/
theorem StoKept.wrDemand {b c : Blk} (h : StoKept b c) {k : Nat} (hk4 : k < 4) (v : Bool) :
    StoKept b (c.flag (R.HASP_STOSTAT_DEM k) v) ∧ (c.flag (R.HASP_STOSTAT_DEM k) v).stoState k = c.stoState k :=
  ⟨h.wr (f := R.HASP_STOSTAT_DEM k) hk4 rfl inWord_of (.inl (Nat.le_of_ble_eq_true rfl)) (.inl (Nat.le_of_ble_eq_true rfl)),
    Blk.rd_wr_apart _ _ _ _ inWord_of apart_above⟩

theorem judgeSto_sto {k : Nat} (hk4 : k < 4) : StoKept b (b.judgeSto k) := by
  have hfirst : ∀ (p : Prop) [Decidable p] d c, c = (if p then b.wr (R.HASP_STOSTAT_DSRC k) d else b) →
      StoKept b c ∧ c.stoState k = b.stoState k := by
    rintro p _ d c rfl
    split_ifs
    · exact ⟨(stoKept_refl b).wr (f := R.HASP_STOSTAT_DSRC k) hk4 rfl inWord_of (.inl (Nat.le_of_ble_eq_true rfl))
        (.inl (Nat.le_of_ble_eq_true rfl)), Blk.rd_wr_apart _ _ _ _ inWord_of apart_above⟩
    · exact ⟨stoKept_refl b, rfl⟩
  unfold Blk.judgeSto
  refine .ite (fun _ => stoKept_refl b) fun _ => ?_
  split
  · next d _ =>
    dsimp only
    generalize hc : (if (!b.on (R.HASP_STOSTAT_DEM k)) = true then b.wr (R.HASP_STOSTAT_DSRC k) d else b) = c
    obtain ⟨hkept, hst⟩ := hfirst _ d c hc.symm
    obtain ⟨hdem, hdst⟩ := hkept.wrDemand hk4 true
    generalize c.flag (R.HASP_STOSTAT_DEM k) true = e at hdem hdst ⊢
    have hshown := hdem.onSto k (f := fun s => { s with riseOk := false, quiet := 0 }) fun s => ⟨rfl, id, id⟩
    generalize (e.onSto k fun s => { s with riseOk := false, quiet := 0 }) = g at hshown ⊢
    split
    · refine .ite (fun h => (hshown.trans (openSto_sto g hk4 ?_)).raise _ _ _) fun _ => hshown
      omega
    · exact hshown
  · obtain ⟨hdem, -⟩ := (stoKept_refl b).wrDemand hk4 false
    refine .ite (fun h => hdem.trans (beginClosing_sto _ hk4 ?_)) fun _ => hdem
    rw [h.1]
    decide

theorem endReact_sto (c : Nat) : StoKept b (b.endReact c) := by
  refine .ite (fun _ => (stoKept_refl b).onHch c fun x hx => ?_) fun _ => stoKept_refl b
  split
  · rfl
  · exact hx
  · exact hx

/-- Hasp settles: the outputs keep what `StoKept` says. -/
theorem settle_sto : StoKept b b.settle := by
  have hpass : ∀ b : Blk, StoKept b ((b.each 16 fun c b => b.endReact c).each 4 fun k b => b.judgeSto k).gates := fun b =>
    ((StoKept.each (fun c _ b => endReact_sto b c) b).trans (.each (fun k hk b => judgeSto_sto b hk) _)).trans (gates_sto _)
  exact (hpass b).trans (hpass _)

/-! The words written, and the parts left. -/

theorem stoStat_settle {k : Nat} (hk : k < 4) : settleWords (0x10080 + 0x4 * k) :=
  .inr (.inl ⟨le_above, (by decide : ∀ k < 4, 0x10080 + 0x4 * k < 0x10090) k hk⟩)

theorem openSto_same {k : Nat} (hk : k < 4) : SameBut b (b.openSto k) settleWords := by
  have hcnt : settleWords (0x100A0 + 0x4 * k) := .inr (.inr ⟨le_above, (by decide : ∀ k < 4, 0x100A0 + 0x4 * k < 0x100B0) k hk⟩)
  have hstat := stoStat_settle hk
  refine same_trans ?_ (same_eachOf _ _ (fun c _ b => same_onHch (same_refl b _) c _) _)
  refine same_onSto (same_flag (same_wr ?_ (R.HASP_STOSTAT_STATE k) _ hstat) (R.HASP_STOSTAT_SS1 k) false hstat) k _
  exact same_ite (fun _ => same_raise (same_inc (same_refl b _) (R.HASP_TPCNT_ABAND k) hcnt) _ _ _ (.inl (.inl rfl)))
    fun _ => same_refl b _

theorem judgeSto_same {k : Nat} (hk : k < 4) : SameBut b (b.judgeSto k) settleWords := by
  have hstat := stoStat_settle hk
  refine same_ite (fun _ => same_refl b _) fun _ => ?_
  split
  · have hdem : ∀ (d : Nat) (p : Prop) [Decidable p] (f : Sto → Sto), SameBut b
        (((if p then b.wr (R.HASP_STOSTAT_DSRC k) d else b).flag (R.HASP_STOSTAT_DEM k) true).onSto k f) settleWords :=
      fun d p _ f => same_onSto (same_flag (same_ite (fun _ => same_wr (same_refl b _) (R.HASP_STOSTAT_DSRC k) d hstat) fun _ =>
        same_refl b _) (R.HASP_STOSTAT_DEM k) true hstat) k f
    dsimp only
    split
    · refine same_ite (fun _ => ?_) fun _ => hdem _ _ _
      exact same_raise (same_trans (hdem _ _ _) (openSto_same _ hk)) _ _ _ (.inl (.inl rfl))
    · exact hdem _ _ _
  · have hclear : SameBut b (b.flag (R.HASP_STOSTAT_DEM k) false) settleWords :=
      same_flag (same_refl b _) (R.HASP_STOSTAT_DEM k) false hstat
    exact same_ite (fun _ => same_onSto (same_wr hclear (R.HASP_STOSTAT_STATE k) 1 hstat) k _) fun _ => hclear

theorem settle_same : SameBut b b.settle settleWords := by
  have hreact : ∀ b : Blk, SameBut b (b.each 16 fun c b => b.endReact c) settleWords :=
    same_each 16 _ fun c _ b => same_ite (fun _ => same_onHch (same_refl b _) c _) fun _ => same_refl b _
  have hpass : ∀ b : Blk, SameBut b ((b.each 16 fun c b => b.endReact c).each 4 fun k b => b.judgeSto k).gates settleWords :=
    fun b => same_trans (same_trans (hreact b) (same_each 4 _ (fun k hk b => judgeSto_same b hk) _))
      (same_mono (gates_gate _) fun _ => .inl)
  exact same_trans (hpass b) (hpass _)

@[simp] theorem Blk.wr_away (f : Fld) (v : Nat) : (b.wr f v).away = b.away := (rfl)
@[simp] theorem Blk.flag_away (f : Fld) (v : Bool) : (b.flag f v).away = b.away := (rfl)
@[simp] theorem Blk.inc_away (f : Fld) : (b.inc f).away = b.away := (rfl)
@[simp] theorem Blk.onSto_away (n : Nat) (f : Sto → Sto) : (b.onSto n f).away = b.away := (rfl)
@[simp] theorem Blk.onHch_away (n : Nat) (f : HaspCh → HaspCh) : (b.onHch n f).away = b.away := (rfl)
@[simp] theorem Blk.raise_away (c n : Nat) (i : List Int) : (b.raise c n i).away = b.away := away_of_far (b.raise_far c n i)
@[simp] theorem Blk.gates_away : b.gates.away = b.away := away_of_far b.gates_far

@[simp] theorem away_ite (p : Prop) [Decidable p] (x y : Blk) : (if p then x else y).away = if p then x.away else y.away :=
  apply_ite Blk.away p x y

@[simp] theorem Blk.eachOf_away (l : List Nat) (f : Nat → Blk → Blk) (h : ∀ i b, (f i b).away = b.away) :
    (b.eachOf l f).away = b.away :=
  List.foldlRecOn (motive := fun c : Blk => c.away = b.away) l _ rfl fun c hc i _ => (h i c).trans hc

@[simp] theorem Blk.each_away (n : Nat) (f : Nat → Blk → Blk) (h : ∀ i b, (f i b).away = b.away) :
    (b.each n f).away = b.away := b.eachOf_away (List.range n) f h

@[simp] theorem Blk.openSto_away (k : Nat) : (b.openSto k).away = b.away := by simp [Blk.openSto]
@[simp] theorem Blk.beginClosing_away (k : Nat) : (b.beginClosing k).away = b.away := by simp [Blk.beginClosing]
@[simp] theorem Blk.judgeSto_away (k : Nat) : (b.judgeSto k).away = b.away := by
  unfold Blk.judgeSto
  split_ifs
  · rfl
  · split
    · dsimp only
      split <;> simp
    · simp
@[simp] theorem Blk.endReact_away (c : Nat) : (b.endReact c).away = b.away := by simp [Blk.endReact]
@[simp] theorem Blk.settle_away : b.settle.away = b.away := by simp [Blk.settle]

theorem settle_hstate : b.settle.rd R.HASP_STAT_HSTATE = b.rd R.HASP_STAT_HSTATE := by
  refine same_rd (settle_same b) _ ?_
  exact (by decide : ¬ settleWords 0x10000)

/-! The loss of R338. -/

/-- LOST, its event and the gate-enables that follow it. -/
theorem lost_sto (c : Blk) (cause : Nat) :
    StoKept c ((c.wr R.HASP_STAT_HSTATE 3).raise 0x9306 0 [Int.ofNat cause]).gates := by
  have hwr : StoKept c (c.wr R.HASP_STAT_HSTATE 3) := (stoKept_refl c).beside (T := (· = 0x10000))
    (same_wr (same_refl c _) R.HASP_STAT_HSTATE 3 rfl) (fun x hx => .inl (hx ▸ by decide)) (Blk.wr_hasp ..)
  generalize c.wr R.HASP_STAT_HSTATE 3 = d at hwr ⊢
  have hraise := hwr.raise 0x9306 0 [Int.ofNat cause]
  generalize d.raise 0x9306 0 [Int.ofNat cause] = e at hraise ⊢
  exact hraise.trans (gates_sto e)

/-- Ownership released, with the role that follows. -/
theorem released_sto (c : Blk) (r : Nat) : StoKept c ((c.flag R.MIR_STAT_OWNOUT false).setRole r).ownSettle := by
  have hout : StoKept c (c.flag R.MIR_STAT_OWNOUT false) := (stoKept_refl c).beside (T := (· = 0x13008))
    (same_flag (same_refl c _) R.MIR_STAT_OWNOUT false rfl) (fun x hx => .inr (.inl (hx ▸ by decide))) (Blk.flag_hasp ..)
  generalize c.flag R.MIR_STAT_OWNOUT false = d at hout ⊢
  have hrole := hout.beside (setRole_same d r) (fun x hx => by
    obtain rfl | ⟨k, -, rfl⟩ := hx
    · exact .inr (.inl (by decide))
    · exact .inr (.inl (le_above))) (hasp_of_far (Blk.setRole_far d r))
  generalize d.setRole r = e at hrole ⊢
  exact hrole.beside (ownSettle_own e) own_beside (hasp_of_far (Blk.ownSettle_far e))

theorem loss_sto (cause : Nat) : StoKept b (b.loss cause) := by
  unfold Blk.loss
  refine .ite (fun _ => stoKept_refl b) fun _ => ?_
  dsimp only
  have hhold : StoKept b (if b.ownsOut = true ∧ b.rd R.MIR_STAT_PID ≠ 0 then b.ntcHold else b) :=
    .ite (fun _ => (stoKept_refl b).beside (d := b.ntcHold) (T := fun _ => False) (same_regs rfl) (fun _ h => h.elim) rfl)
      fun _ => stoKept_refl b
  generalize (if b.ownsOut = true ∧ b.rd R.MIR_STAT_PID ≠ 0 then b.ntcHold else b) = c at hhold ⊢
  have hlost := hhold.trans (lost_sto c cause)
  generalize ((c.wr R.HASP_STAT_HSTATE 3).raise 0x9306 0 [Int.ofNat cause]).gates = d at hlost ⊢
  have hrel := (hlost.trans (released_sto d 5)).trans (settle_sto _)
  generalize ((d.flag R.MIR_STAT_OWNOUT false).setRole 5).ownSettle.settle = e at hrel ⊢
  exact hrel.beside (T := fun _ => False) (same_regs (dropInFlight_regs e)) (fun _ h => h.elim)
    (hasp_of_far (Blk.dropInFlight_far e))

/-- A loss declared: LOST and event 0x9306. -/
theorem loss_declares (cause : Nat) (h : b.rd R.HASP_STAT_HSTATE ≠ 3) :
    (b.loss cause).rd R.HASP_STAT_HSTATE = 3 ∧ Reported (b.loss cause) 0x9306 0 := by
  refine ⟨congrArg Prod.snd (loss_calm b cause), ?_⟩
  unfold Blk.loss
  rw [if_neg h]
  dsimp only
  generalize (if b.ownsOut = true ∧ b.rd R.MIR_STAT_PID ≠ 0 then b.ntcHold else b).wr R.HASP_STAT_HSTATE 3 = c
  have hrep := (gates_front _).reports _ _ (c.raise_self 0x9306 0 [Int.ofNat cause])
  generalize (c.raise 0x9306 0 [Int.ofNat cause]).gates = d at hrep ⊢
  have hout : Reported (d.flag R.MIR_STAT_OWNOUT false) 0x9306 0 := reported_wr_above hrep _ _ (by decide)
  exact (dropInFlight_front _).reports _ _ ((settle_front _).reports _ _ ((ownSettle_front _).reports _ _
    ((setRole_front _ 5).reports _ _ hout)))

end

end Sys2Proof.Machine
end

section
/-! PROOFS. The commands of transactions (R433 to R435, R438), of the CAN controllers (R459 to R466) and of the handover of a
pair (R395). -/

namespace Sys2Proof.Machine

section
variable {b : Blk} (h : Hdr)

/-! Transactions. -/

/-- The transaction is open, complete or not. -/
theorem txnOpen_serves {r : Nat} (hs : b.txnStandby = false) (ho : b.txnState r = 1 ∨ b.txnState r = 2) :
    ¬ (b.txnStandby = true ∨ b.txnState r = 0 ∨ b.txnState r = 3) := by
  rw [hs]
  rintro (h | h | h)
  · exact Bool.false_ne_true h
  · exact absurd ho (h ▸ by decide)
  · exact absurd ho (h ▸ by decide)

theorem txnState_of {c : Blk} {r v : Nat} (h : c.rd (R.TXN_STAT_STATE r) = v) (hv : v ≠ 0) : c.txnState r = v := by
  unfold Blk.txnState
  dsimp only
  rw [h, if_neg fun h => hv h.1]

theorem showLeft_beside (r : Nat) : (b.showLeft r).rd (R.TXN_STAT_STATE r) = b.rd (R.TXN_STAT_STATE r) ∧
    (b.showLeft r).txns = b.txns := by
  unfold Blk.showLeft
  dsimp only
  split_ifs
  · exact ⟨Blk.rd_wr_apart _ _ _ _ inWord_of apart_above, Blk.wr_txns ..⟩
  · exact ⟨rfl, rfl⟩

theorem doTxnBegin_opens (hs : b.txnStandby = false) (h0 : b.txnState h.ring = 0) :
    Decided (b.doTxnBegin h) h 0x40 0 0 ∧ (b.doTxnBegin h).txnState h.ring = 1 ∧
      ∀ x, (b.doTxnBegin h).txns.open_[h.ring.val]? = some x → x.list = [] ∧ x.bad = false := by
  unfold Blk.doTxnBegin
  dsimp only
  rw [hs, if_neg Bool.false_ne_true, if_neg (not_not.mpr h0)]
  refine ⟨ok_decided _ _ _, ?_, fun x hx => ?_⟩
  all_goals
    generalize hc : (b.onTxn h.ring fun _ => default).wr (R.TXN_STAT_STATE h.ring) 1 = c at *
    obtain ⟨hst, htx⟩ := showLeft_beside (b := c) h.ring
  · refine txnState_of (hst.trans ?_) Nat.one_ne_zero
    rw [← hc]
    exact Blk.rd_wr_self _ _ _ inWord_of
  · replace hx : (c.showLeft h.ring).txns.open_[h.ring.val]? = some x := hx
    rw [htx, ← hc, Blk.wr_txns] at hx
    obtain ⟨y, -, rfl⟩ := getElem?_modify_self hx
    exact ⟨rfl, rfl⟩

theorem doTxnBegin_refuses (hs : b.txnStandby = false) (h0 : b.txnState h.ring ≠ 0) :
    b.doTxnBegin h = b.complete h 0x40 0x03 := by
  unfold Blk.doTxnBegin
  dsimp only
  rw [hs, if_neg Bool.false_ne_true, if_pos h0]

theorem doTxnWrite_stages {off : Nat} (val : Nat) (hs : b.txnStandby = false)
    (ho : b.txnState h.ring = 1 ∨ b.txnState h.ring = 2) (h4 : off % 4 = 0) (hoff : off ≤ 0x3FFFF)
    (hl : (b.txn h.ring).list.length < 4096) (hp : ptrReg off = none) :
    b.doTxnWrite h off val = ((b.onTxn h.ring fun t => { t with list := t.list ++ [(off, 0, val)] }).wr (R.TXN_STAT_COUNT h.ring)
      ((b.onTxn h.ring fun t => { t with list := t.list ++ [(off, 0, val)] }).txn h.ring).list.length).ok h 0x41 := by
  unfold Blk.doTxnWrite
  dsimp only
  rw [if_neg (txnOpen_serves hs ho), if_neg (not_or.mpr ⟨not_not_intro h4, not_or.mpr ⟨Nat.not_lt_of_le hoff, Nat.not_le_of_lt hl⟩⟩), hp]

theorem txnWrite_shows {off val : Nat} {c : Blk} (hl : (b.txn h.ring).list.length < 4096)
    (hc : c = b.onTxn h.ring fun t => { t with list := t.list ++ [(off, 0, val)] }) :
    ∀ x, (c.wr (R.TXN_STAT_COUNT h.ring) (c.txn h.ring).list.length).txns.open_[h.ring.val]? = some x →
      x.list = (b.txn h.ring).list ++ [(off, 0, val)] ∧
        (c.wr (R.TXN_STAT_COUNT h.ring) (c.txn h.ring).list.length).rd (R.TXN_STAT_COUNT h.ring) = x.list.length := by
  intro x hx
  rw [Blk.wr_txns] at hx
  have htxn : c.txn h.ring = x := by rw [Blk.txn, List.getD_eq_getElem?_getD, hx]; rfl
  have hlist : x.list = (b.txn h.ring).list ++ [(off, 0, val)] := by
    rw [hc] at hx
    obtain ⟨z, hz, rfl⟩ := getElem?_modify_self hx
    rw [Blk.txn, List.getD_eq_getElem?_getD, hz]
    rfl
  refine ⟨hlist, ?_⟩
  rw [Blk.rd_wr_self _ _ _ inWord_of, htxn]
  refine Nat.mod_eq_of_lt ?_
  rw [hlist, List.length_append]
  exact lt_of_lt_of_le (Nat.add_lt_add_right hl 1) (by decide : 4096 + 1 ≤ 2 ^ 13)

theorem doTxnWrite_bad {off : Nat} (val : Nat) (hs : b.txnStandby = false)
    (ho : b.txnState h.ring = 1 ∨ b.txnState h.ring = 2) (h4 : off % 4 ≠ 0) :
    Decided (b.doTxnWrite h off val) h 0x41 0x02 0x0004 ∧ (b.doTxnWrite h off val).txnState h.ring = 2 ∧
      ∀ x, (b.doTxnWrite h off val).txns.open_[h.ring.val]? = some x → x.bad = true ∧ x.list = (b.txn h.ring).list := by
  unfold Blk.doTxnWrite
  dsimp only
  rw [if_neg (txnOpen_serves hs ho), if_pos (.inl h4)]
  refine ⟨refuse_decided _ _ _ _, txnState_of (Blk.rd_wr_self _ _ _ inWord_of) (by decide), fun x hx => ?_⟩
  replace hx : ((b.onTxn h.ring fun t => { t with bad := true }).wr (R.TXN_STAT_STATE h.ring) 2).txns.open_[h.ring.val]? = some x
    := hx
  rw [Blk.wr_txns] at hx
  obtain ⟨y, hy, rfl⟩ := getElem?_modify_self hx
  refine ⟨rfl, ?_⟩
  rw [Blk.txn, List.getD_eq_getElem?_getD, hy]
  rfl

theorem doTxnCommit_validates (hs : b.txnStandby = false) (ho : b.txnState h.ring = 1 ∨ b.txnState h.ring = 2) :
    (b.doTxnCommit h).txnState h.ring = 3 ∧ (b.doTxnCommit h).host = b.host ∧
      ∀ x, (b.doTxnCommit h).txns.open_[h.ring.val]? = some x → x.hdr = some h := by
  unfold Blk.doTxnCommit
  dsimp only
  rw [if_neg (txnOpen_serves hs ho)]
  refine ⟨txnState_of (Blk.rd_wr_self _ _ _ inWord_of) (by decide), Blk.wr_host .., fun x hx => ?_⟩
  rw [Blk.wr_txns] at hx
  obtain ⟨y, -, rfl⟩ := getElem?_modify_self hx
  rfl

theorem doTxnRollback_closes (hs : b.txnStandby = false) (ho : b.txnState h.ring = 1 ∨ b.txnState h.ring = 2) :
    Decided (b.doTxnRollback h) h 0x43 0 0 ∧ (b.doTxnRollback h).txnState h.ring = 0 ∧
      Reported (b.doTxnRollback h) 0x2011 h.ring ∧
      ∀ x, (b.doTxnRollback h).txns.open_[h.ring.val]? = some x → x.list = [] := by
  have heq : b.doTxnRollback h = ((b.closeTxn h.ring).raise 0x2011 h.ring []).ok h 0x43 := by
    unfold Blk.doTxnRollback
    exact if_neg (txnOpen_serves hs ho)
  have hclosed : ((b.closeTxn h.ring).raise 0x2011 h.ring []).txnState h.ring = 0 :=
    txnState_closed (b := b) h.ring.isLt (same_raise (same_refl _ _) _ _ _ (.inl (by decide))) (Blk.raise_txns ..)
  have htx : ((b.closeTxn h.ring).raise 0x2011 h.ring []).txns = (b.closeTxn h.ring).txns := Blk.raise_txns ..
  have hrep := (b.closeTxn h.ring).raise_self 0x2011 h.ring []
  rw [heq]
  generalize (b.closeTxn h.ring).raise 0x2011 h.ring [] = c at hclosed htx hrep ⊢
  refine ⟨ok_decided _ _ _, hclosed, hrep, fun x hx => ?_⟩
  replace hx : c.txns.open_[h.ring.val]? = some x := hx
  rw [htx, closeTxn_txns] at hx
  obtain ⟨y, -, rfl⟩ := getElem?_modify_self hx
  rfl

/-- A standby refuses every transaction command (R433). -/
theorem txn_standby {s : State} {c : Instr} {op : Nat} (hs : s.blk.txnStandby = true)
    (hc : (c = .txnBegin h ∧ op = 0x40) ∨ (∃ o v, c = .txnWrite h o v ∧ op = 0x41) ∨ (c = .txnCommit h ∧ op = 0x42) ∨
      (c = .txnRollback h ∧ op = 0x43)) :
    ∃ f, exec c s = .next (s.within [.fabric] f) ∧ f s.blk = s.blk.refuse h op 0x0001 := by
  obtain ⟨rfl, rfl⟩ | ⟨o, v, rfl, rfl⟩ | ⟨rfl, rfl⟩ | ⟨rfl, rfl⟩ := hc
  · exact ⟨_, rfl, if_pos hs⟩
  · exact ⟨_, rfl, if_pos (.inl hs)⟩
  · exact ⟨_, rfl, if_pos (.inl hs)⟩
  · exact ⟨_, rfl, if_pos (.inl hs)⟩

/-! The CAN controllers. -/

theorem onCan_at {k : Nat} {f : Can → Can} {c : Can} (hc : (b.onCan k f).cans[k]? = some c) :
    ∃ c', b.cans[k]? = some c' ∧ c = f c' := by
  obtain ⟨c', hc', rfl⟩ := getElem?_modify_self hc
  exact ⟨c', hc', rfl⟩

/-- The frame that CAN_TX puts into a buffer. -/
def Blk.canLoaded (b : Blk) (h : Hdr) (k buf : Nat) (f : CanFrame) (report staged : Bool) : Blk :=
  (b.onTxb k buf fun y => { y with f := f, tag := h.tag.toNat, report := report, img := if staged then List.replicate 64 0 else y.img,
                                   first := false, cancel := none, next := [] }).setTxb k buf 1

theorem canLoaded_shows {k buf : Nat} (f : CanFrame) (report staged : Bool) (hb : buf < 3) :
    (b.canLoaded h k buf f report staged).txb k buf = 1 ∧
      ∀ c x, (b.canLoaded h k buf f report staged).cans[k]? = some c → c.bufs[buf]? = some x → x.f = f ∧ x.tag = h.tag.toNat := by
  refine ⟨setTxb_txb k hb (by decide), fun c x hc hx => ?_⟩
  have hcans : (b.canLoaded h k buf f report staged).cans = _ := Blk.wr_cans _ (txbFld k buf) 1
  rw [hcans] at hc
  obtain ⟨c', -, rfl⟩ := onCan_at hc
  obtain ⟨y, -, rfl⟩ := getElem?_modify_self hx
  exact ⟨rfl, rfl⟩

theorem doCanTx_busy {k buf : Nat} (flags dlc id : Nat) (data : List Byte) (hb : buf < 3)
    (ht : b.txb k buf = 1 ∨ b.txb k buf = 2) : b.doCanTx h k buf flags dlc id data = b.complete h 0x50 0x03 := by
  unfold Blk.doCanTx
  dsimp only
  rw [if_pos ⟨hb, ht⟩]

/-- A classical frame with a standard identifier is loaded into a free buffer. -/
theorem doCanTx_loads {k buf dlc id : Nat} (data : List Byte) (hb : buf < 3) (h1 : b.txb k buf ≠ 1) (h2 : b.txb k buf ≠ 2)
    (hc : b.canClosed k = false) (ho : buf = 0 → b.slaluOwnsTx k = false) (hd : dlc ≤ 8) (hid : id < 2 ^ 11) :
    b.doCanTx h k buf 0 dlc id data = (b.canLoaded h k buf ⟨false, false, false, false, false, id, dlc,
      (data ++ List.replicate 64 0).take (dlcLen false dlc)⟩ false false).ok h 0x50 := by
  have hbit : ∀ i, bitAt 0 i = false := fun i => by simp [bitAt]
  have howns : ¬ (2 < buf ∨ (buf = 0 ∧ b.slaluOwnsTx k = true)) := by
    rintro (h | ⟨h0, h⟩)
    · exact Nat.not_lt_of_le (Nat.le_of_lt_succ hb) h
    · exact Bool.false_ne_true ((ho h0).symm.trans h)
  unfold Blk.doCanTx
  simp only [hbit]
  rw [if_neg (fun h => h.2.elim h1 h2), hc, if_neg Bool.false_ne_true, if_neg howns, if_neg ?_]
  · rfl
  · simp only [Bool.false_eq_true, false_and, if_false, and_false, false_or]
    omega

theorem doCanStage_stages {k buf ofs cnt : Nat} {data : List Byte} (hc : b.canClosed k = false) (hb : buf < 3)
    (ho : buf = 0 → b.slaluOwnsTx k = false) (hs : ofs + cnt ≤ 64) (h0 : cnt ≠ 0) (h48 : cnt ≤ 48) (hd : cnt ≤ data.length) :
    b.doCanStage h k buf ofs cnt data =
      (b.onTxb k buf fun y => { y with img := splice y.img ofs (data.take cnt) }).ok h 0x51 := by
  have howns : ¬ (2 < buf ∨ (buf = 0 ∧ b.slaluOwnsTx k = true) ∨ 64 < ofs + cnt ∨ cnt = 0 ∨ 48 < cnt) := by
    rintro (h | ⟨h1, h⟩ | h | h | h)
    · exact Nat.not_lt_of_le (Nat.le_of_lt_succ hb) h
    · exact Bool.false_ne_true ((ho h1).symm.trans h)
    · exact Nat.not_lt_of_le hs h
    · exact h0 h
    · exact Nat.not_lt_of_le h48 h
  unfold Blk.doCanStage
  rw [hc, if_neg Bool.false_ne_true, if_neg howns, List.take_append_of_le_length hd]

theorem onTxb_at {k buf : Nat} {f : TxBuf → TxBuf} {c c' : Can} {x : TxBuf} (hc : (b.onTxb k buf f).cans[k]? = some c)
    (hc' : b.cans[k]? = some c') (hx : c'.bufs[buf]? = some x) : c.bufs[buf]? = some (f x) := by
  obtain ⟨d, hd, rfl⟩ := onCan_at hc
  rw [hc'] at hd
  obtain rfl := Option.some.inj hd
  show (c'.bufs.modify buf f)[buf]? = some (f x)
  rw [List.getElem?_modify_eq, hx]
  rfl

theorem doCanCancel_withdraws {k buf : Nat} (won : Bool) (hb : buf < 3) (h1 : b.txb k buf = 1)
    (hn : ((b.can k).buf buf).next = []) :
    Decided (b.doCanCancel h k buf won) h 0x52 0 0 ∧ (b.doCanCancel h k buf won).txb k buf = 4 := by
  unfold Blk.doCanCancel
  rw [if_neg (Nat.not_lt_of_le (Nat.le_of_lt_succ hb)), if_pos h1]
  have htxb := setTxb_txb (b := b) k hb (by decide : 4 < 8)
  have hcans : (b.setTxb k buf 4).cans = b.cans := Blk.wr_cans ..
  generalize b.setTxb k buf 4 = c at htxb hcans ⊢
  have hnext : (((c.onTxb k buf fun y => { y with first := false }).can k).buf buf).next = [] := by
    refine (onTxb_view (b := c) k TxBuf.next buf buf (f := fun y => { y with first := false }) fun _ => rfl).trans ?_
    rw [Blk.can, hcans]
    exact hn
  rw [nextTx_none k hnext]
  exact ⟨ok_decided _ _ _, htxb⟩

theorem doCanCancel_idle {k buf : Nat} (won : Bool) (hb : buf < 3) (h1 : b.txb k buf ≠ 1) (h2 : b.txb k buf ≠ 2) :
    b.doCanCancel h k buf won = b.refuse h 0x52 0x0001 := by
  unfold Blk.doCanCancel
  rw [if_neg (Nat.not_lt_of_le (Nat.le_of_lt_succ hb)), if_neg h1, if_neg h2]

theorem doCanCancel_noBuffer {k buf : Nat} (won : Bool) (hb : 3 ≤ buf) :
    b.doCanCancel h k buf won = b.refuse h 0x52 0x0004 := if_pos hb

theorem doCanSleep_asks {k : Nat} (hr : b.on (R.CANn_STAT_RESTR k) = false) (hon : b.canOn k = true)
    (hs : b.slaluBound k = false) (ht : ∀ i < 3, b.txb k i ≠ 1 ∧ b.txb k i ≠ 2) :
    b.doCanSleep h k = (b.onCan k fun x => { x with sleepReq := true }).ok h 0x53 := by
  have hidle : ([0, 1, 2].any fun i => b.txb k i == 1 || b.txb k i == 2) = false := by
    simp [ht 0 (by decide), ht 1 (by decide), ht 2 (by decide)]
  unfold Blk.doCanSleep
  rw [hr, hon, hs, hidle, if_neg (by simp)]

theorem doCanWake_wakes {k : Nat} (hr : b.on (R.CANn_STAT_RESTR k) = false) (hp : b.powered .comm = true)
    (hst : b.canState k = 7) : b.doCanWake h k = (b.canWakes k 3).ok h 0x54 := by
  unfold Blk.doCanWake
  rw [hr, if_neg Bool.false_ne_true, hp, hst]
  rfl

theorem doCanWake_refused {k : Nat} (hr : b.on (R.CANn_STAT_RESTR k) = true) : b.doCanWake h k = b.refuse h 0x54 0x0001 :=
  if_pos hr

/-! The handover of a pair. -/

/-- Ownership and Hasp settle and the commands in flight are dropped: MIR_STAT is as it was. -/
theorem handed_rd (g : Fld) (hg : g.off = 0x13008) : b.ownSettle.settle.dropInFlight.rd g = b.rd g := by
  have hsettle := same_rd (settle_same b.ownSettle) g (hg ▸ (by decide : ¬ settleWords 0x13008))
  refine (same_rd (same_regs (T := fun _ => False) (dropInFlight_regs _)) g id).trans (hsettle.trans ?_)
  exact same_rd (ownSettle_own b) g (hg ▸ (by decide : ¬ ownWords 0x13008))

theorem doPairHandover_eq (hr : b.standbyReady = true) :
    b.doPairHandover h = ((((b.flag R.MIR_STAT_OWNOUT false).setRole 1).onMir (fun m => { m with wasReady := false })
      ).ntcHold.ownSettle.settle.dropInFlight).ok h 0x38 := if_pos hr

/-- The active module's line released, with the role SYNCING. -/
def Blk.lineReleased (b : Blk) : Blk :=
  (((b.flag R.MIR_STAT_OWNOUT false).setRole 1).onMir (fun m => { m with wasReady := false })).ntcHold

theorem lineReleased_shows : b.lineReleased.on R.MIR_STAT_OWNOUT = false ∧ b.lineReleased.rd R.MIR_STAT_ROLE = 1 := by
  have hline : (b.flag R.MIR_STAT_OWNOUT false).on R.MIR_STAT_OWNOUT = false := Blk.on_flag_self _ _ _ inWord_of rfl
  have hmir : ∀ (c : Blk) f, (∀ g, (c.onMir f).ntcHold.rd g = c.rd g) ∧ ∀ g, (c.onMir f).ntcHold.on g = c.on g :=
    fun _ _ => ⟨fun _ => rfl, fun _ => rfl⟩
  unfold Blk.lineReleased
  generalize b.flag R.MIR_STAT_OWNOUT false = a at hline ⊢
  have hout : (a.setRole 1).on R.MIR_STAT_OWNOUT = false := by
    rw [Blk.on, setRole_rd a 1 rfl, Blk.rd_wr_apart a R.MIR_STAT_ROLE R.MIR_STAT_OWNOUT 1 inWord_of apart_below]
    exact hline
  have hrole := setRole_role a (by decide : 1 < 8)
  generalize a.setRole 1 = c at hrole hout ⊢
  obtain ⟨hrd, hon⟩ := hmir c fun m => { m with wasReady := false }
  exact ⟨(hon _).trans hout, (hrd _).trans hrole⟩

theorem handed_on (g : Fld) (hg : g.off = 0x13008) : b.ownSettle.settle.dropInFlight.on g = b.on g := by
  rw [Blk.on, Blk.on, handed_rd g hg]

theorem handed_answers (d : Blk) : Decided (d.ownSettle.settle.dropInFlight.ok h 0x38) h 0x38 0 0 ∧
    (d.ownSettle.settle.dropInFlight.ok h 0x38).on R.MIR_STAT_OWNOUT = d.on R.MIR_STAT_OWNOUT ∧
      (d.ownSettle.settle.dropInFlight.ok h 0x38).rd R.MIR_STAT_ROLE = d.rd R.MIR_STAT_ROLE :=
  ⟨ok_decided _ h 0x38, (Blk.complete_on ..).trans (handed_on _ rfl), (Blk.complete_rd ..).trans (handed_rd _ rfl)⟩

theorem doPairHandover_hands (hr : b.standbyReady = true) :
    Decided (b.doPairHandover h) h 0x38 0 0 ∧ (b.doPairHandover h).on R.MIR_STAT_OWNOUT = false ∧
      (b.doPairHandover h).rd R.MIR_STAT_ROLE = 1 := by
  have heq : b.doPairHandover h = b.lineReleased.ownSettle.settle.dropInFlight.ok h 0x38 := doPairHandover_eq h hr
  obtain ⟨hout, hrole⟩ := lineReleased_shows (b := b)
  obtain ⟨hd, hon, hrd⟩ := handed_answers h b.lineReleased
  rw [heq]
  exact ⟨hd, hon.trans hout, hrd.trans hrole⟩

theorem doPairHandover_refused (hr : b.standbyReady = false) :
    b.doPairHandover h = (b.raise 0xC103 0 []).refuse h 0x38 0x0501 := by
  unfold Blk.doPairHandover
  rw [hr]
  rfl

end

/-- Settles O18: the transactions, the CAN controllers, the handover. -/
theorem transactionAndCanCommands : Obligations.TransactionAndCanCommands := by
  unfold Obligations.TransactionAndCanCommands
  refine ⟨fun s h hp hs h0 => yields_within rfl hp (doTxnBegin_opens h hs h0),
    fun s h hp hs h0 => yields_within rfl hp ?beginAgain,
    fun s h off val hp hs ho h4 hoff hl hptr => yields_within rfl hp ?write,
    fun s h off val hp hs ho h4 => yields_within rfl hp (doTxnWrite_bad h val.toNat hs ho h4),
    fun s h hp hs ho => yields_within rfl hp (doTxnCommit_validates h hs ho),
    fun s h hp hs ho => yields_within rfl hp (doTxnRollback_closes h hs ho),
    fun s h c op hp hs hc => ?standby,
    fun s h k buf flags dlc id data hp hb h1 h2 hc ho hf hd hid => yields_within rfl hp ?load,
    fun s h k buf flags dlc id data hp hb ht => yields_within rfl hp ?busy,
    fun s h k buf ofs cnt data hp hc hb ho hs h0 h48 hd => yields_within rfl hp ?stage,
    fun s h k buf won hp hb h1 hn => yields_within rfl hp (doCanCancel_withdraws h won hb h1 hn),
    fun s h k buf won hp hb h1 h2 => yields_within rfl hp ?idle,
    fun s h k buf won hp hb => yields_within rfl hp ?noBuffer,
    fun s h k hp hr hon hs ht => yields_within rfl hp ?sleep,
    fun s h k hp hr hc hst => yields_within rfl hp ?wake,
    fun s h k hp hr => yields_within rfl hp ?wakeRefused,
    fun s h hp hr => yields_within rfl hp (doPairHandover_hands h hr),
    fun s h hp hr => yields_within rfl hp ?handover⟩
  case beginAgain =>
    rw [doTxnBegin_refuses h hs h0]
    exact ⟨Blk.complete_decided _ _ _ _ _, rfl, rfl⟩
  case write =>
    rw [doTxnWrite_stages h val.toNat hs ho h4 hoff hl hptr]
    exact ⟨ok_decided _ _ _, txnWrite_shows h hl rfl⟩
  case standby =>
    obtain ⟨f, hexec, hf⟩ := txn_standby h hs hc
    refine yields_within hexec hp ?_
    rw [hf]
    exact ⟨refuse_decided _ _ _ _, rfl, rfl⟩
  case load =>
    rw [hf, doCanTx_loads h data hb h1 h2 hc ho hd hid]
    obtain ⟨htxb, hbuf⟩ := canLoaded_shows (b := s.blk) h (k := k) ⟨false, false, false, false, false, id.toNat, dlc.toNat,
      (data ++ List.replicate 64 0).take (dlcLen false dlc.toNat)⟩ false false hb
    refine ⟨ok_decided _ _ _, htxb, fun c x hc hx => ?_⟩
    obtain ⟨hfr, htag⟩ := hbuf c x hc hx
    rw [hfr]
    exact ⟨rfl, rfl, htag⟩
  case busy =>
    rw [doCanTx_busy h flags.toNat dlc.toNat id.toNat data hb ht]
    exact ⟨Blk.complete_decided _ _ _ _ _, rfl, rfl⟩
  case stage =>
    rw [doCanStage_stages h hc hb ho hs h0 h48 hd]
    exact ⟨ok_decided _ _ _, rfl, fun c c' x hc hc' hx => onTxb_at hc hc' hx⟩
  case idle =>
    rw [doCanCancel_idle h won hb h1 h2]
    exact ⟨refuse_decided _ _ _ _, rfl⟩
  case noBuffer =>
    rw [doCanCancel_noBuffer h won hb]
    exact ⟨refuse_decided _ _ _ _, rfl⟩
  case sleep =>
    rw [doCanSleep_asks h hr hon hs ht]
    refine ⟨ok_decided _ _ _, fun c hc => ?_⟩
    obtain ⟨c', -, rfl⟩ := onCan_at (b := s.blk) hc
    rfl
  case wake =>
    rw [doCanWake_wakes h hr hc hst]
    obtain ⟨hstate, hrep, -⟩ := canWakes_wakes (b := s.blk) k.val 3
    exact ⟨ok_decided _ _ _, hstate, hrep⟩
  case wakeRefused =>
    rw [doCanWake_refused h hr]
    exact ⟨refuse_decided _ _ _ _, rfl⟩
  case handover =>
    rw [doPairHandover_refused h hr]
    exact ⟨refuse_decided _ _ _ _, Blk.raise_self ..⟩

end Sys2Proof.Machine
end

section
/-! PROOFS. The STO outputs (R322, R324, R325, R328). -/

namespace Sys2Proof.Machine

section
variable {b : Blk} {k : Nat}

/-! The midpoint readback and the chain current. -/

theorem stoSense_sto (ma : Nat) (v : Bool) (hk : k < 4) : StoKept b (b.stoSense k ma v) :=
  ((stoKept_refl b).wr (f := R.HASP_STOSTAT_I k) hk rfl inWord_of (.inr (Nat.le_of_ble_eq_true rfl))
    (.inl (Nat.le_of_ble_eq_true rfl))).wr (f := R.HASP_STOSTAT_SNS k) hk rfl inWord_of (.inr (Nat.le_of_ble_eq_true rfl))
    (.inl (Nat.le_of_ble_eq_true rfl))

/-- What the readback leaves: every field apart from I and SNS, Hasp's state, the events. -/
theorem stoSense_beside (ma : Nat) (v : Bool) : (b.stoSense k ma v).stoState k = b.stoState k ∧
    (∀ g : Fld, g.off ≠ 0x10080 + 0x4 * k → (b.stoSense k ma v).rd g = b.rd g) ∧
    (b.stoSense k ma v).hasp = b.hasp ∧ (b.stoSense k ma v).evs = b.evs := by
  refine ⟨?_, fun g hg => ?_, (Blk.wr_hasp ..).trans (Blk.wr_hasp ..), (Blk.wr_evs ..).trans (Blk.wr_evs ..)⟩
  · exact (Blk.rd_wr_apart _ _ _ _ inWord_of apart_above).trans (Blk.rd_wr_apart _ _ _ _ inWord_of apart_above)
  · exact (Blk.rd_wr_off _ _ _ _ hg).trans (Blk.rd_wr_off _ _ _ _ hg)

/-! The faults of an output. -/

/-- OPENF and OCF. -/
def faultFld (k : Nat) (f : Fld) : Prop := f = R.HASP_STOSTAT_OPENF k ∨ f = R.HASP_STOSTAT_OCF k

theorem faultFld_latched {f : Fld} (hf : faultFld k f) : stoLatched k f ∧ f.inWord ∧ f.w = 1 ∧
    f.apart (R.HASP_STOSTAT_STATE k) := by
  obtain rfl | rfl := hf
  · exact ⟨.inl ⟨rfl, Nat.le_of_ble_eq_true rfl, Nat.le_of_ble_eq_true rfl⟩, inWord_of, rfl, apart_above⟩
  · exact ⟨.inl ⟨rfl, Nat.le_of_ble_eq_true rfl, Nat.le_of_ble_eq_true rfl⟩, inWord_of, rfl, apart_above⟩

theorem stoKept_on {c : Blk} {f : Fld} (h : StoKept b c) (hk : k < 4) (hf : stoLatched k f) : c.on f = b.on f := by
  rw [Blk.on, Blk.on, h.latched k hk f hf]

/-- FAULT, its flag and its event stand when Hasp has settled. -/
theorem settled_fault {f : Fld} (ev : Nat) (hk : k < 4) (hf : stoLatched k f) (h5 : b.stoState k = 5) (hon : b.on f = true) :
    (((b.onSto k fun s => { s with manual := true }).raise ev k []).settle).stoState k = 5 ∧
      (((b.onSto k fun s => { s with manual := true }).raise ev k []).settle).on f = true ∧
      Reported (((b.onSto k fun s => { s with manual := true }).raise ev k []).settle) ev k := by
  have hset : (b.onSto k fun s => { s with manual := true }).stoState k = 5 ∧
      (b.onSto k fun s => { s with manual := true }).on f = true := ⟨h5, hon⟩
  generalize (b.onSto k fun s => { s with manual := true }) = c at hset ⊢
  obtain ⟨c5, con⟩ := hset
  have hraise := (stoKept_refl c).raise ev k []
  have hrep := c.raise_self ev k []
  generalize c.raise ev k [] = d at hraise hrep ⊢
  have hkept := hraise.trans (settle_sto d)
  exact ⟨hkept.fault k hk c5, (stoKept_on hkept hk hf).trans con, (settle_front d).reports _ _ hrep⟩

/-- An output goes to FAULT: its state, its flag and its event, after Hasp has settled. -/
theorem stoFault_faults {f : Fld} (ev : Nat) (hk : k < 4) (hf : faultFld k f) : (b.stoFault k f ev).stoState k = 5 ∧
    (b.stoFault k f ev).on f = true ∧ Reported (b.stoFault k f ev) ev k := by
  obtain ⟨hlat, hin, hw, hap⟩ := faultFld_latched hf
  unfold Blk.stoFault
  dsimp only
  generalize (if b.stoState k = 3 ∨ b.stoState k = 4 then b.wr (R.HASP_STOSTAT_STATE k) 2 else b).openSto k = a
  have hst : (a.wr (R.HASP_STOSTAT_STATE k) 5).stoState k = 5 := Blk.rd_wr_self _ _ _ inWord_of
  generalize a.wr (R.HASP_STOSTAT_STATE k) 5 = c at hst ⊢
  have hflag : (c.flag f true).on f = true := Blk.on_flag_self _ _ _ hin hw
  have hst' : (c.flag f true).stoState k = 5 := (Blk.rd_wr_apart _ _ _ _ hin hap).trans hst
  generalize c.flag f true = d at hflag hst' ⊢
  exact settled_fault ev hk hlat hst' hflag

/-- A switch found open or a current limit (R322, R328): FAULT stays through what follows it. -/
theorem lossAfter_fault {f : Fld} {code : Nat} (cause : Nat) (hk : k < 4) (hf : stoLatched k f) (h5 : b.stoState k = 5)
    (hon : b.on f = true) (hrep : Reported b code k) :
    (if b.standbyReady = true then b.loss cause else b).stoState k = 5 ∧
      (if b.standbyReady = true then b.loss cause else b).on f = true ∧
      Reported (if b.standbyReady = true then b.loss cause else b) code k := by
  split_ifs
  · have hkept := loss_sto b cause
    exact ⟨hkept.fault k hk h5, (stoKept_on hkept hk hf).trans hon, (loss_front b cause).reports _ _ hrep⟩
  · exact ⟨h5, hon, hrep⟩

theorem stoOpenFault_faults (hk : k < 4) : (b.stoOpenFault k).stoState k = 5 ∧
    (b.stoOpenFault k).on (R.HASP_STOSTAT_OPENF k) = true ∧ Reported (b.stoOpenFault k) 0x9302 k := by
  obtain ⟨h5, hon, hrep⟩ := stoFault_faults (b := b) 0x9302 hk (.inl rfl)
  exact lossAfter_fault 6 hk (faultFld_latched (.inl rfl)).1 h5 hon hrep

/-- Rung 3 leaves the latched fields of the outputs, and every report. -/
theorem rung3_latched {f : Fld} (cls : Nat) (chs : List Nat) (hk : k < 4) (hf : stoLatched k f) :
    (b.rung3 cls chs).rd f = b.rd f := by
  unfold Blk.rung3
  split_ifs
  · exact (loss_sto b cls).latched k hk f hf
  · rfl

/-- A stuck switch: its flag, its event, and the counts of tests as they were. -/
theorem stoStuck_latches {f : Fld} (hk : k < 4) (hf : f = R.HASP_STOSTAT_HSF k ∨ f = R.HASP_STOSTAT_LSF k) :
    (b.stoStuck k f).on f = true ∧ Reported (b.stoStuck k f) 0x9301 k ∧
      (b.stoStuck k f).rd (R.HASP_TPCNT_FAIL k) = b.rd (R.HASP_TPCNT_FAIL k) := by
  have hfld : stoLatched k f ∧ f.inWord ∧ f.w = 1 ∧ f.off = 0x10080 + 0x4 * k := by
    obtain rfl | rfl := hf
    · exact ⟨.inl ⟨rfl, Nat.le_of_ble_eq_true rfl, Nat.le_of_ble_eq_true rfl⟩, inWord_of, rfl, rfl⟩
    · exact ⟨.inl ⟨rfl, Nat.le_of_ble_eq_true rfl, Nat.le_of_ble_eq_true rfl⟩, inWord_of, rfl, rfl⟩
  obtain ⟨hlat, hin, hw, hoff⟩ := hfld
  have hd : f.off ≠ R.HIF_EVDROP_COUNT.off := hoff ▸ ne_above
  have hdc : (R.HASP_TPCNT_FAIL k).off ≠ R.HIF_EVDROP_COUNT.off := ne_above
  have hfc : (R.HASP_TPCNT_FAIL k).off ≠ f.off := hoff ▸ ne_beside
  have hflag : (b.flag f true).on f = true := Blk.on_flag_self _ _ _ hin hw
  have hcnt : (b.flag f true).rd (R.HASP_TPCNT_FAIL k) = b.rd (R.HASP_TPCNT_FAIL k) := Blk.rd_wr_off _ _ _ _ hfc
  unfold Blk.stoStuck
  dsimp only
  generalize b.flag f true = c at hflag hcnt ⊢
  have hraise : (c.raise 0x9301 k []).on f = true := (Blk.raise_on _ _ _ _ _ hd).trans hflag
  have hrcnt := (Blk.raise_rd c 0x9301 k [] (R.HASP_TPCNT_FAIL k) hdc).trans hcnt
  have hrep := c.raise_self 0x9301 k []
  generalize c.raise 0x9301 k [] = d at hraise hrcnt hrep ⊢
  refine ⟨?_, (rung3_front d 6 _).reports _ _ hrep, ?_⟩
  · rw [Blk.on, rung3_latched 6 _ hk hlat]
    exact hraise
  · exact (rung3_latched 6 _ hk (.inr ⟨rfl, .inl (Nat.le_of_ble_eq_true rfl)⟩)).trans hrcnt

/-- An update of output k's switches. -/
theorem onSto_at {f : Sto → Sto} {x : Sto} (hx : (b.onSto k f).hasp.stos[k]? = some x) :
    ∃ y, b.hasp.stos[k]? = some y ∧ x = f y := by
  obtain ⟨y, hy, rfl⟩ := getElem?_modify_self (l := b.hasp.stos) hx
  exact ⟨y, hy, rfl⟩

theorem onSto_beside (f : Sto → Sto) : (∀ g, (b.onSto k f).rd g = b.rd g) ∧ (∀ g, (b.onSto k f).on g = b.on g) ∧
    (b.onSto k f).evs = b.evs := ⟨fun _ => rfl, fun _ => rfl, rfl⟩

/-! Closing (R322). -/

/-- The low side carries no current: the high side closes. -/
theorem doClosingLow_goesOn {ma : Nat} (hst : b.stoState k = 1) (hs : (b.sto k).hs = false) (hma : ma < 5) :
    (b.doClosingLow k ma false).stoState k = 1 ∧
      (∀ x, (b.doClosingLow k ma false).hasp.stos[k]? = some x → x.hs = true) ∧ (b.doClosingLow k ma false).evs = b.evs := by
  obtain ⟨hstate, -, -, hevs⟩ := stoSense_beside (b := b) (k := k) ma false
  unfold Blk.doClosingLow
  rw [if_pos ⟨hst, hs⟩]
  dsimp only
  rw [if_neg Bool.false_ne_true, if_neg (Nat.not_le.mpr hma)]
  obtain ⟨hrd, -, hkept⟩ := onSto_beside (b := b.stoSense k ma false) (k := k) fun s => { s with hs := true }
  refine ⟨(hrd _).trans (hstate.trans hst), fun x hx => ?_, hkept.trans hevs⟩
  obtain ⟨y, -, rfl⟩ := onSto_at hx
  rfl

theorem doClosingLow_stuck {ma : Nat} (hst : b.stoState k = 1) (hs : (b.sto k).hs = false) (hma : 5 ≤ ma) :
    b.doClosingLow k ma false = ((b.stoSense k ma false).onSto k fun s => { s with hs := true }).stoStuck k
      (R.HASP_STOSTAT_HSF k) := by
  unfold Blk.doClosingLow
  rw [if_pos ⟨hst, hs⟩]
  dsimp only
  rw [if_neg Bool.false_ne_true, if_pos hma]

theorem doClosingLow_open (ma : Nat) (hst : b.stoState k = 1) (hs : (b.sto k).hs = false) :
    b.doClosingLow k ma true = (b.stoSense k ma true).stoOpenFault k := by
  unfold Blk.doClosingLow
  rw [if_pos ⟨hst, hs⟩]
  dsimp only
  rw [if_pos rfl]

theorem doClosingHigh_open (ma : Nat) (hst : b.stoState k = 1) (hs : (b.sto k).hs = true) :
    b.doClosingHigh k ma true = (b.stoSense k ma true).stoOpenFault k := by
  unfold Blk.doClosingHigh
  rw [if_pos ⟨hst, hs⟩]
  dsimp only
  rw [if_pos rfl]

/-- CLOSED, with the flags of an earlier fault gone. -/
def Blk.stoClose (b : Blk) (k : Nat) : Blk :=
  (((b.wr (R.HASP_STOSTAT_STATE k) 2).flag (R.HASP_STOSTAT_OPENF k) false).flag (R.HASP_STOSTAT_OCF k) false).onSto k
    fun s => { s with manual := false }

theorem stoClose_clears : (b.stoClose k).on (R.HASP_STOSTAT_OPENF k) = false ∧ (b.stoClose k).on (R.HASP_STOSTAT_OCF k) = false ∧
    ∀ x, (b.stoClose k).hasp.stos[k]? = some x → x.manual = false := by
  unfold Blk.stoClose
  generalize b.wr (R.HASP_STOSTAT_STATE k) 2 = a
  have hopen : (a.flag (R.HASP_STOSTAT_OPENF k) false).on (R.HASP_STOSTAT_OPENF k) = false :=
    Blk.on_flag_self _ _ _ inWord_of rfl
  generalize a.flag (R.HASP_STOSTAT_OPENF k) false = c at hopen ⊢
  have hoc : (c.flag (R.HASP_STOSTAT_OCF k) false).on (R.HASP_STOSTAT_OCF k) = false := Blk.on_flag_self _ _ _ inWord_of rfl
  have hkept : (c.flag (R.HASP_STOSTAT_OCF k) false).on (R.HASP_STOSTAT_OPENF k) = false :=
    (Blk.on_wr_apart _ _ _ _ inWord_of apart_above).trans hopen
  generalize c.flag (R.HASP_STOSTAT_OCF k) false = d at hoc hkept ⊢
  obtain ⟨-, hon, -⟩ := onSto_beside (b := d) (k := k) fun s => { s with manual := false }
  refine ⟨(hon _).trans hkept, (hon _).trans hoc, fun x hx => ?_⟩
  obtain ⟨y, -, rfl⟩ := onSto_at hx
  rfl

theorem doClosingHigh_closes (ma : Nat) (hk : k < 4) (hst : b.stoState k = 1) (hs : (b.sto k).hs = true) :
    Reported (b.doClosingHigh k ma false) 0x9001 k ∧ (b.doClosingHigh k ma false).on (R.HASP_STOSTAT_OPENF k) = false ∧
      (b.doClosingHigh k ma false).on (R.HASP_STOSTAT_OCF k) = false ∧
      ∀ x, (b.doClosingHigh k ma false).hasp.stos[k]? = some x → x.manual = false := by
  have heq : b.doClosingHigh k ma false = (((b.stoSense k ma false).stoClose k).raise 0x9001 k []).settle := by
    unfold Blk.doClosingHigh Blk.stoClose
    rw [if_pos ⟨hst, hs⟩]
    dsimp only
    rw [if_neg Bool.false_ne_true]
  obtain ⟨hopen, hoc, hman⟩ := stoClose_clears (b := b.stoSense k ma false) (k := k)
  rw [heq]
  generalize (b.stoSense k ma false).stoClose k = c at hopen hoc hman ⊢
  have hraise := (stoKept_refl c).raise 0x9001 k []
  have hrep := c.raise_self 0x9001 k []
  generalize c.raise 0x9001 k [] = d at hraise hrep ⊢
  have hkept := hraise.trans (settle_sto d)
  refine ⟨(settle_front d).reports _ _ hrep, (stoKept_on hkept hk (faultFld_latched (.inl rfl)).1).trans hopen,
    (stoKept_on hkept hk (faultFld_latched (.inr rfl)).1).trans hoc, fun x hx => ?_⟩
  obtain ⟨y, hy, hm, -, -⟩ := hkept.stos k x hx
  exact hm.trans (hman y hy)

/-! The test of a closed output (R325). -/

theorem doTestSlot_opens (hst : b.stoState k = 2) (hd : b.slotDue k = true) :
    (b.doTestSlot k).stoState k = (if (b.sto k).testHs then 3 else 4) ∧
      ∀ x, (b.doTestSlot k).hasp.stos[k]? = some x → (if (b.sto k).testHs then x.hs else x.ls) = false := by
  have hwr : ∀ v, v < 8 → (b.wr (R.HASP_STOSTAT_STATE k) v).stoState k = v := fun v hv =>
    (Blk.rd_wr_self _ _ _ inWord_of).trans (Nat.mod_eq_of_lt hv)
  unfold Blk.doTestSlot
  rw [if_pos ⟨hst, hd⟩]
  dsimp only
  generalize (b.sto k).testHs = v
  have hshown := hwr (if v = true then 3 else 4) (by cases v <;> decide)
  generalize b.wr (R.HASP_STOSTAT_STATE k) (if v = true then 3 else 4) = c at hshown ⊢
  obtain ⟨hrd, -, -⟩ := onSto_beside (b := c) (k := k) fun s =>
    if v = true then { s with hs := false, tested := true } else { s with ls := false, tested := true }
  refine ⟨(hrd _).trans hshown, fun x hx => ?_⟩
  obtain ⟨y, -, rfl⟩ := onSto_at hx
  cases v <;> rfl

/-- The switches closed again after a test, the next test for the other side. -/
def Blk.testOver (b : Blk) (k ma : Nat) : Blk :=
  ((b.stoSense k ma false).wr (R.HASP_STOSTAT_STATE k) 2).onSto k fun s =>
    { s with hs := true, ls := true, testHs := !(b.stoState k == 3) }

theorem testOver_shows (ma : Nat) : (b.testOver k ma).stoState k = 2 ∧ (b.testOver k ma).evs = b.evs ∧
    (∀ g : Fld, g.off ≠ 0x10080 + 0x4 * k → (b.testOver k ma).rd g = b.rd g) ∧
    ∀ x, (b.testOver k ma).hasp.stos[k]? = some x → x.hs = true ∧ x.ls = true ∧ x.testHs = decide (b.stoState k ≠ 3) := by
  obtain ⟨-, hrd, -, hevs⟩ := stoSense_beside (b := b) (k := k) ma false
  unfold Blk.testOver
  generalize b.stoSense k ma false = c at hrd hevs ⊢
  have hst : (c.wr (R.HASP_STOSTAT_STATE k) 2).stoState k = 2 := Blk.rd_wr_self _ _ _ inWord_of
  have hwr : ∀ g : Fld, g.off ≠ 0x10080 + 0x4 * k → (c.wr (R.HASP_STOSTAT_STATE k) 2).rd g = b.rd g := fun g hg =>
    (Blk.rd_wr_off _ _ _ _ hg).trans (hrd g hg)
  have hwevs : (c.wr (R.HASP_STOSTAT_STATE k) 2).evs = b.evs := (Blk.wr_evs ..).trans hevs
  generalize c.wr (R.HASP_STOSTAT_STATE k) 2 = d at hst hwr hwevs ⊢
  obtain ⟨krd, -, kevs⟩ := onSto_beside (b := d) (k := k) fun s =>
    { s with hs := true, ls := true, testHs := !(b.stoState k == 3) }
  refine ⟨(krd _).trans hst, kevs.trans hwevs, fun g hg => (krd g).trans (hwr g hg), fun x hx => ?_⟩
  obtain ⟨y, -, rfl⟩ := onSto_at hx
  refine ⟨rfl, rfl, ?_⟩
  show (!(b.stoState k == 3)) = decide (b.stoState k ≠ 3)
  rw [decide_not, beq_eq_decide]

/-- What the counting of a test leaves: the partner is there or not as before. -/
theorem testOver_paired (ma : Nat) (f : Fld) (hk : k < 4) (hf : f.off ≠ R.MIR_STAT_PID.off) : ((b.testOver k ma).inc f).paired = b.paired := by
  obtain ⟨-, -, hrd, -⟩ := testOver_shows (b := b) (k := k) ma
  unfold Blk.paired
  have hpid : R.MIR_STAT_PID.off ≠ 0x10080 + 0x4 * k := by
    exact Nat.ne_of_gt (lt_of_lt_of_le (stoStat_below hk 0) (by decide))
  rw [Blk.rd_inc_off _ _ _ hf.symm, hrd _ hpid]

theorem doTestEnd_passes {ma : Nat} (during hsPin : Bool) (hk : k < 4) (hma : ma < 5)
    (hpair : b.stoState k = 3 → hsPin = true → b.paired = false)
    (hst : b.stoState k = 4 ∨ (b.stoState k = 3 ∧ during = false)) :
    b.doTestEnd k ma during true false hsPin = (b.testOver k ma).inc (R.HASP_TPCNT_PASS k) := by
  have hgo : (b.stoState k == 3 || b.stoState k == 4) = true := by
    obtain h | ⟨h, -⟩ := hst <;> rw [h] <;> decide
  have hstuck : ¬ (decide (5 ≤ ma) || (!(b.stoState k == 3) && !true && !b.paired)) = true := by
    simp only [decide_eq_false (Nat.not_le.mpr hma), Bool.not_true, Bool.and_false, Bool.false_and, Bool.or_false]
    exact Bool.false_ne_true
  have hbad : ¬ (decide (5 ≤ ma) || (!(b.stoState k == 3) && !true && !b.paired) || false ||
      (b.stoState k == 3 && during)) = true := by
    rw [Bool.eq_false_of_not_eq_true hstuck]
    obtain h | ⟨h, hd⟩ := hst
    · rw [h]
      exact Bool.false_ne_true
    · rw [hd, Bool.and_false]
      exact Bool.false_ne_true
  have hpin : ∀ c : Blk, c.paired = b.paired → ¬ (b.stoState k == 3 && hsPin && c.paired) = true := by
    intro c hc h
    simp only [Bool.and_eq_true, beq_iff_eq] at h
    exact Bool.false_ne_true ((hpair h.1.1 h.1.2).symm.trans (hc.symm.trans h.2))
  unfold Blk.doTestEnd
  dsimp only
  rw [if_pos hgo, if_neg hbad, if_neg hstuck]
  rw [if_neg (fun h => Bool.false_ne_true h.1)]
  exact if_neg (hpin _ (testOver_paired ma _ hk (Nat.ne_of_lt ((by decide : ∀ k < 4, 0x100A0 + 0x4 * k < 0x13008) k hk))))

/-- A test of a switch that carries current while it is open: the failed test is counted and the switch is found stuck. -/
theorem doTestEnd_stuck {ma : Nat} (during ende hsPin : Bool) (hma : 5 ≤ ma) (hst : b.stoState k = 3 ∨ b.stoState k = 4) :
    ∃ pin : Bool, b.doTestEnd k ma during ende false hsPin =
      (if pin = true then ((b.testOver k ma).inc (R.HASP_TPCNT_FAIL k)).raise 0xC110 k []
        else (b.testOver k ma).inc (R.HASP_TPCNT_FAIL k)).stoStuck k
        (if b.stoState k = 3 then R.HASP_STOSTAT_HSF k else R.HASP_STOSTAT_LSF k) := by
  have hgo : (b.stoState k == 3 || b.stoState k == 4) = true := by
    obtain h | h := hst <;> rw [h] <;> decide
  have hstuck : ∀ c, (decide (5 ≤ ma) || c) = true := fun c => by rw [decide_eq_true hma, Bool.true_or]
  have hfld : (if (b.stoState k == 3) = true then R.HASP_STOSTAT_HSF k else R.HASP_STOSTAT_LSF k) =
      if b.stoState k = 3 then R.HASP_STOSTAT_HSF k else R.HASP_STOSTAT_LSF k := by
    simp only [beq_iff_eq]
  refine ⟨b.stoState k == 3 && hsPin && ((b.testOver k ma).inc (R.HASP_TPCNT_FAIL k)).paired, ?_⟩
  unfold Blk.doTestEnd
  dsimp only
  rw [if_pos hgo, hstuck, Bool.true_or, Bool.true_or, if_pos rfl, if_pos rfl, if_neg (fun h => Bool.false_ne_true h.1), hfld]
  rfl

/-- The high side or the low side is found stuck: its flag, its count, its event. -/
theorem failed_stuck (pin : Bool) (hk : k < 4) {f : Fld} (hf : f = R.HASP_STOSTAT_HSF k ∨ f = R.HASP_STOSTAT_LSF k) :
    ((if pin = true then (b.inc (R.HASP_TPCNT_FAIL k)).raise 0xC110 k [] else b.inc (R.HASP_TPCNT_FAIL k)).stoStuck k f).on f
        = true ∧
      ((if pin = true then (b.inc (R.HASP_TPCNT_FAIL k)).raise 0xC110 k [] else b.inc (R.HASP_TPCNT_FAIL k)).stoStuck k f).rd
        (R.HASP_TPCNT_FAIL k) = min (b.rd (R.HASP_TPCNT_FAIL k) + 1) (R.HASP_TPCNT_FAIL k).top ∧
      Reported ((if pin = true then (b.inc (R.HASP_TPCNT_FAIL k)).raise 0xC110 k [] else
        b.inc (R.HASP_TPCNT_FAIL k)).stoStuck k f) 0x9301 k := by
  have hd : (R.HASP_TPCNT_FAIL k).off ≠ R.HIF_EVDROP_COUNT.off := ne_above
  have hcnt := Blk.rd_inc_self b (R.HASP_TPCNT_FAIL k) inWord_of
  generalize b.inc (R.HASP_TPCNT_FAIL k) = c at hcnt ⊢
  have hkept : (if pin = true then c.raise 0xC110 k [] else c).rd (R.HASP_TPCNT_FAIL k) = c.rd (R.HASP_TPCNT_FAIL k) := by
    split_ifs
    · exact Blk.raise_rd _ _ _ _ _ hd
    · rfl
  generalize (if pin = true then c.raise 0xC110 k [] else c) = d at hkept ⊢
  obtain ⟨hon, hrep, hfail⟩ := stoStuck_latches (b := d) hk hf
  exact ⟨hon, hfail.trans (hkept.trans hcnt), hrep⟩

theorem doTestEnd_fails {ma : Nat} (during ende hsPin : Bool) (hk : k < 4) (hma : 5 ≤ ma)
    (hst : b.stoState k = 3 ∨ b.stoState k = 4) :
    (b.doTestEnd k ma during ende false hsPin).on
        (if b.stoState k = 3 then R.HASP_STOSTAT_HSF k else R.HASP_STOSTAT_LSF k) = true ∧
      (b.doTestEnd k ma during ende false hsPin).rd (R.HASP_TPCNT_FAIL k) =
        min (b.rd (R.HASP_TPCNT_FAIL k) + 1) (R.HASP_TPCNT_FAIL k).top ∧
      Reported (b.doTestEnd k ma during ende false hsPin) 0x9301 k := by
  obtain ⟨pin, heq⟩ := doTestEnd_stuck during ende hsPin hma hst
  obtain ⟨-, -, hrd, -⟩ := testOver_shows (b := b) (k := k) ma
  have hcnt := hrd (R.HASP_TPCNT_FAIL k) (ne_beside)
  rw [heq, ← hcnt]
  generalize b.testOver k ma = c
  have hfld : (if b.stoState k = 3 then R.HASP_STOSTAT_HSF k else R.HASP_STOSTAT_LSF k) = R.HASP_STOSTAT_HSF k ∨
      (if b.stoState k = 3 then R.HASP_STOSTAT_HSF k else R.HASP_STOSTAT_LSF k) = R.HASP_STOSTAT_LSF k := by
    split_ifs
    · exact .inl rfl
    · exact .inr rfl
  exact failed_stuck pin hk hfld

theorem doTestEnd_counts {ma : Nat} (during hsPin : Bool) (hk : k < 4) (hma : ma < 5)
    (hpair : b.stoState k = 3 → hsPin = true → b.paired = false)
    (hst : b.stoState k = 4 ∨ (b.stoState k = 3 ∧ during = false)) :
    (b.doTestEnd k ma during true false hsPin).stoState k = 2 ∧
      (b.doTestEnd k ma during true false hsPin).rd (R.HASP_TPCNT_PASS k) =
        min (b.rd (R.HASP_TPCNT_PASS k) + 1) (R.HASP_TPCNT_PASS k).top ∧
      (∀ x, (b.doTestEnd k ma during true false hsPin).hasp.stos[k]? = some x →
        x.hs = true ∧ x.ls = true ∧ x.testHs = decide (b.stoState k ≠ 3)) ∧
      (b.doTestEnd k ma during true false hsPin).evs = b.evs := by
  obtain ⟨h2, hevs, hrd, hsw⟩ := testOver_shows (b := b) (k := k) ma
  rw [doTestEnd_passes during hsPin hk hma hpair hst, ← hrd (R.HASP_TPCNT_PASS k) (ne_beside),
    ← hevs]
  generalize b.testOver k ma = c at h2 hsw ⊢
  refine ⟨?_, Blk.rd_inc_self _ _ inWord_of, fun x hx => hsw x (by rwa [← Blk.inc_hasp c (R.HASP_TPCNT_PASS k)]), Blk.inc_evs ..⟩
  exact (Blk.rd_inc_off _ _ _ (ne_beside)).trans h2

end

/-- Settles O9: the checks of a closing and of a test, and the faults they find. -/
theorem stoOutput : Obligations.StoOutput := by
  refine ⟨fun s k ma hp hst hs hma => yields_within rfl hp (doClosingLow_goesOn hst hs hma), fun s k ma hp hst hs hma => ?_,
    fun s k ma hp hst hs => ?_, fun s k ma hp hst hs => yields_within rfl hp (doClosingHigh_closes ma k.isLt hst hs),
    fun s k ma hp hst hs => ?_, fun s k hp hst hd => yields_within rfl hp (doTestSlot_opens hst hd),
    fun s k ma during hsPin hp hma hpair hst => yields_within rfl hp (doTestEnd_counts during hsPin k.isLt hma hpair hst),
    fun s k ma during ende hsPin hp hma hst => yields_within rfl hp (doTestEnd_fails during ende hsPin k.isLt hma hst),
    fun s k hp hst => ?_⟩
  · refine yields_within rfl hp ?_
    rw [doClosingLow_stuck hst hs hma]
    obtain ⟨hon, hrep, -⟩ := stoStuck_latches (b := (s.blk.stoSense k ma false).onSto k fun s => { s with hs := true })
      k.isLt (.inl rfl)
    exact ⟨hon, hrep⟩
  · refine yields_within rfl hp ?_
    rw [doClosingLow_open ma hst hs]
    exact stoOpenFault_faults k.isLt
  · refine yields_within rfl hp ?_
    rw [doClosingHigh_open ma hst hs]
    obtain ⟨h5, -, hrep⟩ := stoOpenFault_faults (b := s.blk.stoSense k ma true) k.isLt
    exact ⟨h5, hrep⟩
  · refine yields_within rfl hp ?_
    unfold Blk.doCurrentLimit
    rw [if_neg hst]
    exact stoFault_faults 0x9303 k.isLt (.inr rfl)

end Sys2Proof.Machine
end

section
/-! PROOFS. The stop that a safe reaction or an SS1 demand starts (R332, R336), and the safe inputs (R330, R331). -/

namespace Sys2Proof.Machine

section
variable (b : Blk)

/-! What the start of a stop leaves. -/

@[simp] theorem Blk.supersede_far (i : Instr) : (b.supersede i).far = b.far := by
  unfold Blk.supersede
  split
  · simp
  · split
    · exact Blk.onHost_far _ _
    · rfl

@[simp] theorem Blk.supersedeAt_far (p : Instr → Bool) : (b.supersedeAt p).far = b.far :=
  foldl_far b _ _ fun b i => Blk.supersede_far b i

@[simp] theorem Blk.stopAxis_far (a : Nat) : (b.stopAxis a).far = b.far := by simp [Blk.stopAxis]
@[simp] theorem Blk.stopReq_far (n : Nat) : (b.stopReq n).far = b.far := by simp [Blk.stopReq]

/-- The stop of one channel, once the commands it undoes are superseded and Hasp has noted it. -/
def Blk.stopUnit (b : Blk) (c : Nat) : Blk :=
  if c < 8 then
    if (b.hch c).shed ∨ (b.chan c).degraded then b.stopReq c
    else if b.sstate c = 6 then b.onDrv c fun d => { d with rampStop := true }
    else b.stopReq c
  else
    if (b.stpState (c - 8) = 1 ∨ b.stpState (c - 8) = 2) ∧ ((b.hch c).shed = true ∨ (b.chan c).degraded = true) then
      b.onStp (c - 8) fun s => { s with homing := 0, homeDue := false, offReq := true }
    else if b.stpState (c - 8) = 1 ∨ b.stpState (c - 8) = 2 then
      if (decide ((b.axis c).v ≠ 0) || (b.axis c).cur.isSome) = true then
        (b.stopAxis c).onStp (c - 8) fun s => { s with homing := 0, homeDue := false, deEn := true }
      else ((b.stopAxis c).onStp (c - 8) fun s => { s with homing := 0, homeDue := false, deEn := true }).onStp (c - 8)
        fun s => { s with offReq := true }
    else b

theorem startStop_stops (c : Nat) (m : Option Nat) :
    b.startStop c m = b ∨ ∃ p f, b.startStop c m = ((b.supersedeAt p).onHch c f).stopUnit c := by
  unfold Blk.startStop
  by_cases h : b.configured c = false ∨ (b.hch c).gone = true
  · exact .inl (if_pos h)
  · rw [if_neg h]
    exact .inr ⟨_, _, rfl⟩

@[simp] theorem Blk.stopUnit_far (c : Nat) : (b.stopUnit c).far = b.far := by
  unfold Blk.stopUnit
  split_ifs <;> simp

/-- Of Hasp's state a stop changes the state of its own channel alone. -/
theorem startStop_hasp (c : Nat) (m : Option Nat) :
    (b.startStop c m).hasp = b.hasp ∨ ∃ f, (b.startStop c m).hasp = { b.hasp with chs := b.hasp.chs.modify c f } := by
  obtain h | ⟨p, f, h⟩ := startStop_stops b c m
  · exact .inl (by rw [h])
  · refine .inr ⟨f, ?_⟩
    rw [h, hasp_of_far (Blk.stopUnit_far ..)]
    exact congrArg (fun h : Hasp => { h with chs := h.chs.modify c f }) (hasp_of_far (b.supersedeAt_far p))

theorem supersede_same (T : Nat → Prop) (i : Instr) : SameBut b (b.supersede i) T := by
  unfold Blk.supersede
  split
  · exact same_ite (fun _ => same_onTun (same_complete (same_refl b _) _ _ _ _) _ _) fun _ => same_refl b _
  · split
    · exact same_onHost (same_refl b _) _
    · exact same_refl b _

theorem supersedeAt_same (T : Nat → Prop) (p : Instr → Bool) : SameBut b (b.supersedeAt p) T :=
  same_foldl _ _ (fun b i _ => supersede_same b T i) b

theorem stopUnit_same {c : Nat} (hc : c < 16) : SameBut b (b.stopUnit c) (· < 0x10000) := by
  have hreq : SameBut b (b.stopReq c) (· < 0x10000) :=
    same_onDrv (same_onSeq (same_wr (same_refl b _) (R.Dn_SSTAT_SSTATE c) 0 ((by decide : ∀ c < 16, 0x8220 + 0x400 * c < 0x10000) c hc)) _ _) _ _
  have haxis : SameBut b (b.stopAxis c) (· < 0x10000) := same_mono (stopAxis_same b c) fun x hx =>
    lt_of_lt_of_le hx.2 ((by decide : ∀ c < 16, 0xD440 + 0x40 * c ≤ 0x10000) c hc)
  refine same_ite (fun _ => ?_) fun _ => ?_
  · exact same_ite (fun _ => hreq) fun _ => same_ite (fun _ => same_onDrv (same_refl _ _) _ _) fun _ => hreq
  · refine same_ite (fun _ => same_onStp (same_refl _ _) _ _) fun _ => same_ite (fun _ => ?_) fun _ => same_refl _ _
    exact same_ite (fun _ => same_onStp haxis _ _) fun _ => same_onStp (same_onStp haxis _ _) _ _

/-- A stop writes words of its drive or its axis. -/
theorem startStop_same {c : Nat} (hc : c < 16) (m : Option Nat) : SameBut b (b.startStop c m) (· < 0x10000) := by
  obtain h | ⟨p, f, h⟩ := startStop_stops b c m
  · rw [h]
    exact same_refl b _
  · rw [h]
    exact same_trans (same_onHch (supersedeAt_same b _ p) c f) (stopUnit_same _ hc)

theorem supersede_front (i : Instr) : FrontKept b (b.supersede i) := by
  unfold Blk.supersede
  split
  · exact .ite (fun _ => (front_refl b).complete.onTun) fun _ => front_refl b
  · split
    · exact (front_refl b).onHost
    · exact front_refl b

theorem supersedeAt_front (p : Instr → Bool) : FrontKept b (b.supersedeAt p) :=
  FrontKept.foldl (fun i _ b => supersede_front b i) b

theorem stopAxis_front (a : Nat) : FrontKept b (b.stopAxis a) := by
  have hnoted : ∀ f, FrontKept b (b.onAxis a f) := fun f => (front_refl b).onAxis
  refine .ite (fun _ => hnoted _) fun _ => ?_
  exact FrontKept.trans (FrontKept.onAxis (FrontKept.trans (hnoted _) (suspendMove_front _ a))) (showAxis_front _ a)

theorem stopUnit_front (c : Nat) : FrontKept b (b.stopUnit c) := by
  have hreq : FrontKept b (b.stopReq c) := ((front_refl b).wr besideFront_at).onSeq.onDrv
  refine .ite (fun _ => ?_) fun _ => ?_
  · exact .ite (fun _ => hreq) fun _ => .ite (fun _ => (front_refl _).onDrv) fun _ => hreq
  · refine .ite (fun _ => (front_refl _).onStp) fun _ => .ite (fun _ => ?_) fun _ => front_refl _
    exact .ite (fun _ => (stopAxis_front b c).onStp) fun _ => (stopAxis_front b c).onStp.onStp

theorem startStop_front (c : Nat) (m : Option Nat) : FrontKept b (b.startStop c m) := by
  obtain h | ⟨p, f, h⟩ := startStop_stops b c m
  · rw [h]
    exact front_refl b
  · rw [h]
    exact FrontKept.trans (supersedeAt_front b p).onHch (stopUnit_front _ c)

/-- An SS1 demand writes its output's word and the words of the stops. -/
theorem startSs1_same (i k : Nat) : SameBut b (b.startSs1 i k) fun x => x < 0x10000 ∨ x = (R.HASP_STOSTAT_SS1 k).off := by
  have hset : ∀ f, SameBut b ((b.flag (R.HASP_STOSTAT_SS1 k) true).onSto k f) fun x =>
      x < 0x10000 ∨ x = (R.HASP_STOSTAT_SS1 k).off := fun f =>
    same_onSto (same_flag (same_refl b _) (R.HASP_STOSTAT_SS1 k) true (.inr rfl)) k f
  refine same_ite (fun _ => ?_) fun _ => same_refl b _
  refine same_trans (hset _) (same_eachOf _ _ (fun c hc b => same_mono (startStop_same b ?_ none) fun _ => .inl) _)
  exact List.mem_range.mp (List.mem_filter.mp hc).1

end

/-! The levels and the demand of an input. -/

section
variable {b : Blk} {i : Nat}

/-- A field of HASP_SDISTAT stays while Hasp settles. -/
theorem settle_sdi {g : Fld} (hg : g.off = 0x10090) : b.settle.on g = b.on g := by
  exact same_on (settle_same b) g (hg ▸ (by decide : ¬ settleWords 0x10090))

/-- The levels of an input, and its other two bits as before. -/
theorem sdiLevels_shows (hi : i < 8) (x y : Bool) :
    (b.sdiLevels i x y).on (bitOf R.HASP_SDISTAT_ST (4 * i)) = x ∧
      (b.sdiLevels i x y).on (bitOf R.HASP_SDISTAT_ST (4 * i + 1)) = y ∧
      (b.sdiLevels i x y).on (sdiDiscf i) = b.on (sdiDiscf i) ∧
      ∀ g : Fld, g.off ≠ 0x10090 → (b.sdiLevels i x y).on g = b.on g := by
  have hin : ∀ j < 2, (bitOf R.HASP_SDISTAT_ST (4 * i + j)).inWord := fun j hj =>
    (by decide : ∀ i < 8, ∀ j < 2, 0 + (4 * i + j) + 1 ≤ 32) i hi j hj
  have hoff : ∀ j, (bitOf R.HASP_SDISTAT_ST j).off = 0x10090 := fun _ => rfl
  have h0 := hin 0 (by decide)
  have h1 := hin 1 (by decide)
  unfold Blk.sdiLevels
  have hx := Blk.on_flag_self b _ x h0 rfl
  refine ⟨(Blk.on_wr_apart _ _ _ _ h1 ?_).trans hx, Blk.on_flag_self _ _ _ h1 rfl,
    (Blk.on_wr_apart _ _ _ _ h1 ?_).trans (Blk.on_wr_apart _ _ _ _ h0 ?_), fun g hg => ?_⟩
  · exact .inr le_rfl
  · exact .inl ((by decide : ∀ i < 8, 0 + (4 * i + 1) + 1 ≤ 4 * i + 3) i hi)
  · exact .inl ((by decide : ∀ i < 8, 0 + 4 * i + 1 ≤ 4 * i + 3) i hi)
  · exact (congrArg (· != 0) (Blk.rd_wr_off _ _ _ _ hg)).trans (congrArg (· != 0) (Blk.rd_wr_off _ _ _ _ hg))

theorem sdiDem_inWord (hi : i < 8) : (sdiDem i).inWord := (by decide : ∀ i < 8, 4 * i + 2 + 1 ≤ 32) i hi

theorem sdiDiscf_inWord (hi : i < 8) : (sdiDiscf i).inWord := (by decide : ∀ i < 8, 4 * i + 3 + 1 ≤ 32) i hi

/-- HASP_SDICFG lies below the status words. -/
theorem sdiCfg_below (hi : i < 8) : 0x10020 + 0x4 * i < 0x10080 := (by decide : ∀ i < 8, 0x10020 + 0x4 * i < 0x10080) i hi

/-- Any start of SS1 and the settling after it leave HASP_SDISTAT. -/
theorem ss1Start_sdi {c : Blk} {p : Prop} [Decidable p] {g : Fld} (hg : g.off = 0x10090) (l : List Nat) (hl : ∀ k ∈ l, k < 4) :
    (if p then c.eachOf l (fun k b => b.startSs1 i k) else c).settle.on g = c.on g := by
  rw [settle_sdi hg]
  split_ifs
  · refine same_on (T := fun x => x < 0x10000 ∨ (0x10080 ≤ x ∧ x < 0x10090)) (same_eachOf l _ (fun k hk b =>
      same_mono (startSs1_same b i k) fun x hx => ?_) c) g ?_
    · obtain hx | rfl := hx
      · exact .inl hx
      · exact .inr ((by decide : ∀ k < 4, 0x10080 ≤ 0x10080 + 0x4 * k ∧ 0x10080 + 0x4 * k < 0x10090) k (hl k hk))
    · rw [hg]
      decide
  · rfl

theorem sdiOuts_lt {k : Nat} (hk : k ∈ b.sdiOuts i) : k < 4 := List.mem_range.mp (List.mem_filter.mp hk).1

/-- R330: a channel of an input leaves its healthy level. -/
theorem doSdiDemand_demands {x y : Bool} (hi : i < 8) (hp : b.powered .safe = true) (he : b.on (R.HASP_SDICFG_EN i) = true)
    (hr : b.on (R.HASP_SDICFG_RSTIN i) = false) (hh : b.sdiHealthy i x y = false) :
    (b.doSdiDemand i x y).on (sdiDem i) = true ∧ (b.doSdiDemand i x y).on (bitOf R.HASP_SDISTAT_ST (4 * i)) = x ∧
      (b.doSdiDemand i x y).on (bitOf R.HASP_SDISTAT_ST (4 * i + 1)) = y := by
  obtain ⟨hx, hy, -, hrest⟩ := sdiLevels_shows (b := b) hi x y
  have hcfg : ∀ g : Fld, g.off < 0x10080 → (b.sdiLevels i x y).on g = b.on g := fun g hg => hrest g (Nat.ne_of_lt (lt_trans hg (by decide)))
  have hlow : (R.HASP_SDICFG_RSTIN i).off < 0x10080 ∧ (R.HASP_SDICFG_ANTIV i).off < 0x10080 :=
    ⟨sdiCfg_below hi, sdiCfg_below hi⟩
  unfold Blk.doSdiDemand
  rw [if_neg (by rw [hp, he]; decide)]
  dsimp only
  rw [if_neg (by rw [hcfg _ hlow.1, hr]; decide), if_neg (by
    unfold Blk.sdiHealthy at hh ⊢
    rw [hcfg _ hlow.2, hh]
    decide)]
  generalize b.sdiLevels i x y = c at hx hy ⊢
  have hd : (c.flag (sdiDem i) true).on (sdiDem i) = true := Blk.on_flag_self _ _ _ (sdiDem_inWord hi) rfl
  have hkx : (c.flag (sdiDem i) true).on (bitOf R.HASP_SDISTAT_ST (4 * i)) = x :=
    (Blk.on_wr_apart _ _ _ _ (sdiDem_inWord hi) (.inr ((by decide : ∀ i < 8, 0 + 4 * i + 1 ≤ 4 * i + 2) i hi))).trans hx
  have hky : (c.flag (sdiDem i) true).on (bitOf R.HASP_SDISTAT_ST (4 * i + 1)) = y :=
    (Blk.on_wr_apart _ _ _ _ (sdiDem_inWord hi) (.inr ((by decide : ∀ i < 8, 0 + (4 * i + 1) + 1 ≤ 4 * i + 2) i hi))).trans hy
  have hnoted : ∀ (d : Blk) (f : Hasp → Hasp) (g : Fld), (d.onHasp f).on g = d.on g := fun _ _ _ => rfl
  generalize c.flag (sdiDem i) true = d at hd hkx hky ⊢
  refine ⟨?_, ?_, ?_⟩
  · rw [ss1Start_sdi (g := sdiDem i) rfl _ fun k => sdiOuts_lt, hnoted, hd]
  · rw [ss1Start_sdi (g := bitOf R.HASP_SDISTAT_ST (4 * i)) rfl _ fun k => sdiOuts_lt, hnoted, hkx]
  · rw [ss1Start_sdi (g := bitOf R.HASP_SDISTAT_ST (4 * i + 1)) rfl _ fun k => sdiOuts_lt, hnoted, hky]

/-- R330: both channels are healthy again. -/
theorem doSdiHealthy_ends (within : Bool) (hi : i < 8) (hp : b.powered .safe = true) (he : b.on (R.HASP_SDICFG_EN i) = true)
    (hr : b.on (R.HASP_SDICFG_RSTIN i) = false) (hd : b.on (sdiDiscf i) = false) :
    (b.doSdiHealthy i within).on (sdiDem i) = false ∧ (b.doSdiHealthy i within).on (sdiDiscf i) = false := by
  obtain ⟨-, -, hdisc, hrest⟩ := sdiLevels_shows (b := b) hi true (!b.on (R.HASP_SDICFG_ANTIV i))
  unfold Blk.doSdiHealthy
  rw [if_neg (by rw [hp, he]; decide)]
  dsimp only
  rw [if_neg (by rw [hrest _ (Nat.ne_of_lt (lt_trans (sdiCfg_below hi) (by decide))), hr]; decide),
    if_neg (by rw [hdisc, hd, Bool.false_and]; decide), settle_sdi (g := sdiDem i) rfl, settle_sdi (g := sdiDiscf i) rfl]
  generalize b.sdiLevels i true (!b.on (R.HASP_SDICFG_ANTIV i)) = c
  have hdem : (c.flag (sdiDem i) false).on (sdiDem i) = false := Blk.on_flag_self _ _ _ (sdiDem_inWord hi) rfl
  generalize c.flag (sdiDem i) false = d at hdem ⊢
  have hflag : (d.flag (sdiDiscf i) false).on (sdiDiscf i) = false := Blk.on_flag_self _ _ _ (sdiDiscf_inWord hi) rfl
  have hkept : (d.flag (sdiDiscf i) false).on (sdiDem i) = false :=
    (Blk.on_wr_apart _ _ _ _ (sdiDiscf_inWord hi) (.inr le_rfl)).trans hdem
  have hnoted : ∀ (d : Blk) (f : Hasp → Hasp) (g : Fld), (d.onHasp f).on g = d.on g := fun _ _ _ => rfl
  generalize d.flag (sdiDiscf i) false = e at hflag hkept ⊢
  exact ⟨(hnoted ..).trans hkept, (hnoted ..).trans hflag⟩

/-- MANUAL for the outputs of a list. -/
theorem eachManual_sets (l : List Nat) (c : Blk) : SameBut c (c.eachOf l fun k b => b.onSto k fun s => { s with manual := true })
      (fun _ => False) ∧
    ∀ k ∈ l, ∀ x, (c.eachOf l fun k b => b.onSto k fun s => { s with manual := true }).hasp.stos[k]? = some x →
      x.manual = true := by
  refine ⟨same_eachOf l _ (fun k _ b => same_onSto (same_refl b _) k _) c, fun k hk => ?_⟩
  · refine eachOf_reaches (P := fun b => ∀ x, b.hasp.stos[k]? = some x → x.manual = true) hk (fun b x hx => ?_)
      (fun j _ b hb x hx => ?_) c
    · obtain ⟨y, -, rfl⟩ := onSto_at hx
      rfl
    · replace hx : (b.hasp.stos.modify j fun s => { s with manual := true })[k]? = some x := hx
      rw [List.getElem?_modify] at hx
      obtain ⟨y, hy, rfl⟩ := Option.map_eq_some_iff.mp hx
      split_ifs
      · rfl
      · exact hb y hy

/-- R331: the channels have disagreed. -/
theorem doSdiDisc_latches (hi : i < 8) (hp : b.powered .safe = true) (he : b.on (R.HASP_SDICFG_EN i) = true)
    (hh : b.sdiHealthy i (b.sdiX i) (b.sdiY i) = false) (ha : b.sdiAway i (b.sdiX i) (b.sdiY i) = false) :
    (b.doSdiDisc i).on (sdiDiscf i) = true ∧ Reported (b.doSdiDisc i) 0x9305 i ∧
      (b.on (R.HASP_SDICFG_RSTIN i) = false → ∀ k ∈ b.sdiOuts i, ∀ x, (b.doSdiDisc i).hasp.stos[k]? = some x →
        x.manual = true) := by
  have hd : (b.flag (sdiDiscf i) true).on (sdiDiscf i) = true := Blk.on_flag_self _ _ _ (sdiDiscf_inWord hi) rfl
  have hcfg : ∀ g : Fld, g.off < 0x10080 → 0x4260 ≤ g.off → ((b.flag (sdiDiscf i) true).raise 0x9305 i []).on g = b.on g :=
    fun g hg hl => (Blk.raise_on _ _ _ _ _ (Nat.ne_of_gt (lt_of_lt_of_le (by decide) hl))).trans
      (congrArg (· != 0) (Blk.rd_wr_off _ _ _ _ (Nat.ne_of_lt (lt_trans hg (by decide : 0x10080 < 0x10090)))))
  have hr := hcfg (R.HASP_SDICFG_RSTIN i) (sdiCfg_below hi) (le_above)
  have hmask : ((b.flag (sdiDiscf i) true).raise 0x9305 i []).sdiOuts i = b.sdiOuts i := by
    unfold Blk.sdiOuts
    refine List.filter_congr fun k hk => ?_
    exact hcfg (bitOf (R.HASP_SDICFG_MASK i) k) (sdiCfg_below hi)
      (le_above)
  unfold Blk.doSdiDisc
  dsimp only
  rw [if_neg (by rw [hp, he, hh, ha]; decide), hmask, hr]
  generalize b.flag (sdiDiscf i) true = c at hd ⊢
  have hon : (c.raise 0x9305 i []).on (sdiDiscf i) = true := (Blk.raise_on _ _ _ _ _ (by simp only [sdiDiscf, R.HIF_EVDROP_COUNT]; decide)).trans hd
  have hrep := c.raise_self 0x9305 i []
  generalize c.raise 0x9305 i [] = d at hon hrep ⊢
  split_ifs with hrs
  · exact ⟨hon, hrep, fun h => absurd (h.symm.trans hrs) Bool.false_ne_true⟩
  · obtain ⟨hsame, hman⟩ := eachManual_sets (b.sdiOuts i) d
    have hfront : FrontKept d (d.eachOf (b.sdiOuts i) fun k b => b.onSto k fun s => { s with manual := true }) :=
      FrontKept.eachOf (fun _ b => (front_refl b).onSto) d
    exact ⟨(same_on hsame (sdiDiscf i) id).trans hon, hfront.reports _ _ hrep, fun _ => hman⟩

end

/-! The reset pulse (R324) and the end of SS1T (R332). -/

section
variable {b : Blk} {k : Nat}

theorem beginClosing_closes : (b.beginClosing k).stoState k = 1 ∧
    ∀ x, (b.beginClosing k).hasp.stos[k]? = some x → x.ls = true ∧ x.hs = false := by
  unfold Blk.beginClosing
  have hst : (b.wr (R.HASP_STOSTAT_STATE k) 1).stoState k = 1 := Blk.rd_wr_self _ _ _ inWord_of
  generalize b.wr (R.HASP_STOSTAT_STATE k) 1 = c at hst ⊢
  obtain ⟨hrd, -, -⟩ := onSto_beside (b := c) (k := k) fun s => { s with ls := true, hs := false, riseOk := false }
  refine ⟨(hrd _).trans hst, fun x hx => ?_⟩
  obtain ⟨y, -, rfl⟩ := onSto_at hx
  exact ⟨rfl, rfl⟩

/-- What a demand is judged by stays where an output forgets a rise. -/
theorem demandSrc_onSto {f : Sto → Sto} (hf : ∀ s, (f s).ss1 = s.ss1 ∧ (f s).ss1In = s.ss1In ∧ (f s).dead = s.dead) :
    (b.onSto k f).demandSrc k = b.demandSrc k := by
  have hsto : ((b.onSto k f).sto k).ss1 = (b.sto k).ss1 ∧ ((b.onSto k f).sto k).ss1In = (b.sto k).ss1In ∧
      ((b.onSto k f).sto k).dead = (b.sto k).dead := by
    have hget : (b.onSto k f).sto k = ((b.hasp.stos[k]?).map f).getD default := by
      show (b.hasp.stos.modify k f).getD k default = _
      rw [List.getD_eq_getElem?_getD, List.getElem?_modify]
      simp only [if_true]
      rfl
    have hold : b.sto k = (b.hasp.stos[k]?).getD default := List.getD_eq_getElem?_getD ..
    rw [hget, hold]
    cases b.hasp.stos[k]? with
    | none => exact ⟨rfl, rfl, rfl⟩
    | some s => exact hf s
  obtain ⟨hss, hin, hdead⟩ := hsto
  have hlost : (b.onSto k f).allLost k = b.allLost k := by
    unfold Blk.allLost
    rw [hdead]
    rfl
  have hsdi : (b.onSto k f).sdiDemand k false = b.sdiDemand k false := rfl
  have hmap : (b.onSto k f).mapped k = b.mapped k := rfl
  have hses : ∀ s, (b.onSto k f).slMapped s k = b.slMapped s k := fun _ => rfl
  have hrest : (b.onSto k f).hasp = { b.hasp with stos := b.hasp.stos.modify k f } := rfl
  unfold Blk.demandSrc Blk.demandOf
  dsimp only
  simp only [hss, hin, hlost, hsdi, hmap, hses, hrest]

theorem doResetPulse_closes {us : Nat} (he : b.on (R.HASP_STOCFG_EN k) = true) (hr : b.on (R.HASP_STOCFG_RST k) = true)
    (hlo : 100000 ≤ us) (hhi : us ≤ 2000000) (hsrc : b.resetSource k = true)
    (hvoid : b.hasp.sdiVoid.getD (b.rd (R.HASP_STOCFG_RSRC k)) false = false) (hrise : (b.sto k).riseOk = true)
    (hrun : b.rd R.HASP_STAT_HSTATE = 1) (hd : b.demandSrc k = none) (h0 : b.stoState k = 0) :
    b.doResetPulse k us = (b.onSto k fun s => { s with riseOk := false }).beginClosing k := by
  have hdem := (demandSrc_onSto (b := b) (k := k) (f := fun s => { s with riseOk := false }) fun _ => ⟨rfl, rfl, rfl⟩).trans hd
  obtain ⟨hrd, hon, -⟩ := onSto_beside (b := b) (k := k) fun s => { s with riseOk := false }
  unfold Blk.doResetPulse
  dsimp only
  rw [hdem, hon, hon, he, hr, hrise, hsrc, hvoid, hrun, decide_eq_true hlo, decide_eq_true hhi, Bool.true_or,
    Bool.true_or]
  refine (if_pos rfl).trans ?_
  exact if_pos ((hrd _).trans h0)

theorem openSto_opens : ∀ x, (b.openSto k).hasp.stos[k]? = some x → x.ss1 = none ∧ x.hs = false := by
  intro x hx
  have hstos : ∀ (l : List Nat) (f : Nat → HaspCh → HaspCh) (c : Blk), (c.eachOf l fun i b => b.onHch i (f i)).hasp.stos =
      c.hasp.stos := fun l f c =>
    List.foldlRecOn (motive := fun d : Blk => d.hasp.stos = c.hasp.stos) l _ rfl fun d hd i _ => hd
  unfold Blk.openSto at hx
  dsimp only at hx
  rw [hstos] at hx
  obtain ⟨y, -, rfl⟩ := onSto_at hx
  exact ⟨rfl, rfl⟩

theorem doSs1Timeout_opens {left : Nat} (hs : (b.sto k).ss1 = some left) (hl : b.ranOut left = true) :
    Reported (b.doSs1Timeout k) 0x9300 k ∧
      ∀ x, (b.doSs1Timeout k).hasp.stos[k]? = some x → x.ss1 = none ∧ x.hs = false := by
  unfold Blk.doSs1Timeout
  rw [hs]
  dsimp only
  rw [if_pos hl]
  have hopen := openSto_opens (b := b) (k := k)
  generalize b.openSto k = c at hopen ⊢
  have hrep := c.raise_self 0x9300 k [1, Int.ofNat (b.sto k).ss1In]
  have hkept := (stoKept_refl c).raise 0x9300 k [1, Int.ofNat (b.sto k).ss1In]
  generalize c.raise 0x9300 k [1, Int.ofNat (b.sto k).ss1In] = d at hrep hkept ⊢
  refine ⟨(settle_front d).reports _ _ hrep, fun x hx => ?_⟩
  obtain ⟨r, hr, -, hhs, hss⟩ := (hkept.trans (settle_sto d)).stos k x hx
  obtain ⟨h1, h2⟩ := hopen r hr
  exact ⟨hss h1, hhs h2⟩

end

/-- Settles O10: levels and demands of the inputs, the discrepancy, the reset pulse and the end of SS1T. -/
theorem safeInputs : Obligations.SafeInputs := by
  refine ⟨fun s i x y hp he hr hh => ⟨_, rfl, doSdiDemand_demands i.isLt hp he hr hh⟩,
    fun s i within hp he hr hd => ⟨_, rfl, doSdiHealthy_ends within i.isLt hp he hr hd⟩,
    fun s i hp he hh ha => ⟨_, rfl, doSdiDisc_latches i.isLt hp he hh ha⟩, ?_,
    fun s k left hp hs hl => yields_within rfl hp (doSs1Timeout_opens hs hl)⟩
  intro s k us hp he hr hlo hhi hsrc hvoid hrise hrun hd h0
  refine yields_within rfl hp ?_
  rw [doResetPulse_closes he hr hlo hhi hsrc hvoid hrise hrun hd h0]
  exact beginClosing_closes

end Sys2Proof.Machine
end

section
/-! PROOFS. The removal of domains and the start of the module (R315, R521 to R527): what they leave of the supplies, and
what a start shows. -/

namespace Sys2Proof.Machine

/-! One bit of a word written whole. -/

theorem bitAt_testBit (v i : Nat) : bitAt v i = v.testBit i := by
  rw [Nat.testBit_eq_decide_div_mod_eq, bitAt, beq_eq_decide]

/-- A bit of a word that is written whole. -/
theorem on_wr_whole (b : Blk) {f g : Fld} (v : Nat) (hf : f.lo = 0 ∧ f.w = 32) (hg : g.off = f.off ∧ g.w = 1 ∧ g.lo < 32) :
    (b.wr f v).on g = bitAt v g.lo := by
  obtain ⟨hlo, hw⟩ := hf
  obtain ⟨hoff, hone, hlt⟩ := hg
  have hword : (f.put (b.word f.off) v).toNat = v % 2 ^ 32 := by
    rw [Fld.put_toNat f _ v (Nat.le_of_eq (by rw [hlo, hw]))]
    rw [hlo, hw, Nat.pow_zero, Nat.mod_one, Nat.zero_add, Nat.mul_one, Nat.zero_add, Nat.div_eq_of_lt (b.word f.off).isLt,
      Nat.zero_mul, Nat.add_zero]
  have hrd : (b.wr f v).rd g = (v % 2 ^ 32) / 2 ^ g.lo % 2 := by
    unfold Blk.rd Blk.wr Fld.get
    rw [hoff, Blk.word_setWord_self, hword, hone, Nat.pow_one]
  have hbit : decide ((v % 2 ^ 32) / 2 ^ g.lo % 2 = 1) = v.testBit g.lo := by
    rw [← Nat.testBit_eq_decide_div_mod_eq, Nat.testBit_mod_two_pow, decide_eq_true hlt, Bool.true_and]
  rw [bitAt_testBit, ← hbit, Blk.on, hrd]
  obtain h | h := Nat.mod_two_eq_zero_or_one ((v % 2 ^ 32) / 2 ^ g.lo) <;> rw [h] <;> rfl

/-! What goes and what stays when domains are removed. -/

section
variable (b : Blk)

/-- The supplies after a removal: no step, nothing held, nothing of the run. -/
theorem reduced_pwr (keep : Dom → Bool) (lost : Bool) : (b.reduced keep lost).pwr =
    { b.pwr with step := 0, ride := none, held := false, hot := false, noImg := false, img := none } := rfl

/-- A field that survives and is no bit of PWR_DOMSTAT. -/
theorem reduced_on {keep : Dom → Bool} (lost : Bool) {f : Fld} (hs : survives keep f.off = true)
    (hd : f.off ≠ R.PWR_DOMSTAT_ON.off) : (b.reduced keep lost).on f = b.on f := by
  obtain ⟨c, hc, hregs⟩ := reduced_eq b keep lost
  have hword : c.word f.off = b.word f.off := by
    unfold Blk.word
    rw [hregs, regFind_filter, hs, if_pos rfl]
  rw [hc]
  unfold Blk.setDom
  refine (congrArg (· != 0) (Blk.rd_wr_off _ (bitOf R.PWR_DOMSTAT_ON Dom.vault.bit) f _ hd)).trans ?_
  rw [Blk.on, Blk.rd, Blk.rd, hword]

/-- PWR_RSTPIN survives with VAULT. -/
theorem reduced_pin {f : Fld} (lost : Bool) (hf : f.off = R.PWR_RSTPIN_LEVEL.off) :
    (b.reduced onlyVault lost).on f = b.on f := by
  have hs : survives onlyVault R.PWR_RSTPIN_LEVEL.off = true := by decide
  refine reduced_on b lost ?_ ?_ <;> rw [hf]
  · exact hs
  · decide

theorem keepOffsets_shows : b.keepOffsets.pwr = b.pwr ∧ b.keepOffsets.regs = b.regs := by
  unfold Blk.keepOffsets
  split_ifs <;> exact ⟨rfl, rfl⟩

end

/-- Writes that are cut leave the block but for a free value. -/
theorem cutWrites_blk (s : State) : s.cutWrites.blk = { s.blk with freeCtr := s.blk.freeCtr + 1 } := rfl

/-! The scan of the records. -/

/-- The words of Strata that a start shows, and the count of dropped events. -/
abbrev strataWords (x : Nat) : Prop := x = 0x4020 ∨ (0x18008 ≤ x ∧ x < 0x1801C)

/-- The words that the beginning of a start shows beside the bits of PWR_DOMSTAT. -/
abbrev bootWords (x : Nat) : Prop := x = 0x2010 ∨ x = 0x2014 ∨ x = 0x2030 ∨ strataWords x

theorem onNvs_pwr (b : Blk) (f : Nvs → Nvs) : (b.onNvs f).pwr = b.pwr := rfl

theorem onPwr_pwr (b : Blk) (f : Pwr → Pwr) : (b.onPwr f).pwr = f b.pwr := rfl

/-- A partial record is discarded. -/
def Blk.badRecord (b : Blk) (i : Nat) : Blk :=
  ((b.inc R.STR_CNT_PARTIAL).raise 0xF102 0 [Int.ofNat i]).onNvs fun x => { x with gap := true }

theorem badRecord_shows (b : Blk) (i : Nat) : SameBut b (b.badRecord i) strataWords ∧ (b.badRecord i).pwr = b.pwr := by
  have hinc : SameBut b (b.inc R.STR_CNT_PARTIAL) strataWords :=
    same_inc (same_refl b _) R.STR_CNT_PARTIAL (.inr ⟨by decide, by decide⟩)
  have hraise := same_raise hinc 0xF102 0 [Int.ofNat i] (.inl rfl)
  have hpwr := (Blk.raise_pwr (b.inc R.STR_CNT_PARTIAL) 0xF102 0 [Int.ofNat i]).trans (Blk.inc_pwr ..)
  unfold Blk.badRecord
  generalize (b.inc R.STR_CNT_PARTIAL).raise 0xF102 0 [Int.ofNat i] = c at hraise hpwr ⊢
  exact ⟨same_trans hraise (same_regs rfl), (onNvs_pwr _ _).trans hpwr⟩

theorem badRecords_shows (l : List Nat) (b : Blk) : SameBut b (l.foldl Blk.badRecord b) strataWords ∧
    (l.foldl Blk.badRecord b).pwr = b.pwr := by
  induction l generalizing b with
  | nil => exact ⟨same_refl b _, rfl⟩
  | cons i l ih =>
    obtain ⟨hs, hp⟩ := badRecord_shows b i
    obtain ⟨is, ip⟩ := ih (b.badRecord i)
    exact ⟨same_trans hs is, ip.trans hp⟩

theorem scanRecords_shows (s : State) : SameBut s.blk s.scanRecords.blk strataWords ∧ s.scanRecords.blk.pwr = s.blk.pwr := by
  obtain ⟨hsame, hpwr⟩ := badRecords_shows ((List.range 1024).filter fun i => recBad s.mem i) s.blk
  unfold State.scanRecords
  dsimp only
  change SameBut s.blk ((((((List.range 1024).filter fun i => recBad s.mem i).foldl Blk.badRecord s.blk).wr _ _).wr _ _).wr _ _) _ ∧
    ((((((List.range 1024).filter fun i => recBad s.mem i).foldl Blk.badRecord s.blk).wr _ _).wr _ _).wr _ _).pwr = _
  generalize ((List.range 1024).filter fun i => recBad s.mem i).foldl Blk.badRecord s.blk = c at hsame hpwr ⊢
  refine ⟨?_, (Blk.wr_pwr ..).trans ((Blk.wr_pwr ..).trans ((Blk.wr_pwr ..).trans hpwr))⟩
  exact same_wr (same_wr (same_wr hsame R.STR_STAT_USED _ (.inr ⟨by decide, by decide⟩)) R.STR_STAT_NEWEST _
    (.inr ⟨by decide, by decide⟩)) R.STR_RECNO_RECNO _ (.inr ⟨by decide, by decide⟩)

/-! A start. -/

/-- The supplies as a start begins. -/
def Pwr.started (p : Pwr) : Pwr :=
  { p with step := 1, held := false, hot := false, auto := false, v33 := true, cause := Nat.land p.cause 0x400
           second := bitAt p.cause 6 }

/-- What a start shows before the records are scanned. -/
def Blk.started (b : Blk) : Blk :=
  let c := (((b.setDom .vault true).setDom .safe true).setDom .nvs true).wr R.PWR_RSTCAUSE_W b.pwr.cause
  let d := if bitAt b.pwr.cause 2 then (c.showStep 1).inc R.PWR_CNT_ABRUPT else c.showStep 1
  let e := (d.onPwr fun p => { p with step := 1, held := false, hot := false, auto := false, v33 := true
                                      cause := Nat.land b.pwr.cause 0x400, second := bitAt b.pwr.cause 6 }).onNvs fun x =>
    { x with bootno := min (x.bootno + 1) 65535 }
  (e.wr R.STR_CNT_BOOTNO e.nvs.bootno).showDrops

theorem beginStart_eq (s : State) : s.beginStart = State.scanRecords { s with blk := s.blk.started } := rfl

section
variable (b : Blk)

/-- The domains of a start. -/
theorem startDoms_powered : ∀ d : Dom, (((b.setDom .vault true).setDom .safe true).setDom .nvs true).powered d =
    (d == .vault || d == .safe || d == .nvs || b.powered d) := by
  intro d
  by_cases hn : d = .nvs
  · subst hn
    exact Blk.powered_setDom_self _ _ _
  rw [Blk.powered_setDom_ne _ _ hn]
  by_cases hs : d = .safe
  · subst hs
    exact Blk.powered_setDom_self _ _ _
  rw [Blk.powered_setDom_ne _ _ hs]
  by_cases hv : d = .vault
  · subst hv
    exact Blk.powered_setDom_self _ _ _
  rw [Blk.powered_setDom_ne _ _ hv, beq_false_of_ne hv, beq_false_of_ne hs, beq_false_of_ne hn]
  rfl

theorem showDrops_same : SameBut b b.showDrops strataWords := by
  have hw : ∀ x, 0x18008 ≤ x ∧ x < 0x1801C → strataWords x := fun _ h => .inr h
  exact same_wr (same_wr (same_wr (same_wr (same_refl b _) R.STR_DROP01_S0 _ (hw _ ⟨by decide, by decide⟩)) R.STR_DROP01_S1 _
    (hw _ ⟨by decide, by decide⟩)) R.STR_DROP23_S2 _ (hw _ ⟨by decide, by decide⟩)) R.STR_DROP23_S3 _ (hw _ ⟨by decide, by decide⟩)

/-- From the causes on a start leaves the words beside PWR_BOOT, PWR_CNT and Strata's. -/
theorem started_same : SameBut ((((b.setDom .vault true).setDom .safe true).setDom .nvs true).wr R.PWR_RSTCAUSE_W b.pwr.cause)
    b.started (fun x => x = 0x2014 ∨ x = 0x2030 ∨ strataWords x) := by
  unfold Blk.started
  dsimp only
  generalize (((b.setDom .vault true).setDom .safe true).setDom .nvs true).wr R.PWR_RSTCAUSE_W b.pwr.cause = c
  have hstep : SameBut c (c.showStep 1) (fun x => x = 0x2014 ∨ x = 0x2030 ∨ strataWords x) :=
    same_wr (same_refl c _) R.PWR_BOOT_STEP 1 (.inl rfl)
  have habrupt : SameBut c (if bitAt b.pwr.cause 2 = true then (c.showStep 1).inc R.PWR_CNT_ABRUPT else c.showStep 1)
      (fun x => x = 0x2014 ∨ x = 0x2030 ∨ strataWords x) :=
    same_ite (fun _ => same_inc hstep R.PWR_CNT_ABRUPT (.inr (.inl rfl))) fun _ => hstep
  generalize (if bitAt b.pwr.cause 2 = true then (c.showStep 1).inc R.PWR_CNT_ABRUPT else c.showStep 1) = d at habrupt ⊢
  have hboot : ∀ (f : Pwr → Pwr) (g : Nvs → Nvs) (v : Nat), SameBut c (((d.onPwr f).onNvs g).wr R.STR_CNT_BOOTNO v)
      (fun x => x = 0x2014 ∨ x = 0x2030 ∨ strataWords x) := fun f g v =>
    same_wr (same_trans habrupt (same_regs rfl)) R.STR_CNT_BOOTNO v (.inr (.inr (.inr ⟨by decide, by decide⟩)))
  exact same_trans (hboot _ _ _) (same_mono (showDrops_same _) fun x hx => .inr (.inr hx))

theorem started_pwr : b.started.pwr = b.pwr.started := by
  have hshow : ∀ c : Blk, c.showDrops.pwr = c.pwr := fun c =>
    (Blk.wr_pwr ..).trans ((Blk.wr_pwr ..).trans ((Blk.wr_pwr ..).trans (Blk.wr_pwr ..)))
  unfold Blk.started
  dsimp only
  rw [hshow, Blk.wr_pwr, onNvs_pwr, onPwr_pwr]
  have hcause : ((((b.setDom .vault true).setDom .safe true).setDom .nvs true).wr R.PWR_RSTCAUSE_W b.pwr.cause).pwr = b.pwr :=
    (Blk.wr_pwr ..).trans ((Blk.flag_pwr ..).trans ((Blk.flag_pwr ..).trans (Blk.flag_pwr ..)))
  generalize (((b.setDom .vault true).setDom .safe true).setDom .nvs true).wr R.PWR_RSTCAUSE_W b.pwr.cause = c at hcause ⊢
  have hstep : (if bitAt b.pwr.cause 2 = true then (c.showStep 1).inc R.PWR_CNT_ABRUPT else c.showStep 1).pwr = b.pwr := by
    rw [← hcause]
    split_ifs
    · exact (Blk.inc_pwr ..).trans (Blk.wr_pwr ..)
    · exact Blk.wr_pwr ..
  rw [hstep]
  rfl

end

/-- A start: the supplies, the domains, the causes, and the words left. -/
theorem beginStart_starts (s : State) : s.beginStart.blk.pwr = s.blk.pwr.started ∧
    (∀ d : Dom, s.beginStart.blk.powered d = (d == .vault || d == .safe || d == .nvs || s.blk.powered d)) ∧
    (∀ g : Fld, g.off = 0x2010 → g.w = 1 → g.lo < 32 → s.beginStart.blk.on g = bitAt s.blk.pwr.cause g.lo) ∧
    ∀ g : Fld, ¬ bootWords g.off → g.off ≠ 0x2004 → s.beginStart.blk.on g = s.blk.on g := by
  obtain ⟨hscan, hpwr⟩ := scanRecords_shows { s with blk := s.blk.started }
  rw [← beginStart_eq] at hscan hpwr
  have hall := same_trans (started_same s.blk) (same_mono hscan fun x hx => .inr (.inr hx))
  have hdoms := startDoms_powered s.blk
  generalize hd : ((s.blk.setDom .vault true).setDom .safe true).setDom .nvs true = c at hall hdoms
  refine ⟨hpwr.trans (started_pwr s.blk), fun d => ?_, fun g hoff hw hlt => ?_, fun g hg hdom => ?_⟩
  · rw [← hdoms d]
    refine (same_on hall (bitOf R.PWR_DOMSTAT_ON d.bit) ?_).trans (congrArg (· != 0) (Blk.rd_wr_off _ _ _ _ ?_))
    · exact (by decide : ¬ (0x2004 = 0x2014 ∨ 0x2004 = 0x2030 ∨ strataWords 0x2004))
    · exact (by decide : (0x2004 : Nat) ≠ 0x2010)
  · refine (same_on hall g ?_).trans (on_wr_whole _ _ ⟨rfl, rfl⟩ ⟨hoff, hw, hlt⟩)
    rw [hoff]
    decide
  · refine (same_on hall g fun h => hg (.inr h)).trans ((congrArg (· != 0) (Blk.rd_wr_off _ _ _ _ fun h => hg (.inl h))).trans ?_)
    have hset : ∀ (b : Blk) (d : Dom) (v : Bool), (b.setDom d v).on g = b.on g := fun b d v =>
      congrArg (· != 0) (Blk.rd_wr_off b (bitOf R.PWR_DOMSTAT_ON d.bit) g _ hdom)
    rw [← hd]
    exact (hset _ _ _).trans ((hset _ _ _).trans (hset _ _ _))

section
variable {s : State}

theorem tryStart_begins (hp : s.blk.on R.PWR_RSTPIN_LEVEL = true ∨ s.blk.rstIgnored = true) (hv : s.blk.pwr.vmain = true) :
    s.tryStart = s.beginStart := by
  have hgo : ¬ (s.blk.on R.PWR_RSTPIN_LEVEL = false ∧ s.blk.rstIgnored = false) := by
    rintro ⟨h1, h2⟩
    obtain h | h := hp
    · exact Bool.false_ne_true (h1.symm.trans h)
    · exact Bool.false_ne_true (h2.symm.trans h)
  unfold State.tryStart
  dsimp only
  rw [if_neg hgo, if_pos hv]

/-- A module that tries to start is held, starts, or waits for VMAIN. -/
theorem tryStart_cases : s.tryStart = { s with blk := s.blk.onPwr fun p => { p with held := true } } ∨
    s.tryStart = s.beginStart ∨ (s.blk.pwr.vmain = false ∧ s.tryStart = s) := by
  unfold State.tryStart
  dsimp only
  split_ifs with hheld hv
  · exact .inl rfl
  · exact .inr (.inl rfl)
  · exact .inr (.inr ⟨Bool.eq_false_of_not_eq_true hv, rfl⟩)

end

/-- The state from which a system reset tries to start. -/
def State.atReset (s : State) (cause : Nat) (lost : Bool) : State :=
  { s.cutWrites with blk := (s.cutWrites.blk.keepOffsets.reduced onlyVault lost).addCause cause }

theorem systemReset_eq (s : State) (cause : Nat) (lost : Bool) : s.systemReset cause lost = (s.atReset cause lost).tryStart := rfl

theorem atReset_shows (s : State) (cause : Nat) (lost : Bool) :
    (s.atReset cause lost).blk.pwr = { s.blk.pwr with
      step := 0, ride := none, held := false, hot := false, noImg := false, img := none
      cause := Nat.lor s.blk.pwr.cause (2 ^ cause) } ∧
    (∀ d : Dom, d ≠ .vault → (s.atReset cause lost).blk.powered d = false) ∧
    (s.atReset cause lost).blk.on R.PWR_RSTPIN_LEVEL = s.blk.on R.PWR_RSTPIN_LEVEL := by
  obtain ⟨hpwr, hregs⟩ := keepOffsets_shows s.cutWrites.blk
  have hred := reduced_pwr s.cutWrites.blk.keepOffsets onlyVault lost
  have hpow := fun d hd => reduced_powered s.cutWrites.blk.keepOffsets (keep := onlyVault) lost rfl (d := d) hd
  have hpin := reduced_pin s.cutWrites.blk.keepOffsets lost (f := R.PWR_RSTPIN_LEVEL) rfl
  rw [hpwr] at hred
  have hlev : s.cutWrites.blk.keepOffsets.on R.PWR_RSTPIN_LEVEL = s.blk.on R.PWR_RSTPIN_LEVEL := by
    rw [Blk.on, Blk.rd, Blk.word, hregs]
    rfl
  unfold State.atReset
  generalize s.cutWrites.blk.keepOffsets.reduced onlyVault lost = c at hred hpow hpin ⊢
  refine ⟨?_, hpow, hpin.trans hlev⟩
  show { c.pwr with cause := Nat.lor c.pwr.cause (2 ^ cause) } = _
  rw [hred]
  rfl

end Sys2Proof.Machine
end

section
/-! PROOFS. What Hasp does when its timers run out and on faults of its own (R335 to R338), and the thermal shutdown
(R315). -/

namespace Sys2Proof.Machine

/-! The degraded-mode timer of a class (R336). -/

/-- The timer of class c has ended, and its event is reported. -/
def DegOver (c : Nat) (b : Blk) : Prop :=
  (∀ d, b.hasp.degs[c]? = some d → d.left = none) ∧ Reported b 0x9304 c

namespace DegOver
variable {b : Blk} {c : Nat}

theorem keep {d : Blk} (h : DegOver c b) (hd : d.hasp.degs = b.hasp.degs) (hf : FrontKept b d) : DegOver c d :=
  ⟨fun x hx => h.1 x (hd ▸ hx), hf.reports _ _ h.2⟩

theorem safeReact (h : DegOver c b) (x : Nat) : DegOver c (b.safeReact x) := by
  refine h.keep ?_ (startStop_front b x _)
  unfold Blk.safeReact
  obtain hx | ⟨f, hx⟩ := startStop_hasp b x (some (b.rd (R.HASP_STOCFG_STOPMAX (b.mapOf x)) * 100 * cycPerMs)) <;> rw [hx]

theorem onSto (h : DegOver c b) (k : Nat) (f : Sto → Sto) : DegOver c (b.onSto k f) := h.keep rfl (front_refl b).onSto

theorem wr (h : DegOver c b) (f : Fld) (v : Nat) (hf : 0x4260 ≤ f.off) : DegOver c (b.wr f v) :=
  ⟨h.1, reported_wr_above h.2 f v hf⟩

/-- The outputs whose switch is stuck, once class STO has expired. -/
theorem deadOutputs (h : DegOver c b) : DegOver c (b.each 4 fun k b =>
    if b.stuckClosed k then
      let b := b.onSto k fun s => { s with dead := true }
      if b.stoState k = 0 then b.wr (R.HASP_STOSTAT_STATE k) 5 else b
    else b) := by
  refine each_keeps 4 (fun k d hd => ?_) h
  split_ifs
  · dsimp only
    have hdead := hd.onSto k fun s => { s with dead := true }
    split_ifs
    · exact hdead.wr _ _ (le_above)
    · exact hdead
  · exact hd

theorem showDeg (h : DegOver c b) : DegOver c b.showDeg := by
  have hflags : DegOver c (b.each 8 fun i b => b.flag (bitOf R.HASP_STAT_DEG i) ((b.hasp.degs.getD i default).left.isSome)) :=
    each_keeps 8 (fun i d hd => hd.wr (bitOf R.HASP_STAT_DEG i) _ (Nat.le_of_ble_eq_true rfl)) h
  exact hflags.wr R.HASP_DEGLEFT_FR _ (Nat.le_of_ble_eq_true rfl)

theorem settle (h : DegOver c b) : DegOver c b.settle :=
  h.keep (by rw [(settle_sto b).rest]) (settle_front b)

end DegOver

section
variable {b : Blk} {c : Nat}

/-- The timer of class c stopped, and the event of its expiry. -/
theorem degOver_begins (i : List Int) : DegOver c
    (((b.onHasp fun h => { h with degs := h.degs.modify c fun d => { d with left := none, start := false } }).onHasp fun h =>
      if c = 5 then { h with ntcHeld := false } else h).raise 0x9304 c i) := by
  have hdegs : ∀ d, ((b.onHasp fun h => { h with degs := h.degs.modify c fun d => { d with left := none, start := false } }).onHasp
      fun h => if c = 5 then { h with ntcHeld := false } else h).hasp.degs[c]? = some d → d.left = none := by
    intro d hd
    have hmod : (b.hasp.degs.modify c fun d => { d with left := none, start := false })[c]? = some d := by
      refine Eq.trans ?_ hd
      unfold Blk.onHasp
      dsimp only
      split_ifs <;> rfl
    obtain ⟨y, -, rfl⟩ := getElem?_modify_self hmod
    rfl
  generalize ((b.onHasp fun h => { h with degs := h.degs.modify c fun d => { d with left := none, start := false } }).onHasp
      fun h => if c = 5 then { h with ntcHeld := false } else h) = e at hdegs ⊢
  exact ⟨fun d hd => hdegs d (by rwa [Blk.raise_hasp] at hd), e.raise_self 0x9304 c i⟩

theorem degExpire_over : DegOver c (b.degExpire c) := by
  unfold Blk.degExpire
  dsimp only
  refine DegOver.settle (DegOver.showDeg ?_)
  have hreact := degOver_begins (b := b) (c := c) [Int.ofNat ((((b.hasp.degs.getD c default).chs).map fun x => 2 ^ x).sum)]
  generalize (((b.onHasp fun h => { h with degs := h.degs.modify c fun d => { d with left := none, start := false } }).onHasp
    fun h => if c = 5 then { h with ntcHeld := false } else h).raise 0x9304 c
      [Int.ofNat ((((b.hasp.degs.getD c default).chs).map fun x => 2 ^ x).sum)]) = e at hreact ⊢
  have hstops : DegOver c (e.eachOf (b.hasp.degs.getD c default).chs fun x b => b.safeReact x) :=
    List.foldlRecOn (motive := fun d : Blk => DegOver c d) _ _ hreact fun d hd x _ => hd.safeReact x
  generalize e.eachOf (b.hasp.degs.getD c default).chs (fun x b => b.safeReact x) = g at hstops ⊢
  split_ifs
  · exact hstops.deadOutputs
  · exact hstops

theorem doDegExpiry_expires (flintA : Bool) (hp : b.powered .safe = true) (hl : (b.hasp.degs.getD c default).left = some 0)
    (hn : c = 5 → b.on R.THM_OVRD_ACT = false) : b.doDegExpiry c flintA = b.degExpire c := by
  have hovrd : ¬ (c = 5 ∧ b.on R.THM_OVRD_ACT = true) := fun ⟨h5, ha⟩ => Bool.false_ne_true ((hn h5).symm.trans ha)
  unfold Blk.doDegExpiry
  rw [hl]
  dsimp only
  rw [if_pos ⟨hp, .inl rfl⟩, if_neg hovrd]

theorem doDegExpiry_waits (flintA : Bool) (hp : b.powered .safe = true) (hl : (b.hasp.degs.getD 5 default).left = some 0)
    (ha : b.on R.THM_OVRD_ACT = true) : b.doDegExpiry 5 flintA = b.onHasp fun h => { h with ntcHeld := true } := by
  unfold Blk.doDegExpiry
  rw [hl]
  dsimp only
  rw [if_pos ⟨hp, .inl rfl⟩, if_pos ⟨rfl, ha⟩]

/-! STOPMAX (R336). -/

theorem doStopmax_removes {left : Nat} (hr : (b.hch c).react = some (some left)) (hl : b.ranOut left = true) :
    Reported (b.doStopmax c) 0x9309 c ∧ ∀ h, (b.doStopmax c).hasp.chs[c]? = some h → h.gone = true := by
  unfold Blk.doStopmax
  rw [hr]
  dsimp only
  rw [if_pos hl]
  have hgone : ∀ h, (b.onHch c fun h => { h with react := none, gone := true }).hasp.chs[c]? = some h → h.gone = true := by
    intro h hh
    obtain ⟨y, -, rfl⟩ := getElem?_modify_self (l := b.hasp.chs) hh
    rfl
  generalize (b.onHch c fun h => { h with react := none, gone := true }) = d at hgone ⊢
  have hrep := d.raise_self 0x9309 c []
  have hkept := (stoKept_refl d).raise 0x9309 c []
  generalize d.raise 0x9309 c [] = e at hrep hkept ⊢
  refine ⟨(settle_front e).reports _ _ hrep, fun h hh => ?_⟩
  obtain ⟨y, hy, hk⟩ := (hkept.trans (settle_sto e)).chs c h hh
  exact hk (hgone y hy)

/-! Faults of Hasp itself (R338). -/

/-- The demand latched on every output. -/
def Blk.latchAll (b : Blk) (src : Nat) : Blk :=
  { b with hasp := { b.hasp with latch := if b.hasp.latch.isSome then b.hasp.latch else some src
                                 stos := b.hasp.stos.map fun s => { s with manual := true } } }

/-- With no ready standby: HSTATE 4, a latched demand, every output MANUAL. -/
theorem haspDemand_latches (src : Nat) (hs : b.standbyReady = false) : (b.haspDemand src).rd R.HASP_STAT_HSTATE = 4 ∧
    (b.haspDemand src).hasp.latch.isSome = true ∧ ∀ x ∈ (b.haspDemand src).hasp.stos, x.manual = true := by
  have heq : b.haspDemand src = ((b.latchAll src).wr R.HASP_STAT_HSTATE 4).settle := by
    unfold Blk.haspDemand
    rw [if_neg (by rw [hs]; exact Bool.false_ne_true)]
    rfl
  have hlatch : (b.latchAll src).hasp.latch.isSome = true := by
    show (if b.hasp.latch.isSome then b.hasp.latch else some src).isSome = true
    split_ifs with h
    · exact h
    · rfl
  have hman : ∀ (k : Nat) (x : Sto), (b.latchAll src).hasp.stos[k]? = some x → x.manual = true := by
    intro k x hx
    replace hx : (b.hasp.stos.map fun s => { s with manual := true })[k]? = some x := hx
    rw [List.getElem?_map] at hx
    obtain ⟨y, -, rfl⟩ := Option.map_eq_some_iff.mp hx
    rfl
  rw [heq]
  generalize b.latchAll src = d at hlatch hman ⊢
  have hst : (d.wr R.HASP_STAT_HSTATE 4).rd R.HASP_STAT_HSTATE = 4 := Blk.rd_wr_self _ _ _ inWord_of
  have hh : (d.wr R.HASP_STAT_HSTATE 4).hasp = d.hasp := Blk.wr_hasp ..
  generalize d.wr R.HASP_STAT_HSTATE 4 = e at hst hh ⊢
  have hkept := settle_sto e
  refine ⟨(settle_hstate e).trans hst, ?_, fun x hx => ?_⟩
  · rw [hkept.rest, hh]
    exact hlatch
  · obtain ⟨k, hk⟩ := List.mem_iff_getElem?.mp hx
    obtain ⟨r, hr, hm, -, -⟩ := hkept.stos k x hk
    exact hm.trans (hman k r (hh ▸ hr))

/-- With a ready standby: loss. -/
theorem haspDemand_loses (src : Nat) (hs : b.standbyReady = true) (h3 : b.rd R.HASP_STAT_HSTATE ≠ 3) :
    (b.haspDemand src).rd R.HASP_STAT_HSTATE = 3 ∧ Reported (b.haspDemand src) 0x9306 0 := by
  unfold Blk.haspDemand
  rw [if_pos hs]
  exact loss_declares b _ h3

end

/-! The thermal shutdown (R315). -/

section
variable {s : State}

theorem doTshut_shuts (hp : s.blk.powered .safe = true) (hh : s.blk.pwr.hot = false) : s.doTshut.blk.pwr.hot = true ∧
    s.doTshut.blk.pwr.step = 0 ∧ s.doTshut.blk.hasp.tshut = true := by
  unfold State.doTshut
  dsimp only
  rw [if_neg (by rw [hp, hh]; decide)]
  dsimp only
  generalize State.cutWrites _ = t
  have hred := reduced_pwr t.blk (fun d => d == .vault || d == .safe) s.blk.interval
  generalize t.blk.reduced (fun d => d == .vault || d == .safe) s.blk.interval = c at hred ⊢
  have hdoms : ((c.setDom .vault true).setDom .safe true).pwr = c.pwr := (Blk.flag_pwr ..).trans (Blk.flag_pwr ..)
  generalize (c.setDom .vault true).setDom .safe true = e at hdoms ⊢
  refine ⟨rfl, ?_, rfl⟩
  show e.pwr.step = 0
  rw [hdoms, hred]

/-- A system reset starts the module, leaves it held in reset, or waits for VMAIN. -/
theorem systemReset_restarts (s : State) (cause : Nat) (lost : Bool) : (s.systemReset cause lost).blk.pwr.hot = false ∧
    ((s.systemReset cause lost).blk.pwr.step = 1 ∨ (s.systemReset cause lost).blk.pwr.held = true ∨ s.blk.pwr.vmain = false) := by
  obtain ⟨hpwr, -, -⟩ := atReset_shows s cause lost
  rw [systemReset_eq]
  generalize s.atReset cause lost = t at hpwr ⊢
  have hhot : t.blk.pwr.hot = false := by rw [hpwr]
  obtain h | h | ⟨hv, h⟩ := tryStart_cases (s := t)
  · rw [h]
    exact ⟨hhot, .inr (.inl rfl)⟩
  · obtain ⟨hst, -⟩ := beginStart_starts t
    rw [h, hst]
    exact ⟨rfl, .inl rfl⟩
  · rw [h]
    refine ⟨hhot, .inr (.inr ?_)⟩
    rw [hpwr] at hv
    exact hv

end

/-- Settles O11: timers that run out, the demand or the loss of a fault of Hasp's own, and the thermal shutdown. -/
theorem haspReactions : Obligations.HaspReactions := by
  refine ⟨fun s c flintA hp hl hn => ?_, fun s flintA hp hl ha => ?_,
    fun s c left hp hr hl => yields_within rfl hp (doStopmax_removes hr hl), fun s hp h8 hs => ?_, fun s hp h8 hs h3 => ?_,
    fun s firmware hp hs => ?_, fun s firmware hp hs h3 => ?_, fun s k hp hh => ⟨_, rfl, doTshut_shuts hp hh⟩,
    fun s hh => ?_⟩
  · obtain ⟨hdegs, hrep⟩ := degExpire_over (b := s.blk) (c := c)
    exact yields_onBlk rfl (doDegExpiry_expires flintA hp hl hn) ⟨hrep, hdegs⟩
  · exact yields_onBlk rfl (doDegExpiry_waits flintA hp hl ha) ⟨rfl, rfl⟩
  · exact yields_onBlk rfl (if_pos ⟨hp, h8⟩) (haspDemand_latches 8 hs)
  · exact yields_onBlk rfl (if_pos ⟨hp, h8⟩) (haspDemand_loses 8 hs h3)
  · exact yields_onBlk rfl (if_pos hp) (haspDemand_latches 7 hs)
  · exact yields_onBlk rfl (if_pos hp) (haspDemand_loses 7 hs h3)
  · have hover : s.doTshutOver = s.systemReset 5 false := if_pos hh
    refine ⟨_, rfl, ?_⟩
    rw [hover]
    exact systemReset_restarts s 5 false

end Sys2Proof.Machine
end

section
/-! PROOFS. Starts and resets (R510, R511, R521 to R527). -/

namespace Sys2Proof.Machine

/-! What an orderly shutdown leaves of the supplies before the domains go (R525). -/

/-- The supplies and the word of PWR_RSTPIN stay. -/
def PwrKept (b c : Blk) : Prop := SameBut b c (· ≠ 0x201C) ∧ c.pwr = b.pwr

theorem pwrKept_refl (b : Blk) : PwrKept b b := ⟨same_refl b _, rfl⟩

namespace PwrKept
variable {b c d : Blk}

theorem trans (h : PwrKept b c) (k : PwrKept c d) : PwrKept b d := ⟨same_trans h.1 k.1, k.2.trans h.2⟩

theorem wr (h : PwrKept b c) (f : Fld) (v : Nat) (hf : f.off ≠ 0x201C) : PwrKept b (c.wr f v) :=
  ⟨same_wr h.1 f v hf, (Blk.wr_pwr ..).trans h.2⟩

theorem flag (h : PwrKept b c) (f : Fld) (v : Bool) (hf : f.off ≠ 0x201C) : PwrKept b (c.flag f v) :=
  ⟨same_flag h.1 f v hf, (Blk.flag_pwr ..).trans h.2⟩

theorem inc (h : PwrKept b c) (f : Fld) (hf : f.off ≠ 0x201C) : PwrKept b (c.inc f) :=
  ⟨same_inc h.1 f hf, (Blk.inc_pwr ..).trans h.2⟩

theorem raise (h : PwrKept b c) (code n : Nat) (i : List Int) : PwrKept b (c.raise code n i) :=
  ⟨same_raise h.1 code n i (by decide), (Blk.raise_pwr ..).trans h.2⟩

theorem beside (h : PwrKept b c) (hr : d.regs = c.regs) (hp : d.pwr = c.pwr) : PwrKept b d :=
  ⟨same_trans h.1 (same_regs hr), hp.trans h.2⟩

theorem onNvs (h : PwrKept b c) (f : Nvs → Nvs) : PwrKept b (c.onNvs f) := h.beside rfl rfl

theorem onHost (h : PwrKept b c) (f : HostIf → HostIf) : PwrKept b (c.onHost f) := h.beside rfl rfl

theorem ite {p : Prop} [Decidable p] (hc : p → PwrKept b c) (hd : ¬ p → PwrKept b d) : PwrKept b (if p then c else d) := by
  split_ifs with h
  · exact hc h
  · exact hd h

theorem foldl {α : Type} {l : List α} {f : Blk → α → Blk} (h : ∀ b x, PwrKept b (f b x)) (b : Blk) : PwrKept b (l.foldl f b) :=
  List.foldlRecOn (motive := fun c : Blk => PwrKept b c) _ _ (pwrKept_refl b) fun c hc x _ => hc.trans (h c x)

theorem each {n : Nat} {f : Nat → Blk → Blk} (h : ∀ i < n, ∀ b, PwrKept b (f i b)) (b : Blk) : PwrKept b (b.each n f) :=
  List.foldlRecOn (motive := fun c : Blk => PwrKept b c) _ _ (pwrKept_refl b) fun c hc i hi =>
    hc.trans (h i (List.mem_range.mp hi) c)

theorem on (h : PwrKept b c) {f : Fld} (hf : f.off = 0x201C) : c.on f = b.on f := same_on h.1 f (by rw [hf]; decide)

end PwrKept

section
variable (b : Blk)

theorem pwr_of_away {c : Blk} (h : c.away = b.away) : c.pwr = b.pwr := congrArg (fun x => x.2.1) h

theorem gateKept_pwr {c : Blk} (hs : SameBut b c gateWords) (hf : c.far = b.far) : PwrKept b c :=
  ⟨same_mono hs fun x hx => ne_of_mem hx (by decide), pwr_of_away b (away_of_far hf)⟩

theorem noteDrops_pwr : PwrKept b b.noteDrops := .ite (fun _ => (pwrKept_refl b).beside rfl rfl) fun _ => pwrKept_refl b

theorem eventOut_pwr (e : Event) : PwrKept b (b.eventOut e ⟨[], []⟩) := by
  have hsent : PwrKept b (b.send (.event e (b.phase 10))) := (pwrKept_refl b).beside rfl rfl
  unfold Blk.eventOut
  rw [writeBack_clean]
  simp only [Bool.false_eq_true, if_false]
  generalize b.send (.event e (b.phase 10)) = c at hsent ⊢
  have hwrote : PwrKept b (c.wrote 10 (severity e.code == 3)) := by
    obtain ⟨v, rings, h⟩ := wrote_eq (b := c) 10 (severity e.code == 3)
    rw [h]
    exact (hsent.wr (R.RING_IDX_MOD 10) v (by decide)).onHost _
  exact .ite (fun _ => hwrote.onHost _) fun _ => hwrote

/-- An entry taken from a queue and written. -/
theorem eventTaken_pwr (x : Evs) (e : Event) : PwrKept b (Blk.eventOut { b with evs := x } e ⟨[], []⟩) :=
  PwrKept.trans (c := { b with evs := x }) ((pwrKept_refl b).beside rfl rfl) (eventOut_pwr _ e)

theorem doEventWrite_pwr : PwrKept b (b.doEventWrite ⟨[], []⟩ false) := by
  have hnoted := noteDrops_pwr b
  unfold Blk.doEventWrite
  dsimp only
  generalize b.noteDrops = c at hnoted ⊢
  refine hnoted.trans (.ite (fun _ => pwrKept_refl c) fun _ => ?_)
  rw [if_neg Bool.false_ne_true]
  split
  · exact pwrKept_refl c
  · exact eventTaken_pwr c _ _
  · exact eventTaken_pwr c _ _
  · exact .ite (fun _ => eventTaken_pwr c _ _) fun _ => eventTaken_pwr c _ _

theorem flushEvents_pwr : PwrKept b b.flushEvents := PwrKept.foldl (fun b _ => doEventWrite_pwr b) b

theorem doTrimSave_pwr : PwrKept b b.doTrimSave :=
  .ite (fun _ => (pwrKept_refl b).beside rfl rfl) fun _ => pwrKept_refl b

theorem doRecordDone_pwr (s : State) : PwrKept s.blk s.doRecordDone.blk := by
  unfold State.doRecordDone
  dsimp only
  split
  · exact pwrKept_refl _
  · exact ((((((pwrKept_refl s.blk).onNvs _).flag R.STR_STAT_WR false (by decide)).wr R.STR_STAT_USED _ (by decide)).wr
      R.STR_STAT_NEWEST _ (by decide)).wr R.STR_RECNO_RECNO _ (by decide)).raise _ _ _

theorem dropRecord_pwr (sev no : Nat) : PwrKept b (b.dropRecord sev no) := by
  unfold Blk.dropRecord
  dsimp only
  refine ((PwrKept.inc (pwrKept_refl b) _ ?_).onNvs _).raise _ _ _
  split <;> decide

theorem endInterval_pwr (s : State) (type fnEnd : Nat) : PwrKept s.blk (s.endInterval type fnEnd).blk := by
  have hswap : PwrKept s.blk (s.blk.swapBanks.onNvs fun x => { x with recno := (s.blk.nvs.recno + 1) % 2 ^ 32 }) :=
    (((pwrKept_refl s.blk).wr R.STR_STAT_BANK _ (by decide)).onNvs _).onNvs _
  unfold State.endInterval
  dsimp only
  generalize (s.blk.swapBanks.onNvs fun x => { x with recno := (s.blk.nvs.recno + 1) % 2 ^ 32 }) = c at hswap ⊢
  split
  · exact ((hswap.flag R.STR_STAT_WR true (by decide)).wr R.STR_STAT_USED _ (by decide)).onNvs _
  · exact (hswap.onNvs _).trans (dropRecord_pwr _ _ _)

theorem shutdownRecord_pwr (s : State) : PwrKept s.blk s.shutdownRecord.blk := by
  unfold State.shutdownRecord
  split_ifs
  · exact (doRecordDone_pwr s).trans ((endInterval_pwr _ 1 _).trans (doRecordDone_pwr _))
  · exact pwrKept_refl _

end

/-- The state in which an orderly shutdown removes the domains. -/
theorem orderly_standby (s : State) : ∃ b : Blk, PwrKept s.blk b ∧
    (s.orderly false).blk = (b.reduced onlyVault false).onPwr fun p => { p with v33 := false } := by
  have hblock : PwrKept s.blk (s.blk.each 8 fun n b => if [1, 2].contains (b.pstate n) then b.blockTo n 0 else b) :=
    PwrKept.each (fun n hn b => .ite (fun _ => gateKept_pwr b (blockTo_gate b 0 hn) (b.blockTo_far n 0)) fun _ => pwrKept_refl b) _
  have hoff : ∀ b : Blk, PwrKept b (b.each 8 fun n b => b.bridgesOff n 0) :=
    PwrKept.each fun n hn b => gateKept_pwr b (bridgesOff_gate b 0 hn) (b.bridgesOff_far n 0)
  unfold State.orderly
  dsimp only
  rw [if_neg Bool.false_ne_true]
  generalize hc : ((s.blk.each 8 fun n b => if [1, 2].contains (b.pstate n) then b.blockTo n 0 else b).each 8 fun n b =>
    b.bridgesOff n 0) = c
  have hkept : PwrKept s.blk c := hc ▸ hblock.trans (hoff _)
  clear hc
  have hrec : PwrKept c (if (c.pwr.step == 8) = true then { s with blk := c }.shutdownRecord else { s with blk := c }).blk := by
    split_ifs
    · exact shutdownRecord_pwr { s with blk := c }
    · exact pwrKept_refl c
  generalize (if (c.pwr.step == 8) = true then { s with blk := c }.shutdownRecord else { s with blk := c }) = t at hrec ⊢
  have hsave : PwrKept t.blk (if (c.pwr.step == 8) = true then t.blk.doTrimSave.flushEvents else t.blk) :=
    .ite (fun _ => (doTrimSave_pwr _).trans (flushEvents_pwr _)) fun _ => pwrKept_refl _
  generalize (if (c.pwr.step == 8) = true then t.blk.doTrimSave.flushEvents else t.blk) = d at hsave ⊢
  exact ⟨_, ((hkept.trans hrec).trans hsave).trans (c := d) (d := { d with freeCtr := d.freeCtr + 1 })
    ((pwrKept_refl d).beside rfl rfl), rfl⟩

/-- What an orderly shutdown for standby leaves. -/
theorem orderly_shows (s : State) : (s.orderly false).blk.pwr = { s.blk.pwr with
      step := 0, ride := none, held := false, hot := false, noImg := false, img := none, v33 := false } ∧
    (∀ d : Dom, d ≠ .vault → (s.orderly false).blk.powered d = false) ∧
    (s.orderly false).blk.on R.PWR_RSTPIN_LEVEL = s.blk.on R.PWR_RSTPIN_LEVEL := by
  obtain ⟨b, ⟨hsame, hpwr⟩, heq⟩ := orderly_standby s
  have hred := reduced_pwr b onlyVault false
  have hpow := fun d hd => reduced_powered b (keep := onlyVault) false rfl (d := d) hd
  have hpin := reduced_pin b false (f := R.PWR_RSTPIN_LEVEL) rfl
  rw [heq]
  generalize b.reduced onlyVault false = c at hred hpow hpin ⊢
  refine ⟨?_, hpow, hpin.trans (same_on hsame R.PWR_RSTPIN_LEVEL (by decide))⟩
  rw [onPwr_pwr, hred, hpwr]

/-! The rows. -/

section
variable {s : State}

/-- VMAIN is there, a cause of the start to come. -/
def State.vmainHere (s : State) : State := { s with blk := (s.blk.onPwr fun p => { p with vmain := true }).addCause 1 }

theorem vmainHere_shows : s.vmainHere.blk.pwr = { s.blk.pwr with vmain := true, cause := Nat.lor s.blk.pwr.cause (2 ^ 1) } ∧
    (∀ d, s.vmainHere.blk.powered d = s.blk.powered d) ∧ ∀ f, s.vmainHere.blk.on f = s.blk.on f := ⟨rfl, fun _ => rfl, fun _ => rfl⟩

/-- The reading of VMAIN after a start. -/
theorem reading_kept (b : Blk) : (b.reading R.PWR_VMON_VMAIN 1700 65536).pwr = b.pwr ∧
    (∀ g : Fld, g.off ≠ 0x2000 → (b.reading R.PWR_VMON_VMAIN 1700 65536).on g = b.on g) ∧
    1700 ≤ (b.reading R.PWR_VMON_VMAIN 1700 65536).rd R.PWR_VMON_VMAIN := by
  obtain ⟨hge, -⟩ := reading_bounds b R.PWR_VMON_VMAIN (by decide : R.PWR_VMON_VMAIN.lo + R.PWR_VMON_VMAIN.w ≤ 32)
    (by decide : 1700 < 65536) (by decide)
  refine ⟨?_, fun g hg => congrArg (· != 0) (reading_rd_off b R.PWR_VMON_VMAIN g 1700 65536 hg), hge⟩
  exact Blk.wr_pwr { b with freeCtr := b.freeCtr + 1 } _ _

theorem doVmainStart_eq (hv : s.blk.pwr.vault = true) (hm : s.blk.pwr.vmain = false) (ha : s.blk.pwr.auto = true)
    (h0 : s.blk.pwr.step = 0) (hh : s.blk.pwr.hot = false) : s.doVmainStart =
      { s.vmainHere.tryStart with blk := s.vmainHere.tryStart.blk.reading R.PWR_VMON_VMAIN 1700 65536 } := by
  unfold State.doVmainStart
  dsimp only
  rw [if_pos hv, if_neg (by rw [hm]; exact Bool.false_ne_true)]
  exact if_pos ⟨ha, h0, hh⟩

/-- VMAIN comes where nothing keeps the module from starting. -/
theorem doVmainStart_starts (hv : s.blk.pwr.vault = true) (hm : s.blk.pwr.vmain = false) (ha : s.blk.pwr.auto = true)
    (h0 : s.blk.pwr.step = 0) (hh : s.blk.pwr.hot = false) (hl : s.blk.on R.PWR_RSTPIN_LEVEL = true) :
    s.doVmainStart.blk.pwr.vmain = true ∧ s.doVmainStart.blk.pwr.step = 1 ∧ s.doVmainStart.blk.powered .safe = true ∧
      s.doVmainStart.blk.powered .nvs = true ∧ s.doVmainStart.blk.powered .fabric = s.blk.powered .fabric ∧
      1700 ≤ s.doVmainStart.blk.rd R.PWR_VMON_VMAIN ∧ s.doVmainStart.blk.on R.PWR_RSTCAUSE_VMAIN = true := by
  obtain ⟨hpw, hdoms, hons⟩ := vmainHere_shows (s := s)
  rw [doVmainStart_eq hv hm ha h0 hh]
  generalize s.vmainHere = u at hpw hdoms hons ⊢
  rw [tryStart_begins (s := u) (.inl ((hons _).trans hl)) (by rw [hpw])]
  obtain ⟨hpwr, hpow, hcause, -⟩ := beginStart_starts u
  have hreg : u.beginStart.blk.on R.PWR_RSTCAUSE_VMAIN = true := by
    rw [hcause R.PWR_RSTCAUSE_VMAIN rfl rfl (by decide), hpw]
    exact bitAt_lor_self _ 1
  have hstart : u.beginStart.blk.pwr.vmain = true ∧ u.beginStart.blk.pwr.step = 1 := by
    rw [hpwr, hpw]
    exact ⟨rfl, rfl⟩
  generalize u.beginStart = t at hpow hreg hstart ⊢
  obtain ⟨hrp, hoff, hge⟩ := reading_kept t.blk
  generalize t.blk.reading R.PWR_VMON_VMAIN 1700 65536 = r at hrp hoff hge ⊢
  have hdom : ∀ d : Dom, r.powered d = (d == .vault || d == .safe || d == .nvs || u.blk.powered d) := fun d =>
    (hoff (bitOf R.PWR_DOMSTAT_ON d.bit) (by show (0x2004 : Nat) ≠ 0x2000; decide)).trans (hpow d)
  refine ⟨?_, ?_, hdom .safe, hdom .nvs, (hdom .fabric).trans (hdoms _), hge, (hoff _ (by decide)).trans hreg⟩
  · show r.pwr.vmain = true
    rw [hrp]
    exact hstart.1
  · show r.pwr.step = 1
    rw [hrp]
    exact hstart.2

theorem doVmainStart_waits (hv : s.blk.pwr.vault = true) (hm : s.blk.pwr.vmain = false) (ha : s.blk.pwr.auto = false) :
    s.doVmainStart = { s with blk := s.blk.onPwr fun p => { p with vmain := true } } := by
  unfold State.doVmainStart
  dsimp only
  rw [if_pos hv, if_neg (by rw [hm]; exact Bool.false_ne_true)]
  exact if_neg fun h => Bool.false_ne_true (ha.symm.trans h.1)

/-- A start from a state that VMAIN and the pin let start. -/
theorem tryStart_starts {u : State} (hl : u.blk.on R.PWR_RSTPIN_LEVEL = true ∨ u.blk.rstIgnored = true)
    (hv : u.blk.pwr.vmain = true) : u.tryStart.blk.pwr = u.blk.pwr.started ∧
    (∀ d : Dom, u.tryStart.blk.powered d = (d == .vault || d == .safe || d == .nvs || u.blk.powered d)) ∧
    (∀ g : Fld, g.off = 0x2010 → g.w = 1 → g.lo < 32 → u.tryStart.blk.on g = bitAt u.blk.pwr.cause g.lo) ∧
    ∀ g : Fld, ¬ bootWords g.off → g.off ≠ 0x2004 → u.tryStart.blk.on g = u.blk.on g := by
  rw [tryStart_begins hl hv]
  exact beginStart_starts u

theorem pin_word : ¬ bootWords 0x201C := by decide

/-! The pin RST_N (R521, R522). -/

/-- The pin read low or high: MASK stays. -/
theorem pinLevel_shows (b : Blk) (v : Bool) : (b.flag R.PWR_RSTPIN_LEVEL v).on R.PWR_RSTPIN_LEVEL = v ∧
    (b.flag R.PWR_RSTPIN_LEVEL v).rstIgnored = b.rstIgnored ∧ (b.flag R.PWR_RSTPIN_LEVEL v).pwr = b.pwr := by
  refine ⟨Blk.on_flag_self _ _ _ inWord_of rfl, ?_, Blk.flag_pwr ..⟩
  unfold Blk.rstIgnored
  rw [Blk.flag_pwr]
  exact congrArg (· || bitAt b.pwr.cause 10) (Blk.on_wr_apart _ _ _ _ inWord_of apart_above)

/-- The state in which RST_N holds the module. -/
def State.atPin (s : State) (lost : Bool) : State :=
  { s.cutWrites with blk := ((s.cutWrites.blk.reduced onlyVault lost).addCause 3).onPwr fun p => { p with held := true, auto := true } }

theorem atPin_holds (s : State) (lost : Bool) : (s.atPin lost).blk.pwr.held = true ∧ (s.atPin lost).blk.pwr.step = 0 ∧
    bitAt (s.atPin lost).blk.pwr.cause 3 = true ∧
    (s.atPin lost).blk.on R.PWR_RSTPIN_LEVEL = s.blk.on R.PWR_RSTPIN_LEVEL ∧
    ∀ d : Dom, d ≠ .vault → (s.atPin lost).blk.powered d = false := by
  have hred := reduced_pwr s.cutWrites.blk onlyVault lost
  have hpow := fun d hd => reduced_powered s.cutWrites.blk (keep := onlyVault) lost rfl (d := d) hd
  have hpin := reduced_pin s.cutWrites.blk lost (f := R.PWR_RSTPIN_LEVEL) rfl
  unfold State.atPin
  generalize s.cutWrites.blk.reduced onlyVault lost = c at hred hpow hpin ⊢
  have hstep : ((c.addCause 3).onPwr fun p => { p with held := true, auto := true }).pwr.step = c.pwr.step := rfl
  refine ⟨rfl, ?_, bitAt_lor_self _ 3, hpin, hpow⟩
  show ((c.addCause 3).onPwr fun p => { p with held := true, auto := true }).pwr.step = 0
  rw [hstep, hred]

theorem doRstAccepted_holds (hv : s.blk.pwr.vault = true) (hi : s.blk.rstIgnored = false) (hh : s.blk.pwr.hot = false)
    (hd : s.blk.pwr.held = false) : s.doRstAccepted.blk.pwr.held = true ∧ s.doRstAccepted.blk.pwr.step = 0 ∧
    bitAt s.doRstAccepted.blk.pwr.cause 3 = true ∧ s.doRstAccepted.blk.on R.PWR_RSTPIN_LEVEL = false ∧
    ∀ d : Dom, d ≠ .vault → s.doRstAccepted.blk.powered d = false := by
  obtain ⟨hlev, hign, hpwr⟩ := pinLevel_shows s.blk false
  have heq : s.doRstAccepted = State.atPin { s with blk := s.blk.flag R.PWR_RSTPIN_LEVEL false }
      (s.blk.flag R.PWR_RSTPIN_LEVEL false).interval := by
    unfold State.doRstAccepted
    dsimp only
    rw [if_neg (by rw [hv]; decide), if_neg (by rw [hign, hpwr, hi, hh, hd]; decide)]
    rfl
  obtain ⟨h1, h2, h3, h4, h5⟩ := atPin_holds { s with blk := s.blk.flag R.PWR_RSTPIN_LEVEL false }
    (s.blk.flag R.PWR_RSTPIN_LEVEL false).interval
  rw [heq]
  exact ⟨h1, h2, h3, h4.trans hlev, h5⟩

/-- RST_N is released. -/
theorem doRstReleased_starts (hv : s.blk.pwr.vault = true) (hd : s.blk.pwr.held = true) (hm : s.blk.pwr.vmain = true) :
    s.doRstReleased.blk.pwr.held = false ∧ s.doRstReleased.blk.pwr.step = 1 ∧
      s.doRstReleased.blk.on R.PWR_RSTPIN_LEVEL = true ∧ s.doRstReleased.blk.powered .safe = true := by
  obtain ⟨hlev, -, hpwr⟩ := pinLevel_shows s.blk true
  have heq : s.doRstReleased = State.tryStart { s with
      blk := (s.blk.flag R.PWR_RSTPIN_LEVEL true).onPwr fun p => { p with held := false } } := by
    unfold State.doRstReleased
    dsimp only
    rw [if_neg (by rw [hv]; decide), hpwr, if_pos hd]
  rw [heq]
  generalize s.blk.flag R.PWR_RSTPIN_LEVEL true = c at hlev hpwr ⊢
  have hu : ∀ f : Pwr → Pwr, (c.onPwr f).on R.PWR_RSTPIN_LEVEL = true := fun _ => hlev
  have hvm : (c.onPwr fun p => { p with held := false }).pwr.vmain = true := by
    rw [onPwr_pwr, hpwr]
    exact hm
  obtain ⟨hp, hpow, -, hrest⟩ := tryStart_starts (u := { s with blk := c.onPwr fun p => { p with held := false } }) (.inl (hu _)) hvm
  rw [hp]
  exact ⟨rfl, rfl, (hrest _ pin_word (by decide)).trans (hu _), hpow .safe⟩

theorem bitAt_land_self (c : Nat) : bitAt (Nat.land c 0x400) 10 = bitAt c 10 := by
  rw [bitAt_testBit, bitAt_testBit]
  show (c &&& 0x400).testBit 10 = c.testBit 10
  rw [Nat.testBit_and]
  exact Bool.and_true _

/-- A stuck pin is ignored, and the module starts. -/
theorem doPinStuck_starts (hd : s.blk.pwr.held = true) (hl : s.blk.on R.PWR_RSTPIN_LEVEL = false) (hm : s.blk.pwr.vmain = true) :
    s.doPinStuck.blk.pwr.held = false ∧ s.doPinStuck.blk.pwr.step = 1 ∧ s.doPinStuck.blk.on R.PWR_RSTCAUSE_PINMASK = true ∧
      s.doPinStuck.blk.rstIgnored = true := by
  have heq : s.doPinStuck = State.tryStart { s with blk := (s.blk.addCause 10).onPwr fun p => { p with held := false } } := by
    unfold State.doPinStuck
    dsimp only
    rw [if_pos ⟨hd, hl⟩]
  have hcause : bitAt ((s.blk.addCause 10).onPwr fun p => { p with held := false }).pwr.cause 10 = true := bitAt_lor_self _ 10
  have hvm : ((s.blk.addCause 10).onPwr fun p => { p with held := false }).pwr.vmain = true := hm
  rw [heq]
  generalize (s.blk.addCause 10).onPwr (fun p => { p with held := false }) = c at hcause hvm ⊢
  have hign : c.rstIgnored = true := by
    unfold Blk.rstIgnored
    rw [hcause, Bool.or_true]
  obtain ⟨hp, -, hbit, -⟩ := tryStart_starts (u := { s with blk := c }) (.inr hign) hvm
  refine ⟨by rw [hp]; rfl, by rw [hp]; rfl, (hbit R.PWR_RSTCAUSE_PINMASK rfl rfl (by decide)).trans hcause, ?_⟩
  unfold Blk.rstIgnored
  rw [hp]
  show (_ || bitAt (Nat.land c.pwr.cause 0x400) 10) = true
  rw [bitAt_land_self, hcause, Bool.or_true]

/-- The bit of a cause taken out. -/
theorem bitAt_sub_self (c : Nat) : bitAt (c - Nat.land c 0x400) 10 = false := by
  have hland : Nat.land c 0x400 = if bitAt c 10 = true then 1024 else 0 := by
    rw [bitAt_testBit]
    show c &&& 2 ^ 10 = _
    rw [Nat.and_two_pow]
    cases c.testBit 10 <;> rfl
  rw [hland]
  split_ifs with h
  · have hodd : c / 2 ^ 10 % 2 = 1 := beq_iff_eq.mp h
    have hrest : (c - 2 ^ 10 * 1) / 2 ^ 10 = 2 * (c / 2 ^ 10 / 2) := by
      rw [Nat.sub_mul_div]
      exact Nat.sub_eq_of_eq_add ((Nat.div_add_mod (c / 2 ^ 10) 2).symm.trans (congrArg (2 * (c / 2 ^ 10 / 2) + ·) hodd))
    rw [show 1024 = 2 ^ 10 * 1 from rfl, bitAt, hrest, Nat.mul_mod_right]
    rfl
  · exact Bool.eq_false_of_not_eq_true h

theorem doRearm_rearms {b : Blk} (hm : b.on R.PWR_RSTPIN_MASK = true) : b.doRearm.on R.PWR_RSTPIN_MASK = false ∧
    b.doRearm.on R.PWR_RSTPIN_LEVEL = true ∧ b.doRearm.rstIgnored = false ∧ Reported b.doRearm 0x0031 0 := by
  have hign : b.rstIgnored = true := by
    unfold Blk.rstIgnored
    rw [hm, Bool.true_or]
  unfold Blk.doRearm
  rw [if_pos hign]
  dsimp only
  have hmask : (b.flag R.PWR_RSTPIN_MASK false).on R.PWR_RSTPIN_MASK = false := Blk.on_flag_self _ _ _ inWord_of rfl
  generalize b.flag R.PWR_RSTPIN_MASK false = c at hmask ⊢
  have hlev : (c.flag R.PWR_RSTPIN_LEVEL true).on R.PWR_RSTPIN_LEVEL = true := Blk.on_flag_self _ _ _ inWord_of rfl
  have hkept : (c.flag R.PWR_RSTPIN_LEVEL true).on R.PWR_RSTPIN_MASK = false :=
    (Blk.on_wr_apart _ _ _ _ inWord_of apart_above).trans hmask
  generalize c.flag R.PWR_RSTPIN_LEVEL true = d at hlev hkept ⊢
  have hon : ∀ (f : Pwr → Pwr) g, (d.onPwr f).on g = d.on g := fun _ _ => rfl
  have hbit : bitAt (d.onPwr fun p => { p with cause := p.cause - Nat.land p.cause 0x400 }).pwr.cause 10 = false :=
    bitAt_sub_self _
  have hm' := (hon (fun p => { p with cause := p.cause - Nat.land p.cause 0x400 }) R.PWR_RSTPIN_MASK).trans hkept
  have hl' := (hon (fun p => { p with cause := p.cause - Nat.land p.cause 0x400 }) R.PWR_RSTPIN_LEVEL).trans hlev
  generalize (d.onPwr fun p => { p with cause := p.cause - Nat.land p.cause 0x400 }) = e at hbit hm' hl' ⊢
  have hmr := (Blk.raise_on e 0x0031 0 [] R.PWR_RSTPIN_MASK (by decide)).trans hm'
  refine ⟨hmr, (Blk.raise_on e 0x0031 0 [] R.PWR_RSTPIN_LEVEL (by decide)).trans hl', ?_, e.raise_self _ _ _⟩
  unfold Blk.rstIgnored
  rw [hmr, Blk.raise_pwr, hbit]
  rfl

/-! A write of PWR_CTL (R524). -/

theorem pwrWrite_discards {v : Nat} (hf : s.blk.powered .fabric = true) (h8 : s.blk.pwr.step = 8)
    (hv : v / 256 % 256 ≠ 0xA5 ∨ v % 4 = 3) : s.pwrWrite v = { s with blk := s.blk.raise 0x0124 0 [] } := by
  unfold State.pwrWrite
  dsimp only
  rw [if_neg (by rw [hf, h8]; decide), if_pos hv]

theorem pwrWrite_standby {v : Nat} (hf : s.blk.powered .fabric = true) (h8 : s.blk.pwr.step = 8) (hk : v / 256 % 256 = 0xA5)
    (hv : v % 4 = 1) (hidle : ∀ n < 8, (s.blk.pstate n = 0 ∨ s.blk.pstate n = 3 ∨ s.blk.pstate n = 5) ∧
      (s.blk.stpState n = 0 ∨ s.blk.stpState n = 3 ∨ s.blk.stpState n = 4)) (hr : s.blk.rd R.MIR_STAT_ROLE ≠ 3) :
    s.pwrWrite v = s.orderly false := by
  have hall : ((List.range 8).all fun n => [0, 3, 5].contains (s.blk.pstate n) && [0, 3, 4].contains (s.blk.stpState n)) =
      true := by
    refine List.all_eq_true.mpr fun n hn => ?_
    obtain ⟨hp, hs⟩ := hidle n (List.mem_range.mp hn)
    rw [Bool.and_eq_true, List.contains_iff_mem, List.contains_iff_mem]
    constructor
    · obtain h | h | h := hp <;> rw [h] <;> decide
    · obtain h | h | h := hs <;> rw [h] <;> decide
  unfold State.pwrWrite
  dsimp only
  rw [if_neg (by rw [hf, h8]; decide), if_neg (not_or.mpr ⟨not_not_intro hk, fun h => absurd (hv.symm.trans h) (by decide)⟩), if_pos hv,
    if_pos ⟨hall, hr⟩]

theorem pwrWrite_resets {v : Nat} (hf : s.blk.powered .fabric = true) (h8 : s.blk.pwr.step = 8) (hk : v / 256 % 256 = 0xA5)
    (hv : v % 4 = 2) : s.pwrWrite v = (s.orderly false).systemReset 4 false := by
  unfold State.pwrWrite
  dsimp only
  rw [if_neg (by rw [hf, h8]; decide), if_neg (not_or.mpr ⟨not_not_intro hk, fun h => absurd (hv.symm.trans h) (by decide)⟩),
    if_neg (fun h => absurd (hv.symm.trans h) (by decide)), if_pos hv]

/-- A system reset where VMAIN is there and the pin reads high: the start, its cause shown, FABRIC off. -/
theorem systemReset_starts (cause : Nat) (lost : Bool) (hc : cause < 32) (hv : s.blk.pwr.vmain = true)
    (hl : s.blk.on R.PWR_RSTPIN_LEVEL = true) : (s.systemReset cause lost).blk.pwr.step = 1 ∧
    (s.systemReset cause lost).blk.on ⟨0x2010, cause, 1⟩ = true ∧ (s.systemReset cause lost).blk.powered .fabric = false := by
  obtain ⟨hpwr, hpow, hpin⟩ := atReset_shows s cause lost
  rw [systemReset_eq]
  generalize s.atReset cause lost = t at hpwr hpow hpin ⊢
  obtain ⟨hp, hdom, hbit, -⟩ := tryStart_starts (u := t) (.inl (hpin.trans hl)) (by rw [hpwr]; exact hv)
  refine ⟨by rw [hp]; rfl, (hbit ⟨0x2010, cause, 1⟩ rfl rfl hc).trans ?_, (hdom .fabric).trans (hpow .fabric (by decide))⟩
  rw [hpwr]
  exact bitAt_lor_self _ _

/-! The wakes (R527). -/

/-- What wakes the module is a cause of its start. -/
theorem wake_starts {bit : Nat} (hb : bit < 32) (hv : s.blk.pwr.vault = true) (h0 : s.blk.pwr.step = 0)
    (hd : s.blk.pwr.held = false) (hh : s.blk.pwr.hot = false) (hm : s.blk.pwr.vmain = true)
    (hl : s.blk.on R.PWR_RSTPIN_LEVEL = true) : (s.wake bit).blk.pwr.step = 1 ∧ (s.wake bit).blk.powered .safe = true ∧
      (s.wake bit).blk.on ⟨0x2010, bit, 1⟩ = true := by
  have heq : s.wake bit = State.tryStart { s with blk := (s.blk.addCause bit).onPwr fun p => { p with auto := true } } := by
    unfold State.wake
    dsimp only
    rw [if_pos ⟨hv, h0, hd, hh⟩]
  have hvm : ((s.blk.addCause bit).onPwr fun p => { p with auto := true }).pwr.vmain = true := hm
  have hlev : ((s.blk.addCause bit).onPwr fun p => { p with auto := true }).on R.PWR_RSTPIN_LEVEL = true := hl
  have hcause : bitAt ((s.blk.addCause bit).onPwr fun p => { p with auto := true }).pwr.cause bit = true := bitAt_lor_self _ _
  rw [heq]
  generalize (s.blk.addCause bit).onPwr (fun p => { p with auto := true }) = c at hvm hlev hcause ⊢
  obtain ⟨hp, hdom, hbit, -⟩ := tryStart_starts (u := { s with blk := c }) (.inl hlev) hvm
  exact ⟨by rw [hp]; rfl, hdom .safe, (hbit ⟨0x2010, bit, 1⟩ rfl rfl hb).trans hcause⟩

theorem doRtcAlarm_wakes (hv : s.blk.pwr.vault = true) (h0 : s.blk.pwr.step = 0) (hd : s.blk.pwr.held = false)
    (hh : s.blk.pwr.hot = false) (hm : s.blk.pwr.vmain = true) (hl : s.blk.on R.PWR_RSTPIN_LEVEL = true)
    (he : s.blk.on R.PWR_WAKE_RTCEN = true) (ha : s.blk.rd R.PWR_ALARM_SEC ≠ 0) (hr : s.blk.clk.rtcRun = true) :
    s.doRtcAlarm.blk.pwr.step = 1 ∧ s.doRtcAlarm.blk.powered .safe = true ∧ s.doRtcAlarm.blk.on ⟨0x2010, 9, 1⟩ = true := by
  have hset : ∀ c, c = (if s.blk.rd R.PWR_RTC_SEC < s.blk.rd R.PWR_ALARM_SEC then
      s.blk.wr R.PWR_RTC_SEC (s.blk.rd R.PWR_ALARM_SEC) else s.blk) →
      c.pwr = s.blk.pwr ∧ c.on R.PWR_RSTPIN_LEVEL = s.blk.on R.PWR_RSTPIN_LEVEL := by
    rintro c rfl
    split_ifs
    · exact ⟨Blk.wr_pwr .., congrArg (· != 0) (Blk.rd_wr_off _ _ _ _ (by decide))⟩
    · exact ⟨rfl, rfl⟩
  unfold State.doRtcAlarm
  dsimp only
  rw [if_pos ⟨he, ha, h0, .inr hr⟩]
  obtain ⟨hpwr, hlev⟩ := hset _ rfl
  generalize (if s.blk.rd R.PWR_RTC_SEC < s.blk.rd R.PWR_ALARM_SEC then
      s.blk.wr R.PWR_RTC_SEC (s.blk.rd R.PWR_ALARM_SEC) else s.blk) = c at hpwr hlev ⊢
  exact wake_starts (s := { s with blk := c }) (by decide) (by rw [hpwr]; exact hv) (by rw [hpwr]; exact h0)
    (by rw [hpwr]; exact hd) (by rw [hpwr]; exact hh) (by rw [hpwr]; exact hm) (hlev.trans hl)

/-! VAULT (R510). -/

/-- VAULT's own registers hold their reset words, and no other domain is powered. -/
theorem vaultReset_shows (b : Blk) (v : Bool) (lost : Bool) :
    (((b.reduced (fun _ => false) lost).resetRegs fun d => d.dom == .vault).setDom .vault v).powered .vault = v ∧
    (((b.reduced (fun _ => false) lost).resetRegs fun d => d.dom == .vault).setDom .vault v).rd R.PWR_RTC_SEC = 0 ∧
    ∀ d : Dom, d ≠ .vault →
      (((b.reduced (fun _ => false) lost).resetRegs fun d => d.dom == .vault).setDom .vault v).powered d = false := by
  have hregs := resetRegs_regs (b := b.reduced (fun _ => false) lost) fun d => d.dom == .vault
  have hpow := fun d hd => reduced_powered b (keep := fun _ => false) lost rfl (d := d) hd
  generalize b.reduced (fun _ => false) lost = c at hregs hpow ⊢
  have hrtc : (c.resetRegs fun d => d.dom == .vault).rd R.PWR_RTC_SEC = 0 := by
    have hreg : (findReg R.PWR_RTC_SEC.off).any (fun d => d.dom == .vault) = true ∧ resetWord R.PWR_RTC_SEC.off = 0 := by decide
    obtain ⟨hany, hreset⟩ := hreg
    rw [Blk.rd, word_reset hregs, hany, if_pos rfl, hreset]
    rfl
  have hoff : ∀ d : Dom, d ≠ .vault → (c.resetRegs fun d => d.dom == .vault).powered d = false := fun d hd => by
    have hreg : (findReg R.PWR_DOMSTAT_ON.off).any (fun d => d.dom == .vault) = false := by decide
    refine Eq.trans ?_ (hpow d hd)
    rw [Blk.powered, Blk.powered, Blk.on, Blk.on, Blk.rd, Blk.rd, word_reset hregs]
    show ((bitOf R.PWR_DOMSTAT_ON d.bit).get (if (findReg R.PWR_DOMSTAT_ON.off).any (fun d => d.dom == .vault) = true then _
      else _) != 0) = _
    rw [hreg, if_neg Bool.false_ne_true]
  generalize (c.resetRegs fun d => d.dom == .vault) = e at hrtc hoff ⊢
  exact ⟨Blk.powered_setDom_self _ _ _, (Blk.rd_wr_off _ _ _ _ (by decide)).trans hrtc,
    fun d hd => (Blk.powered_setDom_ne e v hd).trans (hoff d hd)⟩

theorem doVaultOn_powers {b : Blk} (x : Nat) (hv : b.pwr.vault = false) : (b.doVaultOn x).pwr.vault = true ∧
    (b.doVaultOn x).powered .vault = true ∧ (b.doVaultOn x).pwr.x32strt = x ∧ (b.doVaultOn x).rd R.PWR_RTC_SEC = 0 ∧
    ∀ d : Dom, d ≠ .vault → (b.doVaultOn x).powered d = false := by
  obtain ⟨hon, hrtc, hoff⟩ := vaultReset_shows b true false
  unfold Blk.doVaultOn Blk.vaultUp
  rw [if_neg (by rw [hv]; exact Bool.false_ne_true)]
  dsimp only
  generalize ((b.reduced (fun _ => false) false).resetRegs fun d => d.dom == .vault).setDom .vault true = c at hon hrtc hoff ⊢
  have hstate : ∀ (f : Pwr → Pwr) (g : Clk → Clk), (∀ h, ((c.onPwr f).onClk g).rd h = c.rd h) ∧ ((c.onPwr f).onClk g).pwr = f c.pwr :=
    fun _ _ => ⟨fun _ => rfl, rfl⟩
  obtain ⟨hrd, hpw⟩ := hstate (fun p => { p with vault := true, x32strt := x, auto := true, cause := 1, v33 := false })
    fun _ => Clk.cold
  generalize (c.onPwr fun p => { p with vault := true, x32strt := x, auto := true, cause := 1, v33 := false }).onClk
    (fun _ => Clk.cold) = e at hrd hpw ⊢
  have hkept : ∀ h : Fld, h.off ≠ 0x201C → (e.flag R.PWR_RSTPIN_LEVEL true).rd h = c.rd h := fun h hh =>
    (Blk.rd_wr_off _ _ _ _ hh).trans (hrd h)
  have hpwr : (e.flag R.PWR_RSTPIN_LEVEL true).pwr = e.pwr := Blk.flag_pwr ..
  have hdom : ∀ d : Dom, (e.flag R.PWR_RSTPIN_LEVEL true).powered d = c.powered d := fun d =>
    congrArg (· != 0) (hkept (bitOf R.PWR_DOMSTAT_ON d.bit) (by show (0x2004 : Nat) ≠ 0x201C; decide))
  rw [hpwr, hpw]
  exact ⟨rfl, (hdom _).trans hon, rfl, (hkept _ (by decide)).trans hrtc, fun d hd => (hdom d).trans (hoff d hd)⟩

theorem doVaultLoss_loses {b : Blk} (hv : b.pwr.vault = true) (hm : b.pwr.vmain = false) (hs : b.powered .safe = false) :
    b.doVaultLoss.pwr.vault = false ∧ ∀ d : Dom, b.doVaultLoss.powered d = false := by
  obtain ⟨hon, -, hoff⟩ := vaultReset_shows b false false
  unfold Blk.doVaultLoss
  rw [if_pos ⟨hv, hm, hs⟩]
  dsimp only
  generalize ((b.reduced (fun _ => false) false).resetRegs fun d => d.dom == .vault).setDom .vault false = c at hon hoff ⊢
  refine ⟨rfl, fun d => ?_⟩
  by_cases hd : d = .vault
  · subst hd
    exact hon
  · exact hoff d hd

end

/-- Settles O42: what starts the module, what holds it, and how VAULT comes and goes. -/
theorem startsAndResets : Obligations.StartsAndResets := by
  refine ⟨fun s hv hm ha h0 hh hl => ⟨_, rfl, doVmainStart_starts hv hm ha h0 hh hl⟩, fun s hv hm ha => ?waits,
    fun s hv hi hh hd => ⟨_, rfl, doRstAccepted_holds hv hi hh hd⟩, fun s hv hd hm => ⟨_, rfl, doRstReleased_starts hv hd hm⟩,
    fun s hd hl hm => ⟨_, rfl, doPinStuck_starts hd hl hm⟩, fun s hm => ⟨_, rfl, doRearm_rearms hm⟩,
    fun s v c hc hf h8 => ?ctl, fun s c hv h0 hd hh hm hl hc => ?wake,
    fun s x hv => ⟨_, rfl, doVaultOn_powers x.val hv⟩, fun s hv hm hs => ⟨_, rfl, doVaultLoss_loses hv hm hs⟩⟩
  case waits =>
    refine ⟨_, rfl, ?_⟩
    rw [doVmainStart_waits hv hm ha]
    exact ⟨rfl, rfl⟩
  case ctl =>
    have hexec : exec c s = .next (s.pwrWrite v.toNat) := by
      obtain rfl | rfl := hc <;> rfl
    refine ⟨fun hbad => ⟨_, hexec, ?_⟩, fun hk h1 hidle hr => ⟨_, hexec, ?_⟩, fun hk h2 hvm hl => ⟨_, hexec, ?_⟩⟩
    · rw [pwrWrite_discards hf h8 hbad]
      exact ⟨s.blk.raise_self _ _ _, Blk.raise_pwr .., rfl⟩
    · rw [pwrWrite_standby hf h8 hk h1 hidle hr]
      obtain ⟨hpwr, hpow, -⟩ := orderly_shows s
      rw [hpwr]
      exact ⟨rfl, rfl, rfl, hpow⟩
    · rw [pwrWrite_resets hf h8 hk h2]
      obtain ⟨hpwr, -, hlev⟩ := orderly_shows s
      exact systemReset_starts 4 false (by decide) (by rw [hpwr]; exact hvm) (hlev.trans hl)
  case wake =>
    obtain ⟨rfl, he⟩ | ⟨rfl, he, ha, hr⟩ := hc
    · refine ⟨_, rfl, ?_⟩
      unfold State.doWakePin
      rw [if_pos he]
      exact wake_starts (by decide) hv h0 hd hh hm hl
    · exact ⟨_, rfl, doRtcAlarm_wakes hv h0 hd hh hm hl he ha hr⟩

end Sys2Proof.Machine
end

section
/-! PROOFS. The thermal manager between ticks (R296 to R311): a recovered NTC input, the cross-check, the rate and the
override input. -/

namespace Sys2Proof.Machine

section
variable {b : Blk}

/-- Class NTC following its inputs writes no register. -/
theorem ntcFollow_regs (b : Blk) : b.ntcFollow.regs = b.regs := by
  unfold Blk.ntcFollow
  dsimp only
  have hleft : ∀ l : List Nat, (b.eachOf l fun c d => d.undegrade 5 c).regs = b.regs := fun l =>
    List.foldlRecOn (motive := fun d : Blk => d.regs = b.regs) _ _ rfl fun _ hd _ _ => hd
  split_ifs
  · exact hleft _
  · exact hleft _

theorem doNtcRecover_recovers (k : Nat) (hbrk : b.on (R.THM_NTCT_BRK k) = true) (hgood : 64 ≤ b.thm.good.getD k 0) :
    (b.doNtcRecover k).on (R.THM_NTCT_BRK k) = false ∧
      SameBut b (b.doNtcRecover k) fun a => a = (R.THM_NTCT_BRK k).off := by
  rw [Blk.doNtcRecover, if_pos ⟨hbrk, hgood⟩]
  have hregs := ntcFollow_regs (b.flag (R.THM_NTCT_BRK k) false)
  have hself : (b.flag (R.THM_NTCT_BRK k) false).on (R.THM_NTCT_BRK k) = false := Blk.on_flag_self _ _ _ inWord_of rfl
  have hsame : SameBut b (b.flag (R.THM_NTCT_BRK k) false) fun a => a = (R.THM_NTCT_BRK k).off :=
    same_flag (same_refl _ _) _ _ rfl
  generalize b.flag (R.THM_NTCT_BRK k) false = c at hregs hself hsame ⊢
  refine ⟨?_, same_trans hsame (same_regs hregs)⟩
  unfold Blk.on Blk.rd Blk.word at hself ⊢
  rw [hregs]
  exact hself

/-- A failed cross-check is shown and reported once in its episode. -/
theorem doThermalXchk_reports {n : Nat} {winding : Bool}
    (hcount : b.msFrames 1000 ≤ if winding then (b.thmd n).xW else (b.thmd n).xJ)
    (hep : (if winding then (b.thmd n).epW else (b.thmd n).epJ) = false)
    (hcfg : b.configured n = true) (hen : b.on (R.THM_Dn_CFG_EN n) = true) :
    (b.doThermalXchk n winding).on (R.THM_Dn_STAT_XCHK n) = true ∧ Reported (b.doThermalXchk n winding) 0x8144 n := by
  unfold Blk.doThermalXchk
  dsimp only
  rw [if_pos ⟨hcount, hep, hcfg, hen⟩]
  generalize (b.onThmd n fun t => if winding then { t with epW := true } else { t with epJ := true }) = c
  have hself : (c.flag (R.THM_Dn_STAT_XCHK n) true).on (R.THM_Dn_STAT_XCHK n) = true := Blk.on_flag_self _ _ _ inWord_of rfl
  exact ⟨(Blk.raise_on _ _ _ _ _ (ne_of_gt (Nat.lt_of_lt_of_le (by decide) (Nat.le_add_right 0xE300 _)))).trans hself,
    Blk.raise_self _ _ _ _⟩

/-- What one drive's thermal state holds after a change of it. -/
theorem thmd_onThmd {n : Nat} {f : ThmDrv → ThmDrv} {P : ThmDrv → Prop} (hf : ∀ t, P (f t)) (h0 : P default) :
    P ((b.onThmd n f).thmd n) := by
  show P ((b.thm.drvs.modify n f).getD n default)
  rw [List.getD_eq_getElem?_getD, List.getElem?_modify_eq]
  cases b.thm.drvs[n]? with
  | none => exact h0
  | some t => exact hf t

end

/-- Settles O12: the recoveries of the thermal manager, its cross-check, and the override input. -/
theorem thermalJudgements : Obligations.ThermalJudgements := by
  refine ⟨fun s k hp hb hg => yields_within rfl hp (doNtcRecover_recovers k.val hb hg),
    fun s n hp hx he hc hn => yields_within rfl hp (doThermalXchk_reports (winding := true) hx he hc hn),
    fun s n hp hx he hc hn => yields_within rfl hp (doThermalXchk_reports (winding := false) hx he hc hn),
    fun s n hp he hr => yields_within rfl hp ?winding, fun s n hp he hr => yields_within rfl hp ?stage,
    fun s hp => yields_within rfl hp ⟨rfl, rfl⟩, fun s hp => yields_within rfl hp ⟨rfl, rfl⟩⟩
  case winding =>
    have hret : s.blk.doRateRecover n.val true = s.blk.onThmd n.val fun t => { t with rw := { t.rw with exc := false } } :=
      if_pos ⟨he, hr⟩
    rw [hret]
    exact ⟨thmd_onThmd (P := fun t => t.rw.exc = false) (fun _ => rfl) rfl, rfl⟩
  case stage =>
    have hret : s.blk.doRateRecover n.val false = s.blk.onThmd n.val fun t => { t with rj := { t.rj with exc := false } } :=
      if_pos ⟨he, hr⟩
    rw [hret]
    exact ⟨thmd_onThmd (P := fun t => t.rj.exc = false) (fun _ => rfl) rfl, rfl⟩

end Sys2Proof.Machine
end

section
/-! PROOFS. The clocks (R495 to R504): what a switch of the references and a loss of lock leave and show. -/

namespace Sys2Proof.Machine

/-- The words that the clocks write: their own, the spares, the states of the Ethernet ports. -/
abbrev clkWords (x : Nat) : Prop := (0x1000 ≤ x ∧ x < 0x2000) ∨ x = 0x1202C ∨ x = 0x16104 ∨ x = 0x16144

/-- Every report, Hasp's state, the pair and the supplies stay, and the words beside those of the clocks. -/
structure ClkKept (b c : Blk) : Prop where
  words : SameBut b c fun x => clkWords x ∨ x = 0x4020
  reports : ∀ code src, Reported b code src → Reported c code src
  hasp : c.hasp = b.hasp
  mir : c.mir = b.mir
  pwr : c.pwr = b.pwr

theorem clkKept_refl (b : Blk) : ClkKept b b := ⟨same_refl b _, fun _ _ h => h, rfl, rfl, rfl⟩

namespace ClkKept
variable {b c d : Blk}

theorem trans (h : ClkKept b c) (k : ClkKept c d) : ClkKept b d where
  words := same_trans h.words k.words
  reports x y r := k.reports x y (h.reports x y r)
  hasp := k.hasp.trans h.hasp
  mir := k.mir.trans h.mir
  pwr := k.pwr.trans h.pwr

theorem wr (h : ClkKept b c) (f : Fld) (v : Nat) (hf : clkWords f.off) : ClkKept b (c.wr f v) := by
  have hne : ∀ x, ¬ clkWords x → f.off ≠ x := fun x hx => ne_of_mem (S := clkWords) hf hx
  have hring : f.off < 0x4100 ∨ 0x4260 ≤ f.off := by
    obtain ⟨-, h⟩ | h | h | h := hf
    · exact .inl (lt_trans h (by decide))
    · exact .inr (le_of_le_of_eq (by decide) h.symm)
    · exact .inr (le_of_le_of_eq (by decide) h.symm)
    · exact .inr (le_of_le_of_eq (by decide) h.symm)
  exact h.trans ⟨same_wr (same_refl c _) f v (.inl hf), fun code src r => reported_wr r f v (hne _ (by decide))
    (ringSpace_wr c f v 10 hring (by decide) (hne _ (by decide))), Blk.wr_hasp .., Blk.wr_mir .., Blk.wr_pwr ..⟩

theorem raise (h : ClkKept b c) (code n : Nat) (i : List Int) : ClkKept b (c.raise code n i) :=
  h.trans ⟨same_raise (same_refl c _) code n i (.inr rfl), fun _ _ r => Blk.raise_mono _ _ _ _ r, Blk.raise_hasp ..,
    Blk.raise_mir .., Blk.raise_pwr ..⟩

theorem onClk (h : ClkKept b c) (f : Clk → Clk) : ClkKept b (c.onClk f) :=
  h.trans ⟨same_regs rfl, fun _ _ r => reported_keep r rfl rfl rfl, rfl, rfl, rfl⟩

theorem onLodePort (h : ClkKept b c) (p : Nat) (f : LodePort → LodePort) : ClkKept b (c.onLodePort p f) :=
  h.trans ⟨same_regs rfl, fun _ _ r => reported_keep r rfl rfl rfl, rfl, rfl, rfl⟩

theorem ite {p : Prop} [Decidable p] (hc : p → ClkKept b c) (hd : ¬ p → ClkKept b d) : ClkKept b (if p then c else d) := by
  split_ifs with h
  · exact hc h
  · exact hd h

theorem each {n : Nat} {f : Nat → Blk → Blk} (h : ∀ i < n, ∀ b, ClkKept b (f i b)) (b : Blk) : ClkKept b (b.each n f) :=
  List.foldlRecOn (motive := fun c : Blk => ClkKept b c) _ _ (clkKept_refl b) fun c hc i hi =>
    hc.trans (h i (List.mem_range.mp hi) c)

/-- A standby is ready or not as before. -/
theorem standby (h : ClkKept b c) : c.standbyReady = b.standbyReady := by
  have hrd : ∀ g : Fld, ¬ (clkWords g.off ∨ g.off = 0x4020) → c.rd g = b.rd g := fun g hg => same_rd h.words g hg
  unfold Blk.standbyReady
  rw [h.mir, hrd R.MIR_STAT_ROLE (by decide), hrd R.MIR_STAT_PROLE (by decide), hrd (R.MIR_CFGCRC_CRC 0) (by decide),
    hrd (R.MIR_CFGCRC_CRC 1) (by decide)]

end ClkKept

/-- A field of another word, or apart in its own, is as before. -/
theorem Blk.rd_wr_beside (b : Blk) {f g : Fld} (v : Nat) (hf : f.inWord) (h : g.off ≠ f.off ∨ f.apart g) :
    (b.wr f v).rd g = b.rd g := by
  obtain h | h := h
  · exact Blk.rd_wr_off _ _ _ _ h
  · exact Blk.rd_wr_apart _ _ _ _ hf h

/-- Two fields of one word that lie apart. -/
theorem apart_by {f g : Fld} (h : (Nat.ble (f.lo + f.w) g.lo || Nat.ble (g.lo + g.w) f.lo) = true := by rfl) : f.apart g :=
  ((Bool.or_eq_true_iff ..).mp h).imp Nat.le_of_ble_eq_true Nat.le_of_ble_eq_true

/-! The locks of the PLLs (R495). -/

/-- A field beside the locks. -/
def offLocks (g : Fld) : Prop := g.off ≠ 0x1000 ∨ g.lo + g.w ≤ 7 ∨ 10 ≤ g.lo

theorem offLocks_above {g : Fld} (h : Nat.ble 10 g.lo = true := by rfl) : offLocks g := .inr (.inr (Nat.le_of_ble_eq_true h))

theorem lockFld_shape (p : Nat) : (lockFld p).off = 0x1000 ∧ (lockFld p).w = 1 ∧ 7 ≤ (lockFld p).lo ∧ (lockFld p).lo ≤ 9 := by
  unfold lockFld
  split_ifs <;> decide

theorem lockFld_inWord (p : Nat) : (lockFld p).inWord := by
  obtain ⟨-, hw, -, hlo⟩ := lockFld_shape p
  unfold Fld.inWord
  rw [hw]
  exact le_trans (Nat.add_le_add_right hlo 1) (by decide)

section
variable {b : Blk}

theorem lock_beside (p v : Nat) {g : Fld} (hg : offLocks g) : (b.wr (lockFld p) v).rd g = b.rd g := by
  obtain ⟨hoff, hw, hlo, hhi⟩ := lockFld_shape p
  refine Blk.rd_wr_beside b v (lockFld_inWord p) (hg.imp (fun h e => h (e.trans hoff)) fun h => ?_)
  unfold Fld.apart
  rw [hw]
  exact h.symm.imp (le_trans (Nat.add_le_add_right hhi 1)) fun h7 => le_trans h7 hlo

theorem onClk_rd (f : Clk → Clk) (g : Fld) : (b.onClk f).rd g = b.rd g := rfl

theorem pllHold_shows (p : Nat) : ClkKept b (b.pllHold p) ∧ (b.pllHold p).on (lockFld p) = false ∧
    ∀ g, offLocks g → (b.pllHold p).rd g = b.rd g := by
  obtain ⟨hoff, hw, -, -⟩ := lockFld_shape p
  have hkept := (clkKept_refl b).onClk fun c => { c with hold := c.hold.set p true }
  have hrd := onClk_rd (b := b) fun c => { c with hold := c.hold.set p true }
  unfold Blk.pllHold
  generalize b.onClk (fun c => { c with hold := c.hold.set p true }) = c at hkept hrd ⊢
  exact ⟨hkept.wr (lockFld p) _ (by rw [hoff]; decide), Blk.on_flag_self _ _ _ (lockFld_inWord p) hw,
    fun g hg => (lock_beside p _ hg).trans (hrd g)⟩

/-- A forced switch: FORCED shown and counted; every field beside the locks, FORCED and its count stays. -/
theorem forcedSwitch_shows (mux : Nat) : ClkKept b (b.forcedSwitch mux) ∧ (b.forcedSwitch mux).on R.CLK_STAT_FORCED = true ∧
    ∀ g, offLocks g → (g.off ≠ 0x1000 ∨ R.CLK_STAT_FORCED.apart g) → (g.off ≠ 0x1018 ∨ R.CLK_CNT_FORCED.apart g) →
      g.off ≠ 0x4020 → (b.forcedSwitch mux).rd g = b.rd g := by
  have hflag : (b.flag R.CLK_STAT_FORCED true).on R.CLK_STAT_FORCED = true := Blk.on_flag_self _ _ _ inWord_of rfl
  have hkf := (clkKept_refl b).wr R.CLK_STAT_FORCED 1 (by decide)
  have hrf : ∀ g : Fld, (g.off ≠ 0x1000 ∨ R.CLK_STAT_FORCED.apart g) → (b.flag R.CLK_STAT_FORCED true).rd g = b.rd g :=
    fun g hg => Blk.rd_wr_beside b _ inWord_of hg
  replace hkf : ClkKept b (b.flag R.CLK_STAT_FORCED true) := hkf
  unfold Blk.forcedSwitch
  dsimp only
  generalize b.flag R.CLK_STAT_FORCED true = c at hflag hkf hrf ⊢
  have hcount : (c.inc R.CLK_CNT_FORCED).rd R.CLK_STAT_FORCED = c.rd R.CLK_STAT_FORCED := Blk.rd_inc_off _ _ _ (by decide)
  have hkc : ClkKept b (c.inc R.CLK_CNT_FORCED) := hkf.wr R.CLK_CNT_FORCED _ (by decide)
  have hrc : ∀ g : Fld, (g.off ≠ 0x1018 ∨ R.CLK_CNT_FORCED.apart g) → (c.inc R.CLK_CNT_FORCED).rd g = c.rd g :=
    fun g hg => Blk.rd_wr_beside c _ inWord_of hg
  generalize c.inc R.CLK_CNT_FORCED = d at hcount hkc hrc ⊢
  have hke := hkc.raise 0x0111 mux []
  have hre : ∀ g : Fld, g.off ≠ 0x4020 → (d.raise 0x0111 mux []).rd g = d.rd g := fun g hg => Blk.raise_rd _ _ _ _ _ hg
  generalize d.raise 0x0111 mux [] = e at hke hre ⊢
  have hon : e.on R.CLK_STAT_FORCED = true := by
    unfold Blk.on at hflag ⊢
    rw [hre _ (by decide), hcount]
    exact hflag
  have hrd : ∀ g, (g.off ≠ 0x1000 ∨ R.CLK_STAT_FORCED.apart g) → (g.off ≠ 0x1018 ∨ R.CLK_CNT_FORCED.apart g) → g.off ≠ 0x4020 →
      e.rd g = b.rd g := fun g h1 h2 h3 => (hre g h3).trans ((hrc g h2).trans (hrf g h1))
  split_ifs
  · obtain ⟨k0, -, r0⟩ := pllHold_shows (b := e) 0
    obtain ⟨k1, -, r1⟩ := pllHold_shows (b := e.pllHold 0) 1
    obtain ⟨k2, -, r2⟩ := pllHold_shows (b := (e.pllHold 0).pllHold 1) 2
    have hall : ∀ g, offLocks g → (((e.pllHold 0).pllHold 1).pllHold 2).rd g = e.rd g := fun g hg =>
      (r2 g hg).trans ((r1 g hg).trans (r0 g hg))
    refine ⟨((hke.trans k0).trans k1).trans k2, ?_, fun g hl h1 h2 h3 => (hall g hl).trans (hrd g h1 h2 h3)⟩
    unfold Blk.on at hon ⊢
    rw [hall R.CLK_STAT_FORCED offLocks_above]
    exact hon
  · exact ⟨hke, hon, fun g _ h1 h2 h3 => hrd g h1 h2 h3⟩

/-! The references leave XO (R498, R499). -/

theorem startHold_shows {ref : Nat} (hr : ref < 4) : ClkKept b (b.startHold ref) ∧
    (b.startHold ref).rd R.CLK_STAT_REFSEL = ref ∧ (b.startHold ref).on R.CLK_STAT_HOLD = true ∧
    ∀ g : Fld, (g.off ≠ 0x1000 ∨ (R.CLK_STAT_REFSEL.apart g ∧ R.CLK_STAT_HOLD.apart g)) → g.off ≠ 0x1202C → g.off ≠ 0x1014 →
      (b.startHold ref).rd g = b.rd g := by
  unfold Blk.startHold
  dsimp only
  have href : (b.wr R.CLK_STAT_REFSEL ref).rd R.CLK_STAT_REFSEL = ref :=
    (Blk.rd_wr_self _ _ _ inWord_of).trans (Nat.mod_eq_of_lt hr)
  have hk1 := (clkKept_refl b).wr R.CLK_STAT_REFSEL ref (by decide)
  have hr1 : ∀ g : Fld, (g.off ≠ 0x1000 ∨ R.CLK_STAT_REFSEL.apart g) → (b.wr R.CLK_STAT_REFSEL ref).rd g = b.rd g :=
    fun g hg => Blk.rd_wr_beside b _ inWord_of hg
  generalize b.wr R.CLK_STAT_REFSEL ref = c at href hk1 hr1 ⊢
  have hhold : (c.flag R.CLK_STAT_HOLD true).on R.CLK_STAT_HOLD = true := Blk.on_flag_self _ _ _ inWord_of rfl
  have hk2 : ClkKept b (c.flag R.CLK_STAT_HOLD true) := hk1.wr R.CLK_STAT_HOLD 1 (by decide)
  have hr2 : ∀ g : Fld, (g.off ≠ 0x1000 ∨ R.CLK_STAT_HOLD.apart g) → (c.flag R.CLK_STAT_HOLD true).rd g = c.rd g :=
    fun g hg => Blk.rd_wr_beside c _ inWord_of hg
  generalize c.flag R.CLK_STAT_HOLD true = d at hhold hk2 hr2 ⊢
  have hk3 : ClkKept b (d.flag R.WARD_SPARE_XO false) := hk2.wr R.WARD_SPARE_XO 0 (by decide)
  have hr3 : ∀ g : Fld, g.off ≠ 0x1202C → (d.flag R.WARD_SPARE_XO false).rd g = d.rd g := fun g hg => Blk.rd_wr_off _ _ _ _ hg
  generalize d.flag R.WARD_SPARE_XO false = e at hk3 hr3 ⊢
  have hout : ∀ c : Blk, c = (if b.on R.CLK_STAT_HOLD = true then e else
      ((e.wr R.CLK_HOLD_SEC 0).wr R.CLK_HOLD_DTMAX 0).onClk fun c => { c with swT := e.dieB, secCyc := 0, told := false }) →
      ClkKept b c ∧ ∀ g : Fld, g.off ≠ 0x1014 → c.rd g = e.rd g := by
    rintro _ rfl
    split_ifs
    · exact ⟨hk3, fun _ _ => rfl⟩
    · exact ⟨((hk3.wr R.CLK_HOLD_SEC 0 (by decide)).wr R.CLK_HOLD_DTMAX 0 (by decide)).onClk _, fun g hg =>
        (onClk_rd _ g).trans ((Blk.rd_wr_off _ _ _ _ hg).trans (Blk.rd_wr_off _ _ _ _ hg))⟩
  obtain ⟨hk4, hr4⟩ := hout _ rfl
  generalize (if b.on R.CLK_STAT_HOLD = true then e else
      ((e.wr R.CLK_HOLD_SEC 0).wr R.CLK_HOLD_DTMAX 0).onClk fun c => { c with swT := e.dieB, secCyc := 0, told := false }) = u
    at hk4 hr4 ⊢
  refine ⟨hk4, ?_, ?_, fun g h1 h2 h3 => ?_⟩
  · rw [hr4 _ (by decide), hr3 _ (by decide), hr2 _ (.inr apart_by)]
    exact href
  · unfold Blk.on at hhold ⊢
    rw [hr4 _ (by decide), hr3 _ (by decide)]
    exact hhold
  · rw [hr4 g h3, hr3 g h2, hr2 g (h1.imp id And.right), hr1 g (h1.imp id And.left)]

theorem portPpm_kept {p : Nat} (hp : p < 2) (ofs : Int) (hold : Bool) : ClkKept b (b.portPpm p ofs hold) ∧
    ∀ g : Fld, g.off < 0x2000 → (b.portPpm p ofs hold).rd g = b.rd g := by
  have hw : clkWords (0x16104 + 0x40 * p) := (by decide : ∀ p < 2, clkWords (0x16104 + 0x40 * p)) p hp
  have hk : ClkKept b (b.wrS (R.LODE_Pk_STAT_OFS p) ofs) := (clkKept_refl b).wr (R.LODE_Pk_STAT_OFS p) _ hw
  have hr : ∀ g : Fld, g.off < 0x2000 → (b.wrS (R.LODE_Pk_STAT_OFS p) ofs).rd g = b.rd g := fun g hg =>
    Blk.rd_wr_off _ _ _ _ (Nat.ne_of_lt (lt_trans hg lt_above))
  unfold Blk.portPpm
  dsimp only
  generalize b.wrS (R.LODE_Pk_STAT_OFS p) ofs = c at hk hr ⊢
  have hkp : ClkKept b (c.flag (R.LODE_Pk_STAT_PPM p) true) := hk.wr (R.LODE_Pk_STAT_PPM p) 1 hw
  have hrp : ∀ g : Fld, g.off < 0x2000 → (c.flag (R.LODE_Pk_STAT_PPM p) true).rd g = c.rd g := fun g hg =>
    Blk.rd_wr_off _ _ _ _ (Nat.ne_of_lt (lt_trans hg lt_above))
  have hnoted : ∀ (d : Blk) f, (∀ g, (d.onLodePort p f).rd g = d.rd g) := fun _ _ _ => rfl
  split_ifs
  · exact ⟨hkp, fun g hg => (hrp g hg).trans (hr g hg)⟩
  · have hraise := (hkp.onLodePort p fun x => { x with ppm := true }).raise 0xE103 (p + 1) [ofs]
    refine ⟨hraise, fun g hg => ?_⟩
    rw [Blk.raise_rd _ _ _ _ _ (Nat.ne_of_lt (lt_trans hg (by decide))), hnoted, hrp g hg, hr g hg]
  · exact ⟨hk.onLodePort p _, fun g hg => (hnoted _ _ g).trans (hr g hg)⟩

/-- BOUND follows. -/
theorem showBound_shows {v : Nat} (hv : v < 512) : ClkKept b (b.showBound v) ∧ (b.showBound v).rd R.CLK_STAT_BOUND = v ∧
    ∀ g : Fld, g.off < 0x2000 → (g.off ≠ 0x1000 ∨ R.CLK_STAT_BOUND.apart g) → (b.showBound v).rd g = b.rd g := by
  unfold Blk.showBound
  split_ifs with h
  · exact ⟨clkKept_refl b, h, fun _ _ _ => rfl⟩
  · dsimp only
    have hb : (b.wr R.CLK_STAT_BOUND v).rd R.CLK_STAT_BOUND = v := (Blk.rd_wr_self _ _ _ inWord_of).trans (Nat.mod_eq_of_lt hv)
    have hk := (clkKept_refl b).wr R.CLK_STAT_BOUND v (by decide)
    have hr : ∀ g : Fld, (g.off ≠ 0x1000 ∨ R.CLK_STAT_BOUND.apart g) → (b.wr R.CLK_STAT_BOUND v).rd g = b.rd g :=
      fun g hg => Blk.rd_wr_beside b _ inWord_of hg
    generalize b.wr R.CLK_STAT_BOUND v = c at hb hk hr ⊢
    have hports : ∀ p < 2, ∀ d : Blk, ClkKept d (if d.powered .comm = false ∨ d.on (R.LODE_Pk_CFG_EN p) = false then d
        else if (d.lodePort p).pdOk then d.onLodePort p (fun x => { x with ppm := x.ppm && decide (0 < v) })
        else d.portPpm p (Int.ofNat (100 * v)) (decide (0 < v))) ∧ ∀ g : Fld, g.off < 0x2000 →
        (if d.powered .comm = false ∨ d.on (R.LODE_Pk_CFG_EN p) = false then d
        else if (d.lodePort p).pdOk then d.onLodePort p (fun x => { x with ppm := x.ppm && decide (0 < v) })
        else d.portPpm p (Int.ofNat (100 * v)) (decide (0 < v))).rd g = d.rd g := by
      intro p hp d
      split_ifs
      · exact ⟨clkKept_refl d, fun _ _ => rfl⟩
      · exact ⟨(clkKept_refl d).onLodePort p _, fun _ _ => rfl⟩
      · exact portPpm_kept hp _ _
    have hall : ClkKept c (c.each 2 fun p d => if d.powered .comm = false ∨ d.on (R.LODE_Pk_CFG_EN p) = false then d
        else if (d.lodePort p).pdOk then d.onLodePort p (fun x => { x with ppm := x.ppm && decide (0 < v) })
        else d.portPpm p (Int.ofNat (100 * v)) (decide (0 < v))) ∧ ∀ g : Fld, g.off < 0x2000 →
        (c.each 2 fun p d => if d.powered .comm = false ∨ d.on (R.LODE_Pk_CFG_EN p) = false then d
        else if (d.lodePort p).pdOk then d.onLodePort p (fun x => { x with ppm := x.ppm && decide (0 < v) })
        else d.portPpm p (Int.ofNat (100 * v)) (decide (0 < v))).rd g = c.rd g :=
      List.foldlRecOn (motive := fun d : Blk => ClkKept c d ∧ ∀ g : Fld, g.off < 0x2000 → d.rd g = c.rd g) _ _
        ⟨clkKept_refl c, fun _ _ => rfl⟩ fun d hd p hp =>
          have hstep := hports p (List.mem_range.mp hp) d
          ⟨hd.1.trans hstep.1, fun g hg => (hstep.2 g hg).trans (hd.2 g hg)⟩
    obtain ⟨hka, hra⟩ := hall
    exact ⟨hk.trans hka, (hra _ (by decide)).trans hb, fun g hg ha => (hra g hg).trans (hr g ha)⟩

/-! The two switches of the references. -/

/-- A forced or an unforced switch. -/
theorem maybeForced_shows (forced : Bool) : ClkKept b (if forced then b.forcedSwitch 0 else b) ∧
    (forced = true → (if forced then b.forcedSwitch 0 else b).on R.CLK_STAT_FORCED = true) ∧
    (forced = false → (if forced then b.forcedSwitch 0 else b).on R.CLK_STAT_FORCED = b.on R.CLK_STAT_FORCED) ∧
    ∀ g, offLocks g → (g.off ≠ 0x1000 ∨ R.CLK_STAT_FORCED.apart g) → (g.off ≠ 0x1018 ∨ R.CLK_CNT_FORCED.apart g) →
      g.off ≠ 0x4020 → (if forced then b.forcedSwitch 0 else b).rd g = b.rd g := by
  cases forced with
  | true =>
    obtain ⟨hk, hf, hr⟩ := forcedSwitch_shows (b := b) 0
    exact ⟨hk, fun _ => hf, fun h => absurd h (by decide), hr⟩
  | false => exact ⟨clkKept_refl b, fun h => absurd h (by decide), fun _ => rfl, fun _ _ _ _ _ => rfl⟩

theorem toFlintB_shows (cause : Nat) (forced : Bool) : ClkKept b (b.toFlintB cause forced) ∧
    (b.toFlintB cause forced).rd R.CLK_STAT_REFSEL = 1 ∧ (b.toFlintB cause forced).on R.CLK_STAT_HOLD = true ∧
    (b.toFlintB cause forced).rd R.CLK_STAT_BOUND = 50 ∧ Reported (b.toFlintB cause forced) 0x0215 0 ∧
    (forced = true → (b.toFlintB cause forced).on R.CLK_STAT_FORCED = true) ∧
    (forced = false → (b.toFlintB cause forced).on R.CLK_STAT_FORCED = b.on R.CLK_STAT_FORCED) ∧
    ∀ g : Fld, (g.off = 0x1000 ∧ 11 < g.lo ∧ g.lo + g.w ≤ 23) ∨ (g.off = 0x1018 ∧ g.lo + g.w ≤ 24) →
      (b.toFlintB cause forced).rd g = b.rd g := by
  obtain ⟨hk, hf, hu, hr⟩ := maybeForced_shows (b := b) forced
  unfold Blk.toFlintB
  dsimp only
  generalize (if forced then b.forcedSwitch 0 else b) = c at hk hf hu hr ⊢
  have hkt := hk.onClk fun x => { x with trim := tabAt c.afe.tabF c.flintBin }
  have hrt := onClk_rd (b := c) fun x => { x with trim := tabAt c.afe.tabF c.flintBin }
  generalize (c.onClk fun x => { x with trim := tabAt c.afe.tabF c.flintBin }) = d at hkt hrt ⊢
  obtain ⟨hks, href, hhold, hrs⟩ := startHold_shows (b := d) (ref := 1) (by decide)
  generalize d.startHold 1 = e at hks href hhold hrs ⊢
  obtain ⟨hkb, hbound, hrb⟩ := showBound_shows (b := e) (v := 50) (by decide)
  generalize e.showBound 50 = u at hkb hbound hrb ⊢
  have hrr : ∀ g : Fld, g.off ≠ 0x4020 → (u.raise 0x0215 0 [Int.ofNat cause]).rd g = u.rd g := fun g hg => Blk.raise_rd _ _ _ _ _ hg
  have hself := u.raise_self 0x0215 0 [Int.ofNat cause]
  have hkr := (((hkt.trans hks).trans hkb)).raise 0x0215 0 [Int.ofNat cause]
  generalize u.raise 0x0215 0 [Int.ofNat cause] = w at hrr hself hkr ⊢
  have hfor : w.on R.CLK_STAT_FORCED = c.on R.CLK_STAT_FORCED := by
    unfold Blk.on
    rw [hrr _ (by decide), hrb _ (by decide) (.inr apart_by), hrs _ (.inr ⟨apart_by, apart_by⟩) (by decide) (by decide), hrt]
  refine ⟨hkr, ?_, ?_, (hrr _ (by decide)).trans hbound, hself, fun h => hfor.trans (hf h), fun h => hfor.trans (hu h), fun g hg => ?_⟩
  · rw [hrr _ (by decide), hrb _ (by decide) (.inr apart_by), href]
  · unfold Blk.on at hhold ⊢
    rw [hrr _ (by decide), hrb _ (by decide) (.inr apart_by)]
    exact hhold
  · have hoff : g.off = 0x1000 ∨ g.off = 0x1018 := hg.imp And.left And.left
    have hne : ∀ x, 0x1000 ≠ x → 0x1018 ≠ x → g.off ≠ x := fun x h1 h2 => hoff.elim (fun e => e ▸ h1) fun e => e ▸ h2
    have hlt : g.off < 0x2000 := hoff.elim (fun e => lt_of_eq_of_lt e (by decide)) fun e => lt_of_eq_of_lt e (by decide)
    have hstat : g.off ≠ 0x1000 ∨ (11 < g.lo ∧ g.lo + g.w ≤ 23) := hg.symm.imp (fun h => by rw [h.1]; decide) And.right
    have hcnt : g.off ≠ 0x1018 ∨ g.lo + g.w ≤ 24 := hg.imp (fun h => by rw [h.1]; decide) And.right
    rw [hrr _ (hne _ (by decide) (by decide)), hrb _ hlt (hstat.imp id fun h => .inr h.2),
      hrs _ (hstat.imp id fun h => ⟨.inl (le_trans (by decide) h.1), .inl (le_trans (by decide) h.1)⟩)
        (hne _ (by decide) (by decide)) (hne _ (by decide) (by decide)), hrt,
      hr g (hstat.imp id fun h => .inr (le_trans (by decide) h.1)) (hstat.imp id fun h => .inl (le_trans (by decide) h.1))
        (hcnt.imp id .inr) (hne _ (by decide) (by decide))]

/-- A timer begins: no word, no report. -/
theorem degrade_kept (cls : Nat) (chs : List Nat) (outer : Bool) : (b.degrade cls chs outer).regs = b.regs ∧
    (b.degrade cls chs outer).evs = b.evs := ⟨rfl, rfl⟩

/-- With no ready standby the references go to Flint-A. -/
theorem toFlintA_shows (forced : Bool) (hs : b.standbyReady = false) :
    (b.toFlintA forced).rd R.CLK_STAT_REFSEL = 2 ∧ (b.toFlintA forced).on R.CLK_STAT_FBOK = false ∧
    (b.toFlintA forced).rd R.CLK_STAT_BOUND = 511 ∧ Reported (b.toFlintA forced) 0x0317 0 ∧
    (b.toFlintA forced).on R.CLK_STAT_XOOK = b.on R.CLK_STAT_XOOK := by
  obtain ⟨hk, -, -, hr⟩ := maybeForced_shows (b := b) forced
  unfold Blk.toFlintA
  dsimp only
  generalize (if forced then b.forcedSwitch 0 else b) = c at hk hr ⊢
  obtain ⟨hks, href, -, hrs⟩ := startHold_shows (b := c) (ref := 2) (by decide)
  generalize c.startHold 2 = d at hks href hrs ⊢
  have hfb : (d.flag R.CLK_STAT_FBOK false).on R.CLK_STAT_FBOK = false := Blk.on_flag_self _ _ _ inWord_of rfl
  have hkf : ClkKept b (d.flag R.CLK_STAT_FBOK false) := (hk.trans hks).wr R.CLK_STAT_FBOK 0 (by decide)
  have hrf : ∀ g : Fld, (g.off ≠ 0x1000 ∨ R.CLK_STAT_FBOK.apart g) → (d.flag R.CLK_STAT_FBOK false).rd g = d.rd g :=
    fun g hg => Blk.rd_wr_beside d _ inWord_of hg
  generalize d.flag R.CLK_STAT_FBOK false = e at hfb hkf hrf ⊢
  obtain ⟨hkb, hbound, hrb⟩ := showBound_shows (b := e) (v := 511) (by decide)
  generalize e.showBound 511 = u at hkb hbound hrb ⊢
  have hrr : ∀ g : Fld, g.off ≠ 0x4020 → (u.raise 0x0317 0 []).rd g = u.rd g := fun g hg => Blk.raise_rd _ _ _ _ _ hg
  have hself := u.raise_self 0x0317 0 []
  have hkr := (hkf.trans hkb).raise 0x0317 0 []
  generalize u.raise 0x0317 0 [] = w at hrr hself hkr ⊢
  have hlast : ∀ x, x = (if w.rd R.HASP_STAT_HSTATE = 1 then w.wr R.HASP_STAT_HSTATE 2 else w) →
      x.standbyReady = false ∧ Reported x 0x0317 0 ∧ ∀ g : Fld, g.off ≠ 0x10000 → x.rd g = w.rd g := by
    have hsw : w.standbyReady = false := hkr.standby.trans hs
    rintro _ rfl
    split_ifs
    · have hoff : ∀ g : Fld, g.off ≠ 0x10000 → (w.wr R.HASP_STAT_HSTATE 2).rd g = w.rd g := fun g hg => Blk.rd_wr_off _ _ _ _ hg
      refine ⟨?_, reported_wr_above hself R.HASP_STAT_HSTATE 2 (by decide), hoff⟩
      unfold Blk.standbyReady at hsw ⊢
      rw [hoff R.MIR_STAT_ROLE (by decide), hoff R.MIR_STAT_PROLE (by decide), hoff (R.MIR_CFGCRC_CRC 0) (by decide),
        hoff (R.MIR_CFGCRC_CRC 1) (by decide), Blk.wr_mir]
      exact hsw
    · exact ⟨hsw, hself, fun _ _ => rfl⟩
  obtain ⟨hsx, hrepx, hrx⟩ := hlast _ rfl
  generalize (if w.rd R.HASP_STAT_HSTATE = 1 then w.wr R.HASP_STAT_HSTATE 2 else w) = x at hsx hrepx hrx ⊢
  have hrung : ∀ chs, x.rung3 7 chs = x.degrade 7 chs false := fun chs =>
    if_neg (by rw [hsx]; exact Bool.false_ne_true)
  rw [hrung]
  have hdeg : ∀ chs g, (x.degrade 7 chs false).rd g = x.rd g := fun _ _ => rfl
  have hstat : ∀ chs (g : Fld), g.off = 0x1000 → R.CLK_STAT_BOUND.apart g → (x.degrade 7 chs false).rd g = e.rd g :=
    fun chs g ho ha => (hdeg chs g).trans ((hrx g (by rw [ho]; decide)).trans ((hrr g (by rw [ho]; decide)).trans (hrb g (by rw [ho]; decide) (.inr ha))))
  refine ⟨?_, ?_, ?_, reported_keep hrepx rfl rfl rfl, ?_⟩
  · rw [hstat _ _ rfl apart_by, hrf _ (.inr apart_by), href]
  · unfold Blk.on at hfb ⊢
    rw [hstat _ _ rfl apart_by]
    exact hfb
  · rw [hdeg, hrx _ (by decide), hrr _ (by decide), hbound]
  · unfold Blk.on
    rw [hstat _ _ rfl apart_by, hrf _ (.inr apart_by), hrs _ (.inr ⟨apart_by, apart_by⟩) (by decide) (by decide),
      hr R.CLK_STAT_XOOK offLocks_above (.inr apart_by) (.inl (by decide)) (by decide)]

end

end Sys2Proof.Machine
end

section
/-! PROOFS. The references of the clocks, their locks and the real-time clock (R490, R495 to R505). -/

namespace Sys2Proof.Machine

section
variable {b : Blk}

/-! A PLL's reference (R495). -/

theorem doRefLost_holds {p : Nat} (h : b.on (lockFld p) = true) : (b.doRefLost p).on (lockFld p) = false ∧
    (∀ x, (b.doRefLost p).clk.hold[p]? = some x → x = true) ∧ (b.doRefLost p).evs = b.evs := by
  obtain ⟨-, hoff, -⟩ := pllHold_shows (b := b) p
  rw [Blk.doRefLost, if_pos h]
  refine ⟨hoff, fun x hx => ?_, rfl⟩
  replace hx : (b.clk.hold.set p true)[p]? = some x := hx
  rw [List.getElem?_set_self'] at hx
  obtain ⟨-, -, rfl⟩ := Option.map_eq_some_iff.mp hx
  rfl

theorem doRelocked_locks {p : Nat} (h : b.on (lockFld p) = false) (h3 : 3 ≤ b.pwr.step) (hn : p = 2 → b.clk.nOff = false)
    (hs : p < 2 → b.clk.stop = false) : (b.doRelocked p).on (lockFld p) = true ∧
    (∀ x, (b.doRelocked p).clk.hold[p]? = some x → x = false) ∧ (b.doRelocked p).evs = b.evs := by
  obtain ⟨-, hw, -, -⟩ := lockFld_shape p
  rw [Blk.doRelocked, if_pos ⟨h, h3, hn, hs⟩]
  refine ⟨Blk.on_flag_self _ _ _ (lockFld_inWord p) hw, fun x hx => ?_, rfl⟩
  replace hx : (b.clk.hold.set p false)[p]? = some x := hx
  rw [List.getElem?_set_self'] at hx
  obtain ⟨-, -, rfl⟩ := Option.map_eq_some_iff.mp hx
  rfl

/-! XO fails (R496 to R501). -/

/-- What is shown of XO as it fails: its flag, its count; the other fields of CLK_STAT stay. -/
theorem xoShown (b : Blk) : ∃ c : Blk, c = (b.flag R.CLK_STAT_XOOK false).inc R.CLK_CNT_XOF ∧ ClkKept b c ∧
    c.on R.CLK_STAT_XOOK = false ∧ c.rd R.CLK_CNT_XOF = min (b.rd R.CLK_CNT_XOF + 1) R.CLK_CNT_XOF.top ∧
    c.clk = b.clk ∧ ∀ g : Fld, g.off = 0x1000 → R.CLK_STAT_XOOK.apart g → c.rd g = b.rd g := by
  have hk : ClkKept b (b.flag R.CLK_STAT_XOOK false) := (clkKept_refl b).wr R.CLK_STAT_XOOK 0 (by decide)
  have hx : (b.flag R.CLK_STAT_XOOK false).on R.CLK_STAT_XOOK = false := Blk.on_flag_self _ _ _ inWord_of rfl
  have hc : (b.flag R.CLK_STAT_XOOK false).rd R.CLK_CNT_XOF = b.rd R.CLK_CNT_XOF := Blk.rd_wr_off _ _ _ _ (by decide)
  have hg : ∀ g : Fld, R.CLK_STAT_XOOK.apart g → (b.flag R.CLK_STAT_XOOK false).rd g = b.rd g := fun g ha =>
    Blk.rd_wr_apart _ _ _ _ inWord_of ha
  have hclk : (b.flag R.CLK_STAT_XOOK false).clk = b.clk := Blk.flag_clk ..
  generalize b.flag R.CLK_STAT_XOOK false = c at hk hx hc hg hclk ⊢
  exact ⟨_, rfl, hk.wr R.CLK_CNT_XOF _ (by decide), (Blk.on_inc_off _ _ _ (by decide)).trans hx,
    (Blk.rd_inc_self _ _ inWord_of).trans (by rw [hc]), (Blk.inc_clk ..).trans hclk,
    fun g ho ha => (Blk.rd_inc_off _ _ _ (by rw [ho]; decide)).trans (hg g ha)⟩

/-- XO fails where Flint-B is good. -/
theorem xoFailed_toB (cause : Nat) (stopped : Bool) (hr : b.rd R.CLK_STAT_REFSEL = 0) (hf : b.on R.CLK_STAT_FBOK = true)
    (hl : b.clk.fbLost = false) : ∃ c : Blk, b.xoFailed cause stopped = c.toFlintB cause stopped ∧
    c.on R.CLK_STAT_XOOK = false ∧ c.on R.CLK_STAT_FORCED = b.on R.CLK_STAT_FORCED ∧
    c.rd R.CLK_CNT_XOF = min (b.rd R.CLK_CNT_XOF + 1) R.CLK_CNT_XOF.top := by
  obtain ⟨c, heq, -, hx, hcnt, hclk, hg⟩ := xoShown b
  refine ⟨c, ?_, hx, congrArg (· != 0) (hg R.CLK_STAT_FORCED rfl apart_by), hcnt⟩
  have hfb : c.on R.CLK_STAT_FBOK = true := (congrArg (· != 0) (hg R.CLK_STAT_FBOK rfl apart_by)).trans hf
  unfold Blk.xoFailed
  dsimp only
  rw [← heq, if_neg (by rw [hg R.CLK_STAT_REFSEL rfl apart_by, hr]; decide), if_pos ⟨hfb, by rw [hclk]; exact hl⟩]

/-- XO fails where Flint-B is not. -/
theorem xoFailed_toA (cause : Nat) (stopped : Bool) (hr : b.rd R.CLK_STAT_REFSEL = 0)
    (hf : b.on R.CLK_STAT_FBOK = false ∨ b.clk.fbLost = true) : ∃ c : Blk, b.xoFailed cause stopped = c.toFlintA stopped ∧
    ClkKept b c ∧ c.on R.CLK_STAT_XOOK = false := by
  obtain ⟨c, heq, hk, hx, -, hclk, hg⟩ := xoShown b
  refine ⟨c, ?_, hk, hx⟩
  have hbad : ¬ (c.on R.CLK_STAT_FBOK = true ∧ c.clk.fbLost = false) := by
    rw [hclk, Blk.on, hg R.CLK_STAT_FBOK rfl apart_by]
    rintro ⟨h1, h2⟩
    obtain h | h := hf
    · exact Bool.false_ne_true (h.symm.trans h1)
    · exact Bool.false_ne_true (h2.symm.trans h)
  unfold Blk.xoFailed
  dsimp only
  rw [← heq, if_neg (by rw [hg R.CLK_STAT_REFSEL rfl apart_by, hr]; decide), if_neg hbad]

/-- The window of a failure as CLK_MON shows it, and the age of XO. -/
theorem window_shown (b : Blk) (w : ClkWindow) (f : Clk → Clk) (hf : ∀ c, (f c).fbLost = c.fbLost) :
    ClkKept b ((b.showWindowDev w).onClk f) ∧ ((b.showWindowDev w).onClk f).clk.fbLost = b.clk.fbLost ∧
    ∀ g : Fld, g.off ≠ 0x1010 → ((b.showWindowDev w).onClk f).rd g = b.rd g := by
  have hdev : ∀ c, c = b.showWindowDev w → ClkKept b c ∧ c.clk = b.clk ∧ ∀ g : Fld, g.off ≠ 0x1010 → c.rd g = b.rd g := by
    rintro _ rfl
    unfold Blk.showWindowDev
    split_ifs
    · exact ⟨((clkKept_refl b).wr R.CLK_MON_XODEV _ (by decide)).wr R.CLK_MON_FBDEV _ (by decide),
        (Blk.wr_clk ..).trans (Blk.wr_clk ..),
        fun g hg => (Blk.rd_wr_off _ _ _ _ hg).trans (Blk.rd_wr_off _ _ _ _ hg)⟩
    · exact ⟨clkKept_refl b, rfl, fun _ _ => rfl⟩
  obtain ⟨hk, hclk, hg⟩ := hdev _ rfl
  generalize b.showWindowDev w = c at hk hclk hg ⊢
  exact ⟨hk.onClk f, (hf c.clk).trans (by rw [hclk]), fun g h => (onClk_rd f g).trans (hg g h)⟩

/-- A failure of XO outside start-up, as its parts. -/
theorem doXoFailure_eq (stopped : Bool) (w : ClkWindow) (hp : b.powered .fabric = true) (hx : b.on R.CLK_STAT_XOOK = true)
    (h3 : b.pwr.step ≠ 3) (hf : (stopped || !xoGood w) = true) : ∃ c : Blk, ClkKept b c ∧ c.clk.fbLost = b.clk.fbLost ∧
    (∀ g : Fld, g.off ≠ 0x1010 → c.rd g = b.rd g) ∧
    b.doXoFailure stopped w = if stopped = false ∧ c.flintAVote w = true then c.haspDemand 7 else c.xoFailed 1 stopped := by
  obtain ⟨hk, hl, hg⟩ := window_shown b w (fun c => { c with xoAge := 0 }) fun _ => rfl
  refine ⟨_, hk, hl, hg, ?_⟩
  unfold Blk.doXoFailure
  dsimp only
  rw [hf, if_pos rfl]
  generalize (b.showWindowDev w).onClk (fun c => { c with xoAge := 0 }) = c at hk hl hg ⊢
  have hpow : c.powered .fabric = true := (congrArg (· != 0) (hg (bitOf R.PWR_DOMSTAT_ON Dom.fabric.bit) (by decide))).trans hp
  have hxo : c.on R.CLK_STAT_XOOK = true := (congrArg (· != 0) (hg _ (by decide))).trans hx
  rw [if_neg (by rw [hk.pwr]; exact fun h => h3 h.1), if_neg (by rw [hpow, hxo]; decide)]

theorem toFlintB_failed (cause : Nat) (stopped : Bool) (hr : b.rd R.CLK_STAT_REFSEL = 0) (hf : b.on R.CLK_STAT_FBOK = true)
    (hl : b.clk.fbLost = false) : (b.xoFailed cause stopped).on R.CLK_STAT_XOOK = false ∧
    (b.xoFailed cause stopped).rd R.CLK_STAT_REFSEL = 1 ∧ (b.xoFailed cause stopped).on R.CLK_STAT_HOLD = true ∧
    (stopped = true → (b.xoFailed cause stopped).on R.CLK_STAT_FORCED = true) ∧
    (stopped = false → (b.xoFailed cause stopped).on R.CLK_STAT_FORCED = b.on R.CLK_STAT_FORCED) ∧
    (b.xoFailed cause stopped).rd R.CLK_STAT_BOUND = 50 ∧
    (b.xoFailed cause stopped).rd R.CLK_CNT_XOF = min (b.rd R.CLK_CNT_XOF + 1) R.CLK_CNT_XOF.top ∧
    Reported (b.xoFailed cause stopped) 0x0215 0 := by
  obtain ⟨c, heq, hx, hfor, hcnt⟩ := xoFailed_toB cause stopped hr hf hl
  obtain ⟨-, href, hhold, hbound, hrep, hforced, hkept, hg⟩ := toFlintB_shows (b := c) cause stopped
  rw [heq]
  exact ⟨(congrArg (· != 0) (hg R.CLK_STAT_XOOK (.inl ⟨rfl, by decide, by decide⟩))).trans hx, href, hhold, hforced,
    fun h => (hkept h).trans hfor, hbound, (hg R.CLK_CNT_XOF (.inr ⟨rfl, by decide⟩)).trans hcnt, hrep⟩

theorem doXoFailure_toA (w : ClkWindow) (hp : b.powered .fabric = true) (hx : b.on R.CLK_STAT_XOOK = true)
    (h3 : b.pwr.step ≠ 3) (hr : b.rd R.CLK_STAT_REFSEL = 0) (hf : b.on R.CLK_STAT_FBOK = false ∨ b.clk.fbLost = true)
    (hs : b.standbyReady = false) : (b.doXoFailure true w).rd R.CLK_STAT_REFSEL = 2 ∧
    (b.doXoFailure true w).on R.CLK_STAT_XOOK = false ∧ (b.doXoFailure true w).rd R.CLK_STAT_BOUND = 511 ∧
    Reported (b.doXoFailure true w) 0x0317 0 := by
  obtain ⟨c, hk, hl, hg, heq⟩ := doXoFailure_eq true w hp hx h3 rfl
  have hbad : c.on R.CLK_STAT_FBOK = false ∨ c.clk.fbLost = true := by
    rw [hl, Blk.on, hg R.CLK_STAT_FBOK (by decide)]
    exact hf
  obtain ⟨d, hd, hkd, hxd⟩ := xoFailed_toA (b := c) 1 true ((hg _ (by decide)).trans hr) hbad
  obtain ⟨href, -, hbound, hrep, hxo⟩ := toFlintA_shows (b := d) true (hkd.standby.trans (hk.standby.trans hs))
  rw [heq, if_neg fun h => Bool.false_ne_true h.1.symm, hd]
  exact ⟨href, hxo.trans hxd, hbound, hrep⟩

/-! Flint-B (R501, R502). -/

theorem doFlintbFailure_toA {x : FlintSeen} (hp : b.powered .fabric = true) (hr : b.rd R.CLK_STAT_REFSEL = 1)
    (hx : x.stopped = true ∨ x.count < 485 ∨ 515 < x.count) (hs : b.standbyReady = false) :
    ∃ c : Blk, b.doFlintbFailure x = c.toFlintA x.stopped ∧ c.standbyReady = false := by
  have hdev : ∀ c, c = (if b.powered .safe then b.wrS R.CLK_MON_FBDEV ((Int.ofNat x.count - 500) * 20) else b) →
      ClkKept b c ∧ ∀ g : Fld, g.off ≠ 0x1010 → c.rd g = b.rd g := by
    rintro _ rfl
    split_ifs
    · exact ⟨(clkKept_refl b).wr R.CLK_MON_FBDEV _ (by decide), fun g hg => Blk.rd_wr_off _ _ _ _ hg⟩
    · exact ⟨clkKept_refl b, fun _ _ => rfl⟩
  obtain ⟨hk, hg⟩ := hdev _ rfl
  unfold Blk.doFlintbFailure
  dsimp only
  generalize (if b.powered .safe then b.wrS R.CLK_MON_FBDEV ((Int.ofNat x.count - 500) * 20) else b) = c at hk hg ⊢
  have hpow : c.powered .fabric = true := (congrArg (· != 0) (hg (bitOf R.PWR_DOMSTAT_ON Dom.fabric.bit) (by decide))).trans hp
  exact ⟨c, if_pos ⟨hpow, (hg _ (by decide)).trans hr, hx⟩, hk.standby.trans hs⟩

theorem doSpareLost_lost (hp : b.powered .fabric = true) (hr : b.rd R.CLK_STAT_REFSEL = 0) (hl : b.clk.fbLost = false) :
    b.doSpareLost.clk.fbLost = true ∧ b.doSpareLost.on R.WARD_SPARE_XO = false ∧ Reported b.doSpareLost 0x0216 0 := by
  unfold Blk.doSpareLost
  rw [if_pos ⟨hp, hr, hl⟩]
  dsimp only
  generalize (if Config.freeNat b.free.1 % 2 = 0 then b.free.2.flag R.CLK_STAT_FBOK false else b.free.2) = c
  have hlost : (c.onClk fun c => { c with fbLost := true }).clk.fbLost = true := rfl
  generalize (c.onClk fun c => { c with fbLost := true }) = d at hlost ⊢
  have hoff : (d.flag R.WARD_SPARE_XO false).on R.WARD_SPARE_XO = false := Blk.on_flag_self _ _ _ inWord_of rfl
  have hclk : (d.flag R.WARD_SPARE_XO false).clk = d.clk := Blk.flag_clk ..
  generalize d.flag R.WARD_SPARE_XO false = e at hoff hclk ⊢
  exact ⟨by rw [Blk.raise_clk, hclk]; exact hlost, (Blk.raise_on _ _ _ _ _ (by decide)).trans hoff, e.raise_self _ _ _⟩

/-! The return to XO and the bound (R499, R503). -/

theorem doXoReturn_returns (hp : b.powered .fabric = true) (hh : b.on R.CLK_STAT_HOLD = true) :
    (b.doXoReturn true).rd R.CLK_STAT_REFSEL = 0 ∧ (b.doXoReturn true).on R.CLK_STAT_HOLD = false ∧
    (b.doXoReturn true).on R.CLK_STAT_XOOK = true ∧ (b.doXoReturn true).rd R.CLK_STAT_BOUND = 0 ∧
    (b.doXoReturn true).rd R.CLK_HOLD_SEC = 0 ∧ Reported (b.doXoReturn true) 0x0010 0 := by
  unfold Blk.doXoReturn
  rw [if_pos ⟨hp, hh, rfl⟩]
  dsimp only
  have h1 : (b.wr R.CLK_STAT_REFSEL 0).rd R.CLK_STAT_REFSEL = 0 := Blk.rd_wr_self _ _ _ inWord_of
  generalize b.wr R.CLK_STAT_REFSEL 0 = c at h1 ⊢
  have h2 : (c.flag R.CLK_STAT_HOLD false).rd R.CLK_STAT_HOLD = 0 := Blk.rd_wr_self _ _ _ inWord_of
  have h2' : (c.flag R.CLK_STAT_HOLD false).rd R.CLK_STAT_REFSEL = 0 := (Blk.rd_wr_apart _ _ _ _ inWord_of apart_by).trans h1
  generalize c.flag R.CLK_STAT_HOLD false = d at h2 h2' ⊢
  have h3 : (d.flag R.CLK_STAT_XOOK true).rd R.CLK_STAT_XOOK = 1 := Blk.rd_wr_self _ _ _ inWord_of
  have h3' : ∀ g, R.CLK_STAT_XOOK.apart g → (d.flag R.CLK_STAT_XOOK true).rd g = d.rd g := fun g hg =>
    Blk.rd_wr_apart _ _ _ _ inWord_of hg
  generalize d.flag R.CLK_STAT_XOOK true = e at h3 h3' ⊢
  have h4 : ∀ g : Fld, g.off ≠ 0x1014 → ((e.wr R.CLK_HOLD_SEC 0).wr R.CLK_HOLD_DTMAX 0).rd g = e.rd g := fun g hg =>
    (Blk.rd_wr_off _ _ _ _ hg).trans (Blk.rd_wr_off _ _ _ _ hg)
  have h4' : ((e.wr R.CLK_HOLD_SEC 0).wr R.CLK_HOLD_DTMAX 0).rd R.CLK_HOLD_SEC = 0 :=
    (Blk.rd_wr_apart _ _ _ _ inWord_of apart_by).trans (Blk.rd_wr_self _ _ _ inWord_of)
  generalize (e.wr R.CLK_HOLD_SEC 0).wr R.CLK_HOLD_DTMAX 0 = u at h4 h4' ⊢
  obtain ⟨-, hb, h5⟩ := showBound_shows (b := u) (v := 0) (by decide)
  generalize u.showBound 0 = w at hb h5 ⊢
  have h6 : ∀ (f : Clk → Clk) (v : Bool) (g : Fld), g.off ≠ 0x1202C → ((w.onClk f).flag R.WARD_SPARE_XO v).rd g = w.rd g :=
    fun f v g hg => (Blk.rd_wr_off _ _ _ _ hg).trans (onClk_rd f g)
  have hlast : ∀ (f : Clk → Clk) (v : Bool) (g : Fld), g.off < 0x2000 →
      (((w.onClk f).flag R.WARD_SPARE_XO v).raise 0x0010 0 []).rd g = w.rd g := fun f v g hg =>
    (Blk.raise_rd _ _ _ _ _ (Nat.ne_of_lt (lt_trans hg (by decide)))).trans (h6 f v g (Nat.ne_of_lt (lt_trans hg (by decide))))
  have hstat : ∀ g : Fld, g.off = 0x1000 → R.CLK_STAT_BOUND.apart g → w.rd g = e.rd g := fun g ho ha =>
    (h5 g (by rw [ho]; decide) (.inr ha)).trans (h4 g (by rw [ho]; decide))
  refine ⟨?_, ?_, ?_, ?_, ?_, Blk.raise_self _ _ _ _⟩
  · rw [hlast _ _ _ (by decide), hstat _ rfl apart_by, h3' _ apart_by, h2']
  · rw [Blk.on, hlast _ _ _ (by decide), hstat _ rfl apart_by, h3' _ apart_by, h2]
    rfl
  · rw [Blk.on, hlast _ _ _ (by decide), hstat _ rfl apart_by, h3]
    rfl
  · rw [hlast _ _ _ (by decide), hb]
  · rw [hlast _ _ _ (by decide), h5 _ (by decide) (.inl (by decide)), h4']

theorem doBoundLost_shows (hh : b.on R.CLK_STAT_HOLD = true) (hs : 86400 ≤ b.rd R.CLK_HOLD_SEC) :
    b.doBoundLost.rd R.CLK_STAT_BOUND = 511 ∧
      ((b.showBound 511).clk.told = false → b.doBoundLost.clk.told = true ∧ Reported b.doBoundLost 0x0114 0) := by
  obtain ⟨-, hb, -⟩ := showBound_shows (b := b) (v := 511) (by decide)
  unfold Blk.doBoundLost Blk.boundLost
  rw [if_pos ⟨hh, hs⟩]
  dsimp only
  generalize b.showBound 511 = c at hb ⊢
  split_ifs with ht
  · exact ⟨hb, fun h => absurd (h.symm.trans ht) Bool.false_ne_true⟩
  · have htold : (c.onClk fun c => { c with told := true }).clk.told = true := rfl
    have hrd := onClk_rd (b := c) fun c => { c with told := true }
    generalize (c.onClk fun c => { c with told := true }) = d at htold hrd ⊢
    exact ⟨(Blk.raise_rd _ _ _ _ _ (by decide)).trans ((hrd _).trans hb),
      fun _ => ⟨by rw [Blk.raise_clk]; exact htold, d.raise_self _ _ _⟩⟩

/-- What register writes, reports and the notes about a port keep, a change of BOUND keeps. -/
theorem showBound_keeps {P : Blk → Prop} (hw : ∀ c f v, P c → P (Blk.wr c f v))
    (hr : ∀ c code src i, P c → P (Blk.raise c code src i)) (hl : ∀ c p f, P c → P (Blk.onLodePort c p f)) (h : P b) (v : Nat) :
    P (b.showBound v) := by
  unfold Blk.showBound
  split_ifs
  · exact h
  · refine each_keeps (P := P) 2 (fun p c hc => ?_) (hw _ _ _ h)
    split_ifs
    · exact hc
    · exact hl _ _ _ hc
    · unfold Blk.portPpm
      dsimp only
      split_ifs
      · exact hw _ (R.LODE_Pk_STAT_PPM p) _ (hw _ (R.LODE_Pk_STAT_OFS p) _ hc)
      · exact hr _ _ _ _ (hl _ _ _ (hw _ (R.LODE_Pk_STAT_PPM p) _ (hw _ (R.LODE_Pk_STAT_OFS p) _ hc)))
      · exact hl _ _ _ (hw _ (R.LODE_Pk_STAT_OFS p) _ hc)

/-- BOUND follows beside the state of the clocks. -/
theorem showBound_clk (v : Nat) : (b.showBound v).clk = b.clk :=
  showBound_keeps (P := fun c => c.clk = b.clk) (fun _ _ _ h => (Blk.wr_clk ..).trans h)
    (fun _ _ _ _ h => (Blk.raise_clk ..).trans h) (fun _ _ _ h => h) rfl v

end

/-- Settles O38: the references of the clocks and what their loss and return show. -/
theorem clockReferences : Obligations.ClockReferences := by
  refine ⟨fun s p hp h => yields_within rfl hp (doRefLost_holds h),
    fun s p hp h h3 hn hs => yields_within rfl hp (doRelocked_locks h h3 hn hs), fun s w hp hx h3 hr hf hl => ?stopped,
    fun s w hp hx h3 hr hf hs => ⟨_, rfl, doXoFailure_toA w hp hx h3 hr hf hs⟩, fun s w hp hx h3 hg hv hs => ?vote,
    fun s n hp hx hr hd ht hf hl => ?drift, fun s x hp hr hx hs => ?flint,
    fun s hp hr hl => ⟨_, rfl, doSpareLost_lost hp hr hl⟩, fun s hp hh => ⟨_, rfl, doXoReturn_returns hp hh⟩,
    fun s => yields_onBlk rfl (if_neg fun h => Bool.false_ne_true h.2.2) rfl, fun s hp hh hs => yields_within rfl hp ?bound⟩
  case stopped =>
    obtain ⟨c, hk, hlc, hg, heq⟩ := doXoFailure_eq true w hp hx h3 rfl
    obtain ⟨hxo, href, hhold, hfor, -, hbound, hcnt, hrep⟩ := toFlintB_failed (b := c) 1 true ((hg _ (by decide)).trans hr)
      ((congrArg (· != 0) (hg R.CLK_STAT_FBOK (by decide))).trans hf) (hlc.trans hl)
    refine yields_onBlk rfl (heq.trans (if_neg fun h => Bool.false_ne_true h.1.symm)) ⟨hxo, href, hhold, hfor rfl, hbound, ?_, hrep⟩
    rw [← hg R.CLK_CNT_XOF (by decide)]
    exact hcnt
  case vote =>
    obtain ⟨c, hk, -, hg', heq⟩ := doXoFailure_eq false w hp hx h3 (by rw [hg]; rfl)
    have hvote : c.flintAVote w = true := by
      refine Eq.trans ?_ hv
      rw [Blk.flintAVote, Blk.flintAVote, Blk.on, Blk.on, hg' R.CLK_STAT_FBOK (by decide)]
    obtain ⟨hst, -, hman⟩ := haspDemand_latches (b := c) 7 (hk.standby.trans hs)
    exact yields_onBlk rfl (heq.trans (if_pos ⟨rfl, hvote⟩)) ⟨hst, hman⟩
  case drift =>
    obtain ⟨hxo, href, -, -, hfor, -, -, hrep⟩ := toFlintB_failed (b := s.blk.onClk fun c => { c with drift := false }) 2 false
      hr hf hl
    exact yields_onBlk rfl (if_pos ⟨hp, hx, hr, hd, ht⟩) ⟨href, hxo, hfor rfl, hrep⟩
  case flint =>
    obtain ⟨c, heq, hsc⟩ := doFlintbFailure_toA hp hr hx hs
    obtain ⟨href, hfb, hbound, hrep, -⟩ := toFlintA_shows (b := c) x.stopped hsc
    exact yields_onBlk rfl heq ⟨href, hfb, hbound, hrep⟩
  case bound =>
    obtain ⟨hb, ht⟩ := doBoundLost_shows hh hs
    exact ⟨hb, fun h => ht (by rw [showBound_clk]; exact h)⟩

end Sys2Proof.Machine
end
